-- ==== Sys2Proof/Word.lean ====
section
/-!
DEFINITION. Words, indices and the plain operand records of the AV-1024 block: what a command of
spec/opcode_table.json carries. Quantities that the manual computes in exact arithmetic before it
rounds them are rationals; what software sees as a word is a bit vector.
-/

namespace Sys2Proof

/-- A byte (8 bits). -/
abbrev Byte := BitVec 8
/-- A polder program's 16-bit word (13_ohmore_model R331). -/
abbrev Word := BitVec 16
/-- A polder number 0–7 (12_polders R306). -/
abbrev Polder := Fin 8
/-- A sample port, or an antenna, or a lane of a port, or an event pin (02_sample_ports R26). -/
abbrev Port := Fin 4
/-- A band B1, B2, B5, B6 in that order (00_scope, Names). -/
abbrev Band := Fin 4
/-- A search lane of the acquisition engine (04_acquisition R91). -/
abbrev SearchLane := Fin 16
/-- A tracking channel 0–1,535 (05_tracking R97). -/
abbrev TrkChan := Fin 1536
/-- A receive channel of the tag link (10_tag_link R249). -/
abbrev LinkChan := Fin 8

/-- A power domain of Table 15-2 (15_power R373). -/
inductive Domain where
  | aon | time | com | clk | nvm
  | spt (n : Fin 4)
  | gfr
  | trk (n : Fin 4)
  | msr | sol | snf | lnk | cry | hst | obs
  | pld (n : Fin 8)
  deriving DecidableEq, Repr

/-- A PLL of Table 16-1 (16_clocks R399), and the bit of `CLK.STATUS` that reports its lock. -/
inductive Pll where
  | a | b | c | d
  deriving DecidableEq, Repr

/-- A time comparator of the drift vote: GNSS, EXT or the oscillator model (09_sky_time R231). -/
inductive Comparator where
  | gnss | ext | model
  deriving DecidableEq, Repr

/-- A filter of the solver (07_solver R156). -/
inductive Filter where
  | standalone | precise | attitude | integrity
  deriving DecidableEq, Repr

/-- A constellation, in the order of the CONST mask of Table 05-8. -/
inductive Constellation where
  | gps | galileo | beidou | glonass | qzss | navic | sbas
  deriving DecidableEq, Repr

/-- A satellite: constellation and number 1–63 (Table 06-8). -/
structure SatId where
  const : Constellation
  sv    : Nat
  deriving DecidableEq, Repr

/-- A complex number over the rationals. -/
structure Cplx where
  re : Rat
  im : Rat
  deriving DecidableEq, Repr

/-- A vector of three components (a direction, a baseline in mm). -/
structure Vec3 where
  x : Rat
  y : Rat
  z : Rat
  deriving DecidableEq, Repr, Inhabited

/-- What acquisition searches for: a signal index of Table 04-1, a satellite and a GLONASS frequency number plus 7. -/
structure SearchTarget where
  sig : Nat
  sat : SatId
  fcn : Nat
  deriving DecidableEq, Repr

/-- One signal of a calibration update (03_array R65, R66), as the correlators give it over the period: the sum of P_k·conj(P_ref), and the code single
difference of the antenna against the reference in ns. -/
structure CalSignal where
  target : SearchTarget
  acc    : Cplx
  codeNs : Rat
  deriving DecidableEq, Repr

/-- One signal of the angle-of-arrival measurement of a second (03_array R67): its accumulation C_k per antenna, none where the correlators of an antenna have
none. -/
structure AoaSignal where
  target : SearchTarget
  acc    : List (Option Cplx)
  deriving DecidableEq, Repr

/-- One coherent interval of a search step (04_acquisition R76, R80): its samples and those of them that are flagged, and for each cell of the step the sum of
sample × replica, flagged samples entering as 0. -/
structure AcqInterval where
  samples : Nat
  flagged : Nat
  cells   : List Cplx
  deriving DecidableEq, Repr

/-- The correlator outputs of one dump (05_tracking R101, R106): samples and flagged samples of the dump, the eight complex taps in the order of Table 05-2, and
the per-symbol pilot and data prompts (R110). -/
structure DumpData where
  samples   : Nat
  flagged   : Nat
  taps      : List Cplx
  symbols   : List (Cplx × Cplx)
  deriving DecidableEq, Repr

/-- What the fields of a navigation unit say, as the interface documents lay them out (06_measurements R144, R145, 07_solver R161–R164): the transmit time its time
fields fix, in seconds of the constellation's receiver time, and the same in GPS time without roll-over (09_sky_time R221); an issue of ephemeris that is now whole, with the ST
seconds of its fit interval and its bits; health, of a signal or of the whole satellite (none), true for unhealthy; almanacs; the leap-second count; the broadcast offset of the
constellation's system time from GPS time in s; and the coefficients of the GPS ionosphere model. -/
structure NavContent where
  txTime  : Option Rat := none
  gpsTime : Option Rat := none
  issue   : Option (Nat × Nat × Nat × List Bool) := none
  health  : List (Option Nat × Bool) := []
  almanac : List (SatId × List Bool) := []
  leap    : Option Nat := none
  offset  : Option Rat := none
  iono    : Option (List Rat) := none
  deriving DecidableEq, Repr

/-- One navigation unit as its FEC decoder leaves it (06_measurements Table 06-4): its bits as received, an LNAV subframe with the two bits before it, D1 and D2 subframes still
interleaved, tail bits left out; whether BCH(51,8) or LDPC corrected; the sign of its preamble, sync pattern or D30* (true: inverted); ST of its first symbol; and what its fields
say. -/
structure NavUnit where
  bits     : List Bool
  fec      : Bool
  inverted : Option Bool
  stFirst  : Nat
  content  : NavContent
  deriving DecidableEq, Repr

/-- A position: latitude and longitude in 10⁻⁹ degrees, height in mm (Table 07-9). -/
structure Position where
  lat : Int
  lon : Int
  hgt : Int
  deriving DecidableEq, Repr

/-- What the store and the position predict of a satellite (03_array R54, 04_acquisition R83, 05_tracking R107, 06_measurements R144, 07_solver Table 07-13):
elevation and azimuth in degrees, Doppler at L1 in Hz, range in m, the satellite's clock offset in s, and whether ephemeris rather than almanac gives it. -/
structure SatView where
  sat   : SatId
  elev  : Rat
  az    : Rat
  dop   : Rat
  range : Rat
  clk   : Rat
  eph   : Bool
  deriving DecidableEq, Repr

/-- A position solution as published (07_solver R163, R169, Table 07-9): position of REF, velocity in mm/s and whether it stands, 95 % figures in mm and mm/s, the 1σ velocity in
cm/s, and the 1σ east, north and up errors in m. -/
structure Solution where
  pos      : Position
  ve       : Int
  vn       : Int
  vu       : Int
  velOk    : Bool
  h95      : Nat
  v95      : Nat
  vel95    : Nat
  sigV     : Rat
  sigE     : Rat
  sigN     : Rat
  sigU     : Rat
  deriving DecidableEq, Repr

/-- A time solution (07_solver R164): mapped ST minus GPS time in 2⁻³² s, 1σ in 0.01 ns, drift in 10⁻¹² s/s. -/
structure ClockSolution where
  offset  : Int
  sigma   : Nat
  drift   : Int
  deriving DecidableEq, Repr

/-- The numbers of a filter (07_solver R163, R166): its states in SI units and cycles, and their covariance. -/
structure Filt where
  x : List Rat
  p : List (List Rat)
  deriving DecidableEq, Repr, Inhabited

/-- What a row of an update is of. -/
inductive ObsKind where
  | code | phase | doppler | pseudo
  deriving DecidableEq, Repr

/-- One row of a filter update (07_solver R158–R168): kind, satellite, signal, partial derivatives by state, observed minus modelled value and variance. -/
structure ObsRow where
  kind : ObsKind
  sat  : Option SatId
  sig  : Nat
  h    : List (Nat × Rat)
  res  : Rat
  var  : Rat
  deriving DecidableEq, Repr

/-- The header of a frame at sync detection on a receive channel (10_tag_link R253–R255). -/
structure SyncFrame where
  syncErrs : Nat
  header   : BitVec 80
  afc      : Int
  rssi     : Int
  deriving DecidableEq, Repr

/-- A character as the line shows it (18_host_ports R437, R440): its data bits, and the ticks of its falling edges from its start on, which autobaud measures. -/
structure LineChar where
  /-- Data bits. -/
  data : BitVec 9
  /-- Falling edges. -/
  falls : List Nat
  deriving DecidableEq, Repr

/-- A write that the I²C target takes (18_host_ports R453): its data bytes, and whether a STOP ends it. -/
structure I2cTransfer where
  /-- Data bytes. -/
  bytes : List Byte
  /-- STOP. -/
  stop : Bool
  deriving DecidableEq, Repr

end Sys2Proof
end

