-- ==== Sys2Proof/Syntax.lean ====
section
/-!
DEFINITION. The commands of the AV-1024 block: one constructor for each row of spec/opcode_table.json, with the data
that the command brings from outside (a pin level, a received character, the outcome of an analogue or numeric unit).
A core instruction (LDA to FETCH_VOID) is the command "polder p's core executes the instruction at P, which is one of
this mnemonic"; its operand bytes are those in the polder's memory.
-/

namespace Sys2Proof

/-- A command of the block, one constructor per row of spec/opcode_table.json. -/
inductive Instr where
  /-- VIN_THRESHOLD_RISE (R371). VIN rises above 2.95 V and the PMU starts the I/O, analogue and core rails in sequence. -/
  | vinThresholdRise
  /-- BROWNOUT (R372). VIN below 2.85 V for 10 µs resets every domain except AON, as RESET_N low does. -/
  | brownout
  /-- VIN_LOSS (R372). VIN falls below 2.0 V and the always-on domain loses its state, fuel-gauge count and anchor included. -/
  | vinLoss
  /-- RESET_N_ASSERT (R476). RESET_N held low for at least t_RSTW resets the device. -/
  | resetNAssert (ns : Nat)
  /-- RESET_N_RELEASE (R476). RESET_N rises; TEST_N is sampled and either test mode or boot begins. -/
  | resetNRelease (testN : Bool)
  /-- REFERENCE_DETECTION (R396). After 1 ms of counting REFIN edges on the boot oscillator, the device picks the reference frequency or goes to the fallback path. -/
  | referenceDetection (edges : Nat)
  /-- BOOT_PLL_LOCK (R402). LKA, LKB and LKC have all declared lock, so boot goes on to the image read and the tick counter starts. -/
  | bootPllLock
  /-- T_BOOTWAIT_EXPIRY (R402). A boot PLL has not declared lock within t_BOOTWAIT, so boot continues on the fallback clock path. -/
  | tBootwaitExpiry
  /-- HEADER_READ (R414). After t_NVRST, the loader reads image bytes 0–127 in 1-1-1 and checks the header. -/
  | headerRead (answers : Bool) (bytes : List Byte)
  /-- ENTRY_SEND (R415). The loader sends one used ENTRY_k command and then waits 50 µs. -/
  | entrySend (k : Fin 4)
  /-- HEADER_REREAD (R416). The loader re-reads bytes 0–127 in the image's mode and compares them with the first read. -/
  | headerReread (bytes : List Byte)
  /-- IMAGE_READ_DONE (R416). The image read ends; NV_CS_N rises and the NVM domain goes off. -/
  | imageReadDone (bytes : List Byte) (dqsStall : Bool)
  /-- FALLBACK_IMAGE_READ (R417). On the fallback path, the whole image is read in 1-1-1 SDR at the reference divided by 2. -/
  | fallbackImageRead (answers : Bool) (bytes : List Byte)
  /-- COMMON_VERIFICATION (R427). Verification steps 1–11 of the common part complete, and any failure leads to SAFE. -/
  | commonVerification
  /-- CONFIGURATION_STEP (R429). The loader copies the polder segments, clears the staging partitions, applies the blocks and powers the domains of COLD. -/
  | configurationStep
  /-- SAFE_RECORD (R432). One copy of the SAFE status record is sent on HU_TX; after the third copy, every domain except AON goes off. -/
  | safeRecord
  /-- MODE_RULE_CHECK (R24). The mode rules are evaluated in index order, the dwell count is updated, and TARGET may change. -/
  | modeRuleCheck
  /-- MODE_TRANSITION (R23). At the 2.5 ms slot boundary after a decision, the new mode takes effect, BASIN.MODE is written and a Class 1 record is emitted. -/
  | modeTransition
  /-- HOLD_ENTER (R21). GNSS has been unusable continuously for HOLD_ENTER s, so HOLDOVER is decided. -/
  | holdEnter
  /-- HOLD_EXIT (R21). GNSS has been usable continuously for HOLD_EXIT s, so leaving HOLDOVER is decided. -/
  | holdExit
  /-- SURVEY_MAX (R21). SURVEY_MAX has elapsed since SURVEY entry, so FULL is decided with SURVEY_EXIT = 2. -/
  | surveyMax
  /-- VBAT_RESUME (R381). In the off state, the AON comparator sees VBAT_SNS at or above VRES and starts a full boot. -/
  | vbatResume (vbat : Nat)
  /-- LAYUP_FIX_START (R488). At a whole multiple of LAYUP_FIX seconds, a LAYUP fix starts with the GNSS resources of THIN. -/
  | layupFixStart
  /-- LAYUP_FIX_TIMEOUT (R488). A LAYUP fix with no valid standalone PVT within 60 s fails and ends. -/
  | layupFixTimeout
  /-- LAYUP_FIX_END (R488). A successful fix ends after its epoch and basin records have left, and this may end LAYUP. -/
  | layupFixEnd
  /-- FRAME_WORD (R28). A sample port receives one frame word per lane and flags each sample. -/
  | frameWord (port : Port) (fsOk : Bool) (w0 : Byte) (w1 : Byte) (w2 : Byte) (w3 : Byte)
  /-- SYNC_LOST (R29). SPn_FS has been absent or wrongly spaced for 2 consecutive words, so the port mutes all four lanes. -/
  | syncLost (port : Port)
  /-- SYNC_REGAIN (R29). After 8 correctly spaced SPn_FS pulses, the port regains sync and aligns by block timestamps. -/
  | syncRegain (port : Port)
  /-- GUARD_WINDOW (R41). A lane's window of 65,536 words ends and is tested against the guard checks. -/
  | guardWindow (port : Port) (lane : Port)
  /-- SAMPLE_PORT_TRIGGER (R32). SYNC_N is driven low, and the ports restart their word sequences with a muted gap. -/
  | samplePortTrigger
  /-- FEINIT_ENTRY (R43). One front-end init entry is sent over SPI, read back when READ = 1, and then DELAY is awaited. -/
  | feinitEntry (rx : BitVec 32)
  /-- GAIN_LOOP_MS (R46). At each stream millisecond, p is evaluated for a lane and the gain loop may request a step. -/
  | gainLoopMs (port : Port) (lane : Port)
  /-- FIXED_RETURN_STEP (R47). During an episode, after 1 s inside the envelope, one index is stepped toward FIX_INDEX every 100 ms. -/
  | fixedReturnStep (port : Port) (lane : Port)
  /-- GAIN_STEP (R44). A gain step SPI word lands GAIN_LAT before a stream millisecond boundary and is recorded in the stream. -/
  | gainStep (port : Port)
  /-- GAIN_UNALIGNED (R45). A step that found no boundary within 2 ms is sent as soon as the bus is free. -/
  | gainUnaligned (port : Port)
  /-- BH_TX_RISE (R48). A rising edge of BH_TX starts blanking on each lane with BLANK = 1. -/
  | bhTxRise
  /-- BH_TX_FALL (R48). A falling edge of BH_TX starts the BLANK_TAIL countdown. -/
  | bhTxFall
  /-- BLANK_TAIL_END (R48). BLANK_TAIL has passed after the falling edge, so blanking ends. -/
  | blankTailEnd
  /-- NULL_WEIGHT_UPDATE (R58). At a stream millisecond boundary, covariance and eigenvalues are updated and new combining weights are set per band. -/
  | nullWeightUpdate (band : Band) (valid : Nat) (total : Nat) (cov : List (List Cplx))
  /-- QUIET_REFERENCE_INIT (R59). After 1,000 evaluated milliseconds, a band's quiet reference Q is initialised. -/
  | quietReferenceInit (band : Band)
  /-- JAM_LEVEL_CHANGE (R61). A run of raw levels reaches JAM_PERSIST or JAM_CLEAR × 10, so the published level changes and a record is emitted. -/
  | jamLevelChange (band : Band)
  /-- CAL_UPDATE (R65). Every CAL_PERIOD, the phase offset, delay and phase-centre offset of each antenna and band are updated. -/
  | calUpdate (ant : Port) (band : Band) (sigs : List CalSignal)
  /-- AOA_MEASURE (R68). At each whole ST second, angles of arrival are measured for the qualifying signals. -/
  | aoaMeasure (sigs : List AoaSignal)
  /-- SPOOF_EVAL (R70). Tests S1 and S2 give a dirty, clean or unavailable outcome for the second. What it works on stands in State: its operands carry nothing (log entry 130). -/
  | spoofEval (preds : Unit)
  /-- SPOOF_RAISE (R71). PERSIST consecutive dirty evaluations raise the spoofing alarm with a Class 0 record. -/
  | spoofRaise
  /-- SPOOF_CLEAR (R71). CLEAR consecutive clean evaluations clear the spoofing alarm. -/
  | spoofClear
  /-- SPOOF_RELEASE_UNVERIFIED (R71). HOLD × 10 unavailable evaluations release an active alarm as cleared unverified. -/
  | spoofReleaseUnverified
  /-- ACQ_TASK_START (R91). A waiting search task with a reserved channel takes the next free lane in priority order. -/
  | acqTaskStart (offers : List SearchTarget)
  /-- ACQ_RECORD_COMPLETE (R79). A replay record of the dwell is complete in the record pool. -/
  | acqRecordComplete (lane : SearchLane)
  /-- ACQ_STEP (R76). A step completes and its groups are tested for a hit, cross-correlation or a void step. -/
  | acqStep (lane : SearchLane) (ivs : List AcqInterval)
  /-- ACQ_VERIFY (R89). A verification dwell completes and passes or fails, the second pass refining code and frequency. -/
  | acqVerify (lane : SearchLane) (ivs : List AcqInterval)
  /-- HANDOVER (R90). A verified signal is handed to its reserved tracking channel within t_HAND. -/
  | handover (lane : SearchLane)
  /-- TRACK_DUMP (R106). At the end of a dump, the channel updates its loops, discriminators and state. -/
  | trackDump (ch : TrkChan) (d : DumpData)
  /-- COAST_EXPIRY (R99). A channel that has coasted beyond COAST goes to LOST. -/
  | coastExpiry (ch : TrkChan)
  /-- PULL_FAIL (R104). A channel that has not left PULL within 2 s goes to IDLE. -/
  | pullFail (ch : TrkChan)
  /-- LOSS_T_EXPIRY (R104). C/N0 has stayed below LOSS_CN0 for LOSS_T s, so the channel goes to LOST. -/
  | lossTExpiry (ch : TrkChan)
  /-- REACQ_EXPIRY (R104). A LOST channel whose REACQ_S has elapsed goes to IDLE. -/
  | reacqExpiry (ch : TrkChan)
  /-- WEAK_SWITCH (R105). After 2 s on one side of WEAK_CN0, a channel in LOCK switches between weak and strong settings. -/
  | weakSwitch (ch : TrkChan)
  /-- FREQ_RECOVERY (R104). After 2 s with C/N0 at or above WEAK_CN0 + WEAK_HYST, a FREQ channel returns to TRACK. -/
  | freqRecovery (ch : TrkChan)
  /-- CN0_UPDATE (R115). A C/N0 window fills and a new C/N0 value is computed. -/
  | cn0Update (ch : TrkChan)
  /-- ARRAY_SPAWN (R121). ARRAY channels are spawned for a locked signal, one per active antenna. -/
  | arraySpawn (ch : TrkChan)
  /-- BEAM_TAKEOVER (R127). A beam channel starts in TRACK from a weak NAV channel's state. -/
  | beamTakeover (ch : TrkChan)
  /-- BEAM_TIMEOUT (R127). A beam channel that has not reached LOCK within 2 s is released. -/
  | beamTimeout (ch : TrkChan)
  /-- BEAM_RETURN (R125). After the beam conditions have held for 10 s, the channel returns to beam weights. -/
  | beamReturn (ch : TrkChan)
  /-- MEASUREMENT_EPOCH (R132). At an ST epoch, the latches are read and the epoch record is formed, written and exported. -/
  | measurementEpoch
  /-- STATION_MESSAGES (R151). Every STN_PERIOD seconds, messages 1006, 1033 and 1230 are emitted. -/
  | stationMessages
  /-- NAV_CHECK_UNIT (R143). A navigation check unit is decoded and checked, and its navigation record is written. -/
  | navCheckUnit (ch : TrkChan) (u : NavUnit)
  /-- SYMBOL_RECORD (R145). One second of soft symbols is emitted as a symbol record. -/
  | symbolRecord (ch : TrkChan)
  /-- STANDALONE_UPDATE (R163). The standalone filter processes an epoch and updates PVT and the time solution. What it works on stands in State: its operands carry nothing (log entry 130). -/
  | standaloneUpdate (sol : Unit) (clk : Unit)
  /-- PRECISE_UPDATE (R166). The precise filter processes an epoch, including ambiguity resolution. What it works on stands in State: its operands carry nothing (log entry 130). -/
  | preciseUpdate (sol : Unit) (ambs : Unit) (ils : Unit)
  /-- ATTITUDE_UPDATE (R181). The attitude filter processes an epoch of baseline double differences. What it works on stands in State: its operands carry nothing (log entry 130). -/
  | attitudeUpdate (sol : Unit)
  /-- INTEGRITY_EVAL (R183). Once a second, solution separation runs with fault detection and exclusion. What it works on stands in State: its operands carry nothing (log entry 130). -/
  | integrityEval (std : Unit) (prec : Unit)
  /-- SOL_SKIP (R156). Work not complete at the end of its part of the 50 ms frame is abandoned. -/
  | solSkip (f : Filter)
  /-- POSITION_HOLD (R165). After 60 s at TYPE 4 and low speed, the time solution enters position hold. -/
  | positionHold
  /-- EXCL_HOLD_EXPIRY (R183). An excluded satellite is readmitted after EXCL_HOLD seconds. -/
  | exclHoldExpiry (sat : SatId)
  /-- CORRECTION_EXPIRY (R177). A correction item whose age passes its limit is dropped. -/
  | correctionExpiry (item : Nat)
  /-- ENVELOPE_VERIFY_START (R173). The next waiting envelope starts verification in a common slot after checks 4–6. -/
  | envelopeVerifyStart
  /-- ENVELOPE_VERDICT (R172). The signature check completes; an accepted envelope is parsed and its corrections applied. -/
  | envelopeVerdict
  /-- NMEA_OUTPUT (R188). Every NMEA_DIV seconds, the six NMEA sentences are emitted. -/
  | nmeaOutput
  /-- SOL_SAT_RECORD (R186). Once a second, a Class 2 record of SOL.SAT entries is emitted. -/
  | solSatRecord
  /-- STATUS_PUBLISH (R96). A once-per-second basin status structure such as ACQ, TRK, SOL or LNK status is published. -/
  | statusPublish
  /-- HISTORY_ENTRY (R197). At each whole ST second, the reference history entry is copied from the epoch record. -/
  | historyEntry
  /-- SNAPSHOT_DELIVERY (R272). An authenticated SNAP is delivered with its descriptor to the polder's farm store, spilling if full. -/
  | snapshotDelivery (chan : LinkChan)
  /-- FARM_SLOT_START (R207). At an owned farm slot start, the owner's eligible snapshot is chosen and its job run, or the slot idles. What it works on stands in State: its operands carry nothing (log entry 130). -/
  | farmSlotStart (dets : Unit) (solves : Unit)
  /-- FARM_RESULT (R209). At slot end, the job's result enters the polder's result queue. -/
  | farmResult
  /-- SNF_POP (R213). Writing POP removes the head farm result. -/
  | snfPop (p : Polder)
  /-- SNF_HOLD (R213). Writing HOLD makes the polder's farm slots idle from the next slot. -/
  | snfHold (p : Polder) (v : Bool)
  /-- SNF_WAKE_EN (R213). Writing WAKE_EN enables the farm interrupt on result entry. -/
  | snfWakeEn (p : Polder) (v : Bool)
  /-- ORDINARY_UPDATE (R228). At the half-second anchor, the mapping rate is steered to the steady source. -/
  | ordinaryUpdate
  /-- SWITCH_BOUNDARY (R229). At each 10 ms boundary, the target is re-evaluated and a switch slews or completes. -/
  | switchBoundary
  /-- FIRST_ALIGNMENT (R222). At its anchor, the mapping steps by SEED − OFFSET and takes the GNSS rate. -/
  | firstAlignment
  /-- PERMITTED_STEP (R224). With STEP_EN = 1, the mapping steps by −r at an anchor instead of slewing. -/
  | permittedStep
  /-- GNSS_RETURN (R226). TIME_TRUSTED has held for GNSS_RETURN s, so GNSS becomes available again. -/
  | gnssReturn
  /-- EXT_PPS_EDGE (R227). An EXT_PPS edge is captured and the EXT phase is measured. -/
  | extPpsEdge (bin : Nat)
  /-- EXT_PPS_MISSING (R227). No EXT_PPS edge within 1.0001 s makes EXT unavailable at once. -/
  | extPpsMissing
  /-- DRIFT_VOTE_WINDOW (R231). At each 10 s window, the comparators' frequency estimates are compared. -/
  | driftVoteWindow
  /-- DISQUALIFICATION (R231). An outlier in 3 consecutive windows is disqualified. -/
  | disqualification (c : Comparator)
  /-- UNDECIDED (R232). Two comparators that disagree in 3 windows set UNDECIDED, or 6 agreeing windows clear it. -/
  | undecided
  /-- REQUALIFICATION (R233). A disqualified comparator requalifies after 6 agreeing windows. -/
  | requalification (c : Comparator)
  /-- TP_DECISION (R236). 100 ms before an active edge, the gate decides the pulse and a record is emitted. -/
  | tpDecision (tp : Fin 2)
  /-- TIME_PULSE_EDGE (R235). The active edge of TP0 or TP1 fires with its fine delay. -/
  | timePulseEdge (tp : Fin 2)
  /-- TP_INACTIVE_EDGE (R235). WIDTH after the active edge, the inactive edge fires. -/
  | tpInactiveEdge (tp : Fin 2)
  /-- EVT_CAPTURE (R237). An EVTn edge is captured, converted to ST and reported in a Class 0 record. -/
  | evtCapture (pin : Port) (rising : Bool) (bin : Nat)
  /-- SCHEDULER_FIRE (R241). A scheduler entry fires on its tick, or late or suppressed, and a completion record is left. -/
  | schedulerFire
  /-- SCHED_ARM (R243). CMD 1 arms an entry in the polder's quota, or refuses it with PAST or FULL. -/
  | schedArm (p : Polder)
  /-- SCHED_CANCEL (R243). CMD 2 cancels the entry named by HANDLE. -/
  | schedCancel (p : Polder)
  /-- SCHED_POP (R243). Writing POP removes the head completion record. -/
  | schedPop (p : Polder)
  /-- SCHED_WAKE_EN (R243). Writing WAKE_EN enables the interrupt on completion records. -/
  | schedWakeEn (p : Polder) (v : Bool)
  /-- NOW_LATCH (R243). Reading byte 0x00 of NOW latches all 8 bytes of current ST. -/
  | nowLatch (p : Polder)
  /-- FRAME_SYNC_DETECT (R253). A receive channel detects a sync word, reads the header and drops bad frames. -/
  | frameSyncDetect (chan : LinkChan) (f : SyncFrame)
  /-- FRAME_RECEIVE (R257). A frame's MIC completes; it is authenticated, checked for replay and delivered. -/
  | frameReceive (chan : LinkChan) (body : List Byte) (mic : BitVec 64)
  /-- RX_CUT (R261). A reception in progress at the start of another polder's slot is cut. -/
  | rxCut (chan : LinkChan)
  /-- GATEWAY_ACK (R258). t_ACK after the last chip, the gateway acknowledgement is sent or skipped. -/
  | gatewayAck (chan : LinkChan)
  /-- TAG_ACK (R259). A tag acknowledgement arrives 146–154 µs after a downlink and is accepted. -/
  | tagAck (ctx : Nat) (body : BitVec 32) (mic : BitVec 32) (us : Nat)
  /-- TAG_ACK_TIMEOUT (R270). No tag acknowledgement by the window end, so a retry is scheduled or the context goes SILENT. -/
  | tagAckTimeout (ctx : Nat)
  /-- RETRY (R270). A retry launches in the first fitting slot after RETRY_GAP with a new FC. -/
  | retry (ctx : Nat)
  /-- BEACON_LAUNCH (R263). The beacon launches at the whole second with its body and alarm acknowledgements. -/
  | beaconLaunch
  /-- TX_SUBMIT (R266). TX_CMD 1 checks and queues a downlink as a kind 0 scheduler entry. -/
  | txSubmit (p : Polder)
  /-- TX_CANCEL (R266). TX_CMD 2 cancels the submission named by TX_HANDLE. -/
  | txCancel (p : Polder)
  /-- LAUNCH (R267). A polder launch fires at its ST, or is held. -/
  | launch (p : Polder) (handle : Nat)
  /-- RELAUNCH (R271). A held launch relaunches in the polder's first slot that meets R262 once the cause has passed. -/
  | relaunch (p : Polder) (ctx : Nat)
  /-- ROSTER_LOAD_STATE (R268). ROS_CMD 1 loads a context state. -/
  | rosterLoadState (p : Polder)
  /-- ROSTER_LOAD_KEY (R268). ROS_CMD 2 loads a context's state, key and TAG_ID. -/
  | rosterLoadKey (p : Polder)
  /-- RX_POP (R279). Writing RX_POP removes the head receive record. -/
  | rxPop (p : Polder)
  /-- RX_WAKE (R279). Writing RX_WAKE enables the link interrupt on record entry. -/
  | rxWake (p : Polder) (v : Bool)
  /-- DPD_UPDATE (R274). At the end of slot 0, pre-distortion coefficients trained on the beacon are updated. -/
  | dpdUpdate
  /-- NOISE_FLOOR (R275). Each ST second, the mean noise floor per channel is published in LNK.NOISE. -/
  | noiseFloor (levels : List Int)
  /-- LSYN_RETUNE (R409). The link synthesizer retunes to the emission channel and declares digital lock. -/
  | lsynRetune (locked : Bool)
  /-- EMISSION_DECISION (R290). At t0 − 5 µs, the guard admits or refuses an emission and sets its power. -/
  | emissionDecision (lbt : Int) (gnt : Bool)
  /-- EMISSION_END (R282). After the last chip, the sequencer returns to RX, and the duty and freeboard charges are made. -/
  | emissionEnd
  /-- COEX_REQ (R300). COEX_REQ rises REQ_LEAD before an emission. -/
  | coexReq
  /-- COEX_PRI_RISE (R302). COEX_PRI high puts the sequencer in OFF and cuts emissions and receptions. -/
  | coexPriRise
  /-- COEX_PRI_FALL (R302). COEX_PRI low returns the path to RX within t_REL. -/
  | coexPriFall
  /-- QUIET_PIN_RISE (R299). QUIET high for 10 µs inhibits transmission at once and emits a Class 0 record. -/
  | quietPinRise
  /-- QUIET_PIN_FALL (R299). QUIET low for 10 µs is taken as a release. -/
  | quietPinFall
  /-- QUIET_TRANSIT_EXIT (R298). After 120 s of slow, level solutions with the pin low, quiet transit is left. -/
  | quietTransitExit
  /-- PROFILE_SET_CHANGE (R288). A new profile set takes effect at the next slot boundary. -/
  | profileSetChange
  /-- PROFILE_HOLD_EXPIRY (R289). 600 s without a qualifying solution imposes profile 0. -/
  | profileHoldExpiry
  /-- CRYPTO_GCM_ENCRYPT (R313). OP 1 submits an AES-GCM encryption. -/
  | cryptoGcmEncrypt (p : Polder) (key256 : Bool)
  /-- CRYPTO_GCM_DECRYPT (R313). OP 2 submits an AES-GCM decryption with verification. -/
  | cryptoGcmDecrypt (p : Polder) (key256 : Bool)
  /-- CRYPTO_CCM_ENCRYPT (R313). OP 3 submits an AES-CCM encryption. -/
  | cryptoCcmEncrypt (p : Polder) (key256 : Bool)
  /-- CRYPTO_CCM_DECRYPT (R313). OP 4 submits an AES-CCM decryption with verification. -/
  | cryptoCcmDecrypt (p : Polder) (key256 : Bool)
  /-- CRYPTO_SHA256 (R313). OP 5 submits a SHA-256 update or final. -/
  | cryptoSha256 (p : Polder) (final : Bool)
  /-- CRYPTO_ECDSA_VERIFY (R313). OP 6 submits an ECDSA P-256 verification. -/
  | cryptoEcdsaVerify (p : Polder)
  /-- CRYPTO_TRNG (R313). OP 7 submits a TRNG draw. -/
  | cryptoTrng (p : Polder)
  /-- CRYPTO_OP_START (R313). A submitted operation starts in the polder's first own slot at least 1 µs later. -/
  | cryptoOpStart (p : Polder)
  /-- CRYPTO_DONE (R313). t_CRDONE after the last slot, the result, CR_DONE_ST and the interrupt follow. -/
  | cryptoDone (p : Polder)
  /-- BREACH_RECORD (R316). At the end of an ST millisecond with breaches, one Class 0 record goes to the offender's queue. -/
  | breachRecord (p : Polder)
  /-- CORE_START (R346). The core starts in its start state and fetches the reset vector. -/
  | coreStart (p : Polder)
  /-- BASIN_LATCH (R320). A basin read copies a whole structure into the polder's latch. -/
  | basinLatch (p : Polder) (addr : Word)
  /-- BASIN_SENSE (R321). 2 ms after a 10 s window ends, BASIN.SENSE is written. -/
  | basinSense
  /-- SLUICE_TRANSFER (R323). At a multiple of PERIOD, the outbox or an empty transfer goes and SEND clears. -/
  | sluiceTransfer (p : Polder) (k : Fin 8)
  /-- SLUICE_DELIVER (R323). t_SLU after the instant, the message appears in the inbox with FULL, or LOST. -/
  | sluiceDeliver (p : Polder) (k : Fin 8)
  /-- SLUICE_SEND (R323). Writing SEND marks the outbox for the next transfer. -/
  | sluiceSend (p : Polder) (k : Fin 8)
  /-- SLUICE_POP (R323). Writing POP clears FULL and LOST of the inbox. -/
  | sluicePop (p : Polder) (k : Fin 8)
  /-- SLUICE_WAKE_EN (R323). Writing WAKE_EN enables the interrupt on message arrival. -/
  | sluiceWakeEn (p : Polder) (k : Fin 8) (v : Bool)
  /-- SE_RESET (R324). The port drives CPn_RST_N low for 400 card clocks and then releases it. -/
  | seReset (p : Polder)
  /-- ATR_TIMEOUT (R455). No start bit within 40,000 card clocks sets ATR_TIMEOUT; at boot the polder goes dry. -/
  | atrTimeout (p : Polder)
  /-- UNWRAP (R324). The unwrap command is sent under T=0 and its status word is checked. -/
  | unwrap (p : Polder) (sw : BitVec 16)
  /-- GET_RESPONSE (R324). GET RESPONSE returns the segment key and owner hash, and the hash is checked. -/
  | getResponse (p : Polder) (resp : List Byte) (sw : BitVec 16)
  /-- SE_SILENT (R325). A secure element silent for 1,200 ms after reset release leaves the polder dry. -/
  | seSilent (p : Polder)
  /-- SEGMENT_LOAD (R425). After its signature verifies, the plaintext loads into RAM, contexts and the block store, and the key is erased. -/
  | segmentLoad (p : Polder)
  /-- VIN_OUT_OF_RANGE (R327). VIN outside 3.0–5.5 V for 1 ms sets the supply cause of the guarantee void. -/
  | vinOutOfRange
  /-- GUARANTEE_VOID_CLEAR (R327). 60 s after the last cause ends, GUARANTEE_VOID clears with a Class 1 record. -/
  | guaranteeVoidClear
  /-- INTERRUPT_ENTRY (R342). At an allowed boundary, the core drains, pushes the frame and vectors. -/
  | interruptEntry (p : Polder)
  /-- WAIT_WAKE (R343). A PEND bit restarts a core stopped by WAIT, by vector or by continuation. -/
  | waitWake (p : Polder)
  /-- PEND_CLEAR (R341). Writing 1 to a PEND bit of OHM.IRQ clears it. -/
  | pendClear (p : Polder) (mask : Word)
  /-- DRY_CLEAR (R344). Writing 1 to DRY of OHM.STATUS clears it. -/
  | dryClear (p : Polder)
  /-- RESTARTED_CLEAR (R317). Writing 1 to RESTARTED of PLD.BREACH clears it. -/
  | restartedClear (p : Polder)
  /-- REGISTER_WRITE (R336). A write to a window field with no behaviour of its own takes effect byte by byte. -/
  | registerWrite (p : Polder) (addr : Word) (v : Byte)
  /-- LDA (R359). Loads A, taking effect at the end of the shadow. -/
  | lda (p : Polder)
  /-- STA (R357). Stores A. -/
  | sta (p : Polder)
  /-- ADD (R357). Adds M to A. -/
  | add (p : Polder)
  /-- ADC (R357). Adds M and C to A. -/
  | adc (p : Polder)
  /-- SUB (R357). Subtracts M from A. -/
  | sub (p : Polder)
  /-- SBC (R357). Subtracts M and the borrow from A. -/
  | sbc (p : Polder)
  /-- AND (R357). ANDs M into A. -/
  | and (p : Polder)
  /-- ORA (R357). ORs M into A. -/
  | ora (p : Polder)
  /-- EOR (R357). Exclusive-ORs M into A. -/
  | eor (p : Polder)
  /-- CMP (R357). Compares A with M. -/
  | cmp (p : Polder)
  /-- ADDD (R360). Decimal add with carry. -/
  | addd (p : Polder)
  /-- SUBD (R360). Decimal subtract with borrow. -/
  | subd (p : Polder)
  /-- DAA (R360). Decimal-adjusts A after ADD or ADC. -/
  | daa (p : Polder)
  /-- LDX (R359). Loads X, taking effect at the end of the shadow. -/
  | ldx (p : Polder)
  /-- LDY (R359). Loads Y, taking effect at the end of the shadow. -/
  | ldy (p : Polder)
  /-- STX (R357). Stores X. -/
  | stx (p : Polder)
  /-- STY (R357). Stores Y. -/
  | sty (p : Polder)
  /-- CPX (R357). Compares X with M16. -/
  | cpx (p : Polder)
  /-- CPY (R357). Compares Y with M16. -/
  | cpy (p : Polder)
  /-- ADX (R357). Adds the operand to X. -/
  | adx (p : Polder)
  /-- ADY (R357). Adds the operand to Y. -/
  | ady (p : Polder)
  /-- INC (R357). Increments a memory byte. -/
  | inc (p : Polder)
  /-- DEC (R357). Decrements a memory byte. -/
  | dec (p : Polder)
  /-- ASL (R357). Shifts a memory byte left. -/
  | asl (p : Polder)
  /-- LSR (R357). Shifts a memory byte right. -/
  | lsr (p : Polder)
  /-- ROL (R357). Rotates a memory byte left through C. -/
  | rol (p : Polder)
  /-- ROR (R357). Rotates a memory byte right through C. -/
  | ror (p : Polder)
  /-- CLR (R357). Writes 0 to a memory byte without reading it. -/
  | clr (p : Polder)
  /-- INCA (R357). Increments A. -/
  | inca (p : Polder)
  /-- DECA (R357). Decrements A. -/
  | deca (p : Polder)
  /-- ASLA (R357). Shifts A left. -/
  | asla (p : Polder)
  /-- LSRA (R357). Shifts A right. -/
  | lsra (p : Polder)
  /-- ROLA (R357). Rotates A left through C. -/
  | rola (p : Polder)
  /-- RORA (R357). Rotates A right through C. -/
  | rora (p : Polder)
  /-- CLRA (R357). Clears A. -/
  | clra (p : Polder)
  /-- NEGA (R357). Negates A. -/
  | nega (p : Polder)
  /-- COMA (R357). Complements A. -/
  | coma (p : Polder)
  /-- CLC (R357). Clears C. -/
  | clc (p : Polder)
  /-- SEC (R357). Sets C. -/
  | sec (p : Polder)
  /-- DI (R357). Disables maskable interrupts. -/
  | di (p : Polder)
  /-- EI (R357). Enables maskable interrupts. -/
  | ei (p : Polder)
  /-- NOP (R357). Does nothing. -/
  | nop (p : Polder)
  /-- WAIT (R343). Drains the store buffer and stops the core clock. -/
  | wait (p : Polder)
  /-- TAX (R357). Copies A to X, zero-extended. -/
  | tax (p : Polder)
  /-- TAY (R357). Copies A to Y, zero-extended. -/
  | tay (p : Polder)
  /-- TXA (R357). Copies the low byte of X to A. -/
  | txa (p : Polder)
  /-- TYA (R357). Copies the low byte of Y to A. -/
  | tya (p : Polder)
  /-- TXY (R357). Copies X to Y. -/
  | txy (p : Polder)
  /-- TYX (R357). Copies Y to X. -/
  | tyx (p : Polder)
  /-- TSX (R357). Copies S to X. -/
  | tsx (p : Polder)
  /-- TXS (R357). Copies X to S. -/
  | txs (p : Polder)
  /-- INX (R357). Increments X. -/
  | inx (p : Polder)
  /-- DEX (R357). Decrements X. -/
  | dex (p : Polder)
  /-- INY (R357). Increments Y. -/
  | iny (p : Polder)
  /-- DEY (R357). Decrements Y. -/
  | dey (p : Polder)
  /-- MVI (R357). Copies the byte at X to Y, then increments both. -/
  | mvi (p : Polder)
  /-- MVD (R357). Copies the byte at X to Y, then decrements both. -/
  | mvd (p : Polder)
  /-- JX (R357). Jumps to X. -/
  | jx (p : Polder)
  /-- PHA (R363). Pushes A. -/
  | pha (p : Polder)
  /-- PHF (R363). Pushes F. -/
  | phf (p : Polder)
  /-- PLA (R359). Pulls A as a load. -/
  | pla (p : Polder)
  /-- PLF (R357). Pulls F, except T and bit 2. -/
  | plf (p : Polder)
  /-- PHX (R363). Pushes X. -/
  | phx (p : Polder)
  /-- PHY (R363). Pushes Y. -/
  | phy (p : Polder)
  /-- PLX (R359). Pulls X as a load. -/
  | plx (p : Polder)
  /-- PLY (R359). Pulls Y as a load. -/
  | ply (p : Polder)
  /-- RET (R362). Pulls the mask byte, the saved registers and P. -/
  | ret (p : Polder)
  /-- RTI (R363). Pulls the interrupt frame and may resume a repeat. -/
  | rti (p : Polder)
  /-- RPT (R365). Repeats the next instruction n times without interrupts. -/
  | rpt (p : Polder)
  /-- RPTI (R366). Repeats the next instruction n times, interruptible between iterations. -/
  | rpti (p : Polder)
  /-- DBNZ (R364). Decrements X, Y or a direct-page byte and branches if it is not zero. -/
  | dbnz (p : Polder)
  /-- BRA (R358). Branches always. -/
  | bra (p : Polder)
  /-- BEQ (R358). Branches if Z = 1. -/
  | beq (p : Polder)
  /-- BNE (R358). Branches if Z = 0. -/
  | bne (p : Polder)
  /-- BCS (R358). Branches if C = 1. -/
  | bcs (p : Polder)
  /-- BCC (R358). Branches if C = 0. -/
  | bcc (p : Polder)
  /-- BMI (R358). Branches if N = 1. -/
  | bmi (p : Polder)
  /-- BPL (R358). Branches if N = 0. -/
  | bpl (p : Polder)
  /-- BVS (R358). Branches if V = 1. -/
  | bvs (p : Polder)
  /-- BVC (R358). Branches if V = 0. -/
  | bvc (p : Polder)
  /-- BHI (R358). Branches if C = 0 and Z = 0. -/
  | bhi (p : Polder)
  /-- BLS (R358). Branches if C = 1 or Z = 1. -/
  | bls (p : Polder)
  /-- BGE (R358). Branches if N = V. -/
  | bge (p : Polder)
  /-- BLT (R358). Branches if N differs from V. -/
  | blt (p : Polder)
  /-- BGT (R358). Branches if Z = 0 and N = V. -/
  | bgt (p : Polder)
  /-- BLE (R358). Branches if Z = 1 or N differs from V. -/
  | ble (p : Polder)
  /-- JMP (R357). Jumps to a. -/
  | jmp (p : Polder)
  /-- JMPI (R357). Jumps to the word stored at a. -/
  | jmpi (p : Polder)
  /-- LDS (R357). Loads S with the operand. -/
  | lds (p : Polder)
  /-- CALL (R361). Pushes the masked frame and jumps. -/
  | call (p : Polder)
  /-- RESERVED_OP (R368). A reserved encoding executes with confined, unspecified effect. -/
  | reservedOp (p : Polder)
  /-- FETCH_VOID (R367). A fetch from 0xC000–0xEFFF executes a 2-byte NOP. -/
  | fetchVoid (p : Polder)
  /-- DOMAIN_DOWN (R376). A domain goes through stop, isolate, save and cut toward retention or off. -/
  | domainDown (d : Domain)
  /-- DOMAIN_UP (R376). A domain powers up from the state reached and signals ready. -/
  | domainUp (d : Domain)
  /-- THIN_WINDOW_OPEN (R375). The THIN duty window opens THIN_ON before the second, and tracking resumes from retention. -/
  | thinWindowOpen
  /-- THIN_WINDOW_CLOSE (R375). 20 ms after the second, the duty window closes and the GNSS domains go to retention. -/
  | thinWindowClose
  /-- PMU_SAMPLE (R386). A 1 ms sample of temperature, VBAT_SNS and VIN is taken and the thresholds are tested. -/
  | pmuSample (tj : Int) (vbat : Nat) (vin : Nat) (current : Int)
  /-- GOVERNOR_LEVEL_CHANGE (R384). The thermal governor level changes at the next stream millisecond boundary. -/
  | governorLevelChange
  /-- GAUGE_ANCHOR (R387). After REST_MIN minutes at rest, the count is anchored from the OCV table. -/
  | gaugeAnchor
  /-- FREEBOARD_ACCRUAL (R389). At each ST millisecond, each polder's credit gains its budget, capped at 10 s. -/
  | freeboardAccrual
  /-- I2C_ADDRESS_MATCH (R382). An address match acknowledges, wakes HST and stretches the clock. -/
  | i2cAddressMatch (addr : BitVec 7) (read : Bool)
  /-- UART_BREAK_WAKE (R381). HU_RX low for t_BRK wakes the host domains. -/
  | uartBreakWake
  /-- HOST_IDLE (R381). After HOST_IDLE with no traffic, domains woken for a wake return to their mode's state. -/
  | hostIdle
  /-- PLL_LOCK (R401). A lock pin rises through 0.9 V and lock is declared. -/
  | pllLock (l : Pll)
  /-- PLL_LOSS (R410). A lock pin falls through 0.6 V and the loss acts per Table 16-5. -/
  | pllLoss (l : Pll)
  /-- REFERENCE_LOSS (R410). No reference edge for t_REFLOSS resets the device. -/
  | referenceLoss
  /-- EXT10M_WINDOW (R398). Each 10 ms window of EXT_10M edges is checked for presence. -/
  | ext10mWindow (edges : Nat)
  /-- CKD_RESTART (R405). The disciplined outputs restart with a rising edge at a whole ST second. -/
  | ckdRestart
  /-- UART_CHAR_RECEIVE (R440). A received character enters the receive queue with its flags. -/
  | uartCharReceive (data : LineChar) (pe : Bool) (fe : Bool) (brk : Bool) (noise : Bool)
  /-- HOST_CYCLE (R445). At an ST millisecond, an output cycle starts and its slots are filled from the queues. -/
  | hostCycle (busy : Bool)
  /-- BOOT_RECORD (R444). The boot record is emitted after COLD entry and at every multiple of 60 s. -/
  | bootRecord
  /-- INBOUND_UNIT (R450). A complete inbound unit is parsed, checked and queued or dropped. -/
  | inboundUnit
  /-- CORRECTION_FRAME (R451). A TYPE 1 basin frame's envelope passes checks 1–3 and enters the input partition. -/
  | correctionFrame
  /-- TIME_ASSISTANCE (R451). A TYPE 2 basin frame may seed the unaligned mapping. -/
  | timeAssistance
  /-- NAV_ASSISTANCE (R451). A TYPE 3 basin frame's check units are rechecked and stored as assistance. -/
  | navAssistance (content : NavContent)
  /-- POSITION_ASSISTANCE (R451). A TYPE 4 basin frame sets the acquisition position. -/
  | positionAssistance
  /-- OUT_SUBMIT (R449). OUT_CMD submits a polder payload, which is encrypted and queued. -/
  | outSubmit (p : Polder)
  /-- IN_POP (R449). Writing IN_POP removes the head inbound frame. -/
  | inPop (p : Polder)
  /-- IN_WAKE (R449). Writing IN_WAKE enables vector 6 on arrival. -/
  | inWake (p : Polder) (v : Bool)
  /-- I2C_WRITE (R453). An I²C write sets the status register pointer. -/
  | i2cWrite (bytes : I2cTransfer)
  /-- I2C_READ (R453). An I²C read returns the captured status block from the pointer onward. -/
  | i2cRead (n : Nat)
  /-- CARD_RESET (R455). Writing RST sets CPn_RST_N, and a release awaits TS. -/
  | cardReset (p : Polder) (v : Bool)
  /-- CARD_CLK_EN (R454). Writing CLK_EN starts or stops CPn_CLK. -/
  | cardClkEn (p : Polder) (v : Bool)
  /-- CARD_CHAR_RECEIVE (R456). A card character is received, checked for parity and queued, or an error is signalled. -/
  | cardCharReceive (p : Polder) (bits : BitVec 9) (gap : Nat)
  /-- CARD_CHAR_SEND (R456). A character from the transmit FIFO is sent and repeated on error. -/
  | cardCharSend (p : Polder) (err : Bool)
  /-- TX_DATA (R456). Writing TX_DATA pushes a byte into the card transmit FIFO. -/
  | txData (p : Polder) (v : Byte)
  /-- CARD_RX_POP (R456). Writing RX_POP removes the head card entry. -/
  | cardRxPop (p : Polder)
  /-- CARD_RX_WAKE (R456). Writing RX_WAKE enables vector 7 on a received character. -/
  | cardRxWake (p : Polder) (v : Bool)
  /-- CARD_TX_WAKE (R456). Writing TX_WAKE enables vector 7 when the transmit FIFO empties. -/
  | cardTxWake (p : Polder) (v : Bool)
  /-- TX_FAIL_CLEAR (R456). Writing 1 to TX_FAIL clears it. -/
  | txFailClear (p : Polder)
  /-- CRYPTO_WAKE_EN (R313). Writing WAKE_EN enables the crypto completion interrupt. -/
  | cryptoWakeEn (p : Polder) (v : Bool)
  /-- ANCHOR_PACKET (R465). At each whole ST second, the common source closes an anchor packet. -/
  | anchorPacket
  /-- TRACE_PACKET_CLOSE (R468). A branch-trace packet closes at 64 entries or 100 µs and is encrypted and stored. -/
  | tracePacketClose (p : Polder)
  /-- COUNTER_DUMP (R469). Every DUMP_PERIOD, all counters are copied and 8 dump packets are closed. -/
  | counterDump
  /-- PACKET_SEND (R464). The line sends the oldest packet of the next share in rotation. -/
  | packetSend
  /-- RELOCK_TIMEOUT (R410). A relock of PLLA–PLLC, including power-up of CLK from off for a LAYUP fix or a wake, that is not declared within 20 ms is clock fault 3 and resets the device. -/
  | relockTimeout
  /-- INBOUND_GAP_TIMEOUT (R450). A gap longer than 64 character times inside an inbound unit drops the unit and counts it in IN_BADCHAR. -/
  | inboundGapTimeout
  /-- HU_CTS_N_FALL (R439). HU_CTS_N goes low and the transmitter, which has been waiting, sends its next character, so a cycle held back by flow control resumes. -/
  | huCtsNFall
  /-- PREAMBLE_DETECTION (R290). An alarm channel detects a preamble within its first 8 symbols in an alarm slot, and the guard then refuses emissions until the frame's last chip. -/
  | preambleDetection (chan : LinkChan)
  /-- BROWNOUT_RECOVERY (R372). After a brown-out, VIN comes back to 3.0 V or above and the device boots in full. -/
  | brownoutRecovery
  deriving DecidableEq, Repr

end Sys2Proof
end

