-- ==== Sys2Proof/Decode.lean ====
section
/-!
DEFINITION. Decoding. The opcode table of the block gives its rows no bits, so no table word spells a command:
decodeTableWord answers none. What has an encoding is the instruction of a polder's Ohmore core: Tables 14-2 and 14-3
of 14_ohmore_isa, read and written here from one table of rows.
-/

namespace Sys2Proof

/-- The command that a word spells by the bits of the opcode table: the table gives no row any bits, so none. -/
def decodeTableWord (_nbits _w : Nat) : Option Instr := none

/-- The operations of Table 14-4. -/
inductive OhmOp where
  | lda | add | adc | sub | sbc | and | ora | eor | cmp | addd | subd | ldx
  | ldy | cpx | cpy | adx | sta | stx | sty | ady | inc | dec | asl | lsr
  | rol | ror | clr | inca | deca | asla | lsra | rola | rora | clra | nega | coma
  | daa | clc | sec | di | ei | nop | wait | tax | txa | tay | tya | txy
  | tyx | tsx | txs | inx | dex | iny | dey | mvi | mvd | jx | pha | pla
  | phf | plf | phx | plx | phy | ply | ret | rti | rpt | rpti | dbnz | bra
  | beq | bne | bcs | bcc | bmi | bpl | bvs | bvc | bhi | bls | bge | blt
  | bgt | ble | jmp | jmpi | lds | call
  deriving DecidableEq, Repr

/-- The addressing modes of Table 14-1; DBNZ and CALL.m have operand forms of their own. -/
inductive AddrMode where
  | imm8 | imm16 | dp | ix | abs | ax | ay | ind | rel | relX | relY | relD | inh
  /-- CALL.m with its save mask m. -/
  | call (m : Fin 16)
  deriving DecidableEq, Repr

/-- A row of the opcode map. -/
structure OhmEntry where
  /-- Opcode byte. -/
  code : Nat
  /-- Operation. -/
  op : OhmOp
  /-- Addressing mode. -/
  mode : AddrMode
  deriving DecidableEq, Repr

/-- A decoded instruction: operation, mode and its operand byte or word. -/
structure OhmInstr where
  /-- Operation. -/
  op : OhmOp
  /-- Addressing mode. -/
  mode : AddrMode
  /-- Operand: one byte in a short form, two in a long form. -/
  arg : Nat
  deriving DecidableEq, Repr

/-- Row 0x0 of Table 14-2. -/
def ohmRow0 : List OhmEntry :=
  [⟨0x00, .lda, .imm8⟩, ⟨0x01, .add, .imm8⟩, ⟨0x02, .adc, .imm8⟩, ⟨0x03, .sub, .imm8⟩, ⟨0x04, .sbc, .imm8⟩, ⟨0x05,
   .and, .imm8⟩, ⟨0x06, .ora, .imm8⟩, ⟨0x07, .eor, .imm8⟩, ⟨0x08, .cmp, .imm8⟩, ⟨0x09, .addd, .imm8⟩, ⟨0x0A, .subd,
   .imm8⟩, ⟨0x0B, .ldx, .imm8⟩, ⟨0x0C, .ldy, .imm8⟩, ⟨0x0D, .cpx, .imm8⟩, ⟨0x0E, .cpy, .imm8⟩, ⟨0x0F, .adx, .imm8⟩]

/-- Row 0x1 of Table 14-2. -/
def ohmRow1 : List OhmEntry :=
  [⟨0x10, .lda, .dp⟩, ⟨0x11, .add, .dp⟩, ⟨0x12, .adc, .dp⟩, ⟨0x13, .sub, .dp⟩, ⟨0x14, .sbc, .dp⟩, ⟨0x15, .and,
   .dp⟩, ⟨0x16, .ora, .dp⟩, ⟨0x17, .eor, .dp⟩, ⟨0x18, .cmp, .dp⟩, ⟨0x19, .addd, .dp⟩, ⟨0x1A, .subd, .dp⟩, ⟨0x1B,
   .ldx, .dp⟩, ⟨0x1C, .ldy, .dp⟩, ⟨0x1D, .cpx, .dp⟩, ⟨0x1E, .cpy, .dp⟩, ⟨0x1F, .sta, .dp⟩]

/-- Row 0x2 of Table 14-2. -/
def ohmRow2 : List OhmEntry :=
  [⟨0x20, .lda, .ix⟩, ⟨0x21, .add, .ix⟩, ⟨0x22, .adc, .ix⟩, ⟨0x23, .sub, .ix⟩, ⟨0x24, .sbc, .ix⟩, ⟨0x25, .and,
   .ix⟩, ⟨0x26, .ora, .ix⟩, ⟨0x27, .eor, .ix⟩, ⟨0x28, .cmp, .ix⟩, ⟨0x29, .addd, .ix⟩, ⟨0x2A, .subd, .ix⟩, ⟨0x2B,
   .stx, .dp⟩, ⟨0x2C, .sty, .dp⟩, ⟨0x2D, .ady, .imm8⟩, ⟨0x2F, .sta, .ix⟩]

/-- Row 0x3 of Table 14-2. -/
def ohmRow3 : List OhmEntry :=
  [⟨0x30, .inc, .dp⟩, ⟨0x31, .dec, .dp⟩, ⟨0x32, .asl, .dp⟩, ⟨0x33, .lsr, .dp⟩, ⟨0x34, .rol, .dp⟩, ⟨0x35, .ror,
   .dp⟩, ⟨0x36, .clr, .dp⟩, ⟨0x38, .inc, .ix⟩, ⟨0x39, .dec, .ix⟩, ⟨0x3A, .asl, .ix⟩, ⟨0x3B, .lsr, .ix⟩, ⟨0x3C,
   .rol, .ix⟩, ⟨0x3D, .ror, .ix⟩, ⟨0x3E, .clr, .ix⟩]

/-- Row 0x4 of Table 14-2. -/
def ohmRow4 : List OhmEntry :=
  [⟨0x40, .inca, .inh⟩, ⟨0x41, .deca, .inh⟩, ⟨0x42, .asla, .inh⟩, ⟨0x43, .lsra, .inh⟩, ⟨0x44, .rola, .inh⟩, ⟨0x45,
   .rora, .inh⟩, ⟨0x46, .clra, .inh⟩, ⟨0x47, .nega, .inh⟩, ⟨0x48, .coma, .inh⟩, ⟨0x49, .daa, .inh⟩, ⟨0x4A, .clc,
   .inh⟩, ⟨0x4B, .sec, .inh⟩, ⟨0x4C, .di, .inh⟩, ⟨0x4D, .ei, .inh⟩, ⟨0x4E, .nop, .inh⟩, ⟨0x4F, .wait, .inh⟩]

/-- Row 0x5 of Table 14-2. -/
def ohmRow5 : List OhmEntry :=
  [⟨0x50, .tax, .inh⟩, ⟨0x51, .txa, .inh⟩, ⟨0x52, .tay, .inh⟩, ⟨0x53, .tya, .inh⟩, ⟨0x54, .txy, .inh⟩, ⟨0x55, .tyx,
   .inh⟩, ⟨0x56, .tsx, .inh⟩, ⟨0x57, .txs, .inh⟩, ⟨0x58, .inx, .inh⟩, ⟨0x59, .dex, .inh⟩, ⟨0x5A, .iny, .inh⟩,
   ⟨0x5B, .dey, .inh⟩, ⟨0x5C, .mvi, .inh⟩, ⟨0x5D, .mvd, .inh⟩, ⟨0x5E, .jx, .inh⟩]

/-- Row 0x6 of Table 14-2. -/
def ohmRow6 : List OhmEntry :=
  [⟨0x60, .pha, .inh⟩, ⟨0x61, .pla, .inh⟩, ⟨0x62, .phf, .inh⟩, ⟨0x63, .plf, .inh⟩, ⟨0x64, .phx, .inh⟩, ⟨0x65, .plx,
   .inh⟩, ⟨0x66, .phy, .inh⟩, ⟨0x67, .ply, .inh⟩, ⟨0x68, .ret, .inh⟩, ⟨0x69, .rti, .inh⟩, ⟨0x6A, .rpt, .imm8⟩,
   ⟨0x6B, .rpti, .imm8⟩, ⟨0x6C, .dbnz, .relX⟩, ⟨0x6D, .dbnz, .relY⟩]

/-- Row 0x7 of Table 14-2. -/
def ohmRow7 : List OhmEntry :=
  [⟨0x70, .bra, .rel⟩, ⟨0x71, .beq, .rel⟩, ⟨0x72, .bne, .rel⟩, ⟨0x73, .bcs, .rel⟩, ⟨0x74, .bcc, .rel⟩, ⟨0x75, .bmi,
   .rel⟩, ⟨0x76, .bpl, .rel⟩, ⟨0x77, .bvs, .rel⟩, ⟨0x78, .bvc, .rel⟩, ⟨0x79, .bhi, .rel⟩, ⟨0x7A, .bls, .rel⟩,
   ⟨0x7B, .bge, .rel⟩, ⟨0x7C, .blt, .rel⟩, ⟨0x7D, .bgt, .rel⟩, ⟨0x7E, .ble, .rel⟩]

/-- Row 0x8 of Table 14-3. -/
def ohmRow8 : List OhmEntry :=
  [⟨0x80, .lda, .abs⟩, ⟨0x81, .add, .abs⟩, ⟨0x82, .adc, .abs⟩, ⟨0x83, .sub, .abs⟩, ⟨0x84, .sbc, .abs⟩, ⟨0x85, .and,
   .abs⟩, ⟨0x86, .ora, .abs⟩, ⟨0x87, .eor, .abs⟩, ⟨0x88, .cmp, .abs⟩, ⟨0x89, .addd, .abs⟩, ⟨0x8A, .subd, .abs⟩,
   ⟨0x8B, .ldx, .imm16⟩, ⟨0x8C, .ldy, .imm16⟩, ⟨0x8D, .cpx, .imm16⟩, ⟨0x8E, .cpy, .imm16⟩, ⟨0x8F, .adx, .imm16⟩]

/-- Row 0x9 of Table 14-3. -/
def ohmRow9 : List OhmEntry :=
  [⟨0x90, .lda, .ax⟩, ⟨0x91, .add, .ax⟩, ⟨0x92, .adc, .ax⟩, ⟨0x93, .sub, .ax⟩, ⟨0x94, .sbc, .ax⟩, ⟨0x95, .and,
   .ax⟩, ⟨0x96, .ora, .ax⟩, ⟨0x97, .eor, .ax⟩, ⟨0x98, .cmp, .ax⟩, ⟨0x99, .addd, .ax⟩, ⟨0x9A, .subd, .ax⟩, ⟨0x9B,
   .ldx, .abs⟩, ⟨0x9C, .ldy, .abs⟩, ⟨0x9D, .cpx, .abs⟩, ⟨0x9E, .cpy, .abs⟩, ⟨0x9F, .sta, .abs⟩]

/-- Row 0xA of Table 14-3. -/
def ohmRowA : List OhmEntry :=
  [⟨0xA0, .lda, .ay⟩, ⟨0xA1, .add, .ay⟩, ⟨0xA2, .adc, .ay⟩, ⟨0xA3, .sub, .ay⟩, ⟨0xA4, .sbc, .ay⟩, ⟨0xA5, .and,
   .ay⟩, ⟨0xA6, .ora, .ay⟩, ⟨0xA7, .eor, .ay⟩, ⟨0xA8, .cmp, .ay⟩, ⟨0xA9, .addd, .ay⟩, ⟨0xAA, .subd, .ay⟩, ⟨0xAB,
   .stx, .abs⟩, ⟨0xAC, .sty, .abs⟩, ⟨0xAD, .ady, .imm16⟩, ⟨0xAF, .sta, .ax⟩]

/-- Row 0xB of Table 14-3. -/
def ohmRowB : List OhmEntry :=
  [⟨0xB0, .inc, .abs⟩, ⟨0xB1, .dec, .abs⟩, ⟨0xB2, .asl, .abs⟩, ⟨0xB3, .lsr, .abs⟩, ⟨0xB4, .rol, .abs⟩, ⟨0xB5, .ror,
   .abs⟩, ⟨0xB6, .clr, .abs⟩, ⟨0xB7, .sta, .ay⟩, ⟨0xB8, .inc, .ax⟩, ⟨0xB9, .dec, .ax⟩, ⟨0xBA, .asl, .ax⟩, ⟨0xBB,
   .lsr, .ax⟩, ⟨0xBC, .rol, .ax⟩, ⟨0xBD, .ror, .ax⟩, ⟨0xBE, .clr, .ax⟩]

/-- Row 0xC of Table 14-3. -/
def ohmRowC : List OhmEntry :=
  [⟨0xC0, .jmp, .abs⟩, ⟨0xC1, .jmpi, .ind⟩, ⟨0xC2, .dbnz, .relD⟩, ⟨0xC3, .lds, .imm16⟩]

/-- Row 0xE of Table 14-3: CALL.m. -/
def ohmRowE : List OhmEntry :=
  [⟨0xE0, .call, .call 0⟩, ⟨0xE1, .call, .call 1⟩, ⟨0xE2, .call, .call 2⟩, ⟨0xE3, .call, .call 3⟩, ⟨0xE4, .call,
   .call 4⟩, ⟨0xE5, .call, .call 5⟩, ⟨0xE6, .call, .call 6⟩, ⟨0xE7, .call, .call 7⟩, ⟨0xE8, .call, .call 8⟩, ⟨0xE9,
   .call, .call 9⟩, ⟨0xEA, .call, .call 10⟩, ⟨0xEB, .call, .call 11⟩, ⟨0xEC, .call, .call 12⟩, ⟨0xED, .call,
   .call 13⟩, ⟨0xEE, .call, .call 14⟩, ⟨0xEF, .call, .call 15⟩]

/-- Tables 14-2 and 14-3; every opcode without a row is reserved (14_ohmore_isa R356). -/
def ohmTable : List OhmEntry :=
  ohmRow0 ++ ohmRow1 ++ ohmRow2 ++ ohmRow3 ++ ohmRow4 ++ ohmRow5 ++ ohmRow6 ++ ohmRow7 ++ ohmRow8 ++ ohmRow9 
   ++ ohmRowA ++ ohmRowB ++ ohmRowC ++ ohmRowE

/-- Bytes of an instruction with this opcode: bit 7 selects the width (14_ohmore_isa R352). -/
def ohmLen (code : Nat) : Nat := if code < 128 then 2 else 3

/-- The row of an opcode. -/
def ohmLookup (code : Nat) : Option OhmEntry := ohmTable.find? fun e => e.code == code

/-- The row of an operation in a mode. -/
def ohmFind (op : OhmOp) (mode : AddrMode) : Option OhmEntry := ohmTable.find? fun e => e.op == op && e.mode == mode

/-- Decode an opcode byte and the operand bytes after it; none for a reserved encoding (14_ohmore_isa R352, R353, R356). -/
def ohmDecode (b0 b1 b2 : Byte) : Option OhmInstr :=
  match ohmLookup b0.toNat with
  | none => none
  | some e =>
    if b0.toNat < 128 then
      if e.mode = .inh ∧ b1 ≠ 0 then none else some ⟨e.op, e.mode, b1.toNat⟩
    else some ⟨e.op, e.mode, b1.toNat + 256 * b2.toNat⟩

/-- Encode an instruction: opcode byte, then its operand bytes, low byte first (14_ohmore_isa R352). -/
def ohmEncode (i : OhmInstr) : List Byte :=
  match ohmFind i.op i.mode with
  | none => []
  | some e =>
    if e.code < 128 then [BitVec.ofNat 8 e.code, BitVec.ofNat 8 i.arg]
    else [BitVec.ofNat 8 e.code, BitVec.ofNat 8 (i.arg % 256), BitVec.ofNat 8 (i.arg / 256)]

/-- Decode from a list of bytes, the first at the lowest address. -/
def ohmDecodeBytes : List Byte → Option OhmInstr
  | [b0, b1] => if b0.toNat < 128 then ohmDecode b0 b1 0 else none
  | [b0, b1, b2] => if b0.toNat < 128 then none else ohmDecode b0 b1 b2
  | _ => none

/-- An instruction that has an encoding: its operation has the mode, and its operand fits the form
(14_ohmore_isa R352, R353). -/
def OhmInstr.wf (i : OhmInstr) : Bool :=
  match ohmFind i.op i.mode with
  | none => false
  | some e => if e.code < 128 then decide (i.arg < (if i.mode = .inh then 1 else 256)) else decide (i.arg < 65536)

end Sys2Proof
end

