-- ==== Sys2Proof/Config.lean ====
section
/-!
DEFINITION. What the manual leaves open, and what it takes from outside, as constants without a body: nothing can be proved
of a value of theirs. A free value is one of these applied to the state's plain counter `fresh`; the real functions of the
numeric chapters are applied to their operands.
-/

namespace Sys2Proof.Config

/-- A free number (log entry 3): the n-th value that the manual leaves open. -/
opaque freeNat : Nat → Nat

/-- The n-th draw of the true random number generator (12_polders Table 12-3 OP 7, 00_scope R5). -/
opaque trng : Nat → Nat

/-- Square root. -/
opaque sqrt : Rat → Rat

/-- Base-10 logarithm. -/
opaque log10 : Rat → Rat

/-- Ten to a power. -/
opaque pow10 : Rat → Rat

/-- Argument of the complex number (x, y) given as y then x, in cycles, in (−1/2, 1/2]. -/
opaque argCycles : Rat → Rat → Rat

/-- Sine of an angle in degrees. -/
opaque sinDeg : Rat → Rat

/-- Cosine of an angle in degrees. -/
opaque cosDeg : Rat → Rat

/-- An angle in degrees from one in radians (11_radio_control R287). -/
opaque radToDeg : Rat → Rat

/-- Arc cosine, in degrees (03_array R69). -/
opaque acosDeg : Rat → Rat

/-- Azimuth in degrees, [0, 360), of the horizontal direction (x, y) given as y then x (03_array R71). -/
opaque azDeg : Rat → Rat → Rat

/-- Eigenvalues of a Hermitian matrix (03_array R58). -/
opaque eigenvalues : List (List Cplx) → List Rat

/-- A position moved by an east, north and up distance in mm (07_solver R187). -/
opaque movePos : Int → Int → Int → Rat → Rat → Rat → Int × Int × Int

/-- 2π. -/
opaque twoPi : Rat

/-- A quotient whose divisor is 0, by its dividend: the manual states no value (log entry 3). -/
opaque openQuot : Rat → Rat

/-- Chip of a secondary or overlay code: signal, satellite number, index (05_tracking Table 05-5 names the codes; the interface documents give their chips). -/
opaque secondaryChip : Nat → Nat → Nat → Bool

/-- What the RTCM 3 SSR messages of the frames in a FORMAT 0 content carry: for each supported message its items as (kind, satellite's constellation code
and number, signal, or IOD SSR of an orbit or clock, IOD, reference ST second, values) (07_solver R175; the bit layouts are those of RTCM 10403). Values: orbit (7) datum, radial,
along, cross, 0, and their rates; clock (8) c0, c1, c2; high-rate clock (11); code bias (2); phase bias (3) bias, discontinuity, integer indicator, yaw; URA (9); VTEC (10); in the
units of the standard, biases in those of 07_solver Table 07-8. -/
opaque rtcmItems : List Byte → List (Nat × Option (Nat × Nat) × Nat × Nat × Nat × List Int)

/-- Tap of the fractional-delay filter for a delay in sixteenths of a sample, at a distance in samples (03_array R56): the manual gives its span
and its resolution. -/
opaque delayTap : Int → Int → Rat

/-- Value of one unit of the combined stream's 8-bit samples, on the scale of the levels of R28 (03_array R55 gives their width alone). -/
opaque combUnit : Rat

/-- Phase of the SCLK edge train in ticks; its remainder modulo 8 counts (02_sample_ports R37). -/
opaque sclkPhase : Nat

/-- The oscillator model's frequency estimate from its record of windows (09_sky_time R231). -/
opaque modelEstimate : List (Nat × Rat) → Rat

/-- Position in m and velocity in m/s, both Earth-fixed, and clock offset in s, its relativistic term left out, of a satellite at a second of GPS time, from the bits of an issue of ephemeris or of an almanac: the
interface documents of the constellations give the algorithms. -/
opaque orbit : SatId → List Bool → Rat → Vec3 × Vec3 × Rat

/-- Earth-fixed coordinates in m of a position given as latitude and longitude in 10⁻⁹ degrees and height in mm (07_solver Table 07-9). -/
opaque ecefOf : Int → Int → Int → Vec3

/-- Latitude and longitude in 10⁻⁹ degrees and height in mm of Earth-fixed coordinates in m. -/
opaque geodetic : Vec3 → Int × Int × Int

/-- Natural logarithm. -/
opaque ln : Rat → Rat

/-- Earth-fixed positions of the Sun and of the Moon in m at a second of GPS time (07_solver R168). -/
opaque sunMoon : Rat → Vec3 × Vec3

/-- Delay in m at L1 that the GPS broadcast ionosphere model gives: its coefficients, latitude and longitude in degrees, azimuth, elevation and second of GPS time
(07_solver R163; the algorithm is that of the GPS interface document). -/
opaque klobuchar : List Rat → Rat → Rat → Rat → Rat → Rat → Rat

/-- Zenith delays in m, hydrostatic and wet, of a standard atmosphere with the given pressure in hPa, temperature in °C and relative humidity at sea level, scaled to a latitude in
degrees and a height in m (07_solver R163 gives the three figures alone). -/
opaque zenithDelay : Rat → Rat → Rat → Rat → Rat → Rat × Rat

/-- Slant delay in m at L1 and its variance that a VTEC message gives: its values, the receiver's position, azimuth and elevation (07_solver R175). -/
opaque vtecSlant : List Int → Vec3 → Rat → Rat → Rat × Rat

/-- A filter's state after a time in s: its dynamics and process noise, which the manual leaves open (07_solver R163, R166, R181, R185). -/
opaque predict : Rat → Filt → Filt

/-- A filter's state after the rows of an epoch; a row of variance 0 is a constraint (07_solver R163, R166, R180, R181). The manual leaves the recursion open. -/
opaque estimate : Filt → List ObsRow → Filt

/-- Variance with which a state of a filter starts, by its number. -/
opaque startVar : Nat → Rat

/-- Earth-fixed position in m from which a standalone filter without a known position starts: satellite positions and pseudoranges. -/
opaque startPos : List (Vec3 × Rat) → Vec3

/-- Heading, pitch and roll in degrees from which an attitude filter without an attitude starts: effective vectors in the body frame, and the rows' lines of sight and phases. -/
opaque startAttitude : List (Vec3 × Vec3 × Rat) → Rat × Rat × Rat

/-- Heading, pitch and roll in degrees turned by a small rotation in rad about east, north and up. -/
opaque turnAngles : Rat × Rat × Rat → Vec3 → Rat × Rat × Rat

/-- Best and second-best integer vectors of a decorrelated integer least-squares search: float values and their covariance (07_solver R179). -/
opaque integerSearch : List Rat → List (List Rat) → List Int × List Int

/-- −log₁₀(1 − P) of the bootstrapped success rate P of a covariance (07_solver R179). -/
opaque bootstrapPsr : List (List Rat) → Rat

/-- χ² value for a false-alarm probability of 10⁻³, by the degrees of freedom (08_snapshot_farm R205). -/
opaque chiSquare : Nat → Rat

/-- Chip of a primary code: signal, satellite number, index; true for −1 (04_acquisition Table 04-1 names the codes; the interface documents give their chips). -/
opaque primaryChip : Nat → Nat → Nat → Bool

end Sys2Proof.Config
end

