-- ==== Sys2Proof/Machine/Counters.lean ====
section
/-!
DEFINITION. The counter indices of 19_observation R470, Table 19-4: common counters at 0–511 (a per-port table repeats at
12 × port), counter k of polder n at 512 + 192n + k. The names are those of the counter tables of each chapter.
-/

namespace Sys2Proof.Machine

/-- PAD_ERR of port n (Table 02-13). -/
def cSptPadErr (n : Port) : Nat := 0 + 12 * n.val

/-- SYNC_LOSS of port n (Table 02-13). -/
def cSptSyncLoss (n : Port) : Nat := 1 + 12 * n.val

/-- STAMP_JUMP of port n (Table 02-13). -/
def cSptStampJump (n : Port) : Nat := 2 + 12 * n.val

/-- MARKERS of port n (Table 02-13). -/
def cSptMarkers (n : Port) : Nat := 3 + 12 * n.val

/-- MARKERS_MALFORMED of port n (Table 02-13). -/
def cSptMarkersMalformed (n : Port) : Nat := 4 + 12 * n.val

/-- MARKERS_SUPPRESSED of port n (Table 02-13). -/
def cSptMarkersSuppressed (n : Port) : Nat := 5 + 12 * n.val

/-- GUARD_TRIPS of port n (Table 02-13). -/
def cSptGuardTrips (n : Port) : Nat := 6 + 12 * n.val

/-- GAIN_STEPS of port n (Table 02-13). -/
def cSptGainSteps (n : Port) : Nat := 7 + 12 * n.val

/-- GAIN_UNALIGNED of port n (Table 02-13). -/
def cSptGainUnaligned (n : Port) : Nat := 8 + 12 * n.val

/-- GAIN_MISMATCH of port n (Table 02-13). -/
def cSptGainMismatch (n : Port) : Nat := 9 + 12 * n.val

/-- GAIN_CONFLICTS of port n (Table 02-13). -/
def cSptGainConflicts (n : Port) : Nat := 10 + 12 * n.val

/-- BLANK_EVENTS of port n (Table 02-13). -/
def cSptBlankEvents (n : Port) : Nat := 11 + 12 * n.val

/-- NULL_MS (Table 03-9). -/
def cAryNullMs : Nat := 48

/-- SKIPPED_MS (Table 03-9). -/
def cArySkippedMs : Nat := 49

/-- DELAY_RANGE (Table 03-9). -/
def cAryDelayRange : Nat := 50

/-- CAL_HELD (Table 03-9). -/
def cAryCalHeld : Nat := 51

/-- CAL_REJECT (Table 03-9). -/
def cAryCalReject : Nat := 52

/-- AOA_VALID (Table 03-9). -/
def cAryAoaValid : Nat := 53

/-- AOA_AMBIG (Table 03-9). -/
def cAryAoaAmbig : Nat := 54

/-- SPOOF_DIRTY (Table 03-9). -/
def cArySpoofDirty : Nat := 55

/-- SPOOF_RAISES (Table 03-9). -/
def cArySpoofRaises : Nat := 56

/-- SPOOF_UNVERIFIED (Table 03-9). -/
def cArySpoofUnverified : Nat := 57

/-- JAM_RAISES (Table 03-9). -/
def cAryJamRaises : Nat := 58

/-- ANT_CONFLICTS (Table 03-9). -/
def cAryAntConflicts : Nat := 59

/-- STEPS (Table 04-10). -/
def cAcqSteps : Nat := 64

/-- VOID_STEPS (Table 04-10). -/
def cAcqVoidSteps : Nat := 65

/-- LIVE_FALLBACK (Table 04-10). -/
def cAcqLiveFallback : Nat := 66

/-- HITS (Table 04-10). -/
def cAcqHits : Nat := 67

/-- FALSE_HITS (Table 04-10). -/
def cAcqFalseHits : Nat := 68

/-- XCORR_REJECT (Table 04-10). -/
def cAcqXcorrReject : Nat := 69

/-- HANDOVERS (Table 04-10). -/
def cAcqHandovers : Nat := 70

/-- DUP_HITS (Table 04-10). -/
def cAcqDupHits : Nat := 71

/-- RESTARTS (Table 04-10). -/
def cAcqRestarts : Nat := 72

/-- TASKS_ABANDONED (Table 04-10). -/
def cAcqTasksAbandoned : Nat := 73

/-- PULL_FAIL (Table 05-13). -/
def cTrkPullFail : Nat := 80

/-- LOCK_LOSSES (Table 05-13). -/
def cTrkLockLosses : Nat := 81

/-- LOST (Table 05-13). -/
def cTrkLost : Nat := 82

/-- SLIPS (Table 05-13). -/
def cTrkSlips : Nat := 83

/-- BUMP_JUMPS (Table 05-13). -/
def cTrkBumpJumps : Nat := 84

/-- HOLLOW_DUMPS (Table 05-13). -/
def cTrkHollowDumps : Nat := 85

/-- WEIGHT_UNCORRECTED (Table 05-13). -/
def cTrkWeightUncorrected : Nat := 86

/-- MP_FLAGS (Table 05-13). -/
def cTrkMpFlags : Nat := 87

/-- MIGRATIONS (Table 05-13). -/
def cTrkMigrations : Nat := 88

/-- ARRAY_SPAWNS (Table 05-13). -/
def cTrkArraySpawns : Nat := 89

/-- BEAM_TAKEOVERS (Table 05-13). -/
def cTrkBeamTakeovers : Nat := 90

/-- BEAM_FALLBACKS (Table 05-13). -/
def cTrkBeamFallbacks : Nat := 91

/-- EPOCHS (Table 06-18). -/
def cMsrEpochs : Nat := 96

/-- RING_OVERRUN (Table 06-18). -/
def cMsrRingOverrun : Nat := 97

/-- NAV_PASS (Table 06-18). -/
def cMsrNavPass : Nat := 98

/-- NAV_CORRECTED (Table 06-18). -/
def cMsrNavCorrected : Nat := 99

/-- NAV_FAIL (Table 06-18). -/
def cMsrNavFail : Nat := 100

/-- HALF_RESOLVED (Table 06-18). -/
def cMsrHalfResolved : Nat := 101

/-- HALF_ADJUST (Table 06-18). -/
def cMsrHalfAdjust : Nat := 102

/-- POLARITY_CONFLICT (Table 06-18). -/
def cMsrPolarityConflict : Nat := 103

/-- TOW_CONFLICT (Table 06-18). -/
def cMsrTowConflict : Nat := 104

/-- RTCM_SPLIT (Table 06-18). -/
def cMsrRtcmSplit : Nat := 105

/-- RTCM_SUPPRESSED (Table 06-18). -/
def cMsrRtcmSuppressed : Nat := 106

/-- SOL_SKIP (Table 07-22). -/
def cSolSolSkip : Nat := 112

/-- ENV_ACCEPT (Table 07-22). -/
def cSolEnvAccept : Nat := 113

/-- ENV_FORMAT (Table 07-22). -/
def cSolEnvFormat : Nat := 114

/-- ENV_EARLY (Table 07-22). -/
def cSolEnvEarly : Nat := 115

/-- ENV_UNKNOWN_KEY (Table 07-22). -/
def cSolEnvUnknownKey : Nat := 116

/-- ENV_KEY_EXPIRED (Table 07-22). -/
def cSolEnvKeyExpired : Nat := 117

/-- ENV_STALE (Table 07-22). -/
def cSolEnvStale : Nat := 118

/-- ENV_SIG_FAIL (Table 07-22). -/
def cSolEnvSigFail : Nat := 119

/-- ENV_SPILL (Table 07-22). -/
def cSolEnvSpill : Nat := 120

/-- KEY_SWITCH (Table 07-22). -/
def cSolKeySwitch : Nat := 121

/-- RTCM_CRC (Table 07-22). -/
def cSolRtcmCrc : Nat := 122

/-- MSG_UNSUPPORTED (Table 07-22). -/
def cSolMsgUnsupported : Nat := 123

/-- HCC_FORMAT (Table 07-22). -/
def cSolHccFormat : Nat := 124

/-- IOD_WAIT (Table 07-22). -/
def cSolIodWait : Nat := 125

/-- ATM_OUT_OF_AREA (Table 07-22). -/
def cSolAtmOutOfArea : Nat := 126

/-- AR_ATTEMPTS (Table 07-22). -/
def cSolArAttempts : Nat := 127

/-- AR_FIXES (Table 07-22). -/
def cSolArFixes : Nat := 128

/-- AR_PARTIAL (Table 07-22). -/
def cSolArPartial : Nat := 129

/-- AR_REJECT_VAL (Table 07-22). -/
def cSolArRejectVal : Nat := 130

/-- FDE_EXCLUSIONS (Table 07-22). -/
def cSolFdeExclusions : Nat := 131

/-- INTEG_FAILS (Table 07-22). -/
def cSolIntegFails : Nat := 132

/-- SEEDS (Table 09-16). -/
def cSkySeeds : Nat := 144

/-- STEPS (Table 09-16). -/
def cSkySteps : Nat := 145

/-- SWITCHES (Table 09-16). -/
def cSkySwitches : Nat := 146

/-- SWITCH_ABANDONED (Table 09-16). -/
def cSkySwitchAbandoned : Nat := 147

/-- DISQUALIFICATIONS (Table 09-16). -/
def cSkyDisqualifications : Nat := 148

/-- UNDECIDED_EPISODES (Table 09-16). -/
def cSkyUndecidedEpisodes : Nat := 149

/-- TP_GATED (Table 09-16). -/
def cSkyTpGated : Nat := 150

/-- EVT_CAPTURES (Table 09-16). -/
def cSkyEvtCaptures : Nat := 151

/-- EVT_HOLDOFF (Table 09-16). -/
def cSkyEvtHoldoff : Nat := 152

/-- ARM_FULL (Table 09-16). -/
def cSkyArmFull : Nat := 153

/-- ARM_PAST (Table 09-16). -/
def cSkyArmPast : Nat := 154

/-- LATE_ACTIONS (Table 09-16). -/
def cSkyLateActions : Nat := 155

/-- DELAYED_ACTIONS (Table 09-16). -/
def cSkyDelayedActions : Nat := 156

/-- SUPPRESSED_ACTIONS (Table 09-16). -/
def cSkySuppressedActions : Nat := 157

/-- COMPL_SPILL (Table 09-16). -/
def cSkyComplSpill : Nat := 158

/-- HDR_FAIL (Table 10-19). -/
def cLnkHdrFail : Nat := 160

/-- BAD_TYPE (Table 10-19). -/
def cLnkBadType : Nat := 161

/-- FOREIGN (Table 10-19). -/
def cLnkForeign : Nat := 162

/-- RX_CUT (Table 10-19). -/
def cLnkRxCut : Nat := 163

/-- LONE_ENTRIES (Table 10-19). -/
def cLnkLoneEntries : Nat := 164

/-- ALARM_ACK_SPILL (Table 10-19). -/
def cLnkAlarmAckSpill : Nat := 165

/-- BEACONS (Table 10-19). -/
def cLnkBeacons : Nat := 166

/-- PRI_CUTS (Table 11-13). -/
def cRfcPriCuts : Nat := 176

/-- QUIET_ENTRIES (Table 11-13). -/
def cRfcQuietEntries : Nat := 177

/-- PROFILE_CHANGES (Table 11-13). -/
def cRfcProfileChanges : Nat := 178

/-- HOLD_EXPIRED (Table 11-13). -/
def cRfcHoldExpired : Nat := 179

/-- PROFILE_INVALID (Table 11-13). -/
def cRfcProfileInvalid : Nat := 180

/-- COMMON_DEFER (Table 11-13). -/
def cRfcCommonDefer : Nat := 181

/-- ALL_BREACHES (Table 12-18). -/
def cPldAllBreaches : Nat := 192

/-- SLUICE_MISMATCH (Table 12-18). -/
def cPldSluiceMismatch : Nat := 193

/-- DRY_POLDERS (Table 12-18). -/
def cPldDryPolders : Nat := 194

/-- GOV_L1_ENTRIES (Table 15-12). -/
def cPmuGovL1Entries : Nat := 208

/-- GOV_L2_ENTRIES (Table 15-12). -/
def cPmuGovL2Entries : Nat := 209

/-- WAKES_I2C (Table 15-12). -/
def cPmuWakesI2c : Nat := 210

/-- WAKES_BREAK (Table 15-12). -/
def cPmuWakesBreak : Nat := 211

/-- WAKES_EVT (Table 15-12). -/
def cPmuWakesEvt : Nat := 212

/-- WAKES_SCHED (Table 15-12). -/
def cPmuWakesSched : Nat := 213

/-- ENTRY_ABORTS (Table 15-12). -/
def cPmuEntryAborts : Nat := 214

/-- REENABLES (Table 15-12). -/
def cPmuReenables : Nat := 215

/-- ANCHORS (Table 15-12). -/
def cPmuAnchors : Nat := 216

/-- GAUGE_DISAGREE_EPISODES (Table 15-12). -/
def cPmuGaugeDisagreeEpisodes : Nat := 217

/-- BROWNOUTS (Table 15-12). -/
def cPmuBrownouts : Nat := 218

/-- FAULT_RESETS (Table 16-9). -/
def cClkFaultResets : Nat := 224

/-- PLLA_LOSSES (Table 16-9). -/
def cClkPllaLosses : Nat := 225

/-- PLLD_RELOCKS (Table 16-9). -/
def cClkPlldRelocks : Nat := 226

/-- CKD_RESTARTS (Table 16-9). -/
def cClkCkdRestarts : Nat := 227

/-- EXT10M_LOSSES (Table 16-9). -/
def cClkExt10mLosses : Nat := 228

/-- REF_SWITCH_FAIL (Table 16-9). -/
def cClkRefSwitchFail : Nat := 229

/-- LSYN_UNLOCKED (Table 16-9). -/
def cClkLsynUnlocked : Nat := 230

/-- CYCLES_SKIPPED (Table 18-13). -/
def cHstCyclesSkipped : Nat := 240

/-- IN_BADCHAR (Table 18-13). -/
def cHstInBadchar : Nat := 241

/-- IN_FORMAT (Table 18-13). -/
def cHstInFormat : Nat := 242

/-- IN_CRC (Table 18-13). -/
def cHstInCrc : Nat := 243

/-- IN_NOISE (Table 18-13). -/
def cHstInNoise : Nat := 244

/-- IN_LATE_TIME (Table 18-13). -/
def cHstInLateTime : Nat := 245

/-- AUTOBAUD_REJECTS (Table 18-13). -/
def cHstAutobaudRejects : Nat := 246

/-- IN_SPILL_B (Table 18-13). -/
def cHstInSpillB : Nat := 247

/-- OUT_SPILL_B (Table 18-13). -/
def cHstOutSpillB : Nat := 248

/-- C0_FOLDS_B (Table 18-13). -/
def cHstC0FoldsB : Nat := 249

/-- OBS_DROPS_C (Table 19-5). -/
def cObsObsDropsC : Nat := 256

/-- OBS_DROPS_0 (Table 19-5). -/
def cObsObsDrops0 : Nat := 257

/-- OBS_DROPS_1 (Table 19-5). -/
def cObsObsDrops1 : Nat := 258

/-- OBS_DROPS_2 (Table 19-5). -/
def cObsObsDrops2 : Nat := 259

/-- OBS_DROPS_3 (Table 19-5). -/
def cObsObsDrops3 : Nat := 260

/-- OBS_DROPS_4 (Table 19-5). -/
def cObsObsDrops4 : Nat := 261

/-- OBS_DROPS_5 (Table 19-5). -/
def cObsObsDrops5 : Nat := 262

/-- OBS_DROPS_6 (Table 19-5). -/
def cObsObsDrops6 : Nat := 263

/-- OBS_DROPS_7 (Table 19-5). -/
def cObsObsDrops7 : Nat := 264

/-- OBS_PACKETS (Table 19-5). -/
def cObsObsPackets : Nat := 265

/-- OBS_DUMPS (Table 19-5). -/
def cObsObsDumps : Nat := 266

/-- Index of counter k of polder n (19_observation R470). -/
def polCounter (n : Polder) (k : Nat) : Nat := 512 + 192 * n.val + k

/-- SNAPS_IN of a polder (Table 08-14). -/
def pSnfSnapsIn (n : Polder) : Nat := polCounter n 0

/-- SNAP_SPILL of a polder (Table 08-14). -/
def pSnfSnapSpill (n : Polder) : Nat := polCounter n 1

/-- SNAP_ORPHAN of a polder (Table 08-14). -/
def pSnfSnapOrphan (n : Polder) : Nat := polCounter n 2

/-- JOBS of a polder (Table 08-14). -/
def pSnfJobs (n : Polder) : Nat := polCounter n 3

/-- FIXES of a polder (Table 08-14). -/
def pSnfFixes (n : Polder) : Nat := polCounter n 4

/-- NO_REF of a polder (Table 08-14). -/
def pSnfNoRef (n : Polder) : Nat := polCounter n 5

/-- FEW_SATS of a polder (Table 08-14). -/
def pSnfFewSats (n : Polder) : Nat := polCounter n 6

/-- RAIM_FAIL of a polder (Table 08-14). -/
def pSnfRaimFail (n : Polder) : Nat := polCounter n 7

/-- EXPIRED of a polder (Table 08-14). -/
def pSnfExpired (n : Polder) : Nat := polCounter n 8

/-- EARLY of a polder (Table 08-14). -/
def pSnfEarly (n : Polder) : Nat := polCounter n 9

/-- BAD_SNAP of a polder (Table 08-14). -/
def pSnfBadSnap (n : Polder) : Nat := polCounter n 10

/-- SLOT_IDLE_EMPTY of a polder (Table 08-14). -/
def pSnfSlotIdleEmpty (n : Polder) : Nat := polCounter n 11

/-- SLOT_IDLE_CREDIT of a polder (Table 08-14). -/
def pSnfSlotIdleCredit (n : Polder) : Nat := polCounter n 12

/-- SLOT_IDLE_HOLD of a polder (Table 08-14). -/
def pSnfSlotIdleHold (n : Polder) : Nat := polCounter n 13

/-- RESULT_SPILL of a polder (Table 08-14). -/
def pSnfResultSpill (n : Polder) : Nat := polCounter n 14

/-- AUTH_FAIL of a polder (Table 10-19). -/
def pLnkAuthFail (n : Polder) : Nat := polCounter n 16

/-- REPLAY of a polder (Table 10-19). -/
def pLnkReplay (n : Polder) : Nat := polCounter n 17

/-- DUP_RX of a polder (Table 10-19). -/
def pLnkDupRx (n : Polder) : Nat := polCounter n 18

/-- RETIRED_RX of a polder (Table 10-19). -/
def pLnkRetiredRx (n : Polder) : Nat := polCounter n 19

/-- ACK_SKIP of a polder (Table 10-19). -/
def pLnkAckSkip (n : Polder) : Nat := polCounter n 20

/-- RX_BLANKED of a polder (Table 10-19). -/
def pLnkRxBlanked (n : Polder) : Nat := polCounter n 21

/-- RX_SPILL of a polder (Table 10-19). -/
def pLnkRxSpill (n : Polder) : Nat := polCounter n 22

/-- TX_HELD of a polder (Table 10-19). -/
def pLnkTxHeld (n : Polder) : Nat := polCounter n 23

/-- CREDIT_HELD of a polder (Table 10-19). -/
def pLnkCreditHeld (n : Polder) : Nat := polCounter n 24

/-- TX_RETRIES of a polder (Table 10-19). -/
def pLnkTxRetries (n : Polder) : Nat := polCounter n 25

/-- SILENT_ENTRIES of a polder (Table 10-19). -/
def pLnkSilentEntries (n : Polder) : Nat := polCounter n 26

/-- DEFER_PROFILE of a polder (Table 11-13). -/
def pRfcDeferProfile (n : Polder) : Nat := polCounter n 32

/-- DEFER_DUTY of a polder (Table 11-13). -/
def pRfcDeferDuty (n : Polder) : Nat := polCounter n 33

/-- DEFER_LBT of a polder (Table 11-13). -/
def pRfcDeferLbt (n : Polder) : Nat := polCounter n 34

/-- DEFER_GNT of a polder (Table 11-13). -/
def pRfcDeferGnt (n : Polder) : Nat := polCounter n 35

/-- DEFER_PRI of a polder (Table 11-13). -/
def pRfcDeferPri (n : Polder) : Nat := polCounter n 36

/-- DEFER_QUIET of a polder (Table 11-13). -/
def pRfcDeferQuiet (n : Polder) : Nat := polCounter n 37

/-- POWER_CLAMPS of a polder (Table 11-13). -/
def pRfcPowerClamps (n : Polder) : Nat := polCounter n 38

/-- DEFER_ALARM of a polder (Table 11-13). -/
def pRfcDeferAlarm (n : Polder) : Nat := polCounter n 39

/-- BREACHES of a polder (Table 12-18). -/
def pPldBreaches (n : Polder) : Nat := polCounter n 48

/-- RESTARTS of a polder (Table 12-18). -/
def pPldRestarts (n : Polder) : Nat := polCounter n 49

/-- CRYPTO_OPS of a polder (Table 12-18). -/
def pPldCryptoOps (n : Polder) : Nat := polCounter n 50

/-- CRYPTO_AUTH_FAIL of a polder (Table 12-18). -/
def pPldCryptoAuthFail (n : Polder) : Nat := polCounter n 51

/-- SLUICE_LOST of a polder (Table 12-18). -/
def pPldSluiceLost (n : Polder) : Nat := polCounter n 52

/-- DRY_ACCESSES of a polder (Table 13-14). -/
def pOhmDryAccesses (n : Polder) : Nat := polCounter n 64

/-- SB_STALLS of a polder (Table 13-14). -/
def pOhmSbStalls (n : Polder) : Nat := polCounter n 65

/-- DRY_TRAPS of a polder (Table 13-14). -/
def pOhmDryTraps (n : Polder) : Nat := polCounter n 66

/-- WAITS of a polder (Table 13-14). -/
def pOhmWaits (n : Polder) : Nat := polCounter n 67

/-- FETCH_VOID of a polder (Table 13-14). -/
def pOhmFetchVoid (n : Polder) : Nat := polCounter n 68

/-- RESERVED_OPS of a polder (Table 13-14). -/
def pOhmReservedOps (n : Polder) : Nat := polCounter n 69

/-- FB_SPENT of a polder (Table 15-12). -/
def pPmuFbSpent (n : Polder) : Nat := polCounter n 80

/-- FB_NEGATIVE_MS of a polder (Table 15-12). -/
def pPmuFbNegativeMs (n : Polder) : Nat := polCounter n 81

/-- OUT_SPILL of a polder (Table 18-13). -/
def pHstOutSpill (n : Polder) : Nat := polCounter n 96

/-- C0_FOLDS of a polder (Table 18-13). -/
def pHstC0Folds (n : Polder) : Nat := polCounter n 97

/-- IN_SPILL of a polder (Table 18-13). -/
def pHstInSpill (n : Polder) : Nat := polCounter n 98

/-- IN_REPLAY of a polder (Table 18-13). -/
def pHstInReplay (n : Polder) : Nat := polCounter n 99

/-- IN_AUTH of a polder (Table 18-13). -/
def pHstInAuth (n : Polder) : Nat := polCounter n 100

/-- CP_PARITY of a polder (Table 18-13). -/
def pHstCpParity (n : Polder) : Nat := polCounter n 101

/-- CP_TX_OVF of a polder (Table 18-13). -/
def pHstCpTxOvf (n : Polder) : Nat := polCounter n 102

end Sys2Proof.Machine
end

