-- ==== Sys2Proof/Machine/Bits.lean ====
section
/-!
DEFINITION. The plain helpers that every family uses: bit fields, byte order, rounding, saturation, the CRC-16 of
17_boot_image R487, and sparse maps in canonical form (the representation of every memory and of every numbered array).
-/

namespace Sys2Proof.Machine

/-- Bits `lo + w - 1 : lo` of a number (00_scope, Numbers and names). -/
def getBits (v lo w : Nat) : Nat := v / 2 ^ lo % 2 ^ w

/-- The number whose bits `lo + w - 1 : lo` are `x`, all others 0. -/
def putBits (lo w x : Nat) : Nat := x % 2 ^ w * 2 ^ lo

/-- A field list packed into one number: (lowest bit, width, value) for each field (00_scope R7, R8: bits not named read 0). -/
def packFields : List (Nat × Nat × Nat) → Nat
  | [] => 0
  | (lo, w, x) :: r => putBits lo w x + packFields r

/-- Two's complement of `i` in `w` bits. -/
def twos (w : Nat) (i : Int) : Nat := (i % (2 ^ w : Int)).toNat

/-- The signed value of the `w`-bit number `v`. -/
def sext (w v : Nat) : Int := if v % 2 ^ w < 2 ^ (w - 1) then (v % 2 ^ w : Nat) else ((v % 2 ^ w : Nat) : Int) - 2 ^ w

/-- `n` bytes of `v`, least significant first (13_ohmore_model R333). -/
def leBytes : Nat → Nat → List Byte
  | 0, _ => []
  | n + 1, v => BitVec.ofNat 8 v :: leBytes n (v / 256)

/-- The number that bytes spell, least significant first. -/
def leNat : List Byte → Nat
  | [] => 0
  | b :: r => b.toNat + 256 * leNat r

/-- `n` bytes of `v`, most significant first. -/
def beBytes (n v : Nat) : List Byte := (leBytes n v).reverse

/-- The number that bytes spell, most significant first. -/
def beNat (l : List Byte) : Nat := leNat l.reverse

/-- `n` bytes of `l` from offset `o`, 0x00 beyond its end. -/
def bytesAt (l : List Byte) (o n : Nat) : List Byte :=
  let t := (l.drop o).take n
  t ++ List.replicate (n - t.length) 0

/-- The little-endian number in `n` bytes of `l` from offset `o`. -/
def leAt (l : List Byte) (o n : Nat) : Nat := leNat ((l.drop o).take n)

/-- A value limited to a range, both ends included. -/
def clampI (lo hi i : Int) : Int := max lo (min hi i)

/-- A value limited to a range, both ends included. -/
def clampN (lo hi i : Nat) : Nat := max lo (min hi i)

/-- A value limited to a range, both ends included. -/
def clampQ (lo hi i : Rat) : Rat := max lo (min hi i)

/-- Nearest integer, halves away from zero. -/
def roundAway (q : Rat) : Int := if 0 ≤ q then (q + 1 / 2).floor else -((-q + 1 / 2).floor)

/-- Nearest integer, ties to even (00_scope R12). -/
def roundEven (q : Rat) : Int :=
  let f := q.floor
  if q - f < 1 / 2 then f else if 1 / 2 < q - f then f + 1 else if f % 2 = 0 then f else f + 1

/-- Smallest integer not below. -/
def ceilQ (q : Rat) : Int := -(-q).floor

/-- Division of naturals, rounded up. -/
def ceilDiv (a b : Nat) : Nat := (a + b - 1) / b

/-- Absolute value. -/
def absQ (q : Rat) : Rat := if q < 0 then -q else q

/-- Mean of a list, 0 for an empty one. -/
def meanQ (l : List Rat) : Rat := if l.length = 0 then 0 else l.foldl (· + ·) 0 / l.length

/-- Counter width: counters are 32-bit and saturate (02_sample_ports R51). -/
def satInc (n : Nat) (k : Nat) : Nat := min (n + k) (2 ^ 32 - 1)

/-- Whether every element is distinct. -/
def allDistinct {α : Type} [DecidableEq α] : List α → Bool
  | [] => true
  | a :: r => !r.contains a && allDistinct r

/-- One byte into the CRC-16 of 17_boot_image R487: polynomial 0x1021, most significant bit first. -/
def crcBits : Nat → Nat → Nat
  | 0, c => c
  | n + 1, c => crcBits n (if 0x8000 ≤ c then (c * 2 % 0x10000) ^^^ 0x1021 else c * 2)

/-- The CRC-16 of 17_boot_image R487: initial value 0xFFFF, no reflection, no final inversion. -/
def crc16 (l : List Byte) : Nat := l.foldl (fun c b => crcBits 8 (c ^^^ (b.toNat * 256))) 0xFFFF

/-! ### Sparse maps -/

/-- The value at key `k` of a sparse map whose unlisted keys hold `d k`. -/
def sget {α : Type} (d : Nat → α) : List (Nat × α) → Nat → α
  | [], k => d k
  | (j, v) :: r, k => if j = k then v else sget d r k

/-- The sparse map with `v` at key `k`, in canonical form: keys strictly rising, no entry equal to the default. -/
def sset {α : Type} [DecidableEq α] (d : Nat → α) : List (Nat × α) → Nat → α → List (Nat × α)
  | [], k, v => if v = d k then [] else [(k, v)]
  | (j, w) :: r, k, v =>
    if k < j then (if v = d k then (j, w) :: r else (k, v) :: (j, w) :: r)
    else if k = j then (if v = d k then r else (k, v) :: r)
    else (j, w) :: sset d r k v

/-- Canonical form: keys strictly rising from above `lo`, no entry equal to the default. -/
def swfFrom {α : Type} [DecidableEq α] (d : Nat → α) : Nat → List (Nat × α) → Bool
  | _, [] => true
  | lo, (j, v) :: r => decide (lo ≤ j) && decide (v ≠ d j) && swfFrom d (j + 1) r

/-- Canonical form of a sparse map. -/
def swf {α : Type} [DecidableEq α] (d : Nat → α) (l : List (Nat × α)) : Bool := swfFrom d 0 l

/-- Several bytes written upward from an address. -/
def swrite (d : Nat → Byte) : List Host.Cell → Nat → List Byte → List Host.Cell
  | m, _, [] => m
  | m, a, b :: r => swrite d (sset d m a b) (a + 1) r

/-- Several bytes read upward from an address. -/
def sread (d : Nat → Byte) (m : List Host.Cell) (a n : Nat) : List Byte :=
  (List.range n).map fun i => sget d m (a + i)

end Sys2Proof.Machine
end

