-- ==== Sys2Proof/Machine/Crypto.lean ====
section
/-!
DEFINITION. The standard functions that the manual names and takes from their standards (log entry 16): SHA-256, AES with the GCM and CCM modes, and ECDSA P-256
verification (12_polders R313, 17_boot_image R420, R423, 18_host_ports R442, 10_tag_link R256, 07_solver R171). Words and field elements are
plain numbers.
-/

namespace Sys2Proof.Machine

/-! ### SHA-256 (FIPS 180-4; PRESUMED, log entry 16) -/

/-- The 64 round constants, 32 bits each, the first lowest. -/
def shaK : Nat :=
  0xab1c5ed5923f82a459f111f13956c25be9b5dba5b5c0fbcf71374491428a2f98 +
  0xc19bf1749bdc06a780deb1fe72be5d74550c7dc3243185be12835b01d807aa98 * 2 ^ 256 +
  0x76f988da5cb0a9dc4a7484aa2de92c6f240ca1cc0fc19dc6efbe4786e49b69c1 * 2 ^ 512 +
  0x1429296706ca6351d5a79147c6e00bf3bf597fc7b00327c8a831c66d983e5152 * 2 ^ 768 +
  0x92722c8581c2c92e766a0abb650a735453380d134d2c6dfc2e1b213827b70a85 * 2 ^ 1024 +
  0x106aa070f40e3585d6990624d192e819c76c51a3c24b8b70a81a664ba2bfe8a1 * 2 ^ 1280 +
  0x682e6ff35b9cca4f4ed8aa4a391c0cb334b0bcb52748774c1e376c0819a4c116 * 2 ^ 1536 +
  0xc67178f2bef9a3f7a4506ceb90befffa8cc7020884c8781478a5636f748f82ee * 2 ^ 1792

/-- The initial hash value, 32 bits each, the first lowest. -/
def shaInit : Nat :=
  0x5be0cd191f83d9ab9b05688c510e527fa54ff53a3c6ef372bb67ae856a09e667

/-- Rotate a 32-bit word right. -/
def rotr32 (n x : Nat) : Nat := x >>> n ||| x <<< (32 - n) % 2 ^ 32

/-- The words of a block's schedule, newest first, `n` more of them. -/
def shaSchedule : Nat → List Nat → List Nat
  | 0, w => w
  | n + 1, w =>
    let a := w.getD 1 0
    let b := w.getD 14 0
    let s1 := rotr32 17 a ^^^ rotr32 19 a ^^^ a >>> 10
    let s0 := rotr32 7 b ^^^ rotr32 18 b ^^^ b >>> 3
    shaSchedule n ((s1 + w.getD 6 0 + s0 + w.getD 15 0) % 2 ^ 32 :: w)

/-- The working variables a to h. -/
structure ShaVars where
  /-- a. -/
  a : Nat
  /-- b. -/
  b : Nat
  /-- c. -/
  c : Nat
  /-- d. -/
  d : Nat
  /-- e. -/
  e : Nat
  /-- f. -/
  f : Nat
  /-- g. -/
  g : Nat
  /-- h. -/
  h : Nat

/-- One round with a schedule word and a round constant. -/
def shaRound (v : ShaVars) (wk : Nat) : ShaVars :=
  let t1 := v.h + (rotr32 6 v.e ^^^ rotr32 11 v.e ^^^ rotr32 25 v.e) + ((v.e &&& v.f) ^^^ ((2 ^ 32 - 1 - v.e) &&& v.g)) + wk
  let t2 := (rotr32 2 v.a ^^^ rotr32 13 v.a ^^^ rotr32 22 v.a) + ((v.a &&& v.b) ^^^ (v.a &&& v.c) ^^^ (v.b &&& v.c))
  ⟨(t1 + t2) % 2 ^ 32, v.a, v.b, v.c, (v.d + t1) % 2 ^ 32, v.e, v.f, v.g⟩

/-- The rounds over a schedule, from round `t` on. -/
def shaRounds : Nat → List Nat → ShaVars → ShaVars
  | _, [], v => v
  | t, w :: r, v => shaRounds (t + 1) r (shaRound v (w + getBits shaK (32 * t) 32))

/-- A block of 64 bytes into the hash value. -/
def shaBlock (v : ShaVars) (b : List Byte) : ShaVars :=
  let w := (List.range 16).map fun i => beNat ((b.drop (4 * i)).take 4)
  let r := shaRounds 0 (shaSchedule 48 w.reverse).reverse v
  let add (x y : Nat) : Nat := (x + y) % 2 ^ 32
  ⟨add v.a r.a, add v.b r.b, add v.c r.c, add v.d r.d, add v.e r.e, add v.f r.f, add v.g r.g, add v.h r.h⟩

/-- `n` blocks of a padded message. -/
def shaBlocks : Nat → List Byte → ShaVars → ShaVars
  | 0, _, v => v
  | n + 1, l, v => shaBlocks n (l.drop 64) (shaBlock v (l.take 64))

/-- SHA-256 of a message: 32 bytes. -/
@[irreducible] def sha256 (l : List Byte) : List Byte :=
  let zeros := (119 - l.length % 64) % 64
  let padded := l ++ [0x80] ++ List.replicate zeros 0 ++ beBytes 8 (8 * l.length)
  let i (k : Nat) : Nat := getBits shaInit (32 * k) 32
  let v := shaBlocks (padded.length / 64) padded ⟨i 0, i 1, i 2, i 3, i 4, i 5, i 6, i 7⟩
  [v.a, v.b, v.c, v.d, v.e, v.f, v.g, v.h].flatMap (beBytes 4)

/-! ### AES (FIPS 197; PRESUMED, log entry 16) -/

/-- The S-box, a byte each, that of 0x00 lowest. -/
def aesSbox : Nat :=
  0xc072a49cafa2d4adf04759fa7dc982ca76abd7fe2b670130c56f6bf27b777c63 +
  0x75b227ebe28012079a059618c323c7041531d871f1e5a534ccf73f362693fdb7 * 2 ^ 256 +
  0xcf584c4a39becb6a5bb1fc20ed00d153842fe329b3d63b52a05a6e1b1a2c8309 * 2 ^ 512 +
  0xd2f3ff1021dab6bcf5389d928f40a351a89f3c507f02f94585334d43fbaaefd0 * 2 ^ 768 +
  0xdb0b5ede14b8ee4688902a22dc4f816073195d643d7ea7c41744975fec130ccd * 2 ^ 1024 +
  0x08ae7a65eaf4566ca94ed58d6d37c8e779e4959162acd3c25c2406490a3a32e0 * 2 ^ 1280 +
  0x9e1dc186b95735610ef6034866b53e708a8bbd4b1f74dde8c6b4a61c2e2578ba * 2 ^ 1536 +
  0x16bb54b00f2d99416842e6bf0d89a18cdf2855cee9871e9b948ed9691198f8e1 * 2 ^ 1792

/-- SubBytes of one byte. -/
def subByte (b : Byte) : Byte := BitVec.ofNat 8 (getBits aesSbox (8 * b.toNat) 8)

/-- A byte times x in the AES field. -/
def xtime (b : Byte) : Byte := if b.msb then b <<< 1 ^^^ 0x1B else b <<< 1

/-- Exclusive-or of two byte strings. -/
def xorBytes (a b : List Byte) : List Byte := List.zipWith (· ^^^ ·) a b

/-- The key schedule's words, newest first, `n` more of them: `nk` words of key, `rc` the next round constant. -/
def aesSchedule (nk : Nat) : Nat → Nat → Byte → List (List Byte) → List (List Byte)
  | 0, _, _, w => w
  | n + 1, i, rc, w =>
    let t := w.headD []
    let u := if i % nk = 0 then xorBytes ((t.drop 1 ++ t.take 1).map subByte) [rc, 0, 0, 0] else if 6 < nk ∧ i % nk = 4 then t.map subByte else t
    aesSchedule nk n (i + 1) (if i % nk = 0 then xtime rc else rc) (xorBytes (w.getD (nk - 1) []) u :: w)

/-- The round keys, 16 bytes each, first one first. -/
def aesKeys (key : List Byte) : List (List Byte) :=
  let nk := key.length / 4
  let rounds := nk + 6
  let w := (aesSchedule nk (4 * (rounds + 1) - nk) nk 1 ((List.range nk).map fun i => (key.drop (4 * i)).take 4).reverse).reverse.flatten
  (List.range (rounds + 1)).map fun i => (w.drop (16 * i)).take 16

/-- ShiftRows: byte r + 4 c comes from column c + r. -/
def shiftRows (l : List Byte) : List Byte := (List.range 16).map fun i => l.getD ((i + 4 * (i % 4)) % 16) 0

/-- MixColumns of one column. -/
def mixColumn (c : List Byte) : List Byte :=
  let at_ (i : Nat) : Byte := c.getD (i % 4) 0
  (List.range 4).map fun i => xtime (at_ i) ^^^ (xtime (at_ (i + 1)) ^^^ at_ (i + 1)) ^^^ at_ (i + 2) ^^^ at_ (i + 3)

/-- The rounds after the first key addition; the last has no MixColumns. -/
def aesRounds : List (List Byte) → List Byte → List Byte
  | [], b => b
  | [k], b => xorBytes (shiftRows (b.map subByte)) k
  | k :: r, b =>
    let c := shiftRows (b.map subByte)
    aesRounds r (xorBytes ((List.range 4).flatMap fun i => mixColumn ((c.drop (4 * i)).take 4)) k)

/-- AES of one block with round keys. -/
def aesWith (keys : List (List Byte)) (b : List Byte) : List Byte := aesRounds (keys.drop 1) (xorBytes b (keys.headD []))

/-- AES-128 or AES-256 of one block of 16 bytes. -/
def aesBlock (key b : List Byte) : List Byte := aesWith (aesKeys key) b

/-- A text with the keystream of counter blocks: `n` blocks, the first numbered `c`. -/
def ctrText (keys : List (List Byte)) (block : Nat → List Byte) : Nat → Nat → List Byte → List Byte
  | 0, _, _ => []
  | n + 1, c, l => xorBytes (l.take 16) (aesWith keys (block c)) ++ ctrText keys block n (c + 1) (l.drop 16)

/-! ### GCM (SP 800-38D) and CCM (SP 800-38C; both PRESUMED, log entry 16) -/

/-- The product of two blocks as numbers whose highest bit is the coefficient of 1: `n` bits of `x` from its highest on. -/
def gfMul (x : Nat) : Nat → Nat → Nat → Nat
  | 0, _, z => z
  | n + 1, v, z => gfMul x n (if v % 2 = 1 then v / 2 ^^^ 0xE1 * 2 ^ 120 else v / 2) (if x.testBit n then z ^^^ v else z)

/-- GHASH of `n` blocks under the hash key. -/
def ghash (h : Nat) : Nat → List Byte → Nat → Nat
  | 0, _, y => y
  | n + 1, l, y => ghash h n (l.drop 16) (gfMul (y ^^^ beNat (l.take 16)) 128 h 0)

/-- A string padded with 0x00 to whole blocks. -/
def padBlock (l : List Byte) : List Byte := l ++ List.replicate ((16 - l.length % 16) % 16) 0

/-- AES-GCM keystream exclusive-or, with a nonce of 12 bytes. -/
@[irreducible] def gcmText (key nonce text : List Byte) : List Byte :=
  ctrText (aesKeys key) (fun c => nonce ++ beBytes 4 c) (ceilDiv text.length 16) 2 text

/-- AES-GCM tag of 16 bytes, with a nonce of 12 bytes. -/
@[irreducible] def gcmTag (key nonce aad cipher : List Byte) : List Byte :=
  let h := beNat (aesBlock key (List.replicate 16 0))
  let l := padBlock aad ++ padBlock cipher ++ beBytes 8 (8 * aad.length) ++ beBytes 8 (8 * cipher.length)
  xorBytes (beBytes 16 (ghash h (l.length / 16) l 0)) (aesBlock key (nonce ++ [0, 0, 0, 1]))

/-- A CCM counter block: a counter of 15 minus the nonce's length in bytes. -/
def ccmBlock (nonce : List Byte) (c : Nat) : List Byte :=
  let q := 15 - nonce.length
  BitVec.ofNat 8 (q - 1) :: nonce ++ beBytes q c

/-- AES-CCM keystream exclusive-or. -/
@[irreducible] def ccmText (key nonce text : List Byte) : List Byte :=
  ctrText (aesKeys key) (ccmBlock nonce) (ceilDiv text.length 16) 1 text

/-- CBC-MAC of `n` blocks. -/
def cbcMac (keys : List (List Byte)) : Nat → List Byte → List Byte → List Byte
  | 0, _, y => y
  | n + 1, l, y => cbcMac keys n (l.drop 16) (aesWith keys (xorBytes y (l.take 16)))

/-- AES-CCM tag of `m` bytes over associated data and plaintext. -/
@[irreducible] def ccmTag (m : Nat) (key nonce aad text : List Byte) : List Byte :=
  let q := 15 - nonce.length
  let keys := aesKeys key
  let flags := BitVec.ofNat 8 ((if aad = [] then 0 else 64) + 8 * ((m - 2) / 2) + (q - 1))
  let a := if aad = [] then [] else padBlock (beBytes 2 aad.length ++ aad)
  let l := flags :: nonce ++ beBytes q text.length ++ a ++ padBlock text
  (xorBytes (cbcMac keys (l.length / 16) l (List.replicate 16 0)) (aesWith keys (ccmBlock nonce 0))).take m

/-! ### ECDSA P-256 (FIPS 186; PRESUMED, log entry 16) -/

/-- The prime of P-256. -/
def p256 : Nat := 2 ^ 256 - 2 ^ 224 + 2 ^ 192 + 2 ^ 96 - 1

/-- The coefficient b of P-256. -/
def p256b : Nat := 0x5ac635d8aa3a93e7b3ebbd55769886bc651d06b0cc53b0f63bce3c3e27d2604b

/-- The order of P-256. -/
def p256n : Nat := 0xffffffff00000000ffffffffffffffffbce6faada7179e84f3b9cac2fc632551

/-- A point lies on P-256. -/
def onCurve (x y : Nat) : Bool := decide (x < p256) && decide (y < p256) && (y * y + 3 * x) % p256 == (x * x * x + p256b) % p256

/-- `b` to the power of the lowest `n` bits of `e`, modulo `m`. -/
def powMod (m e : Nat) : Nat → Nat → Nat → Nat
  | 0, _, r => r
  | n + 1, b, r => powMod (m) (e / 2) n (b * b % m) (if e % 2 = 1 then r * b % m else r)

/-- The inverse of `x` modulo the prime `m`. -/
def invMod (m x : Nat) : Nat := powMod m (m - 2) 256 (x % m) 1

/-- A point in Jacobian coordinates; infinity where z is 0. -/
structure JPoint where
  /-- X. -/
  x : Nat
  /-- Y. -/
  y : Nat
  /-- Z. -/
  z : Nat
  deriving DecidableEq, Repr

/-- `a - b` modulo the prime. -/
def subP (a b : Nat) : Nat := (a + (p256 - b % p256)) % p256

/-- Twice a point. -/
def jDouble (q : JPoint) : JPoint :=
  let p := p256
  let d := q.z * q.z % p
  let g := q.y * q.y % p
  let b := q.x * g % p
  let a := 3 * (subP q.x d * (q.x + d)) % p
  let x := subP (a * a) (8 * b)
  ⟨x, subP (a * subP (4 * b) x) (8 * g * g), 2 * q.y * q.z % p⟩

/-- The sum of two points. -/
def jAdd (q r : JPoint) : JPoint :=
  if q.z = 0 then r else if r.z = 0 then q else
  let p := p256
  let qz := q.z * q.z % p
  let rz := r.z * r.z % p
  let u1 := q.x * rz % p
  let u2 := r.x * qz % p
  let s1 := q.y * rz % p * r.z % p
  let s2 := r.y * qz % p * q.z % p
  if u1 = u2 then (if s1 = s2 then jDouble q else ⟨1, 1, 0⟩) else
  let h := subP u2 u1
  let k := subP s2 s1
  let h2 := h * h % p
  let h3 := h2 * h % p
  let v := u1 * h2 % p
  let x := subP (subP (k * k) h3) (2 * v)
  ⟨x, subP (k * subP v x) (s1 * h3), h * q.z % p * r.z % p⟩

/-- `a` times `q` plus `b` times `r`, over the lowest `n` bits of `a` and `b`. -/
def jMul (a b : Nat) (q r qr : JPoint) : Nat → JPoint
  | 0 => ⟨1, 1, 0⟩
  | n + 1 =>
    let t := jDouble (jMul (a / 2) (b / 2) q r qr n)
    if a % 2 = 1 then (if b % 2 = 1 then jAdd t qr else jAdd t q) else if b % 2 = 1 then jAdd t r else t

/-- ECDSA P-256 verification: a hash of 32 bytes, the public key x then y, the signature r then s, every number most significant byte first. -/
@[irreducible] def ecdsaVerify (hash key sig : List Byte) : Bool :=
  let e := beNat (hash.take 32)
  let q : JPoint := ⟨beNat (key.take 32), beNat ((key.drop 32).take 32), 1⟩
  let r := beNat (sig.take 32)
  let s := beNat ((sig.drop 32).take 32)
  if onCurve q.x q.y = false ∨ r = 0 ∨ p256n ≤ r ∨ s = 0 ∨ p256n ≤ s then false
  else
    let w := invMod p256n s
    let g : JPoint := ⟨0x6b17d1f2e12c4247f8bce6e563a440f277037d812deb33a0f4a13945d898c296,
      0x4fe342e2fe1a7f9b8ee7eb4a7c0f9e162bce33576b315ececbb6406837bf51f5, 1⟩
    let t := jMul (e * w % p256n) (r * w % p256n) g q (jAdd g q) 256
    let zi := invMod p256 t.z
    t.z != 0 && t.x * zi % p256 * zi % p256 % p256n == r

end Sys2Proof.Machine
end

