-- ==== Sys2Proof/Machine/State.lean ====
section
/-!
DEFINITION. The state of the AV-1024 block as plain data: every register, queue, counter, mode and pin level that the
manual gives it, chapter by chapter, and the queue of the commands that wait. A field's docstring gives its meaning, its
width, the file and rule of spec/ that names it and its reset value. Numbered arrays that are mostly idle (memories,
contexts, channels) are sparse maps in canonical form: keys strictly rising, no entry equal to the default.
-/

namespace Sys2Proof.Machine

/-- Why the machine stops. No command of this block stops it: every row of the table has an effect in the manual. -/
inductive Fault where
  deriving DecidableEq, Repr

/-- Why a command has no meaning. -/
inductive Refusal where
  /-- Raised by an arm of exec for a command whose meaning is not written yet. Safe: nothing can be proved of it. -/
  | notModelled (mnemonic : String)
  deriving DecidableEq, Repr

/-! ### 02_sample_ports -/

/-- The statistics guard's window of a lane (02_sample_ports R41). -/
structure GuardWin where
  /-- Words of the window. 02_sample_ports R41. Reset: 0. -/
  words : Nat := 0
  /-- Words evaluated. 02_sample_ports R41. Reset: 0. -/
  valid : Nat := 0
  /-- AND of the 6 sample bits of every evaluated word. 02_sample_ports Table 02-4 G1. Reset: 63. -/
  andBits : Nat := 63
  /-- OR of the 6 sample bits. 02_sample_ports Table 02-4 G1. Reset: 0. -/
  orBits : Nat := 0
  /-- Words whose I field equals their Q field. 02_sample_ports Table 02-4 G2. Reset: 0. -/
  eq : Nat := 0
  /-- Words with the sign bit of I. 02_sample_ports Table 02-4 G3. Reset: 0. -/
  signI : Nat := 0
  /-- Words with the sign bit of Q. 02_sample_ports Table 02-4 G3. Reset: 0. -/
  signQ : Nat := 0
  /-- Pairs evaluated and pairs equal, at distances 1 to 16. 02_sample_ports Table 02-4 G4. Reset: 0. -/
  pairs : List (Nat × Nat) := List.replicate 16 (0, 0)
  deriving DecidableEq, Repr

/-- A sample with its instant and flag: one that left a port (02_sample_ports R31), or one of the combined stream (03_array R57). -/
structure StreamSample where
  /-- Sampling instant in ticks. 02_sample_ports R33. -/
  at_ : Int
  /-- In-phase value, 0 where flagged. 02_sample_ports R31. -/
  i : Int
  /-- Quadrature value, 0 where flagged. 02_sample_ports R31. -/
  q : Int
  /-- Flag: 0 valid, 1 blanked, 2 muted. 02_sample_ports R31. -/
  flag : Nat
  deriving DecidableEq, Repr

/-- A transfer on the front-end SPI (02_sample_ports R42): FE_CSn of its port is low over it. -/
structure SpiXfer where
  /-- Port whose FE_CSn is low. 02_sample_ports R42. -/
  port : Port
  /-- SPI_MODE (2): polarity and phase of FE_SCK. 02_sample_ports Table 02-7. -/
  mode : Nat
  /-- Bits on FE_SDO, in order: SPI_BITS of each word, most significant first. 02_sample_ports R42. -/
  bits : List Bool
  /-- Tick of the falling edge of FE_CSn. 02_sample_ports R42. -/
  start : Nat
  /-- Tick of its rising edge, at which the front end applies the transfer. 02_sample_ports R42. -/
  stop : Nat
  deriving DecidableEq, Repr

/-- A lane of a sample port (02_sample_ports). -/
structure LaneState where
  /-- NOT_SAMPLES (1). 02_sample_ports R41 Table 02-12. Reset: 0. -/
  notSamples : Bool := false
  /-- LO_MUTE (1). 02_sample_ports R40 Table 02-12. Reset: 0. -/
  loMute : Bool := false
  /-- GAIN_CONFLICT (1): an episode is in progress. 02_sample_ports R47 Table 02-12. Reset: 0. -/
  conflict : Bool := false
  /-- OVERLOAD (1). 02_sample_ports Table 02-12. Reset: 0. -/
  overload : Bool := false
  /-- UNDERLOAD (1). 02_sample_ports Table 02-12. Reset: 0. -/
  underload : Bool := false
  /-- I and Q bits of the words of the marker run so far, in arrival order, at most three. 02_sample_ports R39. Reset: empty. -/
  run : List Nat := []
  /-- Sampling tick of the run's first word. 02_sample_ports R40. Reset: 0. -/
  runTick : Nat := 0
  /-- Guard window. 02_sample_ports R41. Reset: as in its own lines. -/
  win : GuardWin := {}
  /-- Last 16 words (8 bits), newest first, none where not valid. 02_sample_ports Table 02-4 G4. Reset: empty. -/
  hist : List (Option Nat) := []
  /-- Consecutive failed windows. 02_sample_ports R41. Reset: 0. -/
  failRun : Nat := 0
  /-- Consecutive passed windows. 02_sample_ports R41. Reset: 0. -/
  passRun : Nat := 0
  /-- Gain index in force (4). 02_sample_ports R44. Reset: 0 (DESIGN CHOICE, log entry 15). -/
  gain : Nat := 0
  /-- Gain index before the last step (4). 03_array R56. Reset: 0. -/
  prevGain : Nat := 0
  /-- Step asked for and not yet sent: new index and tick of the request. 02_sample_ports R45. Reset: none. -/
  req : Option (Nat × Nat) := none
  /-- Tick of the first sample at the new gain of the last step. 02_sample_ports R44. Reset: none. -/
  stepAt : Option Nat := none
  /-- Index of that sample in the port's sequence, as the step's record carries it. 02_sample_ports R44. Reset: none. -/
  stepIdx : Option Int := none
  /-- Samples of the millisecond. 02_sample_ports R46. Reset: 0. -/
  msTotal : Nat := 0
  /-- Valid samples of the millisecond. 02_sample_ports R46. Reset: 0. -/
  msValid : Nat := 0
  /-- I and Q values with magnitude code 3 among them. 02_sample_ports R46. Reset: 0. -/
  msThree : Nat := 0
  /-- Consecutive milliseconds above the upper limit. 02_sample_ports R46. Reset: 0. -/
  hiRun : Nat := 0
  /-- Consecutive milliseconds below the lower limit. 02_sample_ports R46. Reset: 0. -/
  loRun : Nat := 0
  /-- Tick since which p has been inside the envelope in an episode. 02_sample_ports R47. Reset: none. -/
  inside : Option Nat := none
  /-- Tick of the last step toward FIX_INDEX. 02_sample_ports R47. Reset: none. -/
  lastReturn : Option Nat := none
  /-- Samples that left the port, newest first: the nine that the delay filter of the array spans. 02_sample_ports R28, R31, 03_array R56. Reset: empty. -/
  out : List StreamSample := []
  deriving DecidableEq, Repr

/-- A sample port (02_sample_ports). -/
structure PortState where
  /-- Frame sync has been seen since the port was powered. 02_sample_ports Table 02-12 ACTIVE. Reset: false. -/
  synced : Bool := false
  /-- SYNC_LOST (1). 02_sample_ports R29. Reset: 0. -/
  lost : Bool := false
  /-- ALIGN_TS (1). 02_sample_ports R37. Reset: 0. -/
  alignTs : Bool := false
  /-- ALIGN_FALLBACK (1). 02_sample_ports R34. Reset: 0. -/
  fallback : Bool := false
  /-- FE_INIT_FAIL (1). 02_sample_ports R43. Reset: 0. -/
  initFail : Bool := false
  /-- Consecutive words with frame sync absent or wrongly spaced. 02_sample_ports R29. Reset: 0. -/
  badFs : Nat := 0
  /-- Consecutive correctly spaced pulses, up to 8. 02_sample_ports R29. Reset: 0. -/
  goodFs : Nat := 0
  /-- Tick of the last word's frame sync. 02_sample_ports R33. Reset: none. -/
  lastFs : Option Nat := none
  /-- Sampling instant of word 0, in ticks: of the sequence, or by the grid point that the anchor assigned. 02_sample_ports R33, R37. Reset: none. -/
  word0 : Option Int := none
  /-- Index of the next word since the sequence or the present count began. 02_sample_ports R33, R37. Reset: 0. -/
  count : Nat := 0
  /-- Last block stamp. 02_sample_ports R37. Reset: none. -/
  stamp : Option Nat := none
  /-- Residual passed to the array, in ticks. 02_sample_ports R37. Reset: 0. -/
  residual : Int := 0
  /-- The restart gap after a trigger runs. 02_sample_ports R31, R35. Reset: false. -/
  gap : Bool := false
  /-- The present block was re-anchored and is muted. 02_sample_ports R38. Reset: false. -/
  blockMute : Bool := false
  /-- ST second of the marker records counted next, and their number. 02_sample_ports R40. Reset: 0 and 0. -/
  marks : Nat × Nat := (0, 0)
  /-- Lanes. 02_sample_ports R30. Reset: as in their own lines. -/
  lane : Vector LaneState 4 := Vector.replicate 4 {}
  deriving DecidableEq, Repr

/-- Sample ports and front-end control (02_sample_ports). -/
structure SptState where
  /-- Ports SP0–SP3. 02_sample_ports R26. Reset: as in their own lines. -/
  port : Vector PortState 4 := Vector.replicate 4 {}
  /-- Next entry of the front-end init script. 02_sample_ports R43. Reset: 0. -/
  feinit : Nat := 0
  /-- Tick from which that entry may be sent. 02_sample_ports R43. Reset: 0. -/
  feNext : Nat := 0
  /-- Last front-end transfer. 02_sample_ports R42. Reset: none. -/
  spi : Option SpiXfer := none
  /-- ST millisecond at whose boundary the last aligned transfer landed. 02_sample_ports R45. Reset: none. -/
  stepMs : Option Nat := none
  /-- Edge of the last start trigger, on the SCLK edge train: SYNC_N is low for SYNC_WIDTH cycles from it. 02_sample_ports R32. Reset: none. -/
  trig : Option Nat := none
  /-- Ticks at which scheduled start triggers fall due. 02_sample_ports R35, R36. Reset: empty. -/
  trigDue : List Nat := []
  /-- BH_TX is high (1). 02_sample_ports R48. Reset: 0 (DESIGN CHOICE, log entry 5). -/
  bhTx : Bool := false
  /-- Tick of the falling edge whose tail runs. 02_sample_ports R48. Reset: none. -/
  tail : Option Nat := none
  /-- Blanking intervals, newest first: tick of the rising edge and last tick blanked, none while it lasts. 02_sample_ports R48. Reset: empty. -/
  blank : List (Nat × Option Nat) := []
  deriving DecidableEq, Repr

/-! ### 03_array -/

/-- A band of the array (03_array R58–R61). -/
structure BandState where
  /-- Covariance of the last evaluated milliseconds, newest first, at most NULL_AVG. 03_array R58. Reset: empty. -/
  cov : List (List (List Cplx)) := []
  /-- Evaluated milliseconds since the band started, up to 1,000. 03_array R59. Reset: 0. -/
  evals : Nat := 0
  /-- Sum of lam_min over them. 03_array R59. Reset: 0. -/
  lamSum : Rat := 0
  /-- Quiet reference Q. 03_array R59. Reset: none (before its initialisation). -/
  q : Option Rat := none
  /-- K (3). 03_array R58 Table 03-8. Reset: 0. -/
  k : Nat := 0
  /-- LEVEL (2). 03_array R61 Table 03-8. Reset: 0. -/
  level : Nat := 0
  /-- Rise of the last evaluated millisecond in dB. 03_array R59. Reset: 0. -/
  rise : Rat := 0
  /-- Weights in force per antenna, none for e_ref. 03_array R58. Reset: none. -/
  weights : Option (List Cplx) := none
  /-- Instant of the first sample that they acted on, as recorded in the stream. 03_array R58. Reset: 0. -/
  weightsAt : Int := 0
  /-- Instants of the weight changes recorded in the stream, newest first, of the last 80 s. 03_array R58, 04_acquisition R80. Reset: empty. -/
  changes : List Int := []
  /-- Weights that act from the first sample of the next stream millisecond, with its instant. 03_array R58, R73. Reset: none. -/
  next : Option (Int × Option (List Cplx)) := none
  /-- Last sample of the combined stream C (8 + 8 bits). 03_array R55, R57. Reset: none. -/
  comb : Option StreamSample := none
  /-- Consecutive evaluated milliseconds with a raw level of at least 1, 2, 3. 03_array R61. Reset: 0. -/
  upRun : Vector Nat 3 := Vector.replicate 3 0
  /-- Consecutive evaluated milliseconds with a raw level of at most 0, 1, 2. 03_array R61. Reset: 0. -/
  downRun : Vector Nat 3 := Vector.replicate 3 0
  /-- A type 0x3 marker came on a lane of the band in this millisecond. 03_array Table 03-1. Reset: false. -/
  marker : Bool := false
  deriving DecidableEq, Repr

/-- The calibration of an antenna and band (03_array R63–R66). -/
structure CalState where
  /-- φ in cycles. 03_array R63. Reset: 0. -/
  phi : Rat := 0
  /-- τ in ns. 03_array R63. Reset: 0 (R64 sets it at boot). -/
  tau : Rat := 0
  /-- d in mm. 03_array R63. Reset: 0. -/
  d : Vec3 := ⟨0, 0, 0⟩
  /-- Converged. 03_array R65. Reset: false. -/
  conv : Bool := false
  /-- No update since initialisation. 03_array R65. Reset: true. -/
  first : Bool := true
  /-- Consecutive updates that count toward convergence. 03_array R65. Reset: 0. -/
  run : Nat := 0
  /-- Code differences in ns with the ST second of their update, newest first. 03_array R66. Reset: empty. -/
  codes : List (Nat × Rat) := []
  /-- ST second of the last period that was closed. 03_array R65. Reset: none. -/
  lastS : Option Nat := none
  deriving DecidableEq, Repr

/-- An angle-of-arrival measurement (03_array R67, R68). -/
structure AoaMeas where
  /-- Satellite. 03_array R67. -/
  sat : SatId
  /-- Band. 03_array R67. -/
  band : Band
  /-- Valid rather than ambiguous. 03_array R68. -/
  valid : Bool
  /-- Direction in the body frame. 03_array R68. -/
  dir : Vec3
  /-- With rank 1, the cosine of the cone angle instead. 03_array R68. -/
  cone : Option Rat
  deriving DecidableEq, Repr

/-- The array front (03_array). -/
structure AryState where
  /-- Bands B1, B2, B5, B6. 03_array R58. Reset: as in their own lines. -/
  band : Vector BandState 4 := Vector.replicate 4 {}
  /-- Calibration, at 4 × antenna + band. 03_array R63. Reset: as in their own lines. -/
  cal : Vector CalState 16 := Vector.replicate 16 {}
  /-- ANT_SET (4). 03_array R72 Table 03-7. Reset: 0. -/
  antSet : BitVec 4 := 0
  /-- ANT_REDUCED (1). 03_array R72. Reset: 0. -/
  reduced : Bool := false
  /-- JAM_ALARM (1). 03_array R62. Reset: 0. -/
  jam : Bool := false
  /-- ST millisecond that DELAY_RANGE counted last. 03_array R56 Table 03-9. Reset: none. -/
  delayMs : Option Nat := none
  /-- Measurements of the last second. 03_array R67. Reset: empty. -/
  aoa : List AoaMeas := []
  /-- The spoofing alarm is active. 03_array R71. Reset: false. -/
  spoof : Bool := false
  /-- Outcome of the last evaluation: 0 clean, 1 dirty, 2 unavailable. 03_array R70. Reset: 2. -/
  outcome : Nat := 2
  /-- Consecutive dirty evaluations. 03_array R71. Reset: 0. -/
  dirty : Nat := 0
  /-- Consecutive clean evaluations. 03_array R71. Reset: 0. -/
  clean : Nat := 0
  /-- Consecutive unavailable evaluations while the alarm is active. 03_array R71. Reset: 0. -/
  unavail : Nat := 0
  /-- ATT_USED (1). 03_array Table 03-7. Reset: 0. -/
  attUsed : Bool := false
  /-- AOA_SATS (8). 03_array Table 03-7. Reset: 0. -/
  aoaSats : Nat := 0
  /-- SUSPECTS (8). 03_array Table 03-7. Reset: 0. -/
  suspects : Nat := 0
  /-- Direction of the largest S1 set in the body frame. 03_array R71. Reset: none. -/
  cluster : Option Vec3 := none
  deriving DecidableEq, Repr

/-! ### 04_acquisition -/

/-- A search task (04_acquisition R91). -/
structure AcqTask where
  /-- What it searches. 04_acquisition R91. -/
  target : SearchTarget
  /-- Class 1–4. 04_acquisition R91. -/
  cls : Nat
  deriving DecidableEq, Repr

/-- Key of a record: band, stream (true: combined), search rate in samples per ms, grid centre in Hz (04_acquisition R79). -/
structure RecordKey where
  /-- Band. 04_acquisition R79. -/
  band : Band
  /-- Combined stream. 04_acquisition R78, R79. -/
  combined : Bool
  /-- Samples per ms. 04_acquisition R79. -/
  rate : Nat
  /-- Grid centre in Hz. 04_acquisition R79. -/
  centre : Rat
  deriving DecidableEq, Repr

/-- A replay record in the pool (04_acquisition R79). -/
structure PoolRecord where
  /-- Key. 04_acquisition R79. -/
  key : RecordKey
  /-- Tick of its first sampling instant. 04_acquisition R79. -/
  tick : Nat
  /-- Bytes. 04_acquisition R79. -/
  bytes : Nat
  /-- Complete. 04_acquisition R79. -/
  full : Bool
  deriving DecidableEq, Repr

/-- Where a lane takes its dwell from (04_acquisition R79). -/
inductive DwellFrom where
  /-- The record that starts at this tick. -/
  | replay (tick : Nat)
  /-- The stream as it arrives, from this tick on. -/
  | live (tick : Nat)
  deriving DecidableEq, Repr

/-- A hit under verification (04_acquisition R87, R89). -/
structure AcqHit where
  /-- Peak over noise. 04_acquisition R87. -/
  ratio : Rat
  /-- Code phase of its cell in half chips. 04_acquisition R76, R77. -/
  cell : Int
  /-- Bin. 04_acquisition R81. -/
  bin : Int
  /-- Refinements of the second verification: in cells and in bins. 04_acquisition R89. -/
  fine : Rat × Rat
  deriving DecidableEq, Repr

/-- A running search task (04_acquisition R76–R93). -/
structure LaneRun where
  /-- Task. 04_acquisition R91. -/
  task : AcqTask
  /-- Channel reserved for it. 04_acquisition R91. -/
  chan : TrkChan
  /-- Key of its samples. 04_acquisition R78, R79. -/
  key : RecordKey
  /-- The task is assisted: by ephemeris (true) or almanac. 04_acquisition R83. -/
  assist : Option Bool
  /-- DEEP tier rather than FAST. 04_acquisition Table 04-1. -/
  deep : Bool
  /-- Coherent length of the step in ms. 04_acquisition R84. -/
  coh : Nat
  /-- Coherent length that spaces the bins of the grid, in ms. 04_acquisition R81. -/
  gridCoh : Nat
  /-- Non-coherent count. 04_acquisition R76. -/
  nc : Nat
  /-- Half-width K of the grid. 04_acquisition R81. -/
  k : Nat
  /-- Code window: predicted code phase in chips at a tick, and half-width in chips; none for the whole code. 04_acquisition R83, R85. -/
  window : Option (Rat × Nat × Nat)
  /-- Groups of a step. 04_acquisition R82. -/
  groups : Nat
  /-- Blocks visited in a bin, in their order. 04_acquisition R82. -/
  blocks : List Nat
  /-- Step in visiting order. 04_acquisition R82. -/
  step : Nat
  /-- Void repeats of it. 04_acquisition R80. -/
  voids : Nat
  /-- Source of its dwell. 04_acquisition R79. -/
  dwell : DwellFrom
  /-- Hit under verification. 04_acquisition R89. -/
  hit : Option AcqHit
  /-- Verifications passed. 04_acquisition R89. -/
  passes : Nat
  /-- The task starts afresh at its next step boundary: first alignment of an assisted task. 04_acquisition Table 04-4. -/
  restart : Bool
  deriving DecidableEq, Repr

/-- The acquisition engine (04_acquisition). -/
structure AcqState where
  /-- Search lanes 0–15. 04_acquisition R91. Reset: idle. -/
  lane : Vector (Option LaneRun) 16 := Vector.replicate 16 none
  /-- Waiting tasks in queue order. 04_acquisition R91. Reset: empty. -/
  queue : List AcqTask := []
  /-- Record pool, 1,792 KiB. 04_acquisition R79. Reset: empty. -/
  pool : List PoolRecord := []
  /-- Constellation of the last task of class 4 that started. 04_acquisition R91. Reset: none. -/
  turn : Option Constellation := none
  /-- Position for assistance from the host: position, 1σ in m. 18_host_ports R451. Reset: none. -/
  pos : Option (Position × Nat) := none
  deriving DecidableEq, Repr

/-! ### 05_tracking -/

/-- Channel states (05_tracking Table 05-4). -/
inductive ChanState where
  | idle | pull | track | lock | freq | lost
  deriving DecidableEq, Repr

/-- Channel roles (05_tracking Table 05-1). -/
inductive ChanRole where
  | nav | array | beam
  deriving DecidableEq, Repr

/-- A tracking channel (05_tracking R97–R127, 06_measurements R135–R144). -/
structure Chan where
  /-- State. 05_tracking Table 05-4. Reset: IDLE. -/
  st : ChanState := .idle
  /-- Signal of the acquisition task that it is reserved for. 05_tracking R117, R120. Reset: none. -/
  reserved : Option SearchTarget := none
  /-- Signal and satellite. 05_tracking R97. Reset: none. -/
  target : Option SearchTarget := none
  /-- Antenna of an ARRAY channel. 05_tracking R97. Reset: 0. -/
  ant : Port := 0
  /-- NAV channel on C rather than on the REF stream. 05_tracking Table 05-1. Reset: false. -/
  combined : Bool := false
  /-- Tick of entry to the state. 05_tracking R104. Reset: 0. -/
  entered : Nat := 0
  /-- Tick of the end of the last dump, with its fraction. 05_tracking R106. Reset: 0. -/
  last : Rat := 0
  /-- COH of the hit's tier in ms. 05_tracking Table 05-4. Reset: 0. -/
  coh : Nat := 0
  /-- Loop filter acc, in rad/s². 05_tracking R106. Reset: 0. -/
  acc : Rat := 0
  /-- Loop filter vel, in rad/s. 05_tracking R106. Reset: 0. -/
  vel : Rat := 0
  /-- f_nco in Hz. 05_tracking R106. Reset: 0. -/
  fNco : Rat := 0
  /-- f_aid in Hz. 05_tracking R107. Reset: 0. -/
  fAid : Rat := 0
  /-- code_rate in chips/s. 05_tracking R106. Reset: 0. -/
  codeRate : Rat := 0
  /-- Carrier prompt of the last dump. 05_tracking R106. Reset: none. -/
  prev : Option Cplx := none
  /-- Length of the last dump in s. 05_tracking R115. Reset: 0. -/
  dumpT : Rat := 0
  /-- |ef| and |ec| of the last dumps, newest first, at most 20. 05_tracking R104. Reset: empty. -/
  pullWin : List (Rat × Rat) := []
  /-- |ec| of the last second with the tick of its dump, newest first. 05_tracking R104. Reset: empty. -/
  ecWin : List (Nat × Rat) := []
  /-- Terms of PLI, newest first, at most PLI_N. 05_tracking R116. Reset: empty. -/
  pliWin : List Rat := []
  /-- |VE|, |P| and |VL| of the last dumps, newest first, at most BUMP_N. 05_tracking R102. Reset: empty. -/
  bumpWin : List (Rat × Rat × Rat) := []
  /-- C/N0 window: dumps, sums of |P|², |N|², |P| and |MM|. 05_tracking R103, R115. Reset: 0. -/
  cnWin : Nat × Rat × Rat × Rat × Rat := (0, 0, 0, 0, 0)
  /-- Tick at which that window began. 05_tracking R115. Reset: 0. -/
  cnFrom : Rat := 0
  /-- C/N0 in dB-Hz as last computed. 05_tracking R115. Reset: none. -/
  cn0 : Option Rat := none
  /-- Δ of the multipath metric. 05_tracking R103. Reset: 0. -/
  delta : Rat := 0
  /-- MP_SUSPECT. 05_tracking R103. Reset: false. -/
  mp : Bool := false
  /-- Tick since which C/N0 has been below WEAK_CN0. 05_tracking R105. Reset: none. -/
  weakSince : Option Nat := none
  /-- Tick since which C/N0 has been at or above WEAK_CN0 + WEAK_HYST. 05_tracking R104, R105. Reset: none. -/
  strongSince : Option Nat := none
  /-- Tick since which C/N0 has been below LOSS_CN0. 05_tracking R104. Reset: none. -/
  lossSince : Option Nat := none
  /-- Weak settings. 05_tracking R105. Reset: false. -/
  weak : Bool := false
  /-- Switch of the settings that takes effect at the next T_W boundary. 05_tracking R105. Reset: none. -/
  weakTo : Option Bool := none
  /-- Consecutive hollow dumps. 05_tracking R108. Reset: 0. -/
  hollow : Nat := 0
  /-- Tick at which coasting began. 05_tracking R99. Reset: none. -/
  coast : Option Nat := none
  /-- The first full dump is to be checked as after hollow dumps (return from retention). 15_power R375. Reset: false. -/
  recheck : Bool := false
  /-- Sign changes between primary-code dumps with their numbers, newest first. 05_tracking R111. Reset: empty. -/
  signs : List (Nat × Bool) := []
  /-- Primary code periods since entry to TRACK. 05_tracking R111. Reset: 0. -/
  dumpNo : Nat := 0
  /-- d_k of the present full period or pass, newest first. 05_tracking R112, R113. Reset: empty. -/
  dks : List Rat := []
  /-- Rotation that won the last full period at a sufficient score. 05_tracking R112. Reset: none. -/
  won : Option Nat := none
  /-- Tap 5 of the last dump of an unsynchronised L2C channel. 05_tracking R113. Reset: none. -/
  clPrev : Option Cplx := none
  /-- Magnitudes of the CL candidates tested in this pass, newest first. 05_tracking R113. Reset: empty. -/
  clMags : List Rat := []
  /-- Bit, secondary-code or overlay synchronisation: the rotation in force. 05_tracking R111–R113. Reset: none. -/
  sync : Option Nat := none
  /-- HALF_KNOWN. 05_tracking R114. Reset: false. -/
  halfKnown : Bool := false
  /-- WCHG of the next latch. 05_tracking R109. Reset: false. -/
  wchg : Bool := false
  /-- Tick of the last lock-time restart. 05_tracking R104, 06_measurements R140. Reset: none. -/
  lockTick : Option Nat := none
  /-- ST of that restart. 06_measurements R137. Reset: 0. -/
  lockSt : Rat := 0
  /-- Carrier cycles of the replica, nominal carrier included, since that restart. 06_measurements R137. Reset: 0. -/
  cycles : Rat := 0
  /-- Transmit time of the replica's code phase at the last dump's end, in s, as far as its level knows it. 06_measurements R135. Reset: 0. -/
  tx : Rat := 0
  /-- PR_LEVEL (2). 06_measurements R135. Reset: 0. -/
  level : Nat := 0
  /-- N0. 06_measurements R137. Reset: none. -/
  n0 : Option Int := none
  /-- Half cycle resolved from data, and whether 0.5 cycle was added. 06_measurements R138. Reset: none. -/
  half : Option Bool := none
  /-- HALF_ADJ of the next entry. 06_measurements R138. Reset: false. -/
  halfAdj : Bool := false
  /-- HALF_UNRES forced by a polarity conflict. 06_measurements R143. Reset: false. -/
  conflict : Bool := false
  /-- RESTART of the next entry. 06_measurements R140. Reset: false. -/
  restarted : Bool := false
  /-- A beam channel uses beam weights. 05_tracking R125. Reset: false. -/
  beam : Bool := false
  /-- Tick since which the beam conditions have held. 05_tracking R125. Reset: none. -/
  beamOk : Option Nat := none
  /-- Beam weights in force per antenna. 05_tracking R126. Reset: none. -/
  beamW : Option (List Cplx) := none
  /-- Beam weights that act from the first sample of the next stream millisecond, with its instant. 05_tracking R126. Reset: none. -/
  beamNext : Option (Int × List Cplx) := none
  /-- Search task that handed the signal over. 05_tracking R104. Reset: none. -/
  task : Option AcqTask := none
  /-- The NAV channel that a beam channel is taking over. 05_tracking R127. Reset: none. -/
  takes : Option TrkChan := none
  /-- Tick at which that takeover started. 05_tracking R127. Reset: 0. -/
  takeAt : Nat := 0
  /-- Predicted Doppler at L1 in Hz and range in m when the channel was lost. 04_acquisition R85. Reset: none. -/
  lostView : Option (Rat × Rat) := none
  /-- Soft symbols of the second, newest first. 05_tracking R100. Reset: empty. -/
  soft : List Int := []
  deriving DecidableEq, Repr

/-- The tracking bank (05_tracking). -/
structure TrkState where
  /-- Channels 0–1,535, sparse over an IDLE channel. 05_tracking R97. Reset: empty, all IDLE. -/
  chan : List (Nat × Chan) := []
  /-- Signals not to be retried by a beam before a tick. 05_tracking R127. Reset: empty. -/
  beamHold : List (SearchTarget × Nat) := []
  deriving DecidableEq, Repr

/-! ### 06_measurements -/

/-- A measurement entry (06_measurements Table 06-8). -/
structure MeasEntry where
  /-- CHAN (11). 06_measurements Table 06-8. -/
  chan : Nat
  /-- Signal and satellite (SIG, SV, FCN). 06_measurements Table 06-8. -/
  target : SearchTarget
  /-- ROLE. 06_measurements Table 06-8. -/
  role : ChanRole
  /-- ANT (2). 06_measurements Table 06-8. -/
  ant : Nat
  /-- PR_LEVEL (2). 06_measurements Table 06-8. -/
  level : Nat
  /-- ρ in m. 06_measurements R136. -/
  pr : Rat
  /-- Φ in cycles. 06_measurements R137. -/
  phase : Rat
  /-- D in Hz. 06_measurements R139. -/
  doppler : Rat
  /-- C/N0 in dB-Hz. 06_measurements R140. -/
  cn0 : Rat
  /-- Lock time in ms. 06_measurements R140. -/
  lockMs : Nat
  /-- STATE (3). 06_measurements Table 06-8. -/
  state : Nat
  /-- PR_VALID. 06_measurements Table 06-2. -/
  prValid : Bool
  /-- PH_VALID. 06_measurements Table 06-2. -/
  phValid : Bool
  /-- DOP_VALID. 06_measurements Table 06-2. -/
  dopValid : Bool
  /-- HALF_UNRES. 06_measurements R138. -/
  halfUnres : Bool
  /-- HALF_ADJ. 06_measurements R138. -/
  halfAdj : Bool
  /-- RESTART. 06_measurements R140. -/
  restart : Bool
  /-- COASTING. 06_measurements R140. -/
  coasting : Bool
  /-- WCHG. 06_measurements R140. -/
  wchg : Bool
  /-- MP_SUSPECT. 06_measurements R140. -/
  mp : Bool
  /-- Δ. 06_measurements R140. -/
  delta : Rat
  /-- CAL_CONV. 06_measurements Table 06-8. -/
  calConv : Bool
  /-- AIDED. 06_measurements Table 06-8. -/
  aided : Bool
  deriving DecidableEq, Repr

/-- An epoch record (06_measurements R146). -/
structure EpochRec where
  /-- t_e in s. 06_measurements Table 06-6. -/
  t : Rat
  /-- INT (3). 06_measurements Table 06-6. -/
  int : Nat
  /-- ALIGNED. 06_measurements Table 06-6. -/
  aligned : Bool
  /-- CLK_STEP. 06_measurements Table 06-6. -/
  clkStep : Bool
  /-- SOURCE (2). 06_measurements Table 06-6. -/
  source : Nat
  /-- GNSS_USABLE. 06_measurements Table 06-6. -/
  usable : Bool
  /-- SEQ (16). 06_measurements Table 06-6. -/
  seq : Nat
  /-- T_UNC (16). 06_measurements Table 06-6. -/
  unc : Nat
  /-- Antenna blocks: antenna and its 16 bytes. 06_measurements Table 06-7. -/
  ants : List (Nat × List Byte)
  /-- Entries in ascending channel order. 06_measurements R146. -/
  entries : List MeasEntry
  /-- Rate of the mapping at the latch. 06_measurements R139. -/
  rate : Rat
  deriving DecidableEq, Repr

/-- An issue of ephemeris: issue of data and the ST seconds of its fit interval (07_solver R162). -/
structure Issue where
  /-- Issue of data. 07_solver R162. -/
  iod : Nat
  /-- First second. 07_solver R162. -/
  from_ : Nat
  /-- Last second. 07_solver R162. -/
  until_ : Nat
  /-- Its decoded bits. 06_measurements R145. -/
  bits : List Bool
  deriving DecidableEq, Repr

/-- What the ephemeris and almanac store holds of a satellite (06_measurements R145, 07_solver R161, R162). -/
structure EphEntry where
  /-- Satellite. 07_solver R162. -/
  sat : SatId
  /-- Current and previous issue, from broadcast or confirmed by it. 07_solver R162. -/
  issues : List Issue
  /-- Issue from a host assistance frame, not yet confirmed. 07_solver R162. -/
  assist : Option Issue
  /-- Almanac bits. 06_measurements R145. -/
  almanac : Option (List Bool)
  /-- Unhealthy as a whole. 07_solver R161. -/
  bad : Bool
  /-- Unhealthy signals. 07_solver R161. -/
  badSigs : List Nat
  deriving DecidableEq, Repr

/-- A record of the measurement ring (06_measurements R148). -/
inductive RingRec where
  /-- An epoch record. 06_measurements R146. -/
  | epoch (r : EpochRec)
  /-- A navigation record: ST of its writing and its bytes. 06_measurements R147. -/
  | nav (t : Rat) (bytes : List Byte)
  /-- A symbol record: ST of its writing and its bytes. 06_measurements R147. -/
  | symbols (t : Rat) (bytes : List Byte)
  deriving DecidableEq, Repr

/-- The measurement and navigation-bit unit (06_measurements). -/
structure MsrState where
  /-- Measurement ring, oldest first: 16 epochs at 1,536 entries, and the navigation and symbol records. 06_measurements R148. Reset: empty. -/
  ring : List RingRec := []
  /-- Last epoch record, as the farm's history copies it. 06_measurements R146. Reset: none. -/
  lastRec : Option EpochRec := none
  /-- ST of the last epoch. 06_measurements R132. Reset: none. -/
  lastEpoch : Option Rat := none
  /-- Next epoch sequence (16). 06_measurements Table 06-6. Reset: 0. -/
  seq : Nat := 0
  /-- Leap-second count held. 06_measurements R134. Reset: none. -/
  leap : Option Nat := none
  /-- Broadcast offsets of the constellations' system times from GPS time in s. 07_solver R164. Reset: empty. -/
  offsets : List (Constellation × Rat) := []
  /-- Coefficients of the GPS broadcast ionosphere model. 07_solver R163. Reset: empty. -/
  iono : List Rat := []
  /-- ST second of the last station messages. 06_measurements R151. Reset: none. -/
  stationS : Option Nat := none
  /-- RTCM_ACTIVE. 06_measurements Table 06-17. Reset: 0. -/
  rtcmActive : Bool := false
  /-- Ephemeris and almanac store. 06_measurements R145. Reset: empty. -/
  eph : List EphEntry := []
  /-- LNAV data bits kept for the farm: satellite, ST of the first bit (64), bits, newest first. 08_snapshot_farm R197. Reset: empty. -/
  lnav : List (SatId × Nat × List Bool) := []
  /-- Calibration updates made (16). 06_measurements Table 06-7 CAL_SEQ. Reset: 0. -/
  calSeq : Nat := 0
  deriving DecidableEq, Repr

/-! ### 07_solver -/

/-- A correction item (07_solver R175–R177). -/
structure CorrItem where
  /-- Kind: 2 code bias, 3 phase bias, 4 slant ionosphere, 5 troposphere, 6 satellite flags, 7 orbit, 8 clock, 9 URA, 10 VTEC, 11 high-rate clock. 07_solver Table 07-7, Table 07-6. -/
  kind : Nat
  /-- Satellite, none where the kind names none. 07_solver Table 07-8. -/
  sat : Option SatId
  /-- Signal index of a bias. 07_solver Table 07-8. -/
  sig : Nat
  /-- IOD of an orbit. 07_solver Table 07-8. -/
  iod : Nat
  /-- Reference time in ST seconds. 07_solver Table 07-7 T_REF. -/
  ref : Nat
  /-- Fields by value, in the order of Table 07-8. 07_solver Table 07-8. -/
  vals : List Int
  /-- Latitude and longitude of the area point in 10⁻⁷°. 07_solver Table 07-7. -/
  area : Option (Int × Int)
  /-- The orbit's issue was not held when it came: it waits. 07_solver R177. -/
  waits : Bool
  deriving DecidableEq, Repr

/-- A correction envelope that waits in the input partition (07_solver R171–R173). -/
structure Envelope where
  /-- KEY_ID (8). 07_solver Table 07-5. -/
  key : Nat
  /-- FORMAT (2). 07_solver Table 07-5. -/
  format : Nat
  /-- ST_ISSUE (64). 07_solver Table 07-5. -/
  issue : Nat
  /-- Header and content, which the signature covers. 07_solver R171. -/
  signed : List Byte
  /-- Signature. 07_solver R171. -/
  sig : List Byte
  deriving DecidableEq, Repr

/-- The numbers of a position filter at its last epoch. -/
structure FilterMem where
  /-- t_e in s. 07_solver R157. -/
  t : Rat
  /-- What it predicted for that epoch. 07_solver R183. -/
  pre : Filt
  /-- The rows that it used. 07_solver R183. -/
  rows : List ObsRow
  /-- Its estimate. 07_solver R163, R166. -/
  post : Filt
  deriving DecidableEq, Repr

/-- A double-difference ambiguity of the attitude filter (07_solver R181). -/
structure AttAmb where
  /-- State of the filter. 07_solver R181. -/
  place : Nat
  /-- Antenna of the baseline. 07_solver R181. -/
  ant : Port
  /-- Signal and satellite. 07_solver R181. -/
  target : SearchTarget
  /-- The satellite that it is differenced against. 07_solver R181. -/
  pivot : SatId
  deriving DecidableEq, Repr

/-- The numbers of the attitude filter. -/
structure AttMem where
  /-- t_e in s. 07_solver R157. -/
  t : Rat
  /-- Heading, pitch and roll in degrees at which it is linearised. 07_solver R181. -/
  angles : Rat × Rat × Rat
  /-- Rotation about east, north and up in rad, angular rate in rad/s, ambiguities in cycles. 07_solver R181. -/
  filt : Filt
  /-- Its ambiguities. 07_solver R181. -/
  amb : List AttAmb
  deriving DecidableEq, Repr

/-- An ambiguity of the precise filter (07_solver R167, R178–R180). -/
structure AmbState where
  /-- State of the filter, 103–319. 07_solver Table 07-3. -/
  place : Nat
  /-- The state starts anew at the next precise epoch. 07_solver R158, R174, R177. -/
  fresh : Bool
  /-- Signal. 07_solver R178. -/
  sig : Nat
  /-- Satellite. 07_solver R178. -/
  sat : SatId
  /-- Integer fixed at the last precise epoch. 07_solver R180. -/
  fixed : Option Int
  /-- Consecutive precise epochs with that integer. 07_solver R180. -/
  run : Nat
  /-- Held. 07_solver R180. -/
  held : Bool
  deriving DecidableEq, Repr

/-- A solution as its filter last yielded it (07_solver R163, R166). -/
structure SolRec where
  /-- t_e in s. 07_solver Table 07-9. -/
  t : Rat
  /-- The estimate. 07_solver R163. -/
  sol : Solution
  /-- TYPE (3). 07_solver Table 07-4. -/
  type : Nat
  /-- ATM flag. 07_solver Table 07-4. -/
  atm : Bool
  /-- Satellites used. 07_solver R160. -/
  used : List SatId
  deriving DecidableEq, Repr

/-- Protection levels of one solution (07_solver R183, R184). -/
structure Levels where
  /-- ST of the evaluation. 07_solver R184. -/
  t : Rat
  /-- HPL in cm. 07_solver R183. -/
  h : Rat
  /-- VPL in cm. 07_solver R183. -/
  v : Rat
  /-- PL_VALID. 07_solver R183. -/
  valid : Bool
  deriving DecidableEq, Repr

/-- Attitude as last yielded (07_solver R181, R182). -/
structure AttRec where
  /-- t_e in s. 07_solver Table 07-11. Reset: 0. -/
  t : Rat := 0
  /-- HEADING (16). 07_solver Table 07-11. Reset: 0. -/
  heading : Nat := 0
  /-- PITCH (16). 07_solver Table 07-11. Reset: 0. -/
  pitch : Int := 0
  /-- ROLL (16). 07_solver Table 07-11. Reset: 0. -/
  roll : Int := 0
  /-- SIG_HDG (8). 07_solver Table 07-11. Reset: 255. -/
  sigHdg : Nat := 255
  /-- SIG_PR (8). 07_solver Table 07-11. Reset: 255. -/
  sigPr : Nat := 255
  /-- AXES (2). 07_solver R182. Reset: 0. -/
  axes : Nat := 0
  /-- R182 holds, apart from R185. 07_solver R182. Reset: false. -/
  ok : Bool := false
  /-- BASELINES (4). 07_solver Table 07-11. Reset: 0. -/
  baselines : Nat := 0
  /-- NSAT (8). 07_solver Table 07-11. Reset: 0. -/
  nsat : Nat := 0
  deriving DecidableEq, Repr

/-- The navigation solver (07_solver). -/
structure SolState where
  /-- Standalone solution. 07_solver R163. Reset: none. -/
  std : Option SolRec := none
  /-- Precise solution. 07_solver R166. Reset: none. -/
  prec : Option SolRec := none
  /-- The precise filter runs. 07_solver R157. Reset: false. -/
  precOn : Bool := false
  /-- Standalone filter. 07_solver R163. Reset: none. -/
  stdF : Option FilterMem := none
  /-- Precise filter. 07_solver R166. Reset: none. -/
  precF : Option FilterMem := none
  /-- Satellites of the slant ionosphere states 39–102. 07_solver Table 07-3. Reset: empty. -/
  iono : List (Nat × SatId) := []
  /-- Ambiguities of the precise filter. 07_solver R167, R178. Reset: empty. -/
  amb : List AmbState := []
  /-- Phase wind-up of the satellites in cycles, so that it runs on. 07_solver R168. Reset: empty. -/
  wind : List (SatId × Rat) := []
  /-- Attitude filter. 07_solver R181. Reset: none. -/
  attF : Option AttMem := none
  /-- Signals with RESTART or WCHG since the last precise epoch: of an ARRAY entry, antenna, signal. 07_solver R158, R185. Reset: empty. -/
  resets : List (Bool × Nat × SearchTarget) := []
  /-- The same since the last attitude epoch. 07_solver R158. Reset: empty. -/
  attResets : List (Bool × Nat × SearchTarget) := []
  /-- Time solution as last yielded, with t_e, whether it was formed, VIA_OFFSET, satellites. 07_solver R164. Reset: none. -/
  time : Option (Rat × ClockSolution × Bool × Nat) := none
  /-- TIME_VALID (1). 07_solver R164. Reset: 0. -/
  timeValid : Bool := false
  /-- Position hold: the held position. 07_solver R165. Reset: none. -/
  hold : Option Position := none
  /-- ST since which the precise solution has held TYPE 4 below 0.1 m/s. 07_solver R165. Reset: none. -/
  holdSince : Option Rat := none
  /-- Attitude. 07_solver R181. Reset: as in its own lines. -/
  att : AttRec := {}
  /-- ST at which ATT_VALID last held, with that attitude. 07_solver R54. Reset: none. -/
  attLast : Option (Rat × AttRec) := none
  /-- Protection levels of the standalone and of the precise solution. 07_solver R183. Reset: none. -/
  levels : Vector (Option Levels) 2 := Vector.replicate 2 none
  /-- INTEG_FAIL of the evaluation in force. 07_solver R184. Reset: 0. -/
  fail : Bool := false
  /-- Satellites excluded by fault detection, with the ST of their exclusion. 07_solver R183. Reset: empty. -/
  excl : List (SatId × Rat) := []
  /-- Views of the satellites as last predicted. 07_solver Table 07-13. Reset: empty. -/
  view : List SatView := []
  /-- Last position with PVT_VALID: position, ST, 95 % horizontal bound in mm. 03_array R54, 04_acquisition R86. Reset: none. -/
  lastPos : Option (Position × Rat × Nat) := none
  /-- Published TYPE, PVT_VALID, VEL_VALID, ATT_VALID, INTEG_FAIL, as last reported. 07_solver R186. Reset: 0. -/
  shown : Nat × Bool × Bool × Bool × Bool := (0, false, false, false, false)
  /-- Last epoch processed or skipped by the standalone, precise and attitude filters and by integrity. 07_solver R156, R157. Reset: none. -/
  done : Vector (Option Rat) 4 := Vector.replicate 4 none
  /-- Published solutions, counted for OUT_DIV. 07_solver R186. Reset: 0. -/
  count : Nat := 0
  /-- ST second of the last NMEA sentences. 07_solver R188. Reset: none. -/
  nmeaS : Option Nat := none
  /-- ST second of the last satellite record. 07_solver R186. Reset: none. -/
  satS : Option Nat := none
  /-- Active key. 07_solver R174. Reset: none. -/
  key : Option Nat := none
  /-- Corrections of the active key. 07_solver R177. Reset: empty. -/
  corr : List CorrItem := []
  /-- Last accepted ST_ISSUE of each KEY_ID. 07_solver R172. Reset: empty. -/
  issues : List (Nat × Nat) := []
  /-- Correction and assistance input partition, oldest first. 07_solver R173. Reset: empty. -/
  env : List Envelope := []
  /-- Envelope under verification, with the ST at which its last common slot ends. 07_solver R173. Reset: none. -/
  verify : Option (Envelope × Rat) := none
  deriving DecidableEq, Repr

/-! ### 08_snapshot_farm -/

/-- A snapshot in the store: the descriptor of Table 08-1 and its samples. -/
structure Snapshot where
  /-- CTX (10). 08_snapshot_farm Table 08-1. -/
  ctx : Nat
  /-- CLASS (2). 08_snapshot_farm Table 08-1. -/
  cls : Nat
  /-- STILL (1). 08_snapshot_farm Table 08-1. -/
  still : Bool
  /-- INV (1). 08_snapshot_farm Table 08-1. -/
  inv : Bool
  /-- CAPTURE_ST (64). 08_snapshot_farm Table 08-1. -/
  captureSt : Nat
  /-- STAMP_UNC (8). 08_snapshot_farm Table 08-1. -/
  stampUnc : Nat
  /-- AFC in 20 Hz. 08_snapshot_farm Table 08-1. -/
  afc : Int
  /-- F_LINK in Hz. 08_snapshot_farm Table 08-1. -/
  fLink : Nat
  /-- RSSI in dBm. 08_snapshot_farm Table 08-1. -/
  rssi : Int
  /-- SEQ (16). 08_snapshot_farm Table 08-1. -/
  seq : Nat
  /-- Captured before first alignment. 08_snapshot_farm Table 08-2. -/
  early : Bool
  /-- Tick of delivery: eligible from the polder's next slot. 08_snapshot_farm R214. -/
  tick : Nat
  /-- Samples, 5,115 bytes. 08_snapshot_farm R194. -/
  samples : List Byte
  deriving DecidableEq, Repr

/-- A queued farm result: header fields by value and satellite entries (08_snapshot_farm Tables 08-4, 08-5). -/
structure FarmResult where
  /-- CLASS (2). 08_snapshot_farm Table 08-4. -/
  cls : Nat
  /-- CTX (10). 08_snapshot_farm Table 08-4. -/
  ctx : Nat
  /-- Header without LOST, as one 512-bit number. 08_snapshot_farm Table 08-4. -/
  header : Nat
  /-- LOST (1). 08_snapshot_farm Table 08-4. -/
  lost : Bool
  /-- Satellite entries of 64 bits. 08_snapshot_farm Table 08-5. -/
  entries : List Nat
  deriving DecidableEq, Repr

/-- A satellite of a history entry (08_snapshot_farm R197). -/
structure HistSat where
  /-- Satellite. 08_snapshot_farm R197. -/
  sat : SatId
  /-- PR in m. 08_snapshot_farm R197. -/
  pr : Rat
  /-- DOPPLER in Hz. 08_snapshot_farm R197. -/
  doppler : Rat
  /-- CN0 in dB-Hz. 08_snapshot_farm R197. -/
  cn0 : Rat
  /-- REASON of SOL.SAT. 08_snapshot_farm R197. -/
  reason : Nat
  deriving DecidableEq, Repr

/-- The history entry of a whole second (08_snapshot_farm R197); a second with no entry is absent. -/
structure HistEntry where
  /-- ST second. 08_snapshot_farm R197. -/
  sec : Nat
  /-- ALIGNED. 08_snapshot_farm R197. -/
  aligned : Bool
  /-- GNSS_USABLE. 08_snapshot_farm R197. -/
  usable : Bool
  /-- Rate of the mapping, for δ_gw. 08_snapshot_farm R200. -/
  rate : Rat
  /-- Position of REF. 08_snapshot_farm R197. -/
  ref : Option Position
  /-- Satellites. 08_snapshot_farm R197. -/
  sats : List HistSat
  /-- Tick at which the entry was complete. 08_snapshot_farm R198. -/
  tick : Nat
  deriving DecidableEq, Repr

/-- A polder's farm share (08_snapshot_farm R211–R213). -/
structure FarmShare where
  /-- Waiting snapshots, in order of delivery. 08_snapshot_farm R211. Reset: empty. -/
  store : List Snapshot := []
  /-- Result queue, head first. 08_snapshot_farm R212. Reset: empty. -/
  results : List FarmResult := []
  /-- The next result carries LOST. 08_snapshot_farm R211, R212. Reset: false. -/
  lostNext : Bool := false
  /-- CREDIT_LOW (1). 08_snapshot_farm Table 08-6. Reset: 0. -/
  creditLow : Bool := false
  deriving DecidableEq, Repr

/-- The snapshot farm (08_snapshot_farm). -/
structure SnfState where
  /-- Reference history, newest first, at most 64 seconds. 08_snapshot_farm R197. Reset: empty. -/
  history : List HistEntry := []
  /-- Shares of the polders. 08_snapshot_farm R211. Reset: as in their own lines. -/
  share : Vector FarmShare 8 := Vector.replicate 8 {}
  /-- Job in the running slot: its polder, snapshot and result, and whether the result is to be discarded. 08_snapshot_farm R207, R214. Reset: none. -/
  job : Option (Polder × FarmResult × Bool) := none
  /-- ST second and slot last started. 08_snapshot_farm R207. Reset: none. -/
  slot : Option (Nat × Nat) := none
  deriving DecidableEq, Repr

/-! ### 09_sky_time: the mapping, the selector, pulses, captures and the scheduler -/

/-- A segment of the mapping from ticks to sky time (09_sky_time R219). -/
structure MapSeg where
  /-- Anchor tick T_k. 09_sky_time R219. Reset: 0. -/
  tick : Nat := 0
  /-- ST at the anchor, in seconds. 09_sky_time R219. Reset: 0. -/
  st : Rat := 0
  /-- Rate r_k, in seconds per tick. 09_sky_time R219. Reset: 1/491,520,000. -/
  rate : Rat := 1 / 491520000
  deriving DecidableEq, Repr

/-- A source of Table 09-1. -/
inductive Source where
  | gnss | ext | free
  deriving DecidableEq, Repr

/-- The coarse correction held before first alignment (09_sky_time R221). -/
structure Seed where
  /-- SEED in seconds. 09_sky_time R221. -/
  value : Rat
  /-- Uncertainty stated with it, in ns. 09_sky_time R221. -/
  unc : Rat
  /-- Tick at which it was taken. 09_sky_time R221. -/
  tick : Nat
  deriving DecidableEq, Repr

/-- A time solution as the selector uses it (09_sky_time R228, R229). -/
structure TimeRef where
  /-- Mapped ST of its epoch. 09_sky_time R229. -/
  st : Rat
  /-- Tick of its epoch. 09_sky_time R229. -/
  tick : Nat
  /-- OFFSET in seconds. 09_sky_time R228. -/
  offset : Rat
  /-- DRIFT in s/s. 09_sky_time R228. -/
  drift : Rat
  /-- SIGMA in ns. 09_sky_time R225. -/
  sigma : Rat
  /-- Rate of the mapping at its epoch. 09_sky_time R228. -/
  rate : Rat
  deriving DecidableEq, Repr

/-- A scheduler entry (09_sky_time Table 09-4) with what its index keeps. -/
structure SchedEntry where
  /-- Due ST (64). 09_sky_time Table 09-4. -/
  st : Nat
  /-- INST (12). 09_sky_time Table 09-4. -/
  inst : Nat
  /-- KIND (4). 09_sky_time Table 09-4. -/
  kind : Nat
  /-- CLASS (2). 09_sky_time Table 09-4. -/
  cls : Nat
  /-- OWNER (4): 0–7 polder, 8 common. 09_sky_time Table 09-4. -/
  owner : Nat
  /-- OP (10). 09_sky_time Table 09-4. -/
  op : Nat
  /-- ARG (32). 09_sky_time Table 09-4. -/
  arg : Nat
  /-- Handle within the owner's quota. 09_sky_time R243. -/
  handle : Nat
  /-- Arming order. 09_sky_time R239. -/
  order : Nat
  /-- Ticks by which R242 has delayed it so far. 09_sky_time R242. -/
  delay : Nat
  /-- Moved to or before an alignment or step anchor. 09_sky_time R223. -/
  late : Bool
  deriving DecidableEq, Repr

/-- A completion record (09_sky_time Table 09-7). -/
structure Completion where
  /-- FIRED_ST (64). 09_sky_time Table 09-7. -/
  firedSt : Nat
  /-- ARG (32). 09_sky_time Table 09-7. -/
  arg : Nat
  /-- HANDLE (17). 09_sky_time Table 09-7. -/
  handle : Nat
  /-- KIND (3). 09_sky_time Table 09-7. -/
  kind : Nat
  /-- LATE (1). 09_sky_time Table 09-7. -/
  late : Bool
  /-- DELAYED (1). 09_sky_time Table 09-7. -/
  delayed : Bool
  /-- SUPPRESSED (1). 09_sky_time Table 09-7. -/
  suppressed : Bool
  /-- DELAY (8), saturating. 09_sky_time Table 09-7. -/
  delay : Nat
  deriving DecidableEq, Repr

/-- A polder's scheduler window beyond its W fields (09_sky_time Table 09-6). -/
structure SchedWindow where
  /-- NOW as last latched (64). 09_sky_time Table 09-6. Reset: 0. -/
  now : Nat := 0
  /-- RESULT (3). 09_sky_time Table 09-6. Reset: 0. -/
  result : Nat := 0
  /-- Completion records, head first, at most 16. 09_sky_time R244. Reset: empty. -/
  done : List Completion := []
  deriving DecidableEq, Repr

/-- A time-pulse output (09_sky_time R235, R236). -/
structure PulseState where
  /-- The output is at its active level. 09_sky_time R235. Reset: false. -/
  active : Bool := false
  /-- Edge decided ahead of time: its ST, and whether it is emitted. 09_sky_time R236. Reset: none. -/
  decided : Option (Rat × Bool) := none
  /-- ST of the last active edge, none when its inactive edge has fired. 09_sky_time R235. Reset: none. -/
  edge : Option Rat := none
  /-- Fine delay steps of the last active edge (0–31). 09_sky_time R235. Reset: 0. -/
  fine : Nat := 0
  /-- Emitted at its last decision (TP_ON). 09_sky_time Table 09-15. Reset: 0. -/
  on : Bool := false
  deriving DecidableEq, Repr

/-- An event input (09_sky_time R237). -/
structure EventState where
  /-- Tick of the last recorded capture. 09_sky_time R237. Reset: none. -/
  last : Option Nat := none
  /-- Edges held off since the previous record (8), saturating. 09_sky_time Table 09-3. Reset: 0. -/
  held : Nat := 0
  /-- Next capture sequence (16). 09_sky_time Table 09-3. Reset: 0. -/
  seq : BitVec 16 := 0
  deriving DecidableEq, Repr

/-- Sky time and the scheduler (09_sky_time). -/
structure SkyState where
  /-- The tick counter runs. 09_sky_time R218. Reset: false. -/
  run : Bool := false
  /-- Local tick counter (64). 09_sky_time R218. Reset: 0. -/
  tick : Nat := 0
  /-- Fractional accumulator of the LAYUP count (32). 09_sky_time R218. Reset: 0. -/
  frac : BitVec 32 := 0
  /-- Segment in force. 09_sky_time R219. Reset: ST 0 at tick 0, rate 1/491,520,000. -/
  seg : MapSeg := {}
  /-- Segments in force before it, newest first, as far back as a waiting snapshot can reach. 09_sky_time R219, 08_snapshot_farm R200. Reset: empty. -/
  past : List MapSeg := []
  /-- Segment whose anchor is still ahead (the 5 ms point of a switch). 09_sky_time R219. Reset: none. -/
  next : Option MapSeg := none
  /-- SEED. 09_sky_time R221. Reset: none. -/
  seed : Option Seed := none
  /-- Step decided for first alignment, SEED − OFFSET of its epoch, in seconds. 09_sky_time R222. Reset: none. -/
  alignDecided : Option Rat := none
  /-- Tick of the anchor of a step decided, of first alignment or a permitted one. 09_sky_time R219. Reset: 0. -/
  anchorAt : Nat := 0
  /-- ST at the anchor of first alignment. 09_sky_time R222, 08_snapshot_farm Table 08-2. Reset: none. -/
  alignedAt : Option Rat := none
  /-- SOURCE (2). 09_sky_time Table 09-15. Reset: FREE. -/
  source : Source := .free
  /-- SWITCHING (1). 09_sky_time R229. Reset: 0. -/
  switching : Bool := false
  /-- TARGET (2). 09_sky_time R229. Reset: FREE. -/
  target : Source := .free
  /-- Source for which a permitted step has been decided. 09_sky_time R224. Reset: none. -/
  stepTo : Option Source := none
  /-- tick_S of the last steering source, in seconds per tick. 09_sky_time R228, R230. Reset: 1/491,520,000. -/
  tickS : Rat := 1 / 491520000
  /-- e of the last ordinary update, in seconds. 09_sky_time R228. Reset: 0. -/
  e : Rat := 0
  /-- r of the last 10 ms boundary, in seconds. 09_sky_time R229. Reset: 0. -/
  r : Rat := 0
  /-- UNC at entry to FREE in ns, and the tick of entry. 09_sky_time R225. Reset: none. -/
  freeUnc : Option (Rat × Nat) := none
  /-- Latest time solution with TIME_VALID. 09_sky_time R228. Reset: none. -/
  sol : Option TimeRef := none
  /-- Latest time solution with TIME_TRUSTED. 09_sky_time R229. Reset: none. -/
  trustedSol : Option TimeRef := none
  /-- GNSS is available without a GNSS_RETURN run, from the alignment anchor until first lost. 09_sky_time R222. Reset: false. -/
  gnssFresh : Bool := false
  /-- Tick since which TIME_TRUSTED has held without a gap. 09_sky_time R226. Reset: none. -/
  trustedSince : Option Nat := none
  /-- GNSS_RETURN has elapsed in the present run. 09_sky_time R226. Reset: false. -/
  gnssReturned : Bool := false
  /-- Tick of the last EXT_PPS edge. 09_sky_time R227. Reset: none. -/
  extLast : Option Nat := none
  /-- Tick of the first EXT_PPS edge of the unbroken run. 09_sky_time R227. Reset: none. -/
  extSince : Option Nat := none
  /-- EXT phases in seconds with the mapped ST of their edges, newest first, at most 11. 09_sky_time R227, R228. Reset: empty. -/
  extPhase : List (Rat × Rat) := []
  /-- Oscillator frequency record: tick of each window and fractional frequency, newest first. 09_sky_time R226. Reset: empty. -/
  model : List (Nat × Rat) := []
  /-- Consecutive windows in which GNSS, EXT and the model were the outlier. 09_sky_time R231. Reset: 0. -/
  outlier : Vector Nat 3 := Vector.replicate 3 0
  /-- DISQ: GNSS, EXT, model (3). 09_sky_time R231. Reset: 0. -/
  disq : Vector Bool 3 := Vector.replicate 3 false
  /-- Consecutive windows in which a disqualified comparator agreed with every other available one. 09_sky_time R233. Reset: 0. -/
  agree : Vector Nat 3 := Vector.replicate 3 0
  /-- Consecutive windows in which the only two comparators disagreed. 09_sky_time R232. Reset: 0. -/
  pairBad : Nat := 0
  /-- Consecutive windows in which they agreed. 09_sky_time R232. Reset: 0. -/
  pairGood : Nat := 0
  /-- UNDECIDED (1). 09_sky_time R232. Reset: 0. -/
  undecided : Bool := false
  /-- Time pulses TP0 and TP1. 09_sky_time R235. Reset: as in their own lines. -/
  tp : Vector PulseState 2 := Vector.replicate 2 {}
  /-- Event inputs EVT0–EVT3. 09_sky_time R237. Reset: as in their own lines. -/
  evt : Vector EventState 4 := Vector.replicate 4 {}
  /-- Scheduler entries (131,072 at most). 09_sky_time R238. Reset: empty. -/
  entries : List SchedEntry := []
  /-- Next arming order. 09_sky_time R239. Reset: 0. -/
  order : Nat := 0
  /-- Scheduler windows of the polders. 09_sky_time R243. Reset: as in their own lines. -/
  win : Vector SchedWindow 8 := Vector.replicate 8 {}
  /-- The epoch header to come carries CLK_STEP. 09_sky_time R224. Reset: false. -/
  clkStep : Bool := false
  deriving DecidableEq, Repr

/-! ### 10_tag_link -/

/-- States of a tag context (10_tag_link Table 10-6). -/
inductive CtxState where
  | empty | active | silent | retired
  deriving DecidableEq, Repr

/-- Where a queued downlink stands (10_tag_link R266–R271). -/
inductive FrameWait where
  /-- Armed as a kind 0 scheduler entry for its launch ST. -/
  | armed
  /-- Held: relaunches in a fitting slot. -/
  | held
  /-- On air. -/
  | onAir
  /-- Sent with ACK_REQ: its tag acknowledgement is awaited. -/
  | ack
  /-- No acknowledgement came: a retry is due. -/
  | retry
  deriving DecidableEq, Repr

/-- A downlink in a context's queue (10_tag_link R266). -/
structure Downlink where
  /-- Submission handle. 10_tag_link R266. -/
  handle : Nat
  /-- Channel. 10_tag_link Table 10-16. -/
  chan : Nat
  /-- ACK_REQ. 10_tag_link Table 10-16. -/
  ackReq : Bool
  /-- Class. 10_tag_link Table 10-16. -/
  cls : Nat
  /-- Requested power in dBm. 10_tag_link Table 10-16. -/
  pwr : Int
  /-- Payload. 10_tag_link Table 10-16. -/
  payload : List Byte
  /-- Scheduled ST in seconds. 10_tag_link R266. -/
  st : Rat
  /-- Where it stands. 10_tag_link R266–R271. -/
  wait : FrameWait
  /-- Launches made. 10_tag_link Table 10-8 ATTEMPTS. -/
  attempts : Nat
  /-- Launches made since the last fresh retry count. 10_tag_link R270. -/
  retries : Nat
  /-- FC of the last attempt. 10_tag_link Table 10-8. -/
  fc : Nat
  /-- ST of the last launch (64). 10_tag_link Table 10-8. -/
  lastSt : Nat
  /-- ST of the last attempt's last chip. 10_tag_link R259, R270. -/
  lastChip : Rat
  deriving DecidableEq, Repr

/-- A tag context (10_tag_link R268). -/
structure Ctx where
  /-- State. 10_tag_link Table 10-6. Reset: EMPTY. -/
  state : CtxState := .empty
  /-- AES-128 key. 10_tag_link R256. Reset: none. -/
  key : List Byte := []
  /-- TAG_ID (32). 10_tag_link Table 10-15. Reset: 0. -/
  tagId : Nat := 0
  /-- RETRY_MAX (4). 10_tag_link Table 10-15. Reset: 3. -/
  retryMax : Nat := 3
  /-- Last uplink FC accepted in this boot (32). 10_tag_link R257. Reset: none. -/
  lastFc : Option Nat := none
  /-- Next downlink FC (32). 10_tag_link R257. Reset: 0. -/
  downFc : Nat := 0
  /-- LAST_RX_ST (64). 10_tag_link R269. Reset: 0. -/
  lastRxSt : Nat := 0
  /-- RSSI of the last authenticated uplink. 10_tag_link R269. Reset: 0. -/
  rssi : Int := 0
  /-- RX_COUNT (32), saturating. 10_tag_link R269. Reset: 0. -/
  rxCount : Nat := 0
  /-- The next record carries LOST. 10_tag_link R273. Reset: false. -/
  lost : Bool := false
  /-- ST of the last liveness record. 10_tag_link R269. Reset: none. -/
  liveAt : Option Rat := none
  /-- Downlink queue (224 bytes). 10_tag_link R266. Reset: empty. -/
  queue : List Downlink := []
  deriving DecidableEq, Repr

/-- A receive record (10_tag_link Table 10-8). -/
structure RxRecord where
  /-- KIND (3). 10_tag_link Table 10-8. -/
  kind : Nat
  /-- CTX (10). 10_tag_link Table 10-8. -/
  ctx : Nat
  /-- CHAN (3). 10_tag_link Table 10-8. -/
  chan : Nat
  /-- TYPE (4). 10_tag_link Table 10-8. -/
  type : Nat
  /-- CLASS (2). 10_tag_link Table 10-8. -/
  cls : Nat
  /-- ACK (1). 10_tag_link Table 10-8. -/
  ack : Bool
  /-- LOST (1). 10_tag_link Table 10-8. -/
  lost : Bool
  /-- FC (32). 10_tag_link Table 10-8. -/
  fc : Nat
  /-- ST (64). 10_tag_link Table 10-8. -/
  st : Nat
  /-- AFC in 20 Hz. 10_tag_link Table 10-8. -/
  afc : Int
  /-- RSSI in dBm. 10_tag_link Table 10-8. -/
  rssi : Int
  /-- SYNC_ERRS (3). 10_tag_link Table 10-8. -/
  syncErrs : Nat
  /-- ATTEMPTS (4). 10_tag_link Table 10-8. -/
  attempts : Nat
  /-- OUTCOME (3). 10_tag_link Table 10-8. -/
  outcome : Nat
  /-- HANDLE (16). 10_tag_link Table 10-8. -/
  handle : Nat
  /-- Payload of LEN bytes. 10_tag_link R273. -/
  payload : List Byte
  deriving DecidableEq, Repr

/-- A reception in progress (10_tag_link R253–R255, R261). -/
structure Reception where
  /-- Header bits 63:0. 10_tag_link Table 10-2. -/
  header : Nat
  /-- Polder that owns the context. 10_tag_link R261. -/
  polder : Polder
  /-- FIRST_CHIP_ST in seconds. 10_tag_link R255. -/
  first : Rat
  /-- ST of the last chip. 10_tag_link R252. -/
  last : Rat
  /-- AFC in 20 Hz. 10_tag_link R254. -/
  afc : Int
  /-- RSSI in dBm. 10_tag_link R255. -/
  rssi : Int
  /-- Sync bit errors. 10_tag_link R253. -/
  syncErrs : Nat
  deriving DecidableEq, Repr

/-- What the transmitter is about to send or sends (10_tag_link R262, 11_radio_control R290). -/
inductive EmissionKind where
  /-- A polder's downlink: context and handle. -/
  | launch (p : Polder) (ctx handle : Nat)
  /-- The gateway acknowledgement of a frame received on a channel. -/
  | ack (p : Polder) (chan : Fin 8)
  /-- The beacon. -/
  | beacon
  deriving DecidableEq, Repr

/-- An emission in preparation or on air. -/
structure Emission where
  /-- Kind. 11_radio_control R290. -/
  kind : EmissionKind
  /-- Channel. 10_tag_link R251. -/
  chan : Fin 8
  /-- ST of the first chip, in seconds. 11_radio_control R282. -/
  t0 : Rat
  /-- Duration in seconds. 10_tag_link R252. -/
  dur : Rat
  /-- Requested power in 0.25 dBm. 11_radio_control R292. -/
  req : Int
  /-- Power admitted at the decision, in 0.25 dBm. 11_radio_control R290, R292. -/
  admitted : Option Int
  /-- The decision has been taken. 11_radio_control R290. -/
  decided : Bool
  /-- What is sent after the sync word, encrypted where the frame is. 10_tag_link R252, R258, R263. -/
  frame : List Byte
  deriving DecidableEq, Repr

/-- An authenticated frame whose acknowledgement is still to be decided, with the record it delivers (10_tag_link R258). -/
structure PendingAck where
  /-- Owning polder. 10_tag_link R258. -/
  polder : Polder
  /-- Context. 10_tag_link R258. -/
  ctx : Nat
  /-- FC of the frame. 10_tag_link R258. -/
  fc : Nat
  /-- ST of the frame's last chip. 10_tag_link R258. -/
  last : Rat
  /-- Record to deliver, none for a duplicate. 10_tag_link R257, R273. -/
  record : Option RxRecord
  /-- Snapshot payload of a SNAP frame, for the farm. 10_tag_link R272. -/
  snap : Option (List Byte)
  /-- Reception. 10_tag_link R254, R255. -/
  rx : Reception
  deriving DecidableEq, Repr

/-- The tag link (10_tag_link). -/
structure LnkState where
  /-- Contexts 0–1,023, sparse over an EMPTY context. 10_tag_link R268. Reset: empty, all EMPTY. -/
  ctx : List (Nat × Ctx) := []
  /-- Receptions in progress per channel. 10_tag_link R253. Reset: none. -/
  rx : Vector (Option Reception) 8 := Vector.replicate 8 none
  /-- Frames that await their acknowledgement's decision, per channel. 10_tag_link R258. Reset: none. -/
  ackDue : Vector (Option PendingAck) 8 := Vector.replicate 8 none
  /-- Authenticated snapshots on their way to the farm, per channel. 10_tag_link R272. Reset: none. -/
  snapDue : Vector (Option PendingAck) 8 := Vector.replicate 8 none
  /-- Receive queues of the polders, head first. 10_tag_link R273. Reset: empty. -/
  rxq : Vector (List RxRecord) 8 := Vector.replicate 8 []
  /-- TX_RESULT (3) per polder. 10_tag_link Table 10-16. Reset: 0. -/
  txResult : Vector Nat 8 := Vector.replicate 8 0
  /-- ROS_RESULT (2) per polder. 10_tag_link Table 10-16. Reset: 0. -/
  rosResult : Vector Nat 8 := Vector.replicate 8 0
  /-- Next submission handle per polder. 10_tag_link R266. Reset: 0 (DESIGN CHOICE, log entry 14). -/
  nextHandle : Vector Nat 8 := Vector.replicate 8 0
  /-- Emission in preparation. 16_clocks R409, 11_radio_control R290. Reset: none. -/
  prep : Option Emission := none
  /-- Emission on air. 10_tag_link R251. Reset: none. -/
  air : Option Emission := none
  /-- Alarm acknowledgement entries pending, oldest first, at most 32: context and FC. 10_tag_link R265. Reset: empty. -/
  alarmAcks : List (Nat × Nat) := []
  /-- Lone state. 10_tag_link R264. Reset: false. -/
  lone : Bool := false
  /-- Beacon periods on air without an authenticated uplink. 10_tag_link R264. Reset: 0. -/
  quietBeacons : Nat := 0
  /-- DPD_TRAINED (1). 10_tag_link R274. Reset: 0. -/
  dpdTrained : Bool := false
  /-- The beacon of this superframe went on air, so training can end. 10_tag_link R274. Reset: false. -/
  dpdPending : Bool := false
  /-- Measured t_PIPE in ns (16). 10_tag_link R267. Reset: 0. -/
  pipe : Nat := 0
  /-- Noise floors per channel in 0.25 dBm/MHz, −512 unavailable. 10_tag_link R275. Reset: −512. -/
  noise : Vector Int 8 := Vector.replicate 8 (-512)
  deriving DecidableEq, Repr

/-! ### 11_radio_control -/

/-- States of the RF sequencer (11_radio_control Table 11-1). -/
inductive RfState where
  | off | rx | txi | txe
  deriving DecidableEq, Repr

/-- A published solution as quiet transit sees it (11_radio_control R296–R298). -/
structure MotionSample where
  /-- ST in seconds. 11_radio_control R297. -/
  st : Rat
  /-- PVT_VALID and VEL_VALID. 11_radio_control R296. -/
  usable : Bool
  /-- VE, in mm/s. 11_radio_control R296. -/
  ve : Int
  /-- VN, in mm/s. 11_radio_control R296. -/
  vn : Int
  /-- VU, in mm/s. 11_radio_control R296. -/
  vu : Int
  /-- HGT in mm. 11_radio_control R296. -/
  hgt : Int
  deriving DecidableEq, Repr

/-- Duty use (11_radio_control R293): owner 0–7 polder, 8 common; channel; 10 s bin of ST; time on air in s. -/
structure DutyUse where
  /-- Owner. 11_radio_control R293. -/
  owner : Nat
  /-- Channel. 11_radio_control R293. -/
  chan : Nat
  /-- Bin number. 11_radio_control R293. -/
  bin : Nat
  /-- Seconds on air. 11_radio_control R293. -/
  use : Rat
  deriving DecidableEq, Repr

/-- Radio control and the regulatory guard (11_radio_control). -/
structure RfcState where
  /-- Sequencer state; it fixes LSW, LLNA_EN, LPA_EN and LPA_BIAS. 11_radio_control R281. Reset: OFF. -/
  seq : RfState := .off
  /-- SET (16). 11_radio_control R287. Reset: 0x0001. -/
  set : Nat := 1
  /-- Set that takes effect at the next slot boundary. 11_radio_control R288. Reset: none. -/
  setNext : Option Nat := none
  /-- BASIS (2). 11_radio_control Table 11-11. Reset: 0. -/
  basis : Nat := 0
  /-- ST of the last qualifying solution. 11_radio_control R289. Reset: none. -/
  lastQual : Option Rat := none
  /-- ST of the first solution of the run of R288. 11_radio_control R288. Reset: none. -/
  runFirst : Option Rat := none
  /-- The run of R288 has been met in this boot. 11_radio_control R288. Reset: false. -/
  runMet : Bool := false
  /-- Quiet transit by speed or climb. 11_radio_control R297. Reset: false. -/
  quiet : Bool := false
  /-- Q_CAUSE (2). 11_radio_control Table 11-11. Reset: 0. -/
  qCause : Nat := 0
  /-- QUIET pin level taken. 11_radio_control R299. Reset: 0 (DESIGN CHOICE, log entry 5). -/
  pin : Bool := false
  /-- Published solutions of the last 30 s, newest first. 11_radio_control R297. Reset: empty. -/
  motion : List MotionSample := []
  /-- ST of the first solution of the ground-altitude run. 11_radio_control R296. Reset: none. -/
  groundRun : Option Rat := none
  /-- Ground altitude in mm. 11_radio_control R296. Reset: none. -/
  ground : Option Int := none
  /-- ST of the first solution of the unbroken run that R298 asks for. 11_radio_control R298. Reset: none. -/
  exitRun : Option Rat := none
  /-- Duty use by owner, channel and bin. 11_radio_control R293. Reset: empty. -/
  duty : List DutyUse := []
  /-- End ST of the last emission per owner and channel. 11_radio_control R290. Reset: empty. -/
  lastEnd : List ((Nat × Nat) × Rat) := []
  /-- Power of the last admitted downlink per channel, in 0.25 dBm. 11_radio_control R292. Reset: none. -/
  lastPwr : Vector (Option Int) 8 := Vector.replicate 8 none
  /-- COEX_GNT level. 11_radio_control R301. Reset: 0 (DESIGN CHOICE, log entry 5). -/
  gnt : Bool := false
  /-- COEX_PRI level. 11_radio_control R302. Reset: 0 (DESIGN CHOICE, log entry 5). -/
  pri : Bool := false
  /-- COEX_REQ level. 11_radio_control R300. Reset: 0. -/
  req : Bool := false
  /-- An alarm channel receives a frame whose preamble it detected in an alarm slot. 11_radio_control R290. Reset: false. -/
  alarmRx : Vector Bool 8 := Vector.replicate 8 false
  /-- Profiles of OTP that passed R285 (16 bits). 11_radio_control R285. Reset: 0. -/
  present : Nat := 0
  deriving DecidableEq, Repr

/-! ### 12_polders, 13_ohmore_model: the polders and their cores -/

/-- A register that a load writes with delay (14_ohmore_isa R359). -/
inductive LoadReg where
  | a | x | y
  deriving DecidableEq, Repr

/-- A load that takes effect at the end of the next instruction (13_ohmore_model R337). -/
structure PendingLoad where
  /-- Destination. 13_ohmore_model R337. -/
  reg : LoadReg
  /-- Value read, zero-extended for A. 13_ohmore_model R337. -/
  val : Word
  deriving DecidableEq, Repr

/-- A repeat in progress (14_ohmore_isa R365, R366): T is 1 while it repeats what can be repeated. -/
structure Repeat where
  /-- RPTI rather than RPT. 14_ohmore_isa R366. -/
  interruptible : Bool
  /-- Iterations left, 1 to 256. 14_ohmore_isa R365. -/
  left : Nat
  /-- No iteration has begun: there is no boundary here (14_ohmore_isa R365). -/
  atStart : Bool
  deriving DecidableEq, Repr

/-- What a core is doing (13_ohmore_model R343, R346, R347; 12_polders R317). -/
inductive CorePhase where
  /-- Not started: dry, loading or off. -/
  | off
  /-- Executing instructions. -/
  | running
  /-- Clock stopped by WAIT. -/
  | waiting
  /-- Saved in retention from running. -/
  | saved
  /-- Saved in retention from WAIT. -/
  | savedWait
  /-- Restart request accepted; starts at the reset vector within t_RESTART. -/
  | restarting
  deriving DecidableEq, Repr

/-- An Ohmore core (13_ohmore_model Table 13-1). -/
structure Core where
  /-- What the core is doing. 13_ohmore_model R346. Reset: off. -/
  phase : CorePhase := .off
  /-- Accumulator (8). 13_ohmore_model R331. Reset: 0 (R346). -/
  a : Byte := 0
  /-- Index register X (16). 13_ohmore_model R331. Reset: 0 (R346). -/
  x : Word := 0
  /-- Index register Y (16). 13_ohmore_model R331. Reset: 0 (R346). -/
  y : Word := 0
  /-- Stack pointer S (16). 13_ohmore_model R331. Reset: 0; PROG_FIRST × 0x100 at a start (R346). -/
  s : Word := 0
  /-- Program counter P (16). 13_ohmore_model R331. Reset: 0; the vector at 0xFFFE at a start (R346). -/
  p : Word := 0
  /-- Flags F (8). 13_ohmore_model R331 Table 13-2. Reset: 0x00 (R346). -/
  f : Byte := 0
  /-- Load whose shadow is the next instruction. 13_ohmore_model R337. Reset: none (R346). -/
  load : Option PendingLoad := none
  /-- Store buffer, oldest entry first, at most two entries, each the bytes of one store. 13_ohmore_model R338. Reset: empty (R346). -/
  sb : List (List Host.Cell) := []
  /-- Repeat in progress. 14_ohmore_isa R365. Reset: none. -/
  rpt : Option Repeat := none
  /-- PEND bits 14:6 of OHM.IRQ (16). 13_ohmore_model R341 Table 13-7. Reset: 0 (R346). -/
  pend : Word := 0
  /-- An event has set a PEND bit since WAIT stopped the clock. 13_ohmore_model R343. Reset: false. -/
  woken : Bool := false
  /-- DRY of OHM.STATUS (1). 13_ohmore_model R344 Table 13-10. Reset: 0 (R346). -/
  dry : Bool := false
  /-- DRY_ADDR of OHM.STATUS (16). 13_ohmore_model R344. Reset: 0 (R346). -/
  dryAddr : Word := 0
  /-- CYCLES of OHM.STATUS (32). 13_ohmore_model Table 13-10. Reset: 0 (R346). -/
  cycles : BitVec 32 := 0
  deriving DecidableEq, Repr

/-- A submitted crypto operation with its inputs as they stood at submission (12_polders R313). -/
structure CryptoJob where
  /-- Operation 1–7 of Table 12-3. 12_polders R313. -/
  op : Nat
  /-- KEY256. 12_polders Table 12-4. -/
  key256 : Bool
  /-- FINAL. 12_polders Table 12-4. -/
  final : Bool
  /-- CR_LEN. 12_polders Table 12-4. -/
  len : Nat
  /-- CR_AAD_LEN. 12_polders Table 12-4. -/
  aadLen : Nat
  /-- TAG_LEN. 12_polders Table 12-4. -/
  tagLen : Nat
  /-- CR_IV. 12_polders Table 12-4. -/
  iv : List Byte
  /-- CR_KEY. 12_polders Table 12-4. -/
  key : List Byte
  /-- CR_AAD. 12_polders Table 12-4. -/
  aad : List Byte
  /-- CR_TAG in. 12_polders Table 12-4. -/
  tag : List Byte
  /-- CR_BUF in. 12_polders Table 12-4. -/
  buf : List Byte
  /-- ST of the submitting write. 12_polders R313. -/
  at_ : Rat
  /-- ST at which the last own slot ends, once the operation has started. 12_polders R313. -/
  endAt : Option Rat
  /-- The polder was restarted meanwhile: the result is discarded. 12_polders R328. -/
  discarded : Bool
  deriving DecidableEq, Repr

/-- A polder's end of the crypto engine (12_polders Table 12-4). -/
structure CryptoUnit where
  /-- CR_RESULT (3). 12_polders Table 12-4. Reset: 0. -/
  result : Nat := 0
  /-- CR_DONE_ST (64). 12_polders Table 12-4. Reset: 0. -/
  doneSt : Nat := 0
  /-- Operation in progress. 12_polders R313. Reset: none. -/
  job : Option CryptoJob := none
  /-- Message absorbed by SHA-256 updates since the last final. 12_polders Table 12-3 OP 5. Reset: empty. -/
  sha : List Byte := []
  deriving DecidableEq, Repr

/-- A declared sluice area (12_polders Table 12-16). -/
structure SluiceDecl where
  /-- DIR 1: this polder receives. 12_polders Table 12-16. -/
  dirIn : Bool
  /-- PEER. 12_polders Table 12-16. -/
  peer : Nat
  /-- ID. 12_polders Table 12-16. -/
  id : Nat
  /-- PERIOD in ms. 12_polders Table 12-16. -/
  period : Nat
  /-- The peer's area that matches, none when the declarations do not match. 12_polders R322. -/
  partner : Option (Fin 8)
  deriving DecidableEq, Repr

/-- A sluice area of a polder (12_polders R322, R323, Table 12-9). -/
structure Sluice where
  /-- Declaration of the area. 12_polders R322. Reset: none. -/
  decl : Option SluiceDecl := none
  /-- SEND (1). 12_polders Table 12-9. Reset: 0. -/
  send : Bool := false
  /-- Tick at which SEND was set: a SEND of the instant's own tick goes at the next instant. 12_polders R328. Reset: 0. -/
  sendTick : Nat := 0
  /-- Inbox SL_DATA (512). 12_polders Table 12-9. Reset: 0. -/
  data : List Byte := List.replicate 64 0
  /-- Message in transit for t_SLU, with the ST of its instant. 12_polders R323. Reset: none. -/
  transit : Option (List Byte × Rat) := none
  /-- FULL (1). 12_polders Table 12-9. Reset: 0. -/
  full : Bool := false
  /-- LOST (1). 12_polders Table 12-9. Reset: 0. -/
  lost : Bool := false
  /-- SL_SEQ (16). 12_polders Table 12-9. Reset: 0. -/
  seq : BitVec 16 := 0
  /-- SL_ST (64). 12_polders Table 12-9. Reset: 0. -/
  st : Nat := 0
  deriving DecidableEq, Repr

/-- Breaches of one ST millisecond (12_polders R316). -/
structure MsBreaches where
  /-- ST millisecond number. 12_polders R316. -/
  ms : Nat
  /-- Breaches in it. 12_polders R316. -/
  count : Nat
  /-- Kind of the first. 12_polders R316. -/
  kind : Nat
  /-- Address of the first. 12_polders R316. -/
  addr : Nat
  deriving DecidableEq, Repr

/-- Where a polder's key flow stands (12_polders R324). -/
inductive KeyPhase where
  /-- Not begun. -/
  | idle
  /-- CPn_RST_N held low for 400 card clocks. -/
  | resetLow
  /-- Reset released, the ATR awaited. -/
  | awaitAtr
  /-- ATR taken; the unwrap command may go. -/
  | unwrap
  /-- Status word 0x6140 received; GET RESPONSE may go. -/
  | getResponse
  /-- Segment key held, the segment to be decrypted and verified. -/
  | load
  /-- Loading done. -/
  | done
  deriving DecidableEq, Repr

/-- A polder: its core, RAM and windows (12_polders R306). -/
structure PolderState where
  /-- Core. 12_polders R306. Reset: as in its own lines. -/
  core : Core := {}
  /-- RAM 0x0000–0xBFFF and 0xF000–0xFFFF (52 KiB), sparse over 0x00. 12_polders R306, 13_ohmore_model R334. Reset: empty (DESIGN CHOICE 0x00, log entry 4). -/
  ram : List Host.Cell := []
  /-- Bytes of the window W fields 0xC000–0xDFFF, sparse over the defaults of the window tables. 13_ohmore_model R335. Reset: empty, the defaults (R346). -/
  win : List Host.Cell := []
  /-- Crypto window results and operation. 12_polders Table 12-4. Reset: as in its own lines. -/
  crypto : CryptoUnit := {}
  /-- Sluice areas 0–7. 12_polders R322. Reset: as in their own lines. -/
  sluice : Vector Sluice 8 := Vector.replicate 8 {}
  /-- Basin latch: lowest address of the structure held and its bytes. 12_polders R320. Reset: none. -/
  latch : Option (Nat × List Byte) := none
  /-- BREACH_COUNT (16). 12_polders Table 12-17. Reset: 0. -/
  breachCount : Nat := 0
  /-- LAST_KIND (3). 12_polders Table 12-17. Reset: 0. -/
  lastKind : Nat := 0
  /-- LAST_ADDR (16). 12_polders Table 12-17. Reset: 0. -/
  lastAddr : Nat := 0
  /-- ST of the restarts of the last 3,600 s. 12_polders R317. Reset: empty. -/
  restartTimes : List Rat := []
  /-- RESTARTED (1). 12_polders Table 12-17. Reset: 0. -/
  restarted : Bool := false
  /-- A breach of the access in progress asks for a restart at its end. 12_polders R317. Reset: false. -/
  restartDue : Bool := false
  /-- Breaches not yet recorded, by ST millisecond, oldest first. 12_polders R316. Reset: empty. -/
  msBreaches : List MsBreaches := []
  /-- Dry causes that hold (codes 1–9). 12_polders R325 Table 12-11. Reset: empty. -/
  dryCauses : List Nat := []
  /-- Key flow position. 12_polders R324. Reset: idle. -/
  key : KeyPhase := .idle
  /-- Tick of the release of CPn_RST_N by the key flow. 12_polders R325. Reset: 0. -/
  keyTick : Nat := 0
  /-- ST at which the key of the segment was in hand: the crypto slots of its loading count from it. 17_boot_image R428. Reset: 0. -/
  keySt : Rat := 0
  /-- Segment key (256), from unwrap to the end of loading. 12_polders R326. Reset: none. -/
  segKey : Option (List Byte) := none
  deriving DecidableEq, Repr

/-! ### 15_power: rails, domains, governor, gauge and freeboard -/

/-- Where a domain stands: its three states (15_power R373) and the steps of its way down (R376). -/
inductive DomPos where
  /-- Powered and clocked. -/
  | on
  /-- Clocks stopped. -/
  | stopped
  /-- Outputs isolated. -/
  | isolated
  /-- Retention copy made, rail on. -/
  | saved
  /-- Rail step toward retention in progress. -/
  | cutRetention
  /-- Rail step toward off in progress. -/
  | cutOff
  /-- Unclocked, everything kept. -/
  | retention
  /-- Unpowered, nothing kept. -/
  | off
  deriving DecidableEq, Repr

/-- What BASIN.SENSE gathers over a 10 s window of ST (12_polders R321). -/
structure SenseWin where
  /-- Window number: its end is at 10 (win + 1) s. -/
  win : Nat
  /-- Samples. -/
  n : Nat
  /-- Sum of the die temperature in °C. -/
  tj : Int
  /-- Sum of VIN in 10 mV. -/
  vin : Nat
  /-- Sum of VBAT_SNS in 10 mV. -/
  vbat : Nat
  /-- Governor level last in effect in it. -/
  level : Nat
  deriving DecidableEq, Repr

/-- The always-on domain: what a reset keeps and only the loss of VIN clears (15_power R372). -/
structure AonState where
  /-- VIN has passed 2.95 V and the rails are in regulation. 15_power R371. Reset: false. -/
  rails : Bool := false
  /-- VIN is below 2.85 V and not yet back at 3.0 V. 15_power R372. Reset: false. -/
  brownout : Bool := false
  /-- Battery charge count, negative below 0 %, kept in units of 0.1 mA·ms (360,000 of them are the 0.01 mAh of R386). 15_power R386. Reset: 0 (DESIGN CHOICE, log entry 6). -/
  count : Int := 0
  /-- The gauge has been anchored (SOC_VALID). 15_power R387. Reset: 0. -/
  anchored : Bool := false
  /-- GAUGE_DISAGREE (1). 15_power R388. Reset: 0. -/
  disagree : Bool := false
  /-- Consecutive milliseconds with |current| below REST_I. 15_power R387. Reset: 0. -/
  restMs : Nat := 0
  /-- Last battery current sample in units of 0.1 mA. 15_power R386. Reset: 0. -/
  current : Int := 0
  /-- Die-temperature samples in °C, newest first, at most 1,000. 15_power R384. Reset: empty. -/
  tj : List Int := []
  /-- VBAT_SNS samples in 10 mV, newest first, at most 1,000. 15_power R386. Reset: empty. -/
  vbat : List Nat := []
  /-- Last VIN sample in 10 mV. 15_power R386. Reset: 0. -/
  vin : Nat := 0
  /-- Sample sums of the present 10 s window of ST and of the one before, newest first. 12_polders R321. Reset: empty. -/
  sense : List SenseWin := []
  /-- Governor level in effect (0–2). 15_power R384. Reset: 0. -/
  govLevel : Nat := 0
  /-- Governor level decided at a sample and not yet in effect. 15_power R384. Reset: none. -/
  govNext : Option Nat := none
  /-- Tick of the stream millisecond boundary at which it takes effect. 15_power R384. Reset: 0. -/
  govAt : Nat := 0
  /-- Consecutive milliseconds at or below the return threshold since entry to the level. 15_power R384. Reset: 0. -/
  coolMs : Nat := 0
  /-- BROWNOUTS (32). 15_power Table 15-12. Reset: 0. -/
  brownouts : Nat := 0
  /-- FAULT_RESETS (32). 16_clocks R410. Reset: 0. -/
  faultResets : Nat := 0
  /-- Cause stored by the last clock-fault reset, for the next boot's first record. 16_clocks R410. Reset: 0. -/
  faultCause : Nat := 0
  /-- VRES as the comparator of the off state keeps it, in 10 mV. 15_power R381. Reset: 360, its default. -/
  vres : Nat := 360
  deriving DecidableEq, Repr

/-- Power management apart from the always-on domain (15_power). -/
structure PmuState where
  /-- Domains in the order of Table 15-2: AON, TIME, COM, CLK, NVM, SPT0–3, GFR, TRK0–3, MSR, SOL, SNF, LNK, CRY, HST, OBS, PLD0–7. 15_power R373. Reset: AON on, others off. -/
  dom : Vector DomPos 29 := (Vector.replicate 29 DomPos.off).set 0 DomPos.on
  /-- Domains asked for again during their cut step. 15_power R377. Reset: none. -/
  again : Vector Bool 29 := Vector.replicate 29 false
  /-- HST, COM and CRY are up for a wake only. 15_power R381. Reset: false. -/
  woken : Bool := false
  /-- CLK is up with PLLC alone for a wake. 15_power R383. Reset: false. -/
  wokenClk : Bool := false
  /-- The THIN duty window is open. 15_power R375. Reset: false. -/
  duty : Bool := false
  /-- Tick at which each tracking bank last went to retention. 15_power R375. Reset: 0. -/
  trkDown : Vector Nat 4 := Vector.replicate 4 0
  /-- Freeboard credits in µJ. 15_power R389. Reset: 0. -/
  credit : Vector Int 8 := Vector.replicate 8 0
  /-- The polder's core has started, so its credit accrues. 15_power R389. Reset: false. -/
  accrues : Vector Bool 8 := Vector.replicate 8 false
  /-- Freeboard charged in µJ. 15_power Table 15-12 FB_SPENT. Reset: 0. -/
  spent : Vector Nat 8 := Vector.replicate 8 0
  /-- ST millisecond last credited. 15_power R389. Reset: none. -/
  creditMs : Option Nat := none
  /-- Consecutive milliseconds with VIN outside 3.0–5.5 V. 12_polders R327. Reset: 0. -/
  vinBadMs : Nat := 0
  /-- The supply cause holds. 12_polders R327. Reset: false. -/
  voidVin : Bool := false
  /-- The thermal cause holds. 12_polders R327. Reset: false. -/
  voidThermal : Bool := false
  /-- GUARANTEE_VOID (1). 12_polders Table 12-12. Reset: 0. -/
  void : Bool := false
  /-- VOID_CAUSE bits 2:1. 12_polders Table 12-12. Reset: 0. -/
  voidCause : Nat := 0
  /-- VOID_SINCE (32). 12_polders Table 12-12. Reset: 0. -/
  voidSince : Nat := 0
  /-- Tick at which the last cause ended. 12_polders R327. Reset: 0. -/
  voidEnd : Nat := 0
  /-- Ticks at which the rail steps of the last 2 µs began. 15_power R378. Reset: empty. -/
  rails : List Nat := []
  /-- Tick of the last PMU.STATUS record. 15_power R395. Reset: none. -/
  statusTick : Option Nat := none
  /-- ST second of the last BASIN.SENSE. 12_polders R321. Reset: 0. -/
  senseS : Nat := 0
  deriving DecidableEq, Repr

/-! ### 16_clocks: reference, PLLs and disciplined outputs -/

/-- Clock synthesis (16_clocks). -/
structure ClkState where
  /-- REF_FREQ (3): 0 10 MHz, 1 19.2, 2 26, 3 38.4, 4 boot oscillator. 16_clocks Table 16-8. Reset: 0. -/
  refFreq : Nat := 0
  /-- REF (1): EXT_10M in use. 16_clocks Table 16-8. Reset: 0. -/
  refExt : Bool := false
  /-- LOCK: PLLA, PLLB, PLLC, PLLD (4). 16_clocks Table 16-8. Reset: 0. -/
  lock : Vector Bool 4 := Vector.replicate 4 false
  /-- The PLLs have been started and are not parked. 16_clocks R402, R403. Reset: false. -/
  started : Bool := false
  /-- A relock of PLLA–PLLC is awaited. 16_clocks R410. Reset: false. -/
  relocking : Bool := false
  /-- That relock is the change of reference to EXT_10M. 16_clocks R397. Reset: false. -/
  refChange : Bool := false
  /-- Consecutive EXT_10M windows of 99,998–100,002 edges, up to 100. 16_clocks R398. Reset: 0. -/
  extGood : Nat := 0
  /-- EXT10M_PRESENT (1). 16_clocks Table 16-8. Reset: 0. -/
  extPresent : Bool := false
  /-- CKD_RUN (2). 16_clocks Table 16-8. Reset: 0. -/
  ckdRun : Vector Bool 2 := Vector.replicate 2 false
  /-- PLLD divider factor (1 − y)(1 + slew) in force. 16_clocks R404. Reset: 1. -/
  ckdFactor : Rat := 1
  /-- Tick of the anchor of the PLLD relock in progress. 16_clocks R405. Reset: none. -/
  ckdRelock : Option Nat := none
  /-- The outputs may restart only at or after this tick (a stop at an anchor, LKD loss). 16_clocks R406. Reset: 0. -/
  ckdFrom : Nat := 0
  /-- CKO outputs running. 16_clocks R408. Reset: 0. -/
  ckoRun : Vector Bool 4 := Vector.replicate 4 false
  /-- SSC_ON (1). 16_clocks Table 16-8. Reset: 0. -/
  ssc : Bool := false
  /-- LAST_FAULT (3). 16_clocks Table 16-8. Reset: 0. -/
  lastFault : Nat := 0
  /-- CLK.STATUS as last emitted, none before the first of the boot. 16_clocks R413. Reset: none. -/
  emitted : Option Nat := none
  /-- The link synthesizer is locked to the channel of the emission in preparation. 16_clocks R409. Reset: false. -/
  lsynTx : Bool := false
  /-- ST from which the link synthesizer is locked to its receive setting again. 16_clocks R409. Reset: 0. -/
  lsynRxAt : Rat := 0
  /-- Tick at which the relock in progress began. 16_clocks R410. Reset: 0. -/
  relockTick : Nat := 0
  /-- Tick of the end of the last EXT_10M window. 16_clocks R398. Reset: 0. -/
  extAt : Nat := 0
  /-- Tick at which PLLA relocked, when a sample-port trigger is due 1 ms later. 16_clocks R410. Reset: none. -/
  trigAt : Option Nat := none
  deriving DecidableEq, Repr

/-! ### 17_boot_image: boot and the Jahorn image -/

/-- Where boot stands (17_boot_image R414–R429). -/
inductive BootPhase where
  /-- Rails are up, the reference is being counted. -/
  | reference
  /-- PLLs started, lock awaited. -/
  | pllWait
  /-- Header read due. -/
  | header
  /-- Entry commands due, from this index on. -/
  | entries (k : Nat)
  /-- Second header read due. -/
  | reread
  /-- Image read running. -/
  | image
  /-- Fallback path: the whole image is read in 1-1-1. -/
  | fallbackImage
  /-- Common verification due. -/
  | verify
  /-- Configuration step due. -/
  | configure
  /-- Boot ended. -/
  | done
  deriving DecidableEq, Repr

/-- What the SAFE record names (17_boot_image Table 17-11). -/
structure SafeCause where
  /-- CAUSE (4). 17_boot_image Table 17-9. -/
  cause : Nat
  /-- BLOCK (16), 0 none. 17_boot_image Table 17-11. -/
  block : Nat
  /-- BIT (16), 0xFFFF none. 17_boot_image Table 17-11. -/
  bit : Nat
  /-- OFFSET (32), 0xFFFF_FFFF none. 17_boot_image Table 17-11. -/
  offset : Nat
  deriving DecidableEq, Repr

/-- A verified parameter block in the parameter-block store (17_boot_image R421, R425). -/
structure ParamBlock where
  /-- 8 for the common segment, 0–7 for a polder segment. 17_boot_image R421. -/
  owner : Nat
  /-- CODE (16). 17_boot_image R421. -/
  code : Nat
  /-- WORDS (16). 17_boot_image R421. -/
  words : Nat
  /-- Content as one number, bit 0 first. 01_architecture R25. -/
  val : Nat
  deriving DecidableEq, Repr

/-- A command that the loader sends to the flash (17_boot_image R414–R417). -/
structure FlashCmd where
  /-- Its mode (Table 17-1): 0 1-1-1, 3 4-4-4, 6 8D-8D-8D. 17_boot_image R414. -/
  mode : Nat
  /-- NV_SCK in kHz. 17_boot_image R414, R417. -/
  kHz : Rat
  /-- Opcode, with its complement in 8D-8D-8D, then its address. 17_boot_image R414–R417. -/
  bytes : List Byte
  deriving DecidableEq, Repr

/-- Boot, the image and the OTP (17_boot_image). -/
structure BootState where
  /-- Position in boot. 17_boot_image R414. Reset: reference. -/
  phase : BootPhase := .reference
  /-- The 128 header bytes of the first read. 17_boot_image R414. Reset: empty. -/
  header : List Byte := []
  /-- Commands sent to the flash, oldest first. 17_boot_image R414–R417. Reset: empty. -/
  sent : List FlashCmd := []
  /-- Tick before which the loader's next step does not come: t_NVRST, the wait behind an entry, the 100 ms between copies of the SAFE record.
  17_boot_image R414, R415, R432. Reset: 0. -/
  due : Nat := 0
  /-- The image as read; the polder segments stay staged in it until their loading ends. 17_boot_image R424. Reset: empty. -/
  image : List Byte := []
  /-- Failure that led to SAFE. 17_boot_image R427. Reset: none. -/
  fail : Option SafeCause := none
  /-- IMG_VERSION (32). 17_boot_image Table 17-4. Reset: 0. -/
  version : Nat := 0
  /-- Copies of the SAFE record sent. 17_boot_image R432. Reset: 0. -/
  safeCopies : Nat := 0
  /-- ST at the end of the configuration step: transfer instants of sluices count from it. 12_polders R323. Reset: 0. -/
  cfgSt : Rat := 0
  /-- MARK of this boot (48). 00_scope R5. Reset: 0 (drawn during boot). -/
  mark : Nat := 0
  /-- Parameter-block store. 17_boot_image R425. Reset: empty. -/
  blocks : List ParamBlock := []
  /-- OTP contents (65,536 bits), programmed only in test mode. 17_boot_image R426 Table 17-8. Reset: kept; unprogrammed 0. -/
  otp : Nat := 0
  deriving DecidableEq, Repr

/-! ### 01_architecture: operating modes -/

/-- The device's life: what runs apart from the operating mode (01_architecture Table 01-6). -/
inductive Life where
  /-- VIN not yet sequenced, or RESET_N low, or a reset under way. -/
  | reset
  /-- RESET_N released: the boot sequence runs (17_boot_image). -/
  | boot
  /-- Common segment verified and COLD entered: an operating mode is in force. -/
  | run
  /-- Common segment failed. -/
  | safe
  /-- Cut off by rank 2: only AON lives. -/
  | off
  /-- TEST_N low at release: test mode. -/
  | test
  deriving DecidableEq, Repr

/-- Operating modes that BASIN.MODE shows (01_architecture Table 01-2). -/
inductive Mode where
  | cold | survey | full | thin | holdover | quiet | layup
  deriving DecidableEq, Repr

/-- The service modes that mode rules choose (01_architecture R24). -/
inductive Target where
  | full | thin | layup
  deriving DecidableEq, Repr

/-- Modes, rules and the conditions of Table 01-4 (01_architecture). -/
structure ModeState where
  /-- Life of the device. 01_architecture Table 01-6. Reset: reset. -/
  life : Life := .reset
  /-- MODE of BASIN.MODE (4). 01_architecture R15. Reset: COLD. -/
  mode : Mode := .cold
  /-- TARGET (4). 01_architecture R15, R24. Reset: FULL. -/
  target : Target := .full
  /-- RULE (4). 01_architecture R15, R24. Reset: 15. -/
  rule : Nat := 15
  /-- ALIGNED (1). 01_architecture R15. Reset: 0. -/
  aligned : Bool := false
  /-- CLOCK_FALLBACK (1). 01_architecture R15, R20. Reset: 0. -/
  fallback : Bool := false
  /-- SURVEY_EXIT (2). 01_architecture R15. Reset: 0. -/
  surveyExit : Nat := 0
  /-- Reason for which FULL is decided, SURVEY_EXIT once SURVEY is left for it: 1 converged, 2 time limit. 01_architecture R15. Reset: 0. -/
  exitWhy : Nat := 0
  /-- ENTRY_S (32). 01_architecture R15. Reset: 0. -/
  entryS : Nat := 0
  /-- ST of the slot boundary at which MODE last changed. 01_architecture R488. Reset: 0. -/
  entryAt : Rat := 0
  /-- HOLDOVER was entered from a mode that runs the resources of THIN. 01_architecture Table 01-5, 06_measurements R132. Reset: false. -/
  thinHold : Bool := false
  /-- Decided transition that awaits its slot boundary: mode, rank, and ST of the decision. 01_architecture R23. Reset: none. -/
  decided : Option (Mode × Nat × Rat) := none
  /-- Pending rule of the dwell count. 01_architecture R24. Reset: 15 (the target in force before the first check). -/
  pendRule : Nat := 15
  /-- Pending target of the dwell count. 01_architecture R24. Reset: FULL. -/
  pendTarget : Target := .full
  /-- Pending count. 01_architecture R24. Reset: 0. -/
  pendCount : Nat := 0
  /-- No mode-rule check of this boot has been made. 01_architecture R24. Reset: true. -/
  firstCheck : Bool := true
  /-- Period of CHECK_PERIOD × 100 ms of ST in which the last mode-rule check fell. 01_architecture R24. Reset: 0. -/
  checkAt : Nat := 0
  /-- Ranks 3–7 that held at the last mode-rule check, rank k in bit k. 01_architecture R24. Reset: 0. -/
  ranksSeen : Nat := 0
  /-- Consecutive 1 s epochs with standalone PVT and time valid and no alarm, in COLD. 01_architecture R21. Reset: 0. -/
  coldRun : Nat := 0
  /-- ST second of the last epoch that coldRun counted. 01_architecture R21. Reset: 0. -/
  coldLast : Nat := 0
  /-- ST since which GNSS has been unusable (none: usable). 01_architecture R21. Reset: none. -/
  unusableSince : Option Rat := none
  /-- ST since which GNSS has been usable (none: unusable). 01_architecture R21. Reset: none. -/
  usableSince : Option Rat := none
  /-- Rank 3 of Table 01-4 holds. 01_architecture R18. Reset: false. -/
  rank3 : Bool := false
  /-- ST of SURVEY entry. 01_architecture R21. Reset: 0. -/
  surveyAt : Rat := 0
  /-- ST second of the start of the LAYUP fix in progress. 01_architecture R488. Reset: none. -/
  fixStart : Option Nat := none
  /-- ST at which the fix in progress had its first valid standalone PVT. 01_architecture R488, 06_measurements R132. Reset: none. -/
  fixOk : Option Rat := none
  /-- ST at which horizontal speed last exceeded 0.5 m/s, or of the first valid velocity (none: STILL unavailable). 01_architecture Table 01-9. Reset: none. -/
  stillSince : Option Rat := none
  /-- Level low of RESET_N (1). 20_electrical R476. Reset: 1 (DESIGN CHOICE, log entry 5). -/
  rstLow : Bool := true
  /-- Levels of the EVT0–EVT3 pins (4). 01_architecture Table 01-9. Reset: 0 (DESIGN CHOICE, log entry 5). -/
  evtLevel : BitVec 4 := 0
  deriving DecidableEq, Repr

/-! ### 18_host_ports: host UART, I²C target and card ports -/

/-- A record in an output queue (18_host_ports R441–R447). -/
structure OutRec where
  /-- Traffic class 0–2. 18_host_ports Table 18-2. -/
  cls : Nat
  /-- Record counter; SEQ is its low 12 bits. 18_host_ports R442. -/
  counter : Nat
  /-- Payload: KIND and content for the basin, SRC and content in plaintext for a polder. 18_host_ports R443. -/
  payload : List Byte
  /-- ST at which the record entered the queue. 18_host_ports R446. -/
  st : Rat
  /-- Body bytes already on the line. 18_host_ports R446. -/
  sent : Nat
  /-- A unit of it is on the line. 18_host_ports R447. -/
  onLine : Bool
  /-- It is the overflow summary. 18_host_ports R447. -/
  summary : Bool
  deriving DecidableEq, Repr

/-- The folds that a queue's overflow summary has gathered (18_host_ports R447). -/
structure Folds where
  /-- COUNT (32). 18_host_ports R447. -/
  count : Nat
  /-- FIRST_ST. 18_host_ports R447. -/
  first : Rat
  /-- LAST_ST. 18_host_ports R447. -/
  last : Rat
  deriving DecidableEq, Repr

/-- An output queue (18_host_ports R447). -/
structure OutQueue where
  /-- Records, oldest first. 18_host_ports R446. Reset: empty. -/
  recs : List OutRec := []
  /-- Overflow summary being gathered. 18_host_ports R447. Reset: none. -/
  folds : Option Folds := none
  /-- Next outbound record counter (32). 18_host_ports R442. Reset: 0. -/
  counter : Nat := 0
  deriving DecidableEq, Repr

/-- An inbound frame that waits for a polder (18_host_ports R449). -/
structure InFrame where
  /-- CLASS. 18_host_ports Table 18-3. -/
  cls : Nat
  /-- ST of the first start bit (64). 18_host_ports Table 18-3. -/
  st : Nat
  /-- Plaintext. 18_host_ports Table 18-3. -/
  data : List Byte
  deriving DecidableEq, Repr

/-- A character of the receive queue with the tick at which it arrived (18_host_ports Table 18-1). -/
structure RxChar where
  /-- DATA, PE, FE, BRK, NOISE and OVR (16). 18_host_ports Table 18-1. -/
  entry : BitVec 16
  /-- Tick of its first start bit. 18_host_ports R450. -/
  tick : Nat
  deriving DecidableEq, Repr

/-- A polder's side of the host port and its card port (18_host_ports Tables 18-3, 18-7). -/
structure PolderHost where
  /-- Output queue. 18_host_ports R447. Reset: as in its own lines. -/
  out : OutQueue := {}
  /-- OUT_RESULT (3). 18_host_ports Table 18-3. Reset: 0. -/
  outResult : Nat := 0
  /-- Inbound frames, head first. 18_host_ports R449. Reset: empty. -/
  inq : List InFrame := []
  /-- Last accepted inbound counter, none before the first frame of the boot. 18_host_ports R450. Reset: none. -/
  inCounter : Option Nat := none
  /-- CONV (1). 18_host_ports Table 18-7. Reset: 0. -/
  conv : Bool := false
  /-- TS_BAD (1). 18_host_ports Table 18-7. Reset: 0. -/
  tsBad : Bool := false
  /-- ATR_TIMEOUT (1). 18_host_ports Table 18-7. Reset: 0. -/
  atrTimeout : Bool := false
  /-- TX_FAIL (1). 18_host_ports Table 18-7. Reset: 0. -/
  txFail : Bool := false
  /-- TS is awaited after a release of CPn_RST_N. 18_host_ports R455. Reset: false. -/
  awaitTs : Bool := false
  /-- Card receive FIFO, head first: DATA, PE, OVR, GAP (32 each). 18_host_ports Table 18-7. Reset: empty. -/
  cardRx : List (BitVec 32) := []
  /-- A character was lost to a full card receive FIFO before the next entry. 18_host_ports Table 18-7 OVR. Reset: false. -/
  cardOvr : Bool := false
  /-- Card transmit FIFO, head first (16 entries). 18_host_ports Table 18-7. Reset: empty. -/
  cardTx : List Byte := []
  /-- Repetitions made of the character at the head of the transmit FIFO. 18_host_ports R456. Reset: 0. -/
  cardRetry : Nat := 0
  /-- Card clocks that have run since the release of CPn_RST_N, up to `cardTick`. 18_host_ports R455. Reset: 0. -/
  cardClocks : Rat := 0
  /-- Tick since which CPn_CLK has run or stood still. 18_host_ports R454. Reset: 0. -/
  cardTick : Nat := 0
  /-- Tick before which no further character that the port sends is over. 18_host_ports R456. Reset: 0. -/
  cardNext : Nat := 0
  /-- The port answered the last character with the error signal on CPn_IO. 18_host_ports R456. Reset: false. -/
  cardNak : Bool := false
  deriving DecidableEq, Repr

/-- The host port (18_host_ports). -/
structure HostState where
  /-- Basin output queue. 18_host_ports R447. Reset: as in its own lines. -/
  outB : OutQueue := {}
  /-- Polder queues and card ports. 18_host_ports R447, R449, R454. Reset: as in their own lines. -/
  pol : Vector PolderHost 8 := Vector.replicate 8 {}
  /-- Receive queue (512 entries), oldest first. 18_host_ports R440. Reset: empty. -/
  rx : List RxChar := []
  /-- A character was lost to a full receive queue before the next entry. 18_host_ports Table 18-1 OVR. Reset: false. -/
  rxOvr : Bool := false
  /-- Basin frames held in INQ_B: payload and ST of the first start bit, oldest first. 18_host_ports R451. Reset: empty. -/
  inqB : List (List Byte × Rat) := []
  /-- Level of HU_RTS_N (1). 18_host_ports R439. Reset: 0. -/
  rtsHigh : Bool := false
  /-- Level of HU_CTS_N (1). 18_host_ports R439. Reset: 0 (DESIGN CHOICE, log entry 5). -/
  ctsHigh : Bool := false
  /-- An autobaud measurement has been accepted. 18_host_ports R437. Reset: false. -/
  baudOk : Bool := false
  /-- Units of the output cycle on the line, in order. 18_host_ports R445. Reset: empty. -/
  line : List Byte := []
  /-- Slots of the cycle that are filled, 0–9: the basin's, then those of polders 0–7, each at its cutoff. 18_host_ports R445, R446. Reset: 9. -/
  slot : Nat := 9
  /-- ST of the last cycle's start. 18_host_ports R445. Reset: 0. -/
  cycleAt : Rat := 0
  /-- Rate of HU0 in baud: BAUD, or the rate that autobaud has measured. 18_host_ports R436, R437. Reset: 12,000,000. -/
  rate : Rat := 12000000
  /-- Characters of the inbound unit that the parser has taken, from its sync bytes on. 18_host_ports R450. Reset: empty. -/
  unit : List RxChar := []
  /-- ST millisecond last handled by the output cycle. 18_host_ports R445. Reset: none. -/
  lastMs : Option Nat := none
  /-- ST second of the last boot record, none before the first. 18_host_ports R444. Reset: none. -/
  bootRec : Option Nat := none
  /-- Characters sent on HU_TX, counted. 18_host_ports R435. Reset: 0. -/
  sentChars : Nat := 0
  /-- I²C register pointer. 18_host_ports R453. Reset: 0. -/
  i2cPtr : Nat := 0
  /-- I²C status block captured at the address match (24 bytes), none when no transfer is in progress. 18_host_ports R453. Reset: none. -/
  i2cBlock : Option (List Byte) := none
  /-- Bytes that the last I²C read returned. 18_host_ports R453. Reset: empty. -/
  i2cOut : List Byte := []
  /-- HST was on before the last address match. 18_host_ports Table 18-6. Reset: false. -/
  i2cWasOn : Bool := false
  /-- Tick of the last host traffic, for HOST_IDLE. 15_power R381. Reset: 0. -/
  lastTraffic : Nat := 0
  deriving DecidableEq, Repr

/-! ### 19_observation: the culvert -/

/-- A packet stored in the trace buffer (19_observation R461). -/
structure TracePacket where
  /-- TYPE 1–4. 19_observation Table 19-1. -/
  type : Nat
  /-- DROPS (8), saturating. 19_observation Table 19-1. -/
  drops : Nat
  /-- Tick at which it closed (32). 19_observation Table 19-1. -/
  tick : Nat
  /-- SEQ (32). 19_observation Table 19-1. -/
  seq : Nat
  /-- Payload in plaintext. 19_observation R461. -/
  payload : List Byte
  deriving DecidableEq, Repr

/-- A share of the trace buffer: source 0–7 polder, 8 common (19_observation R462). -/
structure TraceShare where
  /-- Stored packets, oldest first. 19_observation R462. Reset: empty. -/
  packets : List TracePacket := []
  /-- Packets dropped since the last stored one. 19_observation R463. Reset: 0. -/
  drops : Nat := 0
  /-- Packets closed (32). 19_observation Table 19-1 SEQ. Reset: 0. -/
  seq : Nat := 0
  deriving DecidableEq, Repr

/-- An open branch-trace packet (19_observation R467, R468). -/
structure OpenTrace where
  /-- Entries of 32 bits, oldest first. 19_observation Table 19-2. Reset: empty. -/
  entries : List (BitVec 32) := []
  /-- Tick of the first entry. 19_observation R468. Reset: 0. -/
  tick : Nat := 0
  /-- CYCLES at the last entry. 19_observation Table 19-2 DELTA. Reset: 0. -/
  lastCycles : BitVec 32 := 0
  deriving DecidableEq, Repr

/-- The culvert (19_observation). -/
structure ObsState where
  /-- Shares of the trace buffer, polders 0–7 and the common share at 8. 19_observation R462. Reset: as in their own lines. -/
  share : Vector TraceShare 9 := Vector.replicate 9 {}
  /-- Open branch-trace packets. 19_observation R468. Reset: as in their own lines. -/
  open_ : Vector OpenTrace 8 := Vector.replicate 8 {}
  /-- Share that the line serves next, 0 common, n + 1 polder n. 19_observation R464. Reset: 0. -/
  turn : Nat := 0
  /-- Bytes of the last packet put on the line. 19_observation R461. Reset: empty. -/
  line : List Byte := []
  /-- Share of that packet. 19_observation R464. Reset: none. -/
  lineSrc : Option (Fin 9) := none
  /-- Tick at which its last byte has left the line. 19_observation R460, R464. Reset: 0. -/
  lineEnd : Nat := 0
  /-- ST second of the last anchor packet. 19_observation R465. Reset: none. -/
  anchorS : Option Nat := none
  /-- ST second of the last dump. 19_observation R469. Reset: none. -/
  dumpS : Option Nat := none
  deriving DecidableEq, Repr

/-- The whole state of the block. -/
structure State where
  /-- Sample ports and front-end control (02_sample_ports). Reset: as in its own lines. -/
  spt : SptState := {}
  /-- Array front (03_array). Reset: as in its own lines. -/
  ary : AryState := {}
  /-- Acquisition engine (04_acquisition). Reset: as in its own lines. -/
  acq : AcqState := {}
  /-- Tracking bank (05_tracking). Reset: as in its own lines. -/
  trk : TrkState := {}
  /-- Measurement and navigation-bit unit (06_measurements). Reset: as in its own lines. -/
  msr : MsrState := {}
  /-- Navigation solver (07_solver). Reset: as in its own lines. -/
  sol : SolState := {}
  /-- Snapshot farm (08_snapshot_farm). Reset: as in its own lines. -/
  snf : SnfState := {}
  /-- Sky time and the scheduler (09_sky_time). Reset: as in its own lines. -/
  sky : SkyState := {}
  /-- Tag link (10_tag_link). Reset: as in its own lines. -/
  lnk : LnkState := {}
  /-- Radio control and regulatory guard (11_radio_control). Reset: as in its own lines. -/
  rfc : RfcState := {}
  /-- Always-on domain (15_power). Reset: as in its own lines. -/
  aon : AonState := {}
  /-- Power management (15_power). Reset: as in its own lines. -/
  pmu : PmuState := {}
  /-- Clock synthesis (16_clocks). Reset: as in its own lines. -/
  clk : ClkState := {}
  /-- Boot and image (17_boot_image). Reset: as in its own lines. -/
  boot : BootState := {}
  /-- Operating modes (01_architecture). Reset: as in its own lines. -/
  mode : ModeState := {}
  /-- Host and card ports (18_host_ports). Reset: as in its own lines. -/
  hst : HostState := {}
  /-- Culvert (19_observation). Reset: as in its own lines. -/
  obs : ObsState := {}
  /-- Polders 0–7. 12_polders R306. Reset: as in their own lines. -/
  pld : Vector PolderState 8 := Vector.replicate 8 {}
  /-- Basin view 0xE000–0xEFFF, sparse over its defaults (4 KiB). 12_polders R319 Table 12-6. Reset: the defaults of its tables. -/
  basin : List Host.Cell := []
  /-- Counters by index 0–2,047 (32 bits, saturating), sparse over 0. 02_sample_ports R51, 19_observation R470. Reset: 0. -/
  ctr : List (Nat × Nat) := []
  /-- The model's own field: how many free values the machine has taken so far. Not of the spec. Reset: 0 (DESIGN CHOICE, log entry 3). -/
  fresh : Nat := 0
  /-- Commands that wait, first in first out. The model's own queue (a block has no fetch). Reset: empty (log entry 1). -/
  pending : List Instr := []
  deriving DecidableEq, Repr

/-- The machine right after reset: VIN applied, RESET_N low, nothing read, nothing aligned; every field as its line says. -/
def State.reset : State := {}

end Sys2Proof.Machine
end

