-- ==== Sys2Proof/Machine/Params.lean ====
section
/-!
DEFINITION. The parameter blocks of the image (00_scope R9, 01_architecture R25, 17_boot_image R421, R422): each field by its
block code, place, default and range, how a field is read from the parameter-block store, and the block table by which
the loader checks every field.
-/

namespace Sys2Proof.Machine

/-- A field of a parameter block: block code, lowest bit, width, default, least and greatest value, and whether it is two's
complement (00_scope R9, 17_boot_image R427 step 9). -/
structure Fld where
  /-- Block code. -/
  code : Nat
  /-- Lowest bit. -/
  lo : Nat
  /-- Width in bits. -/
  width : Nat
  /-- Default. -/
  dflt : Int
  /-- Least value. -/
  min : Int
  /-- Greatest value. -/
  max : Int
  /-- Two's complement. -/
  signed : Bool
  deriving DecidableEq, Repr

/-- A field with the number of its instances in the block and their distance in bits. -/
structure FldRow where
  /-- The field. -/
  fld : Fld
  /-- Instances. -/
  count : Nat
  /-- Bits from one instance to the next. -/
  stride : Nat
  deriving DecidableEq, Repr

/-- A row of the parameter-block index, Table 17-5. -/
structure BlockSpec where
  /-- CODE. -/
  code : Nat
  /-- Least WORDS. -/
  minWords : Nat
  /-- Greatest WORDS. -/
  maxWords : Nat
  /-- WORDS is a multiple of this. -/
  unit : Nat
  /-- Required without condition. -/
  required : Bool
  /-- Every field; bits of no field are reserved. -/
  rows : List FldRow
  deriving DecidableEq, Repr

/-- The block of a code that a segment holds (8 common, 0–7 polder). -/
def blockOf (s : State) (owner code : Nat) : Option ParamBlock :=
  s.boot.blocks.find? fun b => b.owner == owner && b.code == code

/-- A field's value at `off` bits above its first instance: its default when the block is absent or ends before it
(00_scope R9, 17_boot_image R422). -/
def fldVal (s : State) (owner : Nat) (f : Fld) (off : Nat) : Int :=
  match blockOf s owner f.code with
  | none => f.dflt
  | some b =>
    if f.lo + off + f.width ≤ 32 * b.words then
      if f.signed then sext f.width (getBits b.val (f.lo + off) f.width) else (getBits b.val (f.lo + off) f.width : Nat)
    else f.dflt

/-- A field of the common segment. -/
def cfg (s : State) (f : Fld) : Nat := (fldVal s 8 f 0).toNat
/-- A two's-complement field of the common segment. -/
def cfgI (s : State) (f : Fld) : Int := fldVal s 8 f 0
/-- Instance `k` of a field of the common segment. -/
def cfgAt (s : State) (r : FldRow) (k : Nat) : Nat := (fldVal s 8 r.fld (k * r.stride)).toNat
/-- Instance `k` of a two's-complement field of the common segment. -/
def cfgIAt (s : State) (r : FldRow) (k : Nat) : Int := fldVal s 8 r.fld (k * r.stride)
/-- A field of a polder's segment. -/
def cfgP (s : State) (p : Polder) (f : Fld) : Nat := (fldVal s p.val f 0).toNat
/-- Instance `k` of a field of a polder's segment. -/
def cfgPAt (s : State) (p : Polder) (r : FldRow) (k : Nat) : Nat := (fldVal s p.val r.fld (k * r.stride)).toNat
/-- A one-bit field of the common segment. -/
def cfgB (s : State) (f : Fld) : Bool := cfg s f == 1
/-- A one-bit field of the common segment, instance `k`. -/
def cfgBAt (s : State) (r : FldRow) (k : Nat) : Bool := cfgAt s r k == 1

/-! Block 0x0110 BOOT.MODES (01_architecture Table 01-7). -/
/-- SURVEY_HPL of BOOT.MODES. -/
def bootModesSurveyHpl : Fld := ⟨0x0110, 0, 8, 20, 5, 255, false⟩
/-- SURVEY_MAX of BOOT.MODES. -/
def bootModesSurveyMax : Fld := ⟨0x0110, 8, 8, 30, 6, 255, false⟩
/-- HOLD_ENTER of BOOT.MODES. -/
def bootModesHoldEnter : Fld := ⟨0x0110, 16, 8, 10, 1, 60, false⟩
/-- HOLD_EXIT of BOOT.MODES. -/
def bootModesHoldExit : Fld := ⟨0x0110, 24, 8, 30, 5, 255, false⟩
/-- THIN_LINK_DIV of BOOT.MODES. -/
def bootModesThinLinkDiv : Fld := ⟨0x0110, 32, 4, 4, 1, 15, false⟩
/-- LAYUP_FIX of BOOT.MODES. -/
def bootModesLayupFix : Fld := ⟨0x0110, 36, 16, 3600, 60, 65535, false⟩
/-- VCUT of BOOT.MODES. -/
def bootModesVcut : Fld := ⟨0x0110, 52, 10, 340, 300, 1000, false⟩
/-- VRES of BOOT.MODES. -/
def bootModesVres : Fld := ⟨0x0110, 62, 10, 360, 310, 1010, false⟩
/-- VOFF of BOOT.MODES. -/
def bootModesVoff : Fld := ⟨0x0110, 72, 10, 320, 300, 990, false⟩
/-- CHECK_PERIOD of BOOT.MODES. -/
def bootModesCheckPeriod : Fld := ⟨0x0110, 82, 8, 10, 1, 100, false⟩
/-- RULE_DWELL of BOOT.MODES. -/
def bootModesRuleDwell : Fld := ⟨0x0110, 90, 6, 10, 1, 63, false⟩

/-! Block 0x0111 BOOT.RULES (01_architecture Table 01-8). -/
/-- QTY of BOOT.RULES, 16 instances. -/
def bootRulesQty : FldRow := ⟨⟨0x0111, 0, 4, 0, 0, 6, false⟩, 16, 32⟩
/-- CMP of BOOT.RULES, 16 instances. -/
def bootRulesCmp : FldRow := ⟨⟨0x0111, 4, 1, 0, 0, 1, false⟩, 16, 32⟩
/-- ARG of BOOT.RULES, 16 instances. -/
def bootRulesArg : FldRow := ⟨⟨0x0111, 5, 3, 0, 0, 7, false⟩, 16, 32⟩
/-- THR of BOOT.RULES, 16 instances. -/
def bootRulesThr : FldRow := ⟨⟨0x0111, 8, 16, 0, 0, 65535, false⟩, 16, 32⟩
/-- TARGET of BOOT.RULES, 16 instances. -/
def bootRulesTarget : FldRow := ⟨⟨0x0111, 24, 2, 0, 0, 2, false⟩, 16, 32⟩
/-- VALID of BOOT.RULES, 16 instances. -/
def bootRulesValid : FldRow := ⟨⟨0x0111, 26, 1, 0, 0, 1, false⟩, 16, 32⟩

/-! Block 0x0910 SKY.CFG (09_sky_time Table 09-11). -/
/-- SLEW_MAX of SKY.CFG. -/
def skyCfgSlewMax : Fld := ⟨0x0910, 0, 10, 100, 1, 1000, false⟩
/-- STEP_EN of SKY.CFG. -/
def skyCfgStepEn : Fld := ⟨0x0910, 10, 1, 0, 0, 1, false⟩
/-- STEP_THR of SKY.CFG. -/
def skyCfgStepThr : Fld := ⟨0x0910, 11, 16, 1000, 1, 65535, false⟩
/-- PREFER of SKY.CFG. -/
def skyCfgPrefer : Fld := ⟨0x0910, 27, 1, 0, 0, 1, false⟩
/-- EXT_EN of SKY.CFG. -/
def skyCfgExtEn : Fld := ⟨0x0910, 28, 1, 0, 0, 1, false⟩
/-- TAU of SKY.CFG. -/
def skyCfgTau : Fld := ⟨0x0910, 32, 8, 10, 2, 255, false⟩
/-- FREQ_TOL of SKY.CFG. -/
def skyCfgFreqTol : Fld := ⟨0x0910, 40, 8, 20, 1, 255, false⟩
/-- PHASE_TOL of SKY.CFG. -/
def skyCfgPhaseTol : Fld := ⟨0x0910, 48, 16, 10, 1, 65535, false⟩
/-- HOLD_FRQ of SKY.CFG. -/
def skyCfgHoldFrq : Fld := ⟨0x0910, 64, 14, 100, 1, 10000, false⟩
/-- GNSS_RETURN of SKY.CFG. -/
def skyCfgGnssReturn : Fld := ⟨0x0910, 78, 8, 10, 1, 255, false⟩
/-- EXT_DLY of SKY.CFG. -/
def skyCfgExtDly : Fld := ⟨0x0910, 86, 16, 0, (-32768), 32767, true⟩
/-- EXT_UNC of SKY.CFG. -/
def skyCfgExtUnc : Fld := ⟨0x0910, 102, 10, 50, 1, 1000, false⟩
/-- SW_DONE of SKY.CFG. -/
def skyCfgSwDone : Fld := ⟨0x0910, 112, 7, 2, 1, 100, false⟩

/-! Block 0x0911 SKY.TP (09_sky_time Table 09-12). -/
/-- EN of SKY.TP, 2 instances. -/
def skyTpEn : FldRow := ⟨⟨0x0911, 0, 1, 0, 0, 1, false⟩, 2, 64⟩
/-- POL of SKY.TP, 2 instances. -/
def skyTpPol : FldRow := ⟨⟨0x0911, 1, 1, 0, 0, 1, false⟩, 2, 64⟩
/-- PERIOD of SKY.TP, 2 instances. -/
def skyTpPeriod : FldRow := ⟨⟨0x0911, 2, 3, 0, 0, 5, false⟩, 2, 64⟩
/-- GATE of SKY.TP, 2 instances. -/
def skyTpGate : FldRow := ⟨⟨0x0911, 5, 2, 2, 0, 2, false⟩, 2, 64⟩
/-- WIDTH of SKY.TP, 2 instances. -/
def skyTpWidth : FldRow := ⟨⟨0x0911, 7, 16, 10000, 1, 65535, false⟩, 2, 64⟩
/-- TP_DLY of SKY.TP, 2 instances. -/
def skyTpTpDly : FldRow := ⟨⟨0x0911, 23, 16, 0, (-32768), 32767, true⟩, 2, 64⟩
/-- TP_OFS of SKY.TP, 2 instances. -/
def skyTpTpOfs : FldRow := ⟨⟨0x0911, 39, 20, 0, (-524288), 524287, true⟩, 2, 64⟩
/-- TP_UNC of SKY.TP, 2 instances. -/
def skyTpTpUnc : FldRow := ⟨⟨0x0911, 59, 5, 10, 1, 31, false⟩, 2, 64⟩

/-! Block 0x0912 SKY.EVT (09_sky_time Table 09-13). -/
/-- EN of SKY.EVT, 4 instances. -/
def skyEvtEn : FldRow := ⟨⟨0x0912, 0, 1, 0, 0, 1, false⟩, 4, 32⟩
/-- EDGE of SKY.EVT, 4 instances. -/
def skyEvtEdge : FldRow := ⟨⟨0x0912, 1, 2, 0, 0, 2, false⟩, 4, 32⟩
/-- HOLDOFF of SKY.EVT, 4 instances. -/
def skyEvtHoldoff : FldRow := ⟨⟨0x0912, 3, 16, 1000, 1, 65535, false⟩, 4, 32⟩
/-- EVT_DLY of SKY.EVT, 4 instances. -/
def skyEvtEvtDly : FldRow := ⟨⟨0x0912, 19, 12, 0, 0, 4095, false⟩, 4, 32⟩

/-! Block 0x0913 SKY.SCHED (09_sky_time Table 09-14). -/
/-- COMMON of SKY.SCHED. -/
def skySchedCommon : Fld := ⟨0x0913, 0, 17, 8192, 4096, 131071, false⟩
/-- QUOTA of SKY.SCHED, 8 instances. -/
def skySchedQuota : FldRow := ⟨⟨0x0913, 32, 17, 15360, 0, 126976, false⟩, 8, 32⟩

/-! Block 0x1210 PLD.CRYPTO (12_polders Table 12-14). -/
/-- OWNER of PLD.CRYPTO, 32 instances. -/
def pldCryptoOwner : FldRow := ⟨⟨0x1210, 0, 4, 15, 0, 15, false⟩, 32, 4⟩

/-! Block 0x1218 PLD.SEG (12_polders Table 12-15). -/
/-- PROG_FIRST of PLD.SEG. -/
def pldSegProgFirst : Fld := ⟨0x1218, 0, 8, 192, 1, 192, false⟩
/-- BREACH_ACT of PLD.SEG. -/
def pldSegBreachAct : Fld := ⟨0x1218, 8, 2, 0, 0, 2, false⟩
/-- RESTART_MAX of PLD.SEG. -/
def pldSegRestartMax : Fld := ⟨0x1218, 10, 4, 3, 0, 15, false⟩

/-! Block 0x1219 PLD.SLUICE (12_polders Table 12-16). -/
/-- INDEX of PLD.SLUICE, 8 instances. -/
def pldSluiceIndex : FldRow := ⟨⟨0x1219, 0, 3, 0, 0, 7, false⟩, 8, 32⟩
/-- DIR of PLD.SLUICE, 8 instances. -/
def pldSluiceDir : FldRow := ⟨⟨0x1219, 3, 1, 0, 0, 1, false⟩, 8, 32⟩
/-- PEER of PLD.SLUICE, 8 instances. -/
def pldSluicePeer : FldRow := ⟨⟨0x1219, 4, 3, 0, 0, 7, false⟩, 8, 32⟩
/-- ID of PLD.SLUICE, 8 instances. -/
def pldSluiceId : FldRow := ⟨⟨0x1219, 7, 8, 0, 0, 255, false⟩, 8, 32⟩
/-- PERIOD of PLD.SLUICE, 8 instances. -/
def pldSluicePeriod : FldRow := ⟨⟨0x1219, 15, 10, 1, 1, 1000, false⟩, 8, 32⟩

/-! Block 0x1318 OHM.CFG (13_ohmore_model Table 13-13). -/
/-- DRY_TRAP of OHM.CFG. -/
def ohmCfgDryTrap : Fld := ⟨0x1318, 0, 1, 0, 0, 1, false⟩

/-! Block 0x1510 PMU.CFG (15_power Table 15-9). -/
/-- BUDGET of PMU.CFG, 8 instances. -/
def pmuCfgBudget : FldRow := ⟨⟨0x1510, 0, 9, 50, 0, 400, false⟩, 8, 9⟩
/-- THIN_ON of PMU.CFG. -/
def pmuCfgThinOn : Fld := ⟨0x1510, 72, 10, 200, 50, 900, false⟩
/-- HOST_IDLE of PMU.CFG. -/
def pmuCfgHostIdle : Fld := ⟨0x1510, 82, 8, 10, 1, 255, false⟩

/-! Block 0x1511 PMU.GAUGE (15_power Table 15-10). -/
/-- CAPACITY of PMU.GAUGE. -/
def pmuGaugeCapacity : Fld := ⟨0x1511, 0, 16, 100, 100, 65535, false⟩
/-- REST_I of PMU.GAUGE. -/
def pmuGaugeRestI : Fld := ⟨0x1511, 16, 7, 5, 1, 100, false⟩
/-- REST_MIN of PMU.GAUGE. -/
def pmuGaugeRestMin : Fld := ⟨0x1511, 23, 7, 30, 10, 120, false⟩
/-- OCV of PMU.GAUGE, 11 instances. -/
def pmuGaugeOcv : FldRow := ⟨⟨0x1511, 32, 10, 250, 250, 550, false⟩, 11, 10⟩

/-! Block 0x1610 CLK.CFG (16_clocks Table 16-7). -/
/-- REF_SRC of CLK.CFG. -/
def clkCfgRefSrc : Fld := ⟨0x1610, 0, 1, 0, 0, 1, false⟩
/-- SSC_MODE of CLK.CFG. -/
def clkCfgSscMode : Fld := ⟨0x1610, 1, 2, 0, 0, 2, false⟩
/-- SSC_DEPTH of CLK.CFG. -/
def clkCfgSscDepth : Fld := ⟨0x1610, 3, 5, 0, 0, 31, false⟩
/-- CKO_FMT01 of CLK.CFG. -/
def clkCfgCkoFmt01 : Fld := ⟨0x1610, 8, 2, 0, 0, 2, false⟩
/-- CKO_FMT23 of CLK.CFG. -/
def clkCfgCkoFmt23 : Fld := ⟨0x1610, 10, 2, 0, 0, 2, false⟩
/-- CKO_LVL of CLK.CFG. -/
def clkCfgCkoLvl : Fld := ⟨0x1610, 12, 1, 0, 0, 1, false⟩
/-- CKD_FMT of CLK.CFG. -/
def clkCfgCkdFmt : Fld := ⟨0x1610, 13, 2, 0, 0, 2, false⟩
/-- CKD_LVL of CLK.CFG. -/
def clkCfgCkdLvl : Fld := ⟨0x1610, 15, 1, 0, 0, 1, false⟩
/-- CKD0_EN of CLK.CFG. -/
def clkCfgCkd0En : Fld := ⟨0x1610, 16, 1, 0, 0, 1, false⟩
/-- CKD1_EN of CLK.CFG. -/
def clkCfgCkd1En : Fld := ⟨0x1610, 17, 1, 0, 0, 1, false⟩
/-- CKD_GATE of CLK.CFG. -/
def clkCfgCkdGate : Fld := ⟨0x1610, 18, 2, 1, 0, 2, false⟩
/-- CKD_VCO of CLK.CFG. -/
def clkCfgCkdVco : Fld := ⟨0x1610, 32, 22, 2000000, 2000000, 2500000, false⟩
/-- CKD0_DIV of CLK.CFG. -/
def clkCfgCkd0Div : Fld := ⟨0x1610, 64, 22, 200, 16, 4194303, false⟩
/-- CKD1_DIV of CLK.CFG. -/
def clkCfgCkd1Div : Fld := ⟨0x1610, 96, 22, 200, 16, 4194303, false⟩

/-! Block 0x1810 HST.CFG (18_host_ports Table 18-9). -/
/-- SYNC_MODE of HST.CFG. -/
def hstCfgSyncMode : Fld := ⟨0x1810, 0, 1, 0, 0, 1, false⟩
/-- AUTOBAUD of HST.CFG. -/
def hstCfgAutobaud : Fld := ⟨0x1810, 1, 1, 0, 0, 1, false⟩
/-- FLOW_EN of HST.CFG. -/
def hstCfgFlowEn : Fld := ⟨0x1810, 2, 1, 1, 0, 1, false⟩
/-- DATA_BITS of HST.CFG. -/
def hstCfgDataBits : Fld := ⟨0x1810, 3, 4, 8, 8, 9, false⟩
/-- PARITY of HST.CFG. -/
def hstCfgParity : Fld := ⟨0x1810, 7, 3, 0, 0, 4, false⟩
/-- STOP of HST.CFG. -/
def hstCfgStop : Fld := ⟨0x1810, 10, 2, 0, 0, 2, false⟩
/-- I2C_EN of HST.CFG. -/
def hstCfgI2cEn : Fld := ⟨0x1810, 12, 1, 1, 0, 1, false⟩
/-- I2C_ADDR of HST.CFG. -/
def hstCfgI2cAddr : Fld := ⟨0x1810, 13, 7, 66, 8, 119, false⟩
/-- ASSIST_EN of HST.CFG. -/
def hstCfgAssistEn : Fld := ⟨0x1810, 20, 1, 1, 0, 1, false⟩
/-- BAUD of HST.CFG. -/
def hstCfgBaud : Fld := ⟨0x1810, 32, 25, 12000000, 9600, 24000000, false⟩
/-- MIN_BAUD of HST.CFG. -/
def hstCfgMinBaud : Fld := ⟨0x1810, 64, 24, 12000000, 9600, 12000000, false⟩

/-! Block 0x1811 HST.SLOTS (18_host_ports Table 18-10). -/
/-- SLOT_B of HST.SLOTS. -/
def hstSlotsSlotB : Fld := ⟨0x1811, 0, 12, 256, 24, 2048, false⟩
/-- SLOT of HST.SLOTS, 8 instances. -/
def hstSlotsSlot : FldRow := ⟨⟨0x1811, 12, 12, 96, 0, 2048, false⟩, 8, 12⟩
/-- OUTQ_B of HST.SLOTS. -/
def hstSlotsOutqB : Fld := ⟨0x1811, 112, 8, 192, 32, 255, false⟩
/-- OUTQ of HST.SLOTS, 8 instances. -/
def hstSlotsOutq : FldRow := ⟨⟨0x1811, 120, 8, 48, 0, 255, false⟩, 8, 8⟩
/-- INQ_B of HST.SLOTS. -/
def hstSlotsInqB : Fld := ⟨0x1811, 184, 8, 48, 8, 255, false⟩
/-- INQ of HST.SLOTS, 8 instances. -/
def hstSlotsInq : FldRow := ⟨⟨0x1811, 192, 4, 2, 0, 15, false⟩, 8, 4⟩

/-! Block 0x1812 HST.CARD (18_host_ports Table 18-11). -/
/-- VOLT of HST.CARD, 8 instances. -/
def hstCardVolt : FldRow := ⟨⟨0x1812, 0, 1, 0, 0, 1, false⟩, 8, 16⟩
/-- FREQ of HST.CARD, 8 instances. -/
def hstCardFreq : FldRow := ⟨⟨0x1812, 1, 13, 4000, 1000, 5000, false⟩, 8, 16⟩

/-! Block 0x1818 HST.KEY (18_host_ports Table 18-12). -/
/-- KEY256 of HST.KEY. -/
def hstKeyKey256 : Fld := ⟨0x1818, 0, 1, 1, 0, 1, false⟩
/-- KEY of HST.KEY. -/
def hstKeyKey : Fld := ⟨0x1818, 32, 256, 0, 0, 115792089237316195423570985008687907853269984665640564039457584007913129639935, false⟩

/-! Block 0x1910 OBS.CFG (19_observation Table 19-8). -/
/-- EN of OBS.CFG. -/
def obsCfgEn : Fld := ⟨0x1910, 0, 1, 0, 0, 1, false⟩
/-- OBS_DIV of OBS.CFG. -/
def obsCfgObsDiv : Fld := ⟨0x1910, 1, 2, 0, 0, 3, false⟩
/-- EVT_BASIN of OBS.CFG. -/
def obsCfgEvtBasin : Fld := ⟨0x1910, 3, 1, 0, 0, 1, false⟩
/-- EVT_COUNT of OBS.CFG. -/
def obsCfgEvtCount : Fld := ⟨0x1910, 4, 1, 0, 0, 1, false⟩
/-- DUMP_PERIOD of OBS.CFG. -/
def obsCfgDumpPeriod : Fld := ⟨0x1910, 5, 8, 10, 0, 255, false⟩
/-- CMN_KIB of OBS.CFG. -/
def obsCfgCmnKib : Fld := ⟨0x1910, 32, 8, 64, 8, 255, false⟩
/-- POL_KIB of OBS.CFG, 8 instances. -/
def obsCfgPolKib : FldRow := ⟨⟨0x1910, 40, 8, 24, 0, 255, false⟩, 8, 8⟩

/-! Block 0x1918 OBS.KEY (19_observation Table 19-9). -/
/-- TRACE_EN of OBS.KEY. -/
def obsKeyTraceEn : Fld := ⟨0x1918, 0, 1, 0, 0, 1, false⟩
/-- COUNT_EN of OBS.KEY. -/
def obsKeyCountEn : Fld := ⟨0x1918, 1, 1, 0, 0, 1, false⟩
/-- KEY of OBS.KEY. -/
def obsKeyKey : Fld := ⟨0x1918, 32, 256, 0, 0, 115792089237316195423570985008687907853269984665640564039457584007913129639935, false⟩

/-! Block 0x0810 SNF.SHARE (08_snapshot_farm Table 08-11). -/
/-- OWNER of SNF.SHARE, 128 instances. -/
def snfShareOwner : FldRow := ⟨⟨0x0810, 0, 4, 15, 0, 15, false⟩, 128, 4⟩
/-- STORE of SNF.SHARE, 8 instances. -/
def snfShareStore : FldRow := ⟨⟨0x0810, 512, 8, 0, 0, 255, false⟩, 8, 8⟩
/-- RES_DEPTH of SNF.SHARE, 8 instances. -/
def snfShareResDepth : FldRow := ⟨⟨0x0810, 576, 6, 16, 4, 32, false⟩, 8, 8⟩

/-! Block 0x0811 SNF.CFG (08_snapshot_farm Table 08-12). -/
/-- R_TAG of SNF.CFG. -/
def snfCfgRTag : Fld := ⟨0x0811, 0, 6, 10, 1, 50, false⟩
/-- STAMP_MAX of SNF.CFG. -/
def snfCfgStampMax : Fld := ⟨0x0811, 6, 7, 20, 1, 100, false⟩
/-- MAX_AGE of SNF.CFG. -/
def snfCfgMaxAge : Fld := ⟨0x0811, 13, 6, 30, 5, 60, false⟩
/-- SNF_ELEV of SNF.CFG. -/
def snfCfgSnfElev : Fld := ⟨0x0811, 19, 5, 10, 0, 30, false⟩
/-- SNF_VEL of SNF.CFG. -/
def snfCfgSnfVel : Fld := ⟨0x0811, 24, 8, 20, 1, 200, false⟩
/-- SNF_PFA of SNF.CFG. -/
def snfCfgSnfPfa : Fld := ⟨0x0811, 32, 4, 5, 3, 9, false⟩
/-- SNF_CONST of SNF.CFG. -/
def snfCfgSnfConst : Fld := ⟨0x0811, 36, 3, 7, 0, 7, false⟩

/-! Block 0x0818 SNF.OPT (08_snapshot_farm Table 08-13). -/
/-- VERT of SNF.OPT. -/
def snfOptVert : Fld := ⟨0x0818, 0, 2, 0, 0, 2, false⟩
/-- MEAS_OUT of SNF.OPT. -/
def snfOptMeasOut : Fld := ⟨0x0818, 2, 1, 0, 0, 1, false⟩
/-- HGT_OFS of SNF.OPT. -/
def snfOptHgtOfs : Fld := ⟨0x0818, 3, 16, 0, (-32768), 32767, true⟩
/-- HGT_SIG of SNF.OPT. -/
def snfOptHgtSig : Fld := ⟨0x0818, 19, 8, 50, 1, 255, false⟩

/-! Block 0x1010 LNK.CFG (10_tag_link Table 10-12). -/
/-- BEACON_EN of LNK.CFG. -/
def lnkCfgBeaconEn : Fld := ⟨0x1010, 0, 1, 1, 0, 1, false⟩
/-- BEACON_CH of LNK.CFG. -/
def lnkCfgBeaconCh : Fld := ⟨0x1010, 1, 3, 0, 0, 7, false⟩
/-- ALARM_CH of LNK.CFG. -/
def lnkCfgAlarmCh : Fld := ⟨0x1010, 4, 8, 0, 0, 255, false⟩
/-- IDLE_DIV of LNK.CFG. -/
def lnkCfgIdleDiv : Fld := ⟨0x1010, 12, 4, 10, 2, 15, false⟩
/-- LIVE_S of LNK.CFG. -/
def lnkCfgLiveS : Fld := ⟨0x1010, 16, 8, 60, 1, 255, false⟩
/-- RETRY_GAP of LNK.CFG. -/
def lnkCfgRetryGap : Fld := ⟨0x1010, 24, 4, 2, 1, 15, false⟩
/-- DPD_EN of LNK.CFG. -/
def lnkCfgDpdEn : Fld := ⟨0x1010, 28, 1, 0, 0, 1, false⟩
/-- EXT_PA of LNK.CFG. -/
def lnkCfgExtPa : Fld := ⟨0x1010, 29, 1, 0, 0, 1, false⟩
/-- BEACON_PWR of LNK.CFG. -/
def lnkCfgBeaconPwr : Fld := ⟨0x1010, 32, 8, 14, (-128), 127, true⟩

/-! Block 0x1011 LNK.CHAN (10_tag_link Table 10-13). -/
/-- FREQ of LNK.CHAN, 8 instances. -/
def lnkChanFreq : FldRow := ⟨⟨0x1011, 0, 32, 410000000, 410000000, 960000000, false⟩, 8, 128⟩
/-- SYNC of LNK.CHAN, 8 instances. -/
def lnkChanSync : FldRow := ⟨⟨0x1011, 32, 32, 0, 0, 4294967295, false⟩, 8, 128⟩
/-- EN of LNK.CHAN, 8 instances. -/
def lnkChanEn : FldRow := ⟨⟨0x1011, 64, 1, 0, 0, 1, false⟩, 8, 128⟩
/-- CHIP of LNK.CHAN, 8 instances. -/
def lnkChanChip : FldRow := ⟨⟨0x1011, 65, 2, 0, 0, 2, false⟩, 8, 128⟩
/-- MOD of LNK.CHAN, 8 instances. -/
def lnkChanMod : FldRow := ⟨⟨0x1011, 67, 1, 0, 0, 1, false⟩, 8, 128⟩
/-- SF of LNK.CHAN, 8 instances. -/
def lnkChanSf : FldRow := ⟨⟨0x1011, 68, 3, 0, 0, 5, false⟩, 8, 128⟩
/-- REP of LNK.CHAN, 8 instances. -/
def lnkChanRep : FldRow := ⟨⟨0x1011, 71, 2, 0, 0, 3, false⟩, 8, 128⟩
/-- PRE_SF of LNK.CHAN, 8 instances. -/
def lnkChanPreSf : FldRow := ⟨⟨0x1011, 73, 4, 5, 0, 8, false⟩, 8, 128⟩
/-- CODE of LNK.CHAN, 8 instances. -/
def lnkChanCode : FldRow := ⟨⟨0x1011, 77, 4, 0, 0, 15, false⟩, 8, 128⟩
/-- SYNC_ERR of LNK.CHAN, 8 instances. -/
def lnkChanSyncErr : FldRow := ⟨⟨0x1011, 81, 3, 2, 0, 6, false⟩, 8, 128⟩
/-- SNAP of LNK.CHAN, 8 instances. -/
def lnkChanSnap : FldRow := ⟨⟨0x1011, 84, 1, 0, 0, 1, false⟩, 8, 128⟩

/-! Block 0x1012 LNK.SLOTS (10_tag_link Table 10-14). -/
/-- OWNER of LNK.SLOTS, 400 instances. -/
def lnkSlotsOwner : FldRow := ⟨⟨0x1012, 0, 4, 15, 0, 15, false⟩, 400, 4⟩
/-- CTX_FIRST of LNK.SLOTS, 8 instances. -/
def lnkSlotsCtxFirst : FldRow := ⟨⟨0x1012, 1600, 10, 0, 0, 1023, false⟩, 8, 32⟩
/-- CTX_COUNT of LNK.SLOTS, 8 instances. -/
def lnkSlotsCtxCount : FldRow := ⟨⟨0x1012, 1610, 11, 0, 0, 1024, false⟩, 8, 32⟩

/-! Block 0x1018 LNK.ROSTER (10_tag_link Table 10-15). -/
/-- CTX of LNK.ROSTER, 1024 instances. -/
def lnkRosterCtx : FldRow := ⟨⟨0x1018, 0, 10, 0, 0, 1023, false⟩, 1024, 256⟩
/-- STATE of LNK.ROSTER, 1024 instances. -/
def lnkRosterState : FldRow := ⟨⟨0x1018, 10, 2, 1, 0, 3, false⟩, 1024, 256⟩
/-- RETRY_MAX of LNK.ROSTER, 1024 instances. -/
def lnkRosterRetryMax : FldRow := ⟨⟨0x1018, 12, 4, 3, 0, 15, false⟩, 1024, 256⟩
/-- TAG_ID of LNK.ROSTER, 1024 instances. -/
def lnkRosterTagId : FldRow := ⟨⟨0x1018, 32, 32, 0, 0, 4294967295, false⟩, 1024, 256⟩
/-- KEY of LNK.ROSTER, 1024 instances. -/
def lnkRosterKey : FldRow := ⟨⟨0x1018, 128, 128, 0, 0, 340282366920938463463374607431768211455, false⟩, 1024, 256⟩

/-! Block 0x1110 RFC.CFG (11_radio_control Table 11-8). -/
/-- LSW_OFF of RFC.CFG. -/
def rfcCfgLswOff : Fld := ⟨0x1110, 0, 3, 0, 0, 7, false⟩
/-- LSW_RX of RFC.CFG. -/
def rfcCfgLswRx : Fld := ⟨0x1110, 3, 3, 1, 0, 7, false⟩
/-- LSW_TXI of RFC.CFG. -/
def rfcCfgLswTxi : Fld := ⟨0x1110, 6, 3, 2, 0, 7, false⟩
/-- LSW_TXE of RFC.CFG. -/
def rfcCfgLswTxe : Fld := ⟨0x1110, 9, 3, 6, 0, 7, false⟩
/-- PA_LEAD of RFC.CFG. -/
def rfcCfgPaLead : Fld := ⟨0x1110, 12, 6, 20, 5, 45, false⟩
/-- BIAS_ON of RFC.CFG. -/
def rfcCfgBiasOn : Fld := ⟨0x1110, 18, 8, 128, 0, 255, false⟩
/-- BIAS_RAMP of RFC.CFG. -/
def rfcCfgBiasRamp : Fld := ⟨0x1110, 26, 6, 10, 1, 40, false⟩
/-- REQ_EN of RFC.CFG. -/
def rfcCfgReqEn : Fld := ⟨0x1110, 32, 1, 0, 0, 1, false⟩
/-- GNT_EN of RFC.CFG. -/
def rfcCfgGntEn : Fld := ⟨0x1110, 33, 1, 0, 0, 1, false⟩
/-- PRI_EN of RFC.CFG. -/
def rfcCfgPriEn : Fld := ⟨0x1110, 34, 1, 0, 0, 1, false⟩
/-- REQ_LEAD of RFC.CFG. -/
def rfcCfgReqLead : Fld := ⟨0x1110, 35, 9, 100, 20, 500, false⟩

/-! Block 0x1111 RFC.TIGHTEN (11_radio_control Table 11-9). -/
/-- P_CUT of RFC.TIGHTEN, 15 instances. -/
def rfcTightenPCut : FldRow := ⟨⟨0x1111, 0, 8, 0, 0, 255, false⟩, 15, 64⟩
/-- DUTY_PCT of RFC.TIGHTEN, 15 instances. -/
def rfcTightenDutyPct : FldRow := ⟨⟨0x1111, 8, 7, 100, 0, 100, false⟩, 15, 64⟩
/-- LBT_LOWER of RFC.TIGHTEN, 15 instances. -/
def rfcTightenLbtLower : FldRow := ⟨⟨0x1111, 15, 6, 0, 0, 63, false⟩, 15, 64⟩
/-- LBT_ADD of RFC.TIGHTEN, 15 instances. -/
def rfcTightenLbtAdd : FldRow := ⟨⟨0x1111, 21, 11, 0, 0, 2047, false⟩, 15, 64⟩
/-- MASK_AND of RFC.TIGHTEN, 15 instances. -/
def rfcTightenMaskAnd : FldRow := ⟨⟨0x1111, 32, 32, 4294967295, 0, 4294967295, false⟩, 15, 64⟩

/-! Block 0x1112 RFC.SHARE (11_radio_control Table 11-10). -/
/-- SHARE of RFC.SHARE, 8 instances. -/
def rfcShareShare : FldRow := ⟨⟨0x1112, 0, 8, 10, 0, 100, false⟩, 8, 8⟩
/-- SHARE_C of RFC.SHARE. -/
def rfcShareShareC : Fld := ⟨0x1112, 64, 8, 20, 0, 100, false⟩

/-! Block 0x0210 SPT.PORT (02_sample_ports Table 02-7). -/
/-- EN of SPT.PORT, 4 instances. -/
def sptPortEn : FldRow := ⟨⟨0x0210, 0, 1, 0, 0, 1, false⟩, 4, 64⟩
/-- RATE of SPT.PORT, 4 instances. -/
def sptPortRate : FldRow := ⟨⟨0x0210, 1, 2, 0, 0, 3, false⟩, 4, 64⟩
/-- ALIGN of SPT.PORT, 4 instances. -/
def sptPortAlign : FldRow := ⟨⟨0x0210, 3, 1, 0, 0, 1, false⟩, 4, 64⟩
/-- ANT of SPT.PORT, 4 instances. -/
def sptPortAnt : FldRow := ⟨⟨0x0210, 4, 2, 0, 0, 3, false⟩, 4, 64⟩
/-- FE_LAT of SPT.PORT, 4 instances. -/
def sptPortFeLat : FldRow := ⟨⟨0x0210, 6, 8, 16, 0, 255, false⟩, 4, 64⟩
/-- FE_PIPE of SPT.PORT, 4 instances. -/
def sptPortFePipe : FldRow := ⟨⟨0x0210, 14, 8, 8, 2, 255, false⟩, 4, 64⟩
/-- GAIN_LAT of SPT.PORT, 4 instances. -/
def sptPortGainLat : FldRow := ⟨⟨0x0210, 22, 6, 4, 0, 63, false⟩, 4, 64⟩
/-- SPI_MODE of SPT.PORT, 4 instances. -/
def sptPortSpiMode : FldRow := ⟨⟨0x0210, 28, 2, 0, 0, 3, false⟩, 4, 64⟩
/-- SPI_BITS of SPT.PORT, 4 instances. -/
def sptPortSpiBits : FldRow := ⟨⟨0x0210, 30, 6, 16, 8, 32, false⟩, 4, 64⟩
/-- SPI_DIV of SPT.PORT, 4 instances. -/
def sptPortSpiDiv : FldRow := ⟨⟨0x0210, 36, 4, 7, 7, 15, false⟩, 4, 64⟩

/-! Block 0x0211 SPT.LANE (02_sample_ports Table 02-8). -/
/-- BAND of SPT.LANE, 16 instances. -/
def sptLaneBand : FldRow := ⟨⟨0x0211, 0, 3, 0, 0, 4, false⟩, 16, 32⟩
/-- GAIN_MODE of SPT.LANE, 16 instances. -/
def sptLaneGainMode : FldRow := ⟨⟨0x0211, 3, 2, 2, 0, 2, false⟩, 16, 32⟩
/-- FIX_INDEX of SPT.LANE, 16 instances. -/
def sptLaneFixIndex : FldRow := ⟨⟨0x0211, 5, 4, 0, 0, 15, false⟩, 16, 32⟩
/-- GAIN_MAX of SPT.LANE, 16 instances. -/
def sptLaneGainMax : FldRow := ⟨⟨0x0211, 9, 4, 0, 0, 15, false⟩, 16, 32⟩
/-- BLANK of SPT.LANE, 16 instances. -/
def sptLaneBlank : FldRow := ⟨⟨0x0211, 13, 1, 0, 0, 1, false⟩, 16, 32⟩
/-- P_LO of SPT.LANE, 16 instances. -/
def sptLanePLo : FldRow := ⟨⟨0x0211, 14, 7, 16, 5, 78, false⟩, 16, 32⟩
/-- P_HI of SPT.LANE, 16 instances. -/
def sptLanePHi : FldRow := ⟨⟨0x0211, 21, 7, 40, 6, 79, false⟩, 16, 32⟩

/-! Block 0x0212 SPT.GAIN (02_sample_ports Table 02-9). -/
/-- LANE of SPT.GAIN, 256 instances. -/
def sptGainLane : FldRow := ⟨⟨0x0212, 0, 4, 0, 0, 3, false⟩, 256, 64⟩
/-- PORT of SPT.GAIN, 256 instances. -/
def sptGainPort : FldRow := ⟨⟨0x0212, 4, 2, 0, 0, 3, false⟩, 256, 64⟩
/-- INDEX of SPT.GAIN, 256 instances. -/
def sptGainIndex : FldRow := ⟨⟨0x0212, 6, 4, 0, 0, 15, false⟩, 256, 64⟩
/-- GAIN of SPT.GAIN, 256 instances. -/
def sptGainGain : FldRow := ⟨⟨0x0212, 10, 8, 0, (-128), 127, true⟩, 256, 64⟩
/-- WORD of SPT.GAIN, 256 instances. -/
def sptGainWord : FldRow := ⟨⟨0x0212, 32, 32, 0, 0, 4294967295, false⟩, 256, 64⟩

/-! Block 0x0213 SPT.FEINIT (02_sample_ports Table 02-10). -/
/-- PORT of SPT.FEINIT, 256 instances. -/
def sptFeinitPort : FldRow := ⟨⟨0x0213, 0, 2, 0, 0, 3, false⟩, 256, 64⟩
/-- READ of SPT.FEINIT, 256 instances. -/
def sptFeinitRead : FldRow := ⟨⟨0x0213, 2, 1, 0, 0, 1, false⟩, 256, 64⟩
/-- DELAY of SPT.FEINIT, 256 instances. -/
def sptFeinitDelay : FldRow := ⟨⟨0x0213, 4, 12, 0, 0, 4095, false⟩, 256, 64⟩
/-- EXPECT of SPT.FEINIT, 256 instances. -/
def sptFeinitExpect : FldRow := ⟨⟨0x0213, 16, 16, 0, 0, 65535, false⟩, 256, 64⟩
/-- WORD of SPT.FEINIT, 256 instances. -/
def sptFeinitWord : FldRow := ⟨⟨0x0213, 32, 32, 0, 0, 4294967295, false⟩, 256, 64⟩

/-! Block 0x0214 SPT.CTRL (02_sample_ports Table 02-11). -/
/-- SYNC_POLICY of SPT.CTRL. -/
def sptCtrlSyncPolicy : Fld := ⟨0x0214, 0, 1, 0, 0, 1, false⟩
/-- SYNC_WIDTH of SPT.CTRL. -/
def sptCtrlSyncWidth : Fld := ⟨0x0214, 1, 4, 4, 1, 15, false⟩
/-- BLANK_TAIL of SPT.CTRL. -/
def sptCtrlBlankTail : Fld := ⟨0x0214, 5, 7, 20, 0, 100, false⟩

/-! Block 0x0310 ARY.GEOM (03_array Table 03-3). -/
/-- X of ARY.GEOM, 4 instances. -/
def aryGeomX : FldRow := ⟨⟨0x0310, 0, 16, 0, (-32768), 32767, true⟩, 4, 64⟩
/-- Y of ARY.GEOM, 4 instances. -/
def aryGeomY : FldRow := ⟨⟨0x0310, 16, 16, 0, (-32768), 32767, true⟩, 4, 64⟩
/-- Z of ARY.GEOM, 4 instances. -/
def aryGeomZ : FldRow := ⟨⟨0x0310, 32, 16, 0, (-32768), 32767, true⟩, 4, 64⟩
/-- CAB_DLY of ARY.GEOM, 4 instances. -/
def aryGeomCabDly : FldRow := ⟨⟨0x0310, 48, 16, 0, 0, 65535, false⟩, 4, 64⟩

/-! Block 0x0311 ARY.CFG (03_array Table 03-4). -/
/-- REF of ARY.CFG. -/
def aryCfgRef : Fld := ⟨0x0311, 0, 2, 0, 0, 3, false⟩
/-- KEEP2 of ARY.CFG. -/
def aryCfgKeep2 : Fld := ⟨0x0311, 2, 2, 1, 0, 3, false⟩
/-- NULL_EN of ARY.CFG. -/
def aryCfgNullEn : Fld := ⟨0x0311, 4, 4, 15, 0, 15, false⟩
/-- NULL_AVG of ARY.CFG. -/
def aryCfgNullAvg : Fld := ⟨0x0311, 8, 3, 4, 1, 7, false⟩
/-- INR_DET of ARY.CFG. -/
def aryCfgInrDet : Fld := ⟨0x0311, 11, 7, 20, 6, 60, false⟩
/-- RES_RISE of ARY.CFG. -/
def aryCfgResRise : Fld := ⟨0x0311, 18, 7, 12, 2, 80, false⟩
/-- RES_DENY of ARY.CFG. -/
def aryCfgResDeny : Fld := ⟨0x0311, 25, 7, 50, 4, 127, false⟩
/-- JAM_PERSIST of ARY.CFG. -/
def aryCfgJamPersist : Fld := ⟨0x0311, 32, 8, 20, 1, 255, false⟩
/-- JAM_CLEAR of ARY.CFG. -/
def aryCfgJamClear : Fld := ⟨0x0311, 40, 8, 100, 1, 255, false⟩

/-! Block 0x0312 ARY.SPOOF (03_array Table 03-5). -/
/-- SPOOF_EN of ARY.SPOOF. -/
def arySpoofSpoofEn : Fld := ⟨0x0312, 0, 1, 1, 0, 1, false⟩
/-- AOA_CN0 of ARY.SPOOF. -/
def arySpoofAoaCn0 : Fld := ⟨0x0312, 1, 7, 35, 25, 60, false⟩
/-- AOA_LOCK of ARY.SPOOF. -/
def arySpoofAoaLock : Fld := ⟨0x0312, 8, 4, 2, 0, 15, false⟩
/-- LOBE_MARGIN of ARY.SPOOF. -/
def arySpoofLobeMargin : Fld := ⟨0x0312, 12, 4, 6, 1, 15, false⟩
/-- CLUSTER_DEG of ARY.SPOOF. -/
def arySpoofClusterDeg : Fld := ⟨0x0312, 16, 6, 6, 2, 30, false⟩
/-- SEP_MARGIN of ARY.SPOOF. -/
def arySpoofSepMargin : Fld := ⟨0x0312, 22, 6, 15, 5, 60, false⟩
/-- SPOOF_COUNT of ARY.SPOOF. -/
def arySpoofSpoofCount : Fld := ⟨0x0312, 28, 4, 4, 4, 15, false⟩
/-- AOA_TOL of ARY.SPOOF. -/
def arySpoofAoaTol : Fld := ⟨0x0312, 32, 6, 10, 3, 45, false⟩
/-- DISAGREE_COUNT of ARY.SPOOF. -/
def arySpoofDisagreeCount : Fld := ⟨0x0312, 38, 4, 2, 1, 15, false⟩
/-- MIN_AOA of ARY.SPOOF. -/
def arySpoofMinAoa : Fld := ⟨0x0312, 42, 4, 4, 2, 15, false⟩
/-- PERSIST of ARY.SPOOF. -/
def arySpoofPersist : Fld := ⟨0x0312, 46, 4, 3, 1, 15, false⟩
/-- CLEAR of ARY.SPOOF. -/
def arySpoofClear : Fld := ⟨0x0312, 50, 8, 30, 5, 255, false⟩
/-- HOLD of ARY.SPOOF. -/
def arySpoofHold : Fld := ⟨0x0312, 58, 6, 30, 6, 63, false⟩

/-! Block 0x0313 ARY.CAL (03_array Table 03-6). -/
/-- CAL_EN of ARY.CAL. -/
def aryCalCalEn : Fld := ⟨0x0313, 0, 1, 1, 0, 1, false⟩
/-- CAL_ELEV of ARY.CAL. -/
def aryCalCalElev : Fld := ⟨0x0313, 1, 7, 15, 0, 60, false⟩
/-- CAL_PERIOD of ARY.CAL. -/
def aryCalCalPeriod : Fld := ⟨0x0313, 8, 6, 10, 1, 60, false⟩
/-- CAL_MIN_SAT of ARY.CAL. -/
def aryCalCalMinSat : Fld := ⟨0x0313, 14, 4, 5, 3, 15, false⟩
/-- STEP_MAX of ARY.CAL. -/
def aryCalStepMax : Fld := ⟨0x0313, 18, 6, 4, 1, 63, false⟩
/-- DELAY_AVG of ARY.CAL. -/
def aryCalDelayAvg : Fld := ⟨0x0313, 24, 8, 6, 1, 255, false⟩

/-! Block 0x0410 ACQ.CFG (04_acquisition Table 04-7). -/
/-- LANES_THIN of ACQ.CFG. -/
def acqCfgLanesThin : Fld := ⟨0x0410, 0, 5, 2, 1, 16, false⟩
/-- REACQ_S of ACQ.CFG. -/
def acqCfgReacqS : Fld := ⟨0x0410, 5, 6, 10, 1, 60, false⟩
/-- TCXO_PPM of ACQ.CFG. -/
def acqCfgTcxoPpm : Fld := ⟨0x0410, 11, 7, 25, 1, 100, false⟩
/-- MODEL_PPM of ACQ.CFG. -/
def acqCfgModelPpm : Fld := ⟨0x0410, 18, 8, 30, 1, 255, false⟩
/-- DOP_MAX of ACQ.CFG. -/
def acqCfgDopMax : Fld := ⟨0x0410, 26, 7, 50, 10, 100, false⟩
/-- ELEV_MASK of ACQ.CFG. -/
def acqCfgElevMask : Fld := ⟨0x0410, 33, 6, 5, 0, 30, false⟩
/-- STREAM of ACQ.CFG. -/
def acqCfgStream : Fld := ⟨0x0410, 39, 1, 0, 0, 1, false⟩
/-- XCORR_DB of ACQ.CFG. -/
def acqCfgXcorrDb : Fld := ⟨0x0410, 40, 6, 20, 10, 40, false⟩
/-- VER_MULT of ACQ.CFG. -/
def acqCfgVerMult : Fld := ⟨0x0410, 46, 2, 2, 1, 3, false⟩
/-- PFA_EXP of ACQ.CFG. -/
def acqCfgPfaExp : Fld := ⟨0x0410, 48, 4, 5, 3, 9, false⟩

/-! Block 0x0411 ACQ.SIG (04_acquisition Table 04-8). -/
/-- EN of ACQ.SIG, 22 instances. -/
def acqSigEn : FldRow := ⟨⟨0x0411, 0, 1, 1, 0, 1, false⟩, 22, 32⟩
/-- FAST_COH of ACQ.SIG, 22 instances. -/
def acqSigFastCoh : FldRow := ⟨⟨0x0411, 1, 7, 1, 1, 100, false⟩, 22, 32⟩
/-- FAST_NC of ACQ.SIG, 22 instances. -/
def acqSigFastNc : FldRow := ⟨⟨0x0411, 8, 8, 4, 0, 255, false⟩, 22, 32⟩
/-- DEEP_COH of ACQ.SIG, 22 instances. -/
def acqSigDeepCoh : FldRow := ⟨⟨0x0411, 16, 7, 10, 1, 100, false⟩, 22, 32⟩
/-- DEEP_NC of ACQ.SIG, 22 instances. -/
def acqSigDeepNc : FldRow := ⟨⟨0x0411, 23, 8, 20, 0, 255, false⟩, 22, 32⟩

/-! Block 0x0510 TRK.SHARE (05_tracking Table 05-8). -/
/-- FIRST of TRK.SHARE, 16 instances. -/
def trkShareFirst : FldRow := ⟨⟨0x0510, 0, 11, 0, 0, 1535, false⟩, 16, 64⟩
/-- COUNT of TRK.SHARE, 16 instances. -/
def trkShareCount : FldRow := ⟨⟨0x0510, 11, 11, 0, 1, 1536, false⟩, 16, 64⟩
/-- ROLE of TRK.SHARE, 16 instances. -/
def trkShareRole : FldRow := ⟨⟨0x0510, 22, 2, 0, 0, 2, false⟩, 16, 64⟩
/-- CONST of TRK.SHARE, 16 instances. -/
def trkShareConst : FldRow := ⟨⟨0x0510, 24, 7, 0, 0, 127, false⟩, 16, 64⟩
/-- BAND of TRK.SHARE, 16 instances. -/
def trkShareBand : FldRow := ⟨⟨0x0510, 31, 4, 0, 0, 15, false⟩, 16, 64⟩

/-! Block 0x0511 TRK.SIG (05_tracking Table 05-9). -/
/-- EN of TRK.SIG, 22 instances. -/
def trkSigEn : FldRow := ⟨⟨0x0511, 0, 1, 1, 0, 1, false⟩, 22, 32⟩
/-- EL of TRK.SIG, 22 instances. -/
def trkSigEl : FldRow := ⟨⟨0x0511, 1, 6, 13, 2, 63, false⟩, 22, 32⟩
/-- VEVL of TRK.SIG, 22 instances. -/
def trkSigVevl : FldRow := ⟨⟨0x0511, 7, 7, 64, 8, 127, false⟩, 22, 32⟩
/-- MM of TRK.SIG, 22 instances. -/
def trkSigMm : FldRow := ⟨⟨0x0511, 14, 8, 0, (-127), 127, true⟩, 22, 32⟩
/-- COMBINE of TRK.SIG, 22 instances. -/
def trkSigCombine : FldRow := ⟨⟨0x0511, 22, 1, 1, 0, 1, false⟩, 22, 32⟩
/-- WEAK_EN of TRK.SIG, 22 instances. -/
def trkSigWeakEn : FldRow := ⟨⟨0x0511, 23, 1, 1, 0, 1, false⟩, 22, 32⟩

/-! Block 0x0512 TRK.LOOP (05_tracking Table 05-10). -/
/-- PULL_FLL of TRK.LOOP. -/
def trkLoopPullFll : Fld := ⟨0x0512, 0, 8, 100, 1, 255, false⟩
/-- PULL_DLL of TRK.LOOP. -/
def trkLoopPullDll : Fld := ⟨0x0512, 8, 8, 200, 1, 255, false⟩
/-- TRACK_FLL of TRK.LOOP. -/
def trkLoopTrackFll : Fld := ⟨0x0512, 16, 8, 20, 1, 255, false⟩
/-- TRACK_PLL of TRK.LOOP. -/
def trkLoopTrackPll : Fld := ⟨0x0512, 24, 8, 150, 1, 255, false⟩
/-- TRACK_DLL of TRK.LOOP. -/
def trkLoopTrackDll : Fld := ⟨0x0512, 32, 8, 100, 1, 255, false⟩
/-- LOCK_PLL of TRK.LOOP. -/
def trkLoopLockPll : Fld := ⟨0x0512, 40, 8, 120, 1, 255, false⟩
/-- LOCK_DLL of TRK.LOOP. -/
def trkLoopLockDll : Fld := ⟨0x0512, 48, 8, 50, 1, 255, false⟩
/-- WEAK_PLL of TRK.LOOP. -/
def trkLoopWeakPll : Fld := ⟨0x0512, 56, 8, 15, 1, 255, false⟩
/-- WEAK_DLL of TRK.LOOP. -/
def trkLoopWeakDll : Fld := ⟨0x0512, 64, 8, 5, 1, 255, false⟩
/-- FREQ_FLL of TRK.LOOP. -/
def trkLoopFreqFll : Fld := ⟨0x0512, 72, 8, 5, 1, 255, false⟩

/-! Block 0x0513 TRK.CFG (05_tracking Table 05-11). -/
/-- WEAK_CN0 of TRK.CFG. -/
def trkCfgWeakCn0 : Fld := ⟨0x0513, 0, 7, 25, 10, 45, false⟩
/-- WEAK_HYST of TRK.CFG. -/
def trkCfgWeakHyst : Fld := ⟨0x0513, 7, 3, 3, 1, 7, false⟩
/-- LOSS_CN0 of TRK.CFG. -/
def trkCfgLossCn0 : Fld := ⟨0x0513, 10, 5, 6, 0, 20, false⟩
/-- LOSS_T of TRK.CFG. -/
def trkCfgLossT : Fld := ⟨0x0513, 15, 6, 5, 1, 63, false⟩
/-- PLI_ON of TRK.CFG. -/
def trkCfgPliOn : Fld := ⟨0x0513, 21, 7, 70, 20, 99, false⟩
/-- PLI_OFF of TRK.CFG. -/
def trkCfgPliOff : Fld := ⟨0x0513, 28, 7, 40, 10, 95, false⟩
/-- PLI_N of TRK.CFG. -/
def trkCfgPliN : Fld := ⟨0x0513, 35, 8, 20, 4, 255, false⟩
/-- COMBINE_CN0 of TRK.CFG. -/
def trkCfgCombineCn0 : Fld := ⟨0x0513, 43, 6, 30, 15, 50, false⟩
/-- ARRAY_CN0 of TRK.CFG. -/
def trkCfgArrayCn0 : Fld := ⟨0x0513, 49, 6, 30, 15, 50, false⟩
/-- BEAM_CN0 of TRK.CFG. -/
def trkCfgBeamCn0 : Fld := ⟨0x0513, 55, 6, 35, 15, 50, false⟩
/-- COAST of TRK.CFG. -/
def trkCfgCoast : Fld := ⟨0x0513, 64, 8, 100, 1, 255, false⟩
/-- ELEV_DROP of TRK.CFG. -/
def trkCfgElevDrop : Fld := ⟨0x0513, 72, 5, 0, (-10), 10, true⟩
/-- AID_EN of TRK.CFG. -/
def trkCfgAidEn : Fld := ⟨0x0513, 77, 1, 1, 0, 1, false⟩
/-- MP_THR of TRK.CFG. -/
def trkCfgMpThr : Fld := ⟨0x0513, 78, 6, 5, 1, 50, false⟩
/-- BUMP_N of TRK.CFG. -/
def trkCfgBumpN : Fld := ⟨0x0513, 84, 8, 20, 4, 255, false⟩

/-! Block 0x0610 MSR.CFG (06_measurements Table 06-13). -/
/-- MEAS_INT of MSR.CFG. -/
def msrCfgMeasInt : Fld := ⟨0x0610, 0, 3, 2, 0, 6, false⟩

/-! Block 0x0611 MSR.BIAS (06_measurements Table 06-14). -/
/-- BIAS of MSR.BIAS, 4 instances. -/
def msrBiasBias : FldRow := ⟨⟨0x0611, 0, 16, 0, (-32768), 32767, true⟩, 4, 16⟩

/-! Block 0x0612 MSR.EXPORT (06_measurements Table 06-15). -/
/-- HRS_EN of MSR.EXPORT. -/
def msrExportHrsEn : Fld := ⟨0x0612, 0, 1, 1, 0, 1, false⟩
/-- HRS_DIV of MSR.EXPORT. -/
def msrExportHrsDiv : Fld := ⟨0x0612, 1, 7, 20, 1, 100, false⟩
/-- HRS_ROLES of MSR.EXPORT. -/
def msrExportHrsRoles : Fld := ⟨0x0612, 8, 3, 5, 0, 7, false⟩
/-- RTCM_EN of MSR.EXPORT. -/
def msrExportRtcmEn : Fld := ⟨0x0612, 11, 1, 0, 0, 1, false⟩
/-- RTCM_MSM of MSR.EXPORT. -/
def msrExportRtcmMsm : Fld := ⟨0x0612, 12, 1, 1, 0, 1, false⟩
/-- RTCM_DIV of MSR.EXPORT. -/
def msrExportRtcmDiv : Fld := ⟨0x0612, 13, 7, 20, 1, 100, false⟩
/-- RTCM_CONST of MSR.EXPORT. -/
def msrExportRtcmConst : Fld := ⟨0x0612, 20, 7, 127, 0, 127, false⟩
/-- NAV_EXPORT of MSR.EXPORT. -/
def msrExportNavExport : Fld := ⟨0x0612, 27, 1, 1, 0, 1, false⟩
/-- SYM_EXPORT of MSR.EXPORT. -/
def msrExportSymExport : Fld := ⟨0x0612, 32, 22, 0, 0, 4194303, false⟩

/-! Block 0x0613 MSR.STATION (06_measurements Table 06-16). -/
/-- STN_ID of MSR.STATION. -/
def msrStationStnId : Fld := ⟨0x0613, 0, 12, 0, 0, 4095, false⟩
/-- STN_PERIOD of MSR.STATION. -/
def msrStationStnPeriod : Fld := ⟨0x0613, 12, 8, 10, 0, 255, false⟩
/-- ARP_SRC of MSR.STATION. -/
def msrStationArpSrc : Fld := ⟨0x0613, 20, 1, 0, 0, 1, false⟩
/-- GLO_BIAS_EN of MSR.STATION. -/
def msrStationGloBiasEn : Fld := ⟨0x0613, 21, 1, 0, 0, 1, false⟩
/-- ARP_X of MSR.STATION. -/
def msrStationArpX : Fld := ⟨0x0613, 32, 38, 0, (-137438953472), 137438953471, true⟩
/-- ARP_Y of MSR.STATION. -/
def msrStationArpY : Fld := ⟨0x0613, 70, 38, 0, (-137438953472), 137438953471, true⟩
/-- ARP_Z of MSR.STATION. -/
def msrStationArpZ : Fld := ⟨0x0613, 108, 38, 0, (-137438953472), 137438953471, true⟩
/-- GLO_L1_BIAS of MSR.STATION. -/
def msrStationGloL1Bias : Fld := ⟨0x0613, 160, 16, 0, (-32768), 32767, true⟩
/-- GLO_L2_BIAS of MSR.STATION. -/
def msrStationGloL2Bias : Fld := ⟨0x0613, 176, 16, 0, (-32768), 32767, true⟩

/-! Block 0x0710 SOL.CFG (07_solver Table 07-17). -/
/-- PREC_RATE of SOL.CFG. -/
def solCfgPrecRate : Fld := ⟨0x0710, 0, 3, 4, 0, 4, false⟩
/-- STD_RATE of SOL.CFG. -/
def solCfgStdRate : Fld := ⟨0x0710, 3, 2, 0, 0, 3, false⟩
/-- ELEV_MASK of SOL.CFG. -/
def solCfgElevMask : Fld := ⟨0x0710, 6, 7, 10, 0, 30, false⟩
/-- CN0_MASK of SOL.CFG. -/
def solCfgCn0Mask : Fld := ⟨0x0710, 13, 6, 25, 0, 45, false⟩
/-- CONST_EN of SOL.CFG. -/
def solCfgConstEn : Fld := ⟨0x0710, 19, 6, 63, 0, 63, false⟩
/-- TIME_HOLD of SOL.CFG. -/
def solCfgTimeHold : Fld := ⟨0x0710, 25, 1, 1, 0, 1, false⟩
/-- NMEA_EN of SOL.CFG. -/
def solCfgNmeaEn : Fld := ⟨0x0710, 26, 1, 0, 0, 1, false⟩
/-- NMEA_DIV of SOL.CFG. -/
def solCfgNmeaDiv : Fld := ⟨0x0710, 27, 4, 1, 1, 15, false⟩
/-- DATUM_REG of SOL.CFG. -/
def solCfgDatumReg : Fld := ⟨0x0710, 31, 1, 0, 0, 1, false⟩
/-- AGE_ORB of SOL.CFG. -/
def solCfgAgeOrb : Fld := ⟨0x0710, 32, 8, 120, 10, 255, false⟩
/-- AGE_CLK of SOL.CFG. -/
def solCfgAgeClk : Fld := ⟨0x0710, 40, 8, 30, 5, 255, false⟩
/-- AGE_BIAS of SOL.CFG. -/
def solCfgAgeBias : Fld := ⟨0x0710, 48, 8, 60, 1, 255, false⟩
/-- AGE_ATM of SOL.CFG. -/
def solCfgAgeAtm : Fld := ⟨0x0710, 56, 8, 120, 10, 255, false⟩
/-- AREA_KM of SOL.CFG. -/
def solCfgAreaKm : Fld := ⟨0x0710, 64, 8, 30, 1, 255, false⟩
/-- OUT_DIV of SOL.CFG. -/
def solCfgOutDiv : Fld := ⟨0x0710, 72, 8, 20, 0, 255, false⟩
/-- LEVER_X of SOL.CFG. -/
def solCfgLeverX : Fld := ⟨0x0710, 80, 16, 0, (-32768), 32767, true⟩
/-- LEVER_Y of SOL.CFG. -/
def solCfgLeverY : Fld := ⟨0x0710, 96, 16, 0, (-32768), 32767, true⟩
/-- LEVER_Z of SOL.CFG. -/
def solCfgLeverZ : Fld := ⟨0x0710, 112, 16, 0, (-32768), 32767, true⟩

/-! Block 0x0711 SOL.KEY (07_solver Table 07-18). -/
/-- KEY_ID of SOL.KEY, 4 instances. -/
def solKeyKeyId : FldRow := ⟨⟨0x0711, 0, 8, 0, 0, 255, false⟩, 4, 576⟩
/-- FMT_MASK of SOL.KEY, 4 instances. -/
def solKeyFmtMask : FldRow := ⟨⟨0x0711, 8, 2, 0, 1, 3, false⟩, 4, 576⟩
/-- FROM_WEEK of SOL.KEY, 4 instances. -/
def solKeyFromWeek : FldRow := ⟨⟨0x0711, 16, 16, 0, 0, 65535, false⟩, 4, 576⟩
/-- UNTIL_WEEK of SOL.KEY, 4 instances. -/
def solKeyUntilWeek : FldRow := ⟨⟨0x0711, 32, 16, 0, 0, 65535, false⟩, 4, 576⟩
/-- KEY_X of SOL.KEY, 4 instances. -/
def solKeyKeyX : FldRow := ⟨⟨0x0711, 64, 256, 0, 0, 115792089237316195423570985008687907853269984665640564039457584007913129639935, false⟩, 4, 576⟩
/-- KEY_Y of SOL.KEY, 4 instances. -/
def solKeyKeyY : FldRow := ⟨⟨0x0711, 320, 256, 0, 0, 115792089237316195423570985008687907853269984665640564039457584007913129639935, false⟩, 4, 576⟩

/-! Block 0x0712 SOL.AR (07_solver Table 07-19). -/
/-- AR_RATIO of SOL.AR. -/
def solArArRatio : Fld := ⟨0x0712, 0, 8, 30, 15, 100, false⟩
/-- AR_PSR of SOL.AR. -/
def solArArPsr : Fld := ⟨0x0712, 8, 8, 30, 10, 60, false⟩
/-- AR_MIN of SOL.AR. -/
def solArArMin : Fld := ⟨0x0712, 16, 6, 8, 4, 40, false⟩
/-- AR_HOLD of SOL.AR. -/
def solArArHold : Fld := ⟨0x0712, 22, 6, 5, 1, 63, false⟩
/-- AR_EN of SOL.AR. -/
def solArArEn : Fld := ⟨0x0712, 28, 1, 1, 0, 1, false⟩
/-- PARTIAL of SOL.AR. -/
def solArPartial : Fld := ⟨0x0712, 29, 1, 1, 0, 1, false⟩
/-- AR_ELEV of SOL.AR. -/
def solArArElev : Fld := ⟨0x0712, 32, 8, 15, 0, 60, false⟩
/-- VAL_SIG of SOL.AR. -/
def solArValSig : Fld := ⟨0x0712, 40, 8, 30, 10, 100, false⟩

/-! Block 0x0713 SOL.FDE (07_solver Table 07-20). -/
/-- K_FA of SOL.FDE. -/
def solFdeKFa : Fld := ⟨0x0713, 0, 8, 50, 20, 100, false⟩
/-- K_MD of SOL.FDE. -/
def solFdeKMd : Fld := ⟨0x0713, 8, 8, 53, 20, 100, false⟩
/-- EXCL_MAX of SOL.FDE. -/
def solFdeExclMax : Fld := ⟨0x0713, 16, 2, 2, 0, 3, false⟩
/-- SUBSET_CONST of SOL.FDE. -/
def solFdeSubsetConst : Fld := ⟨0x0713, 18, 1, 1, 0, 1, false⟩
/-- EXCL_HOLD of SOL.FDE. -/
def solFdeExclHold : Fld := ⟨0x0713, 20, 8, 60, 10, 255, false⟩
/-- TIME_MIN_SV of SOL.FDE. -/
def solFdeTimeMinSv : Fld := ⟨0x0713, 28, 4, 5, 4, 15, false⟩
/-- TIME_SIG_MAX of SOL.FDE. -/
def solFdeTimeSigMax : Fld := ⟨0x0713, 32, 16, 50, 5, 1000, false⟩

/-- Block BOOT.MODES (01_architecture Table 01-7). -/
def blockBootModes : BlockSpec :=
  ⟨0x0110, 3, 3, 1, false,
   [⟨bootModesSurveyHpl, 1, 0⟩,
    ⟨bootModesSurveyMax, 1, 0⟩,
    ⟨bootModesHoldEnter, 1, 0⟩,
    ⟨bootModesHoldExit, 1, 0⟩,
    ⟨bootModesThinLinkDiv, 1, 0⟩,
    ⟨bootModesLayupFix, 1, 0⟩,
    ⟨bootModesVcut, 1, 0⟩,
    ⟨bootModesVres, 1, 0⟩,
    ⟨bootModesVoff, 1, 0⟩,
    ⟨bootModesCheckPeriod, 1, 0⟩,
    ⟨bootModesRuleDwell, 1, 0⟩]⟩

/-- Block BOOT.RULES (01_architecture Table 01-8). -/
def blockBootRules : BlockSpec :=
  ⟨0x0111, 1, 16, 1, false,
   [bootRulesQty,
    bootRulesCmp,
    bootRulesArg,
    bootRulesThr,
    bootRulesTarget,
    bootRulesValid]⟩

/-- Block SKY.CFG (09_sky_time Table 09-11). -/
def blockSkyCfg : BlockSpec :=
  ⟨0x0910, 4, 4, 1, false,
   [⟨skyCfgSlewMax, 1, 0⟩,
    ⟨skyCfgStepEn, 1, 0⟩,
    ⟨skyCfgStepThr, 1, 0⟩,
    ⟨skyCfgPrefer, 1, 0⟩,
    ⟨skyCfgExtEn, 1, 0⟩,
    ⟨skyCfgTau, 1, 0⟩,
    ⟨skyCfgFreqTol, 1, 0⟩,
    ⟨skyCfgPhaseTol, 1, 0⟩,
    ⟨skyCfgHoldFrq, 1, 0⟩,
    ⟨skyCfgGnssReturn, 1, 0⟩,
    ⟨skyCfgExtDly, 1, 0⟩,
    ⟨skyCfgExtUnc, 1, 0⟩,
    ⟨skyCfgSwDone, 1, 0⟩]⟩

/-- Block SKY.TP (09_sky_time Table 09-12). -/
def blockSkyTp : BlockSpec :=
  ⟨0x0911, 4, 4, 1, false,
   [skyTpEn,
    skyTpPol,
    skyTpPeriod,
    skyTpGate,
    skyTpWidth,
    skyTpTpDly,
    skyTpTpOfs,
    skyTpTpUnc]⟩

/-- Block SKY.EVT (09_sky_time Table 09-13). -/
def blockSkyEvt : BlockSpec :=
  ⟨0x0912, 4, 4, 1, false,
   [skyEvtEn,
    skyEvtEdge,
    skyEvtHoldoff,
    skyEvtEvtDly]⟩

/-- Block SKY.SCHED (09_sky_time Table 09-14). -/
def blockSkySched : BlockSpec :=
  ⟨0x0913, 9, 9, 1, false,
   [⟨skySchedCommon, 1, 0⟩,
    skySchedQuota]⟩

/-- Block PLD.CRYPTO (12_polders Table 12-14). -/
def blockPldCrypto : BlockSpec :=
  ⟨0x1210, 4, 4, 1, false,
   [pldCryptoOwner]⟩

/-- Block PLD.SEG (12_polders Table 12-15). -/
def blockPldSeg : BlockSpec :=
  ⟨0x1218, 1, 1, 1, true,
   [⟨pldSegProgFirst, 1, 0⟩,
    ⟨pldSegBreachAct, 1, 0⟩,
    ⟨pldSegRestartMax, 1, 0⟩]⟩

/-- Block PLD.SLUICE (12_polders Table 12-16). -/
def blockPldSluice : BlockSpec :=
  ⟨0x1219, 1, 8, 1, false,
   [pldSluiceIndex,
    pldSluiceDir,
    pldSluicePeer,
    pldSluiceId,
    pldSluicePeriod]⟩

/-- Block OHM.CFG (13_ohmore_model Table 13-13). -/
def blockOhmCfg : BlockSpec :=
  ⟨0x1318, 1, 1, 1, false,
   [⟨ohmCfgDryTrap, 1, 0⟩]⟩

/-- Block PMU.CFG (15_power Table 15-9). -/
def blockPmuCfg : BlockSpec :=
  ⟨0x1510, 3, 3, 1, false,
   [pmuCfgBudget,
    ⟨pmuCfgThinOn, 1, 0⟩,
    ⟨pmuCfgHostIdle, 1, 0⟩]⟩

/-- Block PMU.GAUGE (15_power Table 15-10). -/
def blockPmuGauge : BlockSpec :=
  ⟨0x1511, 5, 5, 1, false,
   [⟨pmuGaugeCapacity, 1, 0⟩,
    ⟨pmuGaugeRestI, 1, 0⟩,
    ⟨pmuGaugeRestMin, 1, 0⟩,
    pmuGaugeOcv]⟩

/-- Block CLK.CFG (16_clocks Table 16-7). -/
def blockClkCfg : BlockSpec :=
  ⟨0x1610, 4, 4, 1, false,
   [⟨clkCfgRefSrc, 1, 0⟩,
    ⟨clkCfgSscMode, 1, 0⟩,
    ⟨clkCfgSscDepth, 1, 0⟩,
    ⟨clkCfgCkoFmt01, 1, 0⟩,
    ⟨clkCfgCkoFmt23, 1, 0⟩,
    ⟨clkCfgCkoLvl, 1, 0⟩,
    ⟨clkCfgCkdFmt, 1, 0⟩,
    ⟨clkCfgCkdLvl, 1, 0⟩,
    ⟨clkCfgCkd0En, 1, 0⟩,
    ⟨clkCfgCkd1En, 1, 0⟩,
    ⟨clkCfgCkdGate, 1, 0⟩,
    ⟨clkCfgCkdVco, 1, 0⟩,
    ⟨clkCfgCkd0Div, 1, 0⟩,
    ⟨clkCfgCkd1Div, 1, 0⟩]⟩

/-- Block HST.CFG (18_host_ports Table 18-9). -/
def blockHstCfg : BlockSpec :=
  ⟨0x1810, 3, 3, 1, false,
   [⟨hstCfgSyncMode, 1, 0⟩,
    ⟨hstCfgAutobaud, 1, 0⟩,
    ⟨hstCfgFlowEn, 1, 0⟩,
    ⟨hstCfgDataBits, 1, 0⟩,
    ⟨hstCfgParity, 1, 0⟩,
    ⟨hstCfgStop, 1, 0⟩,
    ⟨hstCfgI2cEn, 1, 0⟩,
    ⟨hstCfgI2cAddr, 1, 0⟩,
    ⟨hstCfgAssistEn, 1, 0⟩,
    ⟨hstCfgBaud, 1, 0⟩,
    ⟨hstCfgMinBaud, 1, 0⟩]⟩

/-- Block HST.SLOTS (18_host_ports Table 18-10). -/
def blockHstSlots : BlockSpec :=
  ⟨0x1811, 7, 7, 1, false,
   [⟨hstSlotsSlotB, 1, 0⟩,
    hstSlotsSlot,
    ⟨hstSlotsOutqB, 1, 0⟩,
    hstSlotsOutq,
    ⟨hstSlotsInqB, 1, 0⟩,
    hstSlotsInq]⟩

/-- Block HST.CARD (18_host_ports Table 18-11). -/
def blockHstCard : BlockSpec :=
  ⟨0x1812, 4, 4, 1, false,
   [hstCardVolt,
    hstCardFreq]⟩

/-- Block HST.KEY (18_host_ports Table 18-12). -/
def blockHstKey : BlockSpec :=
  ⟨0x1818, 9, 9, 1, false,
   [⟨hstKeyKey256, 1, 0⟩,
    ⟨hstKeyKey, 1, 0⟩]⟩

/-- Block OBS.CFG (19_observation Table 19-8). -/
def blockObsCfg : BlockSpec :=
  ⟨0x1910, 4, 4, 1, false,
   [⟨obsCfgEn, 1, 0⟩,
    ⟨obsCfgObsDiv, 1, 0⟩,
    ⟨obsCfgEvtBasin, 1, 0⟩,
    ⟨obsCfgEvtCount, 1, 0⟩,
    ⟨obsCfgDumpPeriod, 1, 0⟩,
    ⟨obsCfgCmnKib, 1, 0⟩,
    obsCfgPolKib]⟩

/-- Block OBS.KEY (19_observation Table 19-9). -/
def blockObsKey : BlockSpec :=
  ⟨0x1918, 9, 9, 1, false,
   [⟨obsKeyTraceEn, 1, 0⟩,
    ⟨obsKeyCountEn, 1, 0⟩,
    ⟨obsKeyKey, 1, 0⟩]⟩

/-- Block SNF.SHARE (08_snapshot_farm Table 08-11). -/
def blockSnfShare : BlockSpec :=
  ⟨0x0810, 20, 20, 1, false,
   [snfShareOwner,
    snfShareStore,
    snfShareResDepth]⟩

/-- Block SNF.CFG (08_snapshot_farm Table 08-12). -/
def blockSnfCfg : BlockSpec :=
  ⟨0x0811, 2, 2, 1, false,
   [⟨snfCfgRTag, 1, 0⟩,
    ⟨snfCfgStampMax, 1, 0⟩,
    ⟨snfCfgMaxAge, 1, 0⟩,
    ⟨snfCfgSnfElev, 1, 0⟩,
    ⟨snfCfgSnfVel, 1, 0⟩,
    ⟨snfCfgSnfPfa, 1, 0⟩,
    ⟨snfCfgSnfConst, 1, 0⟩]⟩

/-- Block SNF.OPT (08_snapshot_farm Table 08-13). -/
def blockSnfOpt : BlockSpec :=
  ⟨0x0818, 1, 1, 1, false,
   [⟨snfOptVert, 1, 0⟩,
    ⟨snfOptMeasOut, 1, 0⟩,
    ⟨snfOptHgtOfs, 1, 0⟩,
    ⟨snfOptHgtSig, 1, 0⟩]⟩

/-- Block LNK.CFG (10_tag_link Table 10-12). -/
def blockLnkCfg : BlockSpec :=
  ⟨0x1010, 2, 2, 1, false,
   [⟨lnkCfgBeaconEn, 1, 0⟩,
    ⟨lnkCfgBeaconCh, 1, 0⟩,
    ⟨lnkCfgAlarmCh, 1, 0⟩,
    ⟨lnkCfgIdleDiv, 1, 0⟩,
    ⟨lnkCfgLiveS, 1, 0⟩,
    ⟨lnkCfgRetryGap, 1, 0⟩,
    ⟨lnkCfgDpdEn, 1, 0⟩,
    ⟨lnkCfgExtPa, 1, 0⟩,
    ⟨lnkCfgBeaconPwr, 1, 0⟩]⟩

/-- Block LNK.CHAN (10_tag_link Table 10-13). -/
def blockLnkChan : BlockSpec :=
  ⟨0x1011, 4, 32, 4, false,
   [lnkChanFreq,
    lnkChanSync,
    lnkChanEn,
    lnkChanChip,
    lnkChanMod,
    lnkChanSf,
    lnkChanRep,
    lnkChanPreSf,
    lnkChanCode,
    lnkChanSyncErr,
    lnkChanSnap]⟩

/-- Block LNK.SLOTS (10_tag_link Table 10-14). -/
def blockLnkSlots : BlockSpec :=
  ⟨0x1012, 58, 58, 1, false,
   [lnkSlotsOwner,
    lnkSlotsCtxFirst,
    lnkSlotsCtxCount]⟩

/-- Block LNK.ROSTER (10_tag_link Table 10-15). -/
def blockLnkRoster : BlockSpec :=
  ⟨0x1018, 8, 8192, 8, false,
   [lnkRosterCtx,
    lnkRosterState,
    lnkRosterRetryMax,
    lnkRosterTagId,
    lnkRosterKey]⟩

/-- Block RFC.CFG (11_radio_control Table 11-8). -/
def blockRfcCfg : BlockSpec :=
  ⟨0x1110, 2, 2, 1, false,
   [⟨rfcCfgLswOff, 1, 0⟩,
    ⟨rfcCfgLswRx, 1, 0⟩,
    ⟨rfcCfgLswTxi, 1, 0⟩,
    ⟨rfcCfgLswTxe, 1, 0⟩,
    ⟨rfcCfgPaLead, 1, 0⟩,
    ⟨rfcCfgBiasOn, 1, 0⟩,
    ⟨rfcCfgBiasRamp, 1, 0⟩,
    ⟨rfcCfgReqEn, 1, 0⟩,
    ⟨rfcCfgGntEn, 1, 0⟩,
    ⟨rfcCfgPriEn, 1, 0⟩,
    ⟨rfcCfgReqLead, 1, 0⟩]⟩

/-- Block RFC.TIGHTEN (11_radio_control Table 11-9). -/
def blockRfcTighten : BlockSpec :=
  ⟨0x1111, 2, 30, 2, false,
   [rfcTightenPCut,
    rfcTightenDutyPct,
    rfcTightenLbtLower,
    rfcTightenLbtAdd,
    rfcTightenMaskAnd]⟩

/-- Block RFC.SHARE (11_radio_control Table 11-10). -/
def blockRfcShare : BlockSpec :=
  ⟨0x1112, 3, 3, 1, false,
   [rfcShareShare,
    ⟨rfcShareShareC, 1, 0⟩]⟩

/-- Block SPT.PORT (02_sample_ports Table 02-7). -/
def blockSptPort : BlockSpec :=
  ⟨0x0210, 8, 8, 1, true,
   [sptPortEn,
    sptPortRate,
    sptPortAlign,
    sptPortAnt,
    sptPortFeLat,
    sptPortFePipe,
    sptPortGainLat,
    sptPortSpiMode,
    sptPortSpiBits,
    sptPortSpiDiv]⟩

/-- Block SPT.LANE (02_sample_ports Table 02-8). -/
def blockSptLane : BlockSpec :=
  ⟨0x0211, 16, 16, 1, true,
   [sptLaneBand,
    sptLaneGainMode,
    sptLaneFixIndex,
    sptLaneGainMax,
    sptLaneBlank,
    sptLanePLo,
    sptLanePHi]⟩

/-- Block SPT.GAIN (02_sample_ports Table 02-9). -/
def blockSptGain : BlockSpec :=
  ⟨0x0212, 2, 512, 2, false,
   [sptGainLane,
    sptGainPort,
    sptGainIndex,
    sptGainGain,
    sptGainWord]⟩

/-- Block SPT.FEINIT (02_sample_ports Table 02-10). -/
def blockSptFeinit : BlockSpec :=
  ⟨0x0213, 2, 512, 2, false,
   [sptFeinitPort,
    sptFeinitRead,
    sptFeinitDelay,
    sptFeinitExpect,
    sptFeinitWord]⟩

/-- Block SPT.CTRL (02_sample_ports Table 02-11). -/
def blockSptCtrl : BlockSpec :=
  ⟨0x0214, 1, 1, 1, false,
   [⟨sptCtrlSyncPolicy, 1, 0⟩,
    ⟨sptCtrlSyncWidth, 1, 0⟩,
    ⟨sptCtrlBlankTail, 1, 0⟩]⟩

/-- Block ARY.GEOM (03_array Table 03-3). -/
def blockAryGeom : BlockSpec :=
  ⟨0x0310, 8, 8, 1, false,
   [aryGeomX,
    aryGeomY,
    aryGeomZ,
    aryGeomCabDly]⟩

/-- Block ARY.CFG (03_array Table 03-4). -/
def blockAryCfg : BlockSpec :=
  ⟨0x0311, 2, 2, 1, false,
   [⟨aryCfgRef, 1, 0⟩,
    ⟨aryCfgKeep2, 1, 0⟩,
    ⟨aryCfgNullEn, 1, 0⟩,
    ⟨aryCfgNullAvg, 1, 0⟩,
    ⟨aryCfgInrDet, 1, 0⟩,
    ⟨aryCfgResRise, 1, 0⟩,
    ⟨aryCfgResDeny, 1, 0⟩,
    ⟨aryCfgJamPersist, 1, 0⟩,
    ⟨aryCfgJamClear, 1, 0⟩]⟩

/-- Block ARY.SPOOF (03_array Table 03-5). -/
def blockArySpoof : BlockSpec :=
  ⟨0x0312, 2, 2, 1, false,
   [⟨arySpoofSpoofEn, 1, 0⟩,
    ⟨arySpoofAoaCn0, 1, 0⟩,
    ⟨arySpoofAoaLock, 1, 0⟩,
    ⟨arySpoofLobeMargin, 1, 0⟩,
    ⟨arySpoofClusterDeg, 1, 0⟩,
    ⟨arySpoofSepMargin, 1, 0⟩,
    ⟨arySpoofSpoofCount, 1, 0⟩,
    ⟨arySpoofAoaTol, 1, 0⟩,
    ⟨arySpoofDisagreeCount, 1, 0⟩,
    ⟨arySpoofMinAoa, 1, 0⟩,
    ⟨arySpoofPersist, 1, 0⟩,
    ⟨arySpoofClear, 1, 0⟩,
    ⟨arySpoofHold, 1, 0⟩]⟩

/-- Block ARY.CAL (03_array Table 03-6). -/
def blockAryCal : BlockSpec :=
  ⟨0x0313, 1, 1, 1, false,
   [⟨aryCalCalEn, 1, 0⟩,
    ⟨aryCalCalElev, 1, 0⟩,
    ⟨aryCalCalPeriod, 1, 0⟩,
    ⟨aryCalCalMinSat, 1, 0⟩,
    ⟨aryCalStepMax, 1, 0⟩,
    ⟨aryCalDelayAvg, 1, 0⟩]⟩

/-- Block ACQ.CFG (04_acquisition Table 04-7). -/
def blockAcqCfg : BlockSpec :=
  ⟨0x0410, 2, 2, 1, false,
   [⟨acqCfgLanesThin, 1, 0⟩,
    ⟨acqCfgReacqS, 1, 0⟩,
    ⟨acqCfgTcxoPpm, 1, 0⟩,
    ⟨acqCfgModelPpm, 1, 0⟩,
    ⟨acqCfgDopMax, 1, 0⟩,
    ⟨acqCfgElevMask, 1, 0⟩,
    ⟨acqCfgStream, 1, 0⟩,
    ⟨acqCfgXcorrDb, 1, 0⟩,
    ⟨acqCfgVerMult, 1, 0⟩,
    ⟨acqCfgPfaExp, 1, 0⟩]⟩

/-- Block ACQ.SIG (04_acquisition Table 04-8). -/
def blockAcqSig : BlockSpec :=
  ⟨0x0411, 1, 22, 1, false,
   [acqSigEn,
    acqSigFastCoh,
    acqSigFastNc,
    acqSigDeepCoh,
    acqSigDeepNc]⟩

/-- Block TRK.SHARE (05_tracking Table 05-8). -/
def blockTrkShare : BlockSpec :=
  ⟨0x0510, 2, 32, 2, false,
   [trkShareFirst,
    trkShareCount,
    trkShareRole,
    trkShareConst,
    trkShareBand]⟩

/-- Block TRK.SIG (05_tracking Table 05-9). -/
def blockTrkSig : BlockSpec :=
  ⟨0x0511, 1, 22, 1, false,
   [trkSigEn,
    trkSigEl,
    trkSigVevl,
    trkSigMm,
    trkSigCombine,
    trkSigWeakEn]⟩

/-- Block TRK.LOOP (05_tracking Table 05-10). -/
def blockTrkLoop : BlockSpec :=
  ⟨0x0512, 3, 3, 1, false,
   [⟨trkLoopPullFll, 1, 0⟩,
    ⟨trkLoopPullDll, 1, 0⟩,
    ⟨trkLoopTrackFll, 1, 0⟩,
    ⟨trkLoopTrackPll, 1, 0⟩,
    ⟨trkLoopTrackDll, 1, 0⟩,
    ⟨trkLoopLockPll, 1, 0⟩,
    ⟨trkLoopLockDll, 1, 0⟩,
    ⟨trkLoopWeakPll, 1, 0⟩,
    ⟨trkLoopWeakDll, 1, 0⟩,
    ⟨trkLoopFreqFll, 1, 0⟩]⟩

/-- Block TRK.CFG (05_tracking Table 05-11). -/
def blockTrkCfg : BlockSpec :=
  ⟨0x0513, 3, 3, 1, false,
   [⟨trkCfgWeakCn0, 1, 0⟩,
    ⟨trkCfgWeakHyst, 1, 0⟩,
    ⟨trkCfgLossCn0, 1, 0⟩,
    ⟨trkCfgLossT, 1, 0⟩,
    ⟨trkCfgPliOn, 1, 0⟩,
    ⟨trkCfgPliOff, 1, 0⟩,
    ⟨trkCfgPliN, 1, 0⟩,
    ⟨trkCfgCombineCn0, 1, 0⟩,
    ⟨trkCfgArrayCn0, 1, 0⟩,
    ⟨trkCfgBeamCn0, 1, 0⟩,
    ⟨trkCfgCoast, 1, 0⟩,
    ⟨trkCfgElevDrop, 1, 0⟩,
    ⟨trkCfgAidEn, 1, 0⟩,
    ⟨trkCfgMpThr, 1, 0⟩,
    ⟨trkCfgBumpN, 1, 0⟩]⟩

/-- Block MSR.CFG (06_measurements Table 06-13). -/
def blockMsrCfg : BlockSpec :=
  ⟨0x0610, 1, 1, 1, false,
   [⟨msrCfgMeasInt, 1, 0⟩]⟩

/-- Block MSR.BIAS (06_measurements Table 06-14). -/
def blockMsrBias : BlockSpec :=
  ⟨0x0611, 2, 2, 1, false,
   [msrBiasBias]⟩

/-- Block MSR.EXPORT (06_measurements Table 06-15). -/
def blockMsrExport : BlockSpec :=
  ⟨0x0612, 2, 2, 1, false,
   [⟨msrExportHrsEn, 1, 0⟩,
    ⟨msrExportHrsDiv, 1, 0⟩,
    ⟨msrExportHrsRoles, 1, 0⟩,
    ⟨msrExportRtcmEn, 1, 0⟩,
    ⟨msrExportRtcmMsm, 1, 0⟩,
    ⟨msrExportRtcmDiv, 1, 0⟩,
    ⟨msrExportRtcmConst, 1, 0⟩,
    ⟨msrExportNavExport, 1, 0⟩,
    ⟨msrExportSymExport, 1, 0⟩]⟩

/-- Block MSR.STATION (06_measurements Table 06-16). -/
def blockMsrStation : BlockSpec :=
  ⟨0x0613, 8, 23, 1, false,
   [⟨msrStationStnId, 1, 0⟩,
    ⟨msrStationStnPeriod, 1, 0⟩,
    ⟨msrStationArpSrc, 1, 0⟩,
    ⟨msrStationGloBiasEn, 1, 0⟩,
    ⟨msrStationArpX, 1, 0⟩,
    ⟨msrStationArpY, 1, 0⟩,
    ⟨msrStationArpZ, 1, 0⟩,
    ⟨msrStationGloL1Bias, 1, 0⟩,
    ⟨msrStationGloL2Bias, 1, 0⟩]⟩

/-- Block SOL.CFG (07_solver Table 07-17). -/
def blockSolCfg : BlockSpec :=
  ⟨0x0710, 4, 4, 1, false,
   [⟨solCfgPrecRate, 1, 0⟩,
    ⟨solCfgStdRate, 1, 0⟩,
    ⟨solCfgElevMask, 1, 0⟩,
    ⟨solCfgCn0Mask, 1, 0⟩,
    ⟨solCfgConstEn, 1, 0⟩,
    ⟨solCfgTimeHold, 1, 0⟩,
    ⟨solCfgNmeaEn, 1, 0⟩,
    ⟨solCfgNmeaDiv, 1, 0⟩,
    ⟨solCfgDatumReg, 1, 0⟩,
    ⟨solCfgAgeOrb, 1, 0⟩,
    ⟨solCfgAgeClk, 1, 0⟩,
    ⟨solCfgAgeBias, 1, 0⟩,
    ⟨solCfgAgeAtm, 1, 0⟩,
    ⟨solCfgAreaKm, 1, 0⟩,
    ⟨solCfgOutDiv, 1, 0⟩,
    ⟨solCfgLeverX, 1, 0⟩,
    ⟨solCfgLeverY, 1, 0⟩,
    ⟨solCfgLeverZ, 1, 0⟩]⟩

/-- Block SOL.KEY (07_solver Table 07-18). -/
def blockSolKey : BlockSpec :=
  ⟨0x0711, 18, 72, 18, false,
   [solKeyKeyId,
    solKeyFmtMask,
    solKeyFromWeek,
    solKeyUntilWeek,
    solKeyKeyX,
    solKeyKeyY]⟩

/-- Block SOL.AR (07_solver Table 07-19). -/
def blockSolAr : BlockSpec :=
  ⟨0x0712, 2, 2, 1, false,
   [⟨solArArRatio, 1, 0⟩,
    ⟨solArArPsr, 1, 0⟩,
    ⟨solArArMin, 1, 0⟩,
    ⟨solArArHold, 1, 0⟩,
    ⟨solArArEn, 1, 0⟩,
    ⟨solArPartial, 1, 0⟩,
    ⟨solArArElev, 1, 0⟩,
    ⟨solArValSig, 1, 0⟩]⟩

/-- Block SOL.FDE (07_solver Table 07-20). -/
def blockSolFde : BlockSpec :=
  ⟨0x0713, 2, 2, 1, false,
   [⟨solFdeKFa, 1, 0⟩,
    ⟨solFdeKMd, 1, 0⟩,
    ⟨solFdeExclMax, 1, 0⟩,
    ⟨solFdeSubsetConst, 1, 0⟩,
    ⟨solFdeExclHold, 1, 0⟩,
    ⟨solFdeTimeMinSv, 1, 0⟩,
    ⟨solFdeTimeSigMax, 1, 0⟩]⟩

/-- The blocks of the common segment (Table 17-5). -/
def commonBlocks : List BlockSpec :=
  [blockBootModes, blockBootRules, blockSkyCfg, blockSkyTp, blockSkyEvt, blockSkySched, blockPldCrypto, blockPmuCfg, blockPmuGauge, blockClkCfg, blockHstCfg, blockHstSlots, blockHstCard, blockObsCfg, blockSnfShare, blockSnfCfg, blockLnkCfg, blockLnkChan, blockLnkSlots, blockRfcCfg, blockRfcTighten, blockRfcShare, blockSptPort, blockSptLane, blockSptGain, blockSptFeinit, blockSptCtrl, blockAryGeom, blockAryCfg, blockArySpoof, blockAryCal, blockAcqCfg, blockAcqSig, blockTrkShare, blockTrkSig, blockTrkLoop, blockTrkCfg, blockMsrCfg, blockMsrBias, blockMsrExport, blockMsrStation, blockSolCfg, blockSolKey, blockSolAr, blockSolFde]

/-- The blocks of a polder segment (Table 17-5). -/
def polderBlocks : List BlockSpec :=
  [blockPldSeg, blockPldSluice, blockOhmCfg, blockHstKey, blockObsKey, blockSnfOpt, blockLnkRoster]

end Sys2Proof.Machine
end

