-- ==== Sys2Proof/Machine/Ops.lean ====
section
/-!
DEFINITION. The named operations over the state that every family uses: sky time, counters, free values, the output queues and
the records that enter them, the culvert's packets, the basin, polders and their interrupts.
-/

namespace Sys2Proof.Machine

/-- A step's answer: the next state. -/
abbrev Result := Host.Outcome State Fault Refusal

/-! ### Sky time (09_sky_time R218, R219) -/

/-- ST at a tick, in seconds, by the segment in force (09_sky_time R219). -/
def stAt (s : State) (t : Nat) : Rat := s.sky.seg.st + ((t : Rat) - s.sky.seg.tick) * s.sky.seg.rate

/-- ST now, in seconds. -/
def stNow (s : State) : Rat := stAt s s.sky.tick

/-- The 64-bit form of an ST given in seconds, rounded to the nearest unit, ties to even (00_scope R11, R12). -/
def stWord (q : Rat) : Nat := (roundEven (q * 4294967296) % 18446744073709551616).toNat

/-- ST in seconds of a 64-bit ST (00_scope R11). -/
def stOfWord (w : Nat) : Rat := (w : Rat) / 4294967296

/-- Whole seconds of ST. -/
def stSec (s : State) : Nat := (stNow s).floor.toNat

/-- Whole milliseconds of ST. -/
def stMs (s : State) : Nat := (stNow s * 1000).floor.toNat

/-- The integer part of the tick to which the segment in force converts an ST (09_sky_time R241). -/
def tickOf (s : State) (q : Rat) : Int := s.sky.seg.tick + ((q - s.sky.seg.st) / s.sky.seg.rate).floor

/-- The tick of an ST has come. -/
def reached (s : State) (q : Rat) : Bool := decide (tickOf s q ≤ s.sky.tick)

/-- Tick of the anchor of a step decided now: the first whole millisecond of the mapping at least 1 ms on (09_sky_time R219). -/
def stepAnchor (s : State) : Nat :=
  let q : Rat := ((ceilQ ((stNow s + 1 / 1000) * 1000) : Int) : Rat) / 1000
  (s.sky.seg.tick + ceilQ ((q - s.sky.seg.st) / s.sky.seg.rate)).toNat

/-- Seconds of elapsed time in ticks at the nominal rate (09_sky_time R226). -/
def secTicks (n : Nat) : Nat := n * 491520000

/-- Milliseconds of elapsed time in ticks at the nominal rate. -/
def msTicks (n : Nat) : Nat := n * 491520

/-- The reference on REFIN in kHz, the boot oscillator where REFIN has no edge (16_clocks R396, Table 16-8). -/
def refKHz (s : State) : Nat := [10000, 19200, 26000, 38400].getD s.clk.refFreq 24000

/-- `n` ticks have passed since tick `t`. -/
def since (s : State) (t n : Nat) : Bool := t + n ≤ s.sky.tick

/-! ### Domains (15_power R373) -/

/-- Place of a domain in the order of Table 15-2. -/
def domIdx : Domain → Fin 29
  | .aon => 0 | .time => 1 | .com => 2 | .clk => 3 | .nvm => 4
  | .spt n => ⟨5 + n.val, by omega⟩
  | .gfr => 9
  | .trk n => ⟨10 + n.val, by omega⟩
  | .msr => 14 | .sol => 15 | .snf => 16 | .lnk => 17 | .cry => 18 | .hst => 19 | .obs => 20
  | .pld n => ⟨21 + n.val, by omega⟩

/-- Where a domain stands. -/
def domAt (s : State) (d : Domain) : DomPos := s.pmu.dom[domIdx d]

/-- A domain is on (15_power R373). -/
def domOn (s : State) (d : Domain) : Bool := domAt s d == .on

/-- Put a domain somewhere. -/
def setDom (d : Domain) (x : DomPos) (s : State) : State :=
  { s with pmu := { s.pmu with dom := s.pmu.dom.set (domIdx d) x } }

/-! ### Counters (02_sample_ports R51, 19_observation R470) -/

/-- A counter's value. -/
def ctrGet (s : State) (i : Nat) : Nat := sget (fun _ => 0) s.ctr i

/-- Raise a counter by `n`, saturating at 2³² − 1, with no event packet. -/
def ctrAdd (i n : Nat) (s : State) : State :=
  { s with ctr := sset (fun _ => 0) s.ctr i (satInc (ctrGet s i) n) }

/-! ### Culvert packets (19_observation R461–R466) -/

/-- OBS is on (15_power Table 15-3, 19_observation R472). -/
def obsOn (s : State) : Bool := cfgB s obsCfgEn && (blockOf s 8 0x1910).isSome && domOn s .obs

/-- Bytes of a packet on the line and in the buffer: sync, header, payload with the tag of a branch-trace packet, CRC
(19_observation R461, R468). -/
def packetSize (type len : Nat) : Nat := 16 + len + (if type = 3 then 16 else 0)

/-- Size in bytes of a source's share (19_observation R462): 0–7 polder, 8 common. -/
def shareSize (s : State) (src : Fin 9) : Nat :=
  1024 * (if src.val = 8 then cfg s obsCfgCmnKib else cfgAt s obsCfgPolKib src.val)

/-- Bytes of a share that its packet still on the line holds: they are freed as the packet leaves (19_observation R464). -/
def lineHeld (s : State) (src : Fin 9) : Nat := if s.obs.lineSrc = some src ∧ s.sky.tick < s.obs.lineEnd then s.obs.line.length else 0

/-- Close a packet of a source: stored whole in its share, or dropped whole and counted (19_observation R462, R463). -/
def obsClose (src : Fin 9) (type : Nat) (payload : List Byte) (s : State) : State :=
  if obsOn s = false then s else
  let sh := s.obs.share[src]
  let used := (sh.packets.map fun k => packetSize k.type k.payload.length).sum + lineHeld s src
  let seq := (sh.seq + 1) % 2 ^ 32
  if used + packetSize type payload.length ≤ shareSize s src then
    let k : TracePacket := ⟨type, min sh.drops 255, s.sky.tick % 2 ^ 32, sh.seq, payload⟩
    { s with obs := { s.obs with share := s.obs.share.set src { packets := sh.packets ++ [k], drops := 0, seq := seq } } }
  else
    ctrAdd (if src.val = 8 then cObsObsDropsC else cObsObsDrops0 + src.val) 1
      { s with obs := { s.obs with share := s.obs.share.set src { sh with drops := sh.drops + 1, seq := seq } } }

/-- Raise a counter by one; with EVT_COUNT = 1 a common counter's increment closes an event packet (19_observation R466). The culvert's own
counters close none (log entry 12). -/
def bump (i : Nat) (s : State) : State :=
  let t := ctrAdd i 1 s
  if i < 256 ∧ cfgB s obsCfgEvtCount then obsClose 8 2 (leBytes 2 0x1301 ++ leBytes 2 i) t else t

/-- Raise a counter when a condition holds. -/
def bumpIf (c : Bool) (i : Nat) (s : State) : State := if c then bump i s else s

/-! ### Free values (log entry 3) -/

/-- Take one free number: the next state and the number. -/
def takeFree (s : State) : Nat × State := (Config.freeNat s.fresh, { s with fresh := s.fresh + 1 })

/-- Draw `n` bytes from the random number generator. -/
def takeRandom (n : Nat) (s : State) : List Byte × State :=
  ((List.range n).map fun i => BitVec.ofNat 8 (Config.trng (s.fresh + i)), { s with fresh := s.fresh + n })

/-! ### Output queues (18_host_ports R447) -/

/-- Body bytes of a queued record: its payload and, in a polder record, the GCM tag (18_host_ports R441). -/
def bodyLen (tag : Nat) (r : OutRec) : Nat := r.payload.length + tag

/-- What entering a record did to its queue. -/
structure Pushed where
  /-- The queue. -/
  q : OutQueue
  /-- Records discarded through the spillway. -/
  spilled : Nat
  /-- Records folded into the summary. -/
  folded : Nat
  /-- The new record was kept. -/
  kept : Bool

/-- Bytes of a queue that Class 1 and Class 2 records occupy. -/
def queueBytes (tag : Nat) (q : OutQueue) : Nat :=
  ((q.recs.filter fun r => r.cls != 0).map (bodyLen tag)).sum

/-- Remove the first record that a test picks. -/
def dropFirst (f : OutRec → Bool) : List OutRec → List OutRec
  | [] => []
  | r :: l => if f r then l else r :: dropFirst f l

/-- The class whose oldest record is discarded for a record of class `c`: the highest class number present that is at
least `c`, among records with no unit on the line. -/
def victimClass (c : Nat) (q : OutQueue) : Option Nat :=
  if q.recs.any (fun r => r.cls == 2 && !r.onLine) then some 2
  else if c ≤ 1 && q.recs.any (fun r => r.cls == 1 && !r.onLine) then some 1
  else none

/-- Make room for a Class 1 or Class 2 record of `len` body bytes: discard victims while there are any
(18_host_ports R447). -/
def makeRoom (tag cap c len : Nat) : Nat → OutQueue → OutQueue × Nat
  | 0, q => (q, 0)
  | n + 1, q =>
    if queueBytes tag q + len ≤ cap then (q, 0)
    else match victimClass c q with
      | none => (q, 0)
      | some v =>
        let (q', k) := makeRoom tag cap c len n { q with recs := dropFirst (fun r => r.cls == v && !r.onLine) q.recs }
        (q', k + 1)

/-- The payload of an overflow summary (18_host_ports R447): COUNT, FIRST_ST, LAST_ST behind its leading bytes. -/
def summaryPayload (lead : List Byte) (f : Folds) : List Byte :=
  lead ++ leBytes 4 f.count ++ leBytes 8 (stWord f.first) ++ leBytes 8 (stWord f.last)

/-- Fold the oldest Class 0 record of a full reserve into the queue's summary (18_host_ports R447). -/
def foldOldest (lead : List Byte) (q : OutQueue) : OutQueue :=
  match q.recs.find? (fun r => r.cls == 0 && !r.summary && !r.onLine) with
  | none => q
  | some r =>
    let recs := dropFirst (fun r => r.cls == 0 && !r.summary && !r.onLine) q.recs
    let live := recs.any fun r => r.summary && !r.onLine
    match q.folds, live with
    | some f, true =>
      let f' : Folds := { f with count := f.count + 1, last := r.st }
      { q with recs := recs.map (fun x => if x.summary && !x.onLine then { x with payload := summaryPayload lead f' } else x), folds := some f' }
    | _, _ =>
      let f' : Folds := ⟨1, r.st, r.st⟩
      { recs := ⟨0, q.counter, summaryPayload lead f', r.st, 0, false, true⟩ :: recs, folds := some f', counter := (q.counter + 1) % 2 ^ 32 }

/-- Enter a record into an output queue of `kib` KiB: the Class 0 reserve is 64 entries of 256 bytes, the rest holds the other
classes (18_host_ports R447). `tag` is the tag length of the queue's records, `lead` what leads a summary's payload. -/
def pushRec (tag kib : Nat) (lead : List Byte) (cls : Nat) (payload : List Byte) (st : Rat) (q : OutQueue) : Pushed :=
  let r : OutRec := ⟨cls, q.counter, payload, st, 0, false, false⟩
  if cls = 0 then
    let full := 64 ≤ (q.recs.filter fun r => r.cls == 0 && !r.summary).length
    let q1 := if full then foldOldest lead q else q
    ⟨{ q1 with recs := q1.recs ++ [{ r with counter := q1.counter }], counter := (q1.counter + 1) % 2 ^ 32 }, 0, if full then 1 else 0, true⟩
  else
    let len := payload.length + tag
    let cap := kib * 1024 - 64 * 256
    let (q1, k) := makeRoom tag cap cls len q.recs.length q
    if queueBytes tag q1 + len ≤ cap then
      ⟨{ q1 with recs := q1.recs ++ [r], counter := (q1.counter + 1) % 2 ^ 32 }, k, 0, true⟩
    else ⟨q1, k + 1, 0, false⟩

/-- Emit a basin record: its KIND and content enter the basin queue, and with EVT_BASIN = 1 the culvert closes an event packet
(18_host_ports R443, 19_observation R466). -/
def recB (cls kind : Nat) (content : List Byte) (s : State) : State :=
  let payload := leBytes 2 kind ++ content
  let r := pushRec 0 (cfg s hstSlotsOutqB) (leBytes 2 0x1202) cls payload (stNow s) s.hst.outB
  let t := { s with hst := { s.hst with outB := r.q } }
  let t := if r.spilled = 0 then t else ctrAdd cHstOutSpillB r.spilled t
  let t := if r.folded = 0 then t else ctrAdd cHstC0FoldsB r.folded t
  if cfgB s obsCfgEvtBasin then obsClose 8 2 payload t else t

/-! ### Polders -/

/-- Change a polder. -/
def modP (p : Polder) (f : PolderState → PolderState) (s : State) : State :=
  { s with pld := s.pld.set p (f s.pld[p]) }

/-- Change a polder's core. -/
def modCore (p : Polder) (f : Core → Core) (s : State) : State :=
  modP p (fun q => { q with core := f q.core }) s

/-- Change a polder's side of the host port. -/
def modH (p : Polder) (f : PolderHost → PolderHost) (s : State) : State :=
  { s with hst := { s.hst with pol := s.hst.pol.set p (f s.hst.pol[p]) } }

/-- A polder is dry (12_polders R325). -/
def isDry (s : State) (p : Polder) : Bool := !s.pld[p].dryCauses.isEmpty

/-- Enter a record into a polder's output queue: SRC and content in plaintext (18_host_ports R443). A dry polder's queue takes
none (R448). Answers OUT_RESULT 0, 3 or 4. -/
def recP (p : Polder) (cls src : Nat) (content : List Byte) (s : State) : Nat × State :=
  if isDry s p then (4, s) else
  let r := pushRec 16 (cfgAt s hstSlotsOutq p.val) (leBytes 1 3) cls (leBytes 1 src ++ content) (stNow s) s.hst.pol[p].out
  let t := modH p (fun h => { h with out := r.q }) s
  let t := if r.spilled = 0 then t else ctrAdd (pHstOutSpill p) r.spilled t
  let t := if r.folded = 0 then t else ctrAdd (pHstC0Folds p) r.folded t
  (if r.kept then (if r.spilled + r.folded = 0 then 0 else 3) else 4, t)

/-- Set bit `v` of a started core's PEND (13_ohmore_model R341); a core in WAIT has an event to go on at (R343). -/
def raisePend (p : Polder) (v : Nat) (s : State) : State :=
  modCore p (fun c => if c.phase = .off then c else { c with
    pend := c.pend ||| BitVec.ofNat 16 (2 ^ v),
    woken := c.woken || c.phase == .waiting || c.phase == .savedWait }) s

/-! ### The basin (12_polders R319) -/

/-- What an unwritten byte of the basin view reads: the defaults of its tables. DESIGN_REV 0x0B00 (Table 12-7), BASIN.MODE
(Table 01-2), SKY.STATUS (Table 09-15) and the status fields of the other chapters with a default other than 0 (Tables 03-7, 06-17, 07-9 to 07-12, the noise
floors of LNK and SET of RFC). -/
def basinDflt (a : Nat) : Byte :=
  if a = 0xE001 then 0x0B
  else if a = 0xE010 then 0x31
  else if a = 0xE011 then 0x0F
  else if a = 0xE098 then 0x12
  else if 0xE09C ≤ a ∧ a ≤ 0xE09F then 0xFF
  else if 0xE039 ≤ a ∧ a ≤ 0xE03E then 0xFF
  else if a = 0xE04E ∨ a = 0xE04F ∨ a = 0xE066 ∨ a = 0xE067 then 0xFF
  else if 0xE078 ≤ a ∧ a ≤ 0xE07D then 0xFF
  else if a = 0xE084 then 0x80
  else if a = 0xE0B0 then 0x02
  else if 0xE0B9 ≤ a ∧ a ≤ 0xE0C7 ∧ a % 2 = 1 then 0x02
  else if a = 0xE0C8 then 0x01
  else 0

/-- A byte of the basin view. -/
def basinByte (s : State) (a : Nat) : Byte := sget basinDflt s.basin a

/-- Write a structure of the basin in one update; UPDATES of BASIN.HDR counts it (12_polders R319, Table 12-7). -/
def basinPut (base : Nat) (bytes : List Byte) (s : State) : State :=
  let m := swrite basinDflt s.basin base bytes
  let u := leNat (sread basinDflt m 0xE004 4)
  { s with basin := swrite basinDflt m 0xE004 (leBytes 4 (u + 1)) }

/-- The structures of the basin view: lowest address and bytes (12_polders Table 12-6). -/
def basinStructs : List (Nat × Nat) :=
  [(0xE000, 8), (0xE008, 8), (0xE010, 8), (0xE018, 40), (0xE040, 24), (0xE058, 24), (0xE070, 16), (0xE080, 4), (0xE084, 4),
   (0xE088, 16), (0xE098, 12), (0xE0A4, 4), (0xE0A8, 8), (0xE0B0, 4), (0xE0B4, 4), (0xE0B8, 16), (0xE0C8, 4), (0xE0CC, 16),
   (0xE0DC, 16)]

end Sys2Proof.Machine
end

