-- ==== Sys2Proof/Machine/Pads.lean ====
section
/-!
DEFINITION. The output pads (15_power R379, 20_electrical Table 20-1): which are driven, clamped, at high impedance or floating, and the
terminations that the device switches (20_electrical R475), and the CKO outputs with the PLL that they need (16_clocks).
-/

namespace Sys2Proof.Machine

/-- An output pad, or the output side of one that goes both ways (20_electrical Table 20-1). -/
inductive Pad where
  | syncN | feSck | feSdo | feCs (n : Fin 4)
  | cko (n : Fin 4) | ckd (n : Fin 2)
  | tp (n : Fin 2)
  | lpaEn | llnaEn | lpaBias | lsw (n : Fin 3) | coexReq | lrfOut
  | nvSck | nvCsN | nvIo (n : Fin 8)
  | huTx | huRtsN
  | hiScl | hiSda
  | cpIo (p : Polder) | cpClk (p : Polder) | cpRstN (p : Polder)
  | obsCk | obsD (n : Fin 4)
  deriving DecidableEq, Repr

/-- What holds a pad. -/
inductive PadHold where
  /-- Its domain drives it. -/
  | driven
  /-- An isolation cell holds it low. -/
  | low
  /-- An isolation cell holds it high. -/
  | high
  /-- The device leaves it: high impedance, an input, or an open drain released. -/
  | released
  /-- Nothing inside the device holds it: the board's pull does (15_power R380). -/
  | floats
  deriving DecidableEq, Repr

/-- Domain of a pad (20_electrical Table 20-1). -/
def padDomain : Pad → Domain
  | .syncN | .feSck | .feSdo | .feCs _ => .spt 0
  | .cko _ | .ckd _ => .clk
  | .tp _ => .time
  | .lpaEn | .llnaEn | .lpaBias | .lsw _ | .coexReq | .lrfOut => .lnk
  | .nvSck | .nvCsN | .nvIo _ => .nvm
  | .huTx | .huRtsN => .hst
  | .hiScl | .hiSda => .aon
  | .cpIo p | .cpClk p | .cpRstN p => .pld p
  | .obsCk | .obsD _ => .obs

/-- Start-up level of a pad (20_electrical Table 20-1); the RF output has none. -/
def startLevel : Pad → PadHold
  | .syncN | .feCs _ | .nvCsN | .huTx | .huRtsN => .high
  | .tp _ | .nvIo _ | .hiScl | .hiSda => .released
  | .lrfOut => .floats
  | _ => .low

/-- Start-up, test and recovery (15_power R379): every case but normal service. -/
def clampPhase (s : State) : Bool := s.mode.life != .run

/-- A domain drives its outputs until they are isolated (15_power R376). -/
def drives (s : State) (d : Domain) : Bool := domAt s d == .on || domAt s d == .stopped

/-- What holds a pad (15_power R379). TP0 and TP1 stay at high impedance until the configuration step has applied POL, whatever TIME does, and
are driven with EN alone (09_sky_time Table 09-12). -/
def padHold (s : State) (x : Pad) : PadHold :=
  match x with
  | .tp n => if clampPhase s || !cfgBAt s skyTpEn n.val then .released else if drives s .time then .driven else .floats
  | _ => if drives s (padDomain x) then .driven else if clampPhase s then startLevel x else .floats

/-- The 100 Ω termination of a sample port's pairs is in force while its port has EN = 1 (20_electrical R475), which a failed init script takes back
(02_sample_ports R43). -/
def terminated (s : State) (n : Port) : Bool := cfgBAt s sptPortEn n && !s.spt.port[n].initFail

/-! ### PLL lock (16_clocks R401) -/

/-- Place of a PLL in LOCK (16_clocks Table 16-8). -/
def pllIdx : Pll → Fin 4
  | .a => 0 | .b => 1 | .c => 2 | .d => 3

/-- A PLL has declared lock. -/
def locked (s : State) (l : Pll) : Bool := s.clk.lock[pllIdx l]

/-- Set a bit of LOCK. -/
def setLock (l : Pll) (v : Bool) (s : State) : State := { s with clk := { s.clk with lock := s.clk.lock.set (pllIdx l) v } }

/-! ### CKO outputs (16_clocks R407, R408) -/

/-- Output n is asked for: its port is enabled, or in a differential pair either of the pair's ports. -/
def ckoWanted (s : State) (n : Fin 4) : Bool :=
  let fmt := if n < 2 then cfg s clkCfgCkoFmt01 else cfg s clkCfgCkoFmt23
  let lo : Fin 4 := ⟨n.val / 2 * 2, by omega⟩
  let hi : Fin 4 := ⟨n.val / 2 * 2 + 1, by omega⟩
  if fmt = 0 then terminated s n else terminated s lo || terminated s hi

/-- The CKO outputs run while they are asked for and PLLA is locked. -/
def ckoUpdate (s : State) : State :=
  let run := s.mode.life == .run && !s.mode.fallback && domOn s .clk && locked s .a
  { s with clk := { s.clk with ckoRun := Vector.ofFn fun (n : Fin 4) => run && ckoWanted s n } }

/-! ### Dividers, spread and formats (16_clocks R399, R400, R404, R407) -/

/-- VCO of a PLL in kHz (16_clocks Table 16-1); that of PLLD at the factor in force (R404). -/
def vcoKHz (s : State) : Pll → Rat
  | .a | .b => 1966080
  | .c => 1572864
  | .d => (cfg s clkCfgCkdVco : Rat) * s.clk.ckdFactor

/-- Feedback divider of a PLL on the reference in use (16_clocks R399, Table 16-2); PLLD's to within 2⁻²⁴ (R404). -/
def pllDivider (s : State) (l : Pll) : Rat := vcoKHz s l / (if s.clk.refExt then 10000 else refKHz s : Nat)

/-- Least and greatest factor that the spread puts on SYSCLK (16_clocks R400): down, or centred. -/
def spreadRange (s : State) : Rat × Rat :=
  let d : Rat := (cfg s clkCfgSscDepth : Rat) / 2000
  if s.clk.ssc = false then (1, 1) else if cfg s clkCfgSscMode = 1 then (1 - d, 1) else (1 - d, 1 + d)

/-- Format of a clock pin (16_clocks R407). -/
inductive PinFormat where
  /-- A single-ended output of a swing in mV. -/
  | lvcmos (mv : Nat)
  /-- LVDS, the true signal or its complement. -/
  | lvds (complement : Bool)
  /-- HCSL, the true signal or its complement. -/
  | hcsl (complement : Bool)
  deriving DecidableEq, Repr

/-- The format of pin `n` of a pair from its code and level. -/
def pinFormat (fmt lvl n : Nat) : PinFormat :=
  if fmt = 1 then .lvds (n % 2 == 1) else if fmt = 2 then .hcsl (n % 2 == 1) else .lvcmos (if lvl = 1 then 3300 else 1800)

/-- What a clock pin carries: its format, its frequency in kHz, and whether it runs; else it holds its inactive level, low or true low (16_clocks R408). -/
structure ClockPin where
  /-- Format. -/
  fmt : PinFormat
  /-- Frequency in kHz. -/
  kHz : Rat
  /-- Running. -/
  run : Bool
  deriving DecidableEq, Repr

/-- CKOn (16_clocks Table 16-1, R407, R408): SCLK, 61.44 MHz. -/
def ckoPin (s : State) (n : Fin 4) : ClockPin :=
  ⟨pinFormat (if n < 2 then cfg s clkCfgCkoFmt01 else cfg s clkCfgCkoFmt23) (cfg s clkCfgCkoLvl) n.val, 61440, s.clk.ckoRun[n]⟩

/-- CKDn (16_clocks R404, R407): CKD_VCO over its divider, in mapped ST; in a differential pair the odd pin follows the even one. -/
def ckdPin (s : State) (n : Fin 2) : ClockPin :=
  ⟨pinFormat (cfg s clkCfgCkdFmt) (cfg s clkCfgCkdLvl) n.val,
   (cfg s clkCfgCkdVco : Rat) / (if n = 0 ∨ cfg s clkCfgCkdFmt ≠ 0 then cfg s clkCfgCkd0Div else cfg s clkCfgCkd1Div : Nat), s.clk.ckdRun[n]⟩

end Sys2Proof.Machine
end

