-- ==== Sys2Proof/Machine/Publish.lean ====
section
/-!
DEFINITION. What the common subsystems publish: BASIN.MODE (01_architecture R15), the mapping's uncertainty and SKY.STATUS
(09_sky_time R225, R248), CLK.STATUS (16_clocks R413) and PMU.STATUS (15_power R395).
-/

namespace Sys2Proof.Machine

/-- One value for each comparator. -/
def cmpIdx : Comparator → Fin 3
  | .gnss => 0 | .ext => 1 | .model => 2

/-- Code of a source (09_sky_time Table 09-1). -/
def srcCode : Source → Nat
  | .gnss => 0 | .ext => 1 | .free => 2

/-- Code of a mode (01_architecture Table 01-2). -/
def modeCode : Mode → Nat
  | .cold => 1 | .survey => 2 | .full => 3 | .thin => 4 | .holdover => 5 | .quiet => 6 | .layup => 7

/-- Code of a service mode (01_architecture Table 01-2). -/
def targetCode : Target → Nat
  | .full => 3 | .thin => 4 | .layup => 7

/-- Number of a Boolean. -/
def b2n (b : Bool) : Nat := if b then 1 else 0

/-! ### BASIN.MODE (01_architecture Table 01-2) -/

/-- BASIN.MODE as one number. -/
def modeWord (s : State) : Nat :=
  packFields [(0, 4, modeCode s.mode.mode), (4, 4, targetCode s.mode.target), (8, 4, s.mode.rule), (12, 1, b2n s.mode.aligned),
    (13, 1, b2n s.mode.fallback), (14, 2, s.mode.surveyExit), (32, 32, s.mode.entryS)]

/-- Write BASIN.MODE. -/
def publishMode (s : State) : State := basinPut 0xE010 (leBytes 8 (modeWord s)) s

/-! ### Sources and SKY.STATUS (09_sky_time) -/

/-- Nominal rate, in seconds per tick (09_sky_time R221). -/
def nominalRate : Rat := 1 / 491520000

/-- TIME_TRUSTED as the selector last saw it. -/
def timeTrusted (s : State) : Bool := s.sky.trustedSince.isSome

/-- GNSS satisfies Table 09-1 but for disqualification. -/
def gnssReady (s : State) : Bool :=
  s.mode.aligned && timeTrusted s && (s.sky.gnssFresh || s.sky.gnssReturned)

/-- EXT satisfies Table 09-1 but for disqualification (09_sky_time R227). -/
def extReady (s : State) : Bool :=
  cfgB s skyCfgExtEn && s.clk.extPresent &&
    (match s.sky.extSince with | none => false | some t => since s t (secTicks 60))

/-- The oscillator model satisfies Table 09-1 but for disqualification: a record of at least 1 h (360 windows), the newest
younger than 24 h. -/
def modelReady (s : State) : Bool :=
  decide (360 ≤ s.sky.model.length) &&
    (match s.sky.model.head? with | none => false | some w => !since s w.1 (secTicks 86400))

/-- A comparator would be available were it not disqualified. -/
def cmpReady (s : State) : Comparator → Bool
  | .gnss => gnssReady s | .ext => extReady s | .model => modelReady s

/-- A comparator or source is available (09_sky_time Table 09-1). -/
def cmpAvail (s : State) (c : Comparator) : Bool := cmpReady s c && !s.sky.disq[cmpIdx c]

/-- Fractional frequency of the mapping against EXT: the EXT phase change over the last 10 s, 0 until ten seconds are held
(09_sky_time R228). -/
def extDrift (s : State) : Rat :=
  match s.sky.extPhase.head?, s.sky.extPhase[10]? with
  | some a, some b => (a.1 - b.1) / 10
  | _, _ => 0

/-- EXT phase of the latest edge, in seconds. -/
def extPhaseNow (s : State) : Rat := match s.sky.extPhase.head? with | some a => a.1 | none => 0

/-- y for GNSS from a time solution: the mapping's rate against GNSS time is 1 + DRIFT at the rate of its epoch
(09_sky_time R228). -/
def yGnss (t : TimeRef) : Rat := (1 + t.drift) / (t.rate * 491520000) - 1

/-- y for EXT, with the rate in force. -/
def yExt (s : State) : Rat := (1 + extDrift s) / (s.sky.seg.rate * 491520000) - 1

/-- The solution that stands for GNSS time: the latest with TIME_TRUSTED, else the latest with TIME_VALID. -/
def gnssRef (s : State) : Option TimeRef := s.sky.trustedSol.or s.sky.sol

/-- y against a source; 0 where nothing measures it. -/
def ySource (s : State) : Source → Rat
  | .gnss => (match gnssRef s with | some t => yGnss t | none => 0)
  | .ext => yExt s
  | .free => 1 - s.sky.tickS * 491520000

/-- tick_S of a source: r_new with slew 0 (09_sky_time R228). -/
def tickSource (s : State) : Source → Rat
  | .free => s.sky.tickS
  | x => nominalRate * (1 - ySource s x)

/-- Mapped ST minus the time of a source, now (09_sky_time R229): GNSS time runs on from the solution's epoch with its OFFSET and
DRIFT; the EXT phase runs on with the mapping's fractional frequency against EXT. -/
def phaseAgainst (s : State) : Source → Rat
  | .gnss => match gnssRef s with
    | some t => stNow s - (t.st - t.offset + ((s.sky.tick : Rat) - t.tick) * t.rate * (1 - t.drift))
    | none => 0
  | .ext => match s.sky.extPhase.head? with
    | some a => a.1 + extDrift s * (stNow s - a.2)
    | none => 0
  | .free => 0

/-- UNC against a source taken as steady, in ns (09_sky_time R225). -/
def uncSteady (s : State) (e : Rat) : Source → Rat
  | .gnss => (match gnssRef s with | some t => 3 * t.sigma | none => 0) + absQ e * 1000000000
  | .ext => (cfg s skyCfgExtUnc : Rat) + absQ e * 1000000000
  | .free => match s.sky.freeUnc with
    | some (u, t) => u + (cfg s skyCfgHoldFrq : Rat) * (((s.sky.tick : Rat) - t) / 491520000)
    | none => 0

/-- UNC in ns, none when saturated (09_sky_time R225). -/
def uncNs (s : State) : Option Rat :=
  if s.mode.aligned = false then
    match s.sky.seed with
    | none => none
    | some d => some (d.unc + (cfg s skyCfgHoldFrq : Rat) * (((s.sky.tick : Rat) - d.tick) / 491520000))
  else if s.sky.switching then some (absQ s.sky.r * 1000000000 + uncSteady s 0 s.sky.target)
  else some (uncSteady s s.sky.e s.sky.source)

/-- UNC as a 32-bit field: rounded up to whole ns, saturating. -/
def uncWord (s : State) : Nat :=
  match uncNs s with
  | none => 2 ^ 32 - 1
  | some u => min (ceilQ u).toNat (2 ^ 32 - 1)

/-- RESID in 0.1 ns, saturating (09_sky_time Table 09-15). -/
def residWord (s : State) : Nat :=
  twos 32 (clampI (-2147483648) 2147483647 (roundAway ((if s.sky.switching then s.sky.r else s.sky.e) * 10000000000)))

/-- SKY.STATUS as 12 bytes (09_sky_time Table 09-15). -/
def skyStatus (s : State) : List Byte :=
  leBytes 12 (packFields
    [(0, 2, srcCode s.sky.source), (2, 1, b2n s.sky.switching), (3, 2, srcCode s.sky.target), (5, 1, b2n s.mode.aligned),
     (6, 1, b2n s.sky.seed.isSome), (7, 1, b2n s.sky.undecided),
     (8, 1, b2n (cmpAvail s .gnss)), (9, 1, b2n (cmpAvail s .ext)), (10, 1, b2n (cmpAvail s .model)),
     (11, 1, b2n s.sky.disq[0]), (12, 1, b2n s.sky.disq[1]), (13, 1, b2n s.sky.disq[2]),
     (14, 1, b2n s.sky.tp[0].on), (15, 1, b2n s.sky.tp[1].on), (32, 32, uncWord s), (64, 32, residWord s)])

/-- Write SKY.STATUS (09_sky_time R248). -/
def publishSky (s : State) : State := basinPut 0xE098 (skyStatus s) s

/-! ### Seeds (09_sky_time R221) -/

/-- What estimated ST adds to mapped ST: SEED before first alignment, nothing after it. -/
def seedNow (s : State) : Rat := if s.mode.aligned then 0 else match s.sky.seed with | some d => d.value | none => 0

/-- Offer a seed: taken before first alignment when its uncertainty, in ns, is smaller than the one in hand. -/
def offerSeed (value unc : Rat) (s : State) : State :=
  let better : Bool := match uncNs s with | none => true | some u => decide (unc < u)
  if s.mode.aligned = false ∧ s.sky.run ∧ better then
    publishSky (bump cSkySeeds { s with sky := { s.sky with seed := some ⟨value, unc, s.sky.tick⟩ } })
  else s

/-- A Class 1 record of R234: SKY.STATUS is published and carried. -/
def recSky (kind : Nat) (s : State) : State :=
  let t := publishSky s
  recB 1 kind (skyStatus t) t

/-! ### CLK.STATUS (16_clocks R413) -/

/-- CLK.STATUS as one number (16_clocks Table 16-8). -/
def clkStatus (s : State) : Nat :=
  packFields
    [(0, 1, b2n s.clk.lock[0]), (1, 1, b2n s.clk.lock[1]), (2, 1, b2n s.clk.lock[2]), (3, 1, b2n s.clk.lock[3]),
     (4, 1, b2n s.clk.refExt), (5, 3, s.clk.refFreq), (8, 1, b2n s.clk.extPresent), (9, 1, b2n s.clk.ckdRun[0]),
     (10, 1, b2n s.clk.ckdRun[1]), (11, 1, b2n s.clk.ssc), (12, 1, b2n s.mode.fallback), (13, 3, s.clk.lastFault),
     (32, 32, s.aon.faultResets)]

/-- Emit CLK.STATUS. The first record of a boot is the one at the end of boot. -/
def clkEmit (s : State) : State :=
  let w := clkStatus s
  recB 1 0x1001 (leBytes 8 w) { s with clk := { s.clk with emitted := some w } }

/-- Emit CLK.STATUS when a field has changed since the last record of the boot. -/
def clkRefresh (s : State) : State :=
  match s.clk.emitted with
  | none => s
  | some w => if w = clkStatus s then s else clkEmit s

/-! ### PMU.STATUS (15_power R395) -/

/-- Mean of the newest `n` of a list of samples; 0 before the first. -/
def meanOf (l : List Int) (n : Nat) : Rat := meanQ ((l.take n).map fun x => (x : Rat))

/-- Mean of VBAT_SNS over the last second, in 10 mV. -/
def vbatMean (s : State) : Rat := meanOf (s.aon.vbat.map Int.ofNat) 1000

/-- Mean of the die temperature over `n` ms. -/
def tjMean (s : State) (n : Nat) : Rat := meanOf s.aon.tj n

/-- Reported state of charge in %, none until the first anchor (15_power R387): count in 0.01 mAh, CAPACITY in mAh. -/
def socNow (s : State) : Option Nat :=
  if s.aon.anchored = false then none
  else some (clampI 0 100 ((s.aon.count : Rat) / 360000 / cfg s pmuGaugeCapacity).floor).toNat

/-- PMU.STATUS as 8 bytes (15_power Table 15-11). -/
def pmuStatus (s : State) : List Byte :=
  leBytes 8 (packFields
    [(0, 2, s.aon.govLevel), (2, 1, b2n s.aon.disagree), (3, 1, b2n s.aon.anchored), (4, 7, (socNow s).getD 0),
     (16, 10, (roundAway (vbatMean s)).toNat), (32, 8, twos 8 (roundAway (tjMean s 1000)))])

/-- Emit PMU.STATUS. -/
def recPmu (s : State) : State :=
  recB 1 0x0F01 (pmuStatus s) { s with pmu := { s.pmu with statusTick := some s.sky.tick } }

/-! ### Disciplined outputs (16_clocks R404–R406) -/

/-- Put both disciplined outputs to a stop (16_clocks R408). -/
def ckdStop (s : State) : State := { s with clk := { s.clk with ckdRun := Vector.replicate 2 false } }

/-- CKD_GATE lets the outputs run (16_clocks R406). -/
def ckdGate (s : State) : Bool :=
  if s.mode.fallback ∨ s.mode.life ≠ .run then false
  else if cfg s clkCfgCkdGate = 0 then true
  else if cfg s clkCfgCkdGate = 1 then s.mode.aligned
  else (s.sky.source != .free) && !s.sky.switching

/-- The selector has moved: the outputs stop when their gate no longer lets them run; outputs that CKD_GATE 2 lets run again wait for the next whole second
(16_clocks R406). -/
def ckdCheck (s : State) : State :=
  clkRefresh (if ckdGate s = false then ckdStop s
    else if cfg s clkCfgCkdGate = 2 then { s with clk := { s.clk with ckdFrom := max s.clk.ckdFrom s.sky.tick } } else s)

/-- PLLD's divider at an anchor (16_clocks R404, R405): the factor (1 − y)(1 + slew); a change beyond ±2 ppm is a relock, during which
lock is not declared. -/
def ckdAnchor (factor : Rat) (s : State) : State :=
  let t := { s with clk := { s.clk with ckdFactor := factor } }
  if s.clk.started = false then t
  else if absQ (factor / s.clk.ckdFactor - 1) ≤ 2 / 1000000 then t
  else bump cClkPlldRelocks (ckdStop { t with clk := { t.clk with ckdRelock := some s.sky.tick, lock := t.clk.lock.set 3 false } })

/-- The stop at first alignment and at a permitted step: the outputs may restart from the next tick on (16_clocks R406). -/
def ckdStepStop (s : State) : State :=
  let t := ckdStop s
  { t with clk := { t.clk with ckdFrom := s.sky.tick + 1 } }

end Sys2Proof.Machine
end

