-- ==== Sys2Proof/Machine/SamplePorts.lean ====
section
/-!
DEFINITION. Sample ports and front-end control (02_sample_ports): frame words, alignment, markers, the statistics guard, gain
steps and blanking; and the active set and calibration that the ports set in the array (03_array R64, R72).
-/

namespace Sys2Proof.Machine

/-- Change a port. -/
def modPort (p : Port) (f : PortState → PortState) (s : State) : State :=
  { s with spt := { s.spt with port := s.spt.port.set p (f s.spt.port[p]) } }

/-- Change a lane. -/
def modLane (p l : Port) (f : LaneState → LaneState) (s : State) : State :=
  modPort p (fun q => { q with lane := q.lane.set l (f q.lane[l]) }) s

/-- A port's lane. -/
def laneAt (s : State) (p l : Port) : LaneState := s.spt.port[p].lane[l]

/-- Place of a lane's word in SPT.LANE (02_sample_ports Table 02-8). -/
def laneIdx (p l : Port) : Nat := 4 * p.val + l.val

/-- The port counts as enabled: EN = 1 and no init failure (02_sample_ports R26, R43). -/
def portEn (s : State) (p : Port) : Bool := cfgBAt s sptPortEn p.val && !s.spt.port[p].initFail

/-- The port runs. -/
def portOn (s : State) (p : Port) : Bool := portEn s p && domOn s (.spt p)

/-- Antenna of a port (02_sample_ports R26): its port index by default. -/
def portAnt (s : State) (p : Port) : Port :=
  if (blockOf s 8 0x0210).isSome then ⟨cfgAt s sptPortAnt p.val % 4, Nat.mod_lt _ (by decide)⟩ else p

/-- BAND of a lane: 0 none, 1–4 B1, B2, B5, B6 (02_sample_ports Table 02-8). -/
def laneBand (s : State) (p l : Port) : Nat := if (blockOf s 8 0x0211).isSome then cfgAt s sptLaneBand (laneIdx p l) else l.val + 1

/-- Ticks per sample of a port (02_sample_ports Table 02-1). -/
def samplePeriod (s : State) (p : Port) : Nat := 8 * 2 ^ cfgAt s sptPortRate p.val

/-- The receiver of a lane is powered: its port runs and the lane names a band (02_sample_ports R26, R30). -/
def receiverOn (s : State) (p l : Port) : Bool := portOn s p && laneBand s p l != 0

/-- The first sampling instant of a port at or after an instant, once its sequence is placed (02_sample_ports R33, R44). -/
def instantAfter (s : State) (p : Port) (x : Int) : Option Int :=
  (s.spt.port[p].word0).map fun w => w - (w - x) / (samplePeriod s p : Int) * (samplePeriod s p : Int)

/-- The sampling instant of a port nearest to an instant. -/
def instantNear (s : State) (p : Port) (x : Int) : Option Int := instantAfter s p (x - samplePeriod s p / 2)

/-- An instant is a stream millisecond boundary of a port: the first sampling instant at or after a whole millisecond of ST (02_sample_ports R44). -/
def msBoundary (s : State) (p : Port) (b : Int) : Bool :=
  decide ((1000 * stAt s (b - samplePeriod s p).toNat).floor < (1000 * stAt s b.toNat).floor)

/-- The first sampling instant of the next stream millisecond of a port. -/
def nextMsStart (s : State) (p : Port) : Int :=
  let t := s.sky.seg.tick + ((((stNow s * 1000).floor + 1 : Rat) / 1000 - s.sky.seg.st) / s.sky.seg.rate).ceil
  (instantAfter s p t).getD t

/-- Some sample port runs. -/
def anyPortOn (s : State) : Bool := (List.finRange 4).any (portOn s)

/-! ### The array's side (03_array) -/

/-- Reference antenna. -/
def refAnt (s : State) : Port := ⟨cfg s aryCfgRef % 4, Nat.mod_lt _ (by decide)⟩

/-- The port that carries an antenna. -/
def antPort (s : State) (a : Port) : Option Port := (List.finRange 4).find? fun p => portEn s p && portAnt s p == a

/-- Antennas of the enabled ports. -/
def imageAnts (s : State) : List Port := (List.finRange 4).filter fun a => (antPort s a).isSome

/-- THIN, QUIET and LAYUP. -/
def slowMode (s : State) : Bool := s.mode.mode == .thin || s.mode.mode == .quiet || s.mode.mode == .layup

/-- A mode that runs the resources of THIN, HOLDOVER entered from such a mode included (01_architecture Table 01-5). -/
def oneAntMode (s : State) : Bool := slowMode s || (s.mode.mode == .holdover && s.mode.thinHold)

/-- The antennas that a governor level allows (15_power R384). -/
def govAllows (s : State) (a : Port) : Bool :=
  if s.aon.govLevel = 0 then true
  else a == refAnt s || (s.aon.govLevel == 1 && a.val == cfg s aryCfgKeep2)

/-- The active set: antennas of running ports that the mode and the governor leave running (03_array R72). The one antenna of a duty-cycled mode stays
in it between its windows. -/
def activeAnts (s : State) : List Port :=
  (imageAnts s).filter fun a =>
    (match antPort s a with | some p => portOn s p || slowMode s | none => false) && govAllows s a && (!oneAntMode s || a == refAnt s)

/-- A vector of ARY.GEOM, in mm. -/
def antVec (s : State) (a : Port) : Vec3 := ⟨cfgIAt s aryGeomX a.val, cfgIAt s aryGeomY a.val, cfgIAt s aryGeomZ a.val⟩

/-- Place of a calibration. -/
def calIdx (a : Port) (b : Band) : Fin 16 := ⟨4 * a.val + b.val, by omega⟩

/-- Initialise the calibration of an antenna from its port's residual (03_array R64). -/
def calInit (p : Port) (s : State) : State :=
  let a := portAnt s p
  let tau : Rat := (s.spt.port[p].residual : Rat) * 1000 / (49152 / 100) + ((cfgAt s aryGeomCabDly a.val : Rat) - (cfgAt s aryGeomCabDly (refAnt s).val : Rat)) / 100
  let c : CalState := { tau := tau }
  { s with ary := { s.ary with cal := (List.finRange 4).foldl (fun v b => v.set (calIdx a b) c) s.ary.cal } }

/-! ### SPT.STATUS (02_sample_ports R51) -/

/-- One bit for each lane. -/
def laneBits (q : PortState) (f : LaneState → Bool) : Nat := ((List.finRange 4).map fun l => if f q.lane[l] then 2 ^ l.val else 0).sum

/-- Entries of the init script. -/
def feinitCount (s : State) : Nat := match blockOf s 8 0x0213 with | some b => b.words / 2 | none => 0

/-- The script has no entry left for a port: it is initialised (02_sample_ports R43, Table 02-12). -/
def initDone (s : State) (p : Port) : Bool := !((List.range (feinitCount s)).drop s.spt.feinit).any fun k => cfgAt s sptFeinitPort k == p.val

/-- SPT.STATUS of a port (02_sample_ports Table 02-12). -/
def sptStatus (s : State) (p : Port) : Nat :=
  let q := s.spt.port[p]
  packFields [(0, 1, b2n (portEn s p && initDone s p && q.synced && !q.lost)), (1, 1, b2n q.alignTs), (2, 1, b2n q.fallback), (3, 1, b2n q.lost), (4, 1, b2n q.initFail),
    (8, 4, laneBits q (·.notSamples)), (12, 4, laneBits q (·.loMute)), (16, 4, laneBits q (·.conflict)), (20, 4, laneBits q (·.overload)),
    (24, 4, laneBits q (·.underload))]

/-- Publish SPT.STATUS of a port and emit a Class 1 record when it has changed. -/
def sptRefresh (p : Port) (s : State) : State :=
  let w := leBytes 4 (sptStatus s p)
  if sread basinDflt s.basin (0xE0CC + 4 * p.val) 4 = w then s
  else recB 1 0x0204 (leBytes 1 p.val ++ w) (basinPut (0xE0CC + 4 * p.val) w s)

/-! ### Alignment (02_sample_ports R32–R38) -/

/-- Nearest point of a grid of `d` ticks through `g`, a tie to the earlier (02_sample_ports R37). -/
def nearestPoint (g : Int) (d : Nat) (t : Int) : Int :=
  let r := (t - g) % d
  if 2 * r ≤ d then t - r else t - r + d

/-- The common sampling grid that a port is laid on, as a point and a spacing: that of the first trigger-aligned port, at the finer of the two rates
(DEDUCED, log entry 98), else the SCLK edge train. -/
def samplingGrid (s : State) (p : Port) : Int × Nat :=
  let trig := (List.finRange 4).findSome? fun q => if portOn s q && !s.spt.port[q].alignTs then (s.spt.port[q].word0).map fun w => (w, q) else none
  match trig with
  | some (w, q) => (w, min (samplePeriod s p) (samplePeriod s q))
  | none => (Config.sclkPhase, 8)

/-- Anchor a port on a block stamp (02_sample_ports R37): the block's first word takes the nearest grid point, the residual goes to the array. -/
def anchorPort (p : Port) (stamp : Nat) (s : State) : State :=
  let inst : Int := (stamp : Int) - 8 * cfgAt s sptPortFePipe p.val
  let t := modPort p (fun q => { q with alignTs := true }) s
  let g := samplingGrid t p
  let point := nearestPoint g.1 g.2 inst
  calInit p (modPort p (fun q => { q with
    word0 := some (point - q.count * samplePeriod s p), stamp := some stamp, residual := inst - point }) t)

/-- The first edge of the SCLK train at or after a tick (02_sample_ports R32, R37). -/
def sclkEdge (t : Nat) : Nat := t + (Config.sclkPhase + 8 * t - t) % 8

/-- A start trigger for every port that runs (02_sample_ports R32–R35). -/
def triggerPorts (s : State) : State :=
  let edge := sclkEdge s.sky.tick
  let one := fun (s : State) (p : Port) =>
    if portOn s p = false then s else
    let ts := cfgBAt s sptPortAlign p.val
    let w0 : Int := (edge : Int) + 8 * ((cfgAt s sptPortFeLat p.val : Int) - cfgAt s sptPortFePipe p.val)
    let t := modPort p (fun q => { q with
      gap := true, fallback := false, alignTs := ts, blockMute := false, count := 0, stamp := none, residual := 0,
      word0 := if ts then none else some w0, lane := q.lane.map fun x => { x with loMute := false } }) s
    sptRefresh p (calInit p t)
  (List.finRange 4).foldl one { s with spt := { s.spt with trig := some edge } }

/-- SYNC_N is low (02_sample_ports R32): for SYNC_WIDTH SCLK cycles from the trigger's edge. -/
def syncLow (s : State) : Bool :=
  match s.spt.trig with | some t => decide (t ≤ s.sky.tick) && decide (s.sky.tick < t + 8 * cfg s sptCtrlSyncWidth) | none => false

/-- Scheduled triggers that have fallen due: the loader's or that of a port's power-up (R35, R36). -/
def portTriggers (s : State) : List Nat := s.spt.trigDue.filter fun t => decide (t ≤ s.sky.tick)

/-- The trigger 1 ms after PLLA relocks has fallen due (16_clocks R410). -/
def relockTrigger (s : State) : Bool := match s.clk.trigAt with | some t => decide (t + msTicks 1 ≤ s.sky.tick) | none => false

/-- A scheduled trigger has fallen due. -/
def triggerDue (s : State) : Bool := !(portTriggers s).isEmpty || relockTrigger s

/-- What has fallen due is taken from the schedule; what falls due later stays. -/
def takeTriggers (s : State) : State :=
  { s with
    spt := { s.spt with trigDue := s.spt.trigDue.filter fun t => decide (s.sky.tick < t) }
    clk := { s.clk with trigAt := if relockTrigger s then none else s.clk.trigAt } }

/-- SAMPLE_PORT_TRIGGER (02_sample_ports R32, R35): one trigger for all that fall due together; with no port on each is suppressed
(09_sky_time Table 09-5). -/
def execSamplePortTrigger (s : State) : Result :=
  .next (if triggerDue s = false then s
    else if anyPortOn s then triggerPorts (takeTriggers s)
    else (List.range ((portTriggers s).length + b2n (relockTrigger s))).foldl (fun t _ => bump cSkySuppressedActions t) (takeTriggers s))

/-- The frame sync at a tick begins the new sequence after a trigger: it does not follow the old one, or it stands where FE_LAT puts it. -/
def newSequence (s : State) (p : Port) : Bool :=
  let q := s.spt.port[p]
  match s.spt.trig with
  | none => true
  | some t =>
    let due := t + 8 * cfgAt s sptPortFeLat p.val
    let follows := match q.lastFs with | some l => decide (l + samplePeriod s p ≤ s.sky.tick + 2) && decide (s.sky.tick ≤ l + samplePeriod s p + 2) | none => false
    decide (due ≤ s.sky.tick + 16) || !follows

/-- The first word of a block is stamped (02_sample_ports R34, R37, R38). -/
def stampBlock (p : Port) (s : State) : State :=
  let q := s.spt.port[p]
  let now := s.sky.tick
  let len := 4096 * samplePeriod s p
  let near := fun (a : Int) (b : Nat) => decide (a - 2 ≤ b) && decide ((b : Int) ≤ a + 2)
  let t := modPort p (fun q => { q with blockMute := false }) s
  match q.alignTs, q.word0 with
  | false, some w =>
    let want : Int := w + 8 * cfgAt s sptPortFePipe p.val + q.count * samplePeriod s p
    if near want now then modPort p (fun q => { q with stamp := some now }) t
    else anchorPort p now (modPort p (fun q => { q with fallback := true }) t)
  | _, _ =>
    match q.stamp with
    | none => anchorPort p now t
    | some b =>
      if near ((b + len : Nat) : Int) now then modPort p (fun q => { q with stamp := some now }) t
      else bump (cSptStampJump p) (anchorPort p now (modPort p (fun q => { q with blockMute := true }) t))

/-! ### Frame words (02_sample_ports R28–R31, R39–R41) -/

/-- Level of a 3-bit field (02_sample_ports R28). -/
def level3 (v : Nat) : Int := if 4 ≤ v then -(2 * (v % 4 : Nat) + 1 : Int) else 2 * (v % 4 : Nat) + 1

/-- A sampling instant lies in a blanking interval (02_sample_ports R48). -/
def blankedAt (s : State) (inst : Int) (period : Nat) : Bool :=
  s.spt.blank.any fun b => decide ((b.1 : Int) < inst + period) && (match b.2 with | some e => decide (inst ≤ e) | none => true)

/-- One word into the guard window (02_sample_ports R41): `v` the word where it is evaluated; G4 compares whole words, PAD included (DESIGN CHOICE: log entry 102). -/
def guardWord (v : Option Nat) (x : LaneState) : LaneState :=
  let w := { x.win with words := x.win.words + 1 }
  let hist := (v :: x.hist).take 16
  match v with
  | none => { x with win := w, hist := hist }
  | some word =>
    let a := word % 64
    let pairs := w.pairs.zipIdx.map fun e =>
      match x.hist[e.2]? with
      | some (some b) => (e.1.1 + 1, e.1.2 + (if word = b then 1 else 0))
      | _ => e.1
    { x with
      win := { w with
        valid := w.valid + 1, andBits := w.andBits &&& a, orBits := w.orBits ||| a, eq := w.eq + (if a / 8 = a % 8 then 1 else 0),
        signI := w.signI + a / 32, signQ := w.signQ + a / 4 % 2, pairs := pairs },
      hist := hist }

/-- The effect of a decoded marker (02_sample_ports Table 02-3). -/
def markerEffect (p l : Port) (type data : Nat) (s : State) : State :=
  if type = 1 then modLane p l (fun x => { x with loMute := true }) s
  else if type = 2 then modLane p l (fun x => { x with loMute := false }) s
  else if type = 3 then
    match laneBand s p l with
    | 1 => { s with ary := { s.ary with band := s.ary.band.set 0 { s.ary.band[0] with marker := true } } }
    | 2 => { s with ary := { s.ary with band := s.ary.band.set 1 { s.ary.band[1] with marker := true } } }
    | 3 => { s with ary := { s.ary with band := s.ary.band.set 2 { s.ary.band[2] with marker := true } } }
    | 4 => { s with ary := { s.ary with band := s.ary.band.set 3 { s.ary.band[3] with marker := true } } }
    | _ => s
  else if type = 4 then bumpIf (decide (data % 16 ≠ (laneAt s p l).gain)) (cSptGainMismatch p) s
  else s

/-- A complete marker (02_sample_ports R40): decoded, recorded at most 16 times a second of ST for a port (DESIGN CHOICE: log entry
101), and given its effect; on a lane flagged NOT_SAMPLES it has none. -/
def marker (p l : Port) (type data tick : Nat) (s : State) : State :=
  let t := bump (cSptMarkers p) s
  if (laneAt s p l).notSamples then bump (cSptMarkersSuppressed p) t
  else
    let sec := stSec s
    let m := s.spt.port[p].marks
    let n := if m.1 = sec then m.2 else 0
    let t := modPort p (fun q => { q with marks := (sec, n + 1) }) t
    let t := if 16 ≤ n then bump (cSptMarkersSuppressed p) t
      else recB (if 1 ≤ type ∧ type ≤ 4 then 1 else 2) 0x0201
        (leBytes 1 p.val ++ leBytes 1 l.val ++ leBytes 1 type ++ leBytes 3 data ++ leBytes 8 (stWord (stAt s tick))) t
    markerEffect p l type data t

/-- Sampling instant of the word that arrives (02_sample_ports R33, R37): by its index once the sequence is placed, else the arrival of its frame sync
less FE_PIPE cycles. -/
def wordInstant (s : State) (p : Port) : Int :=
  let q := s.spt.port[p]
  match if q.lost || q.gap then none else q.word0 with
  | some w => w + q.count * samplePeriod s p
  | none => (s.sky.tick : Int) - 8 * cfgAt s sptPortFePipe p.val

/-- A word of a lane (02_sample_ports R28–R31, R39–R41). -/
def laneWord (p : Port) (w : Byte) (l : Port) (s : State) : State :=
  let x := laneAt s p l
  if receiverOn s p l = false then s else
  let q := s.spt.port[p]
  let v := w.toNat
  let pad := v / 64
  let six := v % 64
  let inst := wordInstant s p
  let isMarker := pad == 3
  let muteHere := isMarker || x.loMute || q.lost || q.gap || q.blockMute
  let blank := cfgBAt s sptLaneBlank (laneIdx p l) && blankedAt s inst (samplePeriod s p)
  let flag := if blank then 1 else if muteHere || x.notSamples then 2 else 0
  let raw := !blank && !muteHere
  let counts := match x.stepAt with | some t => decide ((t : Int) ≤ inst) | none => true
  let three := (if six / 8 % 4 = 3 then 1 else 0) + (if six % 4 = 3 then 1 else 0)
  let y := guardWord (if raw then some v else none) x
  let y := if counts then
      { y with msTotal := y.msTotal + 1, msValid := y.msValid + (if flag = 0 then 1 else 0), msThree := y.msThree + (if flag = 0 then three else 0) }
    else y
  let out : StreamSample := ⟨inst, if flag = 0 then level3 (six / 8) else 0, if flag = 0 then level3 (six % 8) else 0, flag⟩
  let t := bumpIf (pad == 1 || pad == 2) (cSptPadErr p) (modLane p l (fun _ => { y with out := (out :: y.out).take 9 }) s)
  if isMarker then
    match x.run with
    | [a, b, c] =>
      let m := ((a * 64 + b) * 64 + c) * 64 + six
      marker p l (m / 2 ^ 20) (m % 2 ^ 20) x.runTick (modLane p l (fun z => { z with run := [] }) t)
    | r => modLane p l (fun z => { z with run := r ++ [six], runTick := if r.isEmpty then inst.toNat else z.runTick }) t
  else bumpIf (!x.run.isEmpty) (cSptMarkersMalformed p) (modLane p l (fun z => { z with run := [] }) t)

/-! ### The combined stream (03_array R55–R57) -/

/-- The lane that carries a band on an antenna. -/
def bandLane (s : State) (a : Port) (b : Band) : Option (Port × Port) :=
  match antPort s a with
  | none => none
  | some p => ((List.finRange 4).find? fun l => laneBand s p l == b.val + 1).map fun l => (p, l)

/-- The gain-table entry of a lane and index (02_sample_ports Table 02-9). -/
def gainEntry (s : State) (p l : Port) (i : Nat) : Option Nat :=
  let n := match blockOf s 8 0x0212 with | some b => b.words / 2 | none => 0
  (List.range n).find? fun k => cfgAt s sptGainPort k == p.val && cfgAt s sptGainLane k == l.val && cfgAt s sptGainIndex k == i

/-- Gain of a lane in dB at an instant, from SPT.GAIN; 0 dB under GAIN_MODE NONE (03_array R56). -/
def laneGainDb (s : State) (p l : Port) (at_ : Int) : Rat :=
  if cfgAt s sptLaneGainMode (laneIdx p l) = 2 then 0 else
  let x := laneAt s p l
  let i := match x.stepAt with | some t => if (t : Int) ≤ at_ then x.gain else x.prevGain | none => x.gain
  match gainEntry s p l i with | some k => (cfgIAt s sptGainGain k : Rat) / 2 | none => 0

/-- A sample that left a lane at an instant, none where there is none. -/
def laneSample (s : State) (p l : Port) (at_ : Int) : Option StreamSample := (laneAt s p l).out.find? fun x => x.at_ == at_

/-- Delay of the filter of an antenna, in sixteenths of a sample: it cancels the calibrated delay (03_array R56). -/
def filterDelay (s : State) (p a : Port) (b : Band) : Int :=
  roundEven (-(16 * ((s.ary.cal[calIdx a b]).tau * (49152 / 100) / 1000 / samplePeriod s p)))

/-- A lane's sample at an instant as it enters a combination: scaled by the inverse of the gain, and delayed over ±4 samples (03_array R56). -/
def laneScaled (s : State) (p l a : Port) (b : Band) (at_ : Int) : Rat × Rat :=
  let d := if a = refAnt s then 0 else filterDelay s p a b
  (List.range 9).foldl (fun (acc : Rat × Rat) (k : Nat) =>
    let j : Int := (k : Int) - 4
    let t := at_ - j * samplePeriod s p
    match laneSample s p l t with
    | none => acc
    | some x =>
      let w := Config.delayTap d j * Config.pow10 (-(laneGainDb s p l t) / 20)
      (acc.1 + w * x.i, acc.2 + w * x.q)) (0, 0)

/-- Weights of a band that act at an instant, per antenna A0–A3 (03_array R58). -/
def weightsFor (s : State) (b : Band) (at_ : Int) : List Cplx :=
  let x := s.ary.band[b]
  let w := match x.next with | some (t, v) => if t ≤ at_ then v else x.weights | none => x.weights
  w.getD ((List.finRange 4).map fun a => if a = refAnt s then ⟨1, 0⟩ else ⟨0, 0⟩)

/-- A value in the 8-bit range of the combined stream. -/
def comb8 (x : Rat) : Int := clampI (-128) 127 (roundEven (x / Config.combUnit))

/-- The combined sample of a band at an instant (03_array R55–R57): wᴴx over the active antennas; blanked where an antenna with a non-zero weight is
blanked, else muted where one is flagged, and 0 where flagged. An antenna with no sample at the instant counts as muted. -/
def combine (s : State) (b : Band) (at_ : Int) : StreamSample :=
  let parts := (activeAnts s).filterMap fun a =>
    let w := (weightsFor s b at_).getD a.val ⟨0, 0⟩
    if w = ⟨0, 0⟩ then none else (bandLane s a b).map fun pl => (a, w, pl)
  let flags := parts.map fun x => match laneSample s x.2.2.1 x.2.2.2 at_ with | some y => y.flag | none => 2
  let flag := if flags.contains 1 then 1 else if flags.any (· != 0) then 2 else 0
  let sum := parts.foldl (fun (acc : Rat × Rat) x =>
    let v := laneScaled s x.2.2.1 x.2.2.2 x.1 b at_
    (acc.1 + x.2.1.re * v.1 + x.2.1.im * v.2, acc.2 + x.2.1.re * v.2 - x.2.1.im * v.1)) (0, 0)
  if flag = 0 then ⟨at_, comb8 sum.1, comb8 sum.2, 0⟩ else ⟨at_, 0, 0, flag⟩

/-- The combined samples that a port's word completes: for each band on it, at the instant four samples back, once every active antenna with that band has
come as far (03_array R55). -/
def combineBands (p : Port) (inst : Int) (s : State) : State :=
  let at_ := inst - 4 * samplePeriod s p
  (List.finRange 4).foldl (fun t b =>
    let lanes := (activeAnts t).filterMap fun a => bandLane t a b
    let here := lanes.any fun pl => pl.1 == p
    let ready := lanes.all fun pl => match (laneAt t pl.1 pl.2).out.head? with | some x => decide (inst ≤ x.at_) | none => false
    if here && ready then { t with ary := { t.ary with band := t.ary.band.set b { t.ary.band[b] with comb := some (combine t b at_) } } } else t) s

/-- Frame sync counts of R29. -/
def countFs (ok : Bool) (q : PortState) : PortState :=
  { q with badFs := if ok then 0 else min 2 (q.badFs + 1), goodFs := if ok then min 8 (q.goodFs + 1) else 0, synced := q.synced || ok }

/-- The new sequence begins: the gap ends, and a marker run that it cuts is malformed (02_sample_ports R35, R39). -/
def beginSequence (p : Port) (s : State) : State :=
  let cut := ((List.finRange 4).filter fun l => !(laneAt s p l).run.isEmpty).length
  (List.range cut).foldl (fun t _ => bump (cSptMarkersMalformed p) t)
    (modPort p (fun q => { q with gap := false, count := 0, lane := q.lane.map fun x => { x with run := [] } }) s)

/-- FRAME_WORD (02_sample_ports R28–R31, R33–R41). -/
def execFrameWord (p : Port) (fsOk : Bool) (w0 w1 w2 w3 : Byte) (s : State) : Result :=
  if portOn s p = false then .next s else
  let s1 := modPort p (countFs fsOk) s
  let s2 := if s1.spt.port[p].gap && newSequence s1 p then beginSequence p s1 else s1
  let q := s2.spt.port[p]
  let s3 := if q.lost || q.gap || q.count % 4096 != 0 then s2 else stampBlock p s2
  let s4 := laneWord p w3 3 (laneWord p w2 2 (laneWord p w1 1 (laneWord p w0 0 s3)))
  let s5 := combineBands p (wordInstant s3 p) s4
  .next (sptRefresh p (modPort p (fun q => { q with lastFs := some s.sky.tick, count := if q.lost || q.gap then q.count else q.count + 1 }) s5))

/-- A port loses sync: its lanes are muted from then on and the loss counts (02_sample_ports R29, R31). -/
def loseSync (p : Port) (s : State) : State :=
  sptRefresh p (bump (cSptSyncLoss p) (modPort p (fun q => { q with lost := true, goodFs := 0 }) s))

/-- SYNC_LOST (02_sample_ports R29). -/
def execSyncLost (p : Port) (s : State) : Result :=
  .next (if portOn s p ∧ s.spt.port[p].lost = false ∧ s.spt.port[p].synced ∧ 2 ≤ s.spt.port[p].badFs then loseSync p s else s)

/-- SYNC_REGAIN (02_sample_ports R29): the port aligns by block timestamps until its next trigger, LO_MUTE clears (R40), and the calibration of
its antenna is initialised (03_array R64). -/
def execSyncRegain (p : Port) (s : State) : Result :=
  .next (if portOn s p ∧ s.spt.port[p].lost ∧ 8 ≤ s.spt.port[p].goodFs then
      sptRefresh p (calInit p (modPort p (fun q => { q with
        lost := false, alignTs := true, word0 := none, stamp := none, count := 0, blockMute := false, residual := 0,
        lane := q.lane.map fun x => { x with loMute := false } }) s))
    else s)

/-- A guard window fails (02_sample_ports Table 02-4). -/
def guardFails (w : GuardWin) : Bool :=
  decide (w.andBits ≠ 0) || decide (w.orBits ≠ 63) || decide (99 * w.valid ≤ 100 * w.eq) ||
  decide (4 * w.signI < w.valid) || decide (3 * w.valid < 4 * w.signI) || decide (4 * w.signQ < w.valid) || decide (3 * w.valid < 4 * w.signQ) ||
  w.pairs.any fun e => decide (0 < e.1) && decide (99 * e.1 ≤ 100 * e.2)

/-- GUARD_WINDOW (02_sample_ports R41) (DESIGN CHOICE: log entry 102). -/
def execGuardWindow (p l : Port) (s : State) : Result :=
  let x := laneAt s p l
  let t := modLane p l (fun x => { x with win := {} }) s
  .next (if portOn s p = false ∨ x.win.words < 65536 then s
    else if 2 * x.win.valid < x.win.words then t
    else if guardFails x.win then
      let n := x.failRun + 1
      let trip := decide (4 ≤ n) && !x.notSamples
      sptRefresh p (bumpIf trip (cSptGuardTrips p) (modLane p l (fun x => { x with failRun := min n 4, passRun := 0, notSamples := x.notSamples || trip }) t))
    else
      let n := x.passRun + 1
      sptRefresh p (modLane p l (fun x => { x with passRun := min n 16, failRun := 0, notSamples := x.notSamples && decide (n < 16) }) t))

/-! ### Front-end control (02_sample_ports R42–R47) -/

/-- The entry that the script sends next: those of a failed port are skipped. -/
def feinitNext (s : State) : Option Nat :=
  ((List.range (feinitCount s)).drop s.spt.feinit).find? fun k =>
    match (List.finRange 4).find? fun p => p.val == cfgAt s sptFeinitPort k with | some p => !s.spt.port[p].initFail | none => false

/-- Bits of an SPI word on the wire: the low SPI_BITS of it, most significant first (02_sample_ports R42, Table 02-9). -/
def spiBits (s : State) (p : Port) (w : Nat) : List Bool := ((List.range (cfgAt s sptPortSpiBits p.val)).map fun k => w.testBit k).reverse

/-- Ticks that a transfer of so many bits takes: FE_SCK runs at 196.608 MHz / (2 × (SPI_DIV + 1)), 5 × (SPI_DIV + 1) ticks a bit (02_sample_ports R42). -/
def spiSpan (s : State) (p : Port) (bits : Nat) : Nat := 5 * (cfgAt s sptPortSpiDiv p.val + 1) * bits

/-- The bus is free for a transfer of `n` words that ends now: no other one overlaps it (02_sample_ports R42). -/
def spiFree (s : State) (p : Port) (n : Nat) : Bool :=
  let span := spiSpan s p (n * cfgAt s sptPortSpiBits p.val)
  decide (span ≤ s.sky.tick) && (match s.spt.spi with | some x => decide (x.stop + span ≤ s.sky.tick) | none => true)

/-- A transfer whose FE_CSn rises now (02_sample_ports R42). -/
def spiSend (p : Port) (words : List Nat) (s : State) : State :=
  let bits := words.flatMap (spiBits s p)
  { s with spt := { s.spt with spi := some ⟨p, cfgAt s sptPortSpiMode p.val, bits, s.sky.tick - spiSpan s p bits.length, s.sky.tick⟩ } }

/-- FEINIT_ENTRY (02_sample_ports R43): the script's next entry has been sent, with FE_CSn rising now and these bits received; after the last one the
loader's trigger falls due in 1 ms (R35). -/
def execFeinitEntry (rx : BitVec 32) (s : State) : Result :=
  if s.mode.life ≠ .boot ∧ s.mode.life ≠ .run then .next s else
  match feinitNext s with
  | none => .next s
  | some k =>
    let p : Port := ⟨cfgAt s sptFeinitPort k % 4, Nat.mod_lt _ (by decide)⟩
    if spiFree s p 1 = false ∨ s.sky.tick < s.spt.feNext + spiSpan s p (cfgAt s sptPortSpiBits p.val) then .next s else
    let bits := min 16 (cfgAt s sptPortSpiBits p.val)
    let bad := cfgBAt s sptFeinitRead k && decide (rx.toNat % 2 ^ bits ≠ cfgAt s sptFeinitExpect k % 2 ^ bits)
    let wait := ceilDiv (cfgAt s sptFeinitDelay k * 49152) 100
    let t := spiSend p [cfgAt s sptFeinitWord k] s
    let t := { t with spt := { t.spt with feinit := k + 1, feNext := s.sky.tick + wait } }
    let t := if bad then recB 1 0x0202 (leBytes 1 p.val ++ leBytes 2 (rx.toNat % 2 ^ bits)) (clkRefresh (ckoUpdate (modPort p (fun q => { q with initFail := true }) t)))
      else t
    let t := if (feinitNext t).isNone then { t with spt := { t.spt with trigDue := t.spt.trigDue ++ [s.sky.tick + wait + msTicks 1] } } else t
    .next (sptRefresh p t)

/-- The word of a gain-table entry (02_sample_ports Table 02-9). -/
def gainWord (s : State) (p l : Port) (i : Nat) : Nat := match gainEntry s p l i with | some k => cfgAt s sptGainWord k | none => 0

/-- Ask for a step of a lane (02_sample_ports R44, R45): at most one stands. -/
def askStep (p l : Port) (i : Nat) (s : State) : State :=
  modLane p l (fun x => if x.req.isSome then x else { x with req := some (i, s.sky.tick) }) s

/-- The AGC rule with its limits met for four milliseconds (02_sample_ports R46). -/
def agcStep (p l : Port) (s : State) : State :=
  let x := laneAt s p l
  if 4 ≤ x.hiRun ∧ 0 < x.gain then askStep p l (x.gain - 1) s
  else if 4 ≤ x.loRun ∧ x.gain < cfgAt s sptLaneGainMax (laneIdx p l) then askStep p l (x.gain + 1) s
  else s

/-- An episode of R47 begins. -/
def beginEpisode (p l : Port) (s : State) : State :=
  let t := modLane p l (fun x => { x with conflict := true, inside := none, lastReturn := none }) s
  recB 1 0x0203 (leBytes 1 p.val ++ leBytes 1 l.val) (bump (cSptGainConflicts p) t)

/-- GAIN_LOOP_MS (02_sample_ports R46, R47): p = three / (2 valid). -/
def execGainLoopMs (p l : Port) (s : State) : Result :=
  let x := laneAt s p l
  let t := modLane p l (fun x => { x with msTotal := 0, msValid := 0, msThree := 0 }) s
  if portOn s p = false ∨ laneBand s p l = 0 then .next s
  else if x.msTotal = 0 ∨ 2 * x.msValid < x.msTotal then .next t
  else
    let n := laneIdx p l
    let mode := cfgAt s sptLaneGainMode n
    let hiLim := if mode = 0 then cfgAt s sptLanePHi n else 80
    let loLim := if mode = 0 then cfgAt s sptLanePLo n else 4
    let isOver := decide (80 * (2 * x.msValid) < 200 * x.msThree)
    let isUnder := decide (200 * x.msThree < 4 * (2 * x.msValid))
    let hi := decide (hiLim * (2 * x.msValid) < 200 * x.msThree)
    let lo := decide (200 * x.msThree < loLim * (2 * x.msValid))
    let u := modLane p l (fun x => { x with
      overload := isOver, underload := isUnder, hiRun := if hi then min 4 (x.hiRun + 1) else 0, loRun := if lo then min 64 (x.loRun + 1) else 0,
      inside := if isOver || isUnder then none else some (x.inside.getD s.sky.tick), lastReturn := if isOver || isUnder then none else x.lastReturn }) t
    let y := laneAt u p l
    let v :=
      if mode = 0 then agcStep p l u
      else if mode = 1 then
        if y.conflict then agcStep p l u
        else if 4 ≤ y.hiRun ∨ 64 ≤ y.loRun then agcStep p l (beginEpisode p l u)
        else u
      else u
    .next (sptRefresh p v)

/-- FIXED_RETURN_STEP (02_sample_ports R47): after 1 s inside the envelope, one index toward FIX_INDEX every 100 ms (DESIGN CHOICE: log entry 103). -/
def execFixedReturnStep (p l : Port) (s : State) : Result :=
  let x := laneAt s p l
  let fix := cfgAt s sptLaneFixIndex (laneIdx p l)
  let ready := match x.inside, x.lastReturn with
    | some a, none => since s a (secTicks 1)
    | some a, some b => since s a (secTicks 1) && since s b (msTicks 100)
    | none, _ => false
  .next (if portOn s p = false ∨ x.conflict = false ∨ ready = false ∨ x.req.isSome then s
    else if x.gain = fix then sptRefresh p (modLane p l (fun x => { x with conflict := false }) s)
    else modLane p l (fun x => { x with lastReturn := some s.sky.tick }) (askStep p l (if x.gain < fix then x.gain + 1 else x.gain - 1) s))

/-- A step lands with its first sample at an instant: new gain, its record with that sample's index, the loop afresh from it, the episode ended at
FIX_INDEX (02_sample_ports R44, R46, R47). -/
def landStep (p : Port) (first : Int) (l : Port) (s : State) : State :=
  match (laneAt s p l).req with
  | none => s
  | some (i, _) =>
    let idx := (s.spt.port[p].word0).map fun w => (first - w) / (samplePeriod s p : Int)
    bump (cSptGainSteps p) (modLane p l (fun x => { x with
      prevGain := x.gain, gain := i, req := none, stepAt := some first.toNat, stepIdx := idx, hiRun := 0, loRun := 0, msTotal := 0, msValid := 0, msThree := 0,
      conflict := x.conflict && decide (i ≠ cfgAt s sptLaneFixIndex (laneIdx p l)) }) s)

/-- Send the waiting steps of some lanes of a port in one transfer, which takes effect from an instant on. -/
def sendSteps (p : Port) (first : Int) (ls : List Port) (s : State) : State :=
  let words := ls.map fun l => match (laneAt s p l).req with | some (i, _) => gainWord s p l i | none => 0
  sptRefresh p (ls.foldl (fun t l => landStep p first l t) (spiSend p words s))

/-- Ticks of the waiting requests of a port. -/
def requestTicks (s : State) (p : Port) : List Nat := (List.finRange 4).filterMap fun l => (laneAt s p l).req.map (·.2)

/-- The port whose transfer lands at a boundary: oldest request first, then the lower index (02_sample_ports R45). -/
def stepPort (s : State) : Option Port :=
  let all := (List.finRange 4).filterMap fun p => if portOn s p then (requestTicks s p).min?.map fun t => (t, p) else none
  match all.map (·.1) |>.min? with
  | none => none
  | some m => (all.find? fun e => e.1 == m).map (·.2)

/-- The stream millisecond boundary at which a transfer that ends now takes effect, GAIN_LAT cycles on within 1 tick (02_sample_ports R44). -/
def stepBoundary (s : State) (p : Port) : Option Int :=
  let e : Int := (s.sky.tick : Int) + 8 * cfgAt s sptPortGainLat p.val
  match instantNear s p e with
  | some b => if e - 1 ≤ b ∧ b ≤ e + 1 ∧ msBoundary s p b then some b else none
  | none => none

/-- GAIN_STEP (02_sample_ports R44, R45): the steps of the port whose turn it is land at a stream millisecond boundary, with one port's transfer for each
boundary. -/
def execGainStep (p : Port) (s : State) : Result :=
  let ls := (List.finRange 4).filter fun l => (laneAt s p l).req.isSome
  match stepBoundary s p with
  | none => .next s
  | some b =>
    let ms := (1000 * stAt s b.toNat).floor.toNat
    .next (if stepPort s = some p ∧ s.spt.stepMs ≠ some ms ∧ spiFree s p ls.length then
        sendSteps p b ls { s with spt := { s.spt with stepMs := some ms } }
      else s)

/-- GAIN_UNALIGNED (02_sample_ports R45): steps that found no boundary within 2 ms, sent once the bus is free. -/
def execGainUnaligned (p : Port) (s : State) : Result :=
  let late := (List.finRange 4).filter fun l => match (laneAt s p l).req with | some (_, t) => decide (t + msTicks 2 < s.sky.tick) | none => false
  let e : Int := (s.sky.tick : Int) + 8 * cfgAt s sptPortGainLat p.val
  .next (if portOn s p = false ∨ late = [] ∨ spiFree s p late.length = false then s
    else sendSteps p ((instantAfter s p e).getD e) late (late.foldl (fun t _ => bump (cSptGainUnaligned p) t) s))

/-! ### Coexistence blanking (02_sample_ports R48) -/

/-- The sample that covers a tick, where its word has arrived already, is flagged blanked (02_sample_ports R48). -/
def blankLast (p l : Port) (s : State) : State :=
  if (receiverOn s p l && cfgBAt s sptLaneBlank (laneIdx p l)) = false then s else
  modLane p l (fun x => { x with out := x.out.map fun y =>
    if y.at_ ≤ (s.sky.tick : Int) ∧ (s.sky.tick : Int) < y.at_ + samplePeriod s p then ⟨y.at_, 0, 0, 1⟩ else y }) s

/-- BH_TX_RISE: blanking starts, or goes on through a tail, from the latest sample at or before the edge. The edge counts for each running port with a
blanked lane. -/
def execBhTxRise (s : State) : Result :=
  if s.spt.bhTx then .next s else
  let opens := s.spt.blank.any fun b => b.2.isNone
  let kept := s.spt.blank.filter fun b => match b.2 with | some e => decide (s.sky.tick ≤ e + 4096) | none => true
  let t := { s with spt := { s.spt with bhTx := true, tail := none, blank := if opens then kept else (s.sky.tick, none) :: kept } }
  let t := (List.finRange 4).foldl (fun t p => (List.finRange 4).foldl (fun t l => blankLast p l t) t) t
  .next ((List.finRange 4).foldl (fun t p =>
    bumpIf (portOn t p && (List.finRange 4).any fun l => laneBand t p l != 0 && cfgBAt t sptLaneBlank (laneIdx p l)) (cSptBlankEvents p) t) t)

/-- BH_TX_FALL: the tail runs. -/
def execBhTxFall (s : State) : Result :=
  .next (if s.spt.bhTx then { s with spt := { s.spt with bhTx := false, tail := some s.sky.tick } } else s)

/-- BLANK_TAIL_END: blanking ends with the first sample after the falling edge plus BLANK_TAIL. -/
def execBlankTailEnd (s : State) : Result :=
  match s.spt.tail with
  | none => .next s
  | some t =>
    let e := t + cfg s sptCtrlBlankTail * 49152 / 1000
    .next (if s.sky.tick < e then s
      else { s with spt := { s.spt with tail := none, blank := s.spt.blank.map fun b => if b.2.isNone then (b.1, some e) else b } })

end Sys2Proof.Machine
end

