-- ==== Sys2Proof/Machine/Signals.lean ====
section
/-!
DEFINITION. Signals and geometry: the signal tables that acquisition, tracking and the measurement unit share (04_acquisition Table 04-1, 05_tracking Tables
05-3 and 05-5, 06_measurements Table 06-4), and the directions, steering vectors and weights of the array (03_array R52–R63, 05_tracking R109).
-/

namespace Sys2Proof.Machine

/-! ### Signals -/

/-- A signal. -/
structure SigInfo where
  /-- Constellation. -/
  const : Constellation
  /-- Band. -/
  band : Band
  /-- Carrier in Hz; of frequency number 0 for GLONASS FDMA (PRESUMED, log entry 16). -/
  carrier : Nat
  /-- Chips per second (04_acquisition Table 04-1). -/
  chipHz : Nat
  /-- Code chips. -/
  chips : Nat
  /-- Blocks. -/
  blocks : Nat
  /-- Search is Direct. -/
  direct : Bool
  /-- FAST coherent length in ms. -/
  fastCoh : Nat
  /-- FAST count. -/
  fastNc : Nat
  /-- DEEP coherent length in ms. -/
  deepCoh : Nat
  /-- DEEP count. -/
  deepNc : Nat
  /-- BOC(1,1) class (05_tracking Table 05-3). -/
  boc : Bool
  /-- Two components (05_tracking Table 05-2). -/
  two : Bool
  /-- Pilot share; 1 for a data-only signal (05_tracking Table 05-5). -/
  share : Rat
  /-- Data symbol in ms. -/
  symMs : Nat
  /-- T_S in ms. -/
  tS : Nat
  /-- T_W in ms. -/
  tW : Nat
  /-- Level 2 period in ms (06_measurements Table 06-4). -/
  level2 : Nat
  /-- Level 3 can come from data. -/
  fromData : Bool
  /-- Candidates of histogram synchronisation, 0 where there is none (05_tracking Table 05-5). -/
  cand : Nat
  /-- EL in 1/64 chip (05_tracking Table 05-3). -/
  el : Nat
  /-- VEVL in 1/64 chip. -/
  vevl : Nat
  /-- MM in 1/64 chip. -/
  mm : Int
  /-- Ideal autocorrelation at MM. -/
  rho : Rat
  /-- σ₀ of code in m (07_solver R159). -/
  sigma0 : Rat
  deriving DecidableEq, Repr

/-- Signals 0–10. -/
def sigRowsA : List SigInfo := [
  ⟨.gps, 0, 1575420000, 1023000, 1023, 1, true, 1, 4, 10, 20, false, false, 1, 20, 10, 20, 20, true, 20, 13, 64, (-32), 1 / 2, 3 / 10⟩,
  ⟨.gps, 0, 1575420000, 1023000, 10230, 10, false, 10, 2, 10, 20, true, true, 3 / 4, 10, 10, 100, 18000, true, 0, 6, 64, (-16), 1 / 4, 3 / 20⟩,
  ⟨.gps, 1, 1227600000, 511500, 10230, 10, false, 20, 1, 20, 20, false, true, 1 / 2, 20, 20, 100, 1500, true, 0, 13, 64, (-32), 1 / 2, 3 / 10⟩,
  ⟨.gps, 2, 1176450000, 10230000, 10230, 10, false, 1, 4, 10, 20, false, true, 1 / 2, 10, 10, 100, 20, true, 0, 32, 96, (-48), 1 / 4, 1 / 10⟩,
  ⟨.galileo, 0, 1575420000, 1023000, 4092, 4, true, 4, 2, 100, 20, true, true, 1 / 2, 4, 4, 100, 100, true, 0, 6, 64, (-16), 1 / 4, 3 / 20⟩,
  ⟨.galileo, 2, 1176450000, 10230000, 10230, 10, false, 1, 4, 10, 20, false, true, 1 / 2, 20, 20, 100, 100, true, 0, 32, 96, (-48), 1 / 4, 1 / 10⟩,
  ⟨.galileo, 2, 1207140000, 10230000, 10230, 10, false, 1, 4, 10, 20, false, true, 1 / 2, 4, 20, 100, 100, true, 0, 32, 96, (-48), 1 / 4, 1 / 10⟩,
  ⟨.galileo, 3, 1278750000, 5115000, 5115, 5, false, 1, 4, 10, 20, false, true, 1 / 2, 1, 10, 100, 100, false, 0, 19, 64, (-32), 1 / 2, 1 / 5⟩,
  ⟨.beidou, 0, 1561098000, 2046000, 2046, 2, true, 1, 4, 1, 200, false, false, 1, 20, 10, 20, 20, true, 0, 19, 64, (-32), 1 / 2, 1 / 5⟩,
  ⟨.beidou, 0, 1575420000, 1023000, 10230, 10, false, 10, 2, 10, 20, true, true, 3 / 4, 10, 10, 100, 18000, true, 0, 6, 64, (-16), 1 / 4, 3 / 20⟩,
  ⟨.beidou, 2, 1176450000, 10230000, 10230, 10, false, 1, 4, 10, 20, false, true, 1 / 2, 5, 10, 100, 100, true, 0, 32, 96, (-48), 1 / 4, 1 / 10⟩]

/-- Signals 11–21. -/
def sigRowsB : List SigInfo := [
  ⟨.beidou, 3, 1268520000, 10230000, 10230, 10, false, 1, 4, 1, 200, false, false, 1, 20, 10, 20, 20, true, 0, 32, 96, (-48), 1 / 4, 1 / 10⟩,
  ⟨.glonass, 0, 1602000000, 511000, 511, 1, true, 1, 4, 10, 20, false, false, 1, 20, 10, 20, 20, true, 10, 13, 64, (-32), 1 / 2, 3 / 10⟩,
  ⟨.glonass, 1, 1246000000, 511000, 511, 1, false, 1, 4, 10, 20, false, false, 1, 20, 10, 20, 20, true, 10, 13, 64, (-32), 1 / 2, 3 / 10⟩,
  ⟨.glonass, 2, 1202025000, 10230000, 10230, 10, false, 1, 4, 10, 20, false, true, 1 / 2, 5, 10, 100, 10, false, 0, 32, 96, (-48), 1 / 4, 1 / 10⟩,
  ⟨.qzss, 0, 1575420000, 1023000, 1023, 1, true, 1, 4, 10, 20, false, false, 1, 20, 10, 20, 20, true, 20, 13, 64, (-32), 1 / 2, 3 / 10⟩,
  ⟨.qzss, 0, 1575420000, 1023000, 10230, 10, false, 10, 2, 10, 20, true, true, 3 / 4, 10, 10, 100, 18000, true, 0, 6, 64, (-16), 1 / 4, 3 / 20⟩,
  ⟨.qzss, 1, 1227600000, 511500, 10230, 10, false, 20, 1, 20, 20, false, true, 1 / 2, 20, 20, 100, 1500, true, 0, 13, 64, (-32), 1 / 2, 3 / 10⟩,
  ⟨.qzss, 2, 1176450000, 10230000, 10230, 10, false, 1, 4, 10, 20, false, true, 1 / 2, 10, 10, 100, 20, true, 0, 32, 96, (-48), 1 / 4, 1 / 10⟩,
  ⟨.navic, 2, 1176450000, 1023000, 1023, 1, true, 1, 4, 10, 20, false, false, 1, 20, 10, 20, 20, true, 20, 13, 64, (-32), 1 / 2, 3 / 10⟩,
  ⟨.sbas, 0, 1575420000, 1023000, 1023, 1, true, 1, 4, 2, 100, false, false, 1, 2, 2, 2, 2, false, 2, 13, 64, (-32), 1 / 2, 3 / 10⟩,
  ⟨.sbas, 2, 1176450000, 10230000, 10230, 10, false, 1, 4, 10, 20, false, true, 1 / 2, 2, 10, 100, 20, false, 0, 32, 96, (-48), 1 / 4, 1 / 10⟩]

/-- A signal by its index. -/
def sigInfo (n : Nat) : SigInfo := (sigRowsA ++ sigRowsB).getD n ⟨.gps, 0, 1575420000, 1023000, 1023, 1, true, 1, 4, 10, 20, false, false, 1, 20, 10, 20, 20, true, 20, 13, 64, (-32), 1 / 2, 3 / 10⟩

/-- A signal's primary code period in s. -/
def SigInfo.period (g : SigInfo) : Rat := (g.chips : Rat) / g.chipHz

/-- A BeiDou GEO satellite, which sends D2 (05_tracking R110; the assignment is PRESUMED, log entry 16). -/
def isGeo (v : SatId) : Bool := v.const == .beidou && (decide (v.sv ≤ 5) || decide (59 ≤ v.sv))

/-- A signal of a satellite: D2 and its symbols on a BeiDou GEO (05_tracking Table 05-5). -/
def targetInfo (t : SearchTarget) : SigInfo :=
  let g := sigInfo t.sig
  if (t.sig = 8 ∨ t.sig = 11) ∧ isGeo t.sat then { g with symMs := 2, tS := 2, tW := 2, level2 := 2, cand := 2 } else g

/-- Carrier of a target in Hz (04_acquisition R77, 06_measurements R139; GLONASS channel spacings are PRESUMED, log entry 16). -/
def carrierOf (t : SearchTarget) : Rat :=
  let k : Rat := (t.fcn : Rat) - 7
  if t.sig = 12 then 1602000000 + 562500 * k else if t.sig = 13 then 1246000000 + 437500 * k else (sigInfo t.sig).carrier

/-- c in m/s (06_measurements R136). -/
def lightSpeed : Rat := 299792458

/-- Wavelength in m. -/
def wavelength (t : SearchTarget) : Rat := lightSpeed / carrierOf t

/-- An entry of an indexed block that the block holds. -/
def entryHeld (s : State) (code words k : Nat) : Bool := match blockOf s 8 code with | some b => decide ((k + 1) * words ≤ b.words) | none => false

/-- Number of a constellation in the masks of 05_tracking Table 05-8. -/
def constBit : Constellation → Nat
  | .gps => 0 | .galileo => 1 | .beidou => 2 | .glonass => 3 | .qzss => 4 | .navic => 5 | .sbas => 6

/-- Number of a constellation in 07_solver Tables 07-7 and 07-13. -/
def constCode : Constellation → Nat
  | .gps => 0 | .glonass => 1 | .galileo => 2 | .beidou => 3 | .qzss => 4 | .navic => 5 | .sbas => 6

/-! ### Complex numbers -/

/-- Sum. -/
def cAdd (a b : Cplx) : Cplx := ⟨a.re + b.re, a.im + b.im⟩
/-- Difference. -/
def cSub (a b : Cplx) : Cplx := ⟨a.re - b.re, a.im - b.im⟩
/-- Product. -/
def cMul (a b : Cplx) : Cplx := ⟨a.re * b.re - a.im * b.im, a.re * b.im + a.im * b.re⟩
/-- Conjugate. -/
def cConj (a : Cplx) : Cplx := ⟨a.re, -a.im⟩
/-- Squared magnitude. -/
def cNorm (a : Cplx) : Rat := a.re * a.re + a.im * a.im
/-- Magnitude. -/
def cAbs (a : Cplx) : Rat := Config.sqrt (cNorm a)
/-- Quotient. -/
def cDiv (a b : Cplx) : Cplx := let p := cMul a (cConj b); ⟨p.re / cNorm b, p.im / cNorm b⟩
/-- exp(j 2π x). -/
def cExp (x : Rat) : Cplx := ⟨Config.cosDeg (360 * x), Config.sinDeg (360 * x)⟩
/-- Sum of a list. -/
def cSum (l : List Cplx) : Cplx := l.foldl cAdd ⟨0, 0⟩
/-- Σ conj(a) b. -/
def cDot (a b : List Cplx) : Cplx := cSum (List.zipWith (fun x y => cMul (cConj x) y) a b)
/-- Argument in cycles. -/
def cArg (a : Cplx) : Rat := Config.argCycles a.im a.re
/-- A number of cycles wrapped into (−1/2, 1/2] (03_array R65). -/
def wrapCycles (x : Rat) : Rat := x - (ceilQ (x - 1 / 2) : Int)

/-- Solve a square system by elimination; the rows carry their right side as a last element (03_array R58). -/
def elim : Nat → List (List Cplx) → List (List Cplx)
  | 0, m => m
  | n + 1, m =>
    match m with
    | [] => []
    | row :: rest =>
      let p := row.headD ⟨1, 0⟩
      let row' := row.map fun x => cDiv x p
      let below := elim n (rest.map fun r => (List.zipWith (fun x y => cSub x (cMul (r.headD ⟨0, 0⟩) y)) r row').drop 1)
      row' :: below

/-- Back substitution: from eliminated rows to the solution. -/
def backSub : List (List Cplx) → List Cplx
  | [] => []
  | row :: rest =>
    let x := backSub rest
    let coef := (row.drop 1).dropLast
    cSub (row.getLastD ⟨0, 0⟩) (cSum (List.zipWith cMul coef x)) :: x

/-- The solution x of M x = b. -/
def cSolve (m : List (List Cplx)) (b : List Cplx) : List Cplx := backSub (elim m.length (List.zipWith (fun r y => r ++ [y]) m b))

/-- M with `l` added on its diagonal. -/
def loaded (m : List (List Cplx)) (l : Rat) : List (List Cplx) := m.zipIdx.map fun r => r.1.zipIdx.map fun x => if x.2 = r.2 then cAdd x.1 ⟨l, 0⟩ else x.1

/-- Mean of matrices of equal size. -/
def meanMatrix (l : List (List (List Cplx))) : List (List Cplx) :=
  match l with
  | [] => []
  | a :: r =>
    let t := r.foldl (fun x y => List.zipWith (List.zipWith cAdd) x y) a
    t.map fun row => row.map fun x => cMul x ⟨1 / (l.length : Rat), 0⟩

/-! ### Vectors -/

/-- Dot product. -/
def vDot (a b : Vec3) : Rat := a.x * b.x + a.y * b.y + a.z * b.z
/-- Cross product. -/
def vCross (a b : Vec3) : Vec3 := ⟨a.y * b.z - a.z * b.y, a.z * b.x - a.x * b.z, a.x * b.y - a.y * b.x⟩
/-- Sum. -/
def vAdd (a b : Vec3) : Vec3 := ⟨a.x + b.x, a.y + b.y, a.z + b.z⟩
/-- Multiple. -/
def vScale (k : Rat) (a : Vec3) : Vec3 := ⟨k * a.x, k * a.y, k * a.z⟩
/-- Length. -/
def vLen (a : Vec3) : Rat := Config.sqrt (vDot a a)
/-- The zero vector. -/
def vZero (a : Vec3) : Bool := a.x == 0 && a.y == 0 && a.z == 0

/-- Dimension that vectors span: 0 to 3 (03_array R53). -/
def spanDim (l : List Vec3) : Nat :=
  if l.any fun a => l.any fun b => l.any fun c => vDot a (vCross b c) != 0 then 3
  else if l.any fun a => l.any fun b => !vZero (vCross a b) then 2
  else if l.any fun a => !vZero a then 1 else 0

/-- Difference. -/
def vSub (a b : Vec3) : Vec3 := ⟨a.x - b.x, a.y - b.y, a.z - b.z⟩

/-- Geometry rank of the active set (03_array R53): the dimension of what its antennas span from one of them. -/
def antRank (s : State) : Nat :=
  match activeAnts s with
  | [] => 0
  | a :: l => spanDim (l.map fun x => vSub (antVec s x) (antVec s a))

/-! ### Attitude and directions (03_array R54) -/

/-- ATT_VALID (07_solver R182, R185). -/
def attValid (s : State) : Bool := s.sol.att.ok && !s.ary.spoof

/-- A direction given by azimuth and elevation in degrees, in the local east-north-up frame. -/
def enuOf (az el : Rat) : Vec3 := ⟨Config.cosDeg el * Config.sinDeg az, Config.cosDeg el * Config.cosDeg az, Config.sinDeg el⟩

/-- A local direction turned into the body frame (x forward, y left, z up; the sense of roll is PRESUMED, log entry 16). -/
def toBody (a : AttRec) (u : Vec3) : Vec3 :=
  let h : Rat := (a.heading : Rat) / 100
  let p : Rat := (a.pitch : Rat) / 100
  let r : Rat := (a.roll : Rat) / 100
  let x : Vec3 := ⟨Config.sinDeg h * Config.cosDeg p, Config.cosDeg h * Config.cosDeg p, Config.sinDeg p⟩
  let y0 : Vec3 := ⟨-Config.cosDeg h, Config.sinDeg h, 0⟩
  let z0 := vCross x y0
  let y := vAdd (vScale (Config.cosDeg r) y0) (vScale (Config.sinDeg r) z0)
  let z := vAdd (vScale (-Config.sinDeg r) y0) (vScale (Config.cosDeg r) z0)
  ⟨vDot u x, vDot u y, vDot u z⟩

/-- What is predicted of a satellite. -/
def viewOf (s : State) (v : SatId) : Option SatView := s.sol.view.find? fun w => w.sat == v

/-- Predicted elevation in degrees. -/
def elevOf (s : State) (v : SatId) : Option Rat := (viewOf s v).map (·.elev)

/-- The attitude that a weight step may use: current, or the last valid one no more than 10 s old (05_tracking R109). -/
def stepAttitude (s : State) : Option AttRec :=
  if attValid s then some s.sol.att
  else match s.sol.attLast with | some (t, a) => if stNow s - t ≤ 10 then some a else none | none => none

/-! ### Steering and weights -/

/-- Centre of a band in GHz (03_array, Calibration). -/
def bandGHz (b : Band) : Rat := match b with | 0 => 157542 / 100000 | 1 => 122760 / 100000 | 2 => 117645 / 100000 | 3 => 127875 / 100000

/-- Calibration of an antenna and band. -/
def calAt (s : State) (a : Port) (b : Band) : CalState := s.ary.cal[calIdx a b]

/-- The calibration counts as converged: the reference's always does (03_array Table 03-8). -/
def calConv (s : State) (a : Port) (b : Band) : Bool := a == refAnt s || (calAt s a b).conv

/-- Inter-antenna phase that the calibration predicts, in cycles (03_array R63). -/
def calPhase (s : State) (a : Port) (b : Band) (fGHz : Rat) : Rat :=
  if a = refAnt s then 0 else let q := calAt s a b; q.phi + (fGHz - bandGHz b) * q.tau

/-- Effective baseline of an antenna in mm (03_array R63). -/
def effVec (s : State) (a : Port) (b : Band) : Vec3 := if a = refAnt s then antVec s a else vAdd (antVec s a) (calAt s a b).d

/-- Element of the steering vector of a body-frame direction (05_tracking R109). -/
def steerElem (s : State) (b : Band) (fGHz : Rat) (u : Vec3) (a : Port) : Cplx :=
  if a = refAnt s then ⟨1, 0⟩ else cExp (vDot (effVec s a b) u * fGHz / (299792458 / 1000000) + calPhase s a b fGHz)

/-- Weights of a band per antenna A0–A3, e_ref where none are in force. -/
def weightList (s : State) (w : Option (List Cplx)) : List Cplx := w.getD ((List.finRange 4).map fun a => if a = refAnt s then ⟨1, 0⟩ else ⟨0, 0⟩)

/-- Steering vector of a target, per antenna A0–A3, none without a predicted direction (05_tracking R109). -/
def steering (s : State) (t : SearchTarget) (att : AttRec) : Option (List Cplx) :=
  (viewOf s t.sat).map fun v =>
    (List.finRange 4).map (steerElem s (targetInfo t).band (carrierOf t / 1000000000) (toBody att (enuOf v.az v.elev)))

/-- arg(wᴴa) in cycles for a target's direction. -/
def weightArg (s : State) (w : Option (List Cplx)) (t : SearchTarget) (att : AttRec) : Rat :=
  match w, steering s t att with
  | none, _ => 0
  | _, none => 0
  | some l, some a => cArg (cDot l a)

/-- Every antenna with a non-zero weight is converged in a band. -/
def weightsConv (s : State) (b : Band) (w : Option (List Cplx)) : Bool :=
  (List.finRange 4).all fun a => (weightList s w).getD a.val ⟨0, 0⟩ == ⟨0, 0⟩ || calConv s a b

end Sys2Proof.Machine
end

