-- ==== Sys2Proof/Machine/SolCore.lean ====
section
/-!
DEFINITION. What other chapters read of the solver: the ephemeris store (07_solver R161, R162), which solution is published, and its validity flags
(07_solver R157, R164, R184, R185).
-/

namespace Sys2Proof.Machine

/-- A quotient; where the divisor is 0 the manual states no value. -/
def quot (a b : Rat) : Rat := if b = 0 then Config.openQuot a else a / b

/-- What the store holds of a satellite. -/
def ephOf (s : State) (v : SatId) : Option EphEntry := s.msr.eph.find? fun e => e.sat == v

/-- An issue is inside its fit interval, by estimated ST (09_sky_time R221). -/
def issueUsable (s : State) (i : Issue) : Bool :=
  let sec := (stNow s + seedNow s).floor
  decide ((i.from_ : Int) ≤ sec) && decide (sec ≤ (i.until_ : Int))

/-- The solver has a usable issue of a satellite (07_solver R162). -/
def ephUsable (s : State) (v : SatId) : Bool := match ephOf s v with | some e => e.issues.any (issueUsable s) | none => false

/-- Any issue, one from the host included, that serves acquisition. -/
def ephHeld (s : State) (v : SatId) : Bool :=
  match ephOf s v with | some e => e.issues.any (issueUsable s) || (match e.assist with | some i => issueUsable s i | none => false) | none => false

/-- A mode that publishes the precise solution (07_solver Table 07-1). -/
def preciseMode (s : State) : Bool := s.mode.mode == .survey || s.mode.mode == .full

/-- The published solution is the precise one: it runs and its TYPE is at least 2 (07_solver R157, R169). -/
def pubPrecise (s : State) : Bool := preciseMode s && s.sol.precOn && (match s.sol.prec with | some r => decide (2 ≤ r.type) | none => false)

/-- The solution that Table 07-1 publishes. -/
def pubRec (s : State) : Option SolRec := if pubPrecise s then s.sol.prec else s.sol.std

/-- The image's service runs: neither boot nor SAFE. -/
def inService (s : State) : Bool := s.mode.life == .run && !s.mode.fallback

/-- PVT_VALID of the present solution (07_solver R157, R184, R185). -/
def pvtValid (s : State) : Bool :=
  inService s && s.mode.mode != .holdover && !s.sol.fail && !s.ary.spoof && (match pubRec s with | some r => decide (1 ≤ r.type) | none => false)

/-- VEL_VALID (07_solver Table 07-9). -/
def velValid (s : State) : Bool := pvtValid s && (match pubRec s with | some r => r.sol.velOk | none => false)

/-- GNSS is usable, as the solver last reported it (01_architecture R18). -/
def gnssUsable (s : State) : Bool := s.mode.usableSince.isSome

/-- Speed in mm/s squared, horizontal. -/
def speedSq (x : Solution) : Int := x.ve * x.ve + x.vn * x.vn

/-! ### Predictions (03_array R54, 04_acquisition R83, R86, 05_tracking R107, 06_measurements R144) -/

/-- What predicts a satellite: the bits of a usable issue of ephemeris, from broadcast before one from the host, else of an almanac; whether it is ephemeris. -/
def orbitData (s : State) (v : SatId) : Option (List Bool × Bool) :=
  match ephOf s v with
  | none => none
  | some e =>
    match (e.issues.find? (issueUsable s)).or (match e.assist with | some i => if issueUsable s i then some i else none | none => none) with
    | some i => some (i.bits, true)
    | none => e.almanac.map fun b => (b, false)

/-- The position that predictions use: the valid basin position, else the last valid one, else that of a host assistance frame (03_array R54, 04_acquisition
R86). -/
def predictPos (s : State) : Option Position :=
  match if pvtValid s then pubRec s else none with
  | some r => some r.sol.pos
  | none => (s.sol.lastPos.map (·.1)).or (s.acq.pos.map (·.1))

/-- Nominal carrier of L1 in Hz. -/
def l1Hz : Rat := 1575420000

/-- Local unit vectors east, north and up at a position, Earth-fixed. -/
def localFrame (p : Position) : Vec3 × Vec3 × Vec3 :=
  let la : Rat := (p.lat : Rat) / 1000000000
  let lo : Rat := (p.lon : Rat) / 1000000000
  (⟨-Config.sinDeg lo, Config.cosDeg lo, 0⟩,
   ⟨-Config.sinDeg la * Config.cosDeg lo, -Config.sinDeg la * Config.sinDeg lo, Config.cosDeg la⟩,
   ⟨Config.cosDeg la * Config.cosDeg lo, Config.cosDeg la * Config.sinDeg lo, Config.sinDeg la⟩)

/-- A vector turned about the Earth's axis as the Earth turns in t seconds. -/
def earthTurn (t : Rat) (v : Vec3) : Vec3 :=
  let a := Config.radToDeg (72921151467 / 1000000000000000 * t)
  ⟨Config.cosDeg a * v.x + Config.sinDeg a * v.y, Config.cosDeg a * v.y - Config.sinDeg a * v.x, v.z⟩

/-- Velocity of the receiver, Earth-fixed in m/s: the published one where it is valid. -/
def predictVel (s : State) (f : Vec3 × Vec3 × Vec3) : Vec3 :=
  match if velValid s then pubRec s else none with
  | some r => vScale (1 / 1000) (vAdd (vScale r.sol.ve f.1) (vAdd (vScale r.sol.vn f.2.1) (vScale r.sol.vu f.2.2)))
  | none => ⟨0, 0, 0⟩

/-- Position, velocity and clock offset, relativistic term −2 r·v/c² included, of a satellite at a second of GPS time. -/
def satAt (v : SatId) (bits : List Bool) (t : Rat) : Vec3 × Vec3 × Rat :=
  let o := Config.orbit v bits t
  (o.1, o.2.1, o.2.2 - 2 * vDot o.1 o.2.1 / (lightSpeed * lightSpeed))

/-- What is predicted of a satellite at a position for reception at a second of estimated ST: the satellite at its transmit time, with the Earth's rotation during the
transit. -/
def predictView (s : State) (p : Position) (t : Rat) (v : SatId) : Option SatView :=
  (orbitData s v).map fun d =>
    let r := Config.ecefOf p.lat p.lon p.hgt
    let tau := vLen (vSub (satAt v d.1 t).1 r) / lightSpeed
    let o := satAt v d.1 (t - tau)
    let l := vSub (earthTurn tau o.1) r
    let range := vLen l
    let f := localFrame p
    let e := quot (vDot l f.1) range
    let n := quot (vDot l f.2.1) range
    let u := quot (vDot l f.2.2) range
    { sat := v, elev := 90 - Config.acosDeg u, az := Config.azDeg e n,
      dop := -(quot (vDot (vSub (earthTurn tau o.2.1) (predictVel s f)) l) range) / lightSpeed * l1Hz, range, clk := o.2.2, eph := d.2 }

/-- Bring the predictions up to date: one for each satellite that the store predicts, while a position is known. -/
def refreshViews (s : State) : State :=
  match predictPos s with
  | none => s
  | some p => { s with sol := { s.sol with view := s.msr.eph.filterMap fun e => predictView s p (stNow s + seedNow s) e.sat } }

/-- Receiver time of a constellation at t_e, in its week or day (06_measurements R134, Table 06-1), t_e as estimated ST before first alignment
(09_sky_time R221); none for GLONASS without a leap-second count. -/
def receiverTime (s : State) (k : Constellation) (t : Rat) : Option (Rat × Rat) :=
  let te := t + seedNow s
  match k with
  | .beidou => some (te - 14 - 604800 * ((te - 14) / 604800).floor, 604800)
  | .glonass => (s.msr.leap).map fun ls => let q := te - ls + 10800; (q - 86400 * (q / 86400).floor, 86400)
  | _ => some (te - 604800 * (te / 604800).floor, 604800)

/-- Transmit time of a satellite that the mapping and the prediction give for reception at ST t, in its constellation's time scale: its own clock's reading
(06_measurements R144, 05_tracking R113). -/
def predictedTx (s : State) (v : SatId) (t : Rat) : Option Rat :=
  match viewOf s v, receiverTime s v.const t with
  | some w, some (tr, _) => some (tr - w.range / lightSpeed + w.clk)
  | _, _ => none

/-- Segments older than a newer one's anchor that held at some instant since a tick: newest first. -/
def heldSince (tick : Nat) : MapSeg → List MapSeg → List MapSeg
  | _, [] => []
  | newer, g :: l => if newer.tick ≤ tick then [] else g :: heldSince tick g l

/-- The segments to keep when the present one is replaced: those of the last 128 s, longer than any snapshot waits and any delivery takes (08_snapshot_farm R200). -/
def pastSegs (s : State) : List MapSeg := s.sky.seg :: heldSince (s.sky.tick - 128 * 491520000) s.sky.seg s.sky.past

/-- Rate of the mapping at an ST: of the latest segment that begins at or before it, of the oldest one kept where none does. -/
def rateAt (s : State) (t : Rat) : Rat :=
  let l := s.sky.seg :: s.sky.past
  match l.find? fun g => decide (g.st ≤ t) with
  | some g => g.rate
  | none => (l.getLastD s.sky.seg).rate

/-- ST of an instant in ticks. -/
def stOfTick (s : State) (t : Rat) : Rat := s.sky.seg.st + (t - s.sky.seg.tick) * s.sky.seg.rate

end Sys2Proof.Machine
end

