-- ==== Sys2Proof/Machine/Windows.lean ====
section
/-!
DEFINITION. The windows of a polder, 0xC000–0xDFFF (13_ohmore_model R334–R336): which bytes a field covers, which bits a
program writes and reads back, their defaults, and the store that holds them.
-/

namespace Sys2Proof.Machine

/-- How a program reaches a field (00_scope R7): `w` stored and read back, `ro` the device's, `cmd` a command bit that reads 0,
`key` write-only, `w1c` write 1 to clear. -/
inductive Access where
  | w | ro | cmd | key | w1c
  deriving DecidableEq, Repr

/-- A field of a window: lowest byte address, lowest bit in that byte, width, access and default. -/
structure WinField where
  /-- Lowest byte address. -/
  addr : Nat
  /-- Lowest bit in that byte. -/
  bit : Nat
  /-- Width in bits. -/
  width : Nat
  /-- Access. -/
  acc : Access
  /-- Default. -/
  dflt : Nat
  deriving DecidableEq, Repr

/-- Link window (10_tag_link Table 10-16). -/
def linkFields : List WinField :=
  [⟨0xC000, 0, 64, .w, 0⟩, ⟨0xC008, 0, 14, .w, 0⟩, ⟨0xC009, 6, 2, .w, 2⟩, ⟨0xC00A, 0, 8, .w, 0⟩, ⟨0xC00B, 0, 8, .w, 0⟩,
   ⟨0xC00C, 0, 2, .cmd, 0⟩, ⟨0xC00D, 0, 3, .ro, 0⟩, ⟨0xC010, 0, 16, .w, 0⟩, ⟨0xC020, 0, 1536, .w, 0⟩,
   ⟨0xC100, 0, 6, .ro, 0⟩, ⟨0xC101, 0, 1, .cmd, 0⟩, ⟨0xC101, 1, 1, .w, 0⟩, ⟨0xC120, 0, 1792, .ro, 0⟩,
   ⟨0xC200, 0, 10, .w, 0⟩, ⟨0xC202, 0, 2, .key, 0⟩, ⟨0xC202, 2, 4, .w, 3⟩, ⟨0xC203, 0, 2, .cmd, 0⟩, ⟨0xC203, 2, 2, .ro, 0⟩,
   ⟨0xC204, 0, 32, .w, 0⟩, ⟨0xC210, 0, 128, .key, 0⟩, ⟨0xC220, 0, 64, .ro, 0⟩, ⟨0xC228, 0, 8, .ro, 0⟩, ⟨0xC22C, 0, 32, .ro, 0⟩]

/-- Crypto window (12_polders Table 12-4). -/
def cryptoFields : List WinField :=
  [⟨0xC400, 0, 4, .cmd, 0⟩, ⟨0xC400, 4, 2, .w, 0⟩, ⟨0xC401, 0, 3, .ro, 0⟩, ⟨0xC402, 0, 9, .w, 0⟩, ⟨0xC404, 0, 6, .w, 0⟩,
   ⟨0xC405, 0, 1, .w, 0⟩, ⟨0xC405, 1, 2, .w, 2⟩, ⟨0xC408, 0, 64, .ro, 0⟩, ⟨0xC410, 0, 128, .w, 0⟩, ⟨0xC420, 0, 256, .key, 0⟩,
   ⟨0xC440, 0, 256, .w, 0⟩, ⟨0xC460, 0, 128, .w, 0⟩, ⟨0xC500, 0, 2048, .w, 0⟩]

/-- Farm mailbox (08_snapshot_farm R213, Tables 08-6, 08-7). -/
def farmFields : List WinField :=
  [⟨0xC600, 0, 32, .ro, 0⟩, ⟨0xC604, 0, 1, .cmd, 0⟩, ⟨0xC604, 1, 2, .w, 0⟩, ⟨0xC605, 0, 24, .ro, 0⟩, ⟨0xC640, 0, 1536, .ro, 0⟩]

/-- Scheduler window (09_sky_time Table 09-6). -/
def schedFields : List WinField :=
  [⟨0xC700, 0, 64, .ro, 0⟩, ⟨0xC708, 0, 64, .w, 0⟩, ⟨0xC710, 0, 32, .w, 0⟩, ⟨0xC714, 0, 2, .cmd, 0⟩, ⟨0xC715, 0, 3, .ro, 0⟩,
   ⟨0xC718, 0, 17, .w, 0⟩, ⟨0xC71C, 0, 22, .ro, 0⟩, ⟨0xC71E, 6, 1, .w, 0⟩, ⟨0xC71E, 7, 1, .cmd, 0⟩, ⟨0xC720, 0, 128, .ro, 0⟩]

/-- Card port window (18_host_ports Table 18-7) (DESIGN CHOICE: log entry 97). -/
def cardFields : List WinField :=
  [⟨0xC800, 0, 2, .w, 0⟩, ⟨0xC800, 2, 1, .w, 1⟩, ⟨0xC800, 3, 2, .w, 0⟩, ⟨0xC801, 0, 3, .ro, 0⟩, ⟨0xC801, 3, 1, .w1c, 0⟩,
   ⟨0xC802, 0, 13, .w, 372⟩, ⟨0xC804, 0, 8, .w, 0⟩, ⟨0xC805, 0, 3, .w, 3⟩, ⟨0xC806, 0, 6, .ro, 0⟩, ⟨0xC808, 0, 32, .ro, 0⟩,
   ⟨0xC80C, 0, 1, .cmd, 0⟩, ⟨0xC810, 0, 8, .cmd, 0⟩, ⟨0xC811, 0, 5, .ro, 16⟩]

/-- Status window (13_ohmore_model Table 13-5). -/
def statusFields : List WinField :=
  [⟨0xCC00, 0, 1, .w1c, 0⟩, ⟨0xCC00, 1, 63, .ro, 0⟩, ⟨0xCC08, 0, 16, .w1c, 0⟩, ⟨0xCC10, 0, 64, .ro, 0⟩, ⟨0xCC20, 0, 256, .ro, 0⟩,
   ⟨0xCD00, 0, 6144, .ro, 0⟩]

/-- Sluice area `k` (12_polders Table 12-9). -/
def sluiceFields (k : Nat) : List WinField :=
  let b := 0xD000 + 0x80 * k
  [⟨b, 0, 512, .w, 0⟩, ⟨b + 0x40, 0, 2, .cmd, 0⟩, ⟨b + 0x40, 2, 1, .w, 0⟩, ⟨b + 0x41, 0, 3, .ro, 0⟩, ⟨b + 0x42, 0, 16, .ro, 0⟩,
   ⟨b + 0x48, 0, 64, .ro, 0⟩]

/-- Host-queue window (18_host_ports Table 18-3). -/
def hostFields : List WinField :=
  [⟨0xD400, 0, 3840, .w, 0⟩, ⟨0xD5E0, 0, 9, .w, 0⟩, ⟨0xD5E2, 0, 2, .w, 2⟩, ⟨0xD5E3, 0, 1, .cmd, 0⟩, ⟨0xD5E4, 0, 3, .ro, 0⟩,
   ⟨0xD5E5, 0, 7, .ro, 0⟩, ⟨0xD600, 0, 9, .ro, 0⟩, ⟨0xD602, 0, 2, .ro, 0⟩, ⟨0xD608, 0, 64, .ro, 0⟩, ⟨0xD610, 0, 3840, .ro, 0⟩,
   ⟨0xD7F0, 0, 5, .ro, 0⟩, ⟨0xD7F1, 0, 1, .cmd, 0⟩, ⟨0xD7F1, 1, 1, .w, 0⟩]

/-- The fields of the window in which an address lies (13_ohmore_model Table 13-4). -/
def winFields (a : Nat) : List WinField :=
  if a < 0xC400 then linkFields else if a < 0xC600 then cryptoFields else if a < 0xC700 then farmFields
  else if a < 0xC730 then schedFields else if a < 0xC800 then [] else if a < 0xC900 then cardFields
  else if a < 0xCC00 then [] else if a < 0xD000 then statusFields
  else if a < 0xD400 then sluiceFields ((a - 0xD000) / 0x80) else if a < 0xD800 then hostFields else []

/-- Bytes that a field spans. -/
def WinField.bytes (f : WinField) : Nat := (f.bit + f.width + 7) / 8

/-- The bits of byte `a` that a field occupies. -/
def WinField.maskAt (f : WinField) (a : Nat) : Nat :=
  if a < f.addr ∨ f.addr + f.bytes ≤ a then 0
  else (2 ^ f.width - 1) * 2 ^ f.bit / 256 ^ (a - f.addr) % 256

/-- The default bits of byte `a` in a field. -/
def WinField.dfltAt (f : WinField) (a : Nat) : Nat :=
  if a < f.addr ∨ f.addr + f.bytes ≤ a then 0 else f.dflt * 2 ^ f.bit / 256 ^ (a - f.addr) % 256

/-- A byte of 0xC000–0xDFFF that a window field covers; a reserved row is a field that reads 0 (00_scope R8, 13_ohmore_model R334). -/
def winCovered (a : Nat) : Bool := (winFields a).any fun f => decide (f.addr ≤ a) && decide (a < f.addr + f.bytes)

/-- The bits of a byte that the store holds. -/
def winStored (a : Nat) : Byte :=
  BitVec.ofNat 8 ((winFields a).foldl (fun m f => if f.acc = .w ∨ f.acc = .key then m + f.maskAt a else m) 0)

/-- The bits of a byte that read back what the store holds. -/
def winReadBack (a : Nat) : Byte :=
  BitVec.ofNat 8 ((winFields a).foldl (fun m f => if f.acc = .w then m + f.maskAt a else m) 0)

/-- The default of a window byte (13_ohmore_model R346). -/
def winDflt (a : Nat) : Byte :=
  BitVec.ofNat 8 ((winFields a).foldl (fun m f => if f.acc = .w then m + f.dfltAt a else m) 0)

/-- A stored window byte of a polder. -/
def winByte (s : State) (p : Polder) (a : Nat) : Byte := sget winDflt s.pld[p].win a

/-- A number of `n` bytes from a polder's stored window fields, low byte first. -/
def winNat (s : State) (p : Polder) (a n : Nat) : Nat := leNat (sread winDflt s.pld[p].win a n)

/-- The bytes of a polder's stored window field. -/
def winBytes (s : State) (p : Polder) (a n : Nat) : List Byte := sread winDflt s.pld[p].win a n

/-- A bit of a polder's stored window byte. -/
def winBit (s : State) (p : Polder) (a b : Nat) : Bool := (winByte s p a).getLsbD b

/-- Store bytes in a polder's window fields, unlisted bits 0 (13_ohmore_model R336: a write changes that byte alone). -/
def winPut (p : Polder) (a : Nat) (bytes : List Byte) (s : State) : State :=
  modP p (fun q => { q with win := swrite winDflt q.win a bytes }) s

/-- What a program's write leaves in a byte of the store: reserved and device bits as 0 (13_ohmore_model R336). -/
def winStore (p : Polder) (a : Nat) (v : Byte) (s : State) : State := winPut p a [v &&& winStored a] s

/-- A field list with values, read at one byte: (lowest byte address, lowest bit, width, value). -/
def roByte (a : Nat) (fs : List (Nat × Nat × Nat × Nat)) : Byte :=
  BitVec.ofNat 8 (fs.foldl (fun m f => let w : WinField := ⟨f.1, f.2.1, f.2.2.1, .ro, f.2.2.2 % 2 ^ f.2.2.1⟩; m + w.dfltAt a) 0)

end Sys2Proof.Machine
end

