-- ==== Sys2Proof/Machine/Sky.lean ====
section
/-!
DEFINITION. Sky time (09_sky_time): the mapping's anchors, the seed, the selector with its drift vote, time pulses, event capture
and the scheduler.
-/

namespace Sys2Proof.Machine

/-! ### Wakes (15_power R381) -/

/-- A wake that asks for HST, COM and CRY, and for CLK with PLLC alone while CLK is off (15_power R381, R383). -/
def wakeHost (s : State) : State :=
  { s with pmu := { s.pmu with woken := s.pmu.woken || !domOn s .hst || !domOn s .com || !domOn s .cry,
                               wokenClk := s.pmu.wokenClk || !domOn s .clk },
           hst := { s.hst with lastTraffic := s.sky.tick } }

/-! ### Completion records (09_sky_time R244) -/

/-- WAKE_EN of the scheduler window. -/
def schedWake (s : State) (p : Polder) : Bool := winBit s p 0xC71E 6

/-- Change a polder's scheduler window. -/
def modSched (p : Polder) (f : SchedWindow → SchedWindow) (s : State) : State :=
  { s with sky := { s.sky with win := s.sky.win.set p (f s.sky.win[p]) } }

/-- Leave a completion record: at 16 the oldest is displaced and counted. -/
def pushCompletion (p : Polder) (c : Completion) (s : State) : State :=
  let q := s.sky.win[p].done
  let full := 16 ≤ q.length
  let t := modSched p (fun w => { w with done := (if full then q.drop 1 else q) ++ [c] }) s
  let t := if full then bump cSkyComplSpill t else t
  if schedWake s p then raisePend p 12 t else t

/-- Free a polder's quota without report (09_sky_time R243). -/
def schedFree (p : Polder) (s : State) : State :=
  { s with sky := { s.sky with entries := s.sky.entries.filter fun e => e.owner != p.val } }

/-! ### Steps of the mapping (09_sky_time R222–R224) -/

/-- The starts of durations that the device counts in ST, moved with a step of the mapping by `d`, so that no step lengthens or shortens a duration that
runs (01_architecture R14, R21; DEDUCED, log entry 92): modes, solver, guard, pulses in progress. -/
def shiftElapsed (d : Rat) (s : State) : State :=
  let o := fun (q : Option Rat) => q.map (· + d)
  let r := fun (q : SolRec) => { q with t := q.t + d }
  { s with
    mode := { s.mode with
      decided := s.mode.decided.map fun x => (x.1, x.2.1, x.2.2 + d), unusableSince := o s.mode.unusableSince, usableSince := o s.mode.usableSince,
      surveyAt := s.mode.surveyAt + d, stillSince := o s.mode.stillSince },
    sol := { s.sol with
      std := s.sol.std.map r, prec := s.sol.prec.map r, stdF := s.sol.stdF.map fun m => { m with t := m.t + d },
      precF := s.sol.precF.map fun m => { m with t := m.t + d }, attF := s.sol.attF.map fun m => { m with t := m.t + d },
      verify := s.sol.verify.map fun x => (x.1, x.2 + d), levels := s.sol.levels.map fun l => l.map fun x => { x with t := x.t + d },
      att := { s.sol.att with t := s.sol.att.t + d }, attLast := s.sol.attLast.map fun x => (x.1 + d, x.2), holdSince := o s.sol.holdSince,
      time := s.sol.time.map fun x => (x.1 + d, x.2), excl := s.sol.excl.map fun x => (x.1, x.2 + d),
      lastPos := s.sol.lastPos.map fun x => (x.1, x.2.1 + d, x.2.2) },
    rfc := { s.rfc with
      lastQual := o s.rfc.lastQual, runFirst := o s.rfc.runFirst, groundRun := o s.rfc.groundRun, exitRun := o s.rfc.exitRun,
      motion := s.rfc.motion.map fun m => { m with st := m.st + d }, lastEnd := s.rfc.lastEnd.map fun x => (x.1, x.2 + d) },
    sky := { s.sky with tp := s.sky.tp.map fun q => { q with edge := o q.edge } } }

/-- The same for the link, the polders, the sluices and the host cycle: a launch or beacon in preparation is withdrawn, an acknowledgement moves
(09_sky_time R223; log entry 92). -/
def shiftLink (d : Rat) (s : State) : State :=
  let o := fun (q : Option Rat) => q.map (· + d)
  let e := fun (x : Emission) => { x with t0 := x.t0 + d }
  let ack := fun (x : Emission) => match x.kind with | .ack _ _ => true | _ => false
  let a := fun (x : PendingAck) => { x with last := x.last + d }
  { s with
    lnk := { s.lnk with
      ctx := s.lnk.ctx.map fun (k, c) => (k, { c with liveAt := o c.liveAt, queue := c.queue.map fun q => { q with lastChip := q.lastChip + d } }),
      rx := s.lnk.rx.map fun x => x.map fun r => { r with last := r.last + d }, ackDue := s.lnk.ackDue.map fun x => x.map a,
      prep := match s.lnk.prep with | some x => if ack x then some (e x) else none | none => none, air := s.lnk.air.map e },
    rfc := { s.rfc with req := s.rfc.req && (match s.lnk.prep with | some x => ack x || s.lnk.air.isSome | none => true) },
    pld := s.pld.map fun q => { q with
      restartTimes := q.restartTimes.map (· + d), keySt := q.keySt + d, sluice := q.sluice.map fun x => { x with transit := x.transit.map fun y => (y.1, y.2 + d) },
      crypto := { q.crypto with job := q.crypto.job.map fun j => { j with at_ := j.at_ + d, endAt := o j.endAt } } },
    boot := { s.boot with cfgSt := s.boot.cfgSt + d }, clk := { s.clk with lsynRxAt := s.clk.lsynRxAt + d },
    hst := { s.hst with cycleAt := s.hst.cycleAt + d } }

/-- The receiver clocks of a filter, states 9–14, moved by q seconds. -/
def clocksBy (q : Rat) (f : Filt) : Filt := { f with x := f.x.zipIdx.map fun v => if 9 ≤ v.2 ∧ v.2 ≤ 14 then v.1 + lightSpeed * q else v.1 }

/-- The receiver clock states move with the mapping, in every epoch after a step; no ambiguity is reset (07_solver R158, R190). -/
def shiftClocks (q : Rat) (s : State) : State :=
  let f := fun (m : FilterMem) => { m with pre := clocksBy q m.pre, post := clocksBy q m.post }
  { s with sol := { s.sol with stdF := s.sol.stdF.map f, precF := s.sol.precF.map f } }

/-- Time references re-expressed after the mapping stepped by `step`, of which `seed` was the seed already in their OFFSET. -/
def shiftRefs (step seed : Rat) (s0 : State) : State :=
  let s := shiftClocks (step - seed) (shiftLink step (shiftElapsed step s0))
  let f := fun (t : TimeRef) => { t with st := t.st + step, offset := t.offset + step - seed }
  let frac := step - roundAway step
  { s with sky := { s.sky with past := s.sky.past.map fun g => { g with st := g.st + step }, sol := s.sky.sol.map f, trustedSol := s.sky.trustedSol.map f,
                               extPhase := s.sky.extPhase.map fun a => (a.1 + frac, a.2 + step) } }

/-- Pending entries at a stepped anchor (09_sky_time R223): a polder wake at or before the anchor fires there, late; a link launch there
is withdrawn without report and its downlink is held by the link, counted in TX_HELD (10_tag_link R271); a pulse decided for an edge at or before it is withdrawn. -/
def stepEntries (s : State) : State :=
  let now := stNow s
  let due := fun (e : SchedEntry) => decide (stOfWord e.st ≤ now)
  let held := fun (owner handle : Nat) => s.sky.entries.any fun e => due e && e.kind == 0 && e.owner == owner && e.arg == handle
  let pols : List Polder := List.finRange 8
  let counted := pols.foldl (fun t p =>
    let n := (s.sky.entries.filter fun e => due e && e.kind == 0 && e.owner == p.val).length
    if n = 0 then t else ctrAdd (pLnkTxHeld p) n t) s
  let owner := fun (k : Nat) => (pols.find? fun p =>
    decide (cfgAt s lnkSlotsCtxFirst p.val ≤ k) && decide (k < cfgAt s lnkSlotsCtxFirst p.val + cfgAt s lnkSlotsCtxCount p.val))
  { counted with
    sky := { s.sky with
      entries := (s.sky.entries.filter fun e => !(due e && e.kind == 0)).map fun e => if due e && e.kind == 3 then { e with late := true } else e,
      tp := s.sky.tp.map fun q => { q with decided := match q.decided with | some (e, b) => if e ≤ now then none else some (e, b) | none => none } },
    lnk := { s.lnk with ctx := s.lnk.ctx.map fun (k, c) =>
      (k, { c with queue := c.queue.map fun d => match owner k with
        | some p => if d.wait == .armed && held p.val d.handle then { d with wait := .held } else d
        | none => d }) } }

/-- The single step of first alignment, at its anchor (09_sky_time R222). Estimated ST had SEED in it already, so the phase of a channel, which counts
from its lock, moves with the range by −OFFSET alone. -/
def firstAlignment (s : State) : State :=
  match s.sky.alignDecided with
  | none => s
  | some step =>
    if s.sky.tick < s.sky.anchorAt then s else
    let seed := match s.sky.seed with | some d => d.value | none => 0
    let s1 := { s with sky := { s.sky with seg := ⟨s.sky.tick, stNow s + step, s.sky.seg.rate⟩, past := pastSegs s, next := none } }
    let s2 := shiftRefs step seed s1
    let rate := tickSource s2 .gnss
    let s3 := { s2 with
      sky := { s2.sky with seg := { s2.sky.seg with rate := rate }, seed := none, alignDecided := none, alignedAt := some s2.sky.seg.st, source := .gnss, target := .gnss,
                           switching := false, gnssFresh := true, tickS := rate,
                           e := (match gnssRef s2 with | some t => t.offset | none => 0), r := 0 },
      mode := { s2.mode with aligned := true },
      acq := { s2.acq with lane := s2.acq.lane.map fun o => o.map fun r => if r.assist.isSome then { r with restart := true } else r },
      trk := { s2.trk with chan := s2.trk.chan.map fun x => (x.1, if x.2.st = .idle then x.2 else { x.2 with lockSt := x.2.lockSt + seed }) } }
    let s4 := ckdAnchor (rate * 491520000) (ckdStepStop (stepEntries s3))
    publishMode (recB 1 0x0901 (leBytes 8 (twos 64 (roundEven (step * 4294967296)))) (publishSky (clkRefresh s4)))

/-- FIRST_ALIGNMENT (09_sky_time R222). -/
def execFirstAlignment (s : State) : Result := .next (firstAlignment s)

/-- The permitted step at its anchor (09_sky_time R224): by −r against the source taken up. -/
def permittedStep (s : State) : State :=
  match s.sky.stepTo with
  | none => s
  | some x =>
    if s.sky.tick < s.sky.anchorAt then s else
    let step := -phaseAgainst s x
    let s1 := shiftRefs step 0 { s with sky := { s.sky with seg := ⟨s.sky.tick, stNow s + step, s.sky.seg.rate⟩, past := pastSegs s, next := none } }
    let rate := tickSource s1 x
    let s2 := { s1 with sky := { s1.sky with seg := { s1.sky.seg with rate := rate }, stepTo := none, source := x, target := x,
                                             switching := false, tickS := rate, e := 0, r := 0, clkStep := true } }
    recSky 0x0903 (clkRefresh (ckdAnchor (rate * 491520000) (ckdStepStop (stepEntries (bump cSkySteps s2)))))

/-- PERMITTED_STEP (09_sky_time R224). -/
def execPermittedStep (s : State) : Result := .next (permittedStep s)

/-! ### Steering (09_sky_time R228–R230) -/

/-- SLEW_MAX in s/s. -/
def slewMax (s : State) : Rat := (cfg s skyCfgSlewMax : Rat) / 1000000000

/-- e at the last whole second (09_sky_time R228): OFFSET for GNSS, the phase for EXT. -/
def errorNow (s : State) : Source → Rat
  | .gnss => match gnssRef s with | some t => t.offset | none => 0
  | .ext => extPhaseNow s
  | .free => 0

/-- The ordinary update at the half-second anchor (09_sky_time R228); it lapses where a step has made an anchor on this tick (R219). -/
def ordinaryUpdate (s : State) : State :=
  if s.sky.run ∧ s.mode.aligned ∧ s.sky.switching = false ∧ s.sky.source ≠ .free ∧ s.sky.seg.tick ≠ s.sky.tick then
    let e := errorNow s s.sky.source
    let slew := clampQ (-slewMax s) (slewMax s) (-e / cfg s skyCfgTau)
    let tickS := tickSource s s.sky.source
    let s1 := { s with sky := { s.sky with seg := ⟨s.sky.tick, stNow s, tickS * (1 + slew)⟩, past := pastSegs s, next := none, e := e, tickS := tickS } }
    publishSky (clkRefresh (ckdAnchor (tickS * 491520000 * (1 + slew)) s1))
  else s

/-- ORDINARY_UPDATE (09_sky_time R228). -/
def execOrdinaryUpdate (s : State) : Result := .next (ordinaryUpdate s)

/-- A source is available as a target. -/
def sourceAvail (s : State) : Source → Bool
  | .gnss => cmpAvail s .gnss | .ext => cmpAvail s .ext | .free => false

/-- The best available source (09_sky_time R228); while UNDECIDED is set the target stays as it is, as long as it is available (R232). -/
def wantedSource (s : State) : Source :=
  if s.sky.undecided ∧ sourceAvail s s.sky.target then s.sky.target else
  let g := cmpAvail s .gnss
  let x := cmpAvail s .ext
  if cfgB s skyCfgPrefer then (if x then .ext else if g then .gnss else .free)
  else (if g then .gnss else if x then .ext else .free)

/-- Sign of a rational. -/
def signQ (q : Rat) : Rat := if 0 < q then 1 else if q < 0 then -1 else 0

/-- Set the rate of the next 10 ms, from the 5 ms point on (09_sky_time R219, R229). -/
def slewToward (s : State) : State :=
  let tk := tickSource s s.sky.target
  let rate := tk * (1 - signQ s.sky.r * min (slewMax s) (absQ s.sky.r * 100))
  let anchor := s.sky.tick + ((1 / 200 : Rat) / s.sky.seg.rate).floor.toNat
  { s with sky := { s.sky with next := some ⟨anchor, stAt s anchor, rate⟩, tickS := tk } }

/-- Take up a new target at a boundary (09_sky_time R224, R229): a switch starts, or a permitted step is decided. -/
def takeUp (x : Source) (s : State) : State :=
  let s1 := { s with sky := { s.sky with target := x, switching := true, stepTo := none, r := phaseAgainst s x } }
  let s2 := recSky 0x0902 (bump cSkySwitches s1)
  if cfgB s skyCfgStepEn ∧ (cfg s skyCfgStepThr : Rat) / 1000000 < absQ s1.sky.r then
    { s2 with sky := { s2.sky with stepTo := some x, anchorAt := stepAnchor s2, tickS := tickSource s2 x } }
  else slewToward s2

/-- Change to FREE at a boundary, without a slew (09_sky_time R230). -/
def takeFreeRun (s : State) : State :=
  let u := match uncNs s with | some u => u | none => 0
  let rate := s.sky.tickS
  let s1 := { s with sky := { s.sky with seg := ⟨s.sky.tick, stNow s, rate⟩, past := pastSegs s, next := none, stepTo := none, source := .free, target := .free,
                                         switching := false, freeUnc := some (u, s.sky.tick), e := 0, r := 0 } }
  recSky 0x0905 (ckdCheck s1)

/-- Abandon the switch in progress (09_sky_time R229). -/
def abandonSwitch (s : State) : State :=
  if s.sky.switching then recSky 0x0904 (bump cSkySwitchAbandoned s) else s

/-- The 10 ms boundary (09_sky_time R229): target re-evaluated, the switch continued or ended. -/
def switchBoundary (s : State) : State :=
  if s.sky.run ∧ s.mode.aligned then
    let w := wantedSource s
    if w = s.sky.target then
      if s.sky.switching ∧ s.sky.stepTo = none then
        let r := phaseAgainst s w
        let s1 := { s with sky := { s.sky with r := r } }
        if absQ r ≤ (cfg s skyCfgSwDone : Rat) / 1000000000 then
          recSky 0x0903 (ckdCheck { s1 with sky := { s1.sky with source := w, switching := false, e := r } })
        else slewToward s1
      else s
    else if w = .free then takeFreeRun (abandonSwitch s)
    else ckdCheck (takeUp w (abandonSwitch s))
  else s

/-- SWITCH_BOUNDARY (09_sky_time R229). -/
def execSwitchBoundary (s : State) : Result := .next (switchBoundary s)

/-- TIME_TRUSTED as published: losing it makes GNSS unavailable until GNSS_RETURN has run (09_sky_time R226). -/
def setTrusted (v : Bool) (s : State) : State :=
  if v then
    { s with sky := { s.sky with trustedSince := (match s.sky.trustedSince with | some t => some t | none => some s.sky.tick) } }
  else { s with sky := { s.sky with trustedSince := none, gnssReturned := false, gnssFresh := false } }

/-- GNSS_RETURN (09_sky_time R226): TIME_TRUSTED has held for GNSS_RETURN s. -/
def execGnssReturn (s : State) : Result :=
  .next (match s.sky.trustedSince with
    | some t => if since s t (secTicks (cfg s skyCfgGnssReturn)) then publishSky { s with sky := { s.sky with gnssReturned := true } } else s
    | none => s)

/-- Ticks in 1.0001 s (09_sky_time R227). -/
def ppsMissTicks : Nat := 491569152

/-- EXT_PPS_EDGE (09_sky_time R227): captured tick and sub-tick bin, less EXT_DLY; the phase is against the nearest whole second. -/
def execExtPpsEdge (bin : Nat) (s : State) : Result :=
  if s.sky.run = false ∨ domOn s .time = false then .next s else
  let st := stNow s + ((bin % 8 : Nat) : Rat) / 8 * s.sky.seg.rate - (cfgI s skyCfgExtDly : Rat) / 10000000000
  let phase := st - roundAway st
  let broken := match s.sky.extLast with | some t => decide (t + ppsMissTicks < s.sky.tick) | none => true
  .next { s with sky := { s.sky with
    extLast := some s.sky.tick,
    extSince := if broken then some s.sky.tick else s.sky.extSince,
    extPhase := (if broken then [(phase, st)] else ((phase, st) :: s.sky.extPhase).take 11) } }

/-- EXT_PPS_MISSING (09_sky_time R227): more than 1.0001 s since the last edge; the 60 s count restarts. -/
def execExtPpsMissing (s : State) : Result :=
  .next (match s.sky.extLast with
    | some t => if t + ppsMissTicks < s.sky.tick then publishSky { s with sky := { s.sky with extLast := none, extSince := none, extPhase := [] } } else s
    | none => s)

/-! ### The drift vote (09_sky_time R231–R233) -/

/-- A comparator's estimate of the fractional frequency of KCLK. -/
def cmpEstimate (s : State) : Comparator → Rat
  | .gnss => ySource s .gnss
  | .ext => yExt s
  | .model => Config.modelEstimate s.sky.model

/-- Two comparators disagree in a window (09_sky_time R231): FREQ_TOL in ppb, PHASE_TOL in 10 ns for GNSS against EXT. -/
def disagree (s : State) (a b : Comparator) : Bool :=
  decide ((cfg s skyCfgFreqTol : Rat) / 1000000000 < absQ (cmpEstimate s a - cmpEstimate s b)) ||
    ((a != .model && b != .model && a != b) &&
      decide ((cfg s skyCfgPhaseTol : Rat) / 100000000 < absQ (phaseAgainst s .gnss - phaseAgainst s .ext)))

/-- The comparators. -/
def comparators : List Comparator := [.gnss, .ext, .model]

/-- The other two comparators. -/
def others (c : Comparator) : List Comparator := comparators.filter (· != c)

/-- A comparator is the outlier of this window: it disagrees with both others, and those two agree. -/
def isOutlier (s : State) (c : Comparator) : Bool :=
  match others c with
  | [a, b] => cmpAvail s a && cmpAvail s b && cmpAvail s c && disagree s c a && disagree s c b && !disagree s a b
  | _ => false

/-- A disqualified comparator agrees in this window with every other available one, of which there is one at least. -/
def agreesAll (s : State) (c : Comparator) : Bool :=
  let l := (others c).filter (cmpAvail s)
  cmpReady s c && !l.isEmpty && l.all fun a => !disagree s c a

/-- One value per comparator. -/
def perCmp {α : Type} (f : Comparator → α) : Vector α 3 := #v[f .gnss, f .ext, f .model]

/-- DRIFT_VOTE_WINDOW (09_sky_time R231–R233): the counts of this window; GNSS, while available, adds it to the frequency record of
the last 24 h. -/
def execDriftVoteWindow (s : State) : Result :=
  if s.sky.run = false then .next s else
  let avail := comparators.filter (cmpAvail s)
  let pair := match avail with | [a, b] => some (disagree s a b) | _ => none
  let model := if cmpAvail s .gnss then (s.sky.tick, ySource s .gnss) :: s.sky.model else s.sky.model
  .next { s with sky := { s.sky with
    outlier := perCmp fun c => if isOutlier s c then s.sky.outlier[cmpIdx c] + 1 else 0,
    agree := perCmp fun c => if s.sky.disq[cmpIdx c] && agreesAll s c then s.sky.agree[cmpIdx c] + 1 else 0,
    pairBad := if pair = some true then s.sky.pairBad + 1 else 0,
    pairGood := if pair = some false then s.sky.pairGood + 1 else 0,
    model := model.filter fun w => !since s w.1 (secTicks 86400) } }

/-- DISQUALIFICATION (09_sky_time R231): the outlier of 3 consecutive windows. -/
def execDisqualification (c : Comparator) (s : State) : Result :=
  .next (if 3 ≤ s.sky.outlier[cmpIdx c] ∧ s.sky.disq[cmpIdx c] = false then
    let s1 := { s with sky := { s.sky with disq := s.sky.disq.set (cmpIdx c) true, agree := s.sky.agree.set (cmpIdx c) 0 } }
    recSky 0x0906 (if c = .model then s1 else bump cSkyDisqualifications s1)
  else s)

/-- UNDECIDED (09_sky_time R232): set after 3 windows of disagreement of the only two comparators, cleared after 6 of agreement or
with a third comparator available. -/
def execUndecided (s : State) : Result :=
  .next (if s.sky.undecided then
    (if 6 ≤ s.sky.pairGood ∨ (comparators.filter (cmpAvail s)).length = 3 then
      recSky 0x0909 { s with sky := { s.sky with undecided := false } }
    else s)
  else if 3 ≤ s.sky.pairBad then recSky 0x0908 (bump cSkyUndecidedEpisodes { s with sky := { s.sky with undecided := true } })
  else s)

/-- REQUALIFICATION (09_sky_time R233): 6 consecutive windows of agreement. -/
def execRequalification (c : Comparator) (s : State) : Result :=
  .next (if 6 ≤ s.sky.agree[cmpIdx c] ∧ s.sky.disq[cmpIdx c] then
    recSky 0x0907 { s with sky := { s.sky with disq := s.sky.disq.set (cmpIdx c) false, outlier := s.sky.outlier.set (cmpIdx c) 0 } }
  else s)

/-! ### Time pulses (09_sky_time R235, R236) -/

/-- PERIOD in seconds (09_sky_time Table 09-12). -/
def tpPeriod (s : State) (n : Nat) : Rat :=
  match cfgAt s skyTpPeriod n with
  | 0 => 1 | 1 => 1 / 10 | 2 => 1 / 100 | 3 => 1 / 1000 | 4 => 2 | _ => 10

/-- TP_OFS less TP_DLY, in seconds. -/
def tpOffset (s : State) (n : Nat) : Rat :=
  (cfgIAt s skyTpTpOfs n : Rat) / 1000000000 - (cfgIAt s skyTpTpDly n : Rat) / 100000000000

/-- The active edge nearest to an ST. -/
def tpEdgeNear (s : State) (n : Nat) (q : Rat) : Rat := roundEven ((q - tpOffset s n) / tpPeriod s n) * tpPeriod s n + tpOffset s n

/-- GATE lets a pulse out (09_sky_time R236). -/
def tpGate (s : State) (n : Nat) : Bool :=
  match cfgAt s skyTpGate n with
  | 0 => true
  | 1 => s.mode.aligned
  | _ => s.sky.source != .free && !s.sky.switching &&
      (match uncNs s with | some u => decide (u ≤ 10 * (cfgAt s skyTpTpUnc n : Rat)) | none => false)

/-- WIDTH in seconds. -/
def tpWidth (s : State) (n : Nat) : Rat := (cfgAt s skyTpWidth n : Rat) / 100000

/-- The ball of an output stands high (09_sky_time R235, Table 09-12): the active level is that of POL. -/
def tpHigh (s : State) (n : Fin 2) : Bool := s.sky.tp[n].active != cfgBAt s skyTpPol n.val

/-- The output is driven: enabled, and the device is past boot and not in SAFE (09_sky_time Table 09-5). -/
def tpDriven (s : State) (n : Nat) : Bool := cfgBAt s skyTpEn n && s.mode.life == .run && s.sky.run

/-- Fine delay steps of an edge (09_sky_time R235): the fraction of its tick in 32nds, nearest of 32 steps. -/
def tpFine (s : State) (edge : Rat) : Nat :=
  let x := (edge - s.sky.seg.st) / s.sky.seg.rate
  min 31 (roundAway ((x - x.floor) * 32)).toNat

/-- Placement residual in ps (09_sky_time Table 09-2): the placed fine delay less the exact fraction. -/
def tpResidual (s : State) (edge : Rat) : Int :=
  let x := (edge - s.sky.seg.st) / s.sky.seg.rate
  roundAway (((tpFine s edge : Rat) / 32 - (x - x.floor)) * 1000000000000 / 491520000)

/-- Change a pulse output. -/
def modTp (n : Fin 2) (f : PulseState → PulseState) (s : State) : State :=
  { s with sky := { s.sky with tp := s.sky.tp.set n (f s.sky.tp[n]) } }

/-- TP_DECISION (09_sky_time R236): 100 ms before an active edge of a period of 1 s or more. -/
def execTpDecision (n : Fin 2) (s : State) : Result :=
  if tpDriven s n.val = false ∨ tpPeriod s n.val < 1 then .next s else
  let edge := tpEdgeNear s n.val (stNow s + 1 / 10)
  if (s.sky.tick : Int) < tickOf s (edge - 1 / 10) then .next s else
  let ok := tpGate s n.val
  let s1 := modTp n (fun q => { q with decided := some (edge, ok), on := ok }) s
  let s2 := bumpIf (!ok) cSkyTpGated s1
  .next (recB 2 0x090A (leBytes 16 (packFields
    [(0, 64, stWord edge), (64, 1, n.val), (65, 1, b2n !ok), (66, 2, srcCode s.sky.source), (68, 1, b2n s.mode.aligned),
     (69, 11, twos 11 (tpResidual s edge)), (80, 32, uncWord s)])) s2)

/-- TIME_PULSE_EDGE (09_sky_time R235): the active edge, decided ahead for periods of 1 s or more, gated at the edge for shorter ones. -/
def execTimePulseEdge (n : Fin 2) (s : State) : Result :=
  if tpDriven s n.val = false then .next s
  else if tpPeriod s n.val < 1 then
    let ok := tpGate s n.val
    let edge := tpEdgeNear s n.val (stNow s)
    .next (if (s.sky.tick : Int) < tickOf s edge then s else if ok then modTp n (fun q => { q with active := true, edge := some edge, fine := tpFine s edge, on := true }) s
      else bump cSkyTpGated (modTp n (fun q => { q with on := false }) s))
  else .next (match s.sky.tp[n].decided with
    | some (edge, true) => if (s.sky.tick : Int) < tickOf s edge then s else modTp n (fun q => { q with active := true, edge := some edge, fine := tpFine s edge, decided := none }) s
    | some (_, false) => modTp n (fun q => { q with decided := none }) s
    | none => s)

/-- The inactive edge of an output is due: WIDTH after its active one. -/
def tpEnds (s : State) (n : Fin 2) : Bool :=
  match s.sky.tp[n].edge with | some e => decide (tickOf s (e + tpWidth s n.val) ≤ s.sky.tick) | none => true

/-- TP_INACTIVE_EDGE (09_sky_time R235): WIDTH after the active edge; it fires even when the gate has closed. -/
def execTpInactiveEdge (n : Fin 2) (s : State) : Result :=
  .next (if s.sky.tp[n].active ∧ tpEnds s n then modTp n (fun q => { q with active := false, edge := none }) s else s)

/-! ### Event capture (09_sky_time R237) -/

/-- Change an event input. -/
def modEvt (n : Port) (f : EventState → EventState) (s : State) : State :=
  { s with sky := { s.sky with evt := s.sky.evt.set n (f s.sky.evt[n]) } }

/-- EVT_CAPTURE (09_sky_time R237): the pin's level follows the edge; a selected edge outside HOLDOFF is recorded, and wakes TIME,
COM and HST where they are down (15_power R381). -/
def execEvtCapture (pin : Port) (rising : Bool) (bin : Nat) (s : State) : Result :=
  let s0 := { s with mode := { s.mode with evtLevel := if rising then s.mode.evtLevel ||| BitVec.ofNat 4 (2 ^ pin.val)
                                                       else s.mode.evtLevel &&& ~~~ BitVec.ofNat 4 (2 ^ pin.val) } }
  let edge := cfgAt s skyEvtEdge pin.val
  let sel := (edge = 0 ∧ rising) ∨ (edge = 1 ∧ rising = false) ∨ edge = 2
  if cfgBAt s skyEvtEn pin.val ∧ sel ∧ s.mode.life = .run ∧ s.sky.run then
    let q := s.sky.evt[pin]
    let hold := match q.last with
      | some t => decide ((s.sky.tick : Rat) - t ≤ (cfgAt s skyEvtHoldoff pin.val : Rat) * 491520000 / 1000000)
      | none => false
    let down := !domOn s .time || !domOn s .com || !domOn s .hst
    let s1 := if down then bump cPmuWakesEvt (wakeHost s0) else s0
    if hold then
      .next (bump cSkyEvtHoldoff (modEvt pin (fun q => { q with held := min 255 (q.held + 1) }) s1))
    else
      let coarse := s.mode.mode == .layup
      let st := stNow s + (if coarse then 0 else ((bin % 8 : Nat) : Rat) / 8 * s.sky.seg.rate) - (cfgAt s skyEvtEvtDly pin.val : Rat) / 100000000000
      let s2 := modEvt pin (fun q => { last := some s.sky.tick, held := 0, seq := q.seq + 1 }) s1
      .next (recB 0 0x090B (leBytes 16 (packFields
        [(0, 64, stWord st), (64, 2, pin.val), (66, 1, b2n rising), (67, 1, b2n s.mode.aligned), (68, 2, srcCode s.sky.source),
         (70, 1, b2n coarse), (72, 32, uncWord s), (104, 8, q.held), (112, 16, q.seq.toNat)])) (bump cSkyEvtCaptures s2))
  else .next s0

/-! ### The scheduler (09_sky_time R238–R244) -/

/-- Entries of a polder. -/
def ownEntries (s : State) (p : Polder) : List SchedEntry := s.sky.entries.filter fun e => e.owner == p.val

/-- QUOTA of a polder. -/
def schedQuota (s : State) (p : Polder) : Nat := cfgAt s skySchedQuota p.val

/-- Lowest handle free among a polder's entries, searched from `k` for `fuel` indices. -/
def freeHandleFrom (l : List SchedEntry) : Nat → Nat → Nat
  | 0, k => k
  | n + 1, k => if l.any (fun e => e.handle == k) then freeHandleFrom l n (k + 1) else k

/-- Lowest free handle of a polder's quota (09_sky_time R243; log entry 14). -/
def freeHandle (s : State) (p : Polder) : Nat := let l := ownEntries s p; freeHandleFrom l l.length 0

/-- Arm an entry of a polder: none when its quota is full (09_sky_time R238). -/
def armEntry (p : Polder) (kind inst cls op arg : Nat) (st : Nat) (s : State) : Option (Nat × State) :=
  if schedQuota s p ≤ (ownEntries s p).length then none else
  let h := freeHandle s p
  let e : SchedEntry := ⟨st, inst, kind, cls, p.val, op, arg, h, s.sky.order, 0, false⟩
  some (h, { s with sky := { s.sky with entries := s.sky.entries ++ [e], order := s.sky.order + 1 } })

/-- RESULT of the scheduler window. -/
def setSchedResult (p : Polder) (v : Nat) (s : State) : State := modSched p (fun w => { w with result := v }) s

/-- CMD 1 (09_sky_time R243): PAST before FULL. -/
def schedArm (p : Polder) (s : State) : State :=
  let st := winNat s p 0xC708 8
  if stOfWord st < stNow s + 1 / 100000 then setSchedResult p 2 (bump cSkyArmPast s)
  else match armEntry p 3 p.val 2 0 (winNat s p 0xC710 4) st s with
    | none => setSchedResult p 1 (bump cSkyArmFull s)
    | some (h, t) => setSchedResult p 0 (winPut p 0xC718 (leBytes 3 h) t)

/-- CMD 2 (09_sky_time R243): a wake entry that is still pending and does not fall due in this tick is removed; otherwise there is no
such handle (Table 09-8). -/
def schedCancel (p : Polder) (s : State) : State :=
  let h := winNat s p 0xC718 3
  let f := fun (e : SchedEntry) => e.owner == p.val && e.kind == 3 && e.handle == h &&
    !(e.late || decide (tickOf s (stOfWord e.st) + e.delay ≤ s.sky.tick))
  if s.sky.entries.any f then setSchedResult p 0 { s with sky := { s.sky with entries := s.sky.entries.filter fun e => !f e } }
  else setSchedResult p 3 s

/-- POP of the scheduler window. -/
def schedPop (p : Polder) (s : State) : State := modSched p (fun w => { w with done := w.done.drop 1 }) s

/-- Latch NOW (09_sky_time Table 09-6). -/
def nowLatch (p : Polder) (s : State) : State := modSched p (fun w => { w with now := stWord (stNow s) }) s

/-- A wake entry is due at the present tick. -/
def entryDue (s : State) (e : SchedEntry) : Bool :=
  e.kind == 3 && (e.late || decide (tickOf s (stOfWord e.st) + e.delay ≤ s.sky.tick))

/-- An entry goes before another due on the same input (09_sky_time R242): the longer delayed first, then class, then arming order. -/
def goesBefore (a b : SchedEntry) : Bool :=
  decide (b.delay < a.delay) || (a.delay == b.delay && (decide (a.cls < b.cls) || (a.cls == b.cls && decide (a.order < b.order))))

/-- The first of a list under R242. -/
def firstEntry : List SchedEntry → Option SchedEntry
  | [] => none
  | e :: r => match firstEntry r with
    | none => some e
    | some f => if goesBefore f e then some f else some e

/-- The completion record of an entry (09_sky_time Table 09-7). -/
def completionOf (s : State) (e : SchedEntry) (suppressed : Bool) : Completion :=
  ⟨stWord (stNow s), e.arg, e.handle, e.kind, e.late, decide (0 < e.delay), suppressed, min 255 e.delay⟩

/-- Fire the wake entry of polder `p` that is due in this tick; every other due one goes a tick later (09_sky_time R241, R242). In LAYUP
the kind does not fire and the entry is reported suppressed (Table 09-5). -/
def fireWake (s : State) (p : Polder) : State :=
  match firstEntry ((ownEntries s p).filter (entryDue s)) with
  | none => s
  | some e =>
    let sup := s.mode.mode == .layup
    let rest := (s.sky.entries.filter fun x => !(x.owner == p.val && x.handle == e.handle)).map
      fun x => if x.owner == p.val && entryDue s x then { x with delay := x.delay + 1 } else x
    bumpIf (decide (0 < e.delay) && !sup) cSkyDelayedActions (pushCompletion p (completionOf s e sup) { s with sky := { s.sky with entries := rest } })

/-- SCHEDULER_FIRE (09_sky_time R241, R242): the entries due on the tick, one on each input. -/
def execSchedulerFire (s : State) : Result :=
  .next (if s.mode.life = .run ∧ s.sky.run then (List.finRange 8).foldl fireWake s else s)

end Sys2Proof.Machine
end

