-- ==== Sys2Proof/Machine/ModeCore.lean ====
section
/-!
DEFINITION. Resets of the device (15_power R372), the ranks and transitions of the operating modes (01_architecture R18–R23) and the
freeboard (15_power R389–R391): what other subsystems call.
-/

namespace Sys2Proof.Machine

/-! ### Resets -/

/-- Every domain but AON loses its state, as with RESET_N low (15_power R372). The OTP, the levels of the board's pins, the commands that
wait and the model's own counter of free values stand. -/
def deviceReset (s : State) : State :=
  { (State.reset) with
    aon := { s.aon with sense := [], faultCause := 0 },
    spt := { State.reset.spt with bhTx := s.spt.bhTx },
    boot := { State.reset.boot with otp := s.boot.otp },
    mode := { State.reset.mode with evtLevel := s.mode.evtLevel, rstLow := s.mode.rstLow },
    rfc := { State.reset.rfc with pin := s.rfc.pin, gnt := s.rfc.gnt, pri := s.rfc.pri },
    hst := { State.reset.hst with ctsHigh := s.hst.ctsHigh },
    fresh := s.fresh, pending := s.pending }

/-- Boot begins: the reference is counted, CLK and NVM are on (16_clocks R396, 15_power R374); the cause of a reset by a clock fault passes to
LAST_FAULT (16_clocks R410). -/
def startBoot (s : State) : State :=
  setDom .nvm .on (setDom .clk .on { s with
    mode := { s.mode with life := .boot }, clk := { s.clk with lastFault := s.aon.faultCause }, aon := { s.aon with faultCause := 0 } })

/-- A clock fault whose action is a reset (16_clocks R410): as RESET_N held low; the cause is stored and FAULT_RESETS counts in AON. -/
def clockFault (code : Nat) (s : State) : State :=
  let t := deviceReset s
  startBoot { t with aon := { t.aon with faultCause := code, faultResets := satInc t.aon.faultResets 1 } }

/-- The cutoff to Off (01_architecture R18 rank 2, R23): only AON lives. -/
def goOff (s : State) : State :=
  let t := deviceReset s
  { t with mode := { t.mode with life := .off } }

/-! ### Ranks and transitions -/

/-- Rank 4: the rule target is LAYUP. -/
def rank4 (s : State) : Bool := s.mode.target == .layup

/-- Rank 5: quiet transit or the QUIET pin. -/
def rank5 (s : State) : Bool := s.rfc.quiet || s.rfc.pin

/-- Where rank 8 leads (01_architecture Table 01-6). -/
def serviceMode (s : State) : Mode := if s.mode.target = .thin then .thin else .survey

/-- GNSS has been unusable for HOLD_ENTER s, with first alignment made: rank 6 (01_architecture R18). -/
def rank6Holds (s : State) : Bool :=
  s.mode.aligned && match s.mode.unusableSince with | some q => decide ((cfg s bootModesHoldEnter : Rat) ≤ stNow s - q) | none => false

/-- GNSS has been usable for HOLD_EXIT s: HOLDOVER is left (01_architecture Table 01-6). -/
def holdoverEnds (s : State) : Bool :=
  match s.mode.usableSince with | some q => decide ((cfg s bootModesHoldExit : Rat) ≤ stNow s - q) | none => false

/-- The transition that Table 01-6 gives from the mode in force under the ranks that hold, with its rank; none where the mode stays.
COLD is left for service only by the epochs of Table 01-6, and LAYUP only at the end of a fix. -/
def wantedMode (s : State) : Option (Mode × Nat) :=
  if s.mode.life ≠ .run ∨ s.mode.fallback then none
  else if s.mode.rank3 ∨ rank4 s then
    (if s.mode.mode = .layup then none else some (.layup, if s.mode.rank3 then 3 else 4))
  else if s.mode.mode = .layup then none
  else if rank5 s then (if s.mode.mode = .quiet then none else some (.quiet, 5))
  else if s.mode.mode = .quiet then
    (if s.mode.aligned = false then some (.cold, 7) else if rank6Holds s then some (.holdover, 6) else some (serviceMode s, 8))
  else if s.mode.mode = .cold then none
  else if s.mode.mode = .holdover then (if holdoverEnds s then some (serviceMode s, 8) else none)
  else if rank6Holds s then some (.holdover, 6)
  else match s.mode.mode with
    | .thin => if s.mode.target = .thin then none else some (.survey, 8)
    | _ => if s.mode.target = .thin then some (.thin, 8) else none

/-- Decide a transition: it takes effect at the next 2.5 ms slot boundary (01_architecture R23). -/
def decideTo (m : Mode) (rank : Nat) (s : State) : State :=
  { s with mode := { s.mode with decided := some (m, rank, stNow s) } }

/-- A decided transition stands though no source asks for another mode: an exit from SURVEY to FULL, from COLD to its service mode, or from LAYUP
after its last fix. -/
def keepsDecision (s : State) : Bool :=
  match s.mode.mode, s.mode.decided with
  | .survey, some (.full, _) => true
  | .cold, some (m, _) => m == .survey || m == .thin
  | .layup, some _ => !(s.mode.rank3 || rank4 s)
  | _, _ => false

/-- Apply the precedence of Table 01-4 (01_architecture R18): the highest source that holds decides. A transition decided before, for which no source
stands any more, is withdrawn. -/
def applyPrecedence (s : State) : State :=
  match wantedMode s with
  | some (m, rank) => decideTo m rank s
  | none => if keepsDecision s then s else { s with mode := { s.mode with decided := none } }

/-- The slot boundary at or before the ST as it stands (01_architecture R23). -/
def slotStartOf (q : Rat) : Rat := ((q * 400).floor : Rat) / 400

/-- The mode takes effect: BASIN.MODE in one update and one Class 1 record with it and its rank (01_architecture R15). SURVEY_EXIT takes its reason as
SURVEY is left for FULL. -/
def enterMode (m : Mode) (rank : Nat) (s : State) : State :=
  let at_ := slotStartOf (stNow s)
  let s1 := { s with mode := { s.mode with
    mode := m, decided := none, entryS := if s.mode.aligned then at_.floor.toNat % 2 ^ 32 else 0, entryAt := at_,
    surveyExit := if s.mode.mode = .survey ∧ m = .full then s.mode.exitWhy else s.mode.surveyExit,
    thinHold := m == .holdover && oneAntMode s,
    surveyAt := if m = .survey then at_ else s.mode.surveyAt,
    coldRun := 0, fixStart := none, fixOk := none } }
  let s2 := publishMode s1
  recB 1 0x0101 (leBytes 8 (modeWord s2) ++ leBytes 1 rank) s2

/-- GNSS is usable: the solver's time solution is valid and no spoofing alarm is active (01_architecture R18). Its runs are timed in ST. -/
def trackUsable (usable : Bool) (s : State) : State :=
  let now := stNow s
  { s with mode := { s.mode with
    usableSince := if usable then some (s.mode.usableSince.getD now) else none,
    unusableSince := if usable then none else some (s.mode.unusableSince.getD now) } }

/-! ### Freeboard (15_power R389–R391) -/

/-- A polder's credit admits a charge in µJ (15_power R391). -/
def creditOk (s : State) (p : Polder) (uj : Nat) : Bool := decide ((uj : Int) ≤ s.pmu.credit[p])

/-- Charge a polder in µJ (15_power R390). -/
def charge (p : Polder) (uj : Nat) (s : State) : State :=
  { s with pmu := { s.pmu with credit := s.pmu.credit.set p (s.pmu.credit[p] - uj), spent := s.pmu.spent.set p (s.pmu.spent[p] + uj) } }

/-- Transmit charge rate in mW (15_power Table 15-7): power after the clamp in 0.25 dBm. -/
def txRate (s : State) (q : Int) : Nat :=
  if cfgB s lnkCfgExtPa then 40 else if 40 ≤ q then 150 else if 0 ≤ q then 70 else 40

/-- Charge of an emission of a duration in s at a power, rounded up to 1 µJ (15_power R390). -/
def txCharge (s : State) (q : Int) (dur : Rat) : Nat := (ceilQ (txRate s q * dur * 1000)).toNat

/-- FREEBOARD_ACCRUAL (15_power R389): once for each ST millisecond boundary that mapped ST passes; capped at the budget over 10 s. -/
def execFreeboardAccrual (s : State) : Result :=
  if s.mode.life ≠ .run ∨ s.sky.run = false ∨ s.pmu.creditMs = some (stMs s) then .next s else
  let f := fun (v : Vector Int 8) (p : Polder) =>
    if s.pmu.accrues[p] && !isDry s p then
      let b : Int := (cfgAt s pmuCfgBudget p.val : Nat)
      v.set p (min (10000 * b) (v[p] + b))
    else v
  let s1 := { s with pmu := { s.pmu with credit := (List.finRange 8).foldl f s.pmu.credit, creditMs := some (stMs s) } }
  .next ((List.finRange 8).foldl (fun t p => bumpIf (decide (s1.pmu.credit[p] < 0)) (pPmuFbNegativeMs p) t) s1)

end Sys2Proof.Machine
end

