-- ==== Sys2Proof/Machine/Track.lean ====
section
/-!
DEFINITION. The tracking bank (05_tracking): shares, the update at the end of a dump, states, synchronisation, C/N0, array and beam channels and
migration.
-/

namespace Sys2Proof.Machine

/-! ### Sorting -/

/-- Insert by an order. -/
def insertBy {α : Type} (before : α → α → Bool) (x : α) : List α → List α
  | [] => [x]
  | y :: l => if before x y then x :: y :: l else y :: insertBy before x l

/-- Stable sort by an order. -/
def sortBy {α : Type} (before : α → α → Bool) (l : List α) : List α := l.foldl (fun acc x => insertBy before x acc) []

/-- Eigenvalues of a covariance, ascending (03_array R58). -/
def eigenAsc (r : List (List Cplx)) : List Rat := sortBy (fun a b => decide (a < b)) (Config.eigenvalues r)

/-! ### Channels and shares -/

/-- A channel. -/
def chanGet (s : State) (k : Nat) : Chan := sget (fun _ => ({} : Chan)) s.trk.chan k

/-- Write a channel. -/
def chanSet (k : Nat) (c : Chan) (s : State) : State :=
  { s with trk := { s.trk with chan := sset (fun _ => ({} : Chan)) s.trk.chan k c } }

/-- Change a channel. -/
def chanMod (k : Nat) (f : Chan → Chan) (s : State) : State := chanSet k (f (chanGet s k)) s

/-- A share of TRK.SHARE (05_tracking Table 05-8). -/
structure ShareRow where
  /-- First channel. -/
  first : Nat
  /-- Channels. -/
  count : Nat
  /-- Role. -/
  role : ChanRole
  /-- CONST mask. -/
  const : Nat
  /-- BAND mask. -/
  band : Nat

/-- Role of a ROLE code. -/
def roleOf (n : Nat) : ChanRole := if n = 0 then .nav else if n = 1 then .array else .beam

/-- The shares in force (05_tracking R130, Table 05-8). -/
def shareRows (s : State) : List ShareRow :=
  match blockOf s 8 0x0510 with
  | none => [⟨0, 384, .nav, 0x7F, 0xF⟩, ⟨384, 384, .nav, 0x7F, 0xF⟩, ⟨768, 640, .array, 0x7F, 0xF⟩, ⟨1408, 128, .beam, 0x7F, 0xF⟩]
  | some b => (List.range (b.words / 2)).map fun k =>
      ⟨cfgAt s trkShareFirst k, cfgAt s trkShareCount k, roleOf (cfgAt s trkShareRole k), cfgAt s trkShareConst k, cfgAt s trkShareBand k⟩

/-- The share that a channel belongs to (05_tracking R97). -/
def shareOf (s : State) (k : Nat) : Option ShareRow := (shareRows s).find? fun r => decide (r.first ≤ k) && decide (k < r.first + r.count)

/-- Role of a channel. -/
def chanRole (s : State) (k : Nat) : ChanRole := match shareOf s k with | some r => r.role | none => .nav

/-- A share serves a target in its role (05_tracking R119). -/
def ShareRow.covers (r : ShareRow) (role : ChanRole) (t : SearchTarget) : Bool :=
  r.role == role && r.const.testBit (constBit t.sat.const) && r.band.testBit (targetInfo t).band.val

/-- Only channels 0–47 run, and only for B1 and B5 (05_tracking R122). -/
def smallBank (s : State) : Bool := oneAntMode s

/-- The channel's bank is on (05_tracking R124). -/
def bankOn (s : State) (k : Nat) : Bool := domOn s (.trk ⟨k / 384 % 4, Nat.mod_lt _ (by decide)⟩)

/-- A channel that the shares and the mode let serve a target in a role. -/
def mayServe (s : State) (role : ChanRole) (t : SearchTarget) (k : Nat) : Bool :=
  (match shareOf s k with | some r => r.covers role t | none => false) && bankOn s k &&
    (!smallBank s || (role == .nav && decide (k < 48) && ((targetInfo t).band == 0 || (targetInfo t).band == 2))) &&
    (role != .beam || decide (1408 ≤ k))

/-- The channel is free: IDLE and not reserved. -/
def chanFree (s : State) (k : Nat) : Bool := let c := chanGet s k; c.st == .idle && c.reserved.isNone

/-- Lowest free channel of the shares of a role that covers a target. -/
def freeChan (s : State) (role : ChanRole) (t : SearchTarget) : Option Nat :=
  (List.range 1536).find? fun k => mayServe s role t k && chanFree s k

/-- A navigation channel (05_tracking R98). -/
def isNavChan (s : State) (k : Nat) : Bool := chanRole s k != .array

/-- The listed channels that are not IDLE. -/
def busyChans (s : State) : List (Nat × Chan) := s.trk.chan.filter fun x => x.2.st != .idle

/-- The navigation channel that holds a target; one that is taking over does not yet. -/
def navChanOf (s : State) (t : SearchTarget) : Option Nat :=
  ((busyChans s).find? fun x => isNavChan s x.1 && x.2.target == some t && x.2.takes.isNone).map (·.1)

/-- ARRAY channels of a target. -/
def arrayChans (s : State) (t : SearchTarget) : List (Nat × Chan) := (busyChans s).filter fun x => !isNavChan s x.1 && x.2.target == some t

/-- A NAV channel follows the combined stream (04_acquisition R78, 05_tracking Table 05-1). -/
def usesC (s : State) : Bool := cfg s acqCfgStream == 0 && decide (1 ≤ antRank s)

/-- Carrier and structure of a channel's signal. -/
def chanInfo (c : Chan) : SigInfo := match c.target with | some t => targetInfo t | none => sigInfo 0

/-- Carrier of a channel's signal in Hz. -/
def chanCarrier (c : Chan) : Rat := match c.target with | some t => carrierOf t | none => 1575420000

/-- Signal index of a channel. -/
def chanSig (c : Chan) : Nat := match c.target with | some t => t.sig | none => 0

/-- A task goes to the end of its class (04_acquisition R91). -/
def enqueueTask (t : AcqTask) (s : State) : State :=
  { s with acq := { s.acq with
    queue := (s.acq.queue.filter fun x => decide (x.cls ≤ t.cls)) ++ [t] ++ (s.acq.queue.filter fun x => decide (t.cls < x.cls)) } }

/-- Make a channel IDLE. A navigation channel's ARRAY channels go with it (05_tracking R121). -/
def releaseChan (k : Nat) (s : State) : State :=
  let c := chanGet s k
  let t := chanSet k {} (bumpIf (c.st == .lock) cTrkLockLosses s)
  match c.target with
  | none => t
  | some g =>
    if isNavChan s k ∧ c.takes.isNone ∧ (navChanOf t g).isNone then
      (arrayChans t g).foldl (fun u x => chanSet x.1 {} (bumpIf (x.2.st == .lock) cTrkLockLosses u)) t
    else t

/-- Enter LOST (05_tracking R104, R117). -/
def loseChan (k : Nat) (s : State) : State :=
  let c := chanGet s k
  let t := bump cTrkLost (bumpIf (c.st == .lock) cTrkLockLosses s)
  chanSet k { c with
    st := .lost, entered := s.sky.tick, weak := false, weakTo := none, coast := none, hollow := 0,
    lostView := match c.target with | some g => (viewOf s g.sat).map fun v => (v.dop, v.range) | none => none } t

/-! ### Weights and replica steps (05_tracking R109) -/

/-- Step a channel's replica by the change of arg(wᴴa), or mark the next latch. -/
def replicaStep (k : Nat) (old new : Option (List Cplx)) (s : State) : State :=
  let c := chanGet s k
  match c.target with
  | none => s
  | some g =>
    let b := (targetInfo g).band
    match stepAttitude s with
    | some att =>
      if weightsConv s b old && weightsConv s b new && (viewOf s g.sat).isSome then
        chanSet k { c with cycles := c.cycles + (weightArg s new g att - weightArg s old g att) } s
      else bump cTrkWeightUncorrected (chanSet k { c with wchg := true } s)
    | none => bump cTrkWeightUncorrected (chanSet k { c with wchg := true } s)

/-- Antennas whose samples reach a channel with a non-zero weight (05_tracking Table 05-1, R126). -/
def chanAnts (s : State) (k : Nat) (c : Chan) : List Port :=
  if chanRole s k = .array then [c.ant]
  else if chanRole s k = .nav ∧ c.combined = false then [refAnt s]
  else
    let w := weightList s (if c.beam then c.beamW else s.ary.band[(chanInfo c).band].weights)
    (List.finRange 4).filter fun a => w.getD a.val ⟨0, 0⟩ != ⟨0, 0⟩

/-- Beam weights Σ⁻¹a / (aᴴΣ⁻¹a) of a signal from the covariance that R58 averages (05_tracking R126), none while that has no millisecond yet. -/
def beamWeights (s : State) (g : SearchTarget) : Option (List Cplx) :=
  let x := s.ary.band[(targetInfo g).band]
  match x.cov, steering s g s.sol.att with
  | [], _ => none
  | _, none => none
  | _, some a =>
    let ants := activeAnts s
    let r := meanMatrix (x.cov.take (cfg s aryCfgNullAvg))
    let av := ants.map fun k => a.getD k.val ⟨0, 0⟩
    let v := cSolve (loaded r ((eigenAsc r).headD 0)) av
    let n := cDot av v
    some ((List.finRange 4).map fun k => match (ants.zip v).find? fun y => y.1 == k with | some y => cDiv y.2 n | none => ⟨0, 0⟩)

/-- The beam conditions of R125 hold for a channel. -/
def beamAllowed (s : State) (g : SearchTarget) : Bool :=
  decide (2 ≤ antRank s) && attValid s && (activeAnts s).all (fun a => calConv s a (targetInfo g).band) && !s.ary.spoof &&
    (match elevOf s g.sat with | some e => decide (10 ≤ e) | none => false)

/-! ### The dump (05_tracking R99–R116) -/

/-- A tap of a dump. -/
def tap (d : DumpData) (n : Nat) : Cplx := d.taps.getD n ⟨0, 0⟩

/-- EL, VEVL in 1/64 chip and MM of a signal (05_tracking Tables 05-3, 05-9). -/
def tapEl (s : State) (n : Nat) : Nat := if entryHeld s 0x0511 1 n then cfgAt s trkSigEl n else (sigInfo n).el
/-- VEVL. -/
def tapVevl (s : State) (n : Nat) : Nat := if entryHeld s 0x0511 1 n then cfgAt s trkSigVevl n else (sigInfo n).vevl
/-- MM. -/
def tapMm (s : State) (n : Nat) : Int := if entryHeld s 0x0511 1 n then cfgIAt s trkSigMm n else (sigInfo n).mm

/-- Ideal autocorrelation at MM by the modulation class, as a magnitude (05_tracking R103). -/
def idealRho (s : State) (n : Nat) : Rat :=
  let x : Rat := absQ (tapMm s n : Int) / 64
  if (sigInfo n).boc then (if x ≤ 1 / 2 then absQ (1 - 3 * x) else if x ≤ 1 then 1 - x else 0)
  else if x ≤ 1 then 1 - x else 0

/-- Synchronisation is still to be found, or, on a pilot, to be found again after a restart that cleared HALF_KNOWN (05_tracking R111–R114). -/
def syncOpen (c : Chan) : Bool := c.sync.isNone || ((chanInfo c).two && !c.halfKnown)

/-- The tracking component is a pilot with its secondary code synchronised (05_tracking R106). -/
def fourQuad (c : Chan) : Bool := (chanInfo c).two && !syncOpen c

/-- T in s (05_tracking Table 05-4): the primary code period until synchronisation, then T_S or T_W. -/
def dumpLen (c : Chan) : Rat :=
  let g := chanInfo c
  match c.st with
  | .pull => if c.coh = 0 then g.period else ((min c.coh 20 : Nat) : Rat) / 1000
  | .freq => (g.tW : Rat) / 1000
  | _ => if syncOpen c then g.period else ((if c.weak then g.tW else g.tS : Nat) : Rat) / 1000

/-- Code time that the running dump covers, in s: T, to the next boundary of a T interval of the code phase, on which dumps are aligned (05_tracking R105); the code
phase may lie half a code period to either side of its boundary. -/
def dumpCode (c : Chan) : Rat :=
  let t := dumpLen c
  if c.st = .pull ∨ (c.st = .freq ∧ c.sync = none) then t
  else t * (((c.tx + (chanInfo c).period / 2) / t).floor + 1) - c.tx

/-- Its length in s of the tick clock, at the code rate in force (05_tracking R106). -/
def dumpSpan (c : Chan) : Rat := if c.codeRate ≤ 0 then dumpLen c else dumpCode c * (chanInfo c).chipHz / c.codeRate

/-- The tick at which the running dump ends, with its fraction. -/
def dumpEnd (c : Chan) : Rat := c.last + dumpSpan c / nominalRate

/-- The dump that has ended passes: the NCOs ran over it at the rates that were in force (05_tracking R106, 06_measurements R133). -/
def runOn (c : Chan) : Chan :=
  { c with
    cycles := c.cycles + (chanCarrier c + c.fNco) * dumpSpan c, tx := c.tx + dumpCode c, last := dumpEnd c,
    dumpNo := c.dumpNo + (roundEven (dumpCode c / (chanInfo c).period)).toNat }

/-- Data and pilot are combined in this dump (05_tracking R110). -/
def combines (s : State) (c : Chan) : Bool :=
  let g := chanInfo c
  g.two && cfgBAt s trkSigCombine (chanSig c) && !syncOpen c &&
    (match c.cn0 with | some x => decide ((cfg s trkCfgCombineCn0 : Rat) ≤ x) | none => false) && decide ((dumpLen c * 1000 / g.symMs).den = 1)

/-- Carrier prompt of a dump (05_tracking R110). -/
def carrierPrompt (s : State) (c : Chan) (d : DumpData) : Cplx :=
  if combines s c then
    let g := Config.sqrt ((1 - (chanInfo c).share) / (chanInfo c).share)
    cSum (d.symbols.map fun x =>
      let sg : Rat := if (cMul x.2 (cConj x.1)).re < 0 then -1 else 1
      cAdd x.1 (cMul ⟨sg * g, 0⟩ x.2))
  else tap d 2

/-- Two-quadrant argument in cycles: atan(y/x). -/
def atanCycles (y x : Rat) : Rat := if x < 0 then Config.argCycles (-y) (-x) else Config.argCycles y x

/-- Bandwidth limited by B·T ≤ 0.2 (05_tracking R106). -/
def limitB (b t : Rat) : Rat := if 2 / 10 < b * t then (2 / 10) / t else b

/-- FLL, PLL and DLL bandwidths in Hz of the state and settings (05_tracking Table 05-10). -/
def bandwidths (s : State) (c : Chan) : Rat × Rat × Rat :=
  let f (x : Fld) (k : Rat) : Rat := (cfg s x : Rat) / k
  match c.st with
  | .pull => (f trkLoopPullFll 10, 0, f trkLoopPullDll 100)
  | .track => (f trkLoopTrackFll 10, f trkLoopTrackPll 10, f trkLoopTrackDll 100)
  | .lock => if c.weak then (0, f trkLoopWeakPll 10, f trkLoopWeakDll 100) else (0, f trkLoopLockPll 10, f trkLoopLockDll 100)
  | .freq => (f trkLoopFreqFll 10, 0, f trkLoopWeakDll 100)
  | _ => (0, 0, 0)

/-- f_aid in Hz (05_tracking R107): the carrier as received at the predicted Doppler, in hertz of the tick clock by the mapping's rate and the solver's clock drift, less
the nominal carrier. -/
def aidFor (s : State) (c : Chan) : Rat :=
  match c.target with
  | none => 0
  | some g =>
    if cfgB s trkCfgAidEn && ((c.st == .lock && c.weak) || c.st == .freq) && velValid s && gnssUsable s && ephUsable s g.sat &&
        (match pubRec s with | some r => decide (r.sol.vel95 ≤ 500) | none => false) then
      match viewOf s g.sat with
      | some v =>
        let f := chanCarrier c
        let drift : Rat := match s.sol.time with | some x => (x.2.1.drift : Rat) / 1000000000000 | none => 0
        (f + v.dop * f / l1Hz) * (1 - drift) * (s.sky.seg.rate / nominalRate) - f
      | none => 0
    else 0

/-- KD of a tap separation in chips (05_tracking R106). -/
def kd (boc : Bool) (x : Rat) : Rat := if boc then (2 - 3 * x) / 6 else (2 - x) / 2

/-- What the loop update at the end of a dump of t seconds yields: the channel, |ef| in Hz and |ec| in chips. -/
def loopUpdate (s : State) (c0 : Chan) (p : Cplx) (d : DumpData) (t : Rat) : Chan × Rat × Rat :=
  let aid := aidFor s c0
  let c := { c0 with fAid := aid, vel := c0.vel - Config.twoPi * (aid - c0.fAid) }
  let g := chanInfo c
  let (bf0, bp0, bd0) := bandwidths s c
  let q4 := fourQuad c
  let arg (y x : Rat) : Rat := if q4 then Config.argCycles y x else atanCycles y x
  let ep := Config.twoPi * arg p.im p.re
  let pr := c.prev.getD p
  let ef := Config.twoPi * quot (arg (pr.re * p.im - pr.im * p.re) (pr.re * p.re + pr.im * p.im)) t
  let w0f := limitB bf0 t / (53 / 100)
  let w0p := limitB bp0 t / (7845 / 10000)
  let acc := c.acc + t * (w0p * w0p * w0p * ep + w0f * w0f * ef)
  let vel := c.vel + t * (acc + 11 / 10 * (w0p * w0p) * ep + 1414 / 1000 * w0f * ef)
  let fNco := aid + (vel + 24 / 10 * w0p * ep) / Config.twoPi
  let pull := c.st == .pull
  let n := chanSig c
  let e := cAbs (tap d (if pull then 0 else 1))
  let l := cAbs (tap d (if pull then 4 else 3))
  let sep : Rat := ((if pull then tapVevl s n else tapEl s n : Nat) : Rat) / 64
  let ec := kd (g.boc && !pull) sep * quot (e - l) (e + l)
  let rate := (g.chipHz : Rat) * (1 + fNco / chanCarrier c) + 4 * limitB bd0 t * ec
  ({ c with acc, vel, fNco, codeRate := rate, prev := some p }, absQ (ef / Config.twoPi), absQ ec)

/-- Lock time restarts at the end of a dump: phase, level, N0 and the half cycle start afresh, and a pilot is to be synchronised again (05_tracking R104, R114,
06_measurements R135–R138). -/
def restartLock (s : State) (c : Chan) : Chan :=
  { c with
    lockTick := some c.last.floor.toNat, lockSt := stOfTick s c.last, cycles := 0, n0 := none, half := none, halfAdj := false, halfKnown := false,
    restarted := true, level := if c.sync.isSome then 2 else 1, dks := [], won := none, clPrev := none, clMags := [] }

/-- Sign changes counted per candidate boundary (05_tracking R111). -/
def signCount (l : List (Nat × Bool)) (m j : Nat) : Nat := (l.filter fun x => x.2 && x.1 % m == j).length

/-- The candidate with the most changes, with its count and the runner-up's. -/
def bestCandidate (l : List (Nat × Bool)) (m : Nat) : Nat × Nat × Nat :=
  let best := (List.range m).foldl (fun b j => if signCount l m b < signCount l m j then j else b) 0
  let run := ((List.range m).filter (· != best)).foldl (fun x j => max x (signCount l m j)) 0
  (best, signCount l m best, run)

/-- Histogram synchronisation (05_tracking R111): the boundary it accepts. -/
def histogramSync (c : Chan) : Option Nat :=
  let g := chanInfo c
  if g.cand = 0 ∨ syncOpen c = false then none else
  let (b, n, r) := bestCandidate c.signs g.cand
  if 5 ≤ n ∧ 2 * r ≤ n then
    if chanSig c = 12 ∨ chanSig c = 13 then
      some (if signCount c.signs 20 b < signCount c.signs 20 (b + 10) then b + 10 else b)
    else some b
  else none

/-- Time is known well enough to compute a rotation (05_tracking R113). -/
def timeKnown (s : State) : Bool := s.mode.aligned && (match uncNs s with | some u => decide (u ≤ 2500000) | none => false)

/-- Periods of the primary code in the level 2 period, which is that of the symbol, the secondary code, the overlay or the CL code (05_tracking Table 05-5). -/
def levelPeriods (c : Chan) : Nat := (roundEven (((chanInfo c).level2 : Rat) / 1000 / (chanInfo c).period)).toNat

/-- A synchronisation is accepted (05_tracking R111–R114): the rotation is the number, modulo the level 2 period, of the primary code periods at which that period begins.
The code phase is known within it from then on. -/
def synchronise (rot : Nat) (c : Chan) : Chan :=
  let g := chanInfo c
  let l2c := chanSig c == 2 || chanSig c == 17
  let n := levelPeriods c
  let p := g.period
  { c with
    sync := some rot, level := max c.level 2, halfKnown := g.two, conflict := false, signs := [], dks := [], won := none, clPrev := none, clMags := [],
    tx := if c.level < 2 then (((c.dumpNo + (n - rot % n)) % n : Nat) : Rat) * p + (c.tx - p * (roundEven (c.tx / p) : Int)) else c.tx,
    prev := if g.two then none else c.prev,
    cnWin := if l2c then (0, 0, 0, 0, 0) else c.cnWin, cnFrom := if l2c then c.last else c.cnFrom }

/-- A chip of the secondary or overlay code as a sign. -/
def chipSign (t : SearchTarget) (i : Nat) : Rat := if Config.secondaryChip t.sig t.sat.sv i then -1 else 1

/-- Score of a rotation over values d_k, newest first and the newest of code period k0, and the sum of the magnitudes that count: with c_k·c_{k−1}; on a data-only signal
without the d_k that spans the rotation's symbol boundary (05_tracking R112). -/
def rotationScore (t : SearchTarget) (n k0 : Nat) (dataOnly : Bool) (ds : List Rat) (rot : Nat) : Rat × Rat :=
  ds.zipIdx.foldl (fun (a : Rat × Rat) x =>
    let k := k0 + n * (x.2 / n + 1) - x.2
    let i := (k + (n - rot % n)) % n
    if dataOnly ∧ i = 0 then a
    else (a.1 + x.1 * chipSign t i * chipSign t ((i + n - 1) % n), a.2 + absQ x.1)) (0, 0)

/-- The rotation with the largest score, its score and magnitudes, and the runner-up's score. -/
def bestRotation (t : SearchTarget) (n k0 : Nat) (dataOnly : Bool) (ds : List Rat) : Nat × (Rat × Rat) × Rat :=
  let f := rotationScore t n k0 dataOnly ds
  (List.range (n - 1)).foldl (fun (b : Nat × (Rat × Rat) × Rat) j =>
    let v := f (j + 1)
    if b.2.1.1 < v.1 then (j + 1, v, b.2.1.1) else (b.1, b.2.1, max b.2.2 v.1)) (0, f 0, 0)

/-- A score reaches 0.6 of the sum of the magnitudes (05_tracking R112). -/
def scoreOk (x : Rat × Rat) : Bool := decide (6 / 10 * x.2 ≤ x.1)

/-- The rotation that ST gives at the end of a dump (05_tracking R113), none while time is not known or the satellite is not predicted. -/
def timedRotation (s : State) (c : Chan) : Option Nat :=
  match c.target with
  | none => none
  | some g =>
    if timeKnown s then
      (predictedTx s g.sat (stOfTick s c.last)).map fun tx =>
        let p := (chanInfo c).period
        let n := levelPeriods c
        let i := roundEven ((tx - (c.tx - p * (roundEven (c.tx / p) : Int))) / p)
        (((c.dumpNo : Int) - i) % (n : Int)).toNat
    else none

/-- Secondary-code synchronisation over full periods: a rotation that wins two in a row at a sufficient score (05_tracking R112). -/
def secondaryStep (g : SearchTarget) (c : Chan) : Chan :=
  let n := levelPeriods c
  if c.dks.length < n then c else
  let b := bestRotation g n (c.dumpNo - 1) (!(chanInfo c).two) c.dks
  if scoreOk b.2.1 = false then { c with dks := [], won := none }
  else if c.won = some b.1 then synchronise b.1 c
  else { c with dks := [], won := some b.1 }

/-- Overlay synchronisation: the rotation that ST gives after 50 values that match, else a pass of 200 values over all rotations (05_tracking R113). -/
def overlayStep (s : State) (g : SearchTarget) (c : Chan) : Chan :=
  let n := levelPeriods c
  match timedRotation s c with
  | some r =>
    if c.dks.length < 50 then c
    else if scoreOk (rotationScore g n (c.dumpNo - 1) false (c.dks.take 50) r) then synchronise r c else { c with dks := [] }
  | none =>
    if c.dks.length < 200 then c else
    let b := bestRotation g n (c.dumpNo - 1) false (c.dks.take 200)
    if scoreOk b.2.1 ∧ 15 / 10 * b.2.2 ≤ b.2.1.1 then synchronise b.1 c else { c with dks := [] }

/-- CL synchronisation of L2C (05_tracking R113): with time, tap 5 runs at the rotation that ST gives and 50 products of successive values match; without, it tests the 75
candidates in turn over two code periods each. -/
def clStep (s : State) (d : DumpData) (c : Chan) : Chan :=
  let v := tap d 5
  match timedRotation s c, c.clPrev with
  | some _, none => { c with clPrev := some v, dks := [], clMags := [] }
  | some r, some q =>
    let l := (cMul v (cConj q)).re :: c.dks
    let sum := l.foldl (fun (a : Rat × Rat) x => (a.1 + x, a.2 + absQ x)) (0, 0)
    if l.length < 50 then { c with clPrev := some v, dks := l }
    else if scoreOk sum then synchronise r c else { c with clPrev := some v, dks := [] }
  | none, none => { c with clPrev := some v, dks := [] }
  | none, some q =>
    let l := cAbs (cAdd q v) :: c.clMags
    if l.length < 75 then { c with clPrev := none, clMags := l, dks := [] } else
    let best := l.foldl max 0
    let j := l.reverse.idxOf best
    let runner := ((l.reverse.zipIdx.filter fun x => x.2 != j).map (·.1)).foldl max 0
    if 2 * runner ≤ best then synchronise j c else { c with clPrev := none, clMags := [], dks := [] }

/-- Synchronisation at the end of a full dump of one primary code period; `q` is the prompt of the dump before it, where that was such a dump too. -/
def syncStep (s : State) (d : DumpData) (q : Option Cplx) (c : Chan) : Chan :=
  if (c.st ≠ .track ∧ c.st ≠ .lock) ∨ syncOpen c = false then c else
  match c.target with
  | none => c
  | some g =>
    let n := chanSig c
    if (chanInfo c).cand ≠ 0 then (match histogramSync c with | some b => synchronise b c | none => c)
    else if n = 2 ∨ n = 17 then clStep s d c
    else
      let c' := { c with dks := match q with | some x => (cMul (tap d 2) (cConj x)).re :: c.dks | none => [] }
      if n = 1 ∨ n = 9 ∨ n = 16 then overlayStep s g c' else secondaryStep g c'

/-- PLI over a full window (05_tracking R116). -/
def pliOf (s : State) (c : Chan) : Option Rat := if cfg s trkCfgPliN ≤ c.pliWin.length then some (meanQ c.pliWin) else none

/-- A recorded gain step of an antenna that the channel uses lies between two instants (05_tracking R115, 02_sample_ports R44). -/
def gainStepIn (s : State) (k : Nat) (c : Chan) (a b : Rat) : Bool :=
  (chanAnts s k c).any fun x => match bandLane s x (chanInfo c).band with
    | some (p, l) => (match (laneAt s p l).stepAt with | some t => decide (a < t) && decide ((t : Rat) < b) | none => false)
    | none => false

/-- One dump of nominal length t that began at `from_` into the C/N0 window (05_tracking R115): a change of T restarts it, a gain step leaves the dump out. -/
def cnStep (s : State) (k : Nat) (d : DumpData) (from_ t : Rat) (c : Chan) : Chan :=
  if c.st = .pull then c else
  let same := decide (c.dumpT = t)
  let w : Nat × Rat × Rat × Rat × Rat := if same then c.cnWin else (0, 0, 0, 0, 0)
  let w' := if gainStepIn s k c from_ c.last then w
    else (w.1 + 1, w.2.1 + cNorm (tap d 2), w.2.2.1 + cNorm (tap d 6), w.2.2.2.1 + cAbs (tap d 2), w.2.2.2.2 + cAbs (tap d 7))
  { c with cnWin := w', cnFrom := if same then c.cnFrom else from_, dumpT := t }

/-- The side-peak watch of a BOC(1,1) channel (05_tracking R102): the shift it calls for, in chips. -/
def bumpShift (s : State) (c : Chan) : Option Rat :=
  if (chanInfo c).boc = false ∨ c.st = .pull ∨ c.bumpWin.length < cfg s trkCfgBumpN then none else
  let ve := meanQ (c.bumpWin.map (·.1))
  let p := meanQ (c.bumpWin.map (·.2.1))
  let vl := meanQ (c.bumpWin.map (·.2.2))
  let half : Rat := (tapVevl s (chanSig c) : Rat) / 128
  if p < ve ∨ p < vl then some (if vl ≤ ve then half else -half) else none

/-- The beam channel reaches LOCK: it takes the lock time of the NAV channel, which is released (05_tracking R127). -/
def completeTakeover (k : Nat) (s : State) : State :=
  let c := chanGet s k
  match c.takes with
  | none => s
  | some n =>
    let v := chanGet s n.val
    let w := chanSet k { c with
      takes := none, lockTick := v.lockTick, lockSt := v.lockSt, n0 := v.n0, half := v.half, level := max c.level v.level,
      restarted := v.restarted, conflict := v.conflict, entered := s.sky.tick, halfKnown := v.halfKnown, halfAdj := v.halfAdj,
      cycles := match c.target, stepAttitude s with
        | some g, some att => v.cycles - weightArg s s.ary.band[(targetInfo g).band].weights g att
        | _, _ => v.cycles } s
    bump cTrkBeamTakeovers (chanSet n.val {} (bumpIf (v.st == .lock) cTrkLockLosses w))

/-- Change the state of a channel at a dump boundary. -/
def toState (x : ChanState) (k : Nat) (s : State) : State :=
  let c := chanGet s k
  let t := bumpIf (c.st == .lock) cTrkLockLosses s
  let c' := { c with st := x, entered := s.sky.tick, weak := false, weakTo := none }
  match x with
  | .track => chanSet k (if c.st = .pull then { c' with
      bumpWin := [], cnWin := (0, 0, 0, 0, 0), cnFrom := c.last, level := max c.level 1, dumpNo := 0, signs := [], dks := [], won := none } else { c' with bumpWin := [] }) t
  | .lock => completeTakeover k (chanSet k (restartLock s c') t)
  | _ => chanSet k c' t

/-- An entry of the code-error record is a second old at the end of the last dump. -/
def ecOld (c : Chan) (x : Nat × Rat) : Bool := decide (((x.1 + secTicks 1 : Nat) : Rat) ≤ c.last)

/-- A full second of code errors has a mean above half a chip (05_tracking R104). -/
def codeLost (c : Chan) : Bool := c.ecWin.any (ecOld c) && decide (1 / 2 < meanQ ((c.ecWin.filter fun x => !ecOld c x).map (·.2)))

/-- The transitions of R104 that a full dump decides. -/
def dumpTransition (k : Nat) (s : State) : State :=
  let c := chanGet s k
  match c.st with
  | .pull =>
    if c.pullWin.length = 20 ∧ meanQ (c.pullWin.map (·.1)) ≤ 10 ∧ meanQ (c.pullWin.map (·.2)) ≤ 1 / 10 then toState .track k s else s
  | .idle => s
  | .lost => s
  | st =>
    if codeLost c then loseChan k s else
    match pliOf s c with
    | none => s
    | some x =>
      if st = .track ∧ (cfg s trkCfgPliOn : Rat) / 100 ≤ x then toState .lock k s
      else if st = .lock ∧ x < (cfg s trkCfgPliOff : Rat) / 100 then
        (match c.cn0 with
        | some v => if v < cfg s trkCfgWeakCn0 then toState .freq k s else toState .track k s
        | none => toState .track k s)
      else s

/-- Soft symbols of a dump (05_tracking R100): the data prompt projected on the carrier phase, ±127 for four times the noise standard deviation. -/
def softSymbols (c : Chan) (d : DumpData) : List Int :=
  let n : Rat := (d.symbols.length : Rat)
  let sigma := Config.sqrt (quot (cNorm (tap d 6)) (2 * n))
  d.symbols.map fun x =>
    let v := if (chanInfo c).two then quot (cMul x.2 (cConj x.1)).re (cAbs x.1) else x.1.re
    clampI (-127) 127 (roundAway (quot (127 * v) (4 * sigma)))

/-- A switch of the settings that waits takes effect at a boundary of a T_W interval (05_tracking R105). -/
def weakStep (c : Chan) : Chan :=
  let w : Rat := ((chanInfo c).tW : Rat) / 1000
  match c.weakTo with
  | some b => if decide (c.st = .lock) && !syncOpen c && decide (absQ (c.tx - w * (roundEven (c.tx / w) : Int)) < (chanInfo c).period / 2) then
      { c with weak := b, weakTo := none } else c
  | none => c

/-- A full dump (05_tracking R106, R108). -/
def fullDump (k : Nat) (d : DumpData) (s : State) : State :=
  let c := chanGet s k
  let t := dumpLen c
  let span := dumpSpan c
  let p := carrierPrompt s c d
  let diff := wrapCycles (cArg p - (match c.prev with | some q => cArg q | none => cArg p))
  let off := if fourQuad c then diff else wrapCycles (2 * diff) / 2
  let slip := (decide (2 ≤ c.hollow) || c.recheck) && c.prev.isSome && decide (1 / 8 < absQ off)
  let (c1, ef, ec) := loopUpdate s c p d span
  let c1 := { runOn c with acc := c1.acc, vel := c1.vel, fAid := c1.fAid, fNco := c1.fNco, codeRate := c1.codeRate, prev := c1.prev }
  let primary := decide (c.hollow = 0) && !c.recheck && decide (t = (chanInfo c).period) && decide (c.dumpT = t) && (c.st == .track || c.st == .lock)
  let before := if primary then c.prev else none
  let window := (roundEven (100 * (((chanInfo c).symMs : Rat) / 1000) / (chanInfo c).period)).toNat
  let pliTerm := quot (p.re * p.re - p.im * p.im) (p.re * p.re + p.im * p.im)
  let c2 := { c1 with
    hollow := 0, coast := none, recheck := false,
    pullWin := if c.st = .pull then ((ef, ec) :: c.pullWin).take 20 else [],
    ecWin := (c1.last.floor.toNat, ec) :: (c.ecWin.filter (fun x => !ecOld c1 x) ++ (c.ecWin.filter (ecOld c1)).take 1),
    pliWin := (pliTerm :: c.pliWin).take (cfg s trkCfgPliN),
    bumpWin := ((cAbs (tap d 0), cAbs (tap d 2), cAbs (tap d 4)) :: c.bumpWin).take (cfg s trkCfgBumpN),
    signs := match syncOpen c, before with
      | true, some q => ((c.dumpNo, decide ((cMul (tap d 2) (cConj q)).re < 0)) :: c.signs).filter fun x => decide (c.dumpNo < x.1 + window)
      | _, _ => c.signs,
    soft := ((softSymbols c d).reverse ++ c.soft).take (1000 / (chanInfo c).symMs) }
  let c3 := cnStep s k d c.last t c2
  let shift := bumpShift s c3
  let c4 := match shift with
    | some x => { c3 with tx := c3.tx + x / (chanInfo c).chipHz, bumpWin := [] }
    | none => c3
  let c5 := if slip ∨ shift.isSome then restartLock s c4 else c4
  let c6 := weakStep (if t = (chanInfo c).period then syncStep s d before c5 else c5)
  dumpTransition k (bumpIf slip cTrkSlips (bumpIf shift.isSome cTrkBumpJumps (chanSet k c6 s)))

/-- A hollow dump (05_tracking R99): the channel coasts at its last rates. -/
def hollowDump (k : Nat) (s : State) : State :=
  let c := chanGet s k
  bump cTrkHollowDumps (chanSet k { runOn c with
    hollow := c.hollow + 1, coast := some (c.coast.getD c.last.floor.toNat), dks := [], won := none, clPrev := none } s)

/-- The channel runs dumps. -/
def chanRuns (s : State) (k : Nat) : Bool := let c := chanGet s k; bankOn s k && c.st != .idle && c.st != .lost

/-- TRACK_DUMP (05_tracking R99–R116): the running dump of a channel has ended. One without samples is hollow. -/
def execTrackDump (ch : TrkChan) (d : DumpData) (s : State) : Result :=
  if chanRuns s ch.val = false ∨ (s.sky.tick : Rat) < dumpEnd (chanGet s ch.val) then .next s
  else .next (if d.samples < 2 * d.flagged ∨ d.samples = 0 then hollowDump ch.val s else fullDump ch.val d s)

/-- A state in which R104 lets a channel be lost. -/
def canLose (c : Chan) : Bool := c.st == .track || c.st == .lock || c.st == .freq

/-- COAST_EXPIRY (05_tracking R99). -/
def execCoastExpiry (ch : TrkChan) (s : State) : Result :=
  match (chanGet s ch.val).coast with
  | some t => .next (if chanRuns s ch.val ∧ canLose (chanGet s ch.val) ∧ t + msTicks (10 * cfg s trkCfgCoast) < s.sky.tick then loseChan ch.val s else s)
  | none => .next s

/-- PULL_FAIL (05_tracking R104): the task returns to the end of its class. -/
def execPullFail (ch : TrkChan) (s : State) : Result :=
  let c := chanGet s ch.val
  if c.st ≠ .pull ∨ since s c.entered (secTicks 2) = false then .next s else
  let t := releaseChan ch.val (bump cTrkPullFail s)
  .next (match c.task with | some x => enqueueTask x t | none => t)

/-- LOSS_T_EXPIRY (05_tracking R104). -/
def execLossTExpiry (ch : TrkChan) (s : State) : Result :=
  let c := chanGet s ch.val
  match c.lossSince with
  | some t => .next (if canLose c ∧ since s t (secTicks (cfg s trkCfgLossT)) then loseChan ch.val s else s)
  | none => .next s

/-- REACQ_EXPIRY (05_tracking R104, Table 05-6): REACQ_S has elapsed, or the satellite is predicted below ELEV_DROP. -/
def execReacqExpiry (ch : TrkChan) (s : State) : Result :=
  let c := chanGet s ch.val
  let low : Bool := match c.target with
    | some g => (match elevOf s g.sat with | some e => decide (e < (cfgI s trkCfgElevDrop : Rat)) | none => false)
    | none => false
  .next (if c.st = .lost ∧ (since s c.entered (secTicks (cfg s acqCfgReacqS)) ∨ low) then releaseChan ch.val s else s)

/-- WEAK_SWITCH (05_tracking R105): the switch is called for, and takes effect at the next T_W boundary. -/
def execWeakSwitch (ch : TrkChan) (s : State) : Result :=
  let c := chanGet s ch.val
  if c.st ≠ .lock ∨ syncOpen c ∨ cfgBAt s trkSigWeakEn (chanSig c) = false then .next s else
  let held (o : Option Nat) : Bool := match o with | some t => since s t (secTicks 2) | none => false
  if c.weak = false ∧ held c.weakSince then .next (chanSet ch.val { c with weakTo := some true } s)
  else if c.weak ∧ held c.strongSince then .next (chanSet ch.val { c with weakTo := some false } s)
  else .next s

/-- FREQ_RECOVERY (05_tracking R104). -/
def execFreqRecovery (ch : TrkChan) (s : State) : Result :=
  let c := chanGet s ch.val
  match c.strongSince with
  | some t => .next (if c.st = .freq ∧ since s t (secTicks 2) then toState .track ch.val s else s)
  | none => .next s

/-- Length of the C/N0 window in s (05_tracking R115). -/
def cnLength (c : Chan) : Rat := if c.weak ∨ c.st = .freq then 4 else 1

/-- Start or keep a timer. -/
def timer (s : State) (b : Bool) (o : Option Nat) : Option Nat := if b then some (o.getD s.sky.tick) else none

/-- CN0_UPDATE (05_tracking R103, R115). -/
def execCn0Update (ch : TrkChan) (s : State) : Result :=
  let c := chanGet s ch.val
  let n : Rat := (c.cnWin.1 : Rat)
  if canLose c = false ∨ c.cnWin.1 = 0 ∨ c.last < c.cnFrom + cnLength c / nominalRate then .next s else
  let p2 := c.cnWin.2.1 / n
  let n2 := c.cnWin.2.2.1 / n
  let lin := quot (p2 - n2) (n2 * c.dumpT) / (chanInfo c).share
  let cn0 : Rat := if p2 ≤ n2 then 0 else 10 * Config.log10 lin
  let off := tapMm s (chanSig c) == 0
  let delta := if off then 0 else quot c.cnWin.2.2.2.2 c.cnWin.2.2.2.1 - idealRho s (chanSig c)
  let mp := !off && decide ((cfg s trkCfgMpThr : Rat) / 100 < absQ delta) && decide (35 ≤ cn0)
  let weakAt : Rat := (cfg s trkCfgWeakCn0 : Rat)
  let c' := { c with
    cn0 := some cn0, delta, mp, cnWin := (0, 0, 0, 0, 0), cnFrom := c.last,
    weakSince := timer s (decide (cn0 < weakAt)) c.weakSince,
    strongSince := timer s (decide (weakAt + (cfg s trkCfgWeakHyst : Rat) ≤ cn0)) c.strongSince,
    lossSince := timer s (decide (cn0 < (cfg s trkCfgLossCn0 : Rat))) c.lossSince }
  .next (bumpIf (mp && !c.mp) cTrkMpFlags (chanSet ch.val c' s))

/-! ### Array channels (05_tracking R121) -/

/-- Order of the bands in R121. -/
def bandOrder (b : Band) : Nat := match b with | 0 => 0 | 1 => 2 | 2 => 1 | 3 => 3

/-- A navigation channel qualifies for array channels. -/
def spawns (s : State) (k : Nat) (c : Chan) : Bool :=
  isNavChan s k && c.st == .lock && c.takes.isNone && decide (1 ≤ antRank s) && !smallBank s &&
    (match c.cn0 with | some x => decide ((cfg s trkCfgArrayCn0 : Rat) ≤ x) | none => false)

/-- Antennas that a signal still lacks, the reference first (05_tracking R121). -/
def lacking (s : State) (g : SearchTarget) : List Port :=
  let have_ := arrayChans s g
  let l := activeAnts s
  ((l.filter (· == refAnt s)) ++ (l.filter (· != refAnt s))).filter fun a => !have_.any fun x => x.2.ant == a

/-- A signal is served before another (05_tracking R121). -/
def servedBefore (s : State) (a b : SearchTarget) : Bool :=
  let ba := bandOrder (targetInfo a).band
  let bb := bandOrder (targetInfo b).band
  let ea := (elevOf s a.sat).getD (-90)
  let eb := (elevOf s b.sat).getD (-90)
  decide (ba < bb) || (decide (ba = bb) && decide (eb < ea))

/-- Spawn the ARRAY channel of an antenna from a navigation channel: code phase and frequency are copied, and with a valid attitude the code is
shifted by the predicted geometric delay. -/
def spawnOne (c : Chan) (g : SearchTarget) (s : State) (a : Port) : State :=
  match freeChan s .array g with
  | none => s
  | some k =>
    let shift : Rat := if attValid s then
        (match viewOf s g.sat with
        | some v => vDot (antVec s a) (toBody s.sol.att (enuOf v.az v.elev)) / 1000 / lightSpeed
        | none => 0)
      else 0
    bump cTrkArraySpawns (chanSet k { c with
      st := .track, reserved := none, ant := a, combined := false, entered := s.sky.tick, bumpWin := [], weak := false, weakTo := none, tx := c.tx + shift, wchg := false, beam := false, beamOk := none, takes := none, task := none } s)

/-- ARRAY_SPAWN (05_tracking R121): the signal is served when no signal that goes before it still lacks a channel it could have. -/
def execArraySpawn (ch : TrkChan) (s : State) : Result :=
  let c := chanGet s ch.val
  match c.target with
  | none => .next s
  | some g =>
    let waits := fun (x : Nat × Chan) => match x.2.target with
      | some h => spawns s x.1 x.2 && servedBefore s h g && !(lacking s h).isEmpty && (freeChan s .array h).isSome
      | none => false
    if spawns s ch.val c = false ∨ (busyChans s).any waits then .next s
    else .next ((lacking s g).foldl (spawnOne c g) s)

/-! ### Beam channels (05_tracking R125–R127) -/

/-- A NAV channel is a candidate for a beam channel. -/
def beamCandidate (s : State) (k : Nat) (c : Chan) : Bool :=
  chanRole s k == .nav && c.combined && c.st == .lock && !smallBank s &&
    (match c.cn0 with | some x => decide (x < (cfg s trkCfgBeamCn0 : Rat)) | none => false) &&
    (match c.target with
     | some g => beamAllowed s g && !(s.trk.beamHold.any fun h => h.1 == g && decide (s.sky.tick < h.2)) && (freeChan s .beam g).isSome &&
        !((busyChans s).any fun x => chanRole s x.1 == .beam && x.2.target == some g)
     | none => false)

/-- BEAM_TAKEOVER (05_tracking R127): the candidate with the lowest C/N0 is served first. -/
def execBeamTakeover (ch : TrkChan) (s : State) : Result :=
  let c := chanGet s ch.val
  let lower := fun (x : Nat × Chan) => beamCandidate s x.1 x.2 && decide (x.2.cn0.getD 0 < c.cn0.getD 0)
  match c.target with
  | none => .next s
  | some g =>
    if beamCandidate s ch.val c = false ∨ (busyChans s).any lower then .next s else
    match freeChan s .beam g with
    | none => .next s
    | some k =>
      let step := match stepAttitude s with | some att => weightArg s s.ary.band[(targetInfo g).band].weights g att | none => 0
      .next (chanSet k { c with
        st := .track, reserved := none, combined := false, entered := s.sky.tick, bumpWin := [], weak := false, weakTo := none,
        cycles := c.cycles - step, beam := true, beamOk := some s.sky.tick, beamW := beamWeights s g, takes := some ch, takeAt := s.sky.tick, task := none } s)

/-- Release a beam channel whose takeover is not complete; the NAV channel keeps the signal. -/
def dropTakeover (k : Nat) (s : State) : State := chanSet k {} s

/-- BEAM_TIMEOUT (05_tracking R127). -/
def execBeamTimeout (ch : TrkChan) (s : State) : Result :=
  let c := chanGet s ch.val
  match c.takes, c.target with
  | some _, some g =>
    if since s c.takeAt (secTicks 2) then
      let t := dropTakeover ch.val s
      .next { t with trk := { t.trk with
        beamHold := (g, s.sky.tick + secTicks 60) :: t.trk.beamHold.filter (fun h => h.1 != g && decide (s.sky.tick < h.2)) } }
    else .next s
  | _, _ => .next s

/-- BEAM_RETURN (05_tracking R125). -/
def execBeamReturn (ch : TrkChan) (s : State) : Result :=
  let c := chanGet s ch.val
  match c.beamOk, c.target with
  | some t, some g =>
    if chanRole s ch.val = .beam ∧ c.st ≠ .idle ∧ c.beam = false ∧ beamAllowed s g ∧ since s t (secTicks 10) then
      let w := beamWeights s g
      .next (replicaStep ch.val s.ary.band[(targetInfo g).band].weights w (chanMod ch.val (fun x => { x with beam := true, beamW := w }) s))
    else .next s
  | _, _ => .next s

/-- A beam channel of a band at a stream millisecond (05_tracking R125, R126, Table 05-6): the weights that were due act, the next ones are formed for the instant `at_`,
and a channel whose conditions fail falls back to the combined stream's weights, or is released while it takes over. -/
def beamCheck (b : Band) (at_ : Int) (t : State) (x : Nat × Chan) : State :=
  match x.2.target with
  | none => t
  | some g =>
    if (targetInfo g).band ≠ b then t
    else if beamAllowed t g then
      chanMod x.1 (fun c => { c with
        beamOk := some (c.beamOk.getD t.sky.tick),
        beamW := match c.beamNext with | some (i, w) => if i ≤ t.sky.tick then some w else c.beamW | none => c.beamW,
        beamNext := if c.beam then (beamWeights t g).map fun w => (at_, w) else none }) t
    else if x.2.takes.isSome then dropTakeover x.1 t
    else
      let u := chanMod x.1 (fun c => { c with beamOk := none, beam := false, beamW := none, beamNext := none }) t
      if x.2.beam then bump cTrkBeamFallbacks (replicaStep x.1 x.2.beamW t.ary.band[b].weights u) else u

/-- Every beam channel of a band. -/
def beamChecks (b : Band) (at_ : Int) (s : State) : State := ((busyChans s).filter fun x => chanRole s x.1 == .beam).foldl (beamCheck b at_) s

/-! ### Migration (05_tracking R122, R123) -/

/-- The navigation channels that may stay, in the order of R122. -/
def migrationOrder (s : State) : List (Nat × Chan) :=
  let l := (busyChans s).filter fun x => isNavChan s x.1 && x.2.takes.isNone && ((chanInfo x.2).band == 0 || (chanInfo x.2).band == 2)
  let sat (x : Nat × Chan) : Option SatId := x.2.target.map (·.sat)
  let el (x : Nat × Chan) : Rat := match sat x with | some v => (elevOf s v).getD (-90) | none => -90
  let l := sortBy (fun a b => decide ((chanInfo a.2).band < (chanInfo b.2).band)) l
  let first := l.filter fun x => (l.find? fun y => sat y == sat x).map (·.1) == some x.1
  let rest := l.filter fun x => !first.any fun y => y.1 == x.1
  sortBy (fun a b => decide (el b < el a)) first ++ sortBy (fun a b => decide (el b < el a)) rest

/-- One channel of the order finds its place among channels 0–47. -/
def placeOne (s : State) (taken : List (Nat × Nat)) (x : Nat × Chan) : List (Nat × Nat) :=
  let fits (k : Nat) : Bool := !taken.any (fun y => y.2 == k) &&
    (match shareOf s k, x.2.target with | some r, some g => r.covers .nav g | _, _ => false)
  if x.1 < 48 ∧ fits x.1 then taken ++ [(x.1, x.1)]
  else match ((List.range 48).filter (chanFree s) ++ (List.range 48).filter (fun k => (chanGet s k).st == .idle) ++ List.range 48).find? fits with
    | some k => taken ++ [(x.1, k)]
    | none => taken

/-- The bank shrinks to channels 0–47: navigation channels migrate there in the order of R122, everything else goes to IDLE, and reservations among 0–47 stay where they leave room. -/
def shrinkBank (s : State) : State :=
  let places := (migrationOrder s).foldl (placeOne s) []
  let kept := places.filterMap fun y => let c := chanGet s y.1; some (y, c)
  let lost := (busyChans s).filter fun x => !places.any fun y => y.1 == x.1
  let t := lost.foldl (fun u x => bumpIf (x.2.st == .lock) cTrkLockLosses u) s
  let t := { t with trk := { t.trk with chan := t.trk.chan.filter fun x => decide (x.1 < 48) && x.2.st == .idle && !places.any fun y => y.2 == x.1 } }
  kept.foldl (fun u x =>
    let src := match x.2.target with
      | some g => if x.2.beam then x.2.beamW else if x.2.combined ∨ chanRole s x.1.1 = .beam then s.ary.band[(targetInfo g).band].weights else none
      | none => none
    let c := { x.2 with combined := false, beam := false, beamOk := none, beamW := none, beamNext := none }
    let u1 := chanSet x.1.2 c u
    let u2 := if src.isSome then replicaStep x.1.2 src none u1 else u1
    bumpIf (x.1.1 != x.1.2) cTrkMigrations u2) t

end Sys2Proof.Machine
end

