-- ==== Sys2Proof/Machine/Array.lean ====
section
/-!
DEFINITION. The array front (03_array): covariance and nulling, the quiet reference and jamming levels, calibration, angles of arrival, the spoofing decision
and reduced antenna sets.
-/

namespace Sys2Proof.Machine

/-! ### Status (03_array R75) -/

/-- One bit for each antenna that a test picks. -/
def antBits (f : Port → Bool) : Nat := ((List.finRange 4).map fun a => if f a then 2 ^ a.val else 0).sum

/-- SPOOF_STATE (03_array Table 03-7). -/
def spoofState (s : State) : Nat := if s.ary.spoof then 1 else if s.ary.outcome = 2 then 2 else 0

/-- ARY.STATUS (03_array Table 03-7). -/
def aryStatus (s : State) : Nat :=
  packFields [(0, 4, s.ary.antSet.toNat), (4, 2, antRank s), (6, 2, spoofState s), (8, 1, b2n s.ary.jam), (9, 1, b2n s.ary.reduced),
    (10, 1, b2n s.ary.attUsed), (16, 8, s.ary.aoaSats), (24, 8, s.ary.suspects)]

/-- ARY.BAND of a band (03_array Table 03-8). -/
def aryBand (s : State) (b : Band) : Nat :=
  let x := s.ary.band[b]
  packFields [(0, 3, x.k), (3, 2, x.level), (5, 8, (clampI 0 255 (roundAway (2 * x.rise))).toNat), (13, 1, b2n x.weights.isSome),
    (14, 4, antBits fun a => calConv s a b)]

/-- Publish both structures. -/
def publishAry (s : State) : State :=
  basinPut 0xE088 ((List.finRange 4).flatMap fun b => leBytes 4 (aryBand s b)) (basinPut 0xE084 (leBytes 4 (aryStatus s)) s)

/-- Change a band. -/
def modBand (b : Band) (f : BandState → BandState) (s : State) : State :=
  { s with ary := { s.ary with band := s.ary.band.set b (f s.ary.band[b]) } }

/-- Levels of the four bands, one byte each. -/
def levelBytes (s : State) : List Byte := (List.finRange 4).flatMap fun b => leBytes 1 s.ary.band[b].level

/-! ### Nulling (03_array R56–R60) -/

/-- An antenna's calibrated delay lies outside the span of the filter, ±4 samples (03_array R56). -/
def delayOut (s : State) (a : Port) (b : Band) : Bool :=
  a != refAnt s && (match antPort s a with
    | some p => decide (4 * (samplePeriod s p : Rat) * 1000 / (49152 / 100) < absQ (calAt s a b).tau)
    | none => false)

/-- Weights of R58 from the mean covariance over the active antennas, none for e_ref (DESIGN CHOICE: log entry 105). -/
def nullWeights (s : State) (b : Band) (r : List (List Cplx)) (lamMin : Rat) (k : Nat) : Option (List Cplx) :=
  let ants := activeAnts s
  if (cfg s aryCfgNullEn).testBit b.val = false ∨ k = 0 then none else
  let e := ants.map fun a => if a = refAnt s then (⟨1, 0⟩ : Cplx) else ⟨0, 0⟩
  let v := cSolve (loaded r lamMin) e
  let vr := cSum (List.zipWith cMul v e)
  some ((List.finRange 4).map fun a =>
    if delayOut s a b then ⟨0, 0⟩
    else match (ants.zip v).find? fun x => x.1 == a with
      | some x => cDiv x.2 vr
      | none => ⟨0, 0⟩)

/-- Raw level of an evaluated millisecond (03_array Table 03-1) (DESIGN CHOICE: log entry 106). -/
def rawLevel (s : State) (b : Band) (rise : Rat) (k : Nat) : Nat :=
  let x := s.ary.band[b]
  if x.q.isSome ∧ (cfg s aryCfgResDeny : Rat) / 2 ≤ rise then 3
  else if (x.q.isSome ∧ (cfg s aryCfgResRise : Rat) / 2 ≤ rise) ∨ x.marker ∨ (1 ≤ k ∧ (cfg s aryCfgNullEn).testBit b.val = false) then 2
  else if 1 ≤ k then 1 else 0

/-- The port of the reference antenna: stream milliseconds of the array are those of its samples. -/
def refPort (s : State) : Port := (antPort s (refAnt s)).getD 0

/-- First sampling instant of the next stream millisecond (03_array R58, 02_sample_ports R44). -/
def nextStreamMs (s : State) : Int := nextMsStart s (refPort s)

/-- Weight changes that the stream still records: those of the last 80 s, longer than any dwell (04_acquisition R80). -/
def keptChanges (s : State) (l : List Int) : List Int := l.filter fun x => decide ((s.sky.tick : Int) < x + secTicks 80)

/-- The weights that were due act: the change is recorded with its first sample, and every NAV channel on C, and every beam channel that fell back to C, steps its
replica (03_array R58, 05_tracking R109). -/
def commitWeights (b : Band) (s : State) : State :=
  let x := s.ary.band[b]
  match x.next with
  | none => s
  | some (i, w) =>
    if (s.sky.tick : Int) < i then s
    else if x.weights = w then modBand b (fun y => { y with next := none }) s
    else
      let t := modBand b (fun y => { y with weights := w, weightsAt := i, changes := i :: keptChanges s y.changes, next := none }) s
      ((busyChans t).filter fun x => (chanInfo x.2).band == b && ((chanRole t x.1 == .nav && x.2.combined) || (chanRole t x.1 == .beam && !x.2.beam))).foldl
        (fun u y => replicaStep y.1 x.weights w u) t

/-- An evaluated millisecond of a band (03_array R58–R60) (DESIGN CHOICE: log entry 106). -/
def evaluateBand (b : Band) (cov : List (List Cplx)) (s : State) : State :=
  let x := s.ary.band[b]
  let hist := (cov :: x.cov).take (cfg s aryCfgNullAvg)
  let r := meanMatrix hist
  let many := decide (2 ≤ (activeAnts s).length)
  let lam := if many then eigenAsc r else [((r.headD []).headD ⟨0, 0⟩).re]
  let lamMin := lam.headD 0
  let det := Config.pow10 ((cfg s aryCfgInrDet : Rat) / 20)
  let k := if many then ((lam.drop 1).filter fun l => decide (det * lamMin ≤ l)).length else 0
  let rise := match x.q with | some q => 10 * Config.log10 (quot lamMin q) | none => 0
  let raw := rawLevel s b rise k
  let q' := match x.q with | some q => some (if k = 0 ∧ x.level = 0 then q + (lamMin - q) / 65536 else q) | none => none
  let t := modBand b (fun y => { y with
    cov := hist, k, rise, q := q',
    evals := min 1000 (y.evals + 1), lamSum := if y.evals < 1000 then y.lamSum + lamMin else y.lamSum,
    upRun := Vector.ofFn fun (i : Fin 3) => if i.val + 1 ≤ raw then y.upRun[i] + 1 else 0,
    downRun := Vector.ofFn fun (i : Fin 3) => if raw ≤ i.val then y.downRun[i] + 1 else 0 }) s
  modBand b (fun y => { y with next := some (nextStreamMs s, if many then nullWeights t b r lamMin k else none) }) t

/-- A millisecond in which the delay filter left an antenna out counts once (03_array R56, Table 03-9). -/
def countDelay (out : Bool) (s : State) : State :=
  if out ∧ s.ary.delayMs ≠ some (stMs s) then bump cAryDelayRange { s with ary := { s.ary with delayMs := some (stMs s) } } else s

/-- NULL_WEIGHT_UPDATE (03_array R58–R60, R75): a stream millisecond of a band has ended with this many valid of all instants and this covariance over the active
antennas. The weights that were due act; what the millisecond yields acts from the first sample of the next one. After a skipped one they are held. -/
def execNullWeightUpdate (b : Band) (valid total : Nat) (cov : List (List Cplx)) (s : State) : Result :=
  if activeAnts s = [] then .next s else
  let out := decide (2 ≤ (activeAnts s).length) && (activeAnts s).any fun a => delayOut s a b
  let t := commitWeights b (bumpIf s.ary.band[b].weights.isSome cAryNullMs (countDelay out s))
  let t := if 2 * valid < total ∨ total = 0 then bump cArySkippedMs t else evaluateBand b cov t
  .next (publishAry (beamChecks b (nextStreamMs s) (modBand b (fun x => { x with marker := false }) t)))

/-- QUIET_REFERENCE_INIT (03_array R59). -/
def execQuietReferenceInit (b : Band) (s : State) : Result :=
  let x := s.ary.band[b]
  .next (if x.q = none ∧ x.evals = 1000 then modBand b (fun y => { y with q := some (y.lamSum / 1000) }) s else s)

/-! ### Levels (03_array R61, R62) -/

/-- The level that the runs call for (03_array R61). -/
def levelDue (s : State) (b : Band) : Option Nat :=
  let x := s.ary.band[b]
  let up := [3, 2, 1].find? fun l => decide (x.level < l) && decide (cfg s aryCfgJamPersist ≤ x.upRun.toList.getD (l - 1) 0)
  let down := [0, 1, 2].find? fun l => decide (l < x.level) && decide (10 * cfg s aryCfgJamClear ≤ x.downRun.toList.getD l 0)
  up.or down

/-- JAM_LEVEL_CHANGE (03_array R61, R62). -/
def execJamLevelChange (b : Band) (s : State) : Result :=
  match levelDue s b with
  | none => .next s
  | some l =>
    let t := modBand b (fun x => { x with level := l }) s
    let t := recB 1 0x0301 (leBytes 1 b.val ++ levelBytes t) t
    let alarm := (List.finRange 4).any fun c => decide (2 ≤ t.ary.band[c].level)
    let t := if alarm = t.ary.jam then t
      else
        let u := { t with ary := { t.ary with jam := alarm } }
        if alarm then recB 0 0x0302 (levelBytes u) (bump cAryJamRaises u) else recB 0 0x0303 (levelBytes u) u
    .next (publishAry t)

/-! ### Calibration (03_array R65, R66, R75) -/

/-- c in mm·GHz. -/
def cMmGhz : Rat := 299792458 / 1000000

/-- The fraction of a number of cycles. -/
def fracQ (x : Rat) : Rat := x - x.floor

/-- A signal that serves a calibration, with what the rule takes of it (03_array R65): unit vector to the satellite in the body frame, elevation, carrier in GHz, phase in
cycles, C/N0 as a ratio, and code single difference less its geometric part in ns. -/
structure CalUse where
  /-- Direction. -/
  dir : Vec3
  /-- Elevation in degrees. -/
  elev : Rat
  /-- Carrier in GHz. -/
  f : Rat
  /-- m in cycles. -/
  m : Rat
  /-- cn0_lin. -/
  lin : Rat
  /-- Code difference in ns. -/
  code : Rat

/-- The ARRAY channel that tracks a target on an antenna (05_tracking R98). -/
def arrayChanOf (s : State) (t : SearchTarget) (a : Port) : Option Chan :=
  ((arrayChans s t).find? fun x => x.2.ant == a && canLose x.2).map (·.2)

/-- Continuously in LOCK for so many seconds. -/
def lockedFor (s : State) (c : Chan) (n : Nat) : Bool :=
  c.st == .lock && (match c.lockTick with | some t => since s t (secTicks n) | none => false)

/-- Direction of a satellite in the local frame that broadcast ephemeris and the position predict (03_array R54). -/
def predictedDir (s : State) (v : SatId) : Option Vec3 :=
  match viewOf s v with
  | some w => if w.eph then some (enuOf w.az w.elev) else none
  | none => none

/-- What a signal gives to the calibration of an antenna and band, none where it does not serve (03_array R65): tracked on it and on the reference antenna, in lock through
the whole period, and high enough. The code of an antenna toward the satellite is early by b·u/c (log entry 99). -/
def calUse (s : State) (a : Port) (b : Band) (x : CalSignal) : Option CalUse :=
  match arrayChanOf s x.target a, arrayChanOf s x.target (refAnt s), predictedDir s x.target.sat, elevOf s x.target.sat with
  | some c, some r, some u, some e =>
    if (targetInfo x.target).band = b ∧ lockedFor s c (cfg s aryCalCalPeriod) ∧ lockedFor s r (cfg s aryCalCalPeriod) ∧ (cfg s aryCalCalElev : Rat) ≤ e then
      let d := toBody s.sol.att u
      some ⟨d, e, carrierOf x.target / 1000000000, cArg x.acc, Config.pow10 ((r.cn0.getD 0) / 10), x.codeNs + vDot (effVec s a b) d / cMmGhz⟩
    else none
  | _, _, _, _ => none

/-- e_s of a signal (03_array R65). -/
def calResidual (s : State) (a : Port) (b : Band) (x : CalUse) : Rat :=
  fracQ (x.m - vDot (effVec s a b) x.dir * x.f / cMmGhz - (x.f - bandGHz b) * (calAt s a b).tau)

/-- Least-squares step of d from the residuals, none where the directions do not fix it (03_array R66). -/
def fitOffset (rows : List (Vec3 × Rat)) : Option Vec3 :=
  let sum (f : Vec3 → Rat) : Rat := (rows.map fun r => f r.1).foldl (· + ·) 0
  let rhs (f : Vec3 → Rat) : Rat := (rows.map fun r => f r.1 * r.2).foldl (· + ·) 0
  let c1 : Vec3 := ⟨sum fun v => v.x * v.x, sum fun v => v.x * v.y, sum fun v => v.x * v.z⟩
  let c2 : Vec3 := ⟨sum fun v => v.x * v.y, sum fun v => v.y * v.y, sum fun v => v.y * v.z⟩
  let c3 : Vec3 := ⟨sum fun v => v.x * v.z, sum fun v => v.y * v.z, sum fun v => v.z * v.z⟩
  let y : Vec3 := ⟨rhs (·.x), rhs (·.y), rhs (·.z)⟩
  let det := vDot c1 (vCross c2 c3)
  if det = 0 then none else some ⟨vDot y (vCross c2 c3) / det, vDot c1 (vCross y c3) / det, vDot c1 (vCross c2 y) / det⟩

/-- A step of d limited to 2 mm (03_array R66). -/
def limitOffset (v : Vec3) : Vec3 := let n := vLen v; if 2 < n then vScale (2 / n) v else v

/-- The calibration record of R75: φ in 10⁻⁶ cycles, τ in ps, d in µm, converged. -/
def calBytes (s : State) (a : Port) (b : Band) : List Byte :=
  let x := calAt s a b
  let w (q : Rat) : List Byte := leBytes 4 (twos 32 (roundAway q))
  leBytes 1 a.val ++ leBytes 1 b.val ++ w (1000000 * x.phi) ++ w (1000 * x.tau) ++ w (1000 * x.d.x) ++ w (1000 * x.d.y) ++ w (1000 * x.d.z) ++
    leBytes 1 (b2n x.conv)

/-- One update of an antenna and band from the signals that serve (03_array R65, R66) (DESIGN CHOICE: log entry 107). -/
def calStep (a : Port) (b : Band) (l : List CalUse) (s : State) : State :=
  let x := calAt s a b
  let es := l.map fun g => (g, calResidual s a b g)
  let phiNew := cArg (cSum (es.map fun g => cMul ⟨g.1.lin, 0⟩ (cExp g.2)))
  let spread := es.foldl (fun m g => max m (absQ (wrapCycles (g.2 - phiNew)))) 0
  let stepMax : Rat := (cfg s aryCalStepMax : Rat) * 5 / 1000
  let diff := wrapCycles (phiNew - x.phi)
  let put (y : CalState) (t : State) : State := { t with ary := { t.ary with cal := t.ary.cal.set (calIdx a b) y } }
  if 1 / 4 < spread then bump cAryCalReject (put { x with run := 0 } s) else
  let phi := if x.first then phiNew else x.phi + clampQ (-stepMax) stepMax diff
  let run := if spread ≤ 5 / 100 ∧ absQ diff ≤ stepMax then x.run + 1 else 0
  let els := l.map (·.elev)
  let wide := decide (8 ≤ l.length) && (match els.max?, els.min? with | some hi, some lo => decide (40 ≤ hi - lo) | _, _ => false)
  let d := if wide then
      match fitOffset (es.map fun g => (vScale (g.1.f / cMmGhz) g.1.dir, wrapCycles (g.2 - phi))) with
      | some v => vAdd x.d (limitOffset v)
      | none => x.d
    else x.d
  let now := stSec s
  let codes := (l.map fun g => (now, g.code)) ++ x.codes.filter fun c => decide (now < c.1 + 10 * cfg s aryCalDelayAvg)
  let t := put { phi, tau := meanQ (codes.map (·.2)), d, conv := x.conv || decide (3 ≤ run), first := false, run, codes, lastS := x.lastS } s
  { t with msr := { t.msr with calSeq := (t.msr.calSeq + 1) % 65536 } }

/-- A period of an antenna and band ends in this second: CAL_PERIOD divides it and it has not been closed (03_array R65). -/
def calDue (s : State) (a : Port) (b : Band) : Bool :=
  decide (stSec s % cfg s aryCalCalPeriod = 0) && (calAt s a b).lastS != some (stSec s)

/-- The period is closed. -/
def closePeriod (a : Port) (b : Band) (s : State) : State :=
  { s with ary := { s.ary with cal := s.ary.cal.set (calIdx a b) { calAt s a b with lastS := some (stSec s) } } }

/-- The conditions of R65 on the array. -/
def calReady (s : State) (a : Port) (b : Band) : Bool :=
  cfgB s aryCalCalEn && attValid s && !s.ary.spoof && decide (s.ary.band[b].level < 2) && (activeAnts s).contains a && (activeAnts s).contains (refAnt s)

/-- CAL_UPDATE (03_array R65, R66, R75). -/
def execCalUpdate (a : Port) (b : Band) (sigs : List CalSignal) (s : State) : Result :=
  if a = refAnt s ∨ activeAnts s = [] ∨ calDue s a b = false then .next s else
  let l := sigs.filterMap (calUse s a b)
  let u := closePeriod a b s
  let t := if calReady s a b = false then u else if l.length < cfg s aryCalCalMinSat then bump cAryCalHeld u else calStep a b l u
  .next (publishAry (recB 2 0x0308 (calBytes t a b) t))

/-! ### Angle of arrival (03_array R67, R68) -/

/-- Angle between two directions, in degrees. -/
def angleDeg (a b : Vec3) : Rat := Config.acosDeg (quot (vDot a b) (vLen a * vLen b))

/-- A direction given by azimuth from body x toward y and elevation, in degrees. -/
def bodyDir (az el : Rat) : Vec3 := ⟨Config.cosDeg el * Config.cosDeg az, Config.cosDeg el * Config.sinDeg az, Config.sinDeg el⟩

/-- The terms of S: antenna with its accumulation rotated by the calibrated phase (03_array R67). -/
def aoaTerms (s : State) (g : AoaSignal) : List (Port × Cplx) :=
  (activeAnts s).filterMap fun a =>
    match if (arrayChanOf s g.target a).isSome then g.acc.getD a.val none else none with
    | none => none
    | some c => some (a, cMul c (cExp (-calPhase s a (targetInfo g.target).band (carrierOf g.target / 1000000000))))

/-- S(u) (03_array R68). -/
def aoaScore (s : State) (g : AoaSignal) (l : List (Port × Cplx)) (u : Vec3) : Rat :=
  cAbs (cSum (l.map fun x => cMul x.2 (cExp (-(vDot (effVec s x.1 (targetInfo g.target).band) u * (carrierOf g.target / 1000000000) / cMmGhz)))))

/-- The point of a list with the largest score. -/
def bestPoint (f : Rat × Rat → Rat) (l : List (Rat × Rat)) : Rat × Rat :=
  match l with
  | [] => (0, 0)
  | p :: r => (r.foldl (fun (b : (Rat × Rat) × Rat) q => let v := f q; if b.2 < v then (q, v) else b) (p, f p)).1

/-- The 2° grid: the whole sphere, or the half-space with non-negative body z. -/
def aoaGrid (half : Bool) : List (Rat × Rat) :=
  (List.range (if half then 46 else 91)).flatMap fun (j : Nat) => (List.range 180).map fun (i : Nat) => (2 * (i : Rat), 2 * (j : Rat) - if half then 0 else 90)

/-- The points of the refinement around a cell; in the half-space, those with a non-negative elevation. -/
def aoaFine (half : Bool) (p : Rat × Rat) : List (Rat × Rat) :=
  ((List.range 9).flatMap fun (j : Nat) => (List.range 9).map fun (i : Nat) => (p.1 + (i : Rat) / 4 - 1, p.2 + (j : Rat) / 4 - 1)).filter fun q =>
    !half || decide (0 ≤ q.2)

/-- A point of the grid is a local maximum. -/
def localMax (f : Rat × Rat → Rat) (p : Rat × Rat) : Bool :=
  [(-2, -2), (-2, 0), (-2, 2), (0, -2), (0, 2), (2, -2), (2, 0), ((2 : Rat), (2 : Rat))].all fun d => decide (f (p.1 + d.1, p.2 + d.2) ≤ f p)

/-- The direction of a signal with rank 2 or 3 (03_array R68) (DESIGN CHOICE: log entry 107). -/
def aoaDirection (s : State) (g : AoaSignal) : AoaMeas :=
  let l := aoaTerms s g
  let f (p : Rat × Rat) : Rat := aoaScore s g l (bodyDir p.1 p.2)
  let grid := aoaGrid (decide (antRank s = 2))
  let peak := bestPoint f (aoaFine (decide (antRank s = 2)) (bestPoint f grid))
  let u := bodyDir peak.1 peak.2
  let rivals := (grid.filter fun p => decide (15 < angleDeg (bodyDir p.1 p.2) u) && localMax f p).map f
  let margin := Config.pow10 ((cfg s arySpoofLobeMargin : Rat) / 40)
  ⟨g.target.sat, (targetInfo g.target).band, rivals.all fun r => decide (r * margin ≤ f peak), u, none⟩

/-- The cone angle with rank 1: its cosine to the one baseline. -/
def aoaCone (s : State) (g : AoaSignal) : Option AoaMeas :=
  match (aoaTerms s g).find? fun x => x.1 != refAnt s with
  | none => none
  | some (a, c) =>
    let b := (targetInfo g.target).band
    let n := vLen (effVec s a b)
    let lam := cMmGhz / (carrierOf g.target / 1000000000)
    some ⟨g.target.sat, b, decide (2 * n ≤ lam), vScale (1 / n) (effVec s a b), some (quot (cArg c * lam) n)⟩

/-- A signal qualifies (03_array R67): by its channel on the reference antenna, and tracked on another active antenna. -/
def aoaQualifies (s : State) (g : AoaSignal) : Bool :=
  (match arrayChanOf s g.target (refAnt s) with
  | some c => decide ((cfg s arySpoofAoaCn0 : Rat) ≤ c.cn0.getD 0) &&
      (match c.lockTick with | some t => since s t (secTicks (cfg s arySpoofAoaLock)) | none => false)
  | none => false) && ((aoaTerms s g).any fun x => x.1 == refAnt s) && (aoaTerms s g).any fun x => x.1 != refAnt s

/-- AOA_MEASURE (03_array R67, R68). -/
def execAoaMeasure (sigs : List AoaSignal) (s : State) : Result :=
  let l := sigs.filter (aoaQualifies s)
  let ms := if 2 ≤ antRank s then l.map (aoaDirection s) else if antRank s = 1 then l.filterMap (aoaCone s) else []
  let t := { s with ary := { s.ary with aoa := ms } }
  .next (ms.foldl (fun u m => bump (if m.valid then cAryAoaValid else cAryAoaAmbig) u) t)

/-! ### Spoofing (03_array R69–R71) -/

/-- The valid measurements. -/
def validAoa (s : State) : List AoaMeas := s.ary.aoa.filter (·.valid)

/-- One representative for each satellite: the first valid one in the order B1, B5, B2, B6. -/
def aoaReps (s : State) : List AoaMeas :=
  let l := sortBy (fun (a b : AoaMeas) => decide (bandOrder' a.band < bandOrder' b.band)) (validAoa s)
  l.filter fun m => (l.find? fun x => x.sat == m.sat) == some m
where
  /-- B1, B5, B2, B6. -/
  bandOrder' (b : Band) : Nat := match b with | 0 => 0 | 1 => 2 | 2 => 1 | 3 => 3

/-- The S1 set about a representative, where S1 holds for it. -/
def s1Set (s : State) (i : AoaMeas) : List AoaMeas :=
  let width : Rat := cfg s arySpoofClusterDeg
  let l := (aoaReps s).filter fun m => m.sat == i.sat || decide (angleDeg m.dir i.dir ≤ width / 2)
  let apart := l.any fun a => l.any fun b => match predictedDir s a.sat, predictedDir s b.sat with
    | some x, some y => decide (width + (cfg s arySpoofSepMargin : Rat) < angleDeg x y)
    | _, _ => false
  if cfg s arySpoofSpoofCount ≤ l.length ∧ apart then l else []

/-- The largest S1 set and its representative (03_array R69). -/
def largestS1 (s : State) : Option (AoaMeas × Nat) :=
  if antRank s < 2 then none else
  (aoaReps s).foldl (fun (b : Option (AoaMeas × Nat)) i =>
    let n := (s1Set s i).length
    match b with
    | none => if n = 0 then none else some (i, n)
    | some (j, m) => if m < n then some (i, n) else some (j, m)) none

/-- A signal disagrees under S2 (03_array R69). -/
def s2Disagrees (s : State) (m : AoaMeas) : Bool :=
  match predictedDir s m.sat with
  | none => false
  | some p =>
    let u := toBody s.sol.att p
    let tol : Rat := cfg s arySpoofAoaTol
    match m.cone with
    | none => decide (tol < angleDeg m.dir u)
    | some c => decide (tol < absQ (Config.acosDeg c - angleDeg m.dir u))

/-- Satellites that disagree, each once. -/
def s2Sats (s : State) : List SatId :=
  if attValid s then ((validAoa s).filter (s2Disagrees s)).map (·.sat) |>.dedup else []

/-- SPOOF_EVAL (03_array R69, R70). -/
def execSpoofEval (_preds : Unit) (s : State) : Result :=
  let s1 := largestS1 s
  let s2 := (s2Sats s).length
  let sats := ((validAoa s).map (·.sat)).dedup.length
  let holds := s1.isSome || (attValid s && decide (cfg s arySpoofDisagreeCount ≤ s2))
  let could := decide (2 ≤ antRank s) || attValid s
  let outcome : Nat := if cfgB s arySpoofSpoofEn = false then 2 else if holds then 1 else if could ∧ cfg s arySpoofMinAoa ≤ sats then 0 else 2
  let a := s.ary
  let t := { s with ary := { a with
    outcome, attUsed := attValid s, aoaSats := sats, suspects := max (match s1 with | some x => x.2 | none => 0) s2,
    cluster := s1.map (·.1.dir),
    dirty := if outcome = 1 then a.dirty + 1 else if outcome = 0 then 0 else a.dirty,
    clean := if outcome = 0 then a.clean + 1 else if outcome = 1 then 0 else a.clean,
    unavail := if outcome = 2 ∧ a.spoof then a.unavail + 1 else 0 } }
  .next (publishAry (bumpIf (decide (outcome = 1)) cArySpoofDirty t))

/-- The spoofing record (03_array R71): outcome, suspects, azimuth and elevation of the largest S1 set in 0.01°. -/
def spoofBytes (s : State) : List Byte :=
  let u := s.ary.cluster.getD ⟨0, 0, 0⟩
  let el : Rat := 90 - angleDeg u ⟨0, 0, 1⟩
  let w (q : Rat) : List Byte := leBytes 2 (twos 16 (roundAway (100 * q)))
  leBytes 1 s.ary.outcome ++ leBytes 1 s.ary.suspects ++ leBytes 1 (b2n s.ary.cluster.isSome) ++ w (Config.azDeg u.y u.x) ++ w el

/-- The alarm is raised or released: its runs restart, GNSS turns unusable or usable (01_architecture R18), and a Class 0 record goes out.
A raise cancels a first alignment that has been decided (09_sky_time R222). -/
def setSpoof (on : Bool) (kind : Nat) (s : State) : State :=
  let t := { s with ary := { s.ary with spoof := on, dirty := 0, clean := 0, unavail := 0 } }
  let cancels : Bool := on && t.sky.alignDecided.isSome
  let t := if cancels then { t with sky := { t.sky with alignDecided := none }, mode := { t.mode with decided := none, coldRun := 0 } } else t
  let t := trackUsable (!on && t.sol.timeValid) t
  let t := setTrusted (!on && t.sol.timeValid) t
  publishAry (recB 0 kind (spoofBytes t) t)

/-- SPOOF_RAISE (03_array R71). -/
def execSpoofRaise (s : State) : Result :=
  .next (if s.ary.spoof = false ∧ cfg s arySpoofPersist ≤ s.ary.dirty then bump cArySpoofRaises (setSpoof true 0x0304 s) else s)

/-- SPOOF_CLEAR (03_array R71). -/
def execSpoofClear (s : State) : Result :=
  .next (if s.ary.spoof ∧ cfg s arySpoofClear ≤ s.ary.clean then setSpoof false 0x0305 s else s)

/-- SPOOF_RELEASE_UNVERIFIED (03_array R71). -/
def execSpoofReleaseUnverified (s : State) : Result :=
  .next (if s.ary.spoof ∧ 10 * cfg s arySpoofHold ≤ s.ary.unavail then bump cArySpoofUnverified (setSpoof false 0x0306 s) else s)

/-! ### Reduced sets (03_array R72, R73) -/

/-- The governor holds the set below the one that the image and the mode call for (15_power R385). -/
def govReduced (s : State) : Bool := !oneAntMode s && (imageAnts s).any fun a => !govAllows s a

/-- Bring the active set up to date (03_array R72, R73): weights to e_ref for the next stream millisecond, averaging afresh over the new set, channels of dropped antennas
released (05_tracking R121), and the governor's episode. -/
def activeRefresh (s : State) : State :=
  let set := BitVec.ofNat 4 (antBits fun a => (activeAnts s).contains a)
  let t := if s.ary.antSet = set then s else
    let u := { s with ary := { s.ary with antSet := set, band := s.ary.band.map fun x => { x with cov := [], next := some (nextStreamMs s, none) } } }
    ((busyChans u).filter fun x => !isNavChan u x.1 && !(activeAnts u).contains x.2.ant).foldl (fun v x => releaseChan x.1 v) u
  let red := govReduced t
  let t := if red = t.ary.reduced then t
    else
      let u := { t with ary := { t.ary with reduced := red } }
      if red then recB 1 0x0307 (leBytes 4 (aryStatus u)) (bump cAryAntConflicts u) else u
  if s.ary.antSet = set ∧ s.ary.reduced = red then t else publishAry t

end Sys2Proof.Machine
end

