-- ==== Sys2Proof/Machine/Acq.lean ====
section
/-!
DEFINITION. The acquisition engine (04_acquisition): grids, the record pool, steps, verification, handover, tasks and lanes.
-/

namespace Sys2Proof.Machine

/-! ### Settings of a signal (04_acquisition Tables 04-1, 04-8) -/

/-- COH in ms of a tier. -/
def tierCoh (s : State) (n : Nat) (deep : Bool) : Nat :=
  if entryHeld s 0x0411 1 n then cfgAt s (if deep then acqSigDeepCoh else acqSigFastCoh) n
  else if deep then (sigInfo n).deepCoh else (sigInfo n).fastCoh

/-- NC of a tier; 0 skips it. -/
def tierNc (s : State) (n : Nat) (deep : Bool) : Nat :=
  if entryHeld s 0x0411 1 n then cfgAt s (if deep then acqSigDeepNc else acqSigFastNc) n
  else if deep then (sigInfo n).deepNc else (sigInfo n).fastNc

/-- Primary code period in ms. -/
def periodMs (g : SigInfo) : Rat := 1000 * g.period

/-- The search is of a pilot: not of a data-only signal, nor of L2C CM. -/
def pilotSearch (t : SearchTarget) : Bool := (targetInfo t).two && t.sig != 2 && t.sig != 17

/-- COH in force (04_acquisition R84): beyond the primary period of a pilot only with time known to a quarter of a secondary chip. -/
def cohInForce (s : State) (t : SearchTarget) (deep : Bool) : Nat :=
  let g := targetInfo t
  let coh := tierCoh s t.sig deep
  let known := match uncNs s with | some u => decide (u ≤ periodMs g * 250000) | none => false
  if pilotSearch t ∧ periodMs g < coh ∧ known = false then (periodMs g).floor.toNat else coh

/-! ### Assistance (04_acquisition R83, R86) -/

/-- Time uncertainty in s that the mapping or the seed states. -/
def timeUncS (s : State) : Option Rat := (uncNs s).map (· / 1000000000)

/-- Growth of the position uncertainty in m while GNSS is unusable (04_acquisition R86). -/
def posGrowth (s : State) (from_ : Rat) : Rat := 70 * (stNow s - s.mode.unusableSince.getD from_)

/-- Uncertainty in m of the position that predictions use. -/
def posUncM (s : State) : Rat :=
  match if pvtValid s then pubRec s else none with
  | some r => (r.sol.h95 : Rat) / 1000
  | none => match s.sol.lastPos, s.acq.pos with
    | some (_, q, h), _ => (h : Rat) / 1000 + posGrowth s q
    | none, some (_, m) => m
    | none, none => 0

/-- What assistance predicts of a satellite: needs an orbit, a position and a time. -/
def assistOf (s : State) (v : SatId) : Option SatView := if (uncNs s).isSome then viewOf s v else none

/-- Code phase in chips of a transmit time. -/
def chipsOf (t : SearchTarget) (tx : Rat) : Rat :=
  let g := targetInfo t
  let x := tx * g.chipHz
  x - g.chips * (x / g.chips).floor

/-- Half-width of the code window in chips from assistance, none for the whole code (04_acquisition Table 04-2). -/
def assistWidth (s : State) (t : SearchTarget) (v : SatView) : Option Nat :=
  let g := targetInfo t
  let w := (ceilQ ((lightSpeed * (timeUncS s).getD 0 + posUncM s + (if v.eph then 10 else 5000)) / (lightSpeed / g.chipHz))).toNat
  if g.chips ≤ 2 * w then none else some w

/-- The code window that assistance gives: predicted code phase now, and half-width. -/
def assistWindow (s : State) (t : SearchTarget) (v : SatView) : Option (Rat × Nat × Nat) :=
  match assistWidth s t v, predictedTx s t.sat (stNow s) with
  | some w, some tx => some (chipsOf t tx, s.sky.tick, w)
  | _, _ => none

/-- Cells of a code window. -/
def windowCells (w : Nat) : Nat := 4 * w + 1

/-- A block of a code meets a window (04_acquisition R77); codes are cyclic. -/
def blockMeets (t : SearchTarget) (pred : Rat) (w b : Nat) : Bool :=
  let l : Rat := (targetInfo t).chips
  let lo : Rat := 1023 * b
  let hi : Rat := min (1023 * (b + 1 : Nat) : Rat) l
  [-1, 0, 1].any fun (k : Rat) => decide (pred - w < hi + k * l) && decide (lo + k * l ≤ pred + w)

/-- The blocks that a window meets, from the predicted block outward, the lower first at a tie; all of them, ascending, without a window (04_acquisition R82). -/
def windowBlocks (t : SearchTarget) (w : Option (Rat × Nat × Nat)) : List Nat :=
  let n := (targetInfo t).blocks
  match w with
  | none => List.range n
  | some (p, _, h) =>
    let home := (p / 1023).floor.toNat
    let far (b : Nat) : Nat := let d := (b + n - home) % n; min d (n - d)
    sortBy (fun a b => decide (far a < far b)) ((List.range n).filter (blockMeets t p h))

/-! ### Tasks (04_acquisition R91, R92) -/

/-- The LOST channel whose reacquisition age has not passed (04_acquisition R91 class 1). -/
def lostChan (s : State) (t : SearchTarget) : Option Nat :=
  ((busyChans s).find? fun x => isNavChan s x.1 && x.2.st == .lost && x.2.target == some t && !since s x.2.entered (secTicks (cfg s acqCfgReacqS) + 1)).map (·.1)

/-- A channel follows its signal. -/
def followed (c : Chan) : Bool := canLose c

/-- The channel that tracks the satellite on another band (04_acquisition R91 class 2). -/
def otherBand (s : State) (t : SearchTarget) : Option Chan :=
  ((busyChans s).find? fun x => isNavChan s x.1 && followed x.2 &&
    (match x.2.target with | some g => g.sat == t.sat && (targetInfo g).band != (targetInfo t).band | none => false)).map (·.2)

/-- The transmit time of a channel is known to within a code of the target. -/
def txServes (c : Chan) (t : SearchTarget) : Bool :=
  decide (c.level = 3) || decide ((targetInfo t).period ≤ (if c.level = 2 then ((chanInfo c).level2 : Rat) / 1000 else (chanInfo c).period))

/-- A navigation channel other than `k` follows or pulls in the target, on any stream (05_tracking R98). -/
def tracked (s : State) (t : SearchTarget) (k : Nat) : Bool :=
  (busyChans s).any fun x => isNavChan s x.1 && x.2.st != .lost && x.2.target == some t && x.1 != k

/-- A navigation channel other than `k` follows or pulls in the target on a task's stream; a beam is formed from the streams of C. -/
def trackedOn (s : State) (t : SearchTarget) (combined : Bool) (k : Nat) : Bool :=
  (busyChans s).any fun x => isNavChan s x.1 && x.2.st != .lost && x.2.target == some t && x.1 != k &&
    (if chanRole s x.1 = .beam then combined else x.2.combined == combined)

/-- The class of a search (04_acquisition R91), none where the rules start none: a Handover signal needs a code window of at most two blocks (R77). -/
def taskClass (s : State) (t : SearchTarget) : Option Nat :=
  let direct := (targetInfo t).direct
  if (lostChan s t).isSome then some 1
  else match otherBand s t with
  | some c => if direct ∨ txServes c t then some 2 else none
  | none => match assistOf s t.sat with
    | some v =>
      if v.elev < cfg s acqCfgElevMask then none
      else if direct then some 3
      else (match assistWindow s t v with | some w => if (windowBlocks t (some w)).length ≤ 2 then some 3 else none | none => none)
    | none => if direct then some 4 else none

/-- Lanes that the mode gives (04_acquisition R92). -/
def modeLanes (s : State) : Nat := if inService s = false then 0 else if smallBank s then cfg s acqCfgLanesThin else 16

/-- The lanes run: GFR is on, and in LAYUP a fix is in progress. -/
def lanesRun (s : State) : Bool := inService s && domOn s .gfr && (s.mode.mode != .layup || s.mode.fixStart.isSome)

/-- Running tasks with their lanes. -/
def runs (s : State) : List (Fin 16 × LaneRun) := (List.finRange 16).filterMap fun n => (s.acq.lane[n]).map fun r => (n, r)

/-- Predicted elevation of a task. -/
def taskElev (s : State) (t : AcqTask) : Rat := (elevOf s t.target.sat).getD (-90)

/-- Turns until a constellation is due again among the tasks of class 4 (04_acquisition R91): they interleave. -/
def constTurn (s : State) (k : Constellation) : Nat :=
  match s.acq.turn with | some c => (constBit k + 6 - constBit c) % 7 | none => constBit k

/-- Priority of R91: class, in class 3 the highest elevation first, in class 4 the constellations in turn. -/
def taskBefore (s : State) (a b : AcqTask) : Bool :=
  decide (a.cls < b.cls) || (a.cls == 3 && b.cls == 3 && decide (taskElev s b < taskElev s a)) ||
    (a.cls == 4 && b.cls == 4 && decide (constTurn s a.target.sat.const < constTurn s b.target.sat.const))

/-- Put a lane's run. -/
def setLane (n : Fin 16) (r : Option LaneRun) (s : State) : State := { s with acq := { s.acq with lane := s.acq.lane.set n r } }

/-- Release a task's reservation; a held LOST channel keeps its own (05_tracking R117). -/
def unreserve (t : SearchTarget) (k : Nat) (s : State) : State :=
  let c := chanGet s k
  if c.reserved = some t then (if c.st = .idle then chanSet k {} s else chanSet k { c with reserved := none } s) else s

/-- End a lane's task: its reservation is released and the lane idles. -/
def endLane (n : Fin 16) (r : LaneRun) (s : State) : State := setLane n none (unreserve r.task.target r.chan.val s)

/-- A task goes to the head of its class (04_acquisition R92). -/
def headTask (t : AcqTask) (s : State) : State :=
  { s with acq := { s.acq with queue := (s.acq.queue.filter fun x => decide (x.cls < t.cls)) ++ [t] ++ (s.acq.queue.filter fun x => decide (t.cls ≤ x.cls)) } }

/-! ### The grid (04_acquisition R81–R85) -/

/-- The oscillator model is younger than 24 h, and not disqualified (09_sky_time R231). -/
def modelFresh (s : State) : Bool := !s.sky.disq[cmpIdx .model] && match s.sky.model.head? with | some w => !since s w.1 (secTicks 86400) | none => false

/-- Oscillator term in Hz. -/
def oscTerm (s : State) (f : Rat) (assisted : Bool) : Rat :=
  if assisted && modelFresh s then (cfg s acqCfgModelPpm : Rat) / 100000000 * f else (cfg s acqCfgTcxoPpm : Rat) / 10000000 * f

/-- Speed uncertainty in m/s: the 95 % bound of a valid basin velocity, else 70. -/
def speedUnc (s : State) : Rat :=
  if velValid s && gnssUsable s then (match pubRec s with | some r => (r.sol.vel95 : Rat) / 1000 | none => 70) else 70

/-- What a task's grid is built from: centre in Hz from the carrier, U_f in Hz, code window, and whether ephemeris (true) or an almanac assists. -/
structure Grid where
  /-- Centre. -/
  centre : Rat
  /-- U_f. -/
  uf : Rat
  /-- Code window. -/
  window : Option (Rat × Nat × Nat)
  /-- Assistance. -/
  assist : Option Bool

/-- The grid of an assisted or unassisted search (04_acquisition R83, Table 04-2). -/
def searchGrid (s : State) (t : SearchTarget) : Grid :=
  let f := carrierOf t
  let scale := f / l1Hz
  match assistOf s t.sat with
  | some v =>
    { centre := v.dop * scale - (if modelFresh s then Config.modelEstimate s.sky.model * f else 0),
      uf := ((if v.eph then 2 else 20) + posUncM s / 1000 + (timeUncS s).getD 0 / 2 + 525 / 100 * speedUnc s) * scale + oscTerm s f true,
      window := assistWindow s t v, assist := some v.eph }
  | none => { centre := 0, uf := (cfg s acqCfgDopMax : Rat) * 100 * scale + oscTerm s f false, window := none, assist := none }

/-- The grid of a reacquisition (04_acquisition R85): code phase and frequency of the lost channel, carried on from its last dump by the predictions at its loss and now, by
its own rates where there are none. -/
def lostGrid (s : State) (t : SearchTarget) (c : Chan) : Grid :=
  let out : Rat := ((s.sky.tick : Rat) - c.entered) / 491520000
  let gap := ((s.sky.tick : Rat) - c.last) * nominalRate
  let code := match c.lostView, viewOf s t.sat with
    | some (_, r), some v => c.tx + gap * (s.sky.seg.rate / nominalRate) - (v.range - r) / lightSpeed
    | _, _ => c.tx + gap * c.codeRate / (targetInfo t).chipHz
  let f := match c.lostView, viewOf s t.sat with
    | some (d, _), some v => c.fNco + (v.dop - d) * carrierOf t / l1Hz
    | _, _ => c.fNco
  { centre := f, uf := 50 + 5 * out, window := some (chipsOf t code, s.sky.tick, (ceilQ (2 + 2 / 10 * out)).toNat), assist := none }

/-- The grid of a signal whose satellite is tracked on another band (04_acquisition R91): centred on that channel's frequency, scaled by the carriers, and on its transmit
time. The manual states no uncertainty and no width for it: they are free values (log entry 3). -/
def bandGrid (s : State) (t : SearchTarget) (c : Chan) : Grid × State :=
  let (a, s1) := takeFree s
  let (b, s2) := takeFree s1
  let code := c.tx + ((s.sky.tick : Rat) - c.last) * nominalRate * c.codeRate / (chanInfo c).chipHz
  ({ centre := c.fNco * carrierOf t / chanCarrier c, uf := a, window := if txServes c t then some (chipsOf t code, s.sky.tick, 1 + b % 511) else none, assist := none },
   s2)

/-- The grid of a task by its class. -/
def gridOf (s : State) (t : AcqTask) : Grid × State :=
  match if t.cls = 1 then (lostChan s t.target).map (chanGet s) else none, if t.cls = 2 then otherBand s t.target else none with
  | some c, _ => (lostGrid s t.target c, s)
  | none, some c => bandGrid s t.target c
  | none, none => (searchGrid s t.target, s)

/-- The groups of a step (04_acquisition R82). -/
def groupsFor (w : Option (Rat × Nat × Nat)) : Nat :=
  match w with
  | none => 1
  | some x => ([16, 8, 4, 2].find? fun g => decide (windowCells x.2.2 ≤ 2046 / g)).getD 1

/-- Bins of a run's grid. -/
def binCount (r : LaneRun) : Nat := 2 * r.k + 1

/-- Steps of a run's grid. -/
def gridSteps (r : LaneRun) : Nat := if r.groups = 1 then binCount r * r.blocks.length else ceilDiv (binCount r) r.groups

/-- A bin by its place in visiting order: 0, +1, −1, +2, −2 (04_acquisition R81). -/
def binAt (i : Nat) : Int := if i % 2 = 1 then ((i + 1) / 2 : Nat) else -((i / 2 : Nat) : Int)

/-- Samples per ms of a search. -/
def searchRate (t : SearchTarget) : Nat := 2 * (targetInfo t).chipHz / 1000

/-- Intervals of a run's next step: NC, of a verification NC × VER_MULT (04_acquisition R89). -/
def stepNc (s : State) (r : LaneRun) : Nat := if r.hit.isSome then r.nc * cfg s acqCfgVerMult else r.nc

/-- Bytes of a dwell at 2 bits a sample. -/
def dwellBytes (s : State) (r : LaneRun) : Nat := ceilDiv (searchRate r.task.target * r.coh * stepNc s r) 4

/-- Length of a record in ticks. -/
def recordTicks (p : PoolRecord) : Nat := p.bytes * 4 * 491520 / p.key.rate

/-- Tick of a dwell's first sample. -/
def dwellTick (r : LaneRun) : Nat := match r.dwell with | .replay t => t | .live t => t

/-- Pool records that some lane still uses. -/
def usedRecords (s : State) : List PoolRecord := s.acq.pool.filter fun p => (runs s).any fun x => x.2.key == p.key && x.2.dwell == .replay p.tick

/-- Take a dwell for a lane (04_acquisition R79): a record that serves it, a new record or the live stream from the next stream millisecond. `fresh` asks for data captured
from now on. -/
def takeDwell (n : Fin 16) (r : LaneRun) (fresh : Bool) (s : State) : State :=
  let len := dwellBytes s r
  let start := (nextStreamMs s).toNat
  if 524288 < len ∨ gridSteps r ≤ 1 then setLane n (some { r with dwell := .live start }) s
  else
    let pool := usedRecords (setLane n none s)
    let fits (p : PoolRecord) : Bool := p.key == r.key && decide (len ≤ p.bytes) && (!fresh || decide (s.sky.tick ≤ p.tick))
    match pool.find? fits with
    | some p => setLane n (some { r with dwell := .replay p.tick }) { s with acq := { s.acq with pool := pool } }
    | none =>
      if (pool.map (·.bytes)).sum + len ≤ 1835008 then
        setLane n (some { r with dwell := .replay start }) { s with acq := { s.acq with pool := pool ++ [⟨r.key, start, len, false⟩] } }
      else bump cAcqLiveFallback (setLane n (some { r with dwell := .live start }) { s with acq := { s.acq with pool := pool } })

/-- Start or restart a task's search in a tier. -/
def beginRun (n : Fin 16) (t : AcqTask) (k : TrkChan) (deep : Bool) (s : State) : State :=
  let (q, u) := gridOf s t
  let g := targetInfo t.target
  let coh := cohInForce s t.target deep
  takeDwell n {
    task := t, chan := k, key := ⟨g.band, usesC s, searchRate t.target, q.centre⟩, assist := q.assist, deep, coh, gridCoh := coh, nc := tierNc s t.target.sig deep,
    k := (ceilQ (q.uf * 2 * coh / 1000)).toNat, window := q.window, groups := groupsFor q.window, blocks := windowBlocks t.target q.window, step := 0, voids := 0,
    dwell := .live 0, hit := none, passes := 0, restart := false } false u

/-- The tier in which a task begins: FAST unless it is skipped. -/
def firstTier (s : State) (t : SearchTarget) : Bool := decide (tierNc s t.sig false = 0)

/-- A signal that may be searched enters the queue, unless it waits, runs or is tracked. -/
def offerTask (s : State) (t : SearchTarget) : State :=
  if cfgBAt s acqSigEn t.sig = false ∨ cfgBAt s trkSigEn t.sig = false ∨ 22 ≤ t.sig ∨ (s.acq.queue.any fun x => x.target == t) ∨
      ((runs s).any fun x => x.2.task.target == t) ∨ tracked s t 1536 then s
  else match taskClass s t with
    | some c => enqueueTask ⟨t, c⟩ s
    | none => s

/-- The channel that a waiting task can have: its own LOST channel, or a free NAV channel (05_tracking R120). -/
def channelFor (s : State) (t : AcqTask) : Option Nat := if t.cls = 1 then lostChan s t.target else freeChan s .nav t.target

/-- A waiting task by its class at present. -/
def reclassed (s : State) (t : AcqTask) : Option AcqTask :=
  if tracked s t.target 1536 then none else (taskClass s t.target).map fun c => { t with cls := c }

/-- The waiting task that starts next, with its channel. -/
def nextTask (s : State) : Option (AcqTask × Nat) :=
  (sortBy (taskBefore s) (s.acq.queue.filterMap (reclassed s))).findSome? fun t => (channelFor s t).map fun k => (t, k)

/-- A task takes a lane and its channel. -/
def startTask (n : Fin 16) (x : AcqTask) (k : Nat) (t : State) : State :=
  let u := { t with acq := { t.acq with
    queue := t.acq.queue.filter fun y => y.target != x.target, turn := if x.cls = 4 then some x.target.sat.const else t.acq.turn } }
  beginRun n x ⟨k % 1536, Nat.mod_lt _ (by decide)⟩ (firstTier u x.target) (chanMod k (fun c => { c with reserved := some x.target }) u)

/-- ACQ_TASK_START (04_acquisition R91): the predictions are brought up to date, the signals offered enter the queue as the rules class them, and the first waiting task
with a channel takes a lane. -/
def execAcqTaskStart (offers : List SearchTarget) (s : State) : Result :=
  let t := offers.foldl offerTask (refreshViews s)
  if lanesRun t = false ∨ modeLanes t ≤ (runs t).length then .next t else
  match nextTask t, (List.finRange 16).find? fun n => (t.acq.lane[n]).isNone with
  | some (x, k), some n => .next (startTask n x k t)
  | _, _ => .next t

/-- ACQ_RECORD_COMPLETE (04_acquisition R79): once the record's length has passed. -/
def execAcqRecordComplete (n : SearchLane) (s : State) : Result :=
  match s.acq.lane[n] with
  | some r =>
    match r.dwell with
    | .replay t => .next { s with acq := { s.acq with
        pool := s.acq.pool.map fun p => if p.key = r.key ∧ p.tick = t ∧ t + recordTicks p ≤ s.sky.tick then { p with full := true } else p } }
    | .live _ => .next s
  | none => .next s

/-! ### Steps (04_acquisition R76, R80, R87–R89) -/

/-- The dwell of a run is at hand. -/
def dwellReady (s : State) (r : LaneRun) : Bool :=
  match r.dwell with
  | .live t => decide (t + msTicks (r.coh * stepNc s r) ≤ s.sky.tick)
  | .replay t => s.acq.pool.any fun p => p.key == r.key && p.tick == t && p.full

/-- Bin spacing in Hz (04_acquisition R81). -/
def spacing (r : LaneRun) : Rat := 500 / (r.gridCoh : Rat)

/-- Frequency of a bin, as an offset from the carrier. -/
def hitFreq (r : LaneRun) (b : Int) : Rat := r.key.centre + (b : Rat) * spacing r

/-- A code phase in chips carried from a tick to another at a bin's code rate (04_acquisition R76, R90). -/
def carryCode (r : LaneRun) (b : Rat) (chips : Rat) (from_ till : Rat) : Rat :=
  let g := targetInfo r.task.target
  chips + (till - from_) * nominalRate * g.chipHz * (1 + (r.key.centre + b * spacing r) / carrierOf r.task.target)

/-- A group of a step: its bin, the code phase of its first cell in half chips, and its cells (04_acquisition R77, R82). -/
structure StepGroup where
  /-- Bin. -/
  bin : Int
  /-- First cell. -/
  first : Int
  /-- Cells evaluated. -/
  count : Nat

/-- Cells of a group. -/
def groupSize (g : Nat) : Nat := 2046 / g

/-- The groups of a run's step: one block of a bin, or the code window on consecutive bins; the last block of a code and spare groups are cut short. -/
def stepGroups (r : LaneRun) : List StepGroup :=
  let cells := 2 * (targetInfo r.task.target).chips
  match if r.groups = 1 then none else r.window with
  | none =>
    let b := r.blocks.getD (r.step % max 1 r.blocks.length) 0
    [⟨binAt (r.step / max 1 r.blocks.length), 2046 * b, min 2046 (cells - 2046 * b)⟩]
  | some (p, t, w) =>
    (List.range r.groups).filterMap fun g =>
      let i := r.step * r.groups + g
      if binCount r ≤ i then none
      else some ⟨binAt i, roundEven (2 * (carryCode r (binAt i) p t (dwellTick r) - w)), min (groupSize r.groups) cells⟩

/-- An interval of a dwell is left out of z (04_acquisition R80): more than a quarter of it flagged, or, on the combined stream, a recorded weight change in it. -/
def excluded (s : State) (r : LaneRun) (i : Nat) (v : AcqInterval) : Bool :=
  let a := (dwellTick r : Int) + msTicks (r.coh * i)
  decide (v.samples < 4 * v.flagged) ||
    (r.key.combined && s.ary.band[r.key.band].changes.any fun c => decide (a < c) && decide (c < a + msTicks r.coh))

/-- The intervals of a step that count. -/
def keptIvs (s : State) (r : LaneRun) (ivs : List AcqInterval) : List AcqInterval :=
  ((ivs.take (stepNc s r)).zipIdx.filter fun x => !excluded s r x.2 x.1).map (·.1)

/-- z of a cell of a step, over the intervals that count (04_acquisition R76). -/
def zAt (kept : List AcqInterval) (i : Nat) : Rat := (kept.map fun v => cNorm (v.cells.getD i ⟨0, 0⟩)).foldl (· + ·) 0

/-- A peak: its place in the group, z over the noise there, bin and cell. -/
structure Peak where
  /-- Place in the group. -/
  at_ : Nat
  /-- Ratio. -/
  ratio : Rat
  /-- Bin. -/
  bin : Int
  /-- Cell in half chips. -/
  cell : Int

/-- The place with the largest value, the first of equals. -/
def argMax (l : List Rat) : Nat := l.idxOf (l.foldl max (l.headD 0))

/-- z of a place over the mean of the group outside three cells to either side of it (04_acquisition, Detection and verification). -/
def overNoise (z : List Rat) (i : Nat) : Rat :=
  let noise := (z.zipIdx.filter fun x => decide (x.2 + 3 < i) || decide (i + 3 < x.2)).map (·.1)
  quot (z.getD i 0) (meanQ noise)

/-- The peak of a group, the g-th of a step of groups of `size` cells. -/
def groupPeak (kept : List AcqInterval) (size : Nat) (x : StepGroup × Nat) : Peak :=
  let z := (List.range x.1.count).map fun i => zAt kept (x.2 * size + i)
  let i := argMax z
  ⟨i, overNoise z i, x.1.bin, x.1.first + i⟩

/-- Σ_{k<n} x^k / k!, with the next term. -/
def expHead (n : Nat) (x : Rat) : Rat × Rat := (List.range n).foldl (fun (a : Rat × Rat) (k : Nat) => (a.1 + a.2, a.2 * x / (k + 1 : Nat))) (0, 1)

/-- A ratio reaches T(N) for a false-alarm probability of 10^−k (04_acquisition R87): a gamma variate of shape N and mean 1 exceeds it with a probability of at most that.
The probability is e^(−Nr)·Σ_{j<N} (Nr)^j/j!; the exponential is taken over N + 8⌈Nr⌉ + 64 terms of its series, which leaves out less than any ratio can show. -/
def reachesPfa (k n : Nat) (r : Rat) : Bool :=
  let x := (n : Rat) * r
  decide (0 < r) && decide (10 ^ k * (expHead n x).1 ≤ (expHead (n + 8 * (ceilQ x).toNat + 64) x).1)

/-- A ratio reaches T(N) with PFA_EXP. -/
def reachesT (s : State) (n : Nat) (r : Rat) : Bool := reachesPfa (cfg s acqCfgPfaExp) n r

/-- A hit's C/N0 as its ratio gives it. -/
def hitCn0 (r : LaneRun) (ratio : Rat) : Rat := 10 * Config.log10 (quot ((ratio - 1) * 1000) r.coh)

/-- Cross-correlation (04_acquisition R88). -/
def xcorr (s : State) (r : LaneRun) (p : Peak) : Bool :=
  decide (periodMs (targetInfo r.task.target) = 1) && (busyChans s).any fun x =>
    chanRole s x.1 == .nav && followed x.2 && x.2.combined == r.key.combined &&
    (match x.2.target with
     | some g => g.sat != r.task.target.sat && g.sat.const == r.task.target.sat.const && (targetInfo g).band == r.key.band
     | none => false) &&
    (match x.2.cn0 with | some v => decide (hitCn0 r p.ratio + (cfg s acqCfgXcorrDb : Rat) ≤ v) | none => false) &&
    (let df := carrierOf r.task.target + hitFreq r p.bin - (chanCarrier x.2 + x.2.fNco)
     decide (absQ (df - 1000 * (roundEven (df / 1000) : Int)) ≤ spacing r))

/-- The peaks that hit, largest ratio first, tested for cross-correlation until one stands: that one, and how many were rejected. -/
def firstHit (s : State) (r : LaneRun) : List Peak → Option Peak × Nat
  | [] => (none, 0)
  | p :: l => if xcorr s r p then (match firstHit s r l with | (h, n) => (h, n + 1)) else (some p, 0)

/-- The next step of a run, the DEEP tier after FAST, or MISS (04_acquisition R91). A step takes COH as time then allows (R84), and a record goes on serving while it is
long enough; a live step takes a dwell of its own (R79). -/
def advance (n : Fin 16) (r : LaneRun) (s : State) : State :=
  let r' := { r with step := r.step + 1, voids := 0, hit := none, passes := 0, coh := cohInForce s r.task.target r.deep }
  if r'.step < gridSteps r' then
    (match r'.dwell with
    | .live _ => takeDwell n r' false s
    | .replay t => if s.acq.pool.any fun p => p.key == r'.key && p.tick == t && decide (dwellBytes s r' ≤ p.bytes) then setLane n (some r') s
        else takeDwell n r' false s)
  else if r.deep = false ∧ tierNc s r.task.target.sig true ≠ 0 then beginRun n r.task r.chan true s
  else enqueueTask r.task (endLane n r s)

/-- A lane loses its task at this step boundary (04_acquisition R92, Table 04-4): what becomes of it. A hit that was verifying is discarded as the later one. -/
def boundaryEnd (n : Fin 16) (r : LaneRun) (s : State) : Option State :=
  let order := sortBy (fun (a b : Fin 16 × LaneRun) => taskBefore s a.2.task b.2.task) (runs s)
  if trackedOn s r.task.target r.key.combined r.chan.val then some (bumpIf r.hit.isSome cAcqDupHits (endLane n r s))
  else if (order.drop (modeLanes s)).any fun x => x.1 == n then some (bump cAcqTasksAbandoned (headTask r.task (endLane n r s)))
  else if (chanGet s r.chan.val).reserved ≠ some r.task.target ∨ (smallBank s ∧ 48 ≤ r.chan.val) then some (enqueueTask r.task (endLane n r s))
  else if r.restart then some (bump cAcqRestarts (beginRun n r.task r.chan (firstTier s r.task.target) s))
  else none

/-- A void step counts, and is repeated with fresh data up to three times (04_acquisition R80); then `skip`. -/
def voidStep (n : Fin 16) (r : LaneRun) (skip : State → State) (s : State) : State :=
  let u := bump cAcqVoidSteps s
  if r.voids < 3 then takeDwell n { r with voids := r.voids + 1, coh := cohInForce s r.task.target r.deep } true u else skip u

/-- A peak hits: its verification takes fresh data. -/
def takeHit (n : Fin 16) (r : LaneRun) (p : Peak) (s : State) : State :=
  bump cAcqHits (takeDwell n { r with hit := some ⟨p.ratio, p.cell, p.bin, (0, 0)⟩, passes := 0, voids := 0, coh := cohInForce s r.task.target r.deep } true s)

/-- The code phase of a hit carried to the dwell that verifies it, which starts at a later tick. -/
def rebase (r : LaneRun) (t : Nat) : LaneRun :=
  match r.hit with
  | none => r
  | some h => { r with hit := some { h with cell := roundEven (2 * carryCode r h.bin ((h.cell : Rat) / 2) t (dwellTick r)) } }

/-- Carry the hit of a lane to its present dwell from the one that began at a tick. -/
def rebaseLane (n : Fin 16) (t : Nat) (s : State) : State := match s.acq.lane[n] with | some r => setLane n (some (rebase r t)) s | none => s

/-- ACQ_STEP (04_acquisition R76, R80, R87, R88): the intervals of the step's dwell have been correlated. -/
def execAcqStep (n : SearchLane) (ivs : List AcqInterval) (s : State) : Result :=
  match s.acq.lane[n] with
  | none => .next s
  | some r =>
    if lanesRun s = false ∨ r.hit.isSome ∨ dwellReady s r = false then .next s else
    let t := bump cAcqSteps s
    match boundaryEnd n r t with
    | some u => .next u
    | none =>
      let kept := keptIvs s r ivs
      if 2 * kept.length < r.nc then .next (voidStep n r (advance n r) t)
      else
        let peaks := (stepGroups r).zipIdx.map (groupPeak kept (groupSize r.groups))
        let hits := sortBy (fun (a b : Peak) => decide (b.ratio < a.ratio)) (peaks.filter fun p => reachesT s r.nc p.ratio)
        let (h, k) := firstHit t r hits
        let u := (List.range k).foldl (fun v _ => bump cAcqXcorrReject v) t
        .next (match h with
          | some p => rebaseLane n (dwellTick r) (takeHit n r p u)
          | none => advance n r u)

/-- Vertex of the parabola through three equally spaced values, from the middle one, in spacings (04_acquisition R89). -/
def vertex (a b c : Rat) : Rat := quot (a - c) (2 * (a - 2 * b + c))

/-- What a verification finds (04_acquisition R89), its step being three groups of the size of G = 16, on the hit bin, the one above and the one below, each from 63 cells
before the hit cell: the largest of the 15 cells over its noise, and the parabolas through its neighbours in code and through the three bins. -/
def verifyPeak (kept : List AcqInterval) : Rat × Rat × Rat :=
  let z (g i : Nat) : Rat := zAt kept (groupSize 16 * g + i)
  let cells : List (Nat × Nat) := (List.range 3).flatMap fun g => (List.range 5).map fun i => (g, 61 + i)
  let best := cells.foldl (fun b x => if z b.1 b.2 < z x.1 x.2 then x else b) (0, 61)
  let group := (List.range (groupSize 16)).map (z best.1)
  let i := best.2
  (overNoise group i, (i : Rat) - 63 + vertex (z best.1 (i - 1)) (z best.1 i) (z best.1 (i + 1)), vertex (z 2 i) (z 0 i) (z 1 i))

/-- ACQ_VERIFY (04_acquisition R89): the largest of the 15 cells reaches T for NC × VER_MULT, or the search goes on after the step that hit. A verification that stays void
counts as failed. -/
def execAcqVerify (n : SearchLane) (ivs : List AcqInterval) (s : State) : Result :=
  match s.acq.lane[n] with
  | none => .next s
  | some r =>
    if lanesRun s = false ∨ 2 ≤ r.passes ∨ dwellReady s r = false then .next s else
    match r.hit with
    | none => .next s
    | some h =>
      let t := bump cAcqSteps s
      let failed (u : State) : State := bump cAcqFalseHits (advance n r u)
      match boundaryEnd n r t with
      | some u => .next u
      | none =>
        let kept := keptIvs s r ivs
        if 2 * kept.length < stepNc s r then .next (rebaseLane n (dwellTick r) (voidStep n r failed t))
        else
          let (ratio, c, f) := verifyPeak kept
          if reachesT s (stepNc s r) ratio = false then .next (failed t)
          else
            let r' := { r with hit := some { h with fine := (c, f) }, passes := r.passes + 1, voids := 0 }
            .next (if r'.passes < 2 then rebaseLane n (dwellTick r) (takeDwell n { r' with coh := cohInForce s r.task.target r.deep } true t)
              else setLane n (some r') t)

/-- HANDOVER (04_acquisition R89, R90, 05_tracking R104): PULL on the reserved channel with the refined frequency, and the refined code phase carried from the second
verification's first sample to the handover tick. -/
def execHandover (n : SearchLane) (s : State) : Result :=
  match s.acq.lane[n] with
  | none => .next s
  | some r =>
    match r.hit with
    | none => .next s
    | some h =>
      if r.passes < 2 then .next s
      else if tracked s r.task.target r.chan.val then .next (bump cAcqDupHits (endLane n r s))
      else if (chanGet s r.chan.val).reserved ≠ some r.task.target then .next (enqueueTask r.task (endLane n r s))
      else
        let g := targetInfo r.task.target
        let b := (h.bin : Rat) + h.fine.2
        let f := r.key.centre + b * spacing r
        let chips := carryCode r b (((h.cell : Rat) + h.fine.1) / 2) (dwellTick r) s.sky.tick
        let c : Chan := {
          st := .pull, target := some r.task.target, combined := r.key.combined, entered := s.sky.tick, last := s.sky.tick, coh := r.coh,
          vel := Config.twoPi * f, fNco := f, codeRate := (g.chipHz : Rat) * (1 + f / carrierOf r.task.target), tx := chipsOf r.task.target (chips / g.chipHz),
          task := some r.task }
        let c := { c with tx := c.tx / g.chipHz }
        .next (bump cAcqHandovers (setLane n none (chanSet r.chan.val c s)))

/-! ### Status (04_acquisition R96) -/

/-- ACQ.STATUS (04_acquisition Table 04-9). -/
def acqStatus (s : State) : Nat :=
  let time := match uncNs s with | some u => decide (u < 500000) | none => false
  packFields [(0, 5, (runs s).length), (8, 8, min 255 s.acq.queue.length), (16, 1, b2n time),
    (17, 1, b2n (s.acq.pos.isSome || s.sol.lastPos.isSome)), (18, 1, b2n ((runs s).any fun x => x.2.assist == some true)), (19, 1, b2n (modelFresh s))]

end Sys2Proof.Machine
end

