-- ==== Sys2Proof/Machine/Card.lean ====
section
/-!
DEFINITION. The card ports (18_host_ports R454–R456).
-/

namespace Sys2Proof.Machine

/-- A bit of byte 0x00 of the card port window: RST 0, CLK_EN 1, T0 2, RX_WAKE 3, TX_WAKE 4. -/
def cardBit (s : State) (p : Polder) (b : Nat) : Bool := winBit s p 0xC800 b

/-- The key flow of boot drives the port (12_polders R324, 18_host_ports R454). -/
def keyFlow (s : State) (p : Polder) : Bool :=
  match s.pld[p].key with | .resetLow => true | .awaitAtr => true | .unwrap => true | .getResponse => true | _ => false

/-- Supply of a card port in mV: its LDO at VOLT while its domain is on (18_host_ports R454). -/
def cardVolts (s : State) (p : Polder) : Nat := if domOn s (.pld p) = false then 0 else if cfgAt s hstCardVolt p.val = 1 then 3000 else 1800

/-- CPn_CLK in kHz: FREQ while the clock runs (18_host_ports R454). -/
def cardKHz (s : State) (p : Polder) : Nat := if keyFlow s p || cardBit s p 1 then cfgAt s hstCardFreq p.val else 0

/-- Ticks that `n` card clocks take. -/
def cardTicks (s : State) (p : Polder) (n : Nat) : Nat := ceilDiv (n * 491520) (cfgAt s hstCardFreq p.val)

/-- Ticks that `n` ETU take. -/
def etuTicks (s : State) (p : Polder) (n : Nat) : Nat := cardTicks s p (n * winNat s p 0xC802 2)

/-- Card clocks since the release of CPn_RST_N. -/
def cardClocks (s : State) (p : Polder) : Rat :=
  let h := s.hst.pol[p]
  h.cardClocks + ((s.sky.tick : Rat) - h.cardTick) * cardKHz s p / 491520

/-- CPn_RST_N is released: TS is awaited, the transmit FIFO is cleared (18_host_ports R455, Table 18-8). -/
def cardRelease (p : Polder) (s : State) : State :=
  modH p (fun h => { h with
    awaitTs := true, conv := false, tsBad := false, atrTimeout := false, cardTx := [], cardRetry := 0, cardClocks := 0, cardTick := s.sky.tick }) s

/-- A write of byte 0x00 of the window. -/
def cardControl (p : Polder) (v : Byte) (s : State) : State :=
  let was := cardBit s p 0
  let t := winStore p 0xC800 v (modH p (fun h => { h with cardClocks := cardClocks s p, cardTick := s.sky.tick }) s)
  if was = false ∧ v.getLsbD 0 then cardRelease p t
  else if was ∧ v.getLsbD 0 = false then modH p (fun h => { h with awaitTs := false }) t
  else t

/-- A character's byte in direct convention: least significant bit first, high is 1. -/
def directByte (bits : BitVec 9) : Byte := bits.setWidth 8

/-- A character's byte in inverse convention: most significant bit first, low is 1. -/
def inverseByte (bits : BitVec 9) : Byte := (~~~(directByte bits)).reverse

/-- Ones among 9 bits. -/
def ones9 (bits : BitVec 9) : Nat := ((List.range 9).filter fun i => bits.getLsbD i).length

/-- The even parity of a character fails in a convention: an odd number of ones, counted on the logic levels. -/
def parityBad (inverse : Bool) (bits : BitVec 9) : Bool := (if inverse then 9 - ones9 bits else ones9 bits) % 2 == 1

/-- Queue a character: 32 entries; one that finds no room is lost and marks the next (18_host_ports Table 18-7). -/
def cardPush (p : Polder) (v : Byte) (pe : Bool) (gap : Nat) (s : State) : State :=
  let h := s.hst.pol[p]
  if 32 ≤ h.cardRx.length then modH p (fun x => { x with cardOvr := true }) s
  else
    let e : BitVec 32 := BitVec.ofNat 32 (packFields [(0, 8, v.toNat), (8, 1, if pe then 1 else 0), (9, 1, if h.cardOvr then 1 else 0), (16, 16, min gap 65535)])
    let t := modH p (fun x => { x with cardRx := x.cardRx ++ [e], cardOvr := false }) s
    if cardBit t p 3 then raisePend p 7 t else t

/-- CARD_CHAR_RECEIVE (18_host_ports R455, R456): 8 data bits and parity as levels in the order of arrival, and the gap in ETU. -/
def execCardCharReceive (p : Polder) (bits : BitVec 9) (gap : Nat) (s0 : State) : Result :=
  let boot := keyFlow s0 p
  let h := s0.hst.pol[p]
  if domOn s0 (.pld p) = false ∨ h.cardTx ≠ [] ∨ (boot = false ∧ (cardBit s0 p 0 = false ∨ cardBit s0 p 1 = false)) then .next s0 else
  let inv := if h.awaitTs then inverseByte bits == 0x3F && !parityBad true bits else h.conv
  let direct := directByte bits == 0x3B
  let s := if h.awaitTs then modH p (fun x => { x with awaitTs := false, conv := inv, tsBad := !inv && !direct }) s0 else s0
  if boot then
    .next (if s.pld[p].key = .awaitAtr ∧ h.awaitTs then modP p (fun q => { q with key := .unwrap }) s else s)
  else
    let v := if inv then inverseByte bits else directByte bits
    let bad := parityBad inv bits
    if bad ∧ cardBit s p 2 then .next (ctrAdd (pHstCpParity p) 1 (modH p (fun x => { x with cardNak := true }) s))
    else .next (cardPush p v bad gap (modH p (fun x => { x with cardNak := false }) s))

/-- Spacing of the characters that the port sends, in ETU from start bit to start bit (18_host_ports R456). -/
def cardSpacing (s : State) (p : Polder) : Nat :=
  let egt := winNat s p 0xC804 1
  if egt = 255 then (if cardBit s p 2 then 12 else 11) else 12 + egt

/-- CARD_CHAR_SEND (18_host_ports R456): 11 ETU into the character at the head of the transmit FIFO; `err` is a low level seen then. A repetition starts 2 ETU later,
the next character at its spacing. -/
def execCardCharSend (p : Polder) (err : Bool) (s : State) : Result :=
  let h := s.hst.pol[p]
  if h.cardTx = [] ∨ domOn s (.pld p) = false ∨ cardBit s p 0 = false ∨ cardBit s p 1 = false ∨ s.sky.tick < h.cardNext then .next s
  else if err ∧ cardBit s p 2 then
    if h.cardRetry < winNat s p 0xC805 1 then .next (modH p (fun x => { x with cardRetry := x.cardRetry + 1, cardNext := s.sky.tick + etuTicks s p 13 }) s)
    else
      let t := modH p (fun x => { x with cardTx := [], cardRetry := 0, txFail := true, cardNext := s.sky.tick + etuTicks s p (cardSpacing s p) }) s
      .next (if cardBit s p 4 then raisePend p 7 t else t)
  else
    let t := modH p (fun x => { x with cardTx := x.cardTx.drop 1, cardRetry := 0, cardNext := s.sky.tick + etuTicks s p (cardSpacing s p) }) s
    .next (if h.cardTx.length = 1 ∧ cardBit s p 4 then raisePend p 7 t else t)

/-- A write of TX_DATA; the first byte of an empty FIFO starts at once where its spacing allows. -/
def cardSend (p : Polder) (v : Byte) (s : State) : State :=
  if 16 ≤ s.hst.pol[p].cardTx.length then ctrAdd (pHstCpTxOvf p) 1 s
  else modH p (fun x => { x with
    cardTx := x.cardTx ++ [v], cardNext := if x.cardTx = [] then max x.cardNext (s.sky.tick + etuTicks s p 11) else x.cardNext }) s

/-- RX_POP. -/
def cardPop (p : Polder) (s : State) : State := modH p (fun x => { x with cardRx := x.cardRx.drop 1 }) s

/-- A read of a byte that the device drives (18_host_ports Table 18-7). -/
def cardRead (s : State) (p : Polder) (a : Nat) : Byte :=
  let h := s.hst.pol[p]
  let b (x : Bool) : Nat := if x then 1 else 0
  roByte a [(0xC801, 0, 1, b h.conv), (0xC801, 1, 1, b h.tsBad), (0xC801, 2, 1, b h.atrTimeout), (0xC801, 3, 1, b h.txFail), (0xC806, 0, 6, h.cardRx.length),
    (0xC808, 0, 32, match h.cardRx with | e :: _ => e.toNat | [] => 0), (0xC811, 0, 5, 16 - h.cardTx.length)]

/-- The card port of a restarted or dry polder: its registers at their defaults, its queues empty. -/
def cardReset (p : Polder) (s : State) : State :=
  modH p (fun h => { h with
    conv := false, tsBad := false, atrTimeout := false, txFail := false, awaitTs := false, cardRx := [], cardOvr := false, cardTx := [], cardRetry := 0,
    cardClocks := 0, cardTick := s.sky.tick, cardNext := 0, cardNak := false }) s

end Sys2Proof.Machine
end

