-- ==== Sys2Proof/Machine/Radio.lean ====
section
/-!
DEFINITION. Radio control and the regulatory guard (11_radio_control): profiles in OTP, selection by position, the admission of an
emission, quiet transit and the coexistence wires.
-/

namespace Sys2Proof.Machine

/-! ### Profiles in OTP (11_radio_control R284–R286) -/

/-- Bits of the OTP guard area (17_boot_image Table 17-8: it begins at bit 512). -/
def otpBits (s : State) (lo w : Nat) : Nat := getBits s.boot.otp (512 + lo) w

/-- First bit of profile `n` (1–15) in the guard area: 464 bytes each behind the 16-byte header. -/
def profBase (n : Nat) : Nat := 128 + (n - 1) * 3712

/-- A field of profile `n`'s header (Table 11-3). -/
def profHdr (s : State) (n lo w : Nat) : Nat := otpBits s (profBase n + lo) w

/-- A field of sub-band `k` of profile `n` (Table 11-4). -/
def subFld (s : State) (n k lo w : Nat) : Nat := otpBits s (profBase n + 128 + 192 * k + lo) w

/-- A field of box `b` of profile `n` (Table 11-5). -/
def boxFld (s : State) (n b lo w : Nat) : Nat := otpBits s (profBase n + 1664 + 64 * b + lo) w

/-- Sub-bands that a profile uses. -/
def subCount (s : State) (n : Nat) : Nat := profHdr s n 0 3 + 1

/-- Boxes that a profile uses, of 32. -/
def boxCount (s : State) (n : Nat) : Nat := min 32 (profHdr s n 3 6)

/-- ACK_EXEMPT of a profile. -/
def ackExempt (s : State) (n : Nat) : Bool := profHdr s n 9 1 == 1

/-- ANT_GAIN in 0.25 dBi. -/
def antGain (s : State) : Int := sext 8 (otpBits s 16 8)

/-- Edges of a sub-band in Hz. -/
def subLo (s : State) (n k : Nat) : Rat := 1000 * (subFld s n k 0 20 : Rat)
/-- Upper edge in Hz. -/
def subHi (s : State) (n k : Nat) : Rat := 1000 * (subFld s n k 20 20 : Rat)

/-- Profile `n` is programmed (Table 11-2). -/
def profValid (s : State) (n : Nat) : Bool := otpBits s n 1 == 1

/-- A programmed profile that the guard treats as absent (11_radio_control R285). -/
def profBad (s : State) (n : Nat) : Bool :=
  let subs := List.range (subCount s n)
  subs.any (fun k => decide (subHi s n k ≤ subLo s n k) || subFld s n k 100 14 == 0) ||
  subs.any (fun k => subs.any fun j => decide (k < j) && decide (subLo s n k < subHi s n j) && decide (subLo s n j < subHi s n k)) ||
  (List.range (boxCount s n)).any (fun b => decide (sext 16 (boxFld s n b 16 16) < sext 16 (boxFld s n b 0 16)))

/-- Profiles 1–15. -/
def profiles : List Nat := [1, 2, 3, 4, 5, 6, 7, 8, 9, 10, 11, 12, 13, 14, 15]

/-- Profiles that pass R285, as a set of bits. -/
def profPresent (s : State) : Nat := (profiles.map fun n => if profValid s n && !profBad s n then 2 ^ n else 0).sum

/-- Largest OFF_MIN among the profiles that pass R285, in ms (11_radio_control R291). -/
def offMinMax (s : State) : Nat :=
  (profiles.map fun n => if profValid s n && !profBad s n then
    ((List.range (subCount s n)).map fun k => subFld s n k 154 16).foldl max 0 else 0).foldl max 0

/-- The check of R285 at boot, with its records and counts. -/
def guardBoot (s : State) : State :=
  let s1 := { s with rfc := { s.rfc with present := profPresent s } }
  profiles.foldl (fun t n => if profValid s n && profBad s n then recB 1 0x0B01 (leBytes 1 n) (bump cRfcProfileInvalid t) else t) s1

/-! ### Status (11_radio_control R305) -/

/-- Quiet transit or the pin is in force. -/
def inhibited (s : State) : Bool := s.rfc.quiet || s.rfc.pin

/-- Seconds left under R289 while a set is held. -/
def holdLeft (s : State) : Nat :=
  if s.rfc.basis = 2 then (match s.rfc.lastQual with | some q => (600 - (stNow s - q)).floor.toNat | none => 0) else 0

/-- RFC.STATUS as one number (11_radio_control Table 11-11). -/
def rfcStatus (s : State) : Nat :=
  packFields [(0, 16, s.rfc.set), (16, 2, s.rfc.basis), (18, 1, b2n (inhibited s)), (19, 2, s.rfc.qCause), (21, 1, b2n s.rfc.pri),
    (22, 10, min 1023 (holdLeft s))]

/-- Write RFC.STATUS. -/
def publishRfc (s : State) : State := basinPut 0xE0C8 (leBytes 4 (rfcStatus s)) s

/-- The set permits transmission: it holds a profile, and not profile 0. -/
def setTransmits (s : State) : Bool := s.rfc.set % 2 == 0 && s.rfc.set != 0

/-- Profiles of the set. -/
def setProfiles (s : State) : List Nat := profiles.filter fun n => s.rfc.set.testBit n

/-! ### Selection by position (11_radio_control R287–R289) -/

/-- A published solution as the guard takes it. -/
structure GuardSol where
  /-- PVT_VALID. -/
  pvtValid : Bool
  /-- VEL_VALID. -/
  velValid : Bool
  /-- PL_VALID. -/
  plValid : Bool
  /-- INTEG_FAIL. -/
  integFail : Bool
  /-- HPL in cm. -/
  hpl : Nat
  /-- Position. -/
  pos : Position
  /-- VE in mm/s. -/
  ve : Int
  /-- VN in mm/s. -/
  vn : Int
  /-- VU in mm/s. -/
  vu : Int

/-- A remainder in [0, m). -/
def modQ (q m : Rat) : Rat := q - m * (q / m).floor

/-- The position lies inside a box widened by HPL on every side (11_radio_control R287). Degrees; r_E = 6,371,000 m. -/
def inWidened (s : State) (n b hpl : Nat) (p : Position) : Bool :=
  let lat : Rat := (p.lat : Rat) / 1000000000
  let lon : Rat := (p.lon : Rat) / 1000000000
  let wid := Config.radToDeg ((hpl : Rat) / 100 / 6371000)
  let so := max (-90) ((sext 16 (boxFld s n b 0 16) : Rat) / 100 - wid)
  let no := min 90 ((sext 16 (boxFld s n b 16 16) : Rat) / 100 + wid)
  let we := (sext 16 (boxFld s n b 32 16) : Rat) / 100
  let ea := (sext 16 (boxFld s n b 48 16) : Rat) / 100
  let c := Config.cosDeg lat
  let pole := absQ lat == 90 || c == 0
  let wlon := if pole then 180 else wid / c
  let span := if we ≤ ea then ea - we else ea - we + 360
  let all := pole || decide (180 ≤ wlon) || decide (360 ≤ span + 2 * wlon)
  decide (so ≤ lat) && decide (lat ≤ no) && (all || decide (modQ (lon - (we - wlon)) 360 ≤ span + 2 * wlon))

/-- The set that a qualifying solution selects: every candidate, else profile 0 alone. -/
def selectedSet (s : State) (hpl : Nat) (p : Position) : Nat :=
  let l := profiles.filter fun n => s.rfc.present.testBit n && (List.range (boxCount s n)).any fun b => inWidened s n b hpl p
  if l.isEmpty then 1 else (l.map fun n => 2 ^ n).sum

/-- Horizontal speed above a limit in mm/s. -/
def speedAbove (m : MotionSample) (lim : Int) : Bool := decide (lim * lim < m.ve * m.ve + m.vn * m.vn)

/-- A solution that meets an entry limit of quiet transit (11_radio_control R288, R297): speed > 70 m/s or VU > 5 m/s. -/
def meetsEntry (m : MotionSample) : Bool := m.usable && (speedAbove m 70000 || decide (5000 < m.vu))

/-- Slow and level: speed < 30 m/s and |VU| ≤ 1 m/s (11_radio_control R296, R298). -/
def slowLevel (m : MotionSample) : Bool :=
  decide (m.ve * m.ve + m.vn * m.vn < 30000 * 30000) && decide (-1000 ≤ m.vu) && decide (m.vu ≤ 1000)

/-- The set in force changes (11_radio_control R288). -/
def applySet (n : Nat) (s : State) : State :=
  let t := { s with rfc := { s.rfc with set := n, setNext := none } }
  publishRfc (if n = s.rfc.set then t else bump cRfcProfileChanges t)

/-- PROFILE_SET_CHANGE (11_radio_control R288): a new set takes effect at a slot boundary. -/
def execProfileSetChange (s : State) : Result :=
  .next (match s.rfc.setNext with | some n => applySet n s | none => s)

/-- PROFILE_HOLD_EXPIRY (11_radio_control R289): 600 s without a qualifying solution. -/
def execProfileHoldExpiry (s : State) : Result :=
  .next (match s.rfc.lastQual with
    | some q => if 600 ≤ stNow s - q ∧ s.rfc.basis ≠ 3 then
        let t := applySet 1 { s with rfc := { s.rfc with basis := 3 } }
        if s.rfc.set = 1 then t else bump cRfcHoldExpired t
      else s
    | none => s)

/-! ### The sequencer and the end of emissions (11_radio_control R281, R282, R293) -/

/-- Owner of an emission in the duty account: polder, or 8 for the common owner. -/
def emissionOwner : EmissionKind → Nat
  | .launch p _ _ => p.val
  | .ack p _ => p.val
  | .beacon => 8

/-- Charge duty: to the bin of the first chip (11_radio_control R293); uses older than the window leave the account. -/
def chargeDuty (e : Emission) (use : Rat) (s : State) : State :=
  let bin := (e.t0 / 10).floor.toNat
  { s with rfc := { s.rfc with
    duty := ⟨emissionOwner e.kind, e.chan.val, bin, use⟩ :: s.rfc.duty.filter fun d => decide (bin ≤ d.bin + 361),
    lastEnd := ((emissionOwner e.kind, e.chan.val), e.t0 + use) ::
      s.rfc.lastEnd.filter fun x => x.1 != (emissionOwner e.kind, e.chan.val) } }

/-- Levels of the sequencer's pins: LSW2 to LSW0, LLNA_EN, LPA_EN, and the LPA_BIAS code (11_radio_control Table 11-1). -/
structure RfPins where
  /-- LSW. -/
  lsw : Nat
  /-- LLNA_EN. -/
  llna : Bool
  /-- LPA_EN. -/
  lpa : Bool
  /-- LPA_BIAS. -/
  bias : Rat
  deriving DecidableEq, Repr

/-- The pins in a state of the sequencer. -/
def seqPins (s : State) : RfState → RfPins
  | .off => ⟨cfg s rfcCfgLswOff, false, false, 0⟩
  | .rx => ⟨cfg s rfcCfgLswRx, true, false, 0⟩
  | .txi => ⟨cfg s rfcCfgLswTxi, false, false, 0⟩
  | .txe => ⟨cfg s rfcCfgLswTxe, false, true, cfg s rfcCfgBiasOn⟩

/-- The pins at an ST (11_radio_control R282): of an emission on its way, RX until PA_LEAD before its first chip, then the switches, 0.2 µs later LPA_EN and the linear
ramp of LPA_BIAS. -/
def rfPins (s : State) (t : Rat) : RfPins :=
  match s.lnk.air with
  | none => seqPins s s.rfc.seq
  | some e =>
    let tx := seqPins s s.rfc.seq
    let a := e.t0 - (cfg s rfcCfgPaLead : Rat) / 10000000
    let b := a + 2 / 10000000
    if t < a then seqPins s .rx
    else if t < b then { tx with lpa := false, bias := 0 }
    else { tx with bias := tx.bias * min 1 ((t - b) * 10000000 / cfg s rfcCfgBiasRamp) }

/-- The path back in RX, COEX_REQ low (11_radio_control R282, R300); the synthesizer locks to its receive setting after two counts of 4 µs at the least and t_LSLOCK at
the most (16_clocks R409, Table 16-3). -/
def pathToRx (s : State) : State :=
  let (n, t) := takeFree s
  { t with rfc := { t.rfc with seq := .rx, req := false }, clk := { t.clk with lsynTx := false, lsynRxAt := stNow t + (8000 + n % 22001 : Nat) / 1000000000 } }

/-! ### Admission (11_radio_control R290–R294) -/

/-- Chip rate of a channel in Hz (10_tag_link Table 10-13). -/
def chipRate (s : State) (ch : Nat) : Nat :=
  match cfgAt s lnkChanChip ch with | 0 => 2000000 | 1 => 1000000 | _ => 250000

/-- The occupied band of a channel, centre ± 0.75 × R_c, lies in sub-band `k` of profile `n`. -/
def inSub (s : State) (n k ch : Nat) : Bool :=
  let fc : Rat := cfgAt s lnkChanFreq ch
  let h : Rat := 3 / 4 * chipRate s ch
  decide (subLo s n k ≤ fc - h) && decide (fc + h ≤ subHi s n k)

/-- The used sub-band of profile `n` in which a channel lies. -/
def subOf (s : State) (n ch : Nat) : Option Nat := (List.range (subCount s n)).find? fun k => inSub s n k ch

/-- The raster permits the channel's centre (Table 11-4, with the image's MASK_AND). -/
def rasterOk (s : State) (n k ch : Nat) : Bool :=
  let step := subFld s n k 40 12
  let mask := subFld s n k 52 32 &&& cfgAt s rfcTightenMaskAnd (n - 1)
  let off : Rat := (cfgAt s lnkChanFreq ch : Rat) - subLo s n k
  if step = 0 then true
  else
    let q := off / (1000 * step)
    q.den == 1 && decide (0 ≤ q) && decide (q < 32) && mask.testBit q.floor.toNat

/-- Effective listen time of a sub-band in µs (11_radio_control R286). -/
def listenTime (s : State) (n k : Nat) : Nat := subFld s n k 122 16 + 10 * cfgAt s rfcTightenLbtAdd (n - 1)

/-- Share of an owner in %. -/
def dutyShare (s : State) (owner : Nat) : Nat := if owner = 8 then cfg s rfcShareShareC else cfgAt s rfcShareShare owner

/-- Duty budget in s of an owner in a sub-band (11_radio_control R293). -/
def dutyBudget (s : State) (n k owner : Nat) : Rat :=
  (subFld s n k 100 14 : Rat) / 10000 * (cfgAt s rfcTightenDutyPct (n - 1) : Rat) / 100 * (dutyShare s owner : Rat) / 100 * 3600

/-- Use in the window of 361 bins, over the channels that lie in the sub-band. -/
def dutyUsed (s : State) (n k owner : Nat) : Rat :=
  let bin := (stNow s / 10).floor.toNat
  ((s.rfc.duty.filter fun d => d.owner == owner && decide (bin ≤ d.bin + 360) && decide (d.bin ≤ bin) && inSub s n k d.chan).map
    fun d => d.use).sum

/-- Profile, band, bandwidth, dwell and gap tests of one profile (11_radio_control R290). -/
def profileOk (s : State) (n owner ch : Nat) (t0 dur : Rat) : Bool :=
  match subOf s n ch with
  | none => false
  | some k =>
    rasterOk s n k ch && decide (1000 * subFld s n k 170 12 ≤ 3 * chipRate s ch / 2) &&
    (subFld s n k 138 16 == 0 || decide (dur * 1000 ≤ subFld s n k 138 16)) &&
    (s.rfc.lastEnd.all fun x => !(x.1.1 == owner && inSub s n k x.1.2) || decide ((subFld s n k 154 16 : Rat) / 1000 ≤ t0 - x.2))

/-- The duty test of one profile. -/
def dutyOk (s : State) (n owner ch : Nat) (dur : Rat) : Bool :=
  match subOf s n ch with
  | none => false
  | some k => decide (dutyUsed s n k owner + dur ≤ dutyBudget s n k owner)

/-- The set's profiles and duty let an emission pass as things stand, and it is not refused yet (11_radio_control R300). -/
def notRefusedYet (s : State) (e : Emission) : Bool :=
  setTransmits s && !(e.decided && e.admitted.isNone) && (setProfiles s).all fun n =>
    profileOk s n (emissionOwner e.kind) e.chan.val e.t0 e.dur && dutyOk s n (emissionOwner e.kind) e.chan.val e.dur

/-- An emission is an acknowledgement. -/
def EmissionKind.isAck : EmissionKind → Bool
  | .ack _ _ => true
  | _ => false

/-- LBT threshold in dBm of a profile in the channel's sub-band, none when it has no LBT there (11_radio_control R294). -/
def lbtThreshold (s : State) (n ch : Nat) : Option Int :=
  match subOf s n ch with
  | none => none
  | some k => if listenTime s n k = 0 then none else some (sext 8 (subFld s n k 114 8) - (cfgAt s rfcTightenLbtLower (n - 1) : Nat))

/-- The span of ST over which LBT senses for an emission that needs it (11_radio_control R294): it ends 10 µs before the first chip, and lasts the longest listen time of
the profiles that count, 100 µs for an acknowledgement. -/
def lbtSpan (s : State) (e : Emission) : Option (Rat × Rat) :=
  let l := ((setProfiles s).filter fun n => !(e.kind.isAck && ackExempt s n) && (lbtThreshold s n e.chan.val).isSome).map fun n =>
    match subOf s n e.chan.val with | some k => listenTime s n k | none => 0
  let len : Nat := if e.kind.isAck then 100 else l.foldl max 0
  if l.isEmpty then none else some (e.t0 - 10 / 1000000 - (len : Rat) / 1000000, e.t0 - 10 / 1000000)

/-- The LBT test: the sensed power at or below the lowest threshold of the profiles that count. -/
def lbtOk (s : State) (isAck : Bool) (ch : Nat) (lbt : Int) : Bool :=
  ((setProfiles s).filter fun n => !(isAck && ackExempt s n)).all fun n =>
    match lbtThreshold s n ch with | none => true | some t => decide (lbt ≤ t)

/-- Why the guard refuses (11_radio_control Table 11-13, and 16_clocks R409). -/
inductive Refused where
  | unlocked | profile | duty | lbt | quiet | alarm | gnt | pri
  deriving DecidableEq, Repr

/-- The first test of R290 that fails, in its order; none when the emission is admitted. -/
def guardTest (s : State) (e : Emission) (lbt : Int) : Option Refused :=
  let o := emissionOwner e.kind
  let l := setProfiles s
  if s.clk.lsynTx = false then some .unlocked
  else if setTransmits s = false ∨ l.all (fun n => profileOk s n o e.chan.val e.t0 e.dur) = false then some .profile
  else if l.all (fun n => dutyOk s n o e.chan.val e.dur) = false then some .duty
  else if lbtOk s e.kind.isAck e.chan.val lbt = false then some .lbt
  else if inhibited s then some .quiet
  else if s.rfc.alarmRx.toList.any id then some .alarm
  else if cfgB s rfcCfgGntEn ∧ s.rfc.gnt = false then some .gnt
  else if cfgB s rfcCfgPriEn ∧ s.rfc.pri then some .pri
  else none

/-- Power in 0.25 dBm after the clamp (11_radio_control R292). -/
def clampPower (s : State) (ch : Nat) (req : Int) : Int :=
  (setProfiles s).foldl (fun q n => match subOf s n ch with
    | none => q
    | some k =>
      let cut : Int := (cfgAt s rfcTightenPCut (n - 1) : Nat)
      min q (min (sext 8 (subFld s n k 84 8) - cut) (sext 8 (subFld s n k 92 8) - cut - antGain s))) req

/-- Count a refusal under its cause, for its owner. -/
def countRefusal (k : EmissionKind) (r : Refused) (s : State) : State :=
  let s := if r = .unlocked then bump cClkLsynUnlocked s else s
  match k with
  | .beacon => bump cRfcCommonDefer s
  | .launch p _ _ | .ack p _ =>
    match r with
    | .unlocked => s
    | .profile => bump (pRfcDeferProfile p) s
    | .duty => bump (pRfcDeferDuty p) s
    | .lbt => bump (pRfcDeferLbt p) s
    | .quiet => bump (pRfcDeferQuiet p) s
    | .alarm => bump (pRfcDeferAlarm p) s
    | .gnt => bump (pRfcDeferGnt p) s
    | .pri => bump (pRfcDeferPri p) s

/-- The instant of an emission's decision, 5 µs before its first chip, has come. -/
def decisionDue (s : State) (e : Emission) : Bool := reached s (e.t0 - 5 / 1000000)

/-- EMISSION_DECISION (11_radio_control R290, R292, R294): at t0 − 5 µs the guard, with the power sensed over lbtSpan and the level of COEX_GNT, admits the emission in preparation at a power, or refuses it. -/
def execEmissionDecision (lbt : Int) (gnt : Bool) (s0 : State) : Result :=
  let s := { s0 with rfc := { s0.rfc with gnt := gnt } }
  match s.lnk.prep with
  | none => .next s
  | some e =>
    if e.decided ∨ decisionDue s e = false then .next s else
    match guardTest s e lbt with
    | some r =>
      .next (countRefusal e.kind r
        { s with lnk := { s.lnk with prep := some { e with decided := true, admitted := none } }, rfc := { s.rfc with req := false } })
    | none =>
      let q := clampPower s e.chan.val e.req
      let s1 := { s with lnk := { s.lnk with prep := some { e with decided := true, admitted := some q } } }
      .next (match e.kind with
        | .launch p _ _ =>
          bumpIf (decide (q < e.req)) (pRfcPowerClamps p) { s1 with rfc := { s1.rfc with lastPwr := s1.rfc.lastPwr.set e.chan (some q) } }
        | .ack p _ => bumpIf (decide (q < e.req)) (pRfcPowerClamps p) s1
        | .beacon => s1)

/-- Budget left to a polder on a channel, in µs (11_radio_control Table 11-12): the least over the set; 0 when not admissible. -/
def dutyLeft (s : State) (p : Polder) (ch : Nat) : Nat :=
  if setTransmits s = false ∨ cfgBAt s lnkChanEn ch = false then 0
  else
    let l := (setProfiles s).map fun n => match subOf s n ch with
      | none => 0
      | some k => if rasterOk s n k ch then ((dutyBudget s n k p.val - dutyUsed s n k p.val) * 1000000).floor.toNat else 0
    min (l.foldl min (2 ^ 32 - 1)) (2 ^ 32 - 1)

end Sys2Proof.Machine
end

