-- ==== Sys2Proof/Machine/Link.lean ====
section
/-!
DEFINITION. The tag link (10_tag_link): frames, slots, contexts, launches, acknowledgements, the beacon and the receive queues,
with the sequencer's cuts (11_radio_control R299–R302).
-/

namespace Sys2Proof.Machine

/-! ### Channels and frames (10_tag_link R249–R252) -/

/-- Bit time of a channel in s: SF × REP / (R_c × m). -/
def bitTime (s : State) (ch : Nat) : Rat :=
  ((8 * 2 ^ cfgAt s lnkChanSf ch * 2 ^ cfgAt s lnkChanRep ch : Nat) : Rat) /
    ((chipRate s ch * (if cfgAt s lnkChanMod ch = 1 then 2 else 1) : Nat) : Rat)

/-- T_pre = 96 × PRE_SF / R_c, in s. -/
def preTime (s : State) (ch : Nat) : Rat := ((96 * (8 * 2 ^ cfgAt s lnkChanPreSf ch) : Nat) : Rat) / (chipRate s ch : Rat)

/-- Duration of a frame with `len` payload bytes (10_tag_link R252). -/
def frameTime (s : State) (ch len : Nat) : Rat := preTime s ch + ((144 + 8 * len : Nat) : Rat) * bitTime s ch

/-- Duration of an acknowledgement: 112 bit times (10_tag_link R258). -/
def ackTime (s : State) (ch : Nat) : Rat := 112 * bitTime s ch

/-- Duration of the beacon: preamble and sync, 36 body bytes and the CRC (10_tag_link R263). -/
def beaconTime (s : State) (ch : Nat) : Rat := preTime s ch + 304 * bitTime s ch

/-- t_TAIL (10_tag_link R262). -/
def tTail : Rat := 32 / 1000000

/-- Time from a launch's scheduled ST to its first chip: the measured t_PIPE (10_tag_link R267). -/
def pipeTime (s : State) : Rat := (s.lnk.pipe : Rat) / 1000000000

/-- A context (10_tag_link R268). -/
def ctxGet (s : State) (k : Nat) : Ctx := sget (fun _ => ({} : Ctx)) s.lnk.ctx k

/-- Change a context. -/
def ctxMod (k : Nat) (f : Ctx → Ctx) (s : State) : State :=
  { s with lnk := { s.lnk with ctx := sset (fun _ => ({} : Ctx)) s.lnk.ctx k (f (ctxGet s k)) } }

/-- The polder that owns a context. -/
def ctxOwner (s : State) (k : Nat) : Option Polder :=
  (List.finRange 8).find? fun p =>
    decide (cfgAt s lnkSlotsCtxFirst p.val ≤ k) && decide (k < cfgAt s lnkSlotsCtxFirst p.val + cfgAt s lnkSlotsCtxCount p.val)

/-- A context lies in a polder's range. -/
def ctxOf (s : State) (p : Polder) (k : Nat) : Bool :=
  decide (cfgAt s lnkSlotsCtxFirst p.val ≤ k) && decide (k < cfgAt s lnkSlotsCtxFirst p.val + cfgAt s lnkSlotsCtxCount p.val)

/-- Nonce of a link CCM (10_tag_link R256). -/
def linkNonce (s : State) (dir ctx fc : Nat) : List Byte := leBytes 1 dir ++ leBytes 2 ctx ++ leBytes 6 s.boot.mark ++ leBytes 4 fc

/-- CCM tag of `n` bytes. -/
def linkMic (s : State) (n dir ctx fc : Nat) (key aad text : List Byte) : List Byte :=
  bytesAt (ccmTag n key (linkNonce s dir ctx fc) aad text) 0 n

/-! ### Slots (10_tag_link R260–R262) -/

/-- Owner of slot `i`: 0–7, or 15 for none. -/
def slotOwner (s : State) (i : Nat) : Nat := cfgAt s lnkSlotsOwner i

/-- Alarm slots are 10 + 20 k. -/
def alarmSlot (i : Nat) : Bool := i % 20 == 10

/-- Superframe (ST second) and slot at an ST. -/
def slotAt (q : Rat) : Nat × Nat := (q.floor.toNat, ((q - q.floor) * 400).floor.toNat)

/-- The link serves a superframe in the mode in force (10_tag_link R260). -/
def served (s : State) (sec : Nat) : Bool :=
  if s.mode.mode = .thin ∨ s.mode.mode = .quiet then sec % cfg s bootModesThinLinkDiv == 0 else true

/-- The link is configured, in a mode and a superframe in which it receives (10_tag_link Table 10-5, R278). -/
def linkRx (s : State) (sec : Nat) : Bool :=
  s.mode.life == .run && s.mode.mode != .layup && (blockOf s 8 0x1011).isSome && domOn s .lnk && served s sec && !s.mode.fallback

/-- Launches and acknowledgements are permitted in the mode and superframe (10_tag_link Table 10-5). -/
def linkTx (s : State) (sec : Nat) : Bool := linkRx s sec && s.mode.mode != .quiet

/-- A span of ST lies in one run of a polder and overlaps neither slot 0 nor an alarm slot nor the beacon's retune at the end of
slot 399 (10_tag_link R260, R262). -/
def inRun (s : State) (p : Polder) (a b : Rat) : Bool :=
  let sec := a.floor
  let i0 := ((a - sec) * 400).floor.toNat
  let i1 := (ceilQ ((b - sec) * 400) - 1).toNat
  let mine := fun i => slotOwner s i == p.val
  let free := fun i => mine i || slotOwner s i == 15
  decide (a < b) && decide (1 ≤ i0) && decide (b ≤ sec + 1 - 60 / 1000000) && decide (i1 ≤ 399) &&
  ((List.range (i1 + 1 - i0)).all fun k => free (i0 + k) && !alarmSlot (i0 + k)) &&
  ((List.range i0).any fun k => decide (k + 1 ≤ i0) && mine (i0 - k) && (List.range (k + 1)).all fun j => free (i0 - j)) &&
  ((List.range (400 - i1)).any fun k => mine (i1 + k) && (List.range (k + 1)).all fun j => free (i1 + j))

/-- Interval of a launch scheduled at an ST (10_tag_link R262). -/
def launchSpan (s : State) (ch len : Nat) (ackReq : Bool) (st : Rat) : Rat × Rat :=
  let last := st + pipeTime s + frameTime s ch len
  (st - 60 / 1000000, if ackReq then last + 154 / 1000000 + ackTime s ch + tTail else last + tTail)

/-- R262 holds for a launch of a polder at an ST. -/
def launchFits (s : State) (p : Polder) (ch len : Nat) (ackReq : Bool) (st : Rat) : Bool :=
  let x := launchSpan s ch len ackReq st
  inRun s p x.1 x.2

/-- The first slot start of a polder at or after an ST at which a launch fits, in a served superframe; searched over the 16 superframes
that any THIN_LINK_DIV spans. -/
def nextSlot (s : State) (p : Polder) (ch len : Nat) (ackReq : Bool) (q : Rat) : Option Rat :=
  let sec0 := q.floor.toNat
  ((List.range 17).filter fun k => served s (sec0 + k)).findSome? fun (k : Nat) =>
    (List.range 400).findSome? fun (i : Nat) =>
      let st : Rat := ((sec0 + k : Nat) : Rat) + (i : Rat) / 400
      if q ≤ st ∧ slotOwner s i = p.val ∧ launchFits s p ch len ackReq st then some st else none

/-! ### Receive queues (10_tag_link R273) -/

/-- Bytes of a record in its context's receive area. -/
def rxSize (r : RxRecord) : Nat := 32 + r.payload.length

/-- Drop one record of a context: the oldest Class 2, else the oldest Class 1, else the oldest Class 0. -/
def rxDrop (ctx : Nat) (q : List RxRecord) : List RxRecord :=
  let has := fun c => q.any fun r => r.ctx == ctx && min r.cls 2 == c
  let c := if has 2 then 2 else if has 1 then 1 else 0
  match q.findIdx? fun r => r.ctx == ctx && min r.cls 2 == c with
  | some i => q.eraseIdx i
  | none => q

/-- Make room for `n` bytes in a context's area of 224 bytes; also the number of records dropped. -/
def rxRoom (ctx n : Nat) : Nat → List RxRecord → List RxRecord × Nat
  | 0, q => (q, 0)
  | k + 1, q =>
    if ((q.filter fun r => r.ctx == ctx).map rxSize).sum + n ≤ 224 then (q, 0)
    else let (q', m) := rxRoom ctx n k (rxDrop ctx q); (q', m + 1)

/-- RX_WAKE. -/
def rxWakeEn (s : State) (p : Polder) : Bool := winBit s p 0xC101 1

/-- Place a record in a polder's receive queue (10_tag_link R273, R279). A dry polder has none. -/
def pushRx (p : Polder) (r : RxRecord) (s : State) : State :=
  if isDry s p then s else
  let q := s.lnk.rxq[p]
  let (q', m) := rxRoom r.ctx (rxSize r) q.length q
  let lost := (ctxGet s r.ctx).lost || decide (0 < m)
  let s1 := ctxMod r.ctx (fun c => { c with lost := false }) s
  let s2 := { s1 with lnk := { s1.lnk with rxq := s1.lnk.rxq.set p (q' ++ [{ r with lost := lost }]) } }
  let s3 := (List.range m).foldl (fun t _ => bump (pLnkRxSpill p) t) s2
  if rxWakeEn s p then raisePend p 11 s3 else s3

/-- Bits of a receive record's header (10_tag_link Table 10-8). -/
def rxHeader (r : RxRecord) : Nat :=
  packFields [(0, 3, r.kind), (3, 10, r.ctx), (13, 3, r.chan), (16, 4, r.type), (20, 2, r.cls), (22, 1, b2n r.ack), (23, 1, b2n r.lost),
    (24, 8, r.payload.length), (32, 32, r.fc), (64, 64, r.st), (128, 16, twos 16 r.afc), (144, 8, twos 8 r.rssi), (152, 3, r.syncErrs),
    (155, 4, r.attempts), (159, 3, r.outcome), (162, 16, r.handle)]

/-- A receive record as bytes. -/
def rxBytes (r : RxRecord) : List Byte := leBytes 32 (rxHeader r) ++ r.payload

/-- The TX_OUTCOME record of a downlink (10_tag_link Table 10-8). -/
def outcomeRecord (ctx : Nat) (d : Downlink) (outcome : Nat) : RxRecord :=
  ⟨2, ctx, d.chan, 1, d.cls, outcome == 0, false, d.fc, d.lastSt, 0, 0, 0, min 15 d.attempts, outcome, d.handle, []⟩

/-! ### Downlink queues -/

/-- Remove a downlink from its context. -/
def dropDown (ctx handle : Nat) (s : State) : State :=
  ctxMod ctx (fun c => { c with queue := c.queue.filter fun d => d.handle != handle }) s

/-- Change a downlink of a context. -/
def modDown (ctx handle : Nat) (f : Downlink → Downlink) (s : State) : State :=
  ctxMod ctx (fun c => { c with queue := c.queue.map fun d => if d.handle == handle then f d else d }) s

/-- Remove the launch entry of a submission, without report. -/
def dropEntry (p : Polder) (handle : Nat) (s : State) : State :=
  { s with sky := { s.sky with entries := s.sky.entries.filter fun e => !(e.owner == p.val && e.kind == 0 && e.arg == handle) } }

/-- A downlink's submission is finished: it leaves its queue with an outcome record (10_tag_link R273). -/
def finishDown (p : Polder) (ctx : Nat) (d : Downlink) (outcome : Nat) (s : State) : State :=
  pushRx p (outcomeRecord ctx d outcome) (dropEntry p d.handle (dropDown ctx d.handle s))

/-- Discard a context's downlink queue, each frame with OUTCOME DISCARDED (10_tag_link R268). -/
def discardQueue (p : Polder) (ctx : Nat) (s : State) : State :=
  (ctxGet s ctx).queue.foldl (fun t d => finishDown p ctx d 3 t) s

/-- A launch is held (10_tag_link R271). -/
def holdDown (p : Polder) (ctx handle : Nat) (s : State) : State :=
  bump (pLnkTxHeld p) (modDown ctx handle (fun d => { d with wait := if d.wait = .retry then .retry else .held }) s)

/-! ### Delivery of a frame -/

/-- Deliver the record of an authenticated frame, with its ACK flag (10_tag_link R258, R265, R273): a duplicate has none; a CLASS 0 frame is
copied to the polder's host queue. -/
def deliver (a : PendingAck) (sent : Bool) (s : State) : State :=
  match a.record with
  | none => s
  | some r =>
    let r' := { r with ack := sent }
    let s1 := pushRx a.polder r' s
    if r.cls = 0 ∧ r.kind = 0 then (recP a.polder 0 1 (rxBytes r') s1).2 else s1

/-- The acknowledgement of a channel is decided: delivered, and counted in ACK_SKIP when it was not sent. -/
def closeAck (ch : Fin 8) (sent : Bool) (s : State) : State :=
  match s.lnk.ackDue[ch] with
  | none => s
  | some a =>
    let s1 := { s with lnk := { s.lnk with ackDue := s.lnk.ackDue.set ch none } }
    let s2 := deliver a sent s1
    if sent then s2 else bump (pLnkAckSkip a.polder) s2

/-! ### Going on air, cuts and ends (10_tag_link R251, 11_radio_control R282, R299, R302) -/

/-- A lost reception counts in RX_BLANKED for the owner of its slot. -/
def blankFor (slot : Nat) (s : State) : State := if h : slotOwner s slot < 8 then bump (pLnkRxBlanked ⟨slotOwner s slot, h⟩) s else s

/-- Every reception in progress is lost and counted in RX_BLANKED for the owner of its slot (10_tag_link R251, R261, Table 10-19). -/
def blankReceptions (s : State) : State :=
  let s1 := { s with lnk := { s.lnk with rx := Vector.replicate 8 none }, rfc := { s.rfc with alarmRx := Vector.replicate 8 false } }
  s.lnk.rx.toList.foldl (fun t r => match r with
    | some r => blankFor (slotAt r.first).2 t
    | none => t) s1

/-- Put the emission in preparation on air. -/
def goOnAir (e : Emission) (s : State) : State :=
  let s1 := blankReceptions s
  { s1 with lnk := { s1.lnk with prep := none, air := some e },
            rfc := { s1.rfc with seq := if cfgB s lnkCfgExtPa then .txe else .txi } }

/-- Cut the emission on air (01_architecture R22, 11_radio_control R293, R302): duty is charged up to the cut, a launch is held and consumes no retry
(10_tag_link R271), an acknowledgement is recorded as not sent (DEDUCED: log entry 100). -/
def cutAir (s : State) : State :=
  match s.lnk.air with
  | none => s
  | some e =>
    let use := clampQ 0 e.dur (stNow s - e.t0)
    let s1 := pathToRx (chargeDuty e use { s with lnk := { s.lnk with air := none } })
    match e.kind with
    | .launch p ctx h => holdDown p ctx h (modDown ctx h (fun d => { d with retries := d.retries - 1 }) s1)
    | .ack _ ch => closeAck ch false s1
    | .beacon => s1

/-- Frame header bits 63:0 (10_tag_link Table 10-2). -/
def frameHeader (type cls ackReq dir ctx len fc : Nat) : Nat :=
  packFields [(0, 4, type), (4, 2, cls), (6, 1, ackReq), (7, 1, dir), (8, 10, ctx), (18, 13, len), (32, 32, fc)]

/-- A downlink frame as sent: header, HCRC, encrypted payload and MIC (10_tag_link R252, R256). -/
def downFrame (s : State) (ctx : Nat) (c : Ctx) (d : Downlink) : List Byte :=
  let h := leBytes 8 (frameHeader 1 d.cls (b2n d.ackReq) 1 ctx d.payload.length c.downFc)
  h ++ leBytes 2 (crc16 h) ++ ccmText c.key (linkNonce s 1 ctx c.downFc) d.payload ++
    linkMic s 8 1 ctx c.downFc c.key h d.payload

/-- Launch a downlink whose emission has been decided (10_tag_link R266–R271, 15_power R390, R391): on air with the next FC and its charge, or
held: refused by the guard, inhibited, in a mode or superframe without transmission, or short of credit. -/
def launchDown (p : Polder) (ctx handle : Nat) (s : State) : State :=
  match (ctxGet s ctx).queue.find? fun d => d.handle == handle with
  | none => { s with lnk := { s.lnk with prep := none } }
  | some d =>
    let sec := stSec s
    match s.lnk.prep with
    | none => holdDown p ctx handle s
    | some e =>
      let mine := e.kind == .launch p ctx handle
      let s0 := if mine then { s with lnk := { s.lnk with prep := none } } else s
      match (if mine && linkTx s sec && !inhibited s && s.lnk.air.isNone then e.admitted else none) with
      | none => holdDown p ctx handle s0
      | some q =>
        let uj := txCharge s q e.dur
        if creditOk s p uj = false then bump (pLnkCreditHeld p) (holdDown p ctx handle s0)
        else
          let c := ctxGet s ctx
          let e' := { e with frame := downFrame s ctx c d }
          let s1 := goOnAir e' (charge p uj s0)
          let s2 := ctxMod ctx (fun c => { c with downFc := (c.downFc + 1) % 2 ^ 32 }) s1
          let s3 := modDown ctx handle (fun d => { d with wait := .onAir, fc := c.downFc, attempts := d.attempts + 1,
                                                           retries := d.retries + 1, lastSt := stWord (stNow s) }) s2
          bumpIf (decide (0 < d.retries)) (pLnkTxRetries p) s3

/-- LAUNCH (10_tag_link R267, 09_sky_time R241): the kind 0 entry of a submission fires, never early, and leaves its completion record. -/
def execLaunch (p : Polder) (handle : Nat) (s : State) : Result :=
  .next (match s.sky.entries.find? fun e => e.owner == p.val && e.kind == 0 && e.arg == handle with
    | none => s
    | some e =>
      if (s.sky.tick : Int) < tickOf s (stOfWord e.st) then s else
      let s1 := pushCompletion p (completionOf s e false) (dropEntry p handle s)
      launchDown p e.op handle s1)

/-- The downlink of a context that waits for a slot: the first that is held or due for a retry, in queue order. -/
def waitingDown (s : State) (ctx : Nat) : Option Downlink :=
  (ctxGet s ctx).queue.find? fun d => d.wait == .held || d.wait == .retry

/-- The scheduled ST of a launch or beacon in preparation has come (10_tag_link R267). -/
def prepDue (s : State) (e : Emission) : Bool := reached s (e.t0 - pipeTime s)

/-- Launch the waiting downlink of a context in the state that its frame awaits, once its emission is decided. -/
def launchWaiting (ctx : Nat) (w : FrameWait) (s : State) : State :=
  match ctxOwner s ctx, waitingDown s ctx, s.lnk.prep with
  | some p, some d, some e =>
    if d.wait = w ∧ e.kind = .launch p ctx d.handle ∧ e.decided ∧ prepDue s e then launchDown p ctx d.handle s else s
  | _, _, _ => s

/-- RETRY (10_tag_link R270). -/
def execRetry (ctx : Nat) (s : State) : Result := .next (launchWaiting ctx .retry s)

/-- RELAUNCH (10_tag_link R271). -/
def execRelaunch (p : Polder) (ctx : Nat) (s : State) : Result :=
  .next (if ctxOwner s ctx = some p then launchWaiting ctx .held s else s)

/-! ### The next emission (16_clocks R409) -/

/-- The beacon period in superframes (10_tag_link R263, R264): 60 silent periods make the gateway lone. -/
def beaconPeriod (s : State) : Nat :=
  (if s.mode.mode = .thin then cfg s bootModesThinLinkDiv else 1) *
    (if s.lnk.lone ∨ 60 ≤ s.lnk.quietBeacons then cfg s lnkCfgIdleDiv else 1)

/-- A beacon may go in the mode in force (10_tag_link Table 10-5). -/
def beaconMode (s : State) : Bool :=
  cfgB s lnkCfgBeaconEn && s.mode.mode != .quiet && s.mode.mode != .layup && (s.mode.mode != .cold || setTransmits s)

/-- The scheduled ST of the next beacon: the next whole second that is a multiple of the period. -/
def nextBeacon (s : State) : Option Rat :=
  if beaconMode s = false then none
  else
    let p := beaconPeriod s
    let k := (ceilQ (stNow s)).toNat
    some (((k + (p - k % p) % p : Nat)) : Rat)

/-- Candidates for the next launch: (polder, context, downlink, scheduled ST). Armed frames go at their ST; retries in the first fitting slot
after RETRY_GAP, held frames in the first fitting slot (10_tag_link R270, R271), which must lie 60 µs ahead for the retune. -/
def launchCandidates (s : State) : List (Polder × Nat × Downlink × Rat) :=
  let soon := stNow s + 60 / 1000000
  (s.lnk.ctx.filterMap fun (k, c) =>
    match ctxOwner s k with
    | none => none
    | some p => if c.state ≠ .active then none else
      match c.queue.find? (fun d => d.wait == .held || d.wait == .retry) with
      | none => none
      | some d =>
        let from_ := if d.wait = .retry then max soon (d.lastChip + (cfg s lnkCfgRetryGap : Rat) / 100) else soon
        (nextSlot s p d.chan d.payload.length d.ackReq from_).map fun st => (p, k, d, st)) ++
  (s.lnk.ctx.flatMap fun (k, c) =>
    match ctxOwner s k with
    | none => []
    | some p => (c.queue.filter fun d => d.wait == .armed && decide (stNow s ≤ d.st)).map fun d => (p, k, d, d.st))

/-- The earliest candidate. -/
def firstCandidate : List (Polder × Nat × Downlink × Rat) → Option (Polder × Nat × Downlink × Rat)
  | [] => none
  | x :: r => match firstCandidate r with
    | none => some x
    | some y => if y.2.2.2 < x.2.2.2 then some y else some x

/-- The acknowledgement due first: earliest last chip, lower channel at a tie (10_tag_link R258). -/
def firstAck (s : State) : Option (Fin 8 × PendingAck) :=
  (List.finRange 8).foldl (fun b ch => match s.lnk.ackDue[ch], b with
    | none, b => b
    | some a, none => some (ch, a)
    | some a, some (c, x) => if a.last < x.last then some (ch, a) else some (c, x)) none

/-- Body of the acknowledgement: CTX, low 16 bits of FC and MORE (10_tag_link R258). -/
def ackBody (s : State) (a : PendingAck) : List Byte :=
  leBytes 4 (packFields [(0, 10, a.ctx), (10, 16, a.fc), (26, 1, b2n (!(ctxGet s a.ctx).queue.isEmpty))])

/-- Body of the beacon with its CRC (10_tag_link Table 10-3): the 4 oldest alarm acknowledgements. -/
def beaconBody (s : State) (sec : Nat) : List Byte :=
  let acks := s.lnk.alarmAcks.take 4
  let entry := fun (x : Nat × Nat) =>
    leBytes 2 (packFields [(0, 10, x.1), (10, 6, x.2)]) ++ linkMic s 4 3 x.1 x.2 (ctxGet s x.1).key [] []
  let body := bytesAt (leBytes 12 (packFields [(0, 48, s.boot.mark), (48, 32, sec), (80, 8, beaconPeriod s), (88, 3, acks.length)]) ++ acks.flatMap entry) 0 36
  body ++ leBytes 2 (crc16 body)

/-- The emission that the link prepares next: an acknowledgement due, else the earlier of the next launch and the beacon. -/
def nextEmission (s : State) : Option Emission :=
  match firstAck s with
  | some (ch, a) =>
    some ⟨.ack a.polder ch, ch, a.last + 150 / 1000000, ackTime s ch.val,
      (match s.rfc.lastPwr[ch] with | some q => q | none => 4 * cfgI s lnkCfgBeaconPwr), none, false,
      ackBody s a ++ linkMic s 4 2 a.ctx a.fc (ctxGet s a.ctx).key [] (ackBody s a)⟩
  | none =>
    let bch : Fin 8 := ⟨cfg s lnkCfgBeaconCh % 8, Nat.mod_lt _ (by decide)⟩
    let beacon := (nextBeacon s).map fun st =>
      ((⟨.beacon, bch, st + pipeTime s, beaconTime s bch.val, 4 * cfgI s lnkCfgBeaconPwr, none, false, beaconBody s st.floor.toNat⟩ : Emission), st)
    let launch := (firstCandidate (launchCandidates s)).map fun (p, k, d, st) =>
      ((⟨.launch p k d.handle, ⟨d.chan % 8, Nat.mod_lt _ (by decide)⟩, st + pipeTime s, frameTime s d.chan d.payload.length, 4 * d.pwr, none, false, []⟩ : Emission), st)
    match launch, beacon with
    | some (e, a), some (f, b) => some (if b < a then f else e)
    | some (e, _), none => some e
    | none, some (f, _) => some f
    | none, none => none

/-- LSYN_RETUNE (16_clocks R409): the synthesizer retunes for the next emission; `locked` is whether it declares lock in time. -/
def execLsynRetune (locked : Bool) (s : State) : Result :=
  if linkRx s (stSec s) = false ∨ s.lnk.air.isSome then .next s
  else match nextEmission s with
    | none => .next s
    | some e => .next { s with lnk := { s.lnk with prep := some e }, clk := { s.clk with lsynTx := locked } }

/-- COEX_REQ (11_radio_control R300): it rises REQ_LEAD before the first chip of an emission that the guard has not already refused for its profile, duty or quiet transit. -/
def execCoexReq (s : State) : Result :=
  .next (match s.lnk.prep.or (nextEmission s) with
    | some e => if cfgB s rfcCfgReqEn ∧ inhibited s = false ∧ notRefusedYet s e ∧ reached s (e.t0 - (cfg s rfcCfgReqLead : Rat) / 1000000) then
       { s with rfc := { s.rfc with req := true } } else s
    | none => s)

/-- EMISSION_END (11_radio_control R282, R293, 15_power R390): the last chip of the emission on air, never early. -/
def execEmissionEnd (s : State) : Result :=
  match s.lnk.air with
  | none => .next s
  | some e =>
    if reached s (e.t0 + e.dur) = false then .next s else
    let s1 := pathToRx (chargeDuty e e.dur { s with lnk := { s.lnk with air := none } })
    .next (match e.kind with
      | .launch p ctx h =>
        (match (ctxGet s1 ctx).queue.find? fun d => d.handle == h with
        | none => s1
        | some d =>
          if d.ackReq then modDown ctx h (fun d => { d with wait := .ack, lastChip := e.t0 + e.dur }) s1
          else finishDown p ctx d 1 s1)
      | .ack p ch => closeAck ch true (charge p (txCharge s (e.admitted.getD 0) e.dur) s1)
      | .beacon => s1)

/-! ### Acknowledgements (10_tag_link R258, R259) -/

/-- End of the acknowledgement window of a downlink (10_tag_link R259, R262). -/
def ackUntil (s : State) (d : Downlink) : Rat := d.lastChip + 154 / 1000000 + ackTime s d.chan

/-- End of the interval of a launch that awaits its acknowledgement. -/
def ackEnd (s : State) (d : Downlink) : Rat := ackUntil s d + tTail

/-- GATEWAY_ACK (10_tag_link R258): t_ACK after the last chip the acknowledgement goes on air, or is skipped. -/
def execGatewayAck (ch : LinkChan) (s : State) : Result :=
  match s.lnk.ackDue[ch] with
  | none => .next s
  | some a =>
    if reached s (a.last + 150 / 1000000) = false then .next s else
    let endT := a.last + 150 / 1000000 + ackTime s ch.val
    let others := (List.finRange 8).any fun c => c != ch && s.lnk.rx[c].isSome
    let clash := ((launchCandidates s).any fun y => y.1 == a.polder &&
        (let d := y.2.2.1; let x := launchSpan s d.chan d.payload.length d.ackReq y.2.2.2; decide (x.1 < endT + tTail) && decide (a.last < x.2))) ||
      s.lnk.ctx.any fun (k, c) => ctxOf s a.polder k && c.queue.any fun d => d.wait == .ack && decide (a.last < ackEnd s d)
    let ok := !others && !clash && inRun s a.polder a.last (endT + tTail) && linkTx s (stSec s) && !inhibited s && s.lnk.air.isNone
    .next (match s.lnk.prep with
      | some e =>
        if e.kind = .ack a.polder ch then
          (if ok && e.admitted.isSome then goOnAir e s else closeAck ch false { s with lnk := { s.lnk with prep := none }, rfc := { s.rfc with req := false } })
        else closeAck ch false s
      | none => closeAck ch false s)

/-- TAG_ACK (10_tag_link R259): accepted 146–154 µs after the downlink, with its MIC and FC. -/
def execTagAck (ctx : Nat) (body mic : BitVec 32) (us : Nat) (s : State) : Result :=
  match ctxOwner s ctx, (ctxGet s ctx).queue.find? fun d => d.wait == .ack with
  | some p, some d =>
    let want := linkMic s 4 4 ctx d.fc (ctxGet s ctx).key [] (leBytes 4 body.toNat)
    if 146 ≤ us ∧ us ≤ 154 ∧ getBits body.toNat 0 10 = ctx ∧ getBits body.toNat 10 16 = d.fc % 65536 ∧ want = leBytes 4 mic.toNat then
      .next (finishDown p ctx d 0 s)
    else .next s
  | _, _ => .next s

/-- TAG_ACK_TIMEOUT (10_tag_link R270): the acknowledgement window has passed; a retry becomes due, or the context goes SILENT with its queue held. -/
def execTagAckTimeout (ctx : Nat) (s : State) : Result :=
  match ctxOwner s ctx, (ctxGet s ctx).queue.find? fun d => d.wait == .ack with
  | some p, some d =>
    let c := ctxGet s ctx
    if stNow s < ackUntil s d then .next s
    else if d.retries ≤ c.retryMax then .next (modDown ctx d.handle (fun d => { d with wait := .retry }) s)
    else
      let s1 := finishDown p ctx d 2 s
      let s2 := (ctxGet s1 ctx).queue.foldl (fun t d => dropEntry p d.handle t) s1
      .next (bump (pLnkSilentEntries p)
        (ctxMod ctx (fun c => { c with state := .silent, queue := c.queue.map fun d => { d with wait := .held } }) s2))
  | _, _ => .next s

/-! ### Reception (10_tag_link R253–R257, R261, R265, R269, R272) -/

/-- PREAMBLE_DETECTION (11_radio_control R290): an alarm channel in an alarm slot. -/
def execPreambleDetection (ch : LinkChan) (s : State) : Result :=
  .next (if (cfg s lnkCfgAlarmCh).testBit ch.val ∧ cfgBAt s lnkChanEn ch.val ∧ alarmSlot (slotAt (stNow s)).2 ∧ linkRx s (stSec s) ∧ s.lnk.air.isNone then
    { s with rfc := { s.rfc with alarmRx := s.rfc.alarmRx.set ch true } }
  else s)

/-- LEN is outside its limit for the TYPE, or TYPE, CLASS or DIR is not an uplink's, or a SNAP came on a channel without SNAP
(10_tag_link Table 10-2, R253, R272). -/
def badHeader (s : State) (ch w : Nat) : Bool :=
  let type := getBits w 0 4
  let len := getBits w 18 13
  !(type == 1 || type == 2 || type == 3) || getBits w 4 2 == 3 || getBits w 7 1 == 1 ||
    (type == 1 && decide (192 < len)) || (type == 2 && (len != 5135 || !cfgBAt s lnkChanSnap ch)) || (type == 3 && decide (32 < len))

/-- A span from an ST on overlaps a transmission that has ended, or the relock of the synthesizer behind it (10_tag_link R251, 16_clocks R409). -/
def metTransmission (s : State) (first : Rat) : Bool := decide (first < s.clk.lsynRxAt) || s.rfc.lastEnd.any fun x => decide (first < x.2)

/-- FRAME_SYNC_DETECT (10_tag_link R253–R255, R261): the frame's first chip lies T_pre before the detection; a carrier beyond ±60 ppm is not detected. -/
def execFrameSyncDetect (ch : LinkChan) (f : SyncFrame) (s : State) : Result :=
  if linkRx s (stSec s) = false ∨ cfgBAt s lnkChanEn ch.val = false ∨ s.lnk.air.isSome ∨ s.lnk.rx[ch].isSome ∨ s.rfc.seq ≠ .rx ∨
      cfgAt s lnkChanSyncErr ch.val < f.syncErrs ∨ 60 * cfgAt s lnkChanFreq ch.val < 20 * f.afc.natAbs * 1000000 then .next s
  else if metTransmission s (stNow s - preTime s ch.val) then
    .next (blankFor (slotAt (stNow s - preTime s ch.val)).2 { s with rfc := { s.rfc with alarmRx := s.rfc.alarmRx.set ch false } })
  else
    let quiet := { s with rfc := { s.rfc with alarmRx := s.rfc.alarmRx.set ch false } }
    let w := f.header.toNat % 2 ^ 64
    if crc16 (leBytes 8 w) ≠ getBits f.header.toNat 64 16 then .next (bump cLnkHdrFail quiet)
    else if badHeader s ch.val w then .next (bump cLnkBadType quiet)
    else
      let first := stNow s - preTime s ch.val
      let slot := (slotAt first).2
      let alarm := (cfg s lnkCfgAlarmCh).testBit ch.val
      let ctx := getBits w 8 10
      match ctxOwner s ctx with
      | none => .next (bump cLnkForeign quiet)
      | some p =>
        if alarm then
          (if getBits w 0 4 = 3 ∧ getBits w 4 2 = 0 ∧ alarmSlot slot then
            .next { s with lnk := { s.lnk with rx := s.lnk.rx.set ch (some ⟨w, p, first, first + frameTime s ch.val (getBits w 18 13), f.afc, f.rssi, f.syncErrs⟩) } }
          else .next quiet)
        else if slotOwner s slot ≠ p.val then .next (bump cLnkForeign quiet)
        else .next { s with lnk := { s.lnk with rx := s.lnk.rx.set ch (some ⟨w, p, first, first + frameTime s ch.val (getBits w 18 13), f.afc, f.rssi, f.syncErrs⟩) } }

/-- RX_CUT (10_tag_link R261): a reception still in progress at the start of another polder's slot. -/
def execRxCut (ch : LinkChan) (s : State) : Result :=
  match s.lnk.rx[ch] with
  | none => .next s
  | some r =>
    let o := slotOwner s (slotAt (stNow s)).2
    if (cfg s lnkCfgAlarmCh).testBit ch.val = false ∧ o ≠ 15 ∧ o ≠ r.polder.val then
      .next (bump cLnkRxCut { s with lnk := { s.lnk with rx := s.lnk.rx.set ch none } })
    else .next s

/-- An authenticated uplink: liveness of the context and of the gateway (10_tag_link R264, R269). -/
def noteUplink (ctx : Nat) (r : Reception) (s : State) : State :=
  let s1 := ctxMod ctx (fun c => { c with lastRxSt := stWord r.first, rssi := r.rssi, rxCount := satInc c.rxCount 1 }) s
  { s1 with lnk := { s1.lnk with lone := false, quietBeacons := 0 } }

/-- The liveness record of a RETIRED context, at most once per LIVE_S (10_tag_link R269). -/
def noteRetired (p : Polder) (ctx : Nat) (r : Reception) (ch fc : Nat) (s : State) : State :=
  let c := ctxGet s ctx
  let due := match c.liveAt with | some t => decide (t + cfg s lnkCfgLiveS ≤ stNow s) | none => true
  if due then
    pushRx p ⟨3, ctx, ch, getBits r.header 0 4, getBits r.header 4 2, false, false, fc, stWord r.first, r.afc, r.rssi, r.syncErrs, 0, 0, 0, []⟩
      (ctxMod ctx (fun c => { c with liveAt := some (stNow s) }) s)
  else s

/-- An alarm acknowledgement entry is queued, 32 at most (10_tag_link R265). -/
def pushAlarmAck (ctx fc : Nat) (s : State) : State :=
  let q := s.lnk.alarmAcks
  let full := 32 ≤ q.length
  bumpIf full cLnkAlarmAckSpill { s with lnk := { s.lnk with alarmAcks := (if full then q.drop 1 else q) ++ [(ctx, fc)] } }

/-- A SILENT context returns to ACTIVE; its held frames become due again with fresh retry counts (10_tag_link R270). -/
def reactivate (ctx : Nat) (last : Rat) (s : State) : State :=
  ctxMod ctx (fun c => if c.state = .silent then
    { c with state := .active, queue := c.queue.map fun d => { d with wait := .retry, retries := 0, lastChip := last } } else c) s

/-- An accepted or duplicate frame goes on: acknowledged where it asks, else delivered at once. -/
def acceptFrame (ch : Fin 8) (a : PendingAck) (ackReq : Bool) (s : State) : State :=
  let s1 := if a.snap.isSome then { s with lnk := { s.lnk with snapDue := s.lnk.snapDue.set ch (some a) } } else s
  if ackReq then { s1 with lnk := { s1.lnk with ackDue := s1.lnk.ackDue.set ch (some a) } } else deliver a false s1

/-- FRAME_RECEIVE (10_tag_link R256, R257, R265, R269, R272): the MIC completes. Every authenticated frame shows the context alive, a replay too (log entry 60). -/
def execFrameReceive (ch : LinkChan) (body : List Byte) (mic : BitVec 64) (s0 : State) : Result :=
  match s0.lnk.rx[ch] with
  | none => .next s0
  | some r =>
    if reached s0 r.last = false then .next s0 else
    let s := { s0 with lnk := { s0.lnk with rx := s0.lnk.rx.set ch none }, rfc := { s0.rfc with alarmRx := s0.rfc.alarmRx.set ch false } }
    let p := r.polder
    let type := getBits r.header 0 4
    let cls := getBits r.header 4 2
    let ctx := getBits r.header 8 10
    let fc := getBits r.header 32 32
    let c := ctxGet s ctx
    let text := ccmText c.key (linkNonce s 0 ctx fc) body
    let want := linkMic s 8 0 ctx fc c.key (leBytes 8 r.header) text
    if c.state = .empty ∨ c.key = [] ∨ body.length ≠ getBits r.header 18 13 ∨ want ≠ leBytes 8 mic.toNat then .next (bump (pLnkAuthFail p) s)
    else
      let replay := match c.lastFc with | some l => decide (fc < l) | none => false
      let dup := c.lastFc == some fc
      let s1 := noteUplink ctx r s
      let s2 := if c.state = .retired then noteRetired p ctx r ch.val fc (bump (pLnkRetiredRx p) s1) else reactivate ctx r.last s1
      if replay then .next (bump (pLnkReplay p) s2)
      else
        let s3 := bumpIf dup (pLnkDupRx p) (ctxMod ctx (fun c => { c with lastFc := some fc }) s2)
        if c.state = .retired then .next s3
        else
          let ackReq := getBits r.header 6 1 == 1 && (type == 1 || type == 2)
          if dup then .next (acceptFrame ch ⟨p, ctx, fc, r.last, none, none, r⟩ ackReq s3)
          else
            let s4 := if type = 3 then pushAlarmAck ctx fc s3 else s3
            let rec_ : RxRecord := ⟨if type = 2 then 1 else 0, ctx, ch.val, type, cls, false, false, fc, stWord r.first, r.afc, r.rssi, r.syncErrs, 0, 0, 0,
              if type = 2 then text.take 20 else text⟩
            .next (acceptFrame ch ⟨p, ctx, fc, r.last, some rec_, if type = 2 then some text else none, r⟩ ackReq s4)

/-! ### The beacon (10_tag_link R263, R264, R274) -/

/-- BEACON_LAUNCH (10_tag_link R263): at the whole second the admitted beacon goes on air with the oldest alarm acknowledgements; refused, it is
skipped and the acknowledgements wait. -/
def execBeaconLaunch (s0 : State) : Result :=
  let s := if 60 ≤ s0.lnk.quietBeacons ∧ s0.lnk.lone = false then bump cLnkLoneEntries { s0 with lnk := { s0.lnk with lone := true } } else s0
  match s.lnk.prep with
  | none => .next s
  | some e =>
    if e.kind ≠ .beacon ∨ prepDue s e = false then .next s
    else if e.admitted.isNone ∨ beaconMode s = false ∨ inhibited s ∨ linkTx s (stSec s) = false ∨ stSec s % beaconPeriod s ≠ 0 ∨ s.lnk.air.isSome then
      .next { s with lnk := { s.lnk with prep := none }, rfc := { s.rfc with req := false } }
    else
      let e' := { e with frame := beaconBody s (stSec s) }
      let s1 := goOnAir e' (bump cLnkBeacons s)
      .next { s1 with lnk := { s1.lnk with alarmAcks := s1.lnk.alarmAcks.drop 4, quietBeacons := s1.lnk.quietBeacons + 1,
                                           dpdPending := cfgB s lnkCfgExtPa && cfgB s lnkCfgDpdEn } }

/-- DPD_UPDATE (10_tag_link R274): coefficients trained on this superframe's beacon come into force at the end of slot 0. -/
def execDpdUpdate (s : State) : Result :=
  .next (if s.lnk.dpdPending then { s with lnk := { s.lnk with dpdTrained := true, dpdPending := false } } else s)

/-! ### Submissions (10_tag_link R266) -/

/-- TX_RESULT. -/
def setTxResult (p : Polder) (v : Nat) (s : State) : State := { s with lnk := { s.lnk with txResult := s.lnk.txResult.set p v } }

/-- Bytes that a context's downlink queue holds, 16 of descriptor per frame. -/
def queueSize (c : Ctx) : Nat := (c.queue.map fun d => 16 + d.payload.length).sum

/-- Accepted launches of a polder that overlap a span. -/
def overlapsLaunch (s : State) (p : Polder) (a b : Rat) : Bool :=
  s.lnk.ctx.any fun (k, c) => ctxOf s p k && c.queue.any fun d => d.wait == .armed &&
    (let x := launchSpan s d.chan d.payload.length d.ackReq d.st; decide (x.1 < b) && decide (a < x.2))

/-- TX_CMD 1 (10_tag_link R266): the first check that fails gives the result. A context outside the range is also a breach, which the dike warden
raises before. -/
def txSubmit (p : Polder) (s : State) : State :=
  let w := winNat s p 0xC008 2
  let ctx := getBits w 0 10
  let ch := getBits w 10 3
  let ackReq := w.testBit 13
  let cls := getBits w 14 2
  let len := winNat s p 0xC00A 1
  let st := stOfWord (winNat s p 0xC000 8)
  let c := ctxGet s ctx
  let span := launchSpan s ch len ackReq st
  if ctxOf s p ctx = false ∨ (c.state ≠ .active ∧ c.state ≠ .silent) then setTxResult p 1 s
  else if 192 < len ∨ 224 < queueSize c + 16 + len then setTxResult p 2 s
  else if st < stNow s + 1 / 1000 then setTxResult p 3 s
  else if cfgBAt s lnkChanEn ch = false ∨ launchFits s p ch len ackReq st = false ∨ served s st.floor.toNat = false ∨ overlapsLaunch s p span.1 span.2 then
    setTxResult p 4 s
  else
    let h := s.lnk.nextHandle[p]
    let silent := c.state == .silent
    match armEntry p 0 0 cls ctx h (winNat s p 0xC000 8) s with
    | none => setTxResult p 5 (bump cSkyArmFull s)
    | some (_, t) =>
      let s1 := if silent then s else t
      let d : Downlink := ⟨h, ch, ackReq, cls, sext 8 (winNat s p 0xC00B 1), winBytes s p 0xC020 len, st, if silent then .held else .armed, 0, 0, 0, 0, 0⟩
      let s2 := ctxMod ctx (fun c => { c with queue := c.queue ++ [d] }) s1
      let s3 := { s2 with lnk := { s2.lnk with nextHandle := s2.lnk.nextHandle.set p ((h + 1) % 65536) } }
      setTxResult p 0 (winPut p 0xC010 (leBytes 2 h) s3)

/-- The context and downlink of a polder's submission. -/
def findDown (s : State) (p : Polder) (handle : Nat) : Option (Nat × Downlink) :=
  s.lnk.ctx.findSome? fun (k, c) => if ctxOf s p k then (c.queue.find? fun d => d.handle == handle).map fun d => (k, d) else none

/-- TX_CMD 2 (10_tag_link R266, Table 10-9): a frame whose launch tick has come launches, and there is no such handle. -/
def txCancel (p : Polder) (s : State) : State :=
  match findDown s p (winNat s p 0xC010 2) with
  | none => setTxResult p 6 s
  | some (ctx, d) =>
    if (d.wait = .armed ∧ stNow s < d.st) ∨ d.wait = .held ∨ d.wait = .retry then setTxResult p 0 (finishDown p ctx d 4 s)
    else setTxResult p 6 s

/-! ### The roster (10_tag_link R268) -/

/-- ROS_RESULT. -/
def setRosResult (p : Polder) (v : Nat) (s : State) : State := { s with lnk := { s.lnk with rosResult := s.lnk.rosResult.set p v } }

/-- The snapshots of a context that wait in the farm are discarded without result (08_snapshot_farm Table 08-8). -/
def orphanSnaps (p : Polder) (ctx : Nat) (s : State) : State :=
  let sh := s.snf.share[p]
  let n := (sh.store.filter fun q => q.ctx == ctx).length
  let t := { s with snf := { s.snf with share := s.snf.share.set p { sh with store := sh.store.filter fun q => q.ctx != ctx } } }
  if n = 0 then t else ctrAdd (pSnfSnapOrphan p) n t

/-- Load a context's state: 0 discards key, queue and receive area, 3 the queue (10_tag_link R268). -/
def loadState (p : Polder) (ctx code retry : Nat) (s : State) : State :=
  if code = 0 then
    let s1 := { s with lnk := { s.lnk with rxq := s.lnk.rxq.set p (s.lnk.rxq[p].filter fun r => r.ctx != ctx) } }
    ctxMod ctx (fun c => { c with state := .empty, key := [], retryMax := retry }) (orphanSnaps p ctx (discardQueue p ctx s1))
  else if code = 3 then ctxMod ctx (fun c => { c with state := .retired, retryMax := retry }) (orphanSnaps p ctx (discardQueue p ctx s))
  else ctxMod ctx (fun c => { c with state := .active, retryMax := retry }) s

/-- ROS_CMD 1, and 2 with `withKey` (10_tag_link Table 10-16). -/
def rosterLoad (p : Polder) (withKey : Bool) (s : State) : State :=
  let ctx := winNat s p 0xC200 2
  let w := winNat s p 0xC202 1
  let code := getBits w 0 2
  if ctxOf s p ctx = false then setRosResult p 1 s
  else if code = 2 then setRosResult p 2 s
  else
    let s1 := loadState p ctx code (getBits w 2 4) s
    let s2 := if withKey then
      ctxMod ctx (fun c => { c with key := if code = 0 then [] else winBytes s p 0xC210 16, tagId := winNat s p 0xC204 4 }) s1 else s1
    setRosResult p 0 s2

/-- RX_POP (10_tag_link R279). -/
def rxPop (p : Polder) (s : State) : State := { s with lnk := { s.lnk with rxq := s.lnk.rxq.set p (s.lnk.rxq[p].drop 1) } }

/-! ### Status (10_tag_link R275, R280) -/

/-- LNK.STATUS (10_tag_link Table 10-17). -/
def publishLink (s : State) : State :=
  let on := ((List.range 8).map fun n => if cfgBAt s lnkChanEn n && linkRx s (stSec s) && s.rfc.seq == .rx then 2 ^ n else 0).sum
  basinPut 0xE0B4 (leBytes 4 (packFields [(0, 8, on), (8, 1, b2n (setTransmits s)), (9, 1, b2n s.lnk.dpdTrained), (16, 16, s.lnk.pipe)])) s

/-- A slot in which a channel measures its noise: no owner, neither slot 0 nor an alarm slot (10_tag_link R275). -/
def noiseSlots (s : State) : Bool := (List.range 400).any fun i => i != 0 && !alarmSlot i && slotOwner s i == 15

/-- NOISE_FLOOR (10_tag_link R275): mean floors of the second, in 0.25 dBm/MHz; unavailable where the channel had no slot to measure. -/
def execNoiseFloor (levels : List Int) (s : State) : Result :=
  if linkRx s (stSec s) = false then .next s else
  let f := fun n => if cfgBAt s lnkChanEn n && noiseSlots s then clampI (-512) 511 (levels.getD n (-512)) else -512
  let v : Vector Int 8 := Vector.ofFn fun (i : Fin 8) => f i.val
  .next (basinPut 0xE0B8 (v.toList.flatMap fun x => leBytes 2 (twos 10 x)) { s with lnk := { s.lnk with noise := v } })

/-! ### Quiet transit and the coexistence wires (11_radio_control R297–R302) -/

/-- Enter quiet transit (11_radio_control R297, R299, 01_architecture R22): transmission stops at once, one Class 0 record per entry. -/
def quietEnter (cause : Nat) (s : State) : State :=
  if inhibited s ∧ s.rfc.quiet then s
  else
    let s1 := { s with rfc := { s.rfc with quiet := true, qCause := cause } }
    let s2 := publishRfc (cutAir (bump cRfcQuietEntries s1))
    applyPrecedence (recB 0 0x0B02 (leBytes 4 (rfcStatus s2)) s2)

/-- QUIET_PIN_RISE (11_radio_control R299). -/
def execQuietPinRise (s : State) : Result :=
  let s1 := quietEnter 3 { s with rfc := { s.rfc with pin := false } }
  .next (publishRfc { s1 with rfc := { s1.rfc with pin := true } })

/-- QUIET_PIN_FALL (11_radio_control R299, Table 11-7): the release of the pin; quiet transit stays until R298. -/
def execQuietPinFall (s : State) : Result := .next (publishRfc { s with rfc := { s.rfc with pin := false } })

/-- QUIET_TRANSIT_EXIT (11_radio_control R298): 120 s of slow, level solutions, and the pin low; the last HGT becomes the ground altitude. -/
def execQuietTransitExit (s : State) : Result :=
  match s.rfc.exitRun, s.rfc.motion.head? with
  | some a, some m =>
    if s.rfc.quiet ∧ s.rfc.pin = false ∧ 120 ≤ m.st - a then
      .next (applyPrecedence (publishRfc { s with rfc := { s.rfc with quiet := false, qCause := 0, ground := some m.hgt } }))
    else .next s
  | _, _ => .next s

/-- COEX_PRI_RISE (11_radio_control R302): the sequencer goes OFF, the emission in progress is cut and receptions are lost. -/
def execCoexPriRise (s : State) : Result :=
  let s1 := { s with rfc := { s.rfc with pri := true } }
  if cfgB s rfcCfgPriEn then
    let s2 := blankReceptions (cutAir (bump cRfcPriCuts s1))
    .next (publishRfc { s2 with rfc := { s2.rfc with seq := .off, req := false } })
  else .next (publishRfc s1)

/-- COEX_PRI_FALL (11_radio_control R302): the path returns to RX. -/
def execCoexPriFall (s : State) : Result :=
  let s1 := { s with rfc := { s.rfc with pri := false } }
  .next (publishRfc (if cfgB s rfcCfgPriEn ∧ linkRx s (stSec s) then pathToRx s1 else s1))

/-! ### A published solution at the guard (11_radio_control R287, R288, R296–R298) -/

/-- Ground altitude: a run of usable slow, level solutions over 10 s (11_radio_control R296). -/
def groundStep (m : MotionSample) (s : State) : State :=
  if m.usable = false then s
  else if slowLevel m = false then { s with rfc := { s.rfc with groundRun := none } }
  else
    let a := s.rfc.groundRun.getD m.st
    { s with rfc := { s.rfc with groundRun := some a, ground := if 10 ≤ m.st - a then some m.hgt else s.rfc.ground } }

/-- The cause by which the recent solutions enter quiet transit (11_radio_control R297): 1 speed, 2 climb. -/
def entryCause (s : State) (now : Rat) : Option Nat :=
  let recent := fun (w : Rat) => s.rfc.motion.filter fun m => m.usable && decide (now - m.st < w)
  let fast := recent 10
  let up := recent 30
  let high : Bool := match s.rfc.ground, up.head? with
    | some g, some m => decide (500000 < m.hgt - g)
    | _, _ => true
  if 5 ≤ fast.length ∧ fast.all (fun m => speedAbove m 70000) then some 1
  else if 15 ≤ up.length ∧ up.all (fun m => decide (5000 < m.vu)) ∧
      high = true then some 2
  else none

/-- The run of R288 after each boot: PVT_VALID solutions over 10 s, none of which meets an entry limit. -/
def runStep (g : GuardSol) (m : MotionSample) (s : State) : State :=
  if g.pvtValid = false ∨ meetsEntry m then { s with rfc := { s.rfc with runFirst := none } }
  else
    let a := s.rfc.runFirst.getD m.st
    { s with rfc := { s.rfc with runFirst := some a, runMet := s.rfc.runMet || decide (10 ≤ m.st - a) } }

/-- The exit run of R298. -/
def exitStep (m : MotionSample) (s : State) : State :=
  { s with rfc := { s.rfc with exitRun := if m.usable && slowLevel m then some (s.rfc.exitRun.getD m.st) else none } }

/-- Selection by position: a qualifying solution decides the set for the next slot boundary (11_radio_control R287, R288). -/
def selectStep (g : GuardSol) (st : Rat) (s : State) : State :=
  if g.pvtValid ∧ g.plValid ∧ g.integFail = false ∧ g.hpl < 500000 then
    let n := if s.rfc.runMet then selectedSet s g.hpl g.pos else 1
    { s with rfc := { s.rfc with lastQual := some st, basis := 1, setNext := some n } }
  else { s with rfc := { s.rfc with basis := if s.rfc.basis = 1 then 2 else s.rfc.basis } }

/-- A published solution at the guard. -/
def guardSolution (g : GuardSol) (st : Rat) (s : State) : State :=
  let m : MotionSample := ⟨st, g.pvtValid && g.velValid, g.ve, g.vn, g.vu, g.pos.hgt⟩
  let s1 := { s with rfc := { s.rfc with motion := m :: s.rfc.motion.filter fun x => decide (st - x.st < 30) } }
  let s2 := selectStep g st (exitStep m (runStep g m (groundStep m s1)))
  publishRfc (if s2.rfc.quiet then s2 else match entryCause s2 st with | some c => quietEnter c s2 | none => s2)

end Sys2Proof.Machine
end

