-- ==== Sys2Proof/Machine/NavBits.lean ====
section
/-!
DEFINITION. The checks of navigation units (06_measurements Table 06-4, Table 06-5): parity, BCH, Hamming and CRC-24Q, and what a unit's bits are after them. The
manual names the codes; their equations are those of the interface documents (PRESUMED, log entry 16).
-/

namespace Sys2Proof.Machine

/-- A bit of a list, numbered from 1. -/
def bitAt (l : List Bool) (k : Nat) : Bool := l.getD (k - 1) false

/-- Exclusive or of bits. -/
def xorAll (l : List Bool) : Bool := l.foldl xor false

/-- Invert bits or leave them. -/
def invBits (i : Bool) (l : List Bool) : List Bool := l.map fun b => xor i b

/-- Bit k (from 1) of a list replaced by its inverse. -/
def flipAt (l : List Bool) (k : Nat) : List Bool := l.zipIdx.map fun x => if x.2 + 1 = k then !x.1 else x.1

/-- Pieces of n elements. -/
def chunks {α : Type} (n : Nat) : Nat → List α → List (List α)
  | 0, _ => []
  | k + 1, l => l.take n :: chunks n k (l.drop n)

/-! ### LNAV words -/

/-- Which source bits enter the parity bits 25–30 of an LNAV word, and whether D29* rather than D30* does. -/
def lnavRows : List (Bool × List Nat) := [
  (true, [1, 2, 3, 5, 6, 10, 11, 12, 13, 14, 17, 18, 20, 23]), (false, [2, 3, 4, 6, 7, 11, 12, 13, 14, 15, 18, 19, 21, 24]),
  (true, [1, 3, 4, 5, 7, 8, 12, 13, 14, 15, 16, 19, 20, 22]), (false, [2, 4, 5, 6, 8, 9, 13, 14, 15, 16, 17, 20, 21, 23]),
  (false, [1, 3, 5, 6, 7, 9, 10, 14, 15, 16, 17, 18, 21, 22, 24]), (true, [3, 5, 6, 8, 9, 10, 11, 13, 15, 19, 22, 23, 24])]

/-- The parity of a word of 30 bits after D29* and D30*, all as received: an inverted reception inverts both sides of each equation. -/
def lnavWordOk (d29 d30 : Bool) (w : List Bool) : Bool :=
  let d (k : Nat) : Bool := xor (bitAt w k) d30
  lnavRows.zipIdx.all fun r => bitAt w (25 + r.2) == xor (if r.1.1 then d29 else d30) (xorAll (r.1.2.map d))

/-- Results of the words of an LNAV subframe, D29* and D30* first. -/
def lnavResults : Nat → List Bool → List Nat
  | 0, _ => []
  | n + 1, l => (if lnavWordOk (bitAt l 1) (bitAt l 2) ((l.drop 2).take 30) then 0 else 2) :: lnavResults n (l.drop 30)

/-! ### BCH(15,11) of D1 and D2 -/

/-- Remainder of a code word modulo x⁴ + x + 1. -/
def bchRem (l : List Bool) : Nat :=
  l.foldl (fun r b => let v := 2 * r + b.toNat; if 16 ≤ v then v ^^^ 0b10011 else v) 0

/-- A half word with a single error corrected, and whether it had one. -/
def bchHalf (h : List Bool) : List Bool × Bool :=
  let r := bchRem h
  if r = 0 then (h, false)
  else match (List.range 15).find? fun k => bchRem ((List.range 15).map fun j => j == k) == r with
    | some k => (flipAt h (k + 1), true)
    | none => (h, true)

/-- The two halves of a word of 30 interleaved bits: the odd bits, then the even ones. -/
def bchHalves (w : List Bool) : List Bool × List Bool :=
  ((List.range 15).map fun i => bitAt w (2 * i + 1), (List.range 15).map fun i => bitAt w (2 * i + 2))

/-- A word of 30 de-interleaved bits, corrected, with its result; the first half of word 1 is not coded. -/
def bchWord (first : Bool) (w : List Bool) : List Bool × Nat :=
  let a := if first then (w.take 15, false) else bchHalf (w.take 15)
  let b := bchHalf (w.drop 15)
  (a.1 ++ b.1, if a.2 || b.2 then 1 else 0)

/-- The words of a D1 or D2 subframe. -/
def bchSubframe (l : List Bool) : List (List Bool × Nat) := (chunks 30 10 l).zipIdx.map fun w => bchWord (w.2 == 0) w.1

/-- The bits of a D1 or D2 subframe de-interleaved: words 2–10 (06_measurements Table 06-4). -/
def deinterleave (l : List Bool) : List Bool :=
  (chunks 30 10 l).zipIdx.flatMap fun w => if w.2 = 0 then w.1 else let h := bchHalves w.1; h.1 ++ h.2

/-! ### Hamming (85,77) of GLONASS -/

/-- Hamming positions of the bits of a string: check bits at the powers of two, data bits 9–85 at the others. -/
def glonassPos : List Nat :=
  (List.range 85).filter fun k => !([0, 1, 2, 4, 8, 16, 32, 64].contains k)

/-- Position of bit k of a string, 1–7 for the check bits' powers, 0 for the overall parity bit 8. -/
def hammingPos (k : Nat) : Nat := if k = 8 then 0 else if k < 8 then 2 ^ (k - 1) else glonassPos.getD (k - 9) 0

/-- A string of 85 bits, bit 85 first, checked and corrected: its bits and its result. -/
def glonassString (l : List Bool) : List Bool × Nat :=
  let b (k : Nat) : Bool := bitAt l (86 - k)
  let syn := ((List.range 85).filter fun i => b (i + 1)).foldl (fun a i => a ^^^ hammingPos (i + 1)) 0
  let par := xorAll l
  if syn = 0 ∧ par = false then (l, 0)
  else if par then
    match (List.range 85).find? fun i => hammingPos (i + 1) == syn && decide (i + 1 ≠ 8) with
    | some i => (flipAt l (86 - (i + 1)), 1)
    | none => (l, 2)
  else (l, 2)

/-! ### CRC-24Q -/

/-- One bit into CRC-24Q, polynomial 0x1864CFB. -/
def crc24Bit (c : Nat) (b : Bool) : Nat :=
  let v := c ^^^ (b.toNat * 0x800000)
  if 0x800000 ≤ v then (2 * v) ^^^ 0x1864CFB else 2 * v

/-- CRC-24Q of bits. -/
def crc24Of (l : List Bool) : Nat := l.foldl crc24Bit 0

/-- Bits of a byte, most significant first. -/
def byteBits (b : Byte) : List Bool := (List.range 8).map fun i => b.toNat.testBit (7 - i)

/-- CRC-24Q of bytes. -/
def crc24 (l : List Byte) : Nat := crc24Of (l.flatMap byteBits)

/-- The number that bits spell, most significant first. -/
def bitsNat (l : List Bool) : Nat := l.foldl (fun a b => 2 * a + b.toNat) 0

/-- A unit's CRC-24Q stands; in an I/NAV page 8 bits follow it. -/
def crcUnitOk (sig : Nat) (l : List Bool) : Bool :=
  let n := (if sig = 4 ∨ sig = 6 then l.length - 8 else l.length) - 24
  decide (24 ≤ l.length) && crc24Of (l.take n) == bitsNat ((l.drop n).take 24)

/-! ### Check units -/

/-- A signal has symbols only (06_measurements Table 06-4). -/
def symbolsOnly (sig : Nat) : Bool := sig == 7 || sig == 14

/-- UNIT of a signal's units (06_measurements Table 06-9). -/
def unitKindOf (sig : Nat) : Nat :=
  if sig = 0 ∨ sig = 15 ∨ sig = 8 ∨ sig = 11 then 0 else if sig = 4 ∨ sig = 5 ∨ sig = 6 then 1 else if sig = 12 ∨ sig = 13 then 2 else 3

/-- The checks on a unit's bits, LNAV with D29* and D30* before them, D1 and D2 de-interleaved, bits under a CRC-24Q corrected for polarity: the bits after correction and the
result of each check unit (06_measurements Tables 06-4, 06-5). -/
def checkBits (sig : Nat) (l : List Bool) : List Bool × List Nat :=
  if sig = 0 ∨ sig = 15 then ((l.drop 2).take 300, lnavResults 10 l)
  else if sig = 8 ∨ sig = 11 then let w := bchSubframe l; (w.flatMap (·.1), w.map (·.2))
  else if sig = 12 ∨ sig = 13 then let g := glonassString l; (g.1, [g.2])
  else (l, [if crcUnitOk sig l then 0 else 2])

/-- A unit after its FEC decoding and its checks: its bits corrected for polarity, and its results. Parity and BCH stand under either polarity, and a correction by BCH(51,8) or LDPC
shows as 0b01 in a unit that passes (06_measurements R143, R147). -/
def checkUnit (sig : Nat) (u : NavUnit) : List Bool × List Nat :=
  let inv := u.inverted == some true
  if unitKindOf sig = 0 then
    let c := checkBits sig (if sig = 8 ∨ sig = 11 then deinterleave u.bits else u.bits)
    (invBits inv c.1, c.2)
  else if sig = 12 ∨ sig = 13 then checkBits sig u.bits
  else
    let c := checkBits sig (invBits inv u.bits)
    let coded := sig == 1 || sig == 16 || sig == 9 || sig == 10
    (c.1, c.2.map fun r => if r = 0 ∧ coded ∧ u.fec then 1 else r)

/-- The words that hold the time fields of a unit: HOW of LNAV, SOW of D1 and D2 over words 1 and 2, else the unit (06_measurements R144). -/
def timeWords (sig : Nat) : List Nat := if sig = 0 ∨ sig = 15 then [1] else if sig = 8 ∨ sig = 11 then [0, 1] else [0]

/-- A check unit with its result passes (06_measurements R143). -/
def resultOk (n : Nat) : Bool := decide (n ≤ 1)

end Sys2Proof.Machine
end

