-- ==== Sys2Proof/Machine/Measure.lean ====
section
/-!
DEFINITION. The measurement and navigation-bit unit (06_measurements): epochs, definitions at an epoch, navigation units, records and exports.
-/

namespace Sys2Proof.Machine

/-! ### Epochs (06_measurements R132) -/

/-- Milliseconds of a MEAS_INT code. -/
def intMs (n : Nat) : Nat := [10, 20, 50, 100, 200, 500, 1000].getD n 1000

/-- Code of the interval in force: at least 1 s in THIN, QUIET, HOLDOVER from THIN, and LAYUP. -/
def intCode (s : State) : Nat := if oneAntMode s then 6 else cfg s msrCfgMeasInt

/-- The interval in force in s. -/
def intS (s : State) : Rat := (intMs (intCode s) : Rat) / 1000

/-- The epoch of LAYUP that belongs to a fix: the first whole second after its first valid standalone PVT, at ST q. -/
def fixEpoch (q : Rat) : Rat := (q.floor + 1 : Rat)

/-- t_e of the epoch that is due, none where none is. -/
def epochDue (s : State) : Option Rat :=
  let te := ((stNow s / intS s).floor : Rat) * intS s
  if inService s = false ∨ s.sky.run = false ∨ domOn s .msr = false ∨ s.msr.lastEpoch = some te then none
  else if s.mode.mode = .layup then
    (match s.mode.fixOk with
    | some q => if decide (fixEpoch q ≤ stNow s) && s.msr.lastEpoch != some (fixEpoch q) then some (fixEpoch q) else none
    | none => none)
  else some te

/-! ### Definitions (06_measurements R133–R141) -/

/-- T_e in ticks: the mapping in force takes t_e back (06_measurements R133). -/
def latchTick (s : State) (te : Rat) : Rat := (s.sky.seg.tick : Rat) + (te - s.sky.seg.st) / s.sky.seg.rate

/-- Seconds of nominal time from a channel's last dump to the latch of t_e (06_measurements R133). -/
def latchGap (s : State) (te : Rat) (c : Chan) : Rat := (latchTick s te - c.last) * nominalRate

/-- A difference reduced into [−P/2, P/2). -/
def reduceHalf (x p : Rat) : Rat := x - p * ((x + p / 2) / p).floor

/-- D_ant + BIAS_band in s (06_measurements R136). -/
def delaysOf (s : State) (k : Nat) (c : Chan) : Rat :=
  let b := (chanInfo c).band
  let cab : Rat := (cfgAt s aryGeomCabDly (refAnt s).val : Rat) / 100000000000
  let arr : Rat := if isNavChan s k ∨ c.ant = refAnt s then 0 else (calAt s c.ant b).tau / 1000000000
  cab + arr + (cfgIAt s msrBiasBias b.val : Rat) / 100000000000

/-- Level 2 period of a signal in s. -/
def level2S (c : Chan) : Rat := ((chanInfo c).level2 : Rat) / 1000

/-- ρ in m from the transmit time at the latch (06_measurements R136). -/
def pseudorange (s : State) (k : Nat) (c : Chan) (te tx : Rat) : Rat :=
  let bias := lightSpeed * delaysOf s k c
  let level := c.level
  match c.target with
  | none => 0
  | some g =>
    let rt := receiverTime s g.sat.const te
    let tr := match rt with | some (q, _) => q | none => te + seedNow s
    let mods (p : Rat) : Rat := let x := lightSpeed * (tr - tx) - bias; let m := lightSpeed * p; x - m * (x / m).floor
    if level = 3 then
      (match rt with
      | some (_, p) => lightSpeed * reduceHalf (tr - tx) p - bias
      | none => mods (level2S c))
    else if level = 2 then mods (level2S c) else mods (chanInfo c).period

/-- Φ without N0, in cycles: the nominal carrier in ST less the replica's cycles since the last lock-time restart (06_measurements R137, R139). -/
def phaseBase (c : Chan) (te gap : Rat) : Rat :=
  chanCarrier c * (te - c.lockSt) - (c.cycles + (chanCarrier c + c.fNco) * gap) + (if c.half = some true then 1 / 2 else 0)

/-- The position uncertainty of the basin in m, none without a valid position. -/
def posUnc (s : State) : Option Rat := if pvtValid s then (pubRec s).map fun r => (r.sol.h95 : Rat) / 1000 else none

/-- Transmit time of the replica's code phase a gap after the last dump. -/
def txAfter (c : Chan) (gap : Rat) : Rat := c.tx + gap * c.codeRate / (chanInfo c).chipHz

/-- The transmit time at the last dump's end that sky time gives (06_measurements R144): of those that the level 2 period leaves, the one nearest to the prediction for ST t, a gap
after that end; none while the mapping's and the position's uncertainty are not below a quarter of the period. -/
def skyTx (s : State) (t gap : Rat) (c : Chan) : Option Rat :=
  match c.target, posUnc s, uncNs s with
  | some g, some p, some u =>
    if s.mode.aligned && decide (u / 1000000000 + p / lightSpeed < level2S c / 4) then
      (predictedTx s g.sat t).map fun q => c.tx + level2S c * (roundEven ((q - txAfter c gap) / level2S c) : Int)
    else none
  | _, _, _ => none

/-- What an epoch settles on a channel before its entry: level 3 from sky time, then N0 (06_measurements R137, R144). -/
def settleChan (s : State) (k : Nat) (te : Rat) (c0 : Chan) : Chan :=
  let gap := latchGap s te c0
  let c := if c0.level = 2 then (match skyTx s te gap c0 with | some tx => { c0 with tx := tx, level := 3 } | none => c0) else c0
  if c.st = .lock ∧ c.level = 3 ∧ c.n0 = none then
    match c.target with
    | some g => { c with n0 := some (roundEven (pseudorange s k c te (txAfter c gap) / wavelength g - phaseBase c te gap)) }
    | none => c
  else c

/-- HALF_UNRES (06_measurements R138, R143). -/
def halfUnres (c : Chan) : Bool := if (chanInfo c).two then !c.halfKnown || c.conflict else c.half.isNone

/-- The entry of a channel (06_measurements R136–R141). The latch falls inside a run of hollow dumps while the last finished dump was hollow (log entry 79). -/
def entryOf (s : State) (te : Rat) (k : Nat) (c : Chan) : Option MeasEntry :=
  match c.target with
  | none => none
  | some g =>
    let gap := latchGap s te c
    let coasting := decide (0 < c.hollow)
    let role := chanRole s k
    let b := (targetInfo g).band
    let phase := phaseBase c te gap + ((c.n0.getD 0 : Int) : Rat)
    let f := chanCarrier c
    some { chan := k, target := g, role, ant := (if role = .array then c.ant else refAnt s).val, level := c.level,
           pr := pseudorange s k c te (txAfter c gap), phase,
           doppler := (f + c.fNco) * (nominalRate / s.sky.seg.rate) - f, cn0 := c.cn0.getD 0,
           lockMs := match c.lockTick with | some t => ((latchTick s te - t) / 491520).floor.toNat | none => 0,
           state := if c.st = .track then 2 else if c.st = .freq then 5 else if c.weak then 4 else 3,
           prValid := decide (1 ≤ c.level) && !coasting, phValid := c.st == .lock && decide (c.level = 3) && c.n0.isSome && !coasting,
           dopValid := !coasting, halfUnres := halfUnres c, halfAdj := c.halfAdj, restart := c.restarted, coasting, wchg := c.wchg, mp := c.mp,
           delta := c.delta,
           calConv := if role = .array then calConv s c.ant b
             else if role = .beam ∧ c.beam then (activeAnts s).all fun a => calConv s a b
             else if c.combined ∨ role = .beam then weightsConv s b s.ary.band[b].weights else true,
           aided := c.fAid != 0 }

/-! ### Records as bytes (06_measurements R146) -/

/-- Code of a role. -/
def roleCode : ChanRole → Nat
  | .nav => 0 | .array => 1 | .beam => 2

/-- A measurement entry as 32 bytes (06_measurements Table 06-8). -/
def entryBytes (e : MeasEntry) : List Byte :=
  leBytes 32 (packFields
    [(0, 11, e.chan), (11, 5, e.target.sig), (16, 6, e.target.sat.sv), (22, 4, if e.target.sat.const = .glonass then e.target.fcn else 0),
     (26, 2, roleCode e.role), (28, 2, e.ant), (30, 2, e.level), (32, 40, (roundEven (e.pr * 1024)).toNat), (72, 44, twos 44 (roundEven (e.phase * 65536))),
     (116, 32, twos 32 (roundEven (e.doppler * 1024))), (148, 10, (clampI 0 1023 (roundEven (e.cn0 * 16))).toNat), (158, 22, min 4194303 e.lockMs),
     (180, 3, e.state), (183, 1, b2n e.prValid), (184, 1, b2n e.phValid), (185, 1, b2n e.dopValid), (186, 1, b2n e.halfUnres), (187, 1, b2n e.halfAdj),
     (188, 1, b2n e.restart), (189, 1, b2n e.coasting), (190, 1, b2n e.wchg), (191, 1, b2n e.mp),
     (192, 8, twos 8 (clampI (-128) 127 (roundEven (e.delta * 100)))), (200, 1, b2n e.calConv), (201, 1, b2n e.aided)])

/-- An epoch record as bytes with the entries and antenna blocks given (06_measurements Table 06-6). -/
def epochBytes (r : EpochRec) (es : List MeasEntry) (ants : List (Nat × List Byte)) : List Byte :=
  leBytes 16 (packFields
    [(0, 64, stWord r.t), (64, 3, r.int), (67, 1, b2n r.aligned), (68, 1, b2n r.clkStep), (69, 2, r.source), (71, 1, b2n r.usable),
     (72, 11, es.length), (83, 3, ants.length), (88, 16, r.seq), (104, 16, r.unc)]) ++
    ants.flatMap (·.2) ++ es.flatMap entryBytes

/-- An antenna block (06_measurements Table 06-7). -/
def antBlock (s : State) (a : Port) : List Byte :=
  let v := effVec s a 0
  let w (q : Rat) : Nat := twos 24 (roundEven (q * 10))
  leBytes 16 (packFields
    [(0, 2, a.val), (2, 4, ((List.finRange 4).map fun b => if calConv s a b then 2 ^ b.val else 0).sum), (6, 24, w v.x), (30, 24, w v.y), (54, 24, w v.z),
     (78, 16, s.msr.calSeq)])

/-- MSR.STATUS (06_measurements Table 06-17). -/
def msrStatus (s : State) : Nat :=
  let es := match s.msr.lastRec with | some r => r.entries | none => []
  packFields [(0, 3, intCode s), (3, 11, es.length), (14, 11, (es.filter fun e => e.level == 3).length), (25, 1, b2n s.msr.leap.isSome),
    (26, 1, b2n s.msr.rtcmActive)]

/-! ### Export (06_measurements R149–R152) -/

/-- The copy of an epoch record for the host (06_measurements R149). -/
def exportHrs (r : EpochRec) (s : State) : State :=
  if cfgB s msrExportHrsEn = false ∨ r.seq % cfg s msrExportHrsDiv ≠ 0 then s else
  let es := r.entries.filter fun e => (cfg s msrExportHrsRoles).testBit (roleCode e.role)
  let ants := r.ants.filter fun a => es.any fun e => e.role == .array && e.ant == a.1
  recB 2 0x0601 (epochBytes r es ants) s

/-- MSM message number of a constellation (06_measurements Table 06-11). -/
def msmNumber (k : Constellation) (msm7 : Bool) : Nat :=
  (match k with | .gps => 1074 | .glonass => 1084 | .galileo => 1094 | .sbas => 1104 | .qzss => 1114 | .beidou => 1124 | .navic => 1134) + (if msm7 then 3 else 0)

/-- Constellations in the order of the message numbers. -/
def allConst : List Constellation := [.gps, .glonass, .galileo, .sbas, .qzss, .beidou, .navic]

/-- Cells split by satellite into messages of at most 64 cells (06_measurements R150). -/
def splitCells (l : List MeasEntry) : List (List MeasEntry) :=
  let sats := ((l.map (·.target.sat.sv)).dedup).mergeSort
  let groups := sats.map fun v => l.filter fun e => e.target.sat.sv == v
  groups.foldl (fun acc g => match acc.getLast? with
    | some m => if m.length + g.length ≤ 64 then acc.dropLast ++ [m ++ g] else acc ++ [g]
    | none => [g]) []

/-- Observation code of the standard for a signal (06_measurements Table 06-11). -/
def obsCode (sig : Nat) : List Byte :=
  ([[0x31, 0x43], [0x31, 0x4C], [0x32, 0x4C], [0x35, 0x51], [0x31, 0x43], [0x35, 0x51], [0x37, 0x51], [0x36, 0x43], [0x32, 0x49], [0x31, 0x50],
    [0x35, 0x50], [0x36, 0x49], [0x31, 0x43], [0x32, 0x43], [0x33, 0x51], [0x31, 0x43], [0x31, 0x4C], [0x32, 0x4C], [0x35, 0x51], [0x35, 0x41],
    [0x31, 0x43], [0x35, 0x51]] : List (List Byte)).getD sig []

/-- Lock time indicator of a message type: DF402 of MSM4, DF407 of MSM7 (06_measurements R150; the standard's tables, PRESUMED, log entry 17). -/
def lockIndicator (msm7 : Bool) (ms : Nat) : Nat :=
  if msm7 then
    if ms < 64 then ms
    else let k := min 21 (Nat.log2 ms - 5); if 67108864 ≤ ms then 704 else 32 * (k + 1) + (ms - 2 ^ (5 + k)) / 2 ^ k
  else if ms < 32 then 0 else min 15 (Nat.log2 (ms / 16))

/-- A cell of an MSM message: satellite, observation code, pseudorange, phaserange or the invalid value (a first byte of 0), lock time indicator, half-cycle indicator, C/N0, and
in MSM7 the phaserange rate (06_measurements R150). -/
def cellBytes (msm7 : Bool) (e : MeasEntry) : List Byte :=
  [BitVec.ofNat 8 e.target.sat.sv, BitVec.ofNat 8 e.target.fcn] ++ obsCode e.target.sig ++ leBytes 5 (roundEven (e.pr * 1024)).toNat ++
    (if e.phValid then leBytes 1 1 ++ leBytes 6 (twos 48 (roundEven (e.phase * 65536))) else leBytes 7 0) ++
    leBytes 2 (lockIndicator msm7 e.lockMs) ++ leBytes 1 (b2n e.halfUnres) ++ leBytes 2 (clampI 0 1023 (roundEven (e.cn0 * 16))).toNat ++
    (if msm7 then leBytes 4 (twos 32 (roundEven (-(e.doppler * 1024)))) else [])

/-- An MSM record: number; flags (bit 0 multiple message, 1 clock steering, 2 external clock; smoothing in bit 3 is 0); issue of data station 0; station; epoch; then its cells
(06_measurements R150; the standard's bit layout is not of this manual, log entry 17). -/
def msmBytes (s : State) (r : EpochRec) (n : Nat) (more : Bool) (l : List MeasEntry) : List Byte :=
  leBytes 2 n ++ leBytes 1 (b2n more + 2 * b2n r.aligned + 4 * (if r.source = 1 then 1 else 0)) ++ leBytes 1 0 ++ leBytes 2 (cfg s msrStationStnId) ++
    leBytes 8 (stWord r.t) ++ l.flatMap (cellBytes (cfgB s msrExportRtcmMsm))

/-- The RTCM messages of an epoch (06_measurements R150, R152). -/
def exportRtcm (r : EpochRec) (s : State) : State :=
  if cfgB s msrExportRtcmEn = false ∨ r.seq % cfg s msrExportRtcmDiv ≠ 0 then s
  else if r.usable = false then bump cMsrRtcmSuppressed { s with msr := { s.msr with rtcmActive := false } }
  else
    let cells := r.entries.filter fun e => e.role != .array && decide (e.level = 3) && e.prValid &&
      ((e.target.sig != 2 && e.target.sig != 17) || (chanGet s e.chan).sync.isSome)
    let msgs := allConst.flatMap fun k =>
      if (cfg s msrExportRtcmConst).testBit (constBit k) then
        (splitCells (cells.filter fun e => e.target.sat.const == k)).map fun l => (msmNumber k (cfgB s msrExportRtcmMsm), l)
      else []
    let splits := (allConst.map fun k => (msgs.filter fun m => m.1 == msmNumber k (cfgB s msrExportRtcmMsm)).length - 1).sum
    let t := (List.range splits).foldl (fun u _ => bump cMsrRtcmSplit u) { s with msr := { s.msr with rtcmActive := !msgs.isEmpty } }
    (msgs.zipIdx).foldl (fun u m => recB 2 0x0604 (msmBytes s r m.1.1 (decide (m.2 + 1 < msgs.length)) m.1.2) u) t

/-- ST of a ring record. -/
def RingRec.st : RingRec → Rat
  | .epoch r => r.t | .nav t _ => t | .symbols t _ => t

/-- The record is an epoch's. -/
def RingRec.isEpoch : RingRec → Bool
  | .epoch _ => true | _ => false

/-- Start of the solver's 50 ms frame before the one that an ST lies in: what is older has been consumed in the frames since (06_measurements R148, 07_solver R156). -/
def frameBefore (t : Rat) : Rat := ((t * 20).floor : Rat) / 20 - 1 / 20

/-- What the solver has not yet consumed at an ST: while its domain is on, the records of this frame and the last (06_measurements R148). -/
def unconsumed (s : State) (t : Rat) : List RingRec :=
  if domOn s .sol then s.msr.ring.filter fun x => decide (frameBefore t ≤ x.st) else s.msr.ring

/-- Without the first epoch record. -/
def dropEpoch : List RingRec → List RingRec
  | [] => []
  | x :: l => if x.isEpoch then l else x :: dropEpoch l

/-- A record enters the ring (06_measurements R148): an epoch record that finds 16 unconsumed ones overwrites the oldest. -/
def ringPut (x : RingRec) (s : State) : State :=
  let l := unconsumed s x.st
  let full := x.isEpoch && decide (16 ≤ (l.filter RingRec.isEpoch).length)
  bumpIf full cMsrRingOverrun { s with msr := { s.msr with ring := (if full then dropEpoch l else l) ++ [x] } }

/-- Signals whose ambiguity an epoch resets, by RESTART or WCHG (07_solver R158): role, antenna, signal. -/
def resetsOf (es : List MeasEntry) : List (Bool × Nat × SearchTarget) :=
  (es.filter fun e => e.restart || e.wchg).map fun e => (e.role == .array, e.ant, e.target)

/-- MEASUREMENT_EPOCH (06_measurements R132–R150): every channel of a powered bank that is not IDLE latches (05_tracking R100), those in TRACK, LOCK and FREQ give entries. -/
def execMeasurementEpoch (s0 : State) : Result :=
  match epochDue s0 with
  | none => .next s0
  | some te =>
    let s := refreshViews s0
    let live := (busyChans s).filter fun x => bankOn s x.1
    let settled := live.map fun x => (x.1, if followed x.2 then settleChan s x.1 te x.2 else x.2)
    let es := (settled.filter fun x => followed x.2).filterMap fun x => entryOf s te x.1 x.2
    let ants := ((List.finRange 4).filter fun a => es.any fun e => e.role == .array && e.ant == a.val).map fun a => (a.val, antBlock s a)
    let r : EpochRec := {
      t := te, int := intCode s, aligned := s.mode.aligned, clkStep := s.sky.clkStep, source := srcCode s.sky.source, usable := gnssUsable s, seq := s.msr.seq,
      unc := min 65535 (uncWord s), ants, entries := es, rate := s.sky.seg.rate }
    let t := settled.foldl (fun u x => chanSet x.1 { x.2 with restarted := false, wchg := false, halfAdj := false } u) s
    let t := { t with
      sky := { t.sky with clkStep := false },
      sol := { t.sol with resets := (resetsOf es ++ t.sol.resets).dedup, attResets := (resetsOf es ++ t.sol.attResets).dedup },
      msr := { t.msr with lastRec := some r, lastEpoch := some te, seq := (s.msr.seq + 1) % 65536 } }
    let t := exportRtcm r (exportHrs r (ringPut (.epoch r) (bump cMsrEpochs t)))
    .next (basinPut 0xE0B0 (leBytes 4 (msrStatus t)) t)

/-- Earth-fixed coordinates in 0.1 mm of the current basin position of REF (06_measurements R151). -/
def refEcef (s : State) : Option (Int × Int × Int) :=
  if pvtValid s then (pubRec s).map fun r =>
    let v := Config.ecefOf r.sol.pos.lat r.sol.pos.lon r.sol.pos.hgt
    (roundEven (v.x * 10000), roundEven (v.y * 10000), roundEven (v.z * 10000))
  else none

/-- STATION_MESSAGES (06_measurements R151, R152): once in each whole ST second that is a multiple of STN_PERIOD. 1006 has antenna height 0; 1033 has empty serial numbers and
the version "B0"; 1230 has L1 C/A and L2 C/A (mask 0b1010), and L1 P and L2 P absent. -/
def execStationMessages (s : State) : Result :=
  if inService s = false ∨ cfgB s msrExportRtcmEn = false ∨ cfg s msrStationStnPeriod = 0 ∨ gnssUsable s = false ∨ stSec s % cfg s msrStationStnPeriod ≠ 0 ∨
      s.msr.stationS = some (stSec s) then
    .next s
  else
    let s := { s with msr := { s.msr with stationS := some (stSec s) } }
    let id := leBytes 2 (cfg s msrStationStnId)
    let point := if cfgB s msrStationArpSrc then refEcef s else some (cfgI s msrStationArpX, cfgI s msrStationArpY, cfgI s msrStationArpZ)
    let t := match point with
      | some (x, y, z) => recB 2 0x0605 (id ++ leBytes 5 (twos 38 x) ++ leBytes 5 (twos 38 y) ++ leBytes 5 (twos 38 z) ++ leBytes 2 0) s
      | none => s
    let str (b : List Byte) : List Byte := b.take ((b.headD 0).toNat + 1)
    let raw : List Byte := match blockOf s 8 0x0613 with | some b => leBytes (4 * (b.words - 7)) (b.val / 2 ^ 224) | none => []
    let ant := str raw
    let rcv := str (raw.drop ant.length)
    let t := recB 2 0x0606 (id ++ ant ++ [0] ++ rcv ++ [2, 0x42, 0x30] ++ [0]) t
    .next (if cfgB s msrStationGloBiasEn then
      recB 2 0x0607 (id ++ [0x0A] ++ leBytes 2 (twos 16 (cfgI s msrStationGloL1Bias)) ++ leBytes 2 (twos 16 (cfgI s msrStationGloL2Bias))) t else t)

/-! ### Navigation units (06_measurements R142–R147) -/

/-- Header of a navigation or symbol record (06_measurements Table 06-9). -/
def navHeader (ch : Nat) (g : SearchTarget) (st kind : Nat) (pol : Bool) (results : List Nat) (len : Nat) : List Byte :=
  leBytes 16 (packFields
    [(0, 64, st), (64, 5, g.sig), (69, 6, g.sat.sv), (75, 4, if g.sat.const = .glonass then g.fcn else 0), (79, 11, ch), (90, 3, kind), (93, 1, b2n pol),
     (94, 4, results.length), (98, 20, (results.zipIdx.map fun x => x.1 % 4 * 4 ^ x.2).sum), (118, 10, len)])

/-- Bits packed most significant first, padded with zeros to a whole byte. -/
def packBits (l : List Bool) : List Byte :=
  (List.range (ceilDiv l.length 8)).map fun i =>
    BitVec.ofNat 8 (((List.range 8).map fun j => if l.getD (8 * i + j) false then 2 ^ (7 - j) else 0).sum)

/-- Change what the store holds of a satellite. -/
def modEph (v : SatId) (f : EphEntry → EphEntry) (s : State) : State :=
  let l := if (ephOf s v).isSome then s.msr.eph else s.msr.eph ++ [⟨v, [], none, none, false, []⟩]
  { s with msr := { s.msr with eph := l.map fun e => if e.sat = v then f e else e } }

/-- An issue enters the store from broadcast: the current and the previous one are kept, and it confirms one from the host (07_solver R162). -/
def addIssue (i : Issue) (e : EphEntry) : EphEntry :=
  { e with
    issues := if (e.issues.head?.map (·.iod)) = some i.iod then i :: e.issues.drop 1 else (i :: e.issues).take 2,
    assist := match e.assist with | some a => if a.iod = i.iod then none else some a | none => none }

/-- Health enters the store, of a signal where the message gives it so, else of the satellite (07_solver R161). -/
def setHealth (h : Option Nat × Bool) (e : EphEntry) : EphEntry :=
  match h.1 with
  | some n => { e with badSigs := if h.2 then (n :: e.badSigs).dedup else e.badSigs.filter (· != n) }
  | none => { e with bad := h.2 }

/-- What a passed unit writes into the ephemeris and almanac store (06_measurements R145, R134, 07_solver R161–R164): the leap-second count from GPS, Galileo and BeiDou, and an
offset from GPS time from Galileo, BeiDou and GLONASS. -/
def storeUnit (g : SearchTarget) (c : NavContent) (s : State) : State :=
  let k := g.sat.const
  let s1 := match c.issue with | some (i, a, b, l) => modEph g.sat (addIssue ⟨i, a, b, l⟩) s | none => s
  let s2 := c.health.foldl (fun u h => modEph g.sat (setHealth h) u) s1
  let s3 := c.almanac.foldl (fun u a => modEph a.1 (fun e => { e with almanac := some a.2 }) u) s2
  { s3 with msr := { s3.msr with
    leap := if k = .gps ∨ k = .galileo ∨ k = .beidou then c.leap.or s3.msr.leap else s3.msr.leap,
    offsets := match c.offset with
      | some q => if k = .galileo ∨ k = .beidou ∨ k = .glonass then (k, q) :: s3.msr.offsets.filter (fun x => x.1 != k) else s3.msr.offsets
      | none => s3.msr.offsets,
    iono := if k = .gps then c.iono.getD s3.msr.iono else s3.msr.iono } }

/-- LNAV bits for the farm, their polarity known: those of records in which every word passes, of the last 64 s (08_snapshot_farm R197). -/
def keepBits (g : SearchTarget) (u : NavUnit) (bits : List Bool) (s : State) : State :=
  if (g.sig ≠ 0 ∧ g.sig ≠ 15) ∨ u.inverted = none then s
  else { s with msr := { s.msr with
    lnav := (g.sat, u.stFirst, bits) :: s.msr.lnav.filter fun x => decide (stSec s < x.2.1 / 4294967296 + 72) } }

/-- Polarity resolves the half cycle of a data-only channel, or contradicts a pilot's (06_measurements R138, R143). -/
def polarityStep (k : Nat) (inverted : Bool) (s : State) : State :=
  let c := chanGet s k
  if (chanInfo c).two then
    if c.halfKnown ∧ inverted then bump cMsrPolarityConflict (chanSet k { c with conflict := true } s) else s
  else if c.half.isSome then s
  else
    let t := bump cMsrHalfResolved (chanSet k { c with half := some inverted, halfAdj := inverted } s)
    bumpIf inverted cMsrHalfAdjust t

/-- The time fields act: their signal reaches level 3 from data, the level 2 period is known, and GLONASS has a leap-second count (06_measurements R144). -/
def timeFieldsServe (s : State) (g : SearchTarget) (c : Chan) : Bool :=
  (chanInfo c).fromData && decide (2 ≤ c.level) && (g.sat.const != .glonass || s.msr.leap.isSome)

/-- Time fields fix the transmit time (06_measurements R144): its value modulo the level 2 period is the replica's. Where sky time gives a value too and the two differ by half the
period or more, the decoded one is used and the difference counts. -/
def timeStep (k : Nat) (g : SearchTarget) (tt : Rat) (s : State) : State :=
  let c := chanGet s k
  let p := level2S c
  if timeFieldsServe s g c = false then s
  else
    let tx := c.tx + p * (roundEven ((tt - c.tx) / p) : Int)
    let week : Rat := if g.sat.const = .glonass then 86400 else 604800
    let clash := match skyTx s (stOfTick s c.last) 0 c with | some q => decide (p / 2 ≤ absQ (reduceHalf (tx - q) week)) | none => false
    bumpIf clash cMsrTowConflict (chanSet k { c with tx := tx, level := 3 } s)

/-- A unit with time fields of a GPS, Galileo or non-GEO BeiDou satellite offers a seed (09_sky_time R221): its transmit time in GPS time plus 75 ms is the
estimated ST of its reception, to 15 ms. -/
def seedFromUnit (k : Nat) (g : SearchTarget) (gps : Option Rat) (s : State) : State :=
  match gps with
  | some q =>
    if g.sat.const = .gps ∨ g.sat.const = .galileo ∨ (g.sat.const = .beidou ∧ isGeo g.sat = false) then
      offerSeed (q + 75 / 1000 - stOfTick s (chanGet s k).last) 15000000 s
    else s
  | none => s

/-- Count the results of check units. -/
def countResults (l : List Nat) (s : State) : State :=
  l.foldl (fun u r => if r = 0 then bump cMsrNavPass u else if r = 1 then bump cMsrNavCorrected u else if r = 2 then bump cMsrNavFail u else u) s

/-- A navigation or symbol record is written to the ring and, with NAV_EXPORT, copied to the host (06_measurements R145, R148, R149). -/
def writeNav (x : RingRec) (kind : Nat) (b : List Byte) (s : State) : State :=
  let t := ringPut x s
  if cfgB s msrExportNavExport then recB 2 kind b t else t

/-- NAV_CHECK_UNIT (06_measurements R142–R147, 09_sky_time R221): the unit's transmit time is that of the replica at the end of the last dump. A signal of Table 06-4 with symbols
only has no units. -/
def execNavCheckUnit (ch : TrkChan) (u : NavUnit) (s : State) : Result :=
  let k := ch.val
  let c := chanGet s k
  match c.target with
  | none => .next s
  | some g =>
    if isNavChan s k = false ∨ followed c = false ∨ domOn s .msr = false ∨ symbolsOnly g.sig then .next s else
    let (bits, results) := checkUnit g.sig u
    let anyOk := results.any resultOk
    let allOk := results.all resultOk
    let timeOk := (timeWords g.sig).all fun i => resultOk (results.getD i 2)
    let t := countResults results s
    let t := match u.inverted with | some b => if anyOk then polarityStep k b t else t | none => t
    let t := match u.content.txTime with | some q => if timeOk then timeStep k g q t else t | none => t
    let t := if timeOk then seedFromUnit k g u.content.gpsTime t else t
    let t := if allOk then keepBits g u bits (storeUnit g u.content t) else t
    let rec_ := navHeader k g u.stFirst (unitKindOf g.sig) (u.inverted == some true) results bits.length ++ packBits bits
    .next (writeNav (.nav (stNow s) rec_) 0x0602 rec_ t)

/-- Soft symbols of a signal in one second. -/
def symbolsPerSecond (g : SearchTarget) : Nat := 1000 / (targetInfo g).symMs

/-- SYMBOL_RECORD (06_measurements R145, R147): one second of soft symbols of a symbol-only signal, or of one whose SYM_EXPORT bit is set. -/
def execSymbolRecord (ch : TrkChan) (s : State) : Result :=
  let k := ch.val
  let c := chanGet s k
  match c.target with
  | none => .next s
  | some g =>
    if isNavChan s k = false ∨ c.soft.length < symbolsPerSecond g ∨ domOn s .msr = false ∨
        (symbolsOnly g.sig = false ∧ (cfg s msrExportSymExport).testBit g.sig = false) then .next s
    else
      let first := stWord (stOfTick s c.last - ((c.soft.length * (targetInfo g).symMs : Nat) : Rat) / 1000)
      let rec_ := navHeader k g first 4 false [3] c.soft.length ++ c.soft.reverse.map fun v => BitVec.ofNat 8 (twos 8 v)
      .next (writeNav (.symbols (stNow s) rec_) 0x0603 rec_ (chanSet k { c with soft := [] } s))

end Sys2Proof.Machine
end

