-- ==== Sys2Proof/Machine/SolModel.lean ====
section
/-!
DEFINITION. What the position filters take in (07_solver R158–R168, R175–R177): the corrections in force, the satellites used, the model of a measurement, and the rows of an
update.
-/

namespace Sys2Proof.Machine

/-! ### Numbers of a filter -/

/-- A state. -/
def fx (f : Filt) (k : Nat) : Rat := f.x.getD k 0

/-- A covariance. -/
def fp (f : Filt) (i j : Nat) : Rat := (f.p.getD i []).getD j 0

/-- Three states as a vector. -/
def fvec (f : Filt) (k : Nat) : Vec3 := ⟨fx f k, fx f (k + 1), fx f (k + 2)⟩

/-- A state starts anew: its value and variance, without correlation. -/
def setState (k : Nat) (v var : Rat) (f : Filt) : Filt :=
  { x := f.x.zipIdx.map fun y => if y.2 = k then v else y.1,
    p := f.p.zipIdx.map fun r => r.1.zipIdx.map fun y => if r.2 = k ∧ y.2 = k then var else if r.2 = k ∨ y.2 = k then 0 else y.1 }

/-- A filter of n states that starts from given values. -/
def startFilt (n : Nat) (x : Nat → Rat) : Filt :=
  { x := (List.range n).map x, p := (List.range n).map fun i => (List.range n).map fun j => if i = j then Config.startVar i else 0 }

/-- The covariance of some states. -/
def subCov (f : Filt) (ks : List Nat) : List (List Rat) := ks.map fun i => ks.map fun j => fp f i j

/-- A real system solved. -/
def rSolve (m : List (List Rat)) (b : List Rat) : List Rat := (cSolve (m.map fun r => r.map fun x => ⟨x, 0⟩) (b.map fun x => ⟨x, 0⟩)).map (·.re)

/-- Sum of products. -/
def dotQ (a b : List Rat) : Rat := (List.zipWith (· * ·) a b).foldl (· + ·) 0

/-- The three states from k on, turned into a frame of unit vectors: a covariance of two of its axes. -/
def covIn (f : Filt) (k : Nat) (a b : Vec3) : Rat :=
  let row (i : Nat) : Rat := dotQ [fp f (k + i) k, fp f (k + i) (k + 1), fp f (k + i) (k + 2)] [b.x, b.y, b.z]
  dotQ [a.x, a.y, a.z] [row 0, row 1, row 2]

/-- Largest eigenvalue of a symmetric 2 by 2 matrix. -/
def lamMax (a b d : Rat) : Rat := (a + d) / 2 + Config.sqrt ((a - d) / 2 * ((a - d) / 2) + b * b)

/-- Largest eigenvalue of the horizontal covariance of the three states from k on. -/
def horizVar (f : Filt) (k : Nat) (fr : Vec3 × Vec3 × Vec3) : Rat := lamMax (covIn f k fr.1 fr.1) (covIn f k fr.1 fr.2.1) (covIn f k fr.2.1 fr.2.1)

/-! ### Corrections in force (07_solver R175–R177) -/

/-- Age of a correction in s. -/
def corrAge (s : State) (c : CorrItem) : Rat := stNow s - c.ref

/-- Age limit of a kind in s; satellite flags and URA have none. -/
def corrLimit (s : State) (kind : Nat) : Option Nat :=
  if kind = 7 then some (cfg s solCfgAgeOrb) else if kind = 8 ∨ kind = 11 then some (cfg s solCfgAgeClk)
  else if kind = 2 ∨ kind = 3 then some (10 * cfg s solCfgAgeBias)
  else if kind = 4 ∨ kind = 5 ∨ kind = 10 then some (cfg s solCfgAgeAtm) else none

/-- An item is within its age. -/
def corrFresh (s : State) (c : CorrItem) : Bool := match corrLimit s c.kind with | some n => decide (corrAge s c ≤ n) | none => true

/-- The usable issue of a satellite with an issue of data (07_solver R162, R177). -/
def issueOf (s : State) (v : SatId) (iod : Nat) : Option Issue :=
  match ephOf s v with | some e => e.issues.find? fun i => i.iod == iod && issueUsable s i | none => none

/-- The store holds a usable issue of a satellite with an issue of data. -/
def issueHeld (s : State) (v : SatId) (iod : Nat) : Bool := (issueOf s v iod).isSome

/-- Usable orbit and clock for a satellite among items: both fresh, equal IOD SSR, and the orbit's issue held and usable. -/
def orbClkOf (s : State) (l : List CorrItem) (v : SatId) : Option (CorrItem × CorrItem × Issue) :=
  l.findSome? fun o =>
    if o.kind = 7 ∧ o.sat = some v ∧ corrFresh s o then
      match issueOf s v o.iod, l.find? fun c => c.kind == 8 && c.sat == some v && c.sig == o.sig && corrFresh s c with
      | some i, some c => some (o, c, i)
      | _, _ => none
    else none

/-- A satellite has usable orbit and clock. -/
def orbClk (s : State) (l : List CorrItem) (v : SatId) : Bool := (orbClkOf s l v).isSome

/-- Distance from the published position to an area point in km, on a sphere of 111.195 km a degree (PRESUMED, log entry 16). -/
def areaKm (s : State) (a : Int × Int) : Option Rat :=
  (pubRec s).map fun r =>
    let dn : Rat := ((r.sol.pos.lat : Rat) / 1000000000 - (a.1 : Rat) / 10000000) * (111195 / 1000)
    let de : Rat := ((r.sol.pos.lon : Rat) / 1000000000 - (a.2 : Rat) / 10000000) * (111195 / 1000) * Config.cosDeg ((a.1 : Rat) / 10000000)
    Config.sqrt (dn * dn + de * de)

/-- The gateway lies within AREA_KM of an area point. -/
def inArea (s : State) (a : Option (Int × Int)) : Bool :=
  match a with
  | none => true
  | some p => match areaKm s p with | some d => decide (d ≤ cfg s solCfgAreaKm) | none => false

/-- Atmosphere items that apply now (07_solver R177). -/
def atmItems (s : State) : List CorrItem := s.sol.corr.filter fun c => (c.kind == 4 || c.kind == 5) && corrFresh s c && inArea s c.area

/-- Regional slant ionosphere or troposphere is applied to a satellite. -/
def atmFor (s : State) (v : SatId) : Bool := (atmItems s).any fun c => c.kind == 5 || c.sat == some v

/-- The corrections mark a satellite do-not-use. -/
def dnu (s : State) (v : SatId) : Bool := s.sol.corr.any fun c => c.kind == 6 && c.sat == some v && c.vals.head? == some 1

/-- A fresh bias of a signal: code (2) or phase (3) (07_solver R177). -/
def biasItem (s : State) (kind : Nat) (v : SatId) (sig : Nat) : Option CorrItem :=
  s.sol.corr.find? fun c => c.kind == kind && c.sat == some v && c.sig == sig && corrFresh s c

/-! ### What a filter uses (07_solver R158–R162, R167) -/

/-- The epoch that a filter processes: the last record, or in LAYUP, where the record comes after the fix, the present whole second. -/
def solEpoch (s : State) : Option Rat := if s.mode.mode = .layup then some (stSec s : Rat) else s.msr.lastRec.map (·.t)

/-- The entries of that epoch. -/
def solEntries (s : State) : List MeasEntry :=
  if s.mode.mode = .layup then
    ((busyChans s).filter fun x => followed x.2).filterMap fun x => entryOf s (stSec s : Rat) x.1 (settleChan s x.1 (stSec s : Rat) x.2)
  else match s.msr.lastRec with | some r => r.entries | none => []

/-- Entries of the position filters of a satellite, without the signals that are unhealthy. -/
def satEntries (s : State) (v : SatId) : List MeasEntry :=
  let bad := match ephOf s v with | some e => e.badSigs | none => []
  (solEntries s).filter fun e => e.role != .array && e.target.sat == v && !bad.contains e.target.sig

/-- Satellites with entries. -/
def solSats (s : State) : List SatId := (((solEntries s).filter fun e => e.role != .array).map fun e => e.target.sat).dedup

/-- Every entry of a satellite is on an unhealthy signal, or the satellite is unhealthy (07_solver R161). -/
def unhealthy (s : State) (v : SatId) : Bool := (match ephOf s v with | some e => e.bad | none => false) || (satEntries s v).isEmpty

/-- Code of an entry serves (07_solver R158). -/
def codeOk (e : MeasEntry) : Bool := decide (e.level = 3) && e.prValid

/-- Reason of R160 apart from capacity: the lowest code that applies. -/
def baseReason (s : State) (precise : Bool) (v : SatId) : Nat :=
  let es := satEntries s v
  if v.const = .sbas ∨ (cfg s solCfgConstEn).testBit (constCode v.const) = false then 1
  else if ephUsable s v = false then 2
  else if unhealthy s v then 3
  else if dnu s v then 4
  else if (match elevOf s v with | some e => decide (e < cfg s solCfgElevMask) | none => false) then 5
  else if es.all fun e => decide (e.cn0 < cfg s solCfgCn0Mask) then 6
  else if s.sol.excl.any fun x => x.1 == v then 7
  else if precise && !orbClk s s.sol.corr v then 8
  else if es.all fun e => !codeOk e then 9
  else 0

/-- Satellites by elevation, highest first, the first in order among equals. -/
def byElev (s : State) (l : List SatId) : List SatId := sortBy (fun a b => decide ((elevOf s b).getD (-90) < (elevOf s a).getD (-90))) l

/-- The precise filter's capacity: the 64 usable satellites that stand highest (07_solver R167). -/
def capacity (s : State) : List SatId := (byElev s ((solSats s).filter fun w => baseReason s true w == 0)).take 64

/-- Reason of R160 with the precise filter's capacity of 64 (07_solver R167). -/
def reasonOf (s : State) (precise : Bool) (v : SatId) : Nat :=
  let r := baseReason s precise v
  if precise && decide (r = 0) && !(capacity s).contains v then 10 else r

/-- The satellites that a filter uses. -/
def usedSats (s : State) (precise : Bool) : List SatId := (solSats s).filter fun v => reasonOf s precise v == 0

/-! ### Variances (07_solver R158, R159) -/

/-- Elevation in degrees that models and weights take; the zenith where none is predicted yet. -/
def elevFor (s : State) (v : SatId) : Rat := (elevOf s v).getD 90

/-- Azimuth in degrees that models take. -/
def azFor (s : State) (v : SatId) : Rat := match viewOf s v with | some w => w.az | none => 0

/-- The factor m of an elevation in degrees and a C/N0 in dB-Hz. -/
def sigmaM (el cn0 : Rat) : Rat := quot 1 (Config.sinDeg el) * max 1 (Config.pow10 ((40 - cn0) / 20))

/-- The factor m of an entry. -/
def entryM (s : State) (e : MeasEntry) : Rat := sigmaM (elevFor s e.target.sat) e.cn0

/-- Code and phase variances are multiplied by 4 under MP_SUSPECT. -/
def mpScale (e : MeasEntry) : Rat := if e.mp then 4 else 1

/-- Variance of code in m²: σ₀·m squared. -/
def codeVar (s : State) (e : MeasEntry) : Rat := let q := (targetInfo e.target).sigma0 * entryM s e; mpScale e * (q * q)

/-- Variance of phase in m²: 3 mm·m squared. -/
def phaseVar (s : State) (e : MeasEntry) : Rat := let q := 3 / 1000 * entryM s e; mpScale e * (q * q)

/-- Variance of range rate in (m/s)²: 0.05 m/s·m squared. -/
def dopVar (s : State) (e : MeasEntry) : Rat := let q := 5 / 100 * entryM s e; q * q

/-! ### The model of a measurement (07_solver R163, R168, R175, R176) -/

/-- A satellite as a receiver sees it: position and velocity with the Earth's rotation during the signal's travel, clock in s, unit vector to it, and range in m. -/
structure Sight where
  /-- Position. -/
  pos : Vec3
  /-- Velocity. -/
  vel : Vec3
  /-- Clock. -/
  clk : Rat
  /-- Unit vector. -/
  los : Vec3
  /-- Range. -/
  range : Rat

/-- The orbit correction turned out of radial, along and cross, in m, dt seconds after its reference time. -/
def orbitFix (o : CorrItem) (dt : Rat) (pos vel : Vec3) : Vec3 :=
  let v (i : Nat) : Rat := (o.vals.getD i 0 : Int)
  let a := vScale (quot 1 (vLen vel)) vel
  let n := vCross pos vel
  let c := vScale (quot 1 (vLen n)) n
  let r := vCross a c
  vAdd (vScale ((v 0 + v 4 / 100 * dt) / 10000) r) (vAdd (vScale ((v 1 + v 5 / 100 * dt) * 4 / 10000) a) (vScale ((v 2 + v 6 / 100 * dt) * 4 / 10000) c))

/-- The clock correction in m, a polynomial in dt. -/
def clockFix (c : CorrItem) (dt : Rat) : Rat :=
  let v (i : Nat) : Rat := (c.vals.getD i 0 : Int)
  v 0 / 10000 + v 1 / 1000000 * dt + v 2 / 50000000 * (dt * dt)

/-- The high-rate clock of a satellite in m, 0 where there is none. -/
def highRate (s : State) (v : SatId) : Rat :=
  match s.sol.corr.find? fun c => c.kind == 11 && c.sat == some v && corrFresh s c with
  | some c => ((c.vals.getD 0 0 : Int) : Rat) / 10000
  | none => 0

/-- Estimated GPS time of an epoch. -/
def gpsTime (s : State) (te : Rat) : Rat := te + seedNow s

/-- A satellite seen from a receiver at an epoch, from bits of ephemeris; with corrections, the broadcast position minus the rotated orbit correction and the
broadcast clock minus the clock correction over c (07_solver R176). -/
def sightOf (s : State) (v : SatId) (bits : List Bool) (corr : Option (CorrItem × CorrItem)) (r : Vec3) (te : Rat) : Sight :=
  let t := gpsTime s te
  let tau := vLen (vSub (satAt v bits t).1 r) / lightSpeed
  let o := satAt v bits (t - tau)
  let (p, k) := match corr with
    | some (a, c) => (vSub o.1 (orbitFix a (te - a.ref) o.1 o.2.1), o.2.2 - (clockFix c (te - c.ref) + highRate s v) / lightSpeed)
    | none => (o.1, o.2.2)
  let q := earthTurn tau p
  let l := vSub q r
  let d := vLen l
  ⟨q, earthTurn tau o.2.1, k, vScale (quot 1 d) l, d⟩

/-- Mapping of the zenith delay to an elevation in degrees. -/
def tropoMap (el : Rat) : Rat := let q := Config.sinDeg el; quot (1001 / 1000) (Config.sqrt (2001 / 1000000 + q * q))

/-- Zenith delays of the standard atmosphere at a position: hydrostatic and wet. -/
def zenithAt (p : Position) : Rat × Rat := Config.zenithDelay (101325 / 100) 15 50 ((p.lat : Rat) / 1000000000) ((p.hgt : Rat) / 1000)

/-- (1,575.42 MHz / f)². -/
def ionoScale (g : SearchTarget) : Rat := l1Hz / carrierOf g * (l1Hz / carrierOf g)

/-- A position in the units of Table 07-9. -/
def positionOf (r : Vec3) : Position := let g := Config.geodetic r; ⟨g.1, g.2.1, g.2.2⟩

/-- State of a satellite's receiver clock: 9–14. -/
def clockIdx (v : SatId) : Nat := 9 + constCode v.const

/-- Partial derivatives of a receiver code bias, 16–33; that of B1 is the reference, 0. -/
def biasH (v : SatId) (b : Band) (k : Rat) : List (Nat × Rat) := if b = 0 then [] else [(16 + 3 * constCode v.const + (b.val - 1), k)]

/-- The modelled part that a filter's states give a row. -/
def stateSum (f : Filt) (h : List (Nat × Rat)) : Rat := (h.map fun x => x.2 * fx f x.1).foldl (· + ·) 0

/-- A satellite's first entry of those that serve. -/
def lowestSig (l : List MeasEntry) (ok : MeasEntry → Bool) : Option MeasEntry := (sortBy (fun a b => decide (a.target.sig < b.target.sig)) (l.filter ok)).head?

/-- The row of a satellite's Doppler: range rate −λ·D against the line of sight (06_measurements R139). -/
def dopplerRow (s : State) (f : Filt) (g : Sight) (e : MeasEntry) : ObsRow :=
  { kind := .doppler, sat := some e.target.sat, sig := e.target.sig, h := [(3, -g.los.x), (4, -g.los.y), (5, -g.los.z), (15, 1)],
    res := -(wavelength e.target * e.doppler) - (vDot g.los (vSub g.vel (fvec f 3)) + fx f 15), var := dopVar s e }

/-! ### Rows of the standalone filter (07_solver R163) -/

/-- The row of a satellite's code: ionosphere-free with B1 and B5, else on one band with the scaled broadcast ionosphere. -/
def stdCodeRow (s : State) (te : Rat) (f : Filt) (g : Sight) (v : SatId) : Option ObsRow :=
  let es := (satEntries s v).filter codeOk
  let pos := positionOf (fvec f 0)
  let z := zenithAt pos
  let trop := (z.1 + z.2) * tropoMap (elevFor s v)
  let dir := [(0, -g.los.x), (1, -g.los.y), (2, -g.los.z), (clockIdx v, 1)]
  let base := g.range + trop - lightSpeed * g.clk + fx f (clockIdx v)
  match lowestSig es (fun e => (targetInfo e.target).band == 0), lowestSig es (fun e => (targetInfo e.target).band == 2) with
  | some a, some b =>
    let x := carrierOf a.target * carrierOf a.target
    let y := carrierOf b.target * carrierOf b.target
    let ka := quot x (x - y)
    let kb := quot y (x - y)
    let bias := biasH v 2 (-kb)
    some { kind := .code, sat := some v, sig := a.target.sig, h := dir ++ bias, res := ka * a.pr - kb * b.pr - (base + stateSum f bias),
           var := ka * ka * codeVar s a + kb * kb * codeVar s b }
  | _, _ =>
    (lowestSig es fun _ => true).map fun a =>
      let deg (n : Int) : Rat := (n : Rat) / 1000000000
      let iono := Config.klobuchar s.msr.iono (deg pos.lat) (deg pos.lon) (azFor s v) (elevFor s v) (gpsTime s te) * ionoScale a.target
      let bias := biasH v (targetInfo a.target).band 1
      { kind := .code, sat := some v, sig := a.target.sig, h := dir ++ bias, res := a.pr - (base + iono + stateSum f bias), var := codeVar s a }

/-- The bits of the ephemeris that the standalone filter uses: the newest usable issue (07_solver R162). -/
def ephBits (s : State) (v : SatId) : Option (List Bool) := match ephOf s v with | some e => (e.issues.find? (issueUsable s)).map (·.bits) | none => none

/-- The rows of a satellite. -/
def stdRowsOf (s : State) (te : Rat) (f : Filt) (v : SatId) : List ObsRow :=
  match ephBits s v with
  | none => []
  | some b =>
    let g := sightOf s v b none (fvec f 0) te
    (stdCodeRow s te f g v).toList ++ ((lowestSig (satEntries s v) (·.dopValid)).map (dopplerRow s f g)).toList

/-- The rows of a standalone epoch. -/
def stdRows (s : State) (te : Rat) (f : Filt) (used : List SatId) : List ObsRow := used.flatMap (stdRowsOf s te f)

/-- Satellites with code in rows. -/
def codeSats (rows : List ObsRow) : List SatId := ((rows.filter fun r => r.kind == .code).filterMap (·.sat)).dedup

/-- A solution can be formed: as many satellites with code as position and the receiver clocks of their constellations take (log entry 108). -/
def formedBy (rows : List ObsRow) : Bool := decide (3 + ((codeSats rows).map (·.const)).dedup.length ≤ (codeSats rows).length)

/-- A standalone filter starts: from the position that predictions use, else from the code alone. -/
def startStd (s : State) (te : Rat) (used : List SatId) : Filt :=
  let r := match predictPos s with
    | some p => Config.ecefOf p.lat p.lon p.hgt
    | none => Config.startPos (used.filterMap fun v => match ephBits s v, lowestSig (satEntries s v) codeOk with
        | some b, some e => some ((satAt v b (gpsTime s te)).1, e.pr)
        | _, _ => none)
  startFilt 34 fun k => if k = 0 then r.x else if k = 1 then r.y else if k = 2 then r.z else 0

/-! ### Terms of the precise model (07_solver R168) -/

/-- Solid Earth tide of degree 2 at a receiver: its displacement in m (the numbers are the IERS Conventions', PRESUMED, log entry 16). -/
def solidTide (t : Rat) (r : Vec3) : Vec3 :=
  let b := Config.sunMoon t
  let u := vScale (quot 1 (vLen r)) r
  let term (gm : Rat) (p : Vec3) : Vec3 :=
    let d := vLen p
    let n := vScale (quot 1 d) p
    let c := vDot n u
    let k := quot (gm * (6378137 * 6378137 * 6378137 * 6378137)) (398600441800000 * (d * d * d))
    vScale k (vAdd (vScale (6078 / 10000 * (3 / 2 * (c * c) - 1 / 2)) u) (vScale (3 * (847 / 10000) * c) (vSub n (vScale c u))))
  vAdd (term 132712440018000000000 b.1) (term 4902800000000 b.2)

/-- Shapiro delay in m. -/
def shapiro (g : Sight) (r : Vec3) : Rat :=
  let q := vLen g.pos + vLen r
  2 * 398600441800000 / (lightSpeed * lightSpeed) * Config.ln (quot (q + g.range) (q - g.range))

/-- x and y axes of a satellite's body: nominal yaw toward the Sun, or turned by a yaw angle in degrees from the direction of flight. -/
def satAxes (t : Rat) (g : Sight) (yaw : Option Rat) : Vec3 × Vec3 :=
  let unit (v : Vec3) : Vec3 := vScale (quot 1 (vLen v)) v
  let z := unit (vScale (-1) g.pos)
  match yaw with
  | none => let y := unit (vCross z (vSub (Config.sunMoon t).1 g.pos)); (vCross y z, y)
  | some a =>
    let y0 := unit (vCross z g.vel)
    let x0 := vCross y0 z
    let x := vAdd (vScale (Config.cosDeg a) x0) (vScale (Config.sinDeg a) y0)
    (x, vCross z x)

/-- Phase wind-up in cycles, run on from its last value. -/
def windUp (t : Rat) (g : Sight) (fr : Vec3 × Vec3 × Vec3) (yaw : Option Rat) (last : Rat) : Rat :=
  let k := vScale (-1) g.los
  let a := satAxes t g yaw
  let ds := vSub (vSub a.1 (vScale (vDot k a.1) k)) (vCross k a.2)
  let dr := vAdd (vSub fr.2.1 (vScale (vDot k fr.2.1) k)) (vCross k (vScale (-1) fr.1))
  let q := Config.acosDeg (quot (vDot ds dr) (vLen ds * vLen dr)) / 360
  let w := if vDot k (vCross ds dr) < 0 then -q else q
  w + (roundEven (last - w) : Int)

/-- Variance in m² of a satellite's orbit and clock correction: URA (07_solver R175; its scale is RTCM's, PRESUMED, log entry 16), else the item's QUAL. -/
def orbitVar (s : State) (v : SatId) (o : CorrItem) : Rat :=
  match s.sol.corr.find? fun c => c.kind == 9 && c.sat == some v with
  | some c => let n := (c.vals.getD 0 0).toNat; let q : Rat := ((3 ^ (n / 8) : Nat) * (1 + (n % 8 : Nat) / 4 : Rat) - 1) / 1000; q * q
  | none => let q : Rat := 5 * ((o.vals.getD 3 0 : Int) : Rat) / 1000; q * q

/-- Yaw angle in degrees that the phase-bias messages give a satellite. -/
def yawOf (s : State) (v : SatId) : Option Rat :=
  match s.sol.corr.find? fun c => c.kind == 3 && c.sat == some v && corrFresh s c && decide (4 ≤ c.vals.length) with
  | some c => some (((c.vals.getD 3 0 : Int) : Rat) * 180 / 256)
  | none => none

/-! ### Rows of the precise filter (07_solver R166–R168, R175–R177, R180) -/

/-- State of a satellite's slant ionosphere. -/
def ionoIdx (iono : List (Nat × SatId)) (v : SatId) : Option Nat := (iono.find? fun x => x.2 == v).map (·.1)

/-- Metres at L1 of one TECU. -/
def tecuM : Rat := 403000000000000000 / (l1Hz * l1Hz)

/-- What a precise epoch knows of a satellite. -/
structure PrecSat where
  /-- Satellite. -/
  sat : SatId
  /-- As it is seen. -/
  sight : Sight
  /-- Modelled range with troposphere a priori, Shapiro delay and satellite clock, in m. -/
  base : Rat
  /-- Wind-up in cycles. -/
  wind : Rat
  /-- Variance of its corrections. -/
  var : Rat

/-- The model of a satellite at a precise epoch, at the receiver displaced by the solid tide. -/
def precSat (s : State) (te : Rat) (f : Filt) (v : SatId) : Option PrecSat :=
  (orbClkOf s s.sol.corr v).map fun x =>
    let t := gpsTime s te
    let r0 := fvec f 0
    let r := vAdd r0 (solidTide t r0)
    let g := sightOf s v x.2.2.bits (some (x.1, x.2.1)) r te
    let p := positionOf r0
    let last := match s.sol.wind.find? fun y => y.1 == v with | some y => y.2 | none => 0
    { sat := v, sight := g, base := g.range + (zenithAt p).1 * tropoMap (elevFor s v) + shapiro g r - lightSpeed * g.clk,
      wind := windUp t g (localFrame p) (yawOf s v) last, var := orbitVar s v x.1 }

/-- Partial derivatives of the wet zenith delay and its gradients, states 36–38. -/
def tropoH (s : State) (v : SatId) : List (Nat × Rat) :=
  let el := elevFor s v
  let m := tropoMap el
  let cot := quot (Config.cosDeg el) (Config.sinDeg el)
  [(36, m), (37, m * cot * Config.cosDeg (azFor s v)), (38, m * cot * Config.sinDeg (azFor s v))]

/-- Partial derivative of the GLONASS inter-frequency code bias slopes, states 34 and 35. -/
def slopeH (g : SearchTarget) : List (Nat × Rat) :=
  if g.sig = 12 then [(34, (g.fcn : Rat) - 7)] else if g.sig = 13 then [(35, (g.fcn : Rat) - 7)] else []

/-- Rows of an entry: code, and phase where the signal has an ambiguity state. Code and phase biases add to the measurement (07_solver R176). -/
def precEntryRows (s : State) (f : Filt) (iono : List (Nat × SatId)) (amb : List AmbState) (q : PrecSat) (e : MeasEntry) : List ObsRow :=
  let g := q.sight
  let k := ionoScale e.target
  let common := [(0, -g.los.x), (1, -g.los.y), (2, -g.los.z), (clockIdx q.sat, 1)] ++ tropoH s q.sat
  let geo := q.base + fx f (clockIdx q.sat) + stateSum f (tropoH s q.sat)
  let ion (z : Rat) : List (Nat × Rat) := match ionoIdx iono q.sat with | some i => [(i, z * k)] | none => []
  let item (kind : Nat) (unit : Rat) : Rat := match biasItem s kind q.sat e.target.sig with | some c => ((c.vals.getD 0 0 : Int) : Rat) * unit | none => 0
  let code : List ObsRow := if codeOk e then
      let h := ion 1 ++ biasH q.sat (targetInfo e.target).band 1 ++ slopeH e.target
      [{ kind := .code, sat := some q.sat, sig := e.target.sig, h := common ++ h, res := e.pr + item 2 (1 / 100) - (geo + stateSum f h), var := codeVar s e + q.var }]
    else []
  let phase : List ObsRow := match amb.find? fun a => a.sat == q.sat && a.sig == e.target.sig with
    | some a =>
      if e.phValid then
        let h := ion (-1) ++ [(a.place, wavelength e.target)]
        [{ kind := .phase, sat := some q.sat, sig := e.target.sig, h := common ++ h,
           res := wavelength e.target * (e.phase - q.wind) + item 3 (1 / 10000) - (geo + stateSum f h), var := phaseVar s e + q.var }]
      else []
    | none => []
  code ++ phase

/-- A pseudo-observation of one state. -/
def pseudoRow (f : Filt) (v : Option SatId) (k : Nat) (value var : Rat) : ObsRow :=
  { kind := .pseudo, sat := v, sig := 0, h := [(k, 1)], res := value - fx f k, var := var }

/-- Atmosphere as pseudo-observations: regional items with their QUAL as 1σ, and VTEC as the prior of the ionosphere states (07_solver R175, R177). -/
def atmRows (s : State) (f : Filt) (iono : List (Nat × SatId)) : List ObsRow :=
  let v (c : CorrItem) (i : Nat) : Rat := (c.vals.getD i 0 : Int)
  let sq (x : Rat) : Rat := x * x
  let regional := (atmItems s).flatMap fun c =>
    if c.kind = 5 then
      let var := sq (v c 3 / 1000)
      [pseudoRow f none 36 (v c 0 / 10000) var, pseudoRow f none 37 (v c 1 / 100000) var, pseudoRow f none 38 (v c 2 / 100000) var]
    else match c.sat with
      | some w => ((ionoIdx iono w).map fun i => pseudoRow f (some w) i (v c 0 / 100 * tecuM) (sq (v c 1 / 20 * tecuM))).toList
      | none => []
  let prior := (s.sol.corr.filter fun c => c.kind == 10 && corrFresh s c).flatMap fun c =>
    iono.map fun x => let q := Config.vtecSlant c.vals (fvec f 0) (azFor s x.2) (elevFor s x.2); pseudoRow f (some x.2) x.1 q.1 q.2
  regional ++ prior

/-- Held integers as constraints (07_solver R180). -/
def heldRows (f : Filt) (amb : List AmbState) : List ObsRow :=
  amb.filterMap fun a => match a.fixed with | some n => if a.held then some (pseudoRow f (some a.sat) a.place n 0) else none | none => none

/-- The rows of a precise epoch. -/
def precRows (s : State) (f : Filt) (iono : List (Nat × SatId)) (amb : List AmbState) (sats : List PrecSat) : List ObsRow :=
  (sats.flatMap fun q => (satEntries s q.sat).flatMap (precEntryRows s f iono amb q) ++
    ((lowestSig (satEntries s q.sat) (·.dopValid)).map (dopplerRow s f q.sight)).toList) ++ atmRows s f iono ++ heldRows f amb

end Sys2Proof.Machine
end

