-- ==== Sys2Proof/Machine/Envelopes.lean ====
section
/-!
DEFINITION. Correction envelopes (07_solver R170–R177): their checks and verification, their content, and the items held.
-/

namespace Sys2Proof.Machine

/-! ### Envelopes (07_solver R170–R174) -/

/-- Keys of SOL.KEY. -/
def keyCount (s : State) : Nat := match blockOf s 8 0x0711 with | some b => b.words / 18 | none => 0

/-- The entry of a KEY_ID whose mask admits a format. -/
def keyEntry (s : State) (id format : Nat) : Option Nat :=
  (List.range (keyCount s)).find? fun k => cfgAt s solKeyKeyId k == id && (cfgAt s solKeyFmtMask k).testBit format

/-- Bytes of an envelope. -/
def envBytes (e : Envelope) : Nat := e.signed.length + 64

/-- Drop the oldest waiting envelopes until `n` bytes fit in the input partition of 256 KiB; count them (07_solver R173). -/
def makeEnvRoom (n used : Nat) : List Envelope → List Envelope × Nat
  | [] => ([], 0)
  | e :: l =>
    if used + n + ((e :: l).map envBytes).sum ≤ 262144 then (e :: l, 0)
    else match makeEnvRoom n used l with | (r, k) => (r, k + 1)

/-- An envelope arrives: checks 1–3 of R172, then it enters the input partition (07_solver R173). -/
def envelopeArrive (b : List Byte) (s : State) : State :=
  let h := leNat (b.take 12)
  let len := getBits h 16 16
  let format := getBits h 8 2
  if b.length < 12 ∨ 2 ≤ format ∨ getBits h 10 6 ≠ 0 ∨ len = 0 ∨ 3968 < len ∨ b.length ≠ 76 + len then bump cSolEnvFormat s
  else if s.mode.aligned = false then bump cSolEnvEarly s
  else if keyEntry s (getBits h 0 8) format = none then bump cSolEnvUnknownKey s
  else
    let e : Envelope := ⟨getBits h 0 8, format, getBits h 32 64, b.take (12 + len), b.drop (12 + len)⟩
    let used := match s.sol.verify with | some v => envBytes v.1 | none => 0
    let (l, k) := makeEnvRoom (envBytes e) used s.sol.env
    (List.range k).foldl (fun u _ => bump cSolEnvSpill u) { s with sol := { s.sol with env := l ++ [e] } }

/-- GPS week of the present, without roll-over. -/
def gpsWeek (s : State) : Nat := stSec s / 604800

/-- Owner of crypto slot `i` (12_polders Table 12-14): 0–7 polder, 12 common, 15 none. -/
def cryptoOwner (s : State) (i : Nat) : Nat :=
  if (blockOf s 8 0x1210).isSome then cfgAt s pldCryptoOwner i
  else if i = 0 ∨ i = 16 then 12 else if 1 ≤ i ∧ i ≤ 8 then i - 1 else if 17 ≤ i ∧ i ≤ 24 then i - 17 else 15

/-- The common slots of the engine's millisecond (12_polders R312). -/
def commonSlots (s : State) : List Nat := (List.range 32).filter fun i => cryptoOwner s i == 12

/-- The crypto slot now, counted from ST 0. -/
def cryptoSlotNow (s : State) : Nat := (stNow s * 32000).floor.toNat

/-- End of the n-th own slot from slot `g` on, in s of ST: the slots of a millisecond repeat. -/
def cryptoEnd (own : List Nat) (g n : Nat) : Rat :=
  let k := own.length
  let j := (own.filter fun i => decide (i < g % 32)).length + n - 1
  (((g / 32 + j / k) * 32 + own.getD (j % k) 0 + 1 : Nat) : Rat) / 32000

/-- Common slots that an envelope occupies: its SHA-256, then its ECDSA P-256 verification (07_solver R173). -/
def envSlots (e : Envelope) : Nat := 2 + ceilDiv e.signed.length 128 + 32

/-- The first crypto slot that starts from now on. -/
def nextCryptoSlot (s : State) : Nat := (ceilQ (stNow s * 32000)).toNat

/-- ENVELOPE_VERIFY_START (07_solver R172 checks 4–6, R173). -/
def execEnvelopeVerifyStart (s : State) : Result :=
  if s.sol.verify.isSome ∨ domOn s .cry = false ∨ domOn s .sol = false then .next s else
  match s.sol.env with
  | [] => .next s
  | e :: rest =>
    let t := { s with sol := { s.sol with env := rest } }
    let issue := stOfWord e.issue
    let stale := decide (issue < stNow s - cfg s solCfgAgeClk) || decide (stNow s + 5 < issue) ||
      (match s.sol.issues.find? fun x => x.1 == e.key with | some x => decide (e.issue ≤ x.2) | none => false)
    match keyEntry s e.key e.format with
    | none => .next (bump cSolEnvUnknownKey t)
    | some k =>
      if gpsWeek s < cfgAt s solKeyFromWeek k ∨ cfgAt s solKeyUntilWeek k < gpsWeek s then .next (bump cSolEnvKeyExpired t)
      else if stale then .next (bump cSolEnvStale t)
      else .next { t with sol := { t.sol with verify := some (e, cryptoEnd (commonSlots s) (nextCryptoSlot s) (envSlots e)) } }

/-! ### Content (07_solver R175, R176) -/

/-- What parsing a content yields: items, and how often each of HCC_FORMAT, RTCM_CRC and MSG_UNSUPPORTED counts. -/
structure Parsed where
  /-- Items in order, message by message. -/
  items : List (List CorrItem)
  /-- HCC_FORMAT. -/
  hcc : Nat
  /-- RTCM_CRC. -/
  crc : Nat
  /-- MSG_UNSUPPORTED. -/
  unsup : Nat

/-- Constellation of a CONST code (07_solver Table 07-7). -/
def constOf (n : Nat) : Constellation := [.gps, .glonass, .galileo, .beidou, .qzss, .navic].getD n .sbas

/-- Highest satellite number of a constellation (PRESUMED, log entry 16). -/
def satMax : Constellation → Nat
  | .gps => 32 | .glonass => 27 | .galileo => 36 | .beidou => 63 | .qzss => 10 | .navic => 14 | .sbas => 63

/-- Bytes of a compact item (07_solver Table 07-8); 0 for an unknown type. -/
def compactSize (t : Nat) : Nat := if t = 1 then 16 else if t = 2 ∨ t = 3 ∨ t = 4 then 4 else if t = 5 then 8 else if t = 6 then 1 else 0

/-- A compact item (07_solver Table 07-8). -/
def compactItem (type const tref : Nat) (area : Option (Int × Int)) (v : Nat) : List CorrItem :=
  let k := constOf const
  let sv := getBits v 0 6
  let sat : SatId := ⟨k, sv⟩
  let sx (lo w : Nat) : Int := sext w (getBits v lo w)
  let ux (lo w : Nat) : Int := (getBits v lo w : Nat)
  if type ≠ 5 ∧ (sv = 0 ∨ satMax k < sv) then [] else
  if type = 1 then
    [⟨7, some sat, 0, getBits v 6 10, tref, [sx 16 20, sx 36 20, sx 56 20, ux 98 6], none, false⟩, ⟨8, some sat, 0, 0, tref, [sx 76 22], none, false⟩]
  else if type = 2 then [⟨2, some sat, getBits v 6 5, 0, tref, [sx 11 14], none, false⟩]
  else if type = 3 then [⟨3, some sat, getBits v 6 5, 0, tref, [sx 11 18, ux 29 2, ux 31 1], none, false⟩]
  else if type = 4 then [⟨4, some sat, 0, 0, tref, [sx 6 16, ux 22 6], area, false⟩]
  else if type = 5 then [⟨5, none, 0, 0, tref, [ux 0 16, sx 16 12, sx 28 12, ux 40 8], area, false⟩]
  else [⟨6, some sat, 0, 0, tref, [ux 6 1], none, false⟩]

/-- Compact content, message by message (07_solver R176); `fuel` bounds the messages. -/
def parseCompact : Nat → List Byte → Parsed
  | 0, _ => ⟨[], 0, 0, 0⟩
  | fuel + 1, b =>
    if b = [] then ⟨[], 0, 0, 0⟩ else
    let h := leNat (b.take 8)
    let type := getBits h 0 8
    let const := getBits h 8 3
    let n := if type = 5 then 1 else getBits h 16 8
    let area := type == 4 || type == 5
    let head := if area then 16 else 8
    let size := compactSize type
    if b.length < 8 ∨ size = 0 ∨ (type ≠ 5 ∧ 6 ≤ const) then ⟨[], 1, 0, 0⟩
    else if b.length < head + n * size then ⟨[], 1, 0, 0⟩
    else
      let a : Option (Int × Int) := if area then some (sext 32 (leAt b 8 4), sext 32 (leAt b 12 4)) else none
      let items := (List.range n).flatMap fun i => compactItem type const (getBits h 32 32) a (leAt b (head + i * size) size)
      let r := parseCompact fuel (b.drop (head + n * size))
      { r with items := items :: r.items }

/-- The messages of Table 07-6. -/
def rtcmUsed (n : Nat) : Bool :=
  (decide (1057 ≤ n) && decide (n ≤ 1068)) || (decide (1240 ≤ n) && decide (n ≤ 1251)) || (decide (1258 ≤ n) && decide (n ≤ 1268)) || n == 1270

/-- RTCM 3 content, frame by frame: 0xD3, 6 reserved bits, 10 bits of length, the message, CRC-24Q (07_solver R175; the framing is RTCM's, PRESUMED, log
entry 16). -/
def parseRtcm (datumReg : Bool) : Nat → List Byte → Parsed
  | 0, _ => ⟨[], 0, 0, 0⟩
  | fuel + 1, b =>
    if b.length < 6 ∨ b.head? ≠ some 0xD3 then ⟨[], 0, 0, 0⟩ else
    let n := beNat ((b.drop 1).take 2) % 1024
    let f := b.take (3 + n)
    let msg := f.drop 3
    let r := parseRtcm datumReg fuel (b.drop (6 + n))
    if b.length < 6 + n ∨ crc24 f ≠ beNat ((b.drop (3 + n)).take 3) then { r with crc := r.crc + 1 }
    else if rtcmUsed (beNat (msg.take 2) / 16) = false then { r with unsup := r.unsup + 1 }
    else
      let items : List CorrItem := (Config.rtcmItems msg).map fun x =>
        ⟨x.1, x.2.1.map fun v => ⟨constOf v.1, v.2⟩, x.2.2.1, x.2.2.2.1, x.2.2.2.2.1, x.2.2.2.2.2, none, false⟩
      let items := (items.filter fun c => !(c.kind == 7 && c.vals.head? == some 1 && !datumReg)).map fun c => if c.kind = 7 then { c with vals := c.vals.drop 1 } else c
      { r with items := items :: r.items }

/-- An ambiguity that starts anew at the next precise epoch: its integer and its hold are released (07_solver R158, R174, R177, R180, R183). -/
def resetAmb (x : AmbState) : AmbState := { x with fresh := true, fixed := none, run := 0, held := false }

/-- A newer item replaces an older one of the same kind and subject. -/
def sameItem (a b : CorrItem) : Bool := a.kind == b.kind && a.sat == b.sat && (if a.kind = 2 ∨ a.kind = 3 then a.sig == b.sig else a.area == b.area)

/-- Hold one item (07_solver R177). An atmosphere item outside the area is held too, and applies only while the gateway lies within AREA_KM of its point. -/
def holdItem (s : State) (c : CorrItem) : State :=
  let old := s.sol.corr.find? (sameItem c)
  if (match old with | some o => decide (c.ref < o.ref) | none => false) then s else
  let waits : Bool := match c.sat with | some v => c.kind == 7 && !issueHeld s v c.iod | none => false
  let disc : Bool := match old with | some o => c.kind == 3 && o.vals.getD 1 0 != c.vals.getD 1 0 | none => false
  let amb := if disc then s.sol.amb.map fun x => if x.sig = c.sig ∧ c.sat = some x.sat then resetAmb x else x else s.sol.amb
  bumpIf waits cSolIodWait
    { s with sol := { s.sol with corr := (s.sol.corr.filter fun x => !sameItem c x) ++ [{ c with waits := waits }], amb := amb } }

/-- Hold a message's items; an atmosphere message outside the area counts (07_solver R177). -/
def holdMessage (s : State) (l : List CorrItem) : State :=
  bumpIf (l.any fun c => (c.kind == 4 || c.kind == 5) && !inArea s c.area) cSolAtmOutOfArea (l.foldl holdItem s)

/-- Satellites with usable orbit and clock among items. -/
def orbClkCount (s : State) (l : List CorrItem) : Nat := ((l.filterMap (·.sat)).dedup.filter (orbClk s l)).length

/-- An accepted envelope's items take effect (07_solver R174). -/
def applyItems (key : Nat) (items : List (List CorrItem)) (s : State) : State :=
  let carries := decide (4 ≤ orbClkCount s items.flatten)
  let s1 :=
    if carries ∧ s.sol.key ≠ some key then
      (match s.sol.key with
      | none => { s with sol := { s.sol with key := some key } }
      | some _ => bump cSolKeySwitch { s with sol := { s.sol with key := some key, corr := [], amb := s.sol.amb.map resetAmb } })
    else s
  if s1.sol.key = some key then items.foldl holdMessage s1 else s1

/-- ENVELOPE_VERDICT (07_solver R171, R172 check 7): once the envelope's last common slot has ended. -/
def execEnvelopeVerdict (s : State) : Result :=
  match s.sol.verify with
  | none => .next s
  | some (e, end_) =>
    if stNow s < end_ then .next s else
    let t := { s with sol := { s.sol with verify := none } }
    let k := (keyEntry s e.key e.format).getD 0
    let point := leBytes 32 (cfgAt s solKeyKeyX k) ++ leBytes 32 (cfgAt s solKeyKeyY k)
    if ecdsaVerify (sha256 e.signed) point e.sig then
      let u := bump cSolEnvAccept { t with sol := { t.sol with issues := (e.key, e.issue) :: t.sol.issues.filter fun x => x.1 != e.key } }
      let body := e.signed.drop 12
      let p := if e.format = 0 then parseRtcm (cfgB s solCfgDatumReg) body.length body else parseCompact body.length body
      let many (i n : Nat) (x : State) : State := (List.range n).foldl (fun y _ => bump i y) x
      .next (applyItems e.key p.items (many cSolHccFormat p.hcc (many cSolRtcmCrc p.crc (many cSolMsgUnsupported p.unsup u))))
    else .next (bump cSolEnvSigFail t)

end Sys2Proof.Machine
end

