-- ==== Sys2Proof/Machine/SolOut.lean ====
section
/-!
DEFINITION. What the solver publishes (07_solver R184–R188, R192): the four structures of the basin, their records, NMEA sentences and the status.
-/

namespace Sys2Proof.Machine

/-! ### Published structures (07_solver R184–R187, Tables 07-9 to 07-12) -/

/-- K_FA or K_MD. -/
def tenth (s : State) (f : Fld) : Rat := (cfg s f : Rat) / 10

/-- Protection levels of the published solution at t in cm: horizontal, vertical, valid (07_solver R184). -/
def pubLevels (s : State) (t : Rat) : Nat × Nat × Bool :=
  match (if pubPrecise s then s.sol.levels[1] else s.sol.levels[0]), pubRec s with
  | some l, some r =>
    let grow := tenth s solFdeKMd * r.sol.sigV * (t - l.t)
    if l.valid then (min 16777215 (ceilQ (l.h + grow)).toNat, min 16777215 (ceilQ (l.v + grow)).toNat, true) else (16777215, 16777215, false)
  | _, _ => (16777215, 16777215, false)

/-- TYPE of the published solution. -/
def pubType (s : State) : Nat := if inService s = false ∨ s.mode.mode = .holdover then 0 else match pubRec s with | some r => r.type | none => 0

/-- The lever arm applies (07_solver R187). -/
def leverOn (s : State) : Bool := attValid s && decide (s.sol.att.axes = 3)

/-- The output point: REF moved by the lever arm, which is turned out of the body frame. -/
def outputPos (s : State) (p : Position) : Position :=
  let v : Vec3 := ⟨cfgI s solCfgLeverX, cfgI s solCfgLeverY, cfgI s solCfgLeverZ⟩
  if leverOn s = false ∨ vZero v then p else
  let c (u : Vec3) : Rat := vDot v (toBody s.sol.att u)
  let (a, b, h) := Config.movePos p.lat p.lon p.hgt (c ⟨1, 0, 0⟩) (c ⟨0, 1, 0⟩) (c ⟨0, 0, 1⟩)
  ⟨a, b, h⟩

/-- The solution whose position is published: none in HOLDOVER and outside service (07_solver R157, Table 07-1). -/
def shownRec (s : State) : Option SolRec := if inService s = false ∨ s.mode.mode = .holdover then none else pubRec s

/-- SOL.PVT (07_solver Table 07-9). -/
def solPvt (s : State) : List Byte :=
  match shownRec s with
  | none => sread basinDflt [] 0xE018 40
  | some r =>
    let p := outputPos s r.sol.pos
    let sat (n : Nat) : Nat := min 65535 n
    leBytes 40 (packFields
      [(0, 64, stWord r.t), (64, 3, pubType s), (67, 1, b2n (pvtValid s)), (68, 1, b2n (velValid s)), (69, 1, b2n (leverOn s)), (70, 1, b2n r.atm),
       (71, 1, b2n (pubPrecise s)), (72, 8, min 255 r.used.length), (80, 40, twos 40 p.lat), (120, 40, twos 40 p.lon), (160, 32, twos 32 p.hgt),
       (192, 24, twos 24 r.sol.ve), (216, 24, twos 24 r.sol.vn), (240, 24, twos 24 r.sol.vu), (264, 16, sat r.sol.h95), (280, 16, sat r.sol.v95),
       (296, 16, sat r.sol.vel95)])

/-- SOL.TIME (07_solver Table 07-10). -/
def solTime (s : State) : List Byte :=
  match s.sol.time with
  | none => sread basinDflt [] 0xE040 24
  | some (t, c, via, n) =>
    leBytes 24 (packFields
      [(0, 64, stWord t), (64, 48, twos 48 c.offset), (112, 16, min 65535 c.sigma), (128, 32, twos 32 c.drift), (160, 1, b2n s.sol.timeValid),
       (161, 1, b2n (s.sol.timeValid && !s.ary.spoof)), (162, 1, b2n s.sol.hold.isSome), (163, 1, b2n via), (164, 8, min 255 n)])

/-- SOL.ATT (07_solver Table 07-11). -/
def solAtt (s : State) : List Byte :=
  let a := s.sol.att
  leBytes 24 (packFields
    [(0, 64, stWord a.t), (64, 16, a.heading), (80, 16, twos 16 a.pitch), (96, 16, twos 16 a.roll), (112, 8, min 255 a.sigHdg), (120, 8, min 255 a.sigPr),
     (128, 2, a.axes), (130, 1, b2n (attValid s)), (131, 1, b2n (a.baselines != 0)), (132, 4, a.baselines), (136, 8, min 255 a.nsat)])

/-- SOL.INTEG (07_solver Table 07-12). -/
def solInteg (s : State) : List Byte :=
  let t := match pubRec s with | some r => r.t | none => 0
  let (h, v, ok) := pubLevels s t
  leBytes 16 (packFields
    [(0, 64, stWord t), (64, 24, h), (88, 24, v), (112, 4, min 15 s.sol.excl.length), (116, 1, b2n s.sol.fail), (117, 1, b2n ok),
     (118, 1, b2n (pubPrecise s))])

/-- Write the four structures, each whole in one update, and emit a Class 1 record for each change of TYPE, PVT_VALID, ATT_VALID and INTEG_FAIL
(07_solver R186). -/
def writeSol (s : State) : State :=
  let t := basinPut 0xE070 (solInteg s) (basinPut 0xE058 (solAtt s) (basinPut 0xE040 (solTime s) (basinPut 0xE018 (solPvt s) s)))
  let (ty, pv, _, at_, fl) := s.sol.shown
  let t := if ty = pubType s then t else recB 1 0x0702 (solPvt s) t
  let t := if pv = pvtValid s then t else recB 1 0x0703 (solPvt s) t
  let t := if at_ = attValid s then t else recB 1 0x0704 (solAtt s) t
  let t := if fl = s.sol.fail then t else recB 1 0x0705 (solInteg s) t
  { t with sol := { t.sol with shown := (pubType s, pvtValid s, velValid s, attValid s, s.sol.fail) } }

/-- A solution is published: every OUT_DIV-th goes to the host, the guard and the mode rules see it (07_solver R186, 11_radio_control R287, R297,
01_architecture Table 01-9). -/
def publishSol (s : State) : State :=
  let t := writeSol s
  match pubRec s with
  | none => t
  | some r =>
    let n := t.sol.count + (if (shownRec s).isSome then 1 else 0)
    let div := cfg s solCfgOutDiv
    let t := { t with sol := { t.sol with count := n } }
    let t := if div ≠ 0 ∧ n % div = 0 ∧ (shownRec s).isSome then recB 1 0x0701 (solPvt s ++ solTime s ++ solAtt s ++ solInteg s) t else t
    let moving := decide (500 * 500 < speedSq r.sol)
    let still := if velValid s then (if moving then some r.t else some (s.mode.stillSince.getD r.t)) else s.mode.stillSince
    let t := { t with
      mode := { t.mode with stillSince := still },
      sol := { t.sol with
        lastPos := if pvtValid s then some (r.sol.pos, r.t, r.sol.h95) else t.sol.lastPos,
        attLast := if attValid s then some (stNow s, s.sol.att) else t.sol.attLast } }
    let (h, _, ok) := pubLevels s r.t
    guardSolution ⟨pvtValid s, velValid s, ok, s.sol.fail, h, outputPos s r.sol.pos, r.sol.ve, r.sol.vn, r.sol.vu⟩ r.t t

/-! ### NMEA (07_solver R188) -/

/-- Characters as bytes. -/
def ascii (t : String) : List Byte := t.toList.map fun c => BitVec.ofNat 8 c.toNat

/-- Decimal digits of a number, at least n of them; `fuel` bounds them. -/
def digits : Nat → Nat → Nat → List Byte
  | 0, _, _ => []
  | fuel + 1, n, v => (if n ≤ 1 ∧ v < 10 then [] else digits fuel (n - 1) (v / 10)) ++ [BitVec.ofNat 8 (48 + v % 10)]

/-- A number in at least n decimal digits. -/
def decN (n v : Nat) : List Byte := digits 24 n v

/-- A non-negative number with d decimals and at least n digits before them, rounded to nearest. -/
def decQ (n d : Nat) (q : Rat) : List Byte :=
  let v := (roundEven (absQ q * (10 ^ d : Nat))).toNat
  (if q < 0 then ascii "-" else []) ++ decN n (v / 10 ^ d) ++ (if d = 0 then [] else ascii "." ++ decN d (v % 10 ^ d))

/-- A sentence: `$`, its fields between commas, `*`, the exclusive or of its characters, and the line end. -/
def sentence (fields : List (List Byte)) : List Byte :=
  let body := (fields.intersperse (ascii ",")).flatten
  let sum := body.foldl (fun c b => c ^^^ b.toNat) 0
  let hex (n : Nat) : Byte := BitVec.ofNat 8 (if n < 10 then 48 + n else 55 + n)
  ascii "$" ++ body ++ ascii "*" ++ [hex (sum / 16), hex (sum % 16), 13, 10]

/-- Degrees and minutes of an angle in 10⁻⁹ degrees, with n digits of degrees, and its hemisphere. -/
def degMin (n : Nat) (plus minus : String) (a : Int) : List (List Byte) :=
  let v := a.natAbs
  let m := v % 1000000000 * 60 / 100
  [decN n (v / 1000000000) ++ decN 2 (m / 10000000) ++ ascii "." ++ decN 7 (m % 10000000), ascii (if a < 0 then minus else plus)]

/-- Year, month and day of a number of days after 6 January 1980. -/
def calendar (days : Nat) : Nat × Nat × Nat :=
  let z := days + 3657 + 719468
  let era := z / 146097
  let doe := z % 146097
  let yoe := (doe - doe / 1460 + doe / 36524 - doe / 146096) / 365
  let doy := doe - (365 * yoe + yoe / 4 - yoe / 100)
  let mp := (5 * doy + 2) / 153
  let m := if mp < 10 then mp + 3 else mp - 9
  (yoe + era * 400 + (if m ≤ 2 then 1 else 0), m, doy - (153 * mp + 2) / 5 + 1)

/-- UTC of a time: hundredths of the day and the date; none without a leap-second count (06_measurements R134). -/
def utcOf (s : State) (t : Rat) : Option (Nat × Nat × Nat × Nat) :=
  s.msr.leap.map fun n =>
    let c := ((t - n) * 100).floor.toNat
    let d := calendar (c / 8640000)
    (c % 8640000, d.1, d.2.1, d.2.2)

/-- hhmmss.ss, empty without UTC. -/
def timeField (u : Option (Nat × Nat × Nat × Nat)) : List Byte :=
  match u with
  | some x => decN 2 (x.1 / 360000) ++ decN 2 (x.1 / 6000 % 60) ++ decN 2 (x.1 / 100 % 60) ++ ascii "." ++ decN 2 (x.1 % 100)
  | none => []

/-- GGA quality indicator of a TYPE (07_solver R188). -/
def ggaQuality (t : Nat) : Nat := if t = 1 then 1 else if t = 2 ∨ t = 3 then 5 else if t = 4 then 4 else 0

/-- The fields of latitude and longitude, empty without a valid position. -/
def posFields (s : State) : List (List Byte) :=
  match if pvtValid s then pubRec s else none with
  | some r => let p := outputPos s r.sol.pos; degMin 2 "N" "S" p.lat ++ degMin 3 "E" "W" p.lon
  | none => [[], [], [], []]

/-- Empty fields. -/
def blanks (n : Nat) : List (List Byte) := List.replicate n []

/-- GGA: the height is above the ellipsoid; dilution, separation and differential fields are empty (log entry 17). -/
def ggaLine (s : State) (t : Rat) : List Byte :=
  let h : List (List Byte) := match if pvtValid s then pubRec s else none with
    | some r => [decQ 1 3 (((outputPos s r.sol.pos).hgt : Rat) / 1000), ascii "M"]
    | none => blanks 2
  let n := match shownRec s with | some r => r.used.length | none => 0
  sentence ([ascii "GNGGA", timeField (utcOf s t)] ++ posFields s ++ [decN 1 (if pvtValid s then ggaQuality (pubType s) else 0), decN 2 n, []] ++ h ++ blanks 4)

/-- RMC: speed over ground in knots, its course, and the date. -/
def rmcLine (s : State) (t : Rat) : List Byte :=
  let u := utcOf s t
  let v : List (List Byte) := match if velValid s then pubRec s else none with
    | some r => [decQ 1 3 (Config.sqrt (speedSq r.sol) * 3600 / 1852000), decQ 1 2 (Config.azDeg r.sol.ve r.sol.vn)]
    | none => blanks 2
  let d : List Byte := match u with | some x => decN 2 x.2.2.2 ++ decN 2 x.2.2.1 ++ decN 2 (x.2.1 % 100) | none => []
  let mode := if pvtValid s = false then "N" else if pubType s = 4 then "R" else if 2 ≤ pubType s then "F" else "A"
  sentence ([ascii "GNRMC", timeField u, ascii (if pvtValid s then "A" else "V")] ++ posFields s ++ v ++ [d, [], [], ascii mode])

/-- ZDA, only with UTC. -/
def zdaLine (s : State) (t : Rat) : Option (List Byte) :=
  (utcOf s t).map fun x => sentence [ascii "GNZDA", timeField (some x), decN 2 x.2.2.2, decN 2 x.2.2.1, decN 4 x.2.1, ascii "00", ascii "00"]

/-- GST: the 1σ latitude, longitude and height errors in m from the covariance. -/
def gstLine (s : State) (t : Rat) : List Byte :=
  let e : List (List Byte) := match if pvtValid s then pubRec s else none with
    | some r => [decQ 1 3 r.sol.sigN, decQ 1 3 r.sol.sigE, decQ 1 3 r.sol.sigU]
    | none => blanks 3
  sentence ([ascii "GNGST", timeField (utcOf s t)] ++ blanks 4 ++ e)

/-- Talker of a constellation. -/
def talkerOf : Constellation → String
  | .gps => "GP" | .glonass => "GL" | .galileo => "GA" | .beidou => "GB" | .qzss => "GQ" | .navic => "GI" | .sbas => "GP"

/-- Satellite number of the standard: those of GLONASS from 65 on. -/
def nmeaSv (v : SatId) : Nat := if v.const = .glonass then v.sv + 64 else v.sv

/-- GSA of a constellation: the satellites used, at most 12 a sentence. -/
def gsaLines (s : State) (k : Constellation) (used : List SatId) : List (List Byte) :=
  (chunks 12 ((used.length + 11) / 12) used).map fun l =>
    sentence ([ascii (talkerOf k ++ "GSA"), ascii "A", ascii (if pvtValid s then "3" else "1")] ++ l.map (fun v => decN 2 (nmeaSv v)) ++ blanks (12 - l.length) ++ blanks 3)

/-- GSV of a constellation: satellites with entries, four a sentence, with elevation, azimuth and the highest C/N0. -/
def gsvLines (s : State) (k : Constellation) (l : List SatId) : List (List Byte) :=
  let n := (l.length + 3) / 4
  (chunks 4 n l).zipIdx.map fun x =>
    sentence ([ascii (talkerOf k ++ "GSV"), decN 1 n, decN 1 (x.2 + 1), decN 2 l.length] ++ x.1.flatMap fun v =>
      let cn := (satEntries s v).foldl (fun a e => max a e.cn0) 0
      [decN 2 (nmeaSv v)] ++ (match viewOf s v with
        | some w => [decQ 2 0 w.elev, decN 3 ((roundEven w.az).toNat % 360)]
        | none => blanks 2) ++ [decQ 2 0 cn])

/-- NMEA_OUTPUT (07_solver R188): once in each whole ST second that is a multiple of NMEA_DIV. -/
def execNmeaOutput (s : State) : Result :=
  if inService s = false ∨ cfgB s solCfgNmeaEn = false ∨ stSec s % cfg s solCfgNmeaDiv ≠ 0 ∨ s.sol.nmeaS = some (stSec s) then .next s else
  let s := { s with sol := { s.sol with nmeaS := some (stSec s) } }
  let t : Rat := (stSec s : Rat)
  let u := recB 2 0x0708 (rmcLine s t) (recB 2 0x0707 (ggaLine s t) s)
  let talkers := [Constellation.gps, .glonass, .galileo, .beidou, .qzss, .navic]
  let sats (k : Constellation) : List SatId := (solSats s).filter fun v => v.const == k
  let used (k : Constellation) : List SatId := (sats k).filter fun v => reasonOf s (pubPrecise s) v == 0
  let u := (talkers.flatMap fun k => gsaLines s k (used k)).foldl (fun w l => recB 2 0x0709 l w) u
  let u := (talkers.flatMap fun k => gsvLines s k (sats k)).foldl (fun w l => recB 2 0x070A l w) u
  let u := match zdaLine s t with | some l => recB 2 0x070B l u | none => u
  .next (recB 2 0x070C (gstLine s t) u)

/-! ### Periodic outputs (07_solver R186, R188, R192) -/

/-- Bands of a satellite that the published solution uses: every one with code in the precise filter; B1 and B5, or one band, in the standalone filter. -/
def bandsUsed (s : State) (precise : Bool) (v : SatId) : List Band :=
  let has (b : Band) : Bool := (satEntries s v).any fun e => (targetInfo e.target).band == b && codeOk e
  if precise then (List.finRange 4).filter has
  else if has 0 ∧ has 2 then [0, 2]
  else match lowestSig (satEntries s v) codeOk with | some e => [(targetInfo e.target).band] | none => []

/-- A SOL.SAT entry (07_solver Table 07-13). -/
def solSat (s : State) (v : SatId) : List Byte :=
  let precise := pubPrecise s
  let r := reasonOf s precise v
  let bands := if r = 0 then bandsUsed s precise v else []
  let (el, az) : Int × Nat := match viewOf s v with | some w => (roundAway w.elev, (roundAway w.az).toNat % 360) | none => (0, 0)
  leBytes 8 (packFields
    [(0, 6, v.sv), (6, 3, constCode v.const), (9, 4, r), (13, 4, (bands.map fun b => 2 ^ b.val).sum),
     (17, 1, b2n (precise && s.sol.amb.any fun x => x.sat == v && x.fixed.isSome)), (18, 8, twos 8 el), (26, 9, az)])

/-- SOL_SAT_RECORD (07_solver R186): once in an ST second. -/
def execSolSatRecord (s : State) : Result :=
  .next (if inService s = false ∨ solSats s = [] ∨ s.sol.satS = some (stSec s) then s
    else recB 2 0x0706 ((solSats s).flatMap (solSat s)) { s with sol := { s.sol with satS := some (stSec s) } })

/-- TRK.STATUS (05_tracking Table 05-12). -/
def trkStatus (s : State) : Nat :=
  let l := busyChans s
  packFields [(0, 11, l.length), (11, 11, (l.filter fun x => x.2.st == .lock).length), (22, 4, ((List.finRange 4).map fun n => if domOn s (.trk n) then 2 ^ n.val else 0).sum),
    (32, 11, (l.filter fun x => x.2.st == .freq).length), (43, 8, min 255 (l.filter fun x => chanRole s x.1 == .beam && x.2.beam).length)]

/-- SOL.STATUS (07_solver Table 07-21). -/
def solStatus (s : State) : Nat :=
  let used := match pubRec s with | some r => r.used | none => []
  let pb := (used.filter fun v => s.sol.corr.any fun c => c.kind == 3 && c.sat == some v && corrFresh s c).length
  packFields
    [(0, 8, s.sol.key.getD 0), (8, 1, b2n s.sol.key.isSome), (9, 1, b2n (decide (4 ≤ (used.filter (orbClk s s.sol.corr)).length))),
     (10, 1, b2n (decide (4 ≤ pb))), (11, 1, b2n (match pubRec s with | some r => r.atm | none => false)),
     (12, 9, if s.sol.precOn ∧ s.sol.precF.isSome then 39 + s.sol.iono.length + s.sol.amb.length else 0),
     (21, 8, min 255 (s.sol.amb.filter fun x => x.fixed.isSome).length)]

/-- STATUS_PUBLISH: the structures published once per ST second (04_acquisition R96, 05_tracking R131, 07_solver R192, 10_tag_link R279). -/
def execStatusPublish (s : State) : Result :=
  if inService s = false then .next s else
  let t := basinPut 0xE0A4 (leBytes 4 (acqStatus s)) s
  let t := basinPut 0xE0A8 (leBytes 8 (trkStatus s)) t
  let t := basinPut 0xE080 (leBytes 4 (solStatus s)) t
  .next (publishLink t)

end Sys2Proof.Machine
end

