-- ==== Sys2Proof/Machine/Solver.lean ====
section
/-!
DEFINITION. The filters of the navigation solver (07_solver): standalone and time, precise with its ambiguities, attitude, and integrity.
-/

namespace Sys2Proof.Machine

/-! ### Epochs (07_solver R156, R157) -/

/-- Period in s of a rate code. -/
def ratePeriod (n : Nat) : Rat := 1 / ([1, 2, 5, 10, 20].getD n 1 : Rat)

/-- An epoch belongs to a filter of a period: a whole multiple of it, or every epoch where they are farther apart (07_solver R157). -/
def rateSelects (s : State) (te p : Rat) : Bool := decide ((te / p).den = 1) || decide (p < intS s)

/-- The modes in which a filter runs (07_solver Table 07-1). -/
def filterPeriod (s : State) : Filter → Option Rat
  | .standalone =>
    if s.mode.mode = .layup then (if s.mode.fixStart.isSome ∧ s.mode.fixOk = none then some 1 else none)
    else if s.mode.mode = .cold ∨ preciseMode s then some (ratePeriod (cfg s solCfgStdRate)) else some 1
  | .precise => if preciseMode s ∧ s.sol.precOn then some (ratePeriod (cfg s solCfgPrecRate)) else none
  | .attitude => if s.mode.mode = .cold ∨ preciseMode s then some (ratePeriod (cfg s solCfgPrecRate)) else none
  | .integrity => some 1

/-- Place of a filter. -/
def filterIdx : Filter → Fin 4
  | .standalone => 0 | .precise => 1 | .attitude => 2 | .integrity => 3

/-- The epoch that a filter has to process. -/
def filterDue (s : State) (f : Filter) : Option Rat :=
  if inService s = false ∨ domOn s .sol = false then none else
  match solEpoch s, filterPeriod s f with
  | some te, some p => if rateSelects s te p ∧ s.sol.done[filterIdx f] ≠ some te then some te else none
  | _, _ => none

/-- The filter has dealt with an epoch. -/
def markDone (f : Filter) (te : Rat) (s : State) : State := { s with sol := { s.sol with done := s.sol.done.set (filterIdx f) (some te) } }

/-- The solver has consumed the ring up to an epoch (06_measurements R148). -/
def consumeRing (te : Rat) (s : State) : State := { s with msr := { s.msr with ring := s.msr.ring.filter fun x => decide (te < x.st) } }

/-! ### A solution from a filter's numbers (07_solver R169, Table 07-9) -/

/-- 2.448·√λ_max of a horizontal covariance. -/
def horiz95 (v : Rat) : Rat := 2448 / 1000 * Config.sqrt v

/-- Position, velocity and their 95 % figures: H95 = 2.448·√λ_max, V95 = 1.960·σ_up (07_solver R169). -/
def solutionOf (f : Filt) (velOk : Bool) : Solution :=
  let p := positionOf (fvec f 0)
  let fr := localFrame p
  let v := fvec f 3
  let mm (q : Rat) : Nat := (roundEven (q * 1000)).toNat
  let sd (a : Vec3) : Rat := Config.sqrt (covIn f 0 a a)
  { pos := p, ve := roundEven (vDot v fr.1 * 1000), vn := roundEven (vDot v fr.2.1 * 1000), vu := roundEven (vDot v fr.2.2 * 1000), velOk,
    h95 := mm (horiz95 (horizVar f 0 fr)), v95 := mm (196 / 100 * sd fr.2.2), vel95 := mm (horiz95 (horizVar f 3 fr)),
    sigV := 100 * Config.sqrt (horizVar f 3 fr), sigE := sd fr.1, sigN := sd fr.2.1, sigU := sd fr.2.2 }

/-- The velocity stands: Doppler of at least 4 satellites (log entry 108). -/
def velFormed (rows : List ObsRow) : Bool := decide (4 ≤ (rows.filter fun r => r.kind == .doppler).length)

/-! ### Standalone solution and time (07_solver R157, R163–R165) -/

/-- The system time through which a time solution goes: GPS with a used satellite, else a constellation with one whose broadcast offset is held; with that offset in s
(07_solver R164). -/
def timeVia (s : State) (used : List SatId) : Option (SatId × Rat × Bool) :=
  match used.find? fun v => v.const == .gps with
  | some v => some (v, 0, false)
  | none => [Constellation.galileo, .beidou, .glonass].findSome? fun k =>
    match used.find? (fun v => v.const == k), s.msr.offsets.find? fun x => x.1 == k with
    | some v, some x => some (v, x.2, true)
    | _, _ => none

/-- The estimate behind the time solution: the filter's own, or with the position held (07_solver R165). -/
def timeFilt (s : State) (m : FilterMem) : Filt :=
  match s.sol.hold with
  | none => m.post
  | some p =>
    let r := Config.ecefOf p.lat p.lon p.hgt
    Config.estimate m.pre (m.rows ++ [pseudoRow m.pre none 0 r.x 0, pseudoRow m.pre none 1 r.y 0, pseudoRow m.pre none 2 r.z 0])

/-- The time solution of an epoch (07_solver R164): mapped ST minus GPS time from the clock state of a constellation, with 5 ns more uncertainty where it goes through a
broadcast offset. CAB_DLY and the band biases have been removed from the pseudoranges (06_measurements R136). -/
def clockOf (s : State) (m : FilterMem) (v : SatId) (off : Rat) (via : Bool) : ClockSolution :=
  let f := timeFilt s m
  let k := clockIdx v
  { offset := roundEven ((fx f k / lightSpeed + off) * 4294967296),
    sigma := (roundEven (Config.sqrt (fp f k k) / lightSpeed * 100000000000)).toNat + (if via then 500 else 0),
    drift := roundEven (fx f 15 / lightSpeed * 1000000000000) }

/-- The time solution of an epoch and TIME_VALID (07_solver R164, R165). -/
def timeStepSol (te : Rat) (m : FilterMem) (stdOk : Bool) (used : List SatId) (s : State) : State :=
  match timeVia s used with
  | none => setTrusted false (trackUsable false { s with sol := { s.sol with timeValid := false } })
  | some (v, off, via) =>
    let c := clockOf s m v off via
    let held := s.sol.hold.isSome
    let valid := (stdOk || held) && decide ((if held then 2 else cfg s solFdeTimeMinSv) ≤ used.length) && decide (c.sigma ≤ 100 * cfg s solFdeTimeSigMax) && !s.sol.fail
    let trusted := valid && !s.ary.spoof
    let r : TimeRef := {
      st := te, tick := (tickOf s te).toNat, offset := (c.offset : Rat) / 4294967296, drift := (c.drift : Rat) / 1000000000000, sigma := (c.sigma : Rat) / 100,
      rate := s.sky.seg.rate }
    let t := { s with
      sol := { s.sol with time := some (te, c, via, used.length), timeValid := valid },
      sky := { s.sky with sol := if valid then some r else s.sky.sol, trustedSol := if trusted then some r else s.sky.trustedSol } }
    setTrusted trusted (trackUsable trusted t)

/-- A 1 s epoch in COLD (01_architecture Table 01-6, 09_sky_time R222): at the fifth in a row with standalone PVT and time valid and no alarm, first
alignment is decided, and with it the change to SURVEY or THIN. -/
def coldEpoch (te : Rat) (s : State) : State :=
  if s.mode.mode ≠ .cold ∨ s.mode.fallback ∨ te.den ≠ 1 then s else
  let sec := te.floor.toNat
  let good := pvtValid s && s.sol.timeValid && !s.ary.spoof
  let run := if good then (if s.mode.coldRun ≠ 0 ∧ s.mode.coldLast + 1 = sec then s.mode.coldRun + 1 else 1) else 0
  let t := { s with mode := { s.mode with coldRun := run, coldLast := sec } }
  if run < 5 ∨ t.mode.decided.isSome ∨ s.mode.target = .layup then t
  else
    let off := match s.sol.time with | some (_, c, _, _) => (c.offset : Rat) / 4294967296 | none => 0
    let seed := match s.sky.seed with | some d => d.value | none => 0
    let u := if s.mode.aligned then t else { t with sky := { t.sky with alignDecided := some (seed - off), anchorAt := stepAnchor t } }
    decideTo (serviceMode u) 8 u

/-- What the standalone filter predicts for an epoch: carried on from its last, or started. -/
def stdPredict (s : State) (te : Rat) (used : List SatId) : Filt :=
  match s.sol.stdF with | some m => Config.predict (te - m.t) m.post | none => startStd s te used

/-- The numbers of a standalone epoch (07_solver R163). -/
def stdMem (s : State) (te : Rat) (used : List SatId) : FilterMem :=
  let pre := stdPredict s te used
  let rows := stdRows s te pre used
  ⟨te, pre, rows, Config.estimate pre rows⟩

/-- The speed from Doppler exceeds 0.3 m/s (07_solver R165). -/
def tooFast (x : Solution) : Bool := x.velOk && decide (300 * 300 < speedSq x)

/-- The standalone filter processes an epoch, with the predictions brought up to date. -/
def standaloneStep (te : Rat) (s : State) : State :=
  let used := usedSats s false
  let m := stdMem s te used
  let formed := formedBy m.rows
  let sol := solutionOf m.post (velFormed m.rows)
  let r : SolRec := ⟨te, sol, if formed then 1 else 0, false, used⟩
  let t := consumeRing te (markDone .standalone te { s with sol := { s.sol with
    std := some r, stdF := if formed ∨ s.sol.stdF.isSome then some m else none, hold := if tooFast sol then none else s.sol.hold } })
  let t := timeStepSol te m formed used t
  let t := if t.mode.mode = .layup ∧ pvtValid t then { t with mode := { t.mode with fixOk := some (t.mode.fixOk.getD (stNow t)) } } else t
  let t := coldEpoch te t
  if pubPrecise t then writeSol t else publishSol t

/-- STANDALONE_UPDATE (07_solver R157, R163, R164). -/
def execStandaloneUpdate (_sol _clk : Unit) (s : State) : Result :=
  match filterDue s .standalone with
  | none => .next s
  | some te => .next (standaloneStep te (refreshViews s))

/-! ### Ambiguities (07_solver R167, R178–R180) -/

/-- The entry that an ambiguity belongs to, of a signal that is not unhealthy. -/
def ambEntry (s : State) (v : SatId) (sig : Nat) : Option MeasEntry := (satEntries s v).find? fun e => e.target.sig == sig

/-- Signals in the order in which ambiguity states are granted: B1, then B5, B2 and B6, each by elevation, highest first (07_solver R167). -/
def grantOrder (s : State) (used : List SatId) : List (SatId × Nat) :=
  ([0, 2, 1, 3] : List Band).flatMap fun b => (byElev s used).flatMap fun v =>
    ((sortBy (fun a c => decide (a.target.sig < c.target.sig)) (satEntries s v)).filter fun e => e.phValid && (targetInfo e.target).band == b).map fun e => (v, e.target.sig)

/-- The ambiguity states of an epoch (07_solver R158, R161, R167, R180): a satellite or signal that is out of use frees its state, RESTART and WCHG start one anew, and the
waiting signals take, in order, the states that were free before this epoch. -/
def grantAmb (s : State) (used : List SatId) : List AmbState :=
  let kept := (s.sol.amb.filter fun x => used.contains x.sat && (ambEntry s x.sat x.sig).isSome).map fun x =>
    if s.sol.resets.any fun r => !r.1 && r.2.2.sat == x.sat && r.2.2.sig == x.sig then resetAmb x else x
  let free := ((List.range 217).map (· + 103)).filter fun k => !(s.sol.amb.any fun x => x.place == k)
  let waiting := (grantOrder s used).filter fun w => !(kept.any fun x => x.sat == w.1 && x.sig == w.2)
  kept ++ List.zipWith (fun k w => { place := k, fresh := true, sig := w.2, sat := w.1, fixed := none, run := 0, held := false }) free waiting

/-- The slant ionosphere states of an epoch: of satellites in use, the others' released (07_solver R161); new satellites take the lowest free ones. -/
def grantIono (s : State) (used : List SatId) : List (Nat × SatId) :=
  let kept := s.sol.iono.filter fun x => used.contains x.2
  let free := ((List.range 64).map (· + 39)).filter fun k => !(kept.any fun x => x.1 == k)
  kept ++ free.zip (used.filter fun v => !(kept.any fun x => x.2 == v))

/-- Start the states that are new: ionosphere at 0, an ambiguity at phase less code. -/
def startStates (s : State) (iono : List (Nat × SatId)) (amb : List AmbState) (f : Filt) : Filt :=
  let g := (iono.filter fun x => !s.sol.iono.contains x).foldl (fun q x => setState x.1 0 (Config.startVar x.1) q) f
  (amb.filter (·.fresh)).foldl (fun q a =>
    let v := match ambEntry s a.sat a.sig with | some e => e.phase - e.pr / wavelength e.target | none => 0
    setState a.place v (Config.startVar a.place) q) g

/-- An ambiguity is eligible for fixing (07_solver R178, R158). -/
def ambEligible (s : State) (a : AmbState) : Bool :=
  cfgB s solArArEn &&
    (match biasItem s 3 a.sat a.sig with | some c => c.vals.getD 2 0 == 1 | none => false) &&
    (match elevOf s a.sat with | some e => decide ((cfg s solArArElev : Rat) ≤ e) | none => false) &&
    (match ambEntry s a.sat a.sig with | some e => e.phValid && !e.halfUnres && decide (10000 ≤ e.lockMs) | none => false)

/-- Band of an ambiguity's signal. -/
def ambBand (a : AmbState) : Band := (sigInfo a.sig).band

/-- A lane of a satellite: the lowest eligible ambiguities of two bands. -/
def laneOf (elig : List AmbState) (v : SatId) (b c : Band) : Option (AmbState × AmbState) :=
  let get (x : Band) : Option AmbState := (sortBy (fun p q => decide (p.sig < q.sig)) (elig.filter fun a => a.sat == v && ambBand a == x)).head?
  match get b, get c with | some x, some y => some (x, y) | _, _ => none

/-- A float estimate fixes by rounding: within 0.25 cycle of an integer with 1σ of at most 0.15 cycle, given its variance (07_solver R178). -/
def roundsTo (x var : Rat) : Bool := decide (absQ (x - (roundEven x : Int)) ≤ 1 / 4) && decide (var ≤ 15 / 100 * (15 / 100))

/-- The constraint of a lane that fixes by rounding. -/
def laneRow (f : Filt) (x : AmbState × AmbState) : Option ObsRow :=
  let i := x.1.place
  let j := x.2.place
  let q := fx f i - fx f j
  if roundsTo q (fp f i i + fp f j j - 2 * fp f i j) then
    some { kind := .pseudo, sat := some x.1.sat, sig := x.1.sig, h := [(i, 1), (j, -1)], res := (roundEven q : Int) - q, var := 0 }
  else none

/-- One stage of lanes over the satellites: the estimate with the lanes that fix as constraints, and the satellites whose lane did not (07_solver R178). -/
def laneStage (elig : List AmbState) (b c : Band) (f : Filt) : Filt × List SatId :=
  let lanes := ((elig.map (·.sat)).dedup).filterMap fun v => laneOf elig v b c
  let rows := lanes.map fun x => (x.1.sat, laneRow f x)
  (Config.estimate f (rows.filterMap (·.2)), (rows.filter fun r => r.2.isNone).map (·.1))

/-- Stages 1 and 2 in order: B2–B5, then B1–B5; the estimate with the lanes fixed, and the satellites left out of the third (07_solver R178). -/
def laneStages (elig : List AmbState) (f : Filt) : Filt × List SatId :=
  let a := laneStage elig 1 2 f
  let b := laneStage elig 0 2 a.1
  (b.1, a.2 ++ b.2)

/-- Squared distance of integers from the float values of some states (07_solver R179). -/
def ilsDist (f : Filt) (ks : List Nat) (z : List Int) : Rat :=
  let d := List.zipWith (fun k n => fx f k - (n : Int)) ks z
  dotQ d (rSolve (subCov f ks) d)

/-- Float estimate conditioned on integers (07_solver R179). -/
def conditioned (f : Filt) (fix : List (AmbState × Int)) : Filt := Config.estimate f (fix.map fun x => pseudoRow f (some x.1.sat) x.1.place x.2 0)

/-- AR_RATIO and AR_PSR are met by a set (07_solver R179). -/
def searchPasses (s : State) (f : Filt) (ks : List Nat) (z : List Int × List Int) : Bool :=
  decide (tenth s solArArRatio ≤ quot (ilsDist f ks z.2) (ilsDist f ks z.1)) && decide (tenth s solArArPsr ≤ Config.bootstrapPsr (subCov f ks))

/-- The integer stage over a set (07_solver R179): the set that was fixed, with its integers. `fuel` bounds the removals. -/
def integerStage (s : State) (f : Filt) : Nat → List AmbState → Option (List (AmbState × Int))
  | 0, _ => none
  | fuel + 1, set =>
    let ks := set.map (·.place)
    let z := Config.integerSearch (ks.map (fx f)) (subCov f ks)
    if set = [] then none
    else if searchPasses s f ks z then some (set.zip z.1)
    else if cfgB s solArPartial = false ∨ set.length ≤ cfg s solArArMin then none
    else
      let el (a : AmbState) : Rat := (elevOf s a.sat).getD (-90)
      let worse (a b : AmbState) : Bool := decide (el a < el b) || (decide (el a = el b) && decide (fp f b.place b.place < fp f a.place a.place))
      integerStage s f fuel ((sortBy worse set).drop 1)

/-- The ambiguities after a fix or after none: integers in a row count, and held ones stay (07_solver R180). -/
def fixAmb (s : State) (fix : List (AmbState × Int)) (l : List AmbState) : List AmbState :=
  l.map fun x0 =>
    let x := { x0 with fresh := false }
    if x.held then x else
    match fix.find? fun f => f.1.place == x.place with
    | none => { x with fixed := none, run := 0 }
    | some f =>
      let run := if x.fixed = some f.2 then x.run + 1 else 1
      { x with fixed := some f.2, run := run, held := decide (cfg s solArArHold ≤ run) }

/-! ### Precise solution (07_solver R157, R166–R169) -/

/-- The 320 states that a precise filter starts with: the standalone filter's, the others anew (07_solver R157, Table 07-3). -/
def startPrecise (m : Filt) : Filt :=
  { x := (List.range 320).map (fx m),
    p := (List.range 320).map fun i => (List.range 320).map fun j => if i < 34 ∧ j < 34 then fp m i j else if i = j then Config.startVar i else 0 }

/-- What the precise filter predicts for an epoch: carried on over the time since its last, a freeze included (07_solver R185), or started from the standalone solution; none
while there is none. -/
def precPredict (s : State) (te : Rat) : Option Filt :=
  match s.sol.precF, s.sol.stdF with
  | some m, _ => some (Config.predict (te - m.t) m.post)
  | none, some m => some (Config.predict (te - m.t) (startPrecise m.post))
  | none, none => none

/-- What a precise epoch yields before it is published. -/
structure PreciseOut where
  /-- Numbers of the filter. -/
  mem : FilterMem
  /-- Ionosphere states. -/
  iono : List (Nat × SatId)
  /-- Ambiguities. -/
  amb : List AmbState
  /-- Wind-up. -/
  wind : List (SatId × Rat)
  /-- Solution of the epoch. -/
  rec_ : SolRec
  /-- A search ran, was rejected by VAL_SIG, fixed, fixed a reduced set. -/
  tried : Bool
  /-- Rejected. -/
  reject : Bool
  /-- Fixed. -/
  fixed : Bool
  /-- Reduced. -/
  partial_ : Bool

/-- TYPE of a precise epoch from its counts: enough satellites, ambiguities fixed, ambiguities eligible (07_solver Table 07-4). -/
def typeOf (s : State) (enough : Bool) (nFixed nElig : Nat) : Nat :=
  if !enough then 0
  else if cfg s solArArMin ≤ nFixed then (if nFixed = nElig then 4 else 3) else 2

/-- A precise epoch from the filter's prediction (07_solver R166–R169, R178–R180). -/
def preciseEpoch (s : State) (te : Rat) (f : Filt) : PreciseOut :=
  let used := usedSats s true
  let iono := grantIono s used
  let amb := grantAmb s used
  let pre := startStates s iono amb f
  let sats := used.filterMap (precSat s te pre)
  let rows := precRows s pre iono amb sats
  let post := Config.estimate pre rows
  let enough := decide (4 ≤ used.length)
  let elig := amb.filter (ambEligible s)
  let first := elig.filter fun a => ambBand a == 0
  let lanes := laneStages elig post
  let set := first.filter fun a => !a.held && !lanes.2.contains a.sat
  let tried := enough && !set.isEmpty
  let found := if tried then integerStage s lanes.1 (set.length + 1) set else none
  let fr := localFrame (positionOf (fvec post 0))
  let cond := match found with | some l => conditioned lanes.1 l | none => lanes.1
  let d := vSub (fvec cond 0) (fvec lanes.1 0)
  let shift := Config.sqrt (vDot d fr.1 * vDot d fr.1 + vDot d fr.2.1 * vDot d fr.2.1)
  let reject := found.isSome && decide (tenth s solArValSig * Config.sqrt (horizVar lanes.1 0 fr) < shift)
  let fix := if reject then [] else found.getD []
  let amb' := fixAmb s fix amb
  let nFixed := (amb'.filter fun x => x.fixed.isSome && first.any fun a => a.place == x.place).length
  let sol := solutionOf (if fix = [] then post else cond) (velFormed rows)
  { mem := ⟨te, pre, rows, post⟩, iono, amb := amb', wind := sats.map fun q => (q.sat, q.wind),
    rec_ := ⟨te, sol, typeOf s enough nFixed first.length, decide (4 ≤ (used.filter (atmFor s)).length), used⟩,
    tried, reject, fixed := !fix.isEmpty, partial_ := !fix.isEmpty && decide (fix.length < set.length) }

/-- The last TYPE 4 position stands in for the held one while the hold lasts (07_solver R165). -/
def holdNow (s : State) (r : SolRec) : Option Position := if s.sol.hold.isSome ∧ r.type = 4 then some r.sol.pos else s.sol.hold

/-- A precise epoch takes effect. -/
def preciseStep (te : Rat) (o : PreciseOut) (s : State) : State :=
  let r := o.rec_
  let slow := decide (r.type = 4) && decide (speedSq r.sol < 100 * 100)
  let t := markDone .precise te { s with sol := { s.sol with
    prec := some r, precF := some o.mem, iono := o.iono, amb := o.amb, wind := o.wind, resets := [], hold := holdNow s r,
    holdSince := if slow then some (s.sol.holdSince.getD te) else none } }
  let t := bumpIf o.partial_ cSolArPartial (bumpIf o.fixed cSolArFixes (bumpIf o.reject cSolArRejectVal (bumpIf o.tried cSolArAttempts t)))
  let done := decide (2 ≤ r.type) && decide (t.mode.mode = .survey) && t.mode.decided.isNone && decide (r.sol.h95 ≤ 10 * cfg s bootModesSurveyHpl)
  publishSol (if done then decideTo .full 8 { t with mode := { t.mode with exitWhy := 1 } } else t)

/-- PRECISE_UPDATE (07_solver R157, R166–R169, R178–R180): frozen while a spoofing alarm is active (R185). At a second whose integrity evaluation is still to come it waits for it, so
that an exclusion goes before the search (R190; log entry 109). -/
def execPreciseUpdate (_sol _ambs _ils : Unit) (s : State) : Result :=
  match filterDue s .precise with
  | none => .next s
  | some te =>
    if s.ary.spoof ∨ (filterDue s .integrity).isSome then .next s else
    let t := refreshViews s
    match precPredict t te with
    | none => .next s
    | some f => .next (preciseStep te (preciseEpoch t te f) t)

/-- POSITION_HOLD (07_solver R165). -/
def execPositionHold (s : State) : Result :=
  match s.sol.holdSince, s.sol.prec with
  | some q, some r =>
    .next (if cfgB s solCfgTimeHold ∧ s.sol.hold = none ∧ s.sol.precOn ∧ r.type = 4 ∧ 60 ≤ stNow s - q then
      { s with sol := { s.sol with hold := some r.sol.pos } } else s)
  | _, _ => .next s

/-! ### Attitude (07_solver R181, R182) -/

/-- A signal serves attitude: B1 and B5 of GPS, Galileo, BeiDou and QZSS. -/
def attSignal (g : SearchTarget) : Bool :=
  let k := g.sat.const
  ((targetInfo g).band == 0 || (targetInfo g).band == 2) && (k == .gps || k == .galileo || k == .beidou || k == .qzss)

/-- The ARRAY entry of a signal on an antenna with a phase that serves. -/
def arrayEntry (s : State) (a : Port) (g : SearchTarget) : Option MeasEntry :=
  (solEntries s).find? fun e => e.role == .array && e.ant == a.val && e.target == g && e.phValid

/-- Signals with a single difference of an antenna against REF, of satellites that are predicted and neither unhealthy nor excluded. -/
def attTargets (s : State) (a : Port) : List SearchTarget :=
  ((((solEntries s).filter fun e => e.role == .array && e.ant == a.val && attSignal e.target).map (·.target)).dedup).filter fun g =>
    (arrayEntry s a g).isSome && (arrayEntry s (refAnt s) g).isSome && (viewOf s g.sat).isSome &&
      !(match ephOf s g.sat with | some e => e.bad || e.badSigs.contains g.sig | none => false) && !(s.sol.excl.any fun x => x.1 == g.sat)

/-- The satellite that a signal's differences are taken against: the highest with that signal. -/
def pivotOf (s : State) (a : Port) (g : SearchTarget) : Option SatId :=
  (byElev s (((attTargets s a).filter fun x => x.sig == g.sig && x.sat.const == g.sat.const).map (·.sat))).head?

/-- Antennas of the baselines. -/
def baselines (s : State) : List Port := if (activeAnts s).contains (refAnt s) then (activeAnts s).filter fun a => a != refAnt s else []

/-- Double differences of an antenna: signal and pivot, at most 30, highest first (07_solver R181). -/
def doubleDiffs (s : State) (a : Port) : List (SearchTarget × SatId) :=
  let l := (attTargets s a).filterMap fun g => match pivotOf s a g with | some p => if p = g.sat then none else some (g, p) | none => none
  (sortBy (fun x y => decide ((elevOf s y.1.sat).getD (-90) < (elevOf s x.1.sat).getD (-90))) l).take 30

/-- RESTART or WCHG on one of the four phases of a difference since the last attitude epoch (07_solver R158). -/
def diffReset (s : State) (x : AttAmb) : Bool :=
  s.sol.attResets.any fun r => r.1 && (r.2.1 == x.ant.val || r.2.1 == (refAnt s).val) && (r.2.2 == x.target || r.2.2 == { x.target with sat := x.pivot })

/-- The ambiguities of an attitude epoch: those kept, and new ones in the lowest free states from 6 on. Baselines to dropped antennas are released (07_solver R182). -/
def attGrant (s : State) (old : List AttAmb) : List AttAmb × List AttAmb :=
  let now : List (Port × SearchTarget × SatId) := (baselines s).flatMap fun a => (doubleDiffs s a).map fun d => (a, d.1, d.2)
  let kept := old.filter fun x => now.contains (x.ant, x.target, x.pivot) && !diffReset s x
  let free := ((List.range 90).map (· + 6)).filter fun k => !(kept.any fun x => x.place == k)
  let fresh := now.filter fun y => !(kept.any fun x => x.ant == y.1 && x.target == y.2.1 && x.pivot == y.2.2)
  (kept, List.zipWith (fun k y => { place := k, ant := y.1, target := y.2.1, pivot := y.2.2 }) free fresh)

/-- Heading, pitch and roll in degrees as a record of Table 07-11 holds them. -/
def attOf (q : Rat × Rat × Rat) (r : AttRec) : AttRec :=
  { r with heading := ((roundEven (q.1 * 100)) % 36000).toNat, pitch := roundEven (q.2.1 * 100), roll := roundEven (q.2.2 * 100) }

/-- A body-frame vector turned into east, north and up by an attitude. -/
def toEnu (a : AttRec) (v : Vec3) : Vec3 := ⟨vDot v (toBody a ⟨1, 0, 0⟩), vDot v (toBody a ⟨0, 1, 0⟩), vDot v (toBody a ⟨0, 0, 1⟩)⟩

/-- Local direction of a satellite. -/
def satDir (s : State) (v : SatId) : Vec3 := match viewOf s v with | some w => enuOf w.az w.elev | none => ⟨0, 0, 0⟩

/-- Effective vector of a baseline in m: ARY.GEOM plus d (07_solver R181, 03_array R66). -/
def baseVec (s : State) (a : Port) : Vec3 := vScale (1 / 1000) (effVec s a 0)

/-- The double difference of an ambiguity in cycles, its difference of directions, and its variance in m². -/
def diffOf (s : State) (x : AttAmb) : Option (Rat × Vec3 × Rat) :=
  let p : SearchTarget := { x.target with sat := x.pivot }
  match arrayEntry s x.ant x.target, arrayEntry s (refAnt s) x.target, arrayEntry s x.ant p, arrayEntry s (refAnt s) p with
  | some a, some b, some c, some d =>
    some ((a.phase - b.phase) - (c.phase - d.phase), vSub (satDir s x.target.sat) (satDir s x.pivot), phaseVar s a + phaseVar s b + phaseVar s c + phaseVar s d)
  | _, _, _, _ => none

/-- The row of a double difference: the baseline, turned by the attitude, projected on the difference of directions, and its ambiguity. -/
def attRow (s : State) (att : AttRec) (f : Filt) (x : AttAmb) : Option ObsRow :=
  (diffOf s x).map fun q =>
    let b := toEnu att (baseVec s x.ant)
    let w := wavelength x.target
    let c := vCross b q.2.1
    { kind := .phase, sat := some x.target.sat, sig := x.target.sig, h := [(0, -c.x), (1, -c.y), (2, -c.z), (x.place, w)],
      res := w * q.1 - (-(vDot b q.2.1) + w * fx f x.place), var := q.2.2 }

/-- A baseline vector from fixed differences, by weighted least squares, in m. -/
def fixedVector (s : State) (l : List (AttAmb × Int)) : Vec3 :=
  let rows := l.filterMap fun x => (diffOf s x.1).map fun q => (q.2.1, -(wavelength x.1.target * (q.1 - (x.2 : Int))), q.2.2)
  let sum (f : Vec3 × Rat × Rat → Rat) : Rat := (rows.map fun r => quot (f r) r.2.2).foldl (· + ·) 0
  let c (r : Vec3 × Rat × Rat) (i : Nat) : Rat := [r.1.x, r.1.y, r.1.z].getD i 0
  let m := (List.range 3).map fun i => (List.range 3).map fun j => sum fun r => c r i * c r j
  let v := rSolve m ((List.range 3).map fun i => sum fun r => c r i * r.2.1)
  ⟨v.getD 0 0, v.getD 1 0, v.getD 2 0⟩

/-- The half cycle of one of the four phases of a difference is unresolved: it enters as float only (07_solver R158). -/
def diffFloat (s : State) (x : AttAmb) : Bool :=
  [(x.ant, x.target.sat), (refAnt s, x.target.sat), (x.ant, x.pivot), (refAnt s, x.pivot)].any fun y =>
    match arrayEntry s y.1 { x.target with sat := y.2 } with | some e => e.halfUnres | none => true

/-- The integers of a baseline are accepted: the test of R179, and a length within 10 mm of that of its effective vector (07_solver R181). -/
def baselineFix (s : State) (f : Filt) (a : Port) (amb : List AttAmb) : Option (List (AttAmb × Int)) :=
  let l := amb.filter fun x => x.ant == a && !diffFloat s x
  let ks := l.map (·.place)
  let z := Config.integerSearch (ks.map (fx f)) (subCov f ks)
  let fix := l.zip z.1
  if l ≠ [] ∧ searchPasses s f ks z ∧ absQ (vLen (fixedVector s fix) - vLen (baseVec s a)) ≤ 10 / 1000 then some fix else none

/-- AXES of the fixed baselines (07_solver R182). -/
def axesOf (s : State) (ants : List Port) : Nat := let d := spanDim (ants.map fun a => effVec s a 0); if 2 ≤ d then 3 else if d = 1 then 2 else 0

/-- The filter and angles that an attitude epoch starts from: carried on over its angular rate, or found from the differences. -/
def attStart (s : State) (te : Rat) : AttMem :=
  match s.sol.attF with
  | some m => { m with t := te, filt := Config.predict (te - m.t) m.filt }
  | none =>
    let l : List (Vec3 × Vec3 × Rat) := (baselines s).flatMap fun a => (doubleDiffs s a).filterMap fun d => (diffOf s ⟨0, a, d.1, d.2⟩).map fun q => (baseVec s a, q.2.1, q.1)
    ⟨te, Config.startAttitude l, startFilt 96 fun _ => 0, []⟩

/-- The numbers of an attitude epoch, and the baselines that fixed (07_solver R181). -/
def attEpoch (s : State) (te : Rat) : AttMem × Filt × List (Port × List (AttAmb × Int)) :=
  let m := attStart s te
  let g := attGrant s m.amb
  let att := attOf m.angles s.sol.att
  let f0 := g.2.foldl (fun f x => setState x.place
    (match diffOf s x with | some q => q.1 + vDot (toEnu att (baseVec s x.ant)) q.2.1 / wavelength x.target | none => 0) (Config.startVar x.place) f) m.filt
  let amb := g.1 ++ g.2
  let f := Config.estimate f0 (amb.filterMap (attRow s att f0))
  let fixed := (baselines s).filterMap fun a => (baselineFix s f a amb).map fun l => (a, l)
  let rows := fixed.flatMap fun x => x.2.map fun y => pseudoRow f (some y.1.target.sat) y.1.place y.2 0
  ({ m with filt := f, amb := amb }, Config.estimate f rows, fixed)

/-- 1σ in 0.01° of a rotation about an axis. -/
def sigmaAngle (f : Filt) (a : Vec3) : Nat := (roundEven (Config.radToDeg (Config.sqrt (covIn f 0 a a)) * 100)).toNat

/-- The attitude of an epoch from its numbers and its fixed baselines (07_solver R181, R182, Table 07-11). -/
def attRecOf (s : State) (te : Rat) (angles : Rat × Rat × Rat) (f : Filt) (fixed : List (Port × List (AttAmb × Int))) : AttRec :=
  let ants := fixed.map (·.1)
  let axes := axesOf s ants
  let sats := ((fixed.flatMap fun x => x.2.flatMap fun y => [y.1.target.sat, y.1.pivot]).dedup).length
  let a := attOf (Config.turnAngles angles (fvec f 0)) s.sol.att
  let h : Rat := (a.heading : Rat) / 100
  let sig := sigmaAngle f ⟨0, 0, 1⟩
  { a with
    t := te, roll := if axes = 2 then 0 else a.roll, sigHdg := sig, sigPr := sigmaAngle f ⟨-Config.cosDeg h, Config.sinDeg h, 0⟩, axes,
    ok := decide (2 ≤ axes) && decide (5 ≤ sats) && decide (sig ≤ 100), baselines := antBits fun p => ants.contains p, nsat := sats }

/-- The small rotation has entered the angles: its states start again at 0. -/
def turnIn (m : AttMem) : AttMem :=
  { m with angles := Config.turnAngles m.angles (fvec m.filt 0), filt := { m.filt with x := m.filt.x.zipIdx.map fun y => if y.2 < 3 then 0 else y.1 } }

/-- ATTITUDE_UPDATE (07_solver R181, R182): the estimate carried on is the float one; what is published has the integers of the fixed baselines. -/
def execAttitudeUpdate (_sol : Unit) (s0 : State) : Result :=
  match filterDue s0 .attitude with
  | none => .next s0
  | some te =>
    let s := refreshViews s0
    let (m, f, fixed) := attEpoch s te
    let r := attRecOf s te m.angles f fixed
    .next (writeSol (markDone .attitude te { s with sol := { s.sol with
      att := r, attF := some (turnIn m), attResets := [], attLast := if r.ok ∧ s.ary.spoof = false then some (te, r) else s.sol.attLast } }))

/-! ### Integrity (07_solver R183, R184) -/

/-- A subset of solution separation: the satellites it leaves out, whether its solution can be formed, its separations and their sigmas in cm, and the sigmas of its
solution. -/
structure Subset where
  /-- Satellites left out. -/
  without : List SatId
  /-- Its solution can be formed. -/
  formed : Bool
  /-- Horizontal separation, its sigma, and the sigma of the solution. -/
  dH : Rat
  /-- Sigma of the separation. -/
  sdH : Rat
  /-- Sigma of the subset's solution. -/
  skH : Rat
  /-- Vertical separation. -/
  dV : Rat
  /-- Its sigma. -/
  sdV : Rat
  /-- Sigma of the subset's solution. -/
  skV : Rat
  deriving DecidableEq, Repr

/-- Horizontal and vertical sigma in cm of a filter's position. -/
def sigmasOf (f : Filt) (fr : Vec3 × Vec3 × Vec3) : Rat × Rat := (100 * Config.sqrt (horizVar f 0 fr), 100 * Config.sqrt (covIn f 0 fr.2.2 fr.2.2))

/-- Difference of two covariances: that of the separation of a subset's solution from the all-in-view one. -/
def covDiff (a b : Filt) : Filt := { x := [], p := List.zipWith (List.zipWith (· - ·)) a.p b.p }

/-- Rows without some satellites. -/
def rowsWithout (out : List SatId) (rows : List ObsRow) : List ObsRow := rows.filter fun r => match r.sat with | some v => !out.contains v | none => true

/-- A subset's solution from the epoch's prediction and the rows of its satellites. -/
def subsetOf (m : FilterMem) (rows : List ObsRow) (all : Filt) (fr : Vec3 × Vec3 × Vec3) (out : List SatId) : Subset :=
  let l := rowsWithout out rows
  let f := Config.estimate m.pre l
  let d := vSub (fvec f 0) (fvec all 0)
  let c := sigmasOf (covDiff f all) fr
  let k := sigmasOf f fr
  { without := out, formed := formedBy l, dH := 100 * Config.sqrt (vDot d fr.1 * vDot d fr.1 + vDot d fr.2.1 * vDot d fr.2.1), sdH := c.1, skH := k.1,
    dV := 100 * absQ (vDot d fr.2.2), sdV := c.2, skV := k.2 }

/-- The satellites that the subsets leave out: each used one, and with SUBSET_CONST each constellation (07_solver R183). -/
def subsetSats (s : State) (used : List SatId) : List (List SatId) :=
  used.map (fun v => [v]) ++ (if cfgB s solFdeSubsetConst then ((used.map (·.const)).dedup).map fun k => used.filter fun v => v.const == k else [])

/-- The statistic of a subset: the larger of its separations over their sigmas. -/
def subsetTest (x : Subset) : Rat := max (quot x.dH x.sdH) (quot x.dV x.sdV)

/-- A subset fails the detection test. -/
def subsetFails (s : State) (x : Subset) : Bool :=
  x.formed && (decide (tenth s solFdeKFa * x.sdH < x.dH) || decide (tenth s solFdeKFa * x.sdV < x.dV))

/-- What an evaluation of one solution yields. -/
structure Evaluation where
  /-- Levels in cm: horizontal, vertical. -/
  pl : Rat × Rat
  /-- PL_VALID. -/
  valid : Bool
  /-- INTEG_FAIL. -/
  fail : Bool
  /-- Satellites excluded. -/
  excl : List SatId
  /-- Exclusions made. -/
  count : Nat

/-- Protection levels of a pass: K_MD·σ of the solution, or the largest K_FA·σ_d + K_MD·σ of a subset (07_solver R183). -/
def passLevels (s : State) (s0 : Rat × Rat) (subs : List Subset) : Rat × Rat :=
  let kfa := tenth s solFdeKFa
  let kmd := tenth s solFdeKMd
  subs.foldl (fun (m : Rat × Rat) x => (max m.1 (kfa * x.sdH + kmd * x.skH), max m.2 (kfa * x.sdV + kmd * x.skV))) (kmd * s0.1, kmd * s0.2)

/-- The subset that fails worst, the first of equals. -/
def worstSubset (s : State) (subs : List Subset) : Option Subset :=
  (subs.filter (subsetFails s)).foldl (fun (b : Option Subset) x => match b with
    | none => some x
    | some y => if subsetTest y < subsetTest x then some x else some y) none

/-- The loop of R183: passes over the epoch's rows, each without what the ones before excluded. `fuel` bounds them. -/
def evaluate (s : State) (m : FilterMem) : Nat → Nat → List SatId → Evaluation
  | 0, n, ex => ⟨(0, 0), false, false, ex, n⟩
  | fuel + 1, n, ex =>
    let rows := rowsWithout ex m.rows
    let all := if ex = [] then m.post else Config.estimate m.pre rows
    let fr := localFrame (positionOf (fvec all 0))
    let subs := (subsetSats s (codeSats rows)).map (subsetOf m rows all fr)
    let pl := passLevels s (sigmasOf all fr) subs
    let ok := formedBy rows && subs.all fun x => x.formed
    match worstSubset s subs with
    | none => ⟨pl, ok, false, ex, n⟩
    | some w => if n = cfg s solFdeExclMax then ⟨pl, ok, true, ex, n⟩ else evaluate s m fuel (n + 1) (ex ++ w.without)

/-- The evaluation of a filter's last epoch: no exclusion is made beyond EXCL_MAX, which is at most 3. -/
def evaluationOf (s : State) (m : Option FilterMem) : Evaluation :=
  match m with | some x => evaluate s x 4 0 [] | none => ⟨(0, 0), false, false, [], 0⟩

/-- The levels of an evaluation. -/
def levelsOf (m : Option FilterMem) (e : Evaluation) : Option Levels := m.map fun x => ⟨x.t, e.pl.1, e.pl.2, e.valid⟩

/-- INTEGRITY_EVAL (07_solver R183, R184). -/
def execIntegrityEval (_std _prec : Unit) (s : State) : Result :=
  match filterDue s .integrity with
  | none => .next s
  | some te =>
    let pm := if s.sol.precOn then s.sol.precF else none
    let a := evaluationOf s s.sol.stdF
    let b := evaluationOf s pm
    let fail := a.fail || b.fail
    let out := (a.excl ++ b.excl).dedup
    let t := markDone .integrity te { s with sol := { s.sol with
      levels := #v[levelsOf s.sol.stdF a, levelsOf pm b], fail := fail, timeValid := s.sol.timeValid && !fail,
      excl := (s.sol.excl.filter fun x => !out.contains x.1) ++ out.map fun v => (v, stNow s),
      amb := s.sol.amb.map fun x => if out.contains x.sat then resetAmb x else x } }
    let t := (List.range (a.count + b.count)).foldl (fun u _ => bump cSolFdeExclusions u) t
    let t := bumpIf b.fail cSolIntegFails (bumpIf a.fail cSolIntegFails t)
    let t := if fail then setTrusted false (trackUsable false t) else t
    .next (writeSol t)

/-! ### Skips and expiries -/

/-- SOL_SKIP (07_solver R156): the epoch is skipped for that filter. -/
def execSolSkip (f : Filter) (s : State) : Result :=
  match filterDue s f with
  | some te => .next (bump cSolSolSkip (markDone f te s))
  | none => .next s

/-- EXCL_HOLD_EXPIRY (07_solver R183). -/
def execExclHoldExpiry (v : SatId) (s : State) : Result :=
  .next { s with sol := { s.sol with excl := s.sol.excl.filter fun x => !(x.1 == v && decide ((cfg s solFdeExclHold : Rat) ≤ stNow s - x.2)) } }

/-- CORRECTION_EXPIRY (07_solver R177): the item of that place is dropped when its age passes its limit. -/
def execCorrectionExpiry (item : Nat) (s : State) : Result :=
  match s.sol.corr[item]? with
  | none => .next s
  | some c => .next (if corrFresh s c then s else { s with sol := { s.sol with corr := s.sol.corr.eraseIdx item } })

end Sys2Proof.Machine
end

