-- ==== Sys2Proof/Machine/Farm.lean ====
section
/-!
DEFINITION. The snapshot farm (08_snapshot_farm): the reference history, delivery into the store, jobs in their slots, results and the mailbox.
-/

namespace Sys2Proof.Machine

/-- Change a polder's farm share. -/
def modShare (p : Polder) (f : FarmShare → FarmShare) (s : State) : State :=
  { s with snf := { s.snf with share := s.snf.share.set p (f s.snf.share[p]) } }

/-- Fractional frequency error of KCLK that a rate of the mapping gives (08_snapshot_farm R200). -/
def gwError (rate : Rat) : Rat := nominalRate / rate - 1

/-! ### The reference history (08_snapshot_farm R197, R198) -/

/-- The history entry of a second. -/
def histAt (s : State) (sec : Nat) : Option HistEntry := s.snf.history.find? fun h => h.sec == sec

/-- What the history keeps of a satellite from its entry. -/
def histSat (s : State) (e : MeasEntry) : Option HistSat :=
  if e.role != .array && (e.target.sig == 0 || e.target.sig == 15 || e.target.sig == 4) && decide (e.level = 3) && e.prValid && e.dopValid then
    some ⟨e.target.sat, e.pr, e.doppler, e.cn0, reasonOf s (pubPrecise s) e.target.sat⟩
  else none

/-- HISTORY_ENTRY (08_snapshot_farm R197). -/
def execHistoryEntry (s : State) : Result :=
  match s.msr.lastRec with
  | none => .next s
  | some r =>
    let sec := r.t.floor.toNat
    if r.t.den ≠ 1 ∨ (histAt s sec).isSome ∨ domOn s .snf = false then .next s else
    let h : HistEntry := {
      sec, aligned := r.aligned, usable := r.usable, rate := r.rate,
      ref := if pvtValid s then (pubRec s).map fun x => x.sol.pos else none, sats := r.entries.filterMap (histSat s), tick := s.sky.tick }
    .next { s with snf := { s.snf with history := h :: s.snf.history.filter fun x => decide (sec < x.sec + 64) } }

/-- An entry is complete, or its second passed without one (08_snapshot_farm R198). -/
def histSettled (s : State) (sec : Nat) : Bool :=
  match histAt s sec with
  | some h => decide (h.tick < s.sky.tick)
  | none => decide ((sec : Rat) + 2 / 1000 < stNow s)

/-! ### Delivery (10_tag_link R272, 08_snapshot_farm R211) -/

/-- ε of a tag at a second: what the link measured, and the error of KCLK that the mapping's rate then gives (08_snapshot_farm R200). -/
def tagEps (afc : Int) (fLink : Nat) (rate : Rat) : Rat := quot ((afc : Rat) * 20) fLink + gwError rate

/-- The snapshot of an authenticated SNAP frame with its descriptor. -/
def snapshotOf (s : State) (ch : LinkChan) (a : PendingAck) (payload : List Byte) : Snapshot :=
  let h := leNat (payload.take 20)
  let f := cfgAt s lnkChanFreq ch.val
  let delta : Rat := getBits h 0 24
  let eps := tagEps a.rx.afc f (rateAt s (a.rx.first - delta / 4092000).floor)
  let unc := getBits h 24 8 + 2 + (ceilQ (delta * 10 / ((f : Rat) * 4092000) * 10000000)).toNat
  { ctx := a.ctx, cls := getBits a.rx.header 4 2, still := getBits h 48 1 == 1, inv := getBits h 49 1 == 1,
    captureSt := stWord (a.rx.first - delta / (4092000 * (1 + eps))), stampUnc := min 255 unc, afc := a.rx.afc, fLink := f, rssi := a.rx.rssi,
    seq := getBits h 32 16,
    early := match s.sky.alignedAt with | some q => decide (a.rx.first - delta / (4092000 * (1 + eps)) < q) | none => true,
    tick := s.sky.tick, samples := payload.drop 20 }

/-- The candidate of a full share: the highest CLASS number, the oldest among those. -/
def spillCandidate {α : Type} (cls : α → Nat) (l : List α) : Option α :=
  l.foldl (fun (b : Option α) x => match b with | none => some x | some y => if cls y < cls x then some x else some y) none

/-- Remove the first element of a class. -/
def dropClass {α : Type} (cls : α → Nat) (c : Nat) : List α → List α
  | [] => []
  | x :: l => if cls x = c then l else x :: dropClass cls c l

/-- A snapshot enters its polder's share, or one leaves through the spillway (08_snapshot_farm R211). -/
def storeSnapshot (p : Polder) (q : Snapshot) (s : State) : State :=
  let sh := s.snf.share[p]
  let running := match s.snf.job with | some (o, _, _) => if o = p then 1 else 0 | none => 0
  if sh.store.length + running < cfgAt s snfShareStore p.val then
    ctrAdd (pSnfSnapsIn p) 1 (modShare p (fun x => { x with store := x.store ++ [q] }) s)
  else
    let t := ctrAdd (pSnfSnapSpill p) 1 (modShare p (fun x => { x with lostNext := true }) s)
    match spillCandidate (·.cls) sh.store with
    | none => t
    | some c =>
      if c.cls < q.cls then t
      else ctrAdd (pSnfSnapsIn p) 1 (modShare p (fun x => { x with store := dropClass (·.cls) c.cls x.store ++ [q] }) t)

/-- SNAPSHOT_DELIVERY (10_tag_link R272, 08_snapshot_farm R211, Table 08-8). -/
def execSnapshotDelivery (ch : LinkChan) (s : State) : Result :=
  match s.lnk.snapDue[ch] with
  | none => .next s
  | some a =>
    let t := { s with lnk := { s.lnk with snapDue := s.lnk.snapDue.set ch none } }
    match a.snap with
    | none => .next t
    | some payload =>
      let st := (ctxGet s a.ctx).state
      if isDry s a.polder ∨ st = .empty ∨ st = .retired then .next (ctrAdd (pSnfSnapOrphan a.polder) 1 t)
      else .next (storeSnapshot a.polder (snapshotOf s ch a payload) t)

/-! ### The job (08_snapshot_farm R199–R206) -/

/-- Constellation bit of SNF_CONST. -/
def snfConst (s : State) (v : SatId) : Bool :=
  match v.const with
  | .gps => (cfg s snfCfgSnfConst).testBit 0
  | .galileo => (cfg s snfCfgSnfConst).testBit 1
  | .qzss => (cfg s snfCfgSnfConst).testBit 2
  | _ => false

/-- A satellite is held with REASON 0 or 8. -/
def inHistory (h : HistEntry) (v : SatId) : Bool := h.sats.any fun x => x.sat == v && (x.reason == 0 || x.reason == 8)

/-- The reference is usable (08_snapshot_farm R201). -/
def refUsable (s : State) (s0 : Nat) : Bool :=
  match histAt s s0, histAt s (s0 + 1) with
  | some a, some b => a.usable && b.usable && (a.ref.isSome || b.ref.isSome)
  | _, _ => false

/-- Levels of a snapshot's samples: two bits each, sign then magnitude code m, ±(2m + 1), the first in bits 7:6 of the first byte (08_snapshot_farm R194). -/
def sampleLevels (l : List Byte) : List Int :=
  l.flatMap fun b => [3, 2, 1, 0].map fun k =>
    let q := getBits b.toNat (2 * k) 2
    if 2 ≤ q then -(2 * (q % 2 : Nat) + 1 : Int) else (2 * (q % 2 : Nat) + 1 : Int)

/-- A satellite that a job searches. -/
structure FarmCand where
  /-- Satellite. -/
  sat : SatId
  /-- As it is predicted from REF. -/
  view : SatView
  /-- Doppler on L1 in Hz. -/
  dop : Rat
  /-- Predicted transmit time of the first sample, in seconds of GPS time. -/
  tx : Rat

/-- A reference position of a job: of the entries of s0 and s0 + 1 where the reference is usable, else the newest of the history (08_snapshot_farm R201). -/
def farmRef (s : State) (ok : Bool) (s0 : Nat) : Option Position :=
  if ok then ((histAt s s0).bind (·.ref)).or ((histAt s (s0 + 1)).bind (·.ref)) else s.snf.history.findSome? (·.ref)

/-- The Doppler and the transmit time of a satellite at a capture instant (08_snapshot_farm R202): from the two entries, or from the prediction. -/
def farmCand (s : State) (ok : Bool) (tc : Rat) (p : Position) (v : SatId) : Option FarmCand :=
  let s0 := tc.floor.toNat
  let a := tc - s0
  let of_ (h : Option HistEntry) : Option HistSat := h.bind fun x => x.sats.find? fun y => y.sat == v
  let t := gpsTime s tc
  match predictView s p t v, of_ (histAt s s0), of_ (histAt s (s0 + 1)) with
  | some w, some x, some y => some (if ok then ⟨v, w, (1 - a) * x.doppler + a * y.doppler, t - ((1 - a) * x.pr + a * y.pr) / lightSpeed⟩
      else ⟨v, w, w.dop, t - w.range / lightSpeed + w.clk⟩)
  | some w, _, _ => some ⟨v, w, w.dop, t - w.range / lightSpeed + w.clk⟩
  | none, _, _ => none

/-- A satellite may be searched (08_snapshot_farm R201). -/
def farmEligibleSat (s : State) (ok : Bool) (s0 : Nat) (v : SatId) : Bool :=
  snfConst s v && (if ok then (match histAt s s0, histAt s (s0 + 1) with | some a, some b => inHistory a v && inHistory b v | _, _ => false) else ephHeld s v)

/-- The satellites searched: candidates of R201, at most 16, highest elevation first. -/
def farmSearched (s : State) (ok : Bool) (tc : Rat) : List FarmCand :=
  match farmRef s ok tc.floor.toNat with
  | none => []
  | some p =>
    let l := (s.msr.eph.map (·.sat)).filterMap fun v => if farmEligibleSat s ok tc.floor.toNat v then farmCand s ok tc p v else none
    (sortBy (fun (a b : FarmCand) => decide (b.view.elev < a.view.elev)) (l.filter fun c => decide ((cfg s snfCfgSnfElev : Rat) ≤ c.view.elev))).take 16

/-- The signal of a satellite in a snapshot (08_snapshot_farm Table 08-3). -/
def farmTarget (v : SatId) : SearchTarget := ⟨match v.const with | .galileo => 4 | .qzss => 15 | _ => 0, v, 7⟩

/-- The LNAV bit on the air at a transmit time in seconds of GPS time, where the history holds it: 300 bits of 20 ms from each multiple of 6 s. -/
def lnavBit (s : State) (v : SatId) (tx : Rat) : Option Bool :=
  s.msr.lnav.findSome? fun x =>
    let first : Rat := 6 * (roundEven (gpsTime s (stOfWord x.2.1) / 6) : Int)
    if x.1 = v ∧ first ≤ tx then x.2.2[((tx - first) * 50).floor.toNat]? else none

/-- COH of a satellite entry (08_snapshot_farm Tables 08-3, 08-5): 5 ms with bits wiped only with a usable reference and every bit of the span held. -/
def farmCoh (s : State) (ok : Bool) (c : FarmCand) : Nat :=
  if c.sat.const = .galileo then 1
  else if ok && (lnavBit s c.sat c.tx).isSome && (lnavBit s c.sat (c.tx + 5 / 1000)).isSome then 2 else 0

/-- Coherent length in ms by COH. -/
def cohMs (coh : Nat) : Nat := if coh = 1 then 4 else if coh = 2 then 5 else 1

/-- Number of intervals by COH. -/
def cohN (coh : Nat) : Nat := if coh = 0 then 5 else 1

/-- The search of a satellite (08_snapshot_farm R202, R203), its frequencies in Hz and its code phases in cells of a quarter chip from the predicted one. -/
structure FarmSearch where
  /-- Satellite. -/
  cand : FarmCand
  /-- COH. -/
  coh : Nat
  /-- f_if. -/
  fIf : Rat
  /-- Its part that the satellite and the tag's motion do not make: the IF less the tag term ε·1,574.397 MHz. -/
  fTag : Rat
  /-- Samples per second: 4.092 MHz × (1 + ε). -/
  rate : Rat
  /-- Half-width K in bins. -/
  k : Nat
  /-- Half-width of the code window in cells, none for the whole code. -/
  window : Option Nat

/-- Bin spacing: 1 / (2 × coherent length). -/
def farmSpacing (x : FarmSearch) : Rat := 500 / cohMs x.coh

/-- U_f of a snapshot (08_snapshot_farm R203). -/
def farmUf (s : State) (q : Snapshot) : Rat :=
  quot (10 * 1574397000) q.fLink + cfg s snfCfgRTag + 105 / 10 * (if q.still then 1 / 2 else (cfg s snfCfgSnfVel : Rat) / 10)

/-- Half-width of the code window in chips of a length (08_snapshot_farm R203). -/
def farmWindow (s : State) (q : Snapshot) (chipM : Rat) : Nat :=
  (ceilQ (((cfg s snfCfgRTag : Rat) * 1000 + lightSpeed * q.stampUnc / 10000000) / chipM)).toNat

/-- The search of a candidate in a snapshot. -/
def farmSearch (s : State) (ok : Bool) (q : Snapshot) (eps : Rat) (c : FarmCand) : FarmSearch :=
  let coh := farmCoh s ok c
  let tag := (if q.inv then -1023000 else 1023000) - eps * 1574397000
  { cand := c, coh, fIf := tag + c.dop, fTag := tag, rate := 4092000 * (1 + eps), k := (ceilQ (farmUf s q * (2 * cohMs coh) / 1000)).toNat,
    window := if ok then some (4 * farmWindow s q (lightSpeed / (sigInfo (farmTarget c.sat).sig).chipHz)) else none }

/-- Chips since the start of GPS time that the replica of a cell has at a sample: its code rate carries the Doppler and the tag's sample clock. -/
def farmChips (x : FarmSearch) (cell : Rat) (k : Nat) : Rat :=
  let r : Rat := (sigInfo (farmTarget x.cand.sat).sig).chipHz
  x.cand.tx * r + cell / 4 + k * (r * (1 + x.cand.dop / l1Hz) / x.rate)

/-- Sign of the replica at a count of chips (08_snapshot_farm Table 08-3): primary code, BOC(1,1) and CS25 of E1-C, LNAV bits under 5 ms. -/
def farmReplica (s : State) (x : FarmSearch) (chips : Rat) : Rat :=
  let v := x.cand.sat
  let g := sigInfo (farmTarget v).sig
  let n := chips.floor
  let neg := Config.primaryChip (farmTarget v).sig v.sv (n % (g.chips : Int)).toNat
  let sub := g.boc && decide (1 / 2 ≤ chips - n)
  let sec := x.coh == 1 && Config.secondaryChip (farmTarget v).sig v.sv (n / (g.chips : Int) % 25).toNat
  let bit := x.coh == 2 && (lnavBit s v (chips / g.chipHz)).getD false
  if xor (xor neg sub) (xor sec bit) then -1 else 1

/-- Samples of a coherent interval: 1, 4 or 5 ms of the nominal rate. -/
def farmLen (x : FarmSearch) : Nat := 4092 * cohMs x.coh

/-- The correlation of an interval of samples, the first numbered k0, at a cell and a frequency in Hz. -/
def farmCorr (s : State) (x : FarmSearch) (levels : List Int) (k0 : Nat) (cell : Int) (f : Rat) : Cplx :=
  cSum (levels.zipIdx.map fun y =>
    let k := k0 + y.2
    cMul ⟨(y.1 : Rat) * farmReplica s x (farmChips x cell k), 0⟩ (cExp (-(f / x.rate * k))))

/-- z of a cell and a bin: the sum over the intervals of the squared magnitude. -/
def farmZ (s : State) (x : FarmSearch) (levels : List Int) (bin cell : Int) : Rat :=
  let n := farmLen x
  ((List.range (cohN x.coh)).map fun i => cNorm (farmCorr s x ((levels.drop (n * i)).take n) (n * i) cell (x.fIf + bin * farmSpacing x))).foldl (· + ·) 0

/-- First cell and number of cells of the grid; the whole code lies about the predicted phase. -/
def farmCells (x : FarmSearch) : Int × Nat :=
  match x.window with
  | some w => (-(w : Int), 2 * w + 1)
  | none => let l := (sigInfo (farmTarget x.cand.sat).sig).chips; (-(2 * l : Int), 4 * l)

/-- A detected satellite. -/
structure FarmHit where
  /-- Refined code phase in cells. -/
  cell : Rat
  /-- Refined frequency in Hz. -/
  freq : Rat
  /-- C/N0 estimate in dB-Hz. -/
  cn0 : Rat

/-- Place of the parabola's vertex about the i-th of n values, through the three that lie inside, from the first value (08_snapshot_farm R203). -/
def refineAt (z : Nat → Rat) (n i : Nat) : Rat := let c := min (max i 1) (n - 2); c + vertex (z (c - 1)) (z c) (z (c + 1))

/-- Search a satellite (08_snapshot_farm R203): the peak of the grid over the noise of its bin, as R87 tests it. -/
def farmDetect (s : State) (x : FarmSearch) (levels : List Int) : Option FarmHit :=
  let (lo, n) := farmCells x
  let bins := (List.range (2 * x.k + 1)).map fun b => (List.range n).map fun (i : Nat) => farmZ s x levels ((b : Int) - x.k) (lo + i)
  let tops := bins.map fun l => l.foldl max 0
  let b := argMax tops
  let row := bins.getD b []
  let i := argMax row
  let ratio := overNoise row i
  if reachesPfa (cfg s snfCfgSnfPfa) (cohN x.coh) ratio then
    some ⟨lo + refineAt (fun j => row.getD j 0) n i, x.fIf + (refineAt (fun j => (bins.getD j []).getD i 0) (2 * x.k + 1) b - x.k) * farmSpacing x,
          10 * Config.log10 ((ratio - 1) * 1000 / cohMs x.coh)⟩
  else none

/-- A satellite entry (08_snapshot_farm Table 08-5). -/
def farmEntry (used : Bool) (x : FarmSearch × Option FarmHit) : Nat :=
  let c := x.1.cand
  let l := (sigInfo (farmTarget c.sat).sig).chips
  packFields ([(0, 3, constCode c.sat.const), (3, 6, c.sat.sv), (15, 1, b2n used), (16, 2, x.1.coh)] ++
    (match x.2 with
     | none => []
     | some h => [(9, 6, (clampI 0 63 (roundEven h.cn0)).toNat), (18, 22, ((farmChips x.1 h.cell 0 * 1024).floor % (1024 * l : Int)).toNat),
                  (40, 24, twos 24 (roundEven ((h.freq - x.1.fTag) * 10)))]))

/-- Status before any search (08_snapshot_farm Table 08-2): EARLY, EXPIRED or BAD_SNAP. -/
def farmReject (s : State) (q : Snapshot) : Option Nat :=
  if q.early then some 6
  else if (cfg s snfCfgMaxAge : Rat) < stNow s - stOfWord q.captureSt then some 5
  else if cfg s snfCfgStampMax < q.stampUnc ∨ 60 * q.fLink < 20 * q.afc.natAbs * 1000000 ∨ q.fLink < 410000000 ∨ 960000000 < q.fLink then some 7
  else none

/-- How the fix is solved: with the height constrained or not (08_snapshot_farm R204). -/
def farmFlat (s : State) (p : Polder) (ndet : Nat) : Bool :=
  let v := cfgP s p snfOptVert
  if v = 1 then true else if v = 2 then false else decide (ndet < 5)

/-- A row of the fix: satellite, none for the height, its measured value in m and its variance, and the satellite's position where it is one. -/
structure FixRow where
  /-- Satellite. -/
  sat : Option SatId
  /-- ρ_t − ρ_g, or the up-offset. -/
  y : Rat
  /-- Variance. -/
  var : Rat
  /-- Satellite's position. -/
  pos : Vec3

/-- The row of a detected satellite (08_snapshot_farm R204): ρ_t − ρ_g = c·(predicted − measured transmit time), the measured one in the code period nearest the predicted one;
its weight from C/N0 as in R159. -/
def fixRow (s : State) (tc : Rat) (r : Vec3) (x : FarmSearch) (h : FarmHit) : Option FixRow :=
  let g := sigInfo (farmTarget x.cand.sat).sig
  (orbitData s x.cand.sat).map fun d =>
    let q := g.sigma0 * sigmaM x.cand.view.elev h.cn0
    { sat := some x.cand.sat, y := -(lightSpeed * (h.cell / 4 / g.chipHz)), var := q * q, pos := (sightOf s x.cand.sat d.1 none r tc).pos }

/-- The pseudo-observation of a constrained height. -/
def heightRow (s : State) (p : Polder) : FixRow :=
  let q : Rat := (cfgP s p snfOptHgtSig : Rat) / 100
  { sat := none, y := (fldVal s p.val snfOptHgtOfs 0 : Rat) / 100, var := q * q, pos := ⟨0, 0, 0⟩ }

/-- What a row gives at an offset (east, north, up, b) from REF: its model, and its partial derivatives. -/
def fixModel (r : Vec3) (fr : Vec3 × Vec3 × Vec3) (x : List Rat) (w : FixRow) : Rat × List Rat :=
  let k (i : Nat) : Rat := x.getD i 0
  if w.sat.isNone then (k 2, [0, 0, 1, 0])
  else
    let d := vAdd (vScale (k 0) fr.1) (vAdd (vScale (k 1) fr.2.1) (vScale (k 2) fr.2.2))
    let a := vSub w.pos r
    let l := vSub a d
    let u := vScale (quot 1 (vLen l)) l
    (vLen l - vLen a + k 3, [-(vDot u fr.1), -(vDot u fr.2.1), -(vDot u fr.2.2), 1])

/-- Normal matrix of rows of partial derivatives with their variances. -/
def normalMatrix (rows : List (List Rat × Rat)) : List (List Rat) :=
  (List.range 4).map fun i => (List.range 4).map fun j => (rows.map fun h => quot (h.1.getD i 0 * h.1.getD j 0) h.2).foldl (· + ·) 0

/-- Inverse of a 4 by 4 matrix, by columns. -/
def inverse4 (m : List (List Rat)) : List (List Rat) := (List.range 4).map fun i => rSolve m ((List.range 4).map fun j => if i = j then 1 else 0)

/-- One Gauss–Newton iteration. -/
def fixStep (r : Vec3) (fr : Vec3 × Vec3 × Vec3) (rows : List FixRow) (x : List Rat) : List Rat :=
  let m := rows.map fun w => let y := fixModel r fr x w; (y.2, w.var, w.y - y.1)
  let b := (List.range 4).map fun i => (m.map fun y => quot (y.1.getD i 0 * y.2.2) y.2.1).foldl (· + ·) 0
  List.zipWith (· + ·) x (rSolve (normalMatrix (m.map fun y => (y.1, y.2.1))) b)

/-- A fix: offset and b, covariance, covariance of the geometry alone, and each row with its residual and partial derivatives. -/
structure FarmFix where
  /-- East, north, up and b in m. -/
  x : List Rat
  /-- Covariance. -/
  cov : List (List Rat)
  /-- Inverse of the unweighted normal matrix. -/
  dop : List (List Rat)
  /-- Rows, residuals and partial derivatives. -/
  rows : List (FixRow × Rat × List Rat)

/-- Weighted least squares: three Gauss–Newton iterations from Δx = 0 (08_snapshot_farm R204). -/
def farmFix (r : Vec3) (fr : Vec3 × Vec3 × Vec3) (rows : List FixRow) : FarmFix :=
  let x := (List.range 3).foldl (fun y _ => fixStep r fr rows y) [0, 0, 0, 0]
  let m := rows.map fun w => let y := fixModel r fr x w; (w, w.y - y.1, y.2)
  { x, cov := inverse4 (normalMatrix (m.map fun w => (w.2.2, w.1.var))), dop := inverse4 (normalMatrix (m.map fun w => (w.2.2, 1))), rows := m }

/-- Weighted residual sum. -/
def fixChi (f : FarmFix) : Rat := (f.rows.map fun w => quot (w.2.1 * w.2.1) w.1.var).foldl (· + ·) 0

/-- The residual test with a number of redundant satellites (08_snapshot_farm R205). -/
def fixPasses (red : Nat) (f : FarmFix) : Bool := decide (fixChi f ≤ Config.chiSquare red)

/-- Square of a row's normalised residual: by the residual's own variance. -/
def normResidual (cov : List (List Rat)) (w : FixRow × Rat × List Rat) : Rat := quot (w.2.1 * w.2.1) (w.1.var - dotQ w.2.2 (cov.map fun c => dotQ c w.2.2))

/-- The satellite with the largest normalised residual. -/
def worstSat (f : FarmFix) : Option SatId :=
  match (sortBy (fun a b => decide (normResidual f.cov b < normResidual f.cov a)) (f.rows.filter fun w => w.1.sat.isSome)).head? with
  | some w => w.1.sat
  | none => none

/-- What a job with a usable reference comes to: STATUS, the fix, CHECKED and the excluded satellite. -/
structure FarmOutcome where
  /-- STATUS. -/
  status : Nat
  /-- Fix. -/
  fix : Option FarmFix := none
  /-- CHECKED. -/
  checked : Bool := false
  /-- Excluded satellite. -/
  out : Option SatId := none

/-- The fix of a job's rows, the satellites' first (08_snapshot_farm R204, R205): `flat` adds the height. -/
def farmSolution (r : Vec3) (fr : Vec3 × Vec3 × Vec3) (flat : Bool) (height : FixRow) (sats : List FixRow) : FarmOutcome :=
  let need := if flat then 3 else 4
  let solve (l : List FixRow) : FarmFix := farmFix r fr (l ++ if flat then [height] else [])
  let ok := if flat then 1 else 0
  if sats.length < need then { status := 3 } else
  let red := sats.length - need
  let a := solve sats
  if red = 0 then { status := ok, fix := some a }
  else if fixPasses red a then { status := ok, fix := some a, checked := true }
  else
    let out := worstSat a
    let b := solve (sats.filter fun w => w.sat != out)
    if 2 ≤ red ∧ fixPasses (red - 1) b then { status := ok, fix := some b, checked := true, out } else { status := 4, checked := true, out }

/-- The fields of a header up to CAPTURE_ST. -/
def farmHead (q : Snapshot) (status : Nat) : List (Nat × Nat × Nat) :=
  [(0, 10, q.ctx), (10, 3, status), (13, 2, q.cls), (15, 1, b2n q.still), (48, 16, q.seq), (64, 64, q.captureSt)]

/-- The fields of a fix relative to REF (08_snapshot_farm R206, Table 08-4). -/
def farmPlace (p : Position) (f : FarmFix) : List (Nat × Nat × Nat) :=
  let k (i : Nat) : Rat := f.x.getD i 0
  let c (m : List (List Rat)) (i j : Nat) : Rat := (m.getD i []).getD j 0
  let cm (q : Rat) : Nat := (clampI 0 65535 (roundEven (100 * q))).toNat
  let w := f.rows.filter fun y => y.1.sat.isSome
  let sum (g : FixRow × Rat × List Rat → Rat) : Rat := (w.map g).foldl (· + ·) 0
  let (la, lo, h) := Config.movePos p.lat p.lon p.hgt (1000 * k 0) (1000 * k 1) (1000 * k 2)
  [(128, 40, twos 40 la), (168, 40, twos 40 lo), (208, 32, twos 32 h), (240, 28, twos 28 (roundEven (1000 * k 0))), (268, 28, twos 28 (roundEven (1000 * k 1))),
   (296, 24, twos 24 (roundEven (1000 * k 2))), (320, 16, cm (2448 / 1000 * Config.sqrt (lamMax (c f.cov 0 0) (c f.cov 0 1) (c f.cov 1 1)))),
   (336, 16, cm (1960 / 1000 * Config.sqrt (c f.cov 2 2))), (352, 32, twos 32 (roundEven (k 3 / lightSpeed * 10000000000))),
   (408, 8, (clampI 0 255 (roundEven (10 * Config.sqrt (c f.dop 0 0 + c f.dop 1 1 + c f.dop 2 2)))).toNat),
   (416, 16, cm (Config.sqrt (quot (sum fun y => quot (y.2.1 * y.2.1) y.1.var) (sum fun y => quot 1 y.1.var))))]

/-- What a job found: its searches with their hits, and its outcome. -/
def farmJob (s : State) (p : Polder) (q : Snapshot) (eps : Rat) : List (FarmSearch × Option FarmHit) × FarmOutcome :=
  let tc := stOfWord q.captureSt
  let ok := refUsable s tc.floor.toNat
  let levels := sampleLevels q.samples
  let l := (farmSearched s ok tc).map fun c => let x := farmSearch s ok q eps c; (x, farmDetect s x levels)
  match if ok then farmRef s ok tc.floor.toNat else none with
  | none => (l, { status := 2 })
  | some pos =>
    let r := Config.ecefOf pos.lat pos.lon pos.hgt
    (l, farmSolution r (localFrame pos) (farmFlat s p (l.filter fun x => x.2.isSome).length) (heightRow s p)
      (l.filterMap fun x => x.2.bind (fixRow s tc r x.1)))

/-- The result of a job (08_snapshot_farm R206, Table 08-4). -/
def farmResultOf (s : State) (p : Polder) (q : Snapshot) : FarmResult :=
  match farmReject s q with
  | some st => ⟨q.cls, q.ctx, packFields (farmHead q st), false, []⟩
  | none =>
    let s0 := (stOfWord q.captureSt).floor.toNat
    let eps := tagEps q.afc q.fLink (match histAt s s0 with | some h => h.rate | none => rateAt s s0)
    let (l, o) := farmJob s p q eps
    let used (x : FarmSearch × Option FarmHit) : Bool := o.fix.isSome && x.2.isSome && o.out != some x.1.cand.sat
    let es := if cfgP s p snfOptMeasOut = 1 ∨ 2 ≤ o.status then l.map fun x => farmEntry (used x) x else []
    let place := match o.fix, farmRef s (refUsable s s0) s0 with | some f, some pos => farmPlace pos f | _, _ => []
    ⟨q.cls, q.ctx, packFields (farmHead q o.status ++
      [(16, 1, b2n o.checked), (17, 1, b2n o.out.isSome), (19, 1, b2n (l.any fun x => x.1.coh == 2)), (20, 5, (l.filter fun x => x.2.isSome).length),
       (25, 5, (l.filter used).length), (30, 5, es.length), (384, 24, twos 24 (roundAway (eps * 1000000000)))] ++ place), false, es⟩

/-! ### Slots (08_snapshot_farm R207–R210) -/

/-- The slot now: ST second and index 0–127. -/
def farmSlotNow (s : State) : Nat × Nat := let q := stNow s; (q.floor.toNat, ((q - q.floor) * 128).floor.toNat)

/-- The mode runs the slot map in a second (08_snapshot_farm R210). -/
def farmMode (s : State) (sec : Nat) : Bool :=
  inService s && domOn s .snf && (match s.mode.mode with
    | .layup => false
    | .thin => decide (sec % cfg s bootModesThinLinkDiv = 0)
    | .quiet => decide (sec % cfg s bootModesThinLinkDiv = 0)
    | _ => true)

/-- The polder's core runs (in WAIT too). -/
def coreRuns (s : State) (p : Polder) : Bool := s.pld[p].core.phase == .running || s.pld[p].core.phase == .waiting || s.pld[p].core.phase == .savedWait || s.pld[p].core.phase == .saved

/-- A snapshot is eligible at a slot start. -/
def farmEligible (s : State) (q : Snapshot) : Bool :=
  let s0 := (stOfWord q.captureSt).floor.toNat
  decide (q.tick < s.sky.tick) && histSettled s s0 && histSettled s (s0 + 1)

/-- A snapshot goes before another: lowest CLASS, earliest CAPTURE_ST, lowest CTX. -/
def snapBefore (a b : Snapshot) : Bool :=
  decide (a.cls < b.cls) || (decide (a.cls = b.cls) && (decide (a.captureSt < b.captureSt) || (decide (a.captureSt = b.captureSt) && decide (a.ctx < b.ctx))))

/-- The counter of a status. -/
def farmCounter (p : Polder) (header : Nat) : Nat :=
  let st := getBits header 10 3
  if st ≤ 1 then pSnfFixes p else if st = 2 then pSnfNoRef p else if st = 3 then pSnfFewSats p else if st = 4 then pSnfRaimFail p
  else if st = 5 then pSnfExpired p else if st = 6 then pSnfEarly p else pSnfBadSnap p

/-- Run a job of an owned slot or let the slot idle (08_snapshot_farm R207, R208). -/
def farmSlot (p : Polder) (sec : Nat) (s : State) : State :=
  let low (v : Bool) (t : State) : State := modShare p (fun x => { x with creditLow := v }) t
  if isDry s p ∨ coreRuns s p = false ∨ winBit s p 0xC604 1 ∨ farmMode s sec = false then ctrAdd (pSnfSlotIdleHold p) 1 (low false s) else
  match sortBy snapBefore (s.snf.share[p].store.filter (farmEligible s)) with
  | [] => ctrAdd (pSnfSlotIdleEmpty p) 1 (low false s)
  | q :: _ =>
    let free := (farmReject s q).isSome
    if free = false ∧ creditOk s p 4300 = false then ctrAdd (pSnfSlotIdleCredit p) 1 (low true s)
    else
      let r := farmResultOf s p q
      let t := low false (if free then s else charge p 4300 s)
      let t := modShare p (fun x => { x with store := x.store.erase q }) t
      ctrAdd (farmCounter p r.header) 1 (ctrAdd (pSnfJobs p) 1 { t with snf := { t.snf with job := some (p, r, false) } })

/-- FARM_SLOT_START (08_snapshot_farm R207–R210). -/
def execFarmSlotStart (_dets _solves : Unit) (s : State) : Result :=
  let (sec, i) := farmSlotNow s
  if s.snf.job.isSome ∨ s.snf.slot = some (sec, i) ∨ s.sky.run = false ∨ s.mode.life ≠ .run then .next s else
  let t := { s with snf := { s.snf with slot := some (sec, i) } }
  let o := cfgAt s snfShareOwner i
  if h : o < 8 then .next (farmSlot ⟨o, h⟩ sec t) else .next t

/-- A result enters its polder's queue, or one leaves through the spillway (08_snapshot_farm R212). -/
def queueResult (p : Polder) (r : FarmResult) (s : State) : State :=
  let sh := s.snf.share[p]
  let enter (l : List FarmResult) (lost : Bool) (t : State) : State :=
    let u := modShare p (fun x => { x with results := l ++ [{ r with lost := lost, header := r.header + putBits 18 1 (b2n lost) }], lostNext := false }) t
    if winBit s p 0xC604 2 then raisePend p 10 u else u
  if sh.results.length < cfgAt s snfShareResDepth p.val then enter sh.results sh.lostNext s
  else
    let t := ctrAdd (pSnfResultSpill p) 1 s
    match spillCandidate (·.cls) sh.results with
    | none => modShare p (fun x => { x with lostNext := true }) t
    | some c =>
      if c.cls < r.cls then modShare p (fun x => { x with lostNext := true }) t
      else enter (dropClass (·.cls) c.cls sh.results) true t

/-- The slot that began last has ended (08_snapshot_farm R207, R209). -/
def farmSlotOver (s : State) : Bool :=
  match s.snf.slot with
  | some (sec, i) => decide ((sec : Rat) + ((i + 1 : Nat) : Rat) / 128 ≤ stNow s)
  | none => true

/-- FARM_RESULT (08_snapshot_farm R209): at the slot's end. -/
def execFarmResult (s : State) : Result :=
  match s.snf.job with
  | none => .next s
  | some (p, r, discard) =>
    if farmSlotOver s = false then .next s else
    let t := { s with snf := { s.snf with job := none } }
    .next (if discard then t else queueResult p r t)

/-! ### Mailbox (08_snapshot_farm R213) -/

/-- POP of SNF.MB_CTRL. -/
def snfPop (p : Polder) (s : State) : State := modShare p (fun x => { x with results := x.results.drop 1 }) s

/-- The head result as bytes. -/
def farmBytes (r : FarmResult) : List Byte := leBytes 64 r.header ++ r.entries.flatMap (leBytes 8)

/-- A read of a mailbox byte that the device drives. -/
def farmRead (s : State) (p : Polder) (a : Nat) : Byte :=
  let sh := s.snf.share[p]
  if a < 0xC604 then
    roByte a [(0xC600, 0, 6, sh.results.length), (0xC601, 0, 8, sh.store.length), (0xC602, 0, 1, b2n (winBit s p 0xC604 1)), (0xC602, 1, 1, b2n sh.creditLow)]
  else if 0xC640 ≤ a then
    (match sh.results.head? with | some r => (farmBytes r).getD (a - 0xC640) 0 | none => 0)
  else 0

end Sys2Proof.Machine
end

