-- ==== Sys2Proof/Machine/Obs.lean ====
section
/-!
DEFINITION. The culvert (19_observation): anchors, the branch trace, the counter dump and the line.
-/

namespace Sys2Proof.Machine

/-- Change the culvert. -/
def modObs (f : ObsState → ObsState) (s : State) : State := { s with obs := f s.obs }

/-! ### Anchors (19_observation R465) -/

/-- Payload of an anchor: the tick, the ST that the mapping gives for it, MARK and DESIGN_REV. -/
def anchorPayload (s : State) : List Byte :=
  leBytes 8 s.sky.tick ++ leBytes 8 (stWord (stNow s)) ++ leBytes 6 s.boot.mark ++ leBytes 2 0x0B00

/-- Close an anchor packet for the present second. -/
def closeAnchor (s : State) : State :=
  if obsOn s = false then s else obsClose 8 1 (anchorPayload s) (modObs (fun o => { o with anchorS := some (stSec s) }) s)

/-- ANCHOR_PACKET (19_observation R465): once in each ST second. -/
def execAnchorPacket (s : State) : Result :=
  .next (if s.sky.run = false ∨ s.obs.anchorS = some (stSec s) then s else closeAnchor s)

/-! ### Branch trace (19_observation R467, R468) -/

/-- A polder's core is traced. -/
def traced (s : State) (p : Polder) : Bool :=
  obsOn s && cfgP s p obsKeyTraceEn == 1 && cfgAt s obsCfgPolKib p.val != 0 && !isDry s p

/-- Close a polder's open packet and store it, or drop it whole. -/
def closeTrace (p : Polder) (s : State) : State :=
  let o := s.obs.open_[p]
  if o.entries = [] ∨ obsOn s = false then s
  else
    obsClose ⟨p.val, by omega⟩ 3 (o.entries.flatMap fun e => leBytes 4 e.toNat)
      (modObs (fun x => { x with open_ := x.open_.set p { o with entries := [] } }) s)

/-- Write one entry (Table 19-2): kind, cycles since the previous entry, target. The packet closes at 64 entries. -/
def traceEntry (p : Polder) (kind delta target : Nat) (last : BitVec 32) (s : State) : State :=
  let o := s.obs.open_[p]
  let e : BitVec 32 := BitVec.ofNat 32 (packFields [(0, 3, kind), (3, 13, delta), (16, 16, target)])
  let x : OpenTrace := ⟨o.entries ++ [e], if o.entries = [] then s.sky.tick else o.tick, last⟩
  let t := modObs (fun b => { b with open_ := b.open_.set p x }) s
  if 64 ≤ x.entries.length then closeTrace p t else t

/-- An entry of kind 7 where more than 8,191 cycles have passed since the previous entry (19_observation R467). -/
def traceSync (p : Polder) (s : State) : State :=
  if traced s p = false then s else
  let last := s.obs.open_[p].lastCycles
  if 8191 < (s.pld[p].core.cycles - last).toNat then traceEntry p 7 8191 ((last + 8191).toNat % 65536) (last + 8191) s else s

/-- An entry of a kind at the present cycle of the core. -/
def traceMark (p : Polder) (kind target : Nat) (s : State) : State :=
  let t := traceSync p s
  if traced t p = false then t
  else
    let c := t.pld[p].core.cycles
    traceEntry p kind (c - t.obs.open_[p].lastCycles).toNat target c t

/-- The restart of a traced polder (19_observation Table 19-7): a kind 6 entry with the reset vector, and the packet closes at once. -/
def traceRestart (p : Polder) (target : Nat) (s : State) : State :=
  let t := closeTrace p (traceMark p 6 target s)
  modObs (fun x => { x with open_ := x.open_.set p { x.open_[p] with lastCycles := 0 } }) t

/-- TRACE_PACKET_CLOSE (19_observation R468): 100 µs after the first entry; at 64 entries the packet has closed with the entry. -/
def execTracePacketClose (p : Polder) (s : State) : Result :=
  let o := s.obs.open_[p]
  .next (if o.entries ≠ [] ∧ since s o.tick 49152 then closeTrace p s else s)

/-! ### Counter dump (19_observation R469, R470) -/

/-- A counter as it reads: BROWNOUTS and FAULT_RESETS are kept in the always-on domain, and FB_SPENT counts whole mJ (15_power Table 15-12,
16_clocks R410). -/
def ctrRead (s : State) (i : Nat) : Nat :=
  if i = cPmuBrownouts then s.aon.brownouts
  else if i = cClkFaultResets then s.aon.faultResets
  else match (List.finRange 8).find? fun p => pPmuFbSpent p == i with
    | some p => min (s.pmu.spent[p] / 1000) (2 ^ 32 - 1)
    | none => ctrGet s i

/-- Counter k of a polder exists (19_observation Table 19-4). -/
def polTaken (k : Nat) : Bool :=
  decide (k ≤ 14) || (decide (16 ≤ k) && decide (k ≤ 26)) || (decide (32 ≤ k) && decide (k ≤ 39)) || (decide (48 ≤ k) && decide (k ≤ 52)) ||
  (decide (64 ≤ k) && decide (k ≤ 69)) || k == 80 || k == 81 || (decide (96 ≤ k) && decide (k ≤ 102))

/-- A polder counter that is not released into the dump. -/
def withheld (s : State) (i : Nat) : Bool :=
  decide (512 ≤ i) && polTaken ((i - 512) % 192) &&
    (let p : Polder := ⟨(i - 512) / 192 % 8, Nat.mod_lt _ (by decide)⟩
     isDry s p || cfgP s p obsKeyCountEn != 1)

/-- A dump entry (Table 19-3). -/
def dumpEntry (s : State) (i : Nat) : Nat :=
  if withheld s i then packFields [(32, 11, i), (44, 1, 1)]
  else let v := ctrRead s i; packFields [(0, 32, v), (32, 11, i), (43, 1, if v = 2 ^ 32 - 1 then 1 else 0)]

/-- Payload of dump packet `j`, from the state whose counters are copied. -/
def dumpPayload (s : State) (j : Nat) : List Byte :=
  leBytes 8 (stWord (stNow s)) ++ (List.range 256).flatMap fun k => leBytes 8 (dumpEntry s (256 * j + k))

/-- COUNTER_DUMP (19_observation R469, Table 19-7): an anchor due in the same second closes first. -/
def execCounterDump (s0 : State) : Result :=
  let n := cfg s0 obsCfgDumpPeriod
  let sec := stSec s0
  if obsOn s0 = false ∨ s0.sky.run = false ∨ n = 0 ∨ sec % n ≠ 0 ∨ s0.obs.dumpS = some sec then .next s0
  else
    let s := if s0.obs.anchorS = some sec then s0 else closeAnchor s0
    let t := (List.range 8).foldl (fun u j => obsClose 8 4 (dumpPayload s j) u) s
    .next (ctrAdd cObsObsDumps 1 (modObs (fun o => { o with dumpS := some sec }) t))

/-! ### The line (19_observation R460, R461, R464) -/

/-- A packet as it goes on the line: sync, header, payload (that of a branch trace encrypted and followed by its tag), CRC. -/
def packetBytes (s : State) (src : Fin 9) (k : TracePacket) : List Byte :=
  let extra := if k.type = 3 then 16 else 0
  let head := leBytes 12 (packFields
    [(0, 4, k.type), (4, 4, src.val), (8, 12, k.payload.length + extra), (20, 8, k.drops), (32, 32, k.tick), (64, 32, k.seq)])
  let body := if k.type = 3 then
      let key := leBytes 32 (fldVal s src.val obsKeyKey 0).toNat
      let nonce := leBytes 1 (0x80 + src.val) ++ leBytes 6 s.boot.mark ++ leBytes 4 k.seq ++ [0]
      let c := gcmText key nonce k.payload
      c ++ gcmTag key nonce head c
    else k.payload
  [0xC7, 0x5B] ++ head ++ body ++ leBytes 2 (crc16 (head ++ body))

/-- Source that a place in the rotation serves: the common share, then polders 0–7. -/
def turnSrc (n : Nat) : Fin 9 := if n % 9 = 0 then 8 else ⟨(n % 9 - 1) % 9, Nat.mod_lt _ (by decide)⟩

/-- The next place at or after `n` whose share holds a packet, searched over `fuel` places. -/
def nextTurn (s : State) : Nat → Nat → Option Nat
  | 0, _ => none
  | f + 1, n => if s.obs.share[turnSrc n].packets = [] then nextTurn s f (n + 1) else some (n % 9)

/-- Ticks that `n` bytes take on the line: one OBS_CK period each, at SYSCLK ÷ 2^OBS_DIV of 196.608 MHz, two fifths of KCLK
(19_observation R460). -/
def lineTicks (s : State) (n : Nat) : Nat := ceilDiv (5 * n * 2 ^ cfg s obsCfgObsDiv) 2

/-- Byte on the line: that of the packet under way, or 0x00 between packets (19_observation R460, R461). -/
def lineByte (s : State) : Byte :=
  if s.obs.lineEnd ≤ s.sky.tick then 0
  else
    let left := (s.obs.lineEnd - s.sky.tick) * 2 / (5 * 2 ^ cfg s obsCfgObsDiv)
    (s.obs.line[s.obs.line.length - 1 - min left (s.obs.line.length - 1)]?).getD 0

/-- OBS_D3–OBS_D0 at the rising edge of OBS_CK (`rising`) and at its falling edge; low while OBS is off (19_observation R460). -/
def linePins (s : State) (rising : Bool) : Nat :=
  if obsOn s = false then 0 else if rising then (lineByte s).toNat / 16 else (lineByte s).toNat % 16

/-- PACKET_SEND (19_observation R460, R464): the oldest packet of the next share that holds one goes on the line, once the packet before it has left. -/
def execPacketSend (s : State) : Result :=
  if obsOn s = false ∨ s.sky.tick < s.obs.lineEnd then .next s else
  match nextTurn s 9 s.obs.turn with
  | none => .next s
  | some n =>
    let src := turnSrc n
    let sh := s.obs.share[src]
    match sh.packets with
    | [] => .next s
    | k :: r =>
      let line := packetBytes s src k
      .next (ctrAdd cObsObsPackets 1 (modObs (fun o => { o with
        share := o.share.set src { sh with packets := r }, turn := (n + 1) % 9, line, lineSrc := some src, lineEnd := s.sky.tick + lineTicks s line.length }) s))

end Sys2Proof.Machine
end

