-- ==== Sys2Proof/Machine/Host.lean ====
section
/-!
DEFINITION. The host port (18_host_ports): receive queue and inbound frames, output queues and the output cycle, the I²C target, and
a polder's submissions.
-/

namespace Sys2Proof.Machine

/-- Change the host port. -/
def modHst (f : HostState → HostState) (s : State) : State := { s with hst := f s.hst }

/-! ### Characters (18_host_ports R435–R440) -/

/-- Bits of a character on the line, in half bits. -/
def charHalfBits (s : State) : Nat :=
  2 * (1 + cfg s hstCfgDataBits + (if cfg s hstCfgParity = 0 then 0 else 1)) + (if cfg s hstCfgStop = 0 then 2 else if cfg s hstCfgStop = 1 then 3 else 4)

/-- Duration of a character in seconds. -/
def charTime (s : State) : Rat := (charHalfBits s : Rat) / (2 * s.hst.rate)

/-- Duration of a character in ticks, rounded down. -/
def charTicks (s : State) : Nat := (charTime s * 491520000).floor.toNat

/-- Autobaud governs the port (18_host_ports R437, R438). -/
def autobaud (s : State) : Bool := cfgB s hstCfgAutobaud && !cfgB s hstCfgSyncMode

/-- A wake has found CLK off, and LKC has not declared lock yet: HST runs from the reference (15_power R383). -/
def hostOnRef (s : State) : Bool := s.pmu.wokenClk && !s.mode.fallback && !s.clk.lock[2]

/-- HU_RTS_N follows the receive queue (18_host_ports R439); on the reference it is high (15_power R383). -/
def updateRts (s : State) : State :=
  let n := s.hst.rx.length
  modHst (fun h => { h with rtsHigh := if hostOnRef s then true else if cfgB s hstCfgFlowEn = false then false else if 384 ≤ n then true else if n ≤ 256 then false else h.rtsHigh }) s

/-- Autobaud measures anew: after boot, a wake and every break (18_host_ports R437). -/
def baudRestart (s : State) : State := if autobaud s then modHst (fun h => { h with baudOk := false }) s else s

/-- The inbound unit in progress ends as bad (18_host_ports R450). -/
def dropUnit (s : State) : State :=
  if 2 ≤ s.hst.unit.length then bump cHstInBadchar (modHst (fun h => { h with unit := [] }) s) else modHst (fun h => { h with unit := [] }) s

/-- The rate that autobaud measures from the falling edges of a character, in periods of SYSCLK: the start bit's and the four behind it (18_host_ports R437). The bit
time is one eighth of the span; each interval lies within 5 % of a quarter of it, and the rate between MIN_BAUD and 12 Mbaud. -/
def measuredRate (s : State) (falls : List Nat) : Option Rat :=
  match falls with
  | [a, b, c, d, e] =>
    let span : Rat := (e : Rat) - a
    let rate := 8 * 196608000 / span
    let ok (x y : Nat) : Bool := decide (absQ (((y : Rat) - x) - span / 4) ≤ 5 / 100 * (span / 4))
    if 0 < span ∧ ok a b ∧ ok b c ∧ ok c d ∧ ok d e ∧ (cfg s hstCfgMinBaud : Rat) ≤ rate ∧ rate ≤ 12000000 then some rate else none
  | _ => none

/-- UART_CHAR_RECEIVE (18_host_ports R437, R440). While autobaud waits, a character is a measurement, accepted or refused, and is not queued. While HST runs from the
reference every character but a break is discarded (15_power R383). -/
def execUartCharReceive (data : LineChar) (pe fe brk noise : Bool) (s0 : State) : Result :=
  if s0.mode.life ≠ .run ∨ domOn s0 .hst = false ∨ (hostOnRef s0 ∧ brk = false) then .next s0 else
  let s := modHst (fun h => { h with lastTraffic := s0.sky.tick }) s0
  let v := if cfg s hstCfgDataBits = 9 then data.data.toNat else data.data.toNat % 256
  if autobaud s ∧ s.hst.baudOk = false ∧ brk = false then
    .next (match measuredRate s data.falls with
      | some r => modHst (fun h => { h with baudOk := true, rate := r }) s
      | none => bump cHstAutobaudRejects s)
  else
    let t := if brk then baudRestart s else s
    if 512 ≤ t.hst.rx.length then .next (modHst (fun h => { h with rxOvr := true }) t)
    else
      let e := packFields [(0, 9, v), (9, 1, b2n pe), (10, 1, b2n fe), (11, 1, b2n brk), (12, 1, b2n (noise && !cfgB s hstCfgSyncMode)), (13, 1, b2n t.hst.rxOvr)]
      .next (updateRts (modHst (fun h => { h with rx := h.rx ++ [⟨BitVec.ofNat 16 e, t.sky.tick - charTicks t⟩], rxOvr := false }) t))

/-- HU_CTS_N_FALL (18_host_ports R439): the pin is low again and the cycle that it held back goes on. -/
def execHuCtsNFall (s : State) : Result := .next (modHst (fun h => { h with ctsHigh := false }) s)

/-! ### Inbound units (18_host_ports R441, R442, R450) -/

/-- Data bits of a character. -/
def RxChar.byte (c : RxChar) : Byte := c.entry.setWidth 8

/-- PE, FE, BRK or OVR. -/
def RxChar.bad (c : RxChar) : Bool := c.entry.toNat / 512 % 2 == 1 || c.entry.toNat / 1024 % 2 == 1 || c.entry.toNat / 2048 % 2 == 1 || c.entry.toNat / 8192 % 2 == 1

/-- NOISE. -/
def RxChar.noise (c : RxChar) : Bool := c.entry.toNat / 4096 % 2 == 1

/-- A polder's session key (18_host_ports Table 18-12). -/
def hostKey (s : State) (p : Polder) : List Byte := leBytes (if cfgP s p hstKeyKey256 = 1 then 32 else 16) (fldVal s p.val hstKeyKey 0).toNat

/-- Nonce of a record: direction 0 out, 1 in (18_host_ports R442). -/
def hostNonce (s : State) (dir : Nat) (p : Polder) (counter : Nat) : List Byte :=
  leBytes 1 (16 * dir + p.val) ++ leBytes 6 s.boot.mark ++ leBytes 4 counter ++ [0]

/-- A unit header (18_host_ports Table 18-2). -/
def unitHeader (polder cls frag len seq : Nat) : List Byte :=
  leBytes 4 (packFields [(0, 4, polder), (4, 2, cls), (6, 2, frag), (8, 12, len), (20, 12, seq)])

/-- Bytes that a polder's waiting frames occupy. -/
def inBytes (s : State) (p : Polder) : Nat := (s.hst.pol[p].inq.map fun f => f.data.length).sum

/-- An inbound frame may enter a polder's share (18_host_ports R450, Table 18-8). -/
def inRoom (s : State) (p : Polder) (len : Nat) : Bool :=
  !isDry s p && s.pld[p].core.phase != .restarting && decide (inBytes s p + (len - 16) ≤ 1024 * cfgAt s hstSlotsInq p.val)

/-- The counter that a SEQ stands for: none where it does not lie within 1–256 ahead (18_host_ports R450). -/
def inCounterOf (last : Option Nat) (seq : Nat) : Option Nat :=
  match last with
  | none => some seq
  | some n => let d := (seq + 4096 - n % 4096) % 4096; if 1 ≤ d ∧ d ≤ 256 then some ((n + d) % 2 ^ 32) else none

/-- A polder frame whose unit is whole: room, SEQ and tag, in that order (18_host_ports R450). -/
def polderFrame (p : Polder) (cls seq : Nat) (slice : List Byte) (tick : Nat) (s : State) : State :=
  if inRoom s p slice.length = false then ctrAdd (pHstInSpill p) 1 s
  else match inCounterOf s.hst.pol[p].inCounter seq with
    | none => ctrAdd (pHstInReplay p) 1 s
    | some n =>
      let len := slice.length - 16
      let text := slice.take len
      let nonce := hostNonce s 1 p n
      if slice.length < 16 ∨ (blockOf s p.val 0x1818).isNone ∨
          gcmTag (hostKey s p) nonce (unitHeader p.val cls 0 len seq) text ≠ slice.drop len then ctrAdd (pHstInAuth p) 1 s
      else
        let f : InFrame := ⟨cls, stWord (stAt s tick), gcmText (hostKey s p) nonce text⟩
        let t := modH p (fun h => { h with inq := h.inq ++ [f], inCounter := some n }) s
        if winBit s p 0xD7F1 1 then raisePend p 6 t else t

/-- A basin frame whose unit is whole: held in INQ_B until it is handled (18_host_ports R451). -/
def basinFrame (slice : List Byte) (tick : Nat) (s : State) : State :=
  if cfg s hstSlotsInqB * 1024 < (s.hst.inqB.map fun f => f.1.length).sum + slice.length then bump cHstInSpillB s
  else match slice with
    | [] => bump cHstInFormat s
    | t :: _ => if 1 ≤ t.toNat ∧ t.toNat ≤ 4 then modHst (fun h => { h with inqB := h.inqB ++ [(slice, stAt s tick)] }) s else bump cHstInFormat s

/-- Bit 8 of a unit's characters in 9-bit mode: 1 on the first, 0 on the others (18_host_ports R435). -/
def bit8Ok (s : State) : List RxChar → Bool
  | [] => true
  | c :: r => cfg s hstCfgDataBits != 9 || (c.entry.getLsbD 8 && r.all fun x => !x.entry.getLsbD 8)

/-- Check a unit whose last character has come, and queue or drop its frame (18_host_ports R450). -/
def finishUnit (s : State) : State :=
  let u := s.hst.unit
  let b := u.map RxChar.byte
  let h := leNat ((b.drop 2).take 4)
  let pol := getBits h 0 4
  let cls := getBits h 4 2
  let len := getBits h 8 12
  let seq := getBits h 20 12
  let slice := (b.drop 6).take len
  let tick := match u with | c :: _ => c.tick | [] => 0
  let t := modHst (fun x => { x with unit := [] }) s
  if 8 < pol ∨ getBits h 6 2 ≠ 0 ∨ (pol < 8 ∧ 496 < len) ∨ bit8Ok s u = false then bump cHstInFormat t
  else if crc16 ((b.drop 2).take (4 + len)) ≠ leNat (b.drop (6 + len)) then bump cHstInCrc t
  else if hp : pol < 8 then polderFrame ⟨pol, hp⟩ cls seq slice tick t
  else basinFrame slice tick t

/-- Characters of a unit whose header stands. -/
def unitLength (u : List RxChar) : Nat := 8 + getBits (leNat (((u.map RxChar.byte).drop 2).take 4)) 8 12

/-- Hunt for the sync bytes 0xC1 0xE6. -/
def hunt (u : List RxChar) (c : RxChar) : List RxChar :=
  if c.bad then []
  else match u with
    | [] => if c.byte = 0xC1 then [c] else []
    | _ => if c.byte = 0xE6 then u ++ [c] else if c.byte = 0xC1 then [c] else []

/-- The parser takes one character (18_host_ports R450): a gap of more than 64 character times or a bad character inside a unit drops it. -/
def feedChar (s : State) (c : RxChar) : State :=
  let u := s.hst.unit
  let gap : Bool := match u.getLast? with | some d => decide (d.tick + 64 * charTicks s < c.tick) | none => false
  if u.length < 2 then
    let v := hunt (if gap then [] else u) c
    bumpIf (c.noise && v != []) cHstInNoise (modHst (fun h => { h with unit := v }) s)
  else if c.bad then dropUnit s
  else if gap then let t := dropUnit s; modHst (fun h => { h with unit := hunt [] c }) t
  else
    let t := bumpIf c.noise cHstInNoise (modHst (fun h => { h with unit := u ++ [c] }) s)
    let v := u ++ [c]
    if 6 ≤ v.length ∧ v.length = unitLength v then finishUnit t else t

/-- The parser takes every character that waits. -/
def parseQueue (s : State) : State := updateRts (s.hst.rx.foldl feedChar (modHst (fun h => { h with rx := [] }) s))

/-- INBOUND_UNIT (18_host_ports R450). -/
def execInboundUnit (s : State) : Result := .next (if s.mode.life = .run ∧ domOn s .hst then parseQueue s else s)

/-- INBOUND_GAP_TIMEOUT (18_host_ports R450): no character for more than 64 character times inside a unit. -/
def execInboundGapTimeout (s : State) : Result :=
  if s.mode.life ≠ .run ∨ domOn s .hst = false then .next s
  else
    let t := parseQueue s
    .next (match t.hst.unit.getLast? with | some c => if c.tick + 64 * charTicks t < t.sky.tick then dropUnit t else t | none => t)

/-! ### Basin frames (18_host_ports R451) -/

/-- The basin frame handled next, when it is of a type; the state without it. -/
def takeBasinFrame (s : State) (type : Nat) : Option (List Byte × Rat × State) :=
  match s.hst.inqB with
  | (b, q) :: r => if b.head? = some (BitVec.ofNat 8 type) then some (b.drop 1, q, modHst (fun h => { h with inqB := r }) s) else none
  | [] => none

/-- CORRECTION_FRAME (18_host_ports R451, 07_solver R172). -/
def execCorrectionFrame (s : State) : Result :=
  match takeBasinFrame s 1 with
  | some (b, _, t) => .next (envelopeArrive b t)
  | none => .next s

/-- TIME_ASSISTANCE (18_host_ports R451, 09_sky_time R221): the frame's first start bit is the instant named. -/
def execTimeAssistance (s : State) : Result :=
  match takeBasinFrame s 2 with
  | none => .next s
  | some (b, q, t) =>
    if b.length ≠ 12 then .next (bump cHstInFormat t)
    else if t.mode.aligned then .next (bump cHstInLateTime t)
    else if cfgB t hstCfgAssistEn = false then .next t
    else .next (offerSeed (stOfWord (leAt b 0 8) - q) (1000 * (leAt b 8 4 : Rat)) t)

/-- The check units of a navigation record from the host, recomputed (18_host_ports R451, 06_measurements Table 06-4, R147): its bits are decoded and of true polarity, so that
the word before an LNAV subframe ends in two zeros. -/
def recheck (sig len : Nat) (payload : List Byte) : Bool :=
  let bits := (payload.flatMap byteBits).take len
  let r := (checkBits sig (if sig = 0 ∨ sig = 15 then false :: false :: bits else bits)).2
  decide (bits.length = len) && decide (r ≠ []) && r.all resultOk

/-- What a record from the host brings into the store as assistance (07_solver R162): an issue that broadcast has not brought already, an almanac where none is held. -/
def assistUnit (v : SatId) (c : NavContent) (s : State) : State :=
  let s1 := match c.issue with
    | some (i, a, b, l) => modEph v (fun x => { x with assist := if x.issues.any (fun y => y.iod == i) then x.assist else some ⟨i, a, b, l⟩ }) s
    | none => s
  c.almanac.foldl (fun u a => modEph a.1 (fun e => { e with almanac := e.almanac.or (some a.2) }) u) s1

/-- NAV_ASSISTANCE (18_host_ports R451): units that pass the recomputed checks enter the store as assistance, not yet confirmed (07_solver R162). The operand is what the
frame's bits say under the interface document of their signal. -/
def execNavAssistance (content : NavContent) (s : State) : Result :=
  match takeBasinFrame s 3 with
  | none => .next s
  | some (b, _, t) =>
    let h := leNat (b.take 16)
    if b.length < 16 then .next (bump cHstInFormat t)
    else if cfgB t hstCfgAssistEn = false ∨ symbolsOnly (getBits h 64 5) ∨ recheck (getBits h 64 5) (getBits h 118 10) (b.drop 16) = false then .next t
    else .next (assistUnit ⟨(sigInfo (getBits h 64 5)).const, getBits h 69 6⟩ content t)

/-- POSITION_ASSISTANCE (18_host_ports R451): until the first valid PVT of the boot. -/
def execPositionAssistance (s : State) : Result :=
  match takeBasinFrame s 4 with
  | none => .next s
  | some (b, _, t) =>
    if b.length ≠ 16 then .next (bump cHstInFormat t)
    else if cfgB t hstCfgAssistEn = false ∨ t.sol.lastPos.isSome then .next t
    else
      let pos : Position := ⟨100 * sext 32 (leAt b 0 4), 100 * sext 32 (leAt b 4 4), 1000 * sext 32 (leAt b 8 4)⟩
      .next { t with acq := { t.acq with pos := some (pos, (sext 32 (leAt b 12 4)).toNat) } }

/-! ### The output cycle (18_host_ports R441, R444–R447) -/

/-- SLOT of a slot of the cycle: 0 basin, k polder k − 1. -/
def slotBytes (s : State) (k : Nat) : Nat := if k = 0 then cfg s hstSlotsSlotB else cfgAt s hstSlotsSlot (k - 1)

/-- Byte offset of a slot in the cycle. -/
def slotOffset (s : State) (k : Nat) : Nat := ((List.range k).map (slotBytes s)).sum

/-- Cutoff of a slot (18_host_ports R446). -/
def slotCutoff (s : State) (k : Nat) : Rat :=
  if k = 0 then s.hst.cycleAt - 1 / 196608000 else s.hst.cycleAt + ((slotOffset s k : Rat) - 60) * charTime s

/-- The queue of a slot. -/
def slotQueue (s : State) (k : Nat) : OutQueue := if h : 1 ≤ k ∧ k ≤ 8 then (s.hst.pol[(⟨k - 1, by omega⟩ : Polder)]).out else s.hst.outB

/-- Body of a record as it goes on the line: a polder's is encrypted and followed by its tag (18_host_ports R441, R442). -/
def recBody (s : State) (k : Nat) (r : OutRec) : List Byte :=
  if h : 1 ≤ k ∧ k ≤ 8 then
    let p : Polder := ⟨k - 1, by omega⟩
    let nonce := hostNonce s 0 p r.counter
    let c := gcmText (hostKey s p) nonce r.payload
    c ++ gcmTag (hostKey s p) nonce (unitHeader p.val r.cls 0 r.payload.length (r.counter % 4096)) c
  else r.payload

/-- Length of a record's body in a slot's queue. -/
def recLen (k : Nat) (r : OutRec) : Nat := bodyLen (if k = 0 then 0 else 16) r

/-- A unit on the line: sync, header, slice, CRC (18_host_ports R441). -/
def unitBytes (polder cls frag seq : Nat) (slice : List Byte) : List Byte :=
  let h := unitHeader polder cls frag slice.length seq
  [0xC1, 0xE6] ++ h ++ slice ++ leBytes 2 (crc16 (h ++ slice))

/-- POLDER of a slot's units. -/
def slotPolder (k : Nat) : Nat := if k = 0 then 8 else k - 1

/-- A slot being filled: its bytes so far and the records left in its queue. -/
structure Filling where
  /-- Bytes placed. -/
  bytes : List Byte
  /-- Records left, oldest first. -/
  recs : List OutRec

/-- Place the next unit of a record: what is left of its body, or as much as the slot takes. -/
def placeUnit (s : State) (k size : Nat) (r : OutRec) (f : Filling) : Filling :=
  let body := recBody s k r
  let room := size - f.bytes.length - 8
  let rest := body.length - r.sent
  let n := min rest room
  let frag := if r.sent = 0 ∧ n = body.length then 0 else if r.sent = 0 then 1 else if n = rest then 3 else 2
  let u := unitBytes (slotPolder k) r.cls frag (r.counter % 4096) ((body.drop r.sent).take n)
  let recs := if n = rest then f.recs.filter (fun x => !(x.counter == r.counter && x.summary == r.summary))
    else f.recs.map fun x => if x.counter == r.counter && x.summary == r.summary then { x with sent := x.sent + n, onLine := true } else x
  ⟨f.bytes ++ u, recs⟩

/-- Send the records of a class, oldest first, up to the first that does not fit. One that is too long for the slot begins at the slot's
start, and only when no other is being fragmented (18_host_ports R446). -/
def placeClass (s : State) (k size : Nat) (cut : Rat) (c : Nat) : List OutRec → Filling → Filling
  | [], f => f
  | r :: l, f =>
    if r.cls ≠ c ∨ 0 < r.sent then placeClass s k size cut c l f
    else if cut ≤ r.st then f
    else if f.bytes.length + recLen k r + 8 ≤ size then placeClass s k size cut c l (placeUnit s k size r f)
    else if size < recLen k r + 8 ∧ f.bytes = [] ∧ (f.recs.all fun x => x.sent == 0) then placeUnit s k size r f
    else f

/-- The next unit of the record being fragmented. -/
def placeFragment (s : State) (k size : Nat) (f : Filling) : Filling :=
  match f.recs.find? fun r => decide (0 < r.sent) with
  | some r => if f.bytes.length + 8 < size then placeUnit s k size r f else f
  | none => f

/-- The rest of a slot: a fill unit, or bytes of 0x00 where fewer than 8 are left. -/
def padSlot (size : Nat) (b : List Byte) : List Byte :=
  let n := size - b.length
  if n < 8 then b ++ List.replicate n 0 else b ++ unitBytes 15 0 0 0 (List.replicate (n - 8) 0)

/-- Bytes of a slot at its cutoff, and its queue's records afterwards (18_host_ports R446); in LAYUP the basin's records alone (01_architecture Table 01-5). -/
def fillSlot (s : State) (k : Nat) : List Byte × List OutRec :=
  let size := slotBytes s k
  let q := slotQueue s k
  if size = 0 then ([], q.recs)
  else if s.mode.mode = .layup ∧ k ≠ 0 then (padSlot size [], q.recs) else
  let cut := slotCutoff s k
  let f0 : Filling := ⟨[], q.recs⟩
  let f1 := placeClass s k size cut 0 f0.recs f0
  let f2 := placeFragment s k size f1
  let f3 := placeClass s k size cut 1 f2.recs f2
  let f4 := placeClass s k size cut 2 f3.recs f3
  (padSlot size f4.bytes, f4.recs)

/-- Put records into the queue of a slot; a summary that has left takes its folds along. -/
def setSlotRecs (k : Nat) (l : List OutRec) (s : State) : State :=
  let f : OutQueue → OutQueue := fun q => { q with recs := l, folds := if l.any (fun r => r.summary) then q.folds else none }
  if h : 1 ≤ k ∧ k ≤ 8 then modH ⟨k - 1, by omega⟩ (fun x => { x with out := f x.out }) s else modHst (fun x => { x with outB := f x.outB }) s

/-- Fill one slot. -/
def fillOne (s : State) : State :=
  let k := s.hst.slot
  let (b, l) := fillSlot s k
  let t := setSlotRecs k l s
  modHst (fun h => { h with line := h.line ++ b, slot := k + 1, sentChars := h.sentChars + b.length }) t

/-- Fill every slot whose cutoff has come: `n` of them at most. -/
def fillDue : Nat → State → State
  | 0, s => s
  | n + 1, s => if s.hst.slot < 9 ∧ slotCutoff s s.hst.slot ≤ stNow s then fillDue n (fillOne s) else s

/-- Fill what is left of a cycle. -/
def fillRest : Nat → State → State
  | 0, s => s
  | n + 1, s => if s.hst.slot < 9 then fillRest n (fillOne s) else s

/-- HOST_CYCLE (18_host_ports R445): at an ST millisecond; `held` says that the cycle before has not fully left the line, held back by HU_CTS_N or by a stopped HU_SCK
(R438, R439): nothing else can hold it (R458). On the reference nothing is sent (15_power R383). -/
def execHostCycle (held : Bool) (s0 : State) : Result :=
  let ms := stMs s0
  let busy := held && (cfgB s0 hstCfgFlowEn || cfgB s0 hstCfgSyncMode)
  if s0.mode.life ≠ .run ∨ s0.sky.run = false ∨ domOn s0 .hst = false ∨ hostOnRef s0 ∨ s0.hst.lastMs = some ms then .next s0 else
  let s := modHst (fun h => { h with lastMs := some ms, ctsHigh := busy && cfgB s0 hstCfgFlowEn }) s0
  if busy ∨ (autobaud s ∧ s.hst.baudOk = false) then .next (bump cHstCyclesSkipped s)
  else
    let t := fillRest 9 s
    .next (fillDue 9 (modHst (fun h => { h with slot := 0, line := [], cycleAt := (ms : Rat) / 1000 }) t))

/-- BOOT_RECORD (18_host_ports R444): after entry to COLD, then at every ST second that is a multiple of 60. -/
def execBootRecord (s : State) : Result :=
  let sec := stSec s
  if s.mode.life ≠ .run ∨ domOn s .hst = false ∨ s.hst.bootRec = some sec ∨ (s.hst.bootRec.isSome ∧ sec % 60 ≠ 0) then .next s
  else .next (recB 1 0x1201 (leBytes 2 0x0B00 ++ leBytes 4 s.boot.version ++ leBytes 6 s.boot.mark ++ leBytes 4 sec) (modHst (fun h => { h with bootRec := some sec }) s))

/-- A character on the line, bit by bit, with its stop bits in half bits behind it (18_host_ports R435): a start bit, the data bits with the least significant first,
the parity bit. -/
def charBits (s : State) (v : Nat) : List Bool × Nat :=
  let n := cfg s hstCfgDataBits
  let data := (List.range n).map fun i => v.testBit i
  let odd := (data.filter (·)).length % 2 == 1
  let parity := match cfg s hstCfgParity with | 0 => [] | 1 => [odd] | 2 => [!odd] | 3 => [true] | _ => [false]
  (false :: data ++ parity, if cfg s hstCfgStop = 0 then 2 else if cfg s hstCfgStop = 1 then 3 else 4)

/-- The characters of a slot's bytes: with 9 data bits, bit 8 is 1 on the first sync byte of a unit alone (18_host_ports R435). -/
def lineChars (s : State) (bytes : List Byte) : List (List Bool × Nat) :=
  (bytes.zip (bytes.drop 1 ++ [0])).map fun x =>
    charBits s (x.1.toNat + if cfg s hstCfgDataBits = 9 ∧ x.1 = 0xC1 ∧ x.2 = 0xE6 then 256 else 0)

/-! ### A polder's queues (18_host_ports R447–R449) -/

/-- Occupancy of an output queue in %: the bodies of Class 1 and Class 2 and the reserve's entries of 256 bytes. -/
def queueFill (tag kib : Nat) (q : OutQueue) : Nat :=
  let n := queueBytes tag q + 256 * (q.recs.filter fun r => r.cls == 0 && !r.summary).length
  if kib = 0 then 0 else min 100 (n * 100 / (kib * 1024))

/-- OUT_FILL of a polder. -/
def outFill (s : State) (p : Polder) : Nat := queueFill 16 (cfgAt s hstSlotsOutq p.val) s.hst.pol[p].out

/-- OUT_CMD 1 (18_host_ports R449). -/
def outSubmit (p : Polder) (s : State) : State :=
  let len := winNat s p 0xD5E0 2
  let cls := winNat s p 0xD5E2 1
  let res (v : Nat) (t : State) : State := modH p (fun h => { h with outResult := v }) t
  if 3 ≤ cls ∨ 480 < len ∨ (cls = 0 ∧ 240 < len) then res 1 s
  else if cfgAt s hstSlotsSlot p.val = 0 then res 2 s
  else
    let (v, t) := recP p cls 0 (winBytes s p 0xD400 len) s
    res v t

/-- IN_POP. -/
def inPop (p : Polder) (s : State) : State := modH p (fun h => { h with inq := h.inq.drop 1 }) s

/-- A read of a byte of the host-queue window that the device drives (18_host_ports Table 18-3). -/
def hostRead (s : State) (p : Polder) (a : Nat) : Byte :=
  let h := s.hst.pol[p]
  if a < 0xD600 then roByte a [(0xD5E4, 0, 3, h.outResult), (0xD5E5, 0, 7, outFill s p)]
  else if a = 0xD7F0 then BitVec.ofNat 8 (min 31 h.inq.length)
  else match h.inq with
    | [] => 0
    | f :: _ =>
      if 0xD610 ≤ a then f.data.getD (a - 0xD610) 0
      else roByte a [(0xD600, 0, 9, f.data.length), (0xD602, 0, 2, f.cls), (0xD608, 0, 64, f.st)]

/-- Discard a polder's queues, all but a record with a unit on the line (18_host_ports R448). -/
def hostDiscard (p : Polder) (s : State) : State :=
  modH p (fun h =>
    let l := h.out.recs.filter (·.onLine)
    { h with out := { h.out with recs := l, folds := none }, inq := [] }) s

/-! ### The I²C target (18_host_ports R453) -/

/-- The status block (18_host_ports Table 18-6). -/
def i2cStatus (s : State) : List Byte :=
  let waits := s.hst.outB.recs.any (·.cls == 0) || s.hst.pol.toList.any fun h => h.out.recs.any (·.cls == 0)
  leBytes 2 0x0B00 ++ leBytes 1 (modeCode s.mode.mode + 16 * b2n s.mode.aligned) ++ leBytes 1 (b2n waits + 2 * b2n s.hst.i2cWasOn) ++
    leBytes 6 s.boot.mark ++ leBytes 1 (queueFill 0 (cfg s hstSlotsOutqB) s.hst.outB) ++ ((List.finRange 8).flatMap fun p => leBytes 1 (outFill s p)) ++
    List.replicate 5 0

/-- HI_SCL is held low: an address has matched and HST is not ready (15_power R382). -/
def sclHeld (s : State) : Bool := s.hst.i2cBlock.isSome && !domOn s .hst

/-- I2C_WRITE (18_host_ports R453): the first data byte sets the pointer, which a STOP behind it puts back to 0; no other byte is acknowledged. -/
def execI2cWrite (bytes : I2cTransfer) (s : State) : Result :=
  match bytes.bytes with
  | [] => .next s
  | b :: _ => .next (if s.hst.i2cBlock.isSome ∧ sclHeld s = false then
      modHst (fun h => { h with i2cPtr := if bytes.stop then 0 else b.toNat % 24, lastTraffic := s.sky.tick }) s else s)

/-- I2C_READ (18_host_ports R453): `n` bytes of the captured block from the pointer onward; the STOP sets the pointer to 0. -/
def execI2cRead (n : Nat) (s : State) : Result :=
  match s.hst.i2cBlock with
  | none => .next s
  | some b =>
    if sclHeld s then .next s else
    .next (modHst (fun h => { h with
      i2cOut := (List.range n).map (fun i => b.getD ((h.i2cPtr + i) % 24) 0), i2cPtr := 0, i2cBlock := none, lastTraffic := s.sky.tick }) s)

end Sys2Proof.Machine
end

