-- ==== Sys2Proof/Machine/Polder.lean ====
section
/-!
DEFINITION. Polders (12_polders): breaches, restart and going dry, the crypto engine, the basin latch and BASIN.SENSE, sluices, and the
guarantee void.
-/

namespace Sys2Proof.Machine

/-- A byte of a polder's RAM; an unlisted byte is 0x00 (log entry 4). -/
def ramByte (s : State) (p : Polder) (a : Nat) : Byte := sget (fun _ => 0) s.pld[p].ram a

/-- Write a byte of a polder's RAM. -/
def ramPut (p : Polder) (a : Nat) (v : Byte) (s : State) : State := modP p (fun q => { q with ram := sset (fun _ => 0) q.ram a v }) s

/-- A 16-bit value in a polder's RAM, low byte first; an access at 0xFFFF takes its high byte from 0x0000 (13_ohmore_model R333). -/
def ramWord (s : State) (p : Polder) (a : Nat) : Word :=
  BitVec.ofNat 16 ((ramByte s p a).toNat + 256 * (ramByte s p ((a + 1) % 65536)).toNat)

/-- PROG_FIRST × 0x100: the first protected address (12_polders R318). -/
def progFirst (s : State) (p : Polder) : Nat := 256 * cfgP s p pldSegProgFirst

/-- An address lies in a protected program page. -/
def protectedAt (s : State) (p : Polder) (a : Nat) : Bool := (decide (progFirst s p ≤ a) && decide (a < 0xC000)) || decide (0xF000 ≤ a)

/-! ### Breaches (12_polders R315–R317) -/

/-- Record a breach: its kind and address. -/
def breach (p : Polder) (kind addr : Nat) (s : State) : State :=
  let ms := stMs s
  let t := modP p (fun q =>
    { q with
      breachCount := min 65535 (q.breachCount + 1), lastKind := kind, lastAddr := addr,
      msBreaches := if q.msBreaches.any (·.ms == ms) then q.msBreaches.map fun b => if b.ms = ms then { b with count := b.count + 1 } else b
        else q.msBreaches ++ [⟨ms, 1, kind, addr⟩],
      restartDue := q.restartDue || cfgP s p pldSegBreachAct == 2 }) s
  let u := bump cPldAllBreaches (ctrAdd (pPldBreaches p) 1 t)
  if cfgP s p pldSegBreachAct = 1 then raisePend p 14 u else u

/-- BREACH_RECORD (12_polders R316): one Class 0 record for a millisecond that has ended. -/
def execBreachRecord (p : Polder) (s : State) : Result :=
  match s.pld[p].msBreaches with
  | [] => .next s
  | b :: r =>
    if b.ms = stMs s then .next s
    else
      let t := modP p (fun q => { q with msBreaches := r }) s
      .next (recP p 0 2 (leBytes 2 (min 65535 b.count) ++ leBytes 1 b.kind ++ leBytes 2 b.addr) t).2

/-! ### Restart and going dry (12_polders R317, R325, 13_ohmore_model R346, R348) -/

/-- What a restart and going dry take from the engines: snapshots, results and receive records, downlinks, the scheduler quota, host
queues, sluice boxes, the crypto result (12_polders R317, 08_snapshot_farm Table 08-8, 09_sky_time R243, 18_host_ports R448). -/
def dropWork (p : Polder) (s : State) : State :=
  let sh := s.snf.share[p]
  let s1 := ctrAdd (pSnfResultSpill p) sh.results.length (ctrAdd (pSnfSnapOrphan p) sh.store.length
    (modShare p (fun x => { x with store := [], results := [], creditLow := false }) s))
  let s2 := { s1 with snf := { s1.snf with job := s1.snf.job.map fun (j : Polder × FarmResult × Bool) => if j.1 = p then (j.1, j.2.1, true) else j } }
  let s3 := (s2.lnk.ctx.map (·.1)).foldl (fun t k => if ctxOf t p k then ctxMod k (fun c => { c with queue := [] }) t else t)
    { s2 with lnk := { s2.lnk with rxq := s2.lnk.rxq.set p [], txResult := s2.lnk.txResult.set p 0, rosResult := s2.lnk.rosResult.set p 0 } }
  let s4 := modSched p (fun _ => {}) (schedFree p s3)
  let s5 := cardReset p (modH p (fun h => { h with outResult := 0 }) (hostDiscard p s4))
  modP p (fun q =>
    { q with
      crypto := ⟨0, 0, q.crypto.job.map fun j => { j with discarded := true }, []⟩,
      sluice := q.sluice.map fun x => { x with send := false, data := List.replicate 64 0, transit := none, full := false, lost := false },
      latch := none, msBreaches := [], restartDue := false, win := [] }) s5

/-- A polder's declaration is settled: its segment has been loaded, or it is dry (12_polders R322). -/
def settled (s : State) (p : Polder) : Bool := s.pld[p].key == .done || isDry s p

/-- The area of a polder that matches a declaration of `p`: the other direction, PEER p, the same ID and PERIOD (12_polders R322). -/
def partnerOf (s : State) (p : Polder) (d : SluiceDecl) : Option (Fin 8) :=
  if h : d.peer < 8 then
    let q : Polder := ⟨d.peer, h⟩
    (List.finRange 8).find? fun k => match s.pld[q].sluice[k].decl with
      | some e => e.dirIn != d.dirIn && e.peer == p.val && e.id == d.id && e.period == d.period
      | none => false
  else none

/-- Match every declaration anew. -/
def matchSluices (s : State) : State :=
  { s with
    pld := Vector.ofFn fun p => { s.pld[p] with
    sluice := s.pld[p].sluice.map fun x =>
    { x with decl := x.decl.map fun d => { d with partner := partnerOf s p d } } } }

/-- Declarations that turn out not to match when polder `p` settles: its own toward settled peers, and those of others toward it. -/
def mismatches (s : State) (p : Polder) : Nat :=
  ((List.finRange 8).map fun q => (s.pld[q].sluice.toList.filter fun x => match x.decl with
    | some d => d.partner.isNone && (if q = p then (if h : d.peer < 8 then settled s ⟨d.peer, h⟩ else true) else d.peer == p.val)
    | none => false).length).sum

/-- A polder's declarations are settled: match them and count those that do not match. -/
def settleSluices (p : Polder) (s : State) : State :=
  let t := matchSluices s
  (List.range (mismatches t p)).foldl (fun u _ => bump cPldSluiceMismatch u) t

/-- The polder goes dry for a cause (12_polders R325): one Class 1 record for the boot and the cause; its domain is off, nothing of it is kept,
and its contexts are EMPTY. -/
def goDry (p : Polder) (cause : Nat) (s : State) : State :=
  if s.pld[p].dryCauses.contains cause then s else
  let s1 := dropWork p s
  let s2 := modP p (fun q => { q with dryCauses := q.dryCauses ++ [cause], core := {}, ram := [], key := .done, segKey := none, restarted := false }) s1
  let s3 := { s2 with lnk := { s2.lnk with ctx := s2.lnk.ctx.filter fun x => !ctxOf s2 p x.1 } }
  let s4 := setDom (.pld p) .off s3
  let s5 := bumpIf (cause ≤ 8 && s.pld[p].dryCauses.isEmpty) cPldDryPolders s4
  let s6 := recB 1 0x0C01 (leBytes 1 p.val ++ leBytes 1 cause) s5
  if s.pld[p].key = .done then s6 else settleSluices p s6

/-- Restarts of the last 3,600 s. -/
def recentRestarts (s : State) (p : Polder) : List Rat := s.pld[p].restartTimes.filter fun q => decide (stNow s - q < 3600)

/-- A restart request (12_polders R317, 13_ohmore_model R346, R348): carried out, or the polder goes dry with cause 9. -/
def restart (p : Polder) (s : State) : State :=
  let recent := recentRestarts s p
  if cfgP s p pldSegRestartMax ≤ recent.length then goDry p 9 s
  else
    let s1 := traceRestart p (ramWord s p 0xFFFE).toNat (ctrAdd (pPldRestarts p) 1 s)
    let s2 := dropWork p s1
    modP p (fun q =>
      { q with
        core := { phase := .restarting }, ram := q.ram.filter fun c => decide (progFirst s p ≤ c.1),
        restartTimes := stNow s :: recent }) s2

/-- CORE_START (13_ohmore_model R346): after loading, or after a restart; the start state of Table 13-11. -/
def execCoreStart (p : Polder) (s : State) : Result :=
  let q := s.pld[p]
  if s.mode.life ≠ .run ∨ isDry s p ∨ q.key ≠ .done ∨ domOn s (.pld p) = false ∨ (q.core.phase ≠ .off ∧ q.core.phase ≠ .restarting) then .next s
  else
    let c : Core := { phase := .running, s := BitVec.ofNat 16 (progFirst s p), p := ramWord s p 0xFFFE }
    let t := modP p (fun x => { x with core := c, restarted := x.restarted || q.core.phase == .restarting }) s
    .next { t with pmu := { t.pmu with accrues := t.pmu.accrues.set p true } }

/-! ### The crypto engine (12_polders R312, R313) -/

/-- A polder's own slots. -/
def cryptoSlots (s : State) (p : Polder) : List Nat := (List.range 32).filter fun i => cryptoOwner s i == p.val

/-- Own slots that an operation takes (12_polders Table 12-3). -/
def cryptoCost (j : CryptoJob) : Nat :=
  if j.op = 1 ∨ j.op = 2 then 1 + ceilDiv (j.len + j.aadLen) 64
  else if j.op = 3 ∨ j.op = 4 then 1 + 2 * ceilDiv (j.len + j.aadLen) 64
  else if j.op = 5 then 1 + ceilDiv j.len 128 + (if j.final then 1 else 0)
  else if j.op = 6 then 32
  else ceilDiv j.len 32

/-- Lengths outside the range of Table 12-3. -/
def cryptoLenBad (op len aad tag : Nat) : Bool :=
  if op ≤ 4 then decide (256 < len) || decide (32 < aad) || tag == 3
  else if op = 5 then decide (256 < len)
  else if op = 7 then len == 0 || decide (256 < len)
  else false

/-- Change a polder's end of the engine. -/
def modCrypto (p : Polder) (f : CryptoUnit → CryptoUnit) (s : State) : State := modP p (fun q => { q with crypto := f q.crypto }) s

/-- Set CR_RESULT. -/
def setCrResult (p : Polder) (v : Nat) (s : State) : State := modCrypto p (fun u => { u with result := v }) s

/-- The write of byte 0x000 of the crypto window (12_polders R313): the operation is submitted with its inputs as they stand, or refused. -/
def cryptoSubmit (p : Polder) (v : Byte) (s : State) : State :=
  let op := v.toNat % 16
  let len := winNat s p 0xC402 2
  let aad := winNat s p 0xC404 1
  let tag := getBits (winNat s p 0xC405 1) 1 2
  if op = 0 ∨ 7 < op then s
  else if s.pld[p].crypto.job.isSome then setCrResult p 4 s
  else if cryptoSlots s p = [] then setCrResult p 5 s
  else if cryptoLenBad op len aad tag then setCrResult p 6 s
  else
    let j : CryptoJob := {
      op, key256 := v.getLsbD 5, final := v.getLsbD 4, len, aadLen := aad, tagLen := [4, 8, 16].getD tag 16,
      iv := winBytes s p 0xC410 16, key := winBytes s p 0xC420 32, aad := winBytes s p 0xC440 aad, tag := winBytes s p 0xC460 16,
      buf := winBytes s p 0xC500 256, at_ := stNow s, endAt := none, discarded := false }
    modCrypto p (fun u => { u with result := 1, job := some j }) s

/-- The first of a polder's slots that begins at or after an ST, numbered from ST 0. -/
def ownSlotFrom (own : List Nat) (q : Rat) : Nat :=
  let g := (ceilQ (32000 * q)).toNat
  match (List.range 32).find? fun k => own.contains ((g + k) % 32) with | some k => g + k | none => g

/-- CRYPTO_OP_START (12_polders R313): the operation starts in the first own slot that begins at least 1 µs after the submission. -/
def execCryptoOpStart (p : Polder) (s : State) : Result :=
  match s.pld[p].crypto.job with
  | none => .next s
  | some j =>
    let own := cryptoSlots s p
    let g := ownSlotFrom own (j.at_ + 1 / 1000000)
    if j.endAt.isSome ∨ own = [] ∨ domOn s .cry = false ∨ stNow s < (g : Rat) / 32000 then .next s
    else .next (modCrypto p (fun u => { u with job := some { j with endAt := some (cryptoEnd own g (cryptoCost j)) } }) s)

/-- What an operation leaves: CR_RESULT, the bytes it writes from the start of CR_BUF, the tag it writes, and the message that SHA-256 keeps. -/
structure CryptoOut where
  /-- CR_RESULT: 2 done, 3 authentication failed. -/
  result : Nat
  /-- Bytes of CR_BUF from its start. -/
  buf : List Byte := []
  /-- Bytes of CR_TAG from its start. -/
  tag : List Byte := []
  /-- Message absorbed. -/
  sha : List Byte

/-- The key of an operation. -/
def CryptoJob.theKey (j : CryptoJob) : List Byte := j.key.take (if j.key256 then 32 else 16)

/-- GCM tag of a ciphertext, at the operation's tag length. -/
def jobGcmTag (j : CryptoJob) (c : List Byte) : List Byte := bytesAt (gcmTag j.theKey (j.iv.take 12) j.aad c) 0 j.tagLen

/-- CCM tag of a plaintext, at the operation's tag length. -/
def jobCcmTag (j : CryptoJob) (t : List Byte) : List Byte := bytesAt (ccmTag j.tagLen j.theKey (j.iv.take 13) j.aad t) 0 j.tagLen

/-- The outcome of an operation (12_polders R313, Table 12-3); `rnd` holds drawn bytes for OP 7. -/
def cryptoOutcome (j : CryptoJob) (sha rnd : List Byte) : CryptoOut :=
  let data := j.buf.take j.len
  let zeros := List.replicate j.len (0 : Byte)
  if j.op = 1 then
    let c := bytesAt (gcmText j.theKey (j.iv.take 12) data) 0 j.len
    { result := 2, buf := c, tag := jobGcmTag j c, sha }
  else if j.op = 2 then
    if jobGcmTag j data = j.tag.take j.tagLen then { result := 2, buf := bytesAt (gcmText j.theKey (j.iv.take 12) data) 0 j.len, sha }
    else { result := 3, buf := zeros, sha }
  else if j.op = 3 then { result := 2, buf := bytesAt (ccmText j.theKey (j.iv.take 13) data) 0 j.len, tag := jobCcmTag j data, sha }
  else if j.op = 4 then
    let t := bytesAt (ccmText j.theKey (j.iv.take 13) data) 0 j.len
    if jobCcmTag j t = j.tag.take j.tagLen then { result := 2, buf := t, sha } else { result := 3, buf := zeros, sha }
  else if j.op = 5 then
    if j.final then { result := 2, buf := bytesAt (sha256 (sha ++ data)) 0 32, sha := [] } else { result := 2, sha := sha ++ data }
  else if j.op = 6 then
    { result := if ecdsaVerify (bytesAt j.buf 0 32) (bytesAt j.buf 32 64) (bytesAt j.buf 96 64) then 2 else 3, sha }
  else { result := 2, buf := rnd, sha }

/-- CRYPTO_DONE (12_polders R313): t_CRDONE after the end of the last slot. The result of an operation of before a restart is discarded. -/
def execCryptoDone (p : Polder) (s : State) : Result :=
  match s.pld[p].crypto.job with
  | none => .next s
  | some j =>
    match j.endAt with
    | none => .next s
    | some e =>
      if stNow s < e + 1 / 1000000 then .next s
      else if j.discarded then .next (modCrypto p (fun u => { u with job := none }) s)
      else
        let (rnd, s1) := if j.op = 7 then takeRandom j.len s else ([], s)
        let o := cryptoOutcome j s.pld[p].crypto.sha rnd
        let s2 := modCrypto p (fun _ => ⟨o.result, stWord (e + 1 / 1000000), none, o.sha⟩) s1
        let s3 := winPut p 0xC460 o.tag (winPut p 0xC500 o.buf s2)
        let s4 := ctrAdd (pPldCryptoOps p) 1 s3
        let s5 := if o.result = 3 then ctrAdd (pPldCryptoAuthFail p) 1 s4 else s4
        .next (if winBit s p 0xC405 0 then raisePend p 9 s5 else s5)

/-- A read of a byte of the crypto window that the device drives. -/
def cryptoRead (s : State) (p : Polder) (a : Nat) : Byte :=
  roByte a [(0xC401, 0, 3, s.pld[p].crypto.result), (0xC408, 0, 64, s.pld[p].crypto.doneSt)]

/-! ### The basin (12_polders R320, R321) -/

/-- The structure of the basin view that holds an address: lowest address and bytes. -/
def structOf (a : Nat) : Option (Nat × Nat) := basinStructs.find? fun x => decide (x.1 ≤ a) && decide (a < x.1 + x.2)

/-- A read of the basin view (12_polders R320): the byte, and the state with the polder's latch. -/
def basinRead (p : Polder) (a : Nat) (s : State) : Byte × State :=
  match structOf a with
  | none => (0, s)
  | some (b, n) =>
    let fresh := sread basinDflt s.basin b n
    let again : Bool := decide (a = b) || (match s.pld[p].latch with | some (c, _) => c != b | none => true)
    if again then (fresh.getD (a - b) 0, modP p (fun q => { q with latch := some (b, fresh) }) s)
    else ((match s.pld[p].latch with | some (_, l) => l.getD (a - b) 0 | none => 0), s)

/-- BASIN_SENSE (12_polders R321): means over the 10 s window that ended 2 ms ago. -/
def execBasinSense (s : State) : Result :=
  let sec := stSec s / 10 * 10
  if s.mode.life ≠ .run ∨ s.sky.run = false ∨ sec = 0 ∨ s.pmu.senseS = sec ∨ stNow s < (sec : Rat) + 2 / 1000 then .next s
  else
    let w : SenseWin := (s.aon.sense.find? fun x => 10 * (x.win + 1) == sec).getD ⟨0, 0, 0, 0, 0, s.aon.govLevel⟩
    let mean (x : Rat) : Int := roundAway (quot x w.n)
    let bytes := leBytes 16 (packFields
      [(0, 64, stWord sec), (64, 8, twos 8 (mean w.tj)), (72, 10, (mean w.vin).toNat), (82, 10, (mean w.vbat).toNat), (92, 7, (socNow s).getD 0),
       (99, 1, b2n s.aon.anchored), (100, 1, b2n s.aon.disagree), (101, 2, w.level)])
    .next (basinPut 0xE0DC bytes { s with pmu := { s.pmu with senseS := sec } })

/-! ### Sluices (12_polders R322, R323) -/

/-- Change a sluice area. -/
def modSluice (p : Polder) (k : Fin 8) (f : Sluice → Sluice) (s : State) : State := modP p (fun q => { q with sluice := q.sluice.set k (f q.sluice[k]) }) s

/-- Base address of a sluice area. -/
def sluiceBase (k : Fin 8) : Nat := 0xD000 + 0x80 * k.val

/-- A sluice that its declarations make absent: the peer's are settled and none of them matches. -/
def sluiceAbsent (s : State) (d : SluiceDecl) : Bool := d.partner.isNone && (if h : d.peer < 8 then settled s ⟨d.peer, h⟩ else true)

/-- The receiver takes messages: its core has started (12_polders R323). -/
def takesMessages (s : State) (q : Polder) : Bool := s.pld[q].core.phase != .off

/-- SLUICE_TRANSFER (12_polders R323) at area k of polder p, sender or receiver: at a multiple of PERIOD. -/
def execSluiceTransfer (p : Polder) (k : Fin 8) (s : State) : Result :=
  let x := s.pld[p].sluice[k]
  let ms := stMs s
  let inst : Rat := (ms : Rat) / 1000
  match x.decl with
  | none => .next s
  | some d =>
    if s.mode.life ≠ .run ∨ s.sky.run = false ∨ ms % d.period ≠ 0 ∨ x.st = stWord inst then .next s
    else
      let goes := !d.dirIn && x.send && decide ((x.sendTick : Int) < tickOf s inst)
      let t := modSluice p k (fun y => { y with seq := y.seq + 1, st := stWord inst, send := y.send && !goes }) s
      match goes, d.partner with
      | true, some j =>
        if h : d.peer < 8 then
          let q : Polder := ⟨d.peer, h⟩
          .next (if takesMessages t q then modSluice q j (fun y => { y with transit := some (winBytes s p (sluiceBase k) 64, inst) }) t else t)
        else .next t
      | _, _ => .next t

/-- WAKE_EN of a sluice area. -/
def sluiceWake (s : State) (p : Polder) (k : Fin 8) : Bool := winBit s p (sluiceBase k + 0x40) 2

/-- SLUICE_DELIVER (12_polders R323): t_SLU after the instant the message appears; it replaces an unpopped one, which is lost. -/
def execSluiceDeliver (p : Polder) (k : Fin 8) (s : State) : Result :=
  let x := s.pld[p].sluice[k]
  match x.transit with
  | none => .next s
  | some (m, inst) =>
    if stNow s < inst + 4 / 1000000 then .next s
    else
      let t := modSluice p k (fun y => { y with data := m, transit := none, full := true, lost := y.lost || y.full }) s
      let t := if x.full then ctrAdd (pPldSluiceLost p) 1 t else t
      .next (if sluiceWake s p k then raisePend p 8 t else t)

/-- A write of the control byte of a declared area: SEND of an outbox, POP of an inbox, WAKE_EN. -/
def sluiceControl (p : Polder) (k : Fin 8) (v : Byte) (s : State) : State :=
  let x := s.pld[p].sluice[k]
  let t := winStore p (sluiceBase k + 0x40) v s
  match x.decl with
  | none => t
  | some d =>
    if d.dirIn then (if v.getLsbD 1 then modSluice p k (fun y => { y with full := false, lost := false }) t else t)
    else if v.getLsbD 0 ∧ x.send = false ∧ sluiceAbsent s d = false then modSluice p k (fun y => { y with send := true, sendTick := s.sky.tick }) t
    else t

/-- A read of a byte of a declared area. -/
def sluiceRead (s : State) (p : Polder) (k : Fin 8) (a : Nat) : Byte :=
  let x := s.pld[p].sluice[k]
  let b := sluiceBase k
  match x.decl with
  | none => 0
  | some d =>
    if a < b + 0x40 then (if d.dirIn then x.data.getD (a - b) 0 else winByte s p a)
    else if a = b + 0x40 then (winByte s p a &&& 0x04) ||| BitVec.ofNat 8 (b2n (x.send && !sluiceAbsent s d))
    else roByte a [(b + 0x41, 0, 1, b2n x.full), (b + 0x41, 1, 1, b2n x.lost), (b + 0x41, 2, 1, b2n d.dirIn), (b + 0x42, 0, 16, x.seq.toNat), (b + 0x48, 0, 64, x.st)]

/-! ### Guarantee void (12_polders R327) -/

/-- Write BASIN.FLAGS (12_polders Table 12-12). -/
def publishFlags (s : State) : State :=
  basinPut 0xE008 (leBytes 8 (packFields [(0, 1, b2n s.pmu.void), (1, 2, s.pmu.voidCause), (32, 32, s.pmu.voidSince)])) s

/-- BASIN.FLAGS as one number. -/
def flagsWord (s : State) : Nat := packFields [(0, 1, b2n s.pmu.void), (1, 2, s.pmu.voidCause), (32, 32, s.pmu.voidSince)]

/-- A cause of the guarantee void arises: 1 thermal, 2 supply (bits of VOID_CAUSE). -/
def voidArise (bit : Nat) (s : State) : State :=
  if s.pmu.void then publishFlags { s with pmu := { s.pmu with voidCause := s.pmu.voidCause ||| bit } }
  else
    let t := publishFlags { s with pmu := { s.pmu with void := true, voidCause := bit, voidSince := stSec s % 2 ^ 32 } }
    recB 0 0x0C02 (leBytes 8 (flagsWord t)) t

/-- The thermal cause follows the governor's level (12_polders R327). -/
def voidThermalSet (v : Bool) (s : State) : State :=
  if v = s.pmu.voidThermal then s
  else if v then voidArise 1 { s with pmu := { s.pmu with voidThermal := true } }
  else { s with pmu := { s.pmu with voidThermal := false, voidEnd := s.sky.tick } }

/-- The supply is back in its range. -/
def voidVinEnd (s : State) : State :=
  if s.pmu.voidVin then { s with pmu := { s.pmu with voidVin := false, voidEnd := s.sky.tick } } else s

/-- VIN_OUT_OF_RANGE (12_polders R327): VIN outside 3.0–5.5 V for 1 ms. -/
def execVinOutOfRange (s : State) : Result :=
  if s.mode.life ≠ .run ∨ s.pmu.voidVin ∨ s.pmu.vinBadMs = 0 then .next s
  else .next (voidArise 2 { s with pmu := { s.pmu with voidVin := true } })

/-- GUARANTEE_VOID_CLEAR (12_polders R327): 60 s after the last cause ended. -/
def execGuaranteeVoidClear (s : State) : Result :=
  if s.mode.life ≠ .run ∨ s.pmu.void = false ∨ s.pmu.voidVin ∨ s.pmu.voidThermal ∨ since s s.pmu.voidEnd (secTicks 60) = false then .next s
  else
    let t := publishFlags { s with pmu := { s.pmu with void := false, voidCause := 0 } }
    .next (recB 1 0x0C03 (leBytes 8 (flagsWord t)) t)

end Sys2Proof.Machine
end

