-- ==== Sys2Proof/Machine/Bus.lean ====
section
/-!
DEFINITION. A core's accesses (13_ohmore_model R334–R336, R344, R345): the dike warden, dry windows, what each window byte reads and what a
write to it does; and the commands of the table that are one such access.
-/

namespace Sys2Proof.Machine

/-! ### Where an access goes -/

/-- What the dike warden and the domains make of one byte of an access (12_polders R315, 13_ohmore_model R345). -/
inductive ByteFate where
  /-- RAM. -/
  | ram
  /-- The basin view. -/
  | basin
  /-- A live window. -/
  | live
  /-- A dry window. -/
  | dry
  /-- A breach of a kind. -/
  | breach (kind : Nat)
  deriving DecidableEq, Repr

/-- The sluice area of an address of 0xD000–0xD3FF. -/
def areaOf (a : Nat) : Fin 8 := ⟨(a - 0xD000) / 0x80 % 8, Nat.mod_lt _ (by decide)⟩

/-- Domain of the engine behind a window; none for windows that are never dry (13_ohmore_model, Dry access). -/
def windowDomain (p : Polder) (a : Nat) : Option Domain :=
  if a < 0xC400 then some .lnk else if a < 0xC600 then some .cry else if a < 0xC700 then some .snf else if a < 0xC800 then some .time
  else if a < 0xC900 then some (.pld p) else if 0xD400 ≤ a ∧ a < 0xD800 then some .hst else none

/-- The context that a command written to the link window names lies outside the polder's range (12_polders Table 12-5, kind 4). -/
def foreignCommand (s : State) (p : Polder) (a : Nat) (v : Byte) : Bool :=
  let c := v.toNat % 4
  (a == 0xC00C && c == 1 && !ctxOf s p (getBits (winNat s p 0xC008 2) 0 10)) ||
  (a == 0xC203 && (c == 1 || c == 2) && !ctxOf s p (getBits (winNat s p 0xC200 2) 0 10))

/-- The fate of a window byte, with the byte that a write brings. -/
def windowFate (s : State) (p : Polder) (a : Nat) (w : Option Byte) : ByteFate :=
  let sluice := decide (0xD000 ≤ a) && decide (a < 0xD400)
  let decl := s.pld[p].sluice[areaOf a].decl
  if sluice && decl.isNone then .breach 3
  else if winCovered a = false then .breach 5
  else if sluice && w.isSome && decide ((a - 0xD000) % 0x80 < 0x40) && (match decl with | some d => d.dirIn | none => false) then .breach 3
  else if (match w with | some v => foreignCommand s p a v | none => false) then .breach 4
  else match windowDomain p a with
    | some d => if domOn s d then .live else .dry
    | none => .live

/-- The fate of one byte of an access. -/
def byteFate (s : State) (p : Polder) (a : Nat) (w : Option Byte) : ByteFate :=
  if a < 0xC000 ∨ 0xF000 ≤ a then (if w.isSome && protectedAt s p a then .breach 2 else .ram)
  else if 0xE000 ≤ a then (if w.isSome then .breach 1 else .basin)
  else windowFate s p a w

/-! ### Reads -/

/-- Code of a context state (10_tag_link Table 10-6). -/
def ctxCode : CtxState → Nat
  | .empty => 0 | .active => 1 | .silent => 2 | .retired => 3

/-- What the device drives in a byte of the link window (10_tag_link Table 10-16). -/
def linkRead (s : State) (p : Polder) (a : Nat) : Byte :=
  let k := getBits (winNat s p 0xC200 2) 0 10
  let c : Ctx := if ctxOf s p k then ctxGet s k else {}
  if 0xC120 ≤ a ∧ a < 0xC200 then (match s.lnk.rxq[p] with | r :: _ => (rxBytes r).getD (a - 0xC120) 0 | [] => 0)
  else roByte a
    [(0xC00D, 0, 3, s.lnk.txResult[p]), (0xC100, 0, 6, min 63 s.lnk.rxq[p].length), (0xC202, 0, 2, ctxCode c.state), (0xC203, 2, 2, s.lnk.rosResult[p]),
     (0xC220, 0, 64, c.lastRxSt), (0xC228, 0, 8, twos 8 c.rssi), (0xC22C, 0, 32, c.rxCount)]

/-- A completion record as one number (09_sky_time Table 09-7). -/
def completionWord (c : Completion) : Nat :=
  packFields [(0, 64, c.firedSt), (64, 32, c.arg), (96, 17, c.handle), (113, 3, c.kind), (116, 1, b2n c.late), (117, 1, b2n c.delayed), (118, 1, b2n c.suppressed), (119, 8, c.delay)]

/-- What the device drives in a byte of the scheduler window (09_sky_time Table 09-6). -/
def schedRead (s : State) (p : Polder) (a : Nat) : Byte :=
  let w := s.sky.win[p]
  roByte a
    [(0xC700, 0, 64, w.now), (0xC715, 0, 3, w.result), (0xC71C, 0, 17, schedQuota s p - (ownEntries s p).length), (0xC71E, 1, 5, w.done.length),
     (0xC720, 0, 128, match w.done with | c :: _ => completionWord c | [] => 0)]

/-- PLD.BREACH as one number (12_polders Table 12-17). -/
def breachWord (s : State) (p : Polder) : Nat :=
  let q := s.pld[p]
  packFields [(0, 16, q.breachCount), (16, 3, q.lastKind), (19, 16, q.lastAddr), (35, 4, min 15 (recentRestarts s p).length), (39, 1, b2n q.restarted)]

/-- What the device drives in a byte of the status window (13_ohmore_model Table 13-5). -/
def statusRead (s : State) (p : Polder) (a : Nat) : Byte :=
  let c := s.pld[p].core
  if 0xCD00 ≤ a then (leBytes 4 (ctrRead s (polCounter p ((a - 0xCD00) / 4)))).getD (a % 4) 0
  else if 0xCC20 ≤ a ∧ a < 0xCC40 then (leBytes 4 (dutyLeft s p ((a - 0xCC20) / 4))).getD (a % 4) 0
  else roByte a
    [(0xCC00, 0, 1, b2n c.dry), (0xCC01, 0, 16, c.dryAddr.toNat), (0xCC04, 0, 32, c.cycles.toNat), (0xCC08, 0, 16, c.pend.toNat), (0xCC10, 0, 64, breachWord s p)]

/-- A read of a live window byte: stored W fields and what the device drives. -/
def windowByte (s : State) (p : Polder) (a : Nat) : Byte :=
  let w := winByte s p a &&& winReadBack a
  if a < 0xC400 then w ||| linkRead s p a
  else if a < 0xC600 then w ||| cryptoRead s p a
  else if a < 0xC700 then w ||| farmRead s p a
  else if a < 0xC800 then w ||| schedRead s p a
  else if a < 0xC900 then w ||| cardRead s p a
  else if a < 0xD000 then statusRead s p a
  else if a < 0xD400 then sluiceRead s p (areaOf a) a
  else w ||| hostRead s p a

/-- Read one byte: its value and what the read changes (the latch of NOW, the basin latch). A breach reads 0x00 (12_polders R315). -/
def readOne (p : Polder) (a : Nat) (s : State) : Byte × State :=
  match byteFate s p a none with
  | .ram => (ramByte s p a, s)
  | .basin => basinRead p a s
  | .live =>
    let t := if a = 0xC700 then nowLatch p s else s
    (windowByte t p a, t)
  | .dry => (0, s)
  | .breach k => (0, breach p k a s)

/-! ### Writes -/

/-- A write to a live window byte: its stored bits, and what it commands. -/
def windowWrite (p : Polder) (a : Nat) (v : Byte) (s : State) : State :=
  let b (i : Nat) : Bool := v.getLsbD i
  let t := winStore p a v s
  if a = 0xC00C then (if v.toNat % 4 = 1 then txSubmit p t else if v.toNat % 4 = 2 then txCancel p t else t)
  else if a = 0xC101 then (if b 0 then rxPop p t else t)
  else if a = 0xC203 then (if v.toNat % 4 = 1 then rosterLoad p false t else if v.toNat % 4 = 2 then rosterLoad p true t else t)
  else if a = 0xC400 then cryptoSubmit p v t
  else if a = 0xC604 then (if b 0 then snfPop p t else t)
  else if a = 0xC714 then (if v.toNat % 4 = 1 then schedArm p t else if v.toNat % 4 = 2 then schedCancel p t else t)
  else if a = 0xC71E then (if b 7 then schedPop p t else t)
  else if a = 0xC800 then cardControl p v s
  else if a = 0xC801 then (if b 3 then modH p (fun h => { h with txFail := false }) t else t)
  else if a = 0xC80C then (if b 0 then cardPop p t else t)
  else if a = 0xC810 then cardSend p v t
  else if a = 0xCC00 then (if b 0 then modCore p (fun c => { c with dry := false }) t else t)
  else if a = 0xCC08 then modCore p (fun c => { c with pend := c.pend &&& ~~~(v.setWidth 16) }) t
  else if a = 0xCC09 then modCore p (fun c => { c with pend := c.pend &&& ~~~(v.setWidth 16 <<< 8) }) t
  else if a = 0xCC14 then (if b 7 then modP p (fun q => { q with restarted := false }) t else t)
  else if 0xD000 ≤ a ∧ a < 0xD400 then (if (a - 0xD000) % 0x80 = 0x40 then sluiceControl p (areaOf a) v s else t)
  else if a = 0xD5E3 then (if b 0 then outSubmit p t else t)
  else if a = 0xD7F1 then (if b 0 then inPop p t else t)
  else t

/-- Write one byte. A blocked write has no effect; the result fields of Table 12-5 report a foreign context. -/
def writeOne (p : Polder) (a : Nat) (v : Byte) (s : State) : State :=
  match byteFate s p a (some v) with
  | .ram => ramPut p a v s
  | .basin => s
  | .live => windowWrite p a v s
  | .dry => s
  | .breach k =>
    let t := breach p k a s
    if k = 4 then (if a = 0xC00C then setTxResult p 1 t else setRosResult p 1 t) else t

/-! ### Accesses -/

/-- Record a dry access (13_ohmore_model R344): once, however many of its bytes are dry. -/
def noteDry (p : Polder) (a : Nat) (s : State) : State :=
  let t := ctrAdd (pOhmDryAccesses p) 1 (modCore p (fun c => { c with dry := true, dryAddr := BitVec.ofNat 16 a }) s)
  if cfgP s p ohmCfgDryTrap = 1 then raisePend p 13 t else t

/-- A restart that a breach asked for, at the end of the access (12_polders R317). -/
def endAccess (p : Polder) (s : State) : State := if s.pld[p].restartDue then restart p s else s

/-- The core of a polder executes. -/
def coreLive (s : State) (p : Polder) : Bool := s.pld[p].core.phase == .running

/-- A program's write of one byte, as a command of its own. -/
def programWrite (p : Polder) (a : Nat) (v : Byte) (s : State) : State :=
  if coreLive s p = false then s
  else endAccess p (if byteFate s p a (some v) = .dry then noteDry p a s else writeOne p a v s)

/-- A program's read of one byte, as a command of its own. -/
def programRead (p : Polder) (a : Nat) (s : State) : State :=
  if coreLive s p = false then s
  else endAccess p (if byteFate s p a none = .dry then noteDry p a s else (readOne p a s).2)

/-- A stored window byte with one bit set to a value. -/
def withBit (s : State) (p : Polder) (a b : Nat) (v : Bool) : Byte :=
  let m : Byte := BitVec.ofNat 8 (2 ^ b)
  (winByte s p a &&& ~~~m) ||| (if v then m else 0)

/-! ### The commands of the table that are one access -/

/-- SNF_POP (08_snapshot_farm R213). -/
def execSnfPop (p : Polder) (s : State) : Result := .next (programWrite p 0xC604 (withBit s p 0xC604 0 true) s)
/-- SNF_HOLD (08_snapshot_farm R213). -/
def execSnfHold (p : Polder) (v : Bool) (s : State) : Result := .next (programWrite p 0xC604 (withBit s p 0xC604 1 v) s)
/-- SNF_WAKE_EN (08_snapshot_farm R213). -/
def execSnfWakeEn (p : Polder) (v : Bool) (s : State) : Result := .next (programWrite p 0xC604 (withBit s p 0xC604 2 v) s)
/-- SCHED_ARM (09_sky_time R243). -/
def execSchedArm (p : Polder) (s : State) : Result := .next (programWrite p 0xC714 1 s)
/-- SCHED_CANCEL (09_sky_time R243). -/
def execSchedCancel (p : Polder) (s : State) : Result := .next (programWrite p 0xC714 2 s)
/-- SCHED_POP (09_sky_time R243). -/
def execSchedPop (p : Polder) (s : State) : Result := .next (programWrite p 0xC71E (withBit s p 0xC71E 7 true) s)
/-- SCHED_WAKE_EN (09_sky_time R243). -/
def execSchedWakeEn (p : Polder) (v : Bool) (s : State) : Result := .next (programWrite p 0xC71E (withBit s p 0xC71E 6 v) s)
/-- NOW_LATCH (09_sky_time R243). -/
def execNowLatch (p : Polder) (s : State) : Result := .next (programRead p 0xC700 s)
/-- TX_SUBMIT (10_tag_link R266). -/
def execTxSubmit (p : Polder) (s : State) : Result := .next (programWrite p 0xC00C 1 s)
/-- TX_CANCEL (10_tag_link R266). -/
def execTxCancel (p : Polder) (s : State) : Result := .next (programWrite p 0xC00C 2 s)
/-- ROSTER_LOAD_STATE (10_tag_link R268). -/
def execRosterLoadState (p : Polder) (s : State) : Result := .next (programWrite p 0xC203 1 s)
/-- ROSTER_LOAD_KEY (10_tag_link R268). -/
def execRosterLoadKey (p : Polder) (s : State) : Result := .next (programWrite p 0xC203 2 s)
/-- RX_POP (10_tag_link R279). -/
def execRxPop (p : Polder) (s : State) : Result := .next (programWrite p 0xC101 (withBit s p 0xC101 0 true) s)
/-- RX_WAKE (10_tag_link R279). -/
def execRxWake (p : Polder) (v : Bool) (s : State) : Result := .next (programWrite p 0xC101 (withBit s p 0xC101 1 v) s)
/-- CRYPTO_GCM_ENCRYPT (12_polders R313). -/
def execCryptoGcmEncrypt (p : Polder) (key256 : Bool) (s : State) : Result := .next (programWrite p 0xC400 (BitVec.ofNat 8 (1 + 32 * b2n key256)) s)
/-- CRYPTO_GCM_DECRYPT (12_polders R313). -/
def execCryptoGcmDecrypt (p : Polder) (key256 : Bool) (s : State) : Result := .next (programWrite p 0xC400 (BitVec.ofNat 8 (2 + 32 * b2n key256)) s)
/-- CRYPTO_CCM_ENCRYPT (12_polders R313). -/
def execCryptoCcmEncrypt (p : Polder) (key256 : Bool) (s : State) : Result := .next (programWrite p 0xC400 (BitVec.ofNat 8 (3 + 32 * b2n key256)) s)
/-- CRYPTO_CCM_DECRYPT (12_polders R313). -/
def execCryptoCcmDecrypt (p : Polder) (key256 : Bool) (s : State) : Result := .next (programWrite p 0xC400 (BitVec.ofNat 8 (4 + 32 * b2n key256)) s)
/-- CRYPTO_SHA256 (12_polders R313). -/
def execCryptoSha256 (p : Polder) (final : Bool) (s : State) : Result := .next (programWrite p 0xC400 (BitVec.ofNat 8 (5 + 16 * b2n final)) s)
/-- CRYPTO_ECDSA_VERIFY (12_polders R313). -/
def execCryptoEcdsaVerify (p : Polder) (s : State) : Result := .next (programWrite p 0xC400 6 s)
/-- CRYPTO_TRNG (12_polders R313). -/
def execCryptoTrng (p : Polder) (s : State) : Result := .next (programWrite p 0xC400 7 s)
/-- CRYPTO_WAKE_EN (12_polders R313). -/
def execCryptoWakeEn (p : Polder) (v : Bool) (s : State) : Result := .next (programWrite p 0xC405 (withBit s p 0xC405 0 v) s)
/-- BASIN_LATCH (12_polders R320): a read of the basin view. -/
def execBasinLatch (p : Polder) (addr : Word) (s : State) : Result :=
  .next (if 0xE000 ≤ addr.toNat ∧ addr.toNat < 0xF000 then programRead p addr.toNat s else s)
/-- SLUICE_SEND (12_polders R323). -/
def execSluiceSend (p : Polder) (k : Fin 8) (s : State) : Result := .next (programWrite p (sluiceBase k + 0x40) (withBit s p (sluiceBase k + 0x40) 0 true) s)
/-- SLUICE_POP (12_polders R323). -/
def execSluicePop (p : Polder) (k : Fin 8) (s : State) : Result := .next (programWrite p (sluiceBase k + 0x40) (withBit s p (sluiceBase k + 0x40) 1 true) s)
/-- SLUICE_WAKE_EN (12_polders R323). -/
def execSluiceWakeEn (p : Polder) (k : Fin 8) (v : Bool) (s : State) : Result := .next (programWrite p (sluiceBase k + 0x40) (withBit s p (sluiceBase k + 0x40) 2 v) s)
/-- PEND_CLEAR (13_ohmore_model R341): ones written to OHM.IRQ, low byte first. -/
def execPendClear (p : Polder) (mask : Word) (s : State) : Result :=
  .next (programWrite p 0xCC09 ((mask >>> 8).setWidth 8) (programWrite p 0xCC08 (mask.setWidth 8) s))
/-- DRY_CLEAR (13_ohmore_model R344). -/
def execDryClear (p : Polder) (s : State) : Result := .next (programWrite p 0xCC00 1 s)
/-- RESTARTED_CLEAR (12_polders R317). -/
def execRestartedClear (p : Polder) (s : State) : Result := .next (programWrite p 0xCC14 0x80 s)
/-- REGISTER_WRITE (13_ohmore_model R336): a write of a window byte. -/
def execRegisterWrite (p : Polder) (addr : Word) (v : Byte) (s : State) : Result :=
  .next (if 0xC000 ≤ addr.toNat ∧ addr.toNat < 0xF000 then programWrite p addr.toNat v s else s)
/-- OUT_SUBMIT (18_host_ports R449). -/
def execOutSubmit (p : Polder) (s : State) : Result := .next (programWrite p 0xD5E3 1 s)
/-- IN_POP (18_host_ports R449). -/
def execInPop (p : Polder) (s : State) : Result := .next (programWrite p 0xD7F1 (withBit s p 0xD7F1 0 true) s)
/-- IN_WAKE (18_host_ports R449). -/
def execInWake (p : Polder) (v : Bool) (s : State) : Result := .next (programWrite p 0xD7F1 (withBit s p 0xD7F1 1 v) s)
/-- CARD_RESET (18_host_ports R455). -/
def execCardReset (p : Polder) (v : Bool) (s : State) : Result := .next (programWrite p 0xC800 (withBit s p 0xC800 0 v) s)
/-- CARD_CLK_EN (18_host_ports R454). -/
def execCardClkEn (p : Polder) (v : Bool) (s : State) : Result := .next (programWrite p 0xC800 (withBit s p 0xC800 1 v) s)
/-- TX_DATA (18_host_ports R456). -/
def execTxData (p : Polder) (v : Byte) (s : State) : Result := .next (programWrite p 0xC810 v s)
/-- CARD_RX_POP (18_host_ports R456). -/
def execCardRxPop (p : Polder) (s : State) : Result := .next (programWrite p 0xC80C 1 s)
/-- CARD_RX_WAKE (18_host_ports R456). -/
def execCardRxWake (p : Polder) (v : Bool) (s : State) : Result := .next (programWrite p 0xC800 (withBit s p 0xC800 3 v) s)
/-- CARD_TX_WAKE (18_host_ports R456). -/
def execCardTxWake (p : Polder) (v : Bool) (s : State) : Result := .next (programWrite p 0xC800 (withBit s p 0xC800 4 v) s)
/-- TX_FAIL_CLEAR (18_host_ports R456). -/
def execTxFailClear (p : Polder) (s : State) : Result := .next (programWrite p 0xC801 0x08 s)

end Sys2Proof.Machine
end

