-- ==== Sys2Proof/Machine/Flags.lean ====
section
/-!
DEFINITION. The flags of an Ohmore core (13_ohmore_model Table 13-2) and every flag computation of 14_ohmore_isa Table 14-4:
each returns the result and the flags it sets, as a mask and their values, so that an instruction writes those flags alone.
-/

namespace Sys2Proof.Machine

/-- Flags that an instruction writes: which bits of F, and their values. -/
structure FlagSet where
  /-- Bits of F written. -/
  mask : Byte
  /-- Their values. -/
  val : Byte
  deriving DecidableEq, Repr

/-- C, bit 0. -/
def flagC : Byte := 0x01
/-- Z, bit 1. -/
def flagZ : Byte := 0x02
/-- T, bit 3. -/
def flagT : Byte := 0x08
/-- I, bit 4. -/
def flagI : Byte := 0x10
/-- H, bit 5. -/
def flagH : Byte := 0x20
/-- V, bit 6. -/
def flagV : Byte := 0x40
/-- N, bit 7. -/
def flagN : Byte := 0x80

/-- One flag at a value. -/
def fbit (m : Byte) (b : Bool) : Byte := if b then m else 0

/-- Write a set of flags into F; the others keep their values. -/
def FlagSet.apply (w : FlagSet) (f : Byte) : Byte := (f &&& ~~~w.mask) ||| (w.val &&& w.mask)

/-- No flags. -/
def noFlags : FlagSet := ⟨0, 0⟩

/-- A flag of F. -/
def hasFlag (f m : Byte) : Bool := f &&& m != 0

/-- N and Z of a byte. -/
def nz8 (r : Byte) : FlagSet := ⟨flagN ||| flagZ, fbit flagN r.msb ||| fbit flagZ (r == 0)⟩

/-- N (bit 15) and Z of a word. -/
def nz16 (r : Word) : FlagSet := ⟨flagN ||| flagZ, fbit flagN r.msb ||| fbit flagZ (r == 0)⟩

/-- N, V, H, Z, C together. -/
def nvhzc (n v h z c : Bool) : FlagSet :=
  ⟨0xE3, fbit flagN n ||| fbit flagV v ||| fbit flagH h ||| fbit flagZ z ||| fbit flagC c⟩

/-- N, V, Z, C together. -/
def nvzc (n v z c : Bool) : FlagSet :=
  ⟨0xC3, fbit flagN n ||| fbit flagV v ||| fbit flagZ z ||| fbit flagC c⟩

/-- N, V, Z together. -/
def nvz (n v z : Bool) : FlagSet := ⟨0xC2, fbit flagN n ||| fbit flagV v ||| fbit flagZ z⟩

/-- A + M + c: sum, H the carry out of bit 3, C the carry out of bit 7 (Table 14-4 ADD, ADC). -/
def add8 (a m : Byte) (c : Bool) : Byte × FlagSet :=
  let k := c.toNat
  let r := BitVec.ofNat 8 (a.toNat + m.toNat + k)
  let v := a.msb == m.msb && r.msb != a.msb
  (r, nvhzc r.msb v (decide (16 ≤ a.toNat % 16 + m.toNat % 16 + k)) (r == 0) (decide (256 ≤ a.toNat + m.toNat + k)))

/-- A − M − c: difference, H the borrow into bit 4, C the borrow (Table 14-4 SUB, SBC, CMP). -/
def sub8 (a m : Byte) (c : Bool) : Byte × FlagSet :=
  let k := c.toNat
  let r := BitVec.ofNat 8 (a.toNat + 512 - m.toNat - k)
  let v := a.msb != m.msb && r.msb != a.msb
  (r, nvhzc r.msb v (decide (a.toNat % 16 < m.toNat % 16 + k)) (r == 0) (decide (a.toNat < m.toNat + k)))

/-- The logic operations: V is 0, H and C keep (Table 14-4 AND, ORA, EOR). -/
def logic8 (r : Byte) : Byte × FlagSet := (r, nvz r.msb false (r == 0))

/-- 16-bit compare (Table 14-4 CPX, CPY). -/
def cmp16 (x m : Word) : FlagSet :=
  let r := x - m
  nvzc r.msb (x.msb != m.msb && r.msb != x.msb) (r == 0) (decide (x.toNat < m.toNat))

/-- Increment (Table 14-4 INC, INCA). -/
def inc8 (m : Byte) : Byte × FlagSet := let r := m + 1; (r, nvz r.msb (m == 0x7F) (r == 0))

/-- Decrement (Table 14-4 DEC, DECA). -/
def dec8 (m : Byte) : Byte × FlagSet := let r := m - 1; (r, nvz r.msb (m == 0x80) (r == 0))

/-- Flags of a shift or rotate: C takes the bit shifted out, V is N XOR C (Table 14-4). -/
def shiftFlags (r : Byte) (c : Bool) : FlagSet := nvzc r.msb (r.msb != c) (r == 0) c

/-- Shift left. -/
def asl8 (m : Byte) : Byte × FlagSet := let r := m <<< 1; (r, shiftFlags r m.msb)
/-- Shift right. -/
def lsr8 (m : Byte) : Byte × FlagSet := let r := m >>> 1; (r, shiftFlags r (m.getLsbD 0))
/-- Rotate left through C. -/
def rol8 (m : Byte) (c : Bool) : Byte × FlagSet := let r := (m <<< 1) ||| fbit 1 c; (r, shiftFlags r m.msb)
/-- Rotate right through C. -/
def ror8 (m : Byte) (c : Bool) : Byte × FlagSet := let r := (m >>> 1) ||| fbit 0x80 c; (r, shiftFlags r (m.getLsbD 0))

/-- A ← 0 and M ← 0 (Table 14-4 CLR, CLRA): N, V and C 0, Z 1, H unchanged. -/
def clrFlags : FlagSet := nvzc false false true false

/-- 0 − A; C is 1 unless A was 0 (Table 14-4 NEGA). -/
def neg8 (a : Byte) : Byte × FlagSet := sub8 0 a false

/-- NOT A: V 0, C 1, H unchanged (Table 14-4 COMA). -/
def com8 (a : Byte) : Byte × FlagSet := let r := ~~~a; (r, nvzc r.msb false (r == 0) true)

/-- The correction of the decimal instructions and its carry (14_ohmore_isa R360). -/
def decCorr (h cy : Bool) (t : Byte) : Byte × Bool :=
  let lo : Byte := if h || decide (9 < t.toNat % 16) then 0x06 else 0
  let hi := cy || decide (0x99 < t.toNat)
  (lo + (if hi then 0x60 else 0), hi)

/-- Flags of a decimal instruction: V 0. -/
def decFlags (r : Byte) (h c : Bool) : FlagSet := nvhzc r.msb false h (r == 0) c

/-- ADDD (14_ohmore_isa R360). -/
def addd8 (a m : Byte) (c : Bool) : Byte × FlagSet :=
  let t := a.toNat + m.toNat + c.toNat
  let h := decide (16 ≤ a.toNat % 16 + m.toNat % 16 + c.toNat)
  let x := BitVec.ofNat 8 t
  let (corr, cy) := decCorr h (decide (256 ≤ t)) x
  let r := x + corr
  (r, decFlags r h cy)

/-- DAA (14_ohmore_isa R360): H is 0 after it. -/
def daa8 (a : Byte) (c h : Bool) : Byte × FlagSet :=
  let (corr, cy) := decCorr h c a
  let r := a + corr
  (r, decFlags r false cy)

/-- SUBD (14_ohmore_isa R360). -/
def subd8 (a m : Byte) (c : Bool) : Byte × FlagSet :=
  let t := BitVec.ofNat 8 (a.toNat + 512 - m.toNat - c.toNat)
  let h := decide (a.toNat % 16 < m.toNat % 16 + c.toNat)
  let (corr, cy) := decCorr h (decide (a.toNat < m.toNat + c.toNat)) t
  let r := t - corr
  (r, decFlags r h cy)

/-- The branch conditions of Table 14-5 on F. -/
def condEq (f : Byte) : Bool := hasFlag f flagZ
/-- C = 1. -/
def condCs (f : Byte) : Bool := hasFlag f flagC
/-- N = 1. -/
def condMi (f : Byte) : Bool := hasFlag f flagN
/-- V = 1. -/
def condVs (f : Byte) : Bool := hasFlag f flagV
/-- C = 1 or Z = 1. -/
def condLs (f : Byte) : Bool := hasFlag f flagC || hasFlag f flagZ
/-- N ≠ V. -/
def condLt (f : Byte) : Bool := hasFlag f flagN != hasFlag f flagV
/-- Z = 1 or N ≠ V. -/
def condLe (f : Byte) : Bool := hasFlag f flagZ || condLt f

end Sys2Proof.Machine
end

