-- ==== Sys2Proof/Machine/Operands.lean ====
section
/-!
DEFINITION. A core's instruction cycle (13_ohmore_model R337–R339, R342, 14_ohmore_isa R352–R355, R365): fetch and decoding, addressing modes, the
cycles of an instruction and the store buffer, its accesses, the load shadow and the repeat. Every instruction of 14_ohmore_isa is a body between
`ready` and `commit`.
-/

namespace Sys2Proof.Machine

/-! ### Fetch (14_ohmore_isa R352, R365–R368) -/

/-- What lies at an address for the core to execute. -/
inductive Fetched where
  /-- A first byte in 0xC000–0xEFFF: a NOP of 2 bytes. -/
  | void
  /-- A reserved encoding of a length in bytes. -/
  | reserved (len : Nat)
  /-- An instruction of a length in bytes. -/
  | ins (i : OhmInstr) (len : Nat)
  deriving DecidableEq, Repr

/-- An address lies in RAM (13_ohmore_model Table 13-3). -/
def isRam (a : Nat) : Bool := decide (a < 0xC000) || decide (0xF000 ≤ a)

/-- A byte as the fetch port reads it: 0x00 outside RAM (14_ohmore_isa R367). -/
def fetchByte (s : State) (p : Polder) (a : Nat) : Byte := if isRam a then ramByte s p a else 0

/-- Fetch and decode at an address. -/
def fetchAt (s : State) (p : Polder) (a : Nat) : Fetched :=
  if isRam a = false then .void
  else
    let b0 := fetchByte s p a
    match ohmDecode b0 (fetchByte s p ((a + 1) % 65536)) (fetchByte s p ((a + 2) % 65536)) with
    | some i => .ins i (ohmLen b0.toNat)
    | none => .reserved (ohmLen b0.toNat)

/-- Operations that a repeat does not repeat (14_ohmore_isa R365). -/
def runsOnce : OhmOp → Bool
  | .bra | .beq | .bne | .bcs | .bcc | .bmi | .bpl | .bvs | .bvc | .bhi | .bls | .bge | .blt | .bgt | .ble | .dbnz | .jmp | .jmpi | .jx
  | .call | .ret | .rti | .rpt | .rpti | .wait | .di | .ei => true
  | _ => false

/-- What lies at P can be repeated. -/
def Fetched.repeatable : Fetched → Bool
  | .void => true
  | .reserved _ => false
  | .ins i _ => !runsOnce i.op

/-- Bytes of what lies at P. -/
def Fetched.len : Fetched → Nat
  | .void => 2
  | .reserved n => n
  | .ins _ n => n

/-! ### Boundaries and requests (13_ohmore_model R340, R342) -/

/-- The boundary before the next instruction allows an interrupt: not in a shadow, not in an RPT, not before the first iteration of an RPTI. -/
def boundaryOk (c : Core) : Bool :=
  c.load.isNone && (match c.rpt with | none => true | some r => r.interruptible && !r.atStart)

/-- A pending request that I lets through, the highest vector first. -/
def takable (c : Core) : Option Nat :=
  ([14, 13, 12, 11, 10, 9, 8, 7, 6] : List Nat).find? fun v => c.pend.getLsbD v && (decide (13 ≤ v) || hasFlag c.f flagI)

/-- The core of a polder can execute: the polder is loaded, its domain on and its core running. -/
def coreRunning (s : State) (p : Polder) : Bool := s.mode.life == .run && coreLive s p && domOn s (.pld p)

/-- An interrupt is to be taken before the next instruction. -/
def requestDue (c : Core) : Bool := boundaryOk c && (takable c).isSome

/-! ### Cycles and the store buffer (13_ohmore_model R338, R339) -/

/-- The oldest entry drains to RAM. -/
def drainOne (p : Polder) (s : State) : State :=
  match s.pld[p].core.sb with
  | [] => s
  | e :: r => modP p (fun q => { q with core := { q.core with sb := r }, ram := e.foldl (fun m x => sset (fun _ => 0) m x.1 x.2) q.ram }) s

/-- CYCLES counts one cycle. -/
def countCycle (p : Polder) (s : State) : State := modCore p (fun c => { c with cycles := c.cycles + 1 }) s

/-- One cycle of the core: with the data port free the oldest entry drains, unless it entered the buffer in this cycle. -/
def coreCycle (p : Polder) (busy fresh : Bool) (s : State) : State :=
  countCycle p (if busy || decide (s.pld[p].core.sb.length ≤ fresh.toNat) then s else drainOne p s)

/-- Cycles that leave the data port free. -/
def idleCycles (p : Polder) (n : Nat) (s : State) : State := n.repeat (coreCycle p false false) s

/-- The buffer drains completely, one cycle per entry. -/
def drainAll (p : Polder) (s : State) : State := idleCycles p s.pld[p].core.sb.length s

/-- The byte that the youngest buffered store, or RAM, holds at an address. -/
def sbPeek (s : State) (p : Polder) (a : Nat) : Byte :=
  match s.pld[p].core.sb.flatten.reverse.find? (fun x => x.1 == a) with
  | some x => x.2
  | none => ramByte s p a

/-- The `n` addresses of an access, from the lowest byte upward, modulo 65,536 (13_ohmore_model R333). -/
def spanOf (a n : Nat) : List Nat := (List.range n).map fun k => (a + k) % 65536

/-- Wait cycles of a byte outside RAM (13_ohmore_model Table 13-3). -/
def waitCycles (a : Nat) : Nat := if isRam a then 0 else if a < 0xD000 then 2 else 1

/-- A byte outside RAM is dry. -/
def dryByte (s : State) (p : Polder) (a : Nat) (w : Option Byte) : Bool := byteFate s p a w == .dry

/-- The bytes of a read that reaches outside RAM, each in the last of its own wait cycles; whether one was dry (13_ohmore_model R336). -/
def readBytes (p : Polder) : List Nat → State → List Byte × Bool × State
  | [], s => ([], false, s)
  | a :: r, s =>
    let s1 := (waitCycles a - 1).repeat (countCycle p) s
    let d := dryByte s1 p a none
    let (v, s2) := readOne p a s1
    let s3 := if isRam a then s2 else countCycle p s2
    let (vs, ds, s4) := readBytes p r s3
    (v :: vs, d || ds, s4)

/-- A read of consecutive bytes that spends `base` cycles and its wait cycles (13_ohmore_model R336, R338, R344). -/
def readMem (p : Polder) (base a n : Nat) (s : State) : List Byte × State :=
  let addrs := spanOf a n
  if addrs.all isRam then
    let hit := s.pld[p].core.sb.filter fun e => e.any fun x => addrs.contains x.1
    match hit.getLast? with
    | none => (addrs.map (ramByte s p), idleCycles p (base - 1) (coreCycle p true false s))
    | some e =>
      if addrs.all (fun b => e.any (·.1 == b)) then (addrs.map (sbPeek s p), idleCycles p base s)
      else
        let t := drainAll p (ctrAdd (pOhmSbStalls p) 1 s)
        (addrs.map (ramByte t p), idleCycles p (base - 1) (coreCycle p true false t))
  else
    let (vs, d, t) := readBytes p addrs (idleCycles p base (drainAll p s))
    (vs, endAccess p (if d then noteDry p a t else t))

/-- The bytes of a write that reaches outside RAM: each byte outside it in the last of its own wait cycles, each protected byte of RAM as a breach; whether
one was dry. -/
def writeBytes (p : Polder) : List Host.Cell → State → Bool × State
  | [], s => (false, s)
  | x :: r, s =>
    if isRam x.1 then writeBytes p r (if protectedAt s p x.1 then breach p 2 x.1 s else s)
    else
      let s1 := (waitCycles x.1 - 1).repeat (countCycle p) s
      let d := dryByte s1 p x.1 (some x.2)
      let (ds, s2) := writeBytes p r (countCycle p (writeOne p x.1 x.2 s1))
      (d || ds, s2)

/-- The dike warden passes the RAM bytes of a store, or records a breach of kind 2 for each protected one. -/
def wardenRam (p : Polder) (cells : List Host.Cell) (s : State) : List Host.Cell × State :=
  let ram := cells.filter fun x => isRam x.1
  (ram.filter fun x => !protectedAt s p x.1, (ram.filter fun x => protectedAt s p x.1).foldl (fun t x => breach p 2 x.1 t) s)

/-- A store enters the buffer. -/
def sbPush (p : Polder) (e : List Host.Cell) (s : State) : State := modCore p (fun c => { c with sb := c.sb ++ [e] }) s

/-- A store of RAM bytes that spends `base` cycles: it enters the buffer in the first of them, after one more cycle where the buffer is full. -/
def storeRam (p : Polder) (base : Nat) (cells : List Host.Cell) (s : State) : State :=
  let (keep, t) := wardenRam p cells s
  if keep = [] then idleCycles p base t
  else
    let t1 := if 2 ≤ t.pld[p].core.sb.length then coreCycle p false false t else t
    let t2 := sbPush p keep t1
    if base = 0 then t2 else idleCycles p (base - 1) (coreCycle p false true t2)

/-- A write of consecutive bytes that spends `base` cycles and its wait cycles (13_ohmore_model R336, R338, R344). -/
def writeMem (p : Polder) (base a : Nat) (bytes : List Byte) (s : State) : State :=
  let cells := (spanOf a bytes.length).zip bytes
  if cells.all (fun x => isRam x.1) then endAccess p (storeRam p base cells s)
  else
    let (d, t) := writeBytes p cells (idleCycles p base (drainAll p s))
    endAccess p (storeRam p 0 (cells.filter fun x => isRam x.1 && !protectedAt s p x.1) (if d then noteDry p a t else t))

/-! ### The frame of an instruction -/

/-- What an instruction writes at its end: registers, flags, a load for the end of its shadow, a new P, and a repeat that starts after it. -/
structure Writes where
  /-- A. -/
  a : Option Byte := none
  /-- X. -/
  x : Option Word := none
  /-- Y. -/
  y : Option Word := none
  /-- S. -/
  s : Option Word := none
  /-- Flags. -/
  f : FlagSet := noFlags
  /-- Load. -/
  load : Option PendingLoad := none
  /-- P, where the instruction jumps, with the KIND of its trace entry (19_observation Table 19-2). -/
  p : Option (Word × Nat) := none
  /-- Repeat that stands after the instruction. -/
  rpt : Option Repeat := none

/-- A pending load lands: its register, and N and Z of its value (13_ohmore_model R337, 14_ohmore_isa R359). -/
def landLoad (l : Option PendingLoad) (c : Core) : Core :=
  match l with
  | none => c
  | some ⟨.a, v⟩ => { c with a := v.setWidth 8, f := (nz8 (v.setWidth 8)).apply c.f }
  | some ⟨.x, v⟩ => { c with x := v, f := (nz16 v).apply c.f }
  | some ⟨.y, v⟩ => { c with y := v, f := (nz16 v).apply c.f }

/-- Set T to a value. -/
def withT (b : Bool) (f : Byte) : Byte := if b then f ||| flagT else f &&& ~~~flagT

/-- The repeat and P at the end of an instruction of `len` bytes that started as core `c0` (14_ohmore_isa R352, R365): an iteration but the last leaves
P in place. -/
def stepRepeat (c0 : Core) (len : Nat) (w : Writes) (c : Core) : Core :=
  match c0.rpt with
  | some r =>
    if 2 ≤ r.left then { c with rpt := some { r with left := r.left - 1, atStart := false }, p := c0.p }
    else { c with rpt := none, f := withT false c.f, p := c0.p + BitVec.ofNat 16 len }
  | none => { c with rpt := w.rpt, p := match w.p with | some x => x.1 | none => c0.p + BitVec.ofNat 16 len }

/-- The registers after an instruction: a load whose shadow it was, then its own writes. -/
def applyWrites (c0 : Core) (len : Nat) (w : Writes) (c : Core) : Core :=
  let l := landLoad c0.load c
  stepRepeat c0 len w { l with
    a := w.a.getD l.a, x := w.x.getD l.x, y := w.y.getD l.y, s := w.s.getD l.s,
    f := w.f.apply l.f, load := w.load }

/-- The end of an instruction; a restart or a stop in one of its accesses abandons it (13_ohmore_model R348). -/
def commit (p : Polder) (c0 : Core) (len : Nat) (w : Writes) (s : State) : State :=
  if coreLive s p = false then s
  else
    let t := modCore p (applyWrites c0 len w) s
    match w.p with
    | some (x, k) => if c0.rpt.isSome then traceSync p t else traceMark p k x.toNat t
    | none => traceSync p t

/-- The core as an instruction sees it when it starts: T is 1 from the first iteration of a repeat, and what cannot be repeated runs once with T 0
(14_ohmore_isa R365). -/
def startCore (c : Core) (f : Fetched) : Core :=
  match c.rpt with
  | none => c
  | some _ => if f.repeatable then { c with f := withT true c.f } else { c with rpt := none, f := withT false c.f }

/-- A core that is to execute the instruction at P now, with the core as that instruction sees it. -/
def ready (s : State) (p : Polder) : Option (Core × Fetched) :=
  let c := s.pld[p].core
  if coreRunning s p && !requestDue c then
    let f := fetchAt s p c.p.toNat
    some (startCore c f, f)
  else none

/-- Run the instruction at P where its operation is `op`: the body makes its accesses and says what it writes. Where the core does not execute that
operation now, nothing happens. -/
def runOp (p : Polder) (op : OhmOp) (body : Core → OhmInstr → State → Writes × State) (s : State) : Result :=
  match ready s p with
  | some (c0, .ins i len) =>
    if i.op = op then
      let (w, t) := body c0 i (modCore p (fun c => { c with f := c0.f, rpt := c0.rpt }) s)
      .next (commit p c0 len w t)
    else .next s
  | _ => .next s

/-! ### Operands (14_ohmore_isa R354, R355) -/

/-- A form of 3 bytes. -/
def isLong (i : OhmInstr) : Bool :=
  match i.mode with
  | .imm16 | .abs | .ax | .ay | .ind | .relD | .call _ => true
  | _ => false

/-- The base of a form: 1 cycle short, 2 long (14_ohmore_isa R355). -/
def baseCycles (i : OhmInstr) : Nat := if isLong i then 2 else 1

/-- Effective address (14_ohmore_isa Table 14-1); the direct-page byte of DBNZ d,r lies in bits 7:0 of its operand. -/
def effAddr (c : Core) (i : OhmInstr) : Nat :=
  match i.mode with
  | .ix | .ax => (i.arg + c.x.toNat) % 65536
  | .ay => (i.arg + c.y.toNat) % 65536
  | .relD => i.arg % 256
  | _ => i.arg % 65536

/-- The operand byte M: an immediate, or the byte at the effective address. -/
def operand8 (p : Polder) (c : Core) (i : OhmInstr) (s : State) : Byte × State :=
  if i.mode = .imm8 then (BitVec.ofNat 8 i.arg, idleCycles p (baseCycles i) s)
  else
    let (v, t) := readMem p (baseCycles i) (effAddr c i) 1 s
    (v.headD 0, t)

/-- A word from its bytes. -/
def wordOf (v : List Byte) : Word := BitVec.ofNat 16 (leNat v)

/-- The bytes of a word, low byte first. -/
def wordBytes (w : Word) : List Byte := leBytes 2 w.toNat

/-- The operand word M16: an immediate (an 8-bit one zero-extended), or the word at the effective address. -/
def operand16 (p : Polder) (c : Core) (i : OhmInstr) (s : State) : Word × State :=
  if i.mode = .imm8 ∨ i.mode = .imm16 then (BitVec.ofNat 16 i.arg, idleCycles p (baseCycles i) s)
  else
    let (v, t) := readMem p (baseCycles i) (effAddr c i) 2 s
    (wordOf v, t)

/-- The operand of ADX and ADY: an 8-bit immediate is sign-extended. -/
def addend16 (i : OhmInstr) : Word := if i.mode = .imm8 then (BitVec.ofNat 8 i.arg).signExtend 16 else BitVec.ofNat 16 i.arg

/-- The displacement of a branch; that of DBNZ d,r lies in bits 15:8 of its operand. -/
def displacement (i : OhmInstr) : Word :=
  (BitVec.ofNat 8 (if i.mode = .relD then i.arg / 256 else i.arg)).signExtend 16

/-- A push of bytes in ascending order of address, as one store of `base` cycles; S after it (13_ohmore_model R332). -/
def pushBytes (p : Polder) (base : Nat) (c : Core) (bytes : List Byte) (s : State) : Word × State :=
  let sp := c.s - BitVec.ofNat 16 bytes.length
  (sp, writeMem p base sp.toNat bytes s)

/-- A branch where the condition holds: one more cycle, and P counts from the next instruction (14_ohmore_isa R352, R355). -/
def branchIf (p : Polder) (c : Core) (i : OhmInstr) (taken : Bool) (w : Writes) (s : State) : Writes × State :=
  let len : Word := if isLong i then 3 else 2
  if taken then ({ w with p := some (c.p + len + displacement i, 0) }, idleCycles p 1 s) else (w, s)

end Sys2Proof.Machine
end

