-- ==== Sys2Proof/Machine/Arith.lean ====
section
/-!
DEFINITION. The Ohmore instructions that compute (14_ohmore_isa Table 14-4): arithmetic, logic, decimal, shifts, compares and flags.
-/

namespace Sys2Proof.Machine

/-- The start of an operation on A with the operand byte: `f` gives the new A, none where A stays, and the flags. -/
def accOp (p : Polder) (f : Byte → Byte → Byte → Option Byte × FlagSet) (c : Core) (i : OhmInstr) (s : State) : Writes × State :=
  let (m, t) := operand8 p c i s
  let (r, fl) := f c.a m c.f
  ({ a := r, f := fl }, t)

/-- An operation on A alone, in one cycle. -/
def inhOp (p : Polder) (f : Byte → Byte → Byte × FlagSet) (c : Core) (s : State) : Writes × State :=
  let (r, fl) := f c.a c.f
  ({ a := some r, f := fl }, idleCycles p 1 s)

/-- A read-modify-write of the byte at the effective address: the read, one added cycle, the write (13_ohmore_model R336). -/
def rmwOp (p : Polder) (f : Byte → Byte → Byte × FlagSet) (c : Core) (i : OhmInstr) (s : State) : Writes × State :=
  let a := effAddr c i
  let (v, t) := readMem p (baseCycles i) a 1 s
  let (r, fl) := f (v.headD 0) c.f
  ({ f := fl }, if coreLive t p then writeMem p 1 a [r] t else t)

/-- A result that replaces A. -/
def keepA (x : Byte × FlagSet) : Option Byte × FlagSet := (some x.1, x.2)

/-- ADD (14_ohmore_isa R357). A ← A + M. -/
def execAdd (p : Polder) (s : State) : Result :=
  runOp p .add (accOp p fun a m _ => keepA (add8 a m false)) s

/-- ADC (14_ohmore_isa R357). A ← A + M + C. -/
def execAdc (p : Polder) (s : State) : Result :=
  runOp p .adc (accOp p fun a m f => keepA (add8 a m (hasFlag f flagC))) s

/-- SUB (14_ohmore_isa R357). A ← A − M. -/
def execSub (p : Polder) (s : State) : Result :=
  runOp p .sub (accOp p fun a m _ => keepA (sub8 a m false)) s

/-- SBC (14_ohmore_isa R357). A ← A − M − C. -/
def execSbc (p : Polder) (s : State) : Result :=
  runOp p .sbc (accOp p fun a m f => keepA (sub8 a m (hasFlag f flagC))) s

/-- AND (14_ohmore_isa R357). A ← A AND M. -/
def execAnd (p : Polder) (s : State) : Result :=
  runOp p .and (accOp p fun a m _ => keepA (logic8 (a &&& m))) s

/-- ORA (14_ohmore_isa R357). A ← A OR M. -/
def execOra (p : Polder) (s : State) : Result :=
  runOp p .ora (accOp p fun a m _ => keepA (logic8 (a ||| m))) s

/-- EOR (14_ohmore_isa R357). A ← A XOR M. -/
def execEor (p : Polder) (s : State) : Result :=
  runOp p .eor (accOp p fun a m _ => keepA (logic8 (a ^^^ m))) s

/-- CMP (14_ohmore_isa R357). A − M: the flags alone. -/
def execCmp (p : Polder) (s : State) : Result :=
  runOp p .cmp (accOp p fun a m _ => (none, (sub8 a m false).2)) s

/-- ADDD (14_ohmore_isa R360). A ← A + M + C, decimal. -/
def execAddd (p : Polder) (s : State) : Result :=
  runOp p .addd (accOp p fun a m f => keepA (addd8 a m (hasFlag f flagC))) s

/-- SUBD (14_ohmore_isa R360). A ← A − M − C, decimal. -/
def execSubd (p : Polder) (s : State) : Result :=
  runOp p .subd (accOp p fun a m f => keepA (subd8 a m (hasFlag f flagC))) s

/-- DAA (14_ohmore_isa R360). Decimal adjust of A after ADD or ADC. -/
def execDaa (p : Polder) (s : State) : Result :=
  runOp p .daa (fun c _ => inhOp p (fun a f => daa8 a (hasFlag f flagC) (hasFlag f flagH)) c) s

/-- INCA (14_ohmore_isa R357). A ← A + 1. -/
def execInca (p : Polder) (s : State) : Result :=
  runOp p .inca (fun c _ => inhOp p (fun a _ => inc8 a) c) s

/-- DECA (14_ohmore_isa R357). A ← A − 1. -/
def execDeca (p : Polder) (s : State) : Result :=
  runOp p .deca (fun c _ => inhOp p (fun a _ => dec8 a) c) s

/-- ASLA (14_ohmore_isa R357). A shifted left. -/
def execAsla (p : Polder) (s : State) : Result :=
  runOp p .asla (fun c _ => inhOp p (fun a _ => asl8 a) c) s

/-- LSRA (14_ohmore_isa R357). A shifted right. -/
def execLsra (p : Polder) (s : State) : Result :=
  runOp p .lsra (fun c _ => inhOp p (fun a _ => lsr8 a) c) s

/-- ROLA (14_ohmore_isa R357). A rotated left through C. -/
def execRola (p : Polder) (s : State) : Result :=
  runOp p .rola (fun c _ => inhOp p (fun a f => rol8 a (hasFlag f flagC)) c) s

/-- RORA (14_ohmore_isa R357). A rotated right through C. -/
def execRora (p : Polder) (s : State) : Result :=
  runOp p .rora (fun c _ => inhOp p (fun a f => ror8 a (hasFlag f flagC)) c) s

/-- CLRA (14_ohmore_isa R357). A ← 0. -/
def execClra (p : Polder) (s : State) : Result :=
  runOp p .clra (fun c _ => inhOp p (fun _ _ => (0, clrFlags)) c) s

/-- NEGA (14_ohmore_isa R357). A ← 0 − A. -/
def execNega (p : Polder) (s : State) : Result :=
  runOp p .nega (fun c _ => inhOp p (fun a _ => neg8 a) c) s

/-- COMA (14_ohmore_isa R357). A ← NOT A. -/
def execComa (p : Polder) (s : State) : Result :=
  runOp p .coma (fun c _ => inhOp p (fun a _ => com8 a) c) s

/-- INC (14_ohmore_isa R357). M ← M + 1. -/
def execInc (p : Polder) (s : State) : Result :=
  runOp p .inc (rmwOp p fun m _ => inc8 m) s

/-- DEC (14_ohmore_isa R357). M ← M − 1. -/
def execDec (p : Polder) (s : State) : Result :=
  runOp p .dec (rmwOp p fun m _ => dec8 m) s

/-- ASL (14_ohmore_isa R357). M shifted left. -/
def execAsl (p : Polder) (s : State) : Result :=
  runOp p .asl (rmwOp p fun m _ => asl8 m) s

/-- LSR (14_ohmore_isa R357). M shifted right. -/
def execLsr (p : Polder) (s : State) : Result :=
  runOp p .lsr (rmwOp p fun m _ => lsr8 m) s

/-- ROL (14_ohmore_isa R357). M rotated left through C. -/
def execRol (p : Polder) (s : State) : Result :=
  runOp p .rol (rmwOp p fun m f => rol8 m (hasFlag f flagC)) s

/-- ROR (14_ohmore_isa R357). M rotated right through C. -/
def execRor (p : Polder) (s : State) : Result :=
  runOp p .ror (rmwOp p fun m f => ror8 m (hasFlag f flagC)) s

/-- CLR (14_ohmore_isa R355, R357). M ← 0, written without a read; its added cycle is internal. -/
def execClr (p : Polder) (s : State) : Result :=
  runOp p .clr (fun c i t => ({ f := clrFlags }, writeMem p (baseCycles i + 1) (effAddr c i) [0] t)) s

/-- CPX (14_ohmore_isa R357). X − M16: 16-bit flags. -/
def execCpx (p : Polder) (s : State) : Result :=
  runOp p .cpx (fun c i t => let (m, u) := operand16 p c i t; ({ f := cmp16 c.x m }, u)) s

/-- CPY (14_ohmore_isa R357). Y − M16: 16-bit flags. -/
def execCpy (p : Polder) (s : State) : Result :=
  runOp p .cpy (fun c i t => let (m, u) := operand16 p c i t; ({ f := cmp16 c.y m }, u)) s

/-- ADX (14_ohmore_isa R357). X ← X + operand; no flags. -/
def execAdx (p : Polder) (s : State) : Result :=
  runOp p .adx (fun c i t => ({ x := some (c.x + addend16 i) }, idleCycles p (baseCycles i) t)) s

/-- ADY (14_ohmore_isa R357). Y ← Y + operand; no flags. -/
def execAdy (p : Polder) (s : State) : Result :=
  runOp p .ady (fun c i t => ({ y := some (c.y + addend16 i) }, idleCycles p (baseCycles i) t)) s

/-- INX (14_ohmore_isa R357). X + 1; Z alone. -/
def execInx (p : Polder) (s : State) : Result :=
  runOp p .inx (fun c _ t => let r := c.x + 1; ({ x := some r, f := ⟨flagZ, fbit flagZ (r == 0)⟩ }, idleCycles p 1 t)) s

/-- DEX (14_ohmore_isa R357). X − 1; Z alone. -/
def execDex (p : Polder) (s : State) : Result :=
  runOp p .dex (fun c _ t => let r := c.x - 1; ({ x := some r, f := ⟨flagZ, fbit flagZ (r == 0)⟩ }, idleCycles p 1 t)) s

/-- INY (14_ohmore_isa R357). Y + 1; Z alone. -/
def execIny (p : Polder) (s : State) : Result :=
  runOp p .iny (fun c _ t => let r := c.y + 1; ({ y := some r, f := ⟨flagZ, fbit flagZ (r == 0)⟩ }, idleCycles p 1 t)) s

/-- DEY (14_ohmore_isa R357). Y − 1; Z alone. -/
def execDey (p : Polder) (s : State) : Result :=
  runOp p .dey (fun c _ t => let r := c.y - 1; ({ y := some r, f := ⟨flagZ, fbit flagZ (r == 0)⟩ }, idleCycles p 1 t)) s

/-- CLC (14_ohmore_isa R357). C ← 0. -/
def execClc (p : Polder) (s : State) : Result :=
  runOp p .clc (fun _ _ t => ({ f := ⟨flagC, 0⟩ }, idleCycles p 1 t)) s

/-- SEC (14_ohmore_isa R357). C ← 1. -/
def execSec (p : Polder) (s : State) : Result :=
  runOp p .sec (fun _ _ t => ({ f := ⟨flagC, flagC⟩ }, idleCycles p 1 t)) s

/-- DI (14_ohmore_isa R357). I ← 0. -/
def execDi (p : Polder) (s : State) : Result :=
  runOp p .di (fun _ _ t => ({ f := ⟨flagI, 0⟩ }, idleCycles p 1 t)) s

/-- EI (14_ohmore_isa R357). I ← 1. -/
def execEi (p : Polder) (s : State) : Result :=
  runOp p .ei (fun _ _ t => ({ f := ⟨flagI, flagI⟩ }, idleCycles p 1 t)) s

end Sys2Proof.Machine
end

