-- ==== Sys2Proof/Machine/CoreStep.lean ====
section
/-!
DEFINITION. A core between its instructions (13_ohmore_model R340–R343, 14_ohmore_isa R367, R368): interrupt entry, the wake from WAIT, void fetches and reserved encodings.
-/

namespace Sys2Proof.Machine

/-! ### Interrupt entry (13_ohmore_model R342, Table 13-8) -/

/-- The frame in the order in which it is pushed. -/
def irqFrame (c : Core) : List Byte :=
  (wordBytes c.p).reverse ++ [c.f, c.a] ++ (wordBytes c.x).reverse ++ (wordBytes c.y).reverse ++
    [BitVec.ofNat 8 (match c.rpt with | some r => r.left | none => 0)]

/-- Push one byte past the buffer: S moves, and the byte follows the rules of its region; a breach that restarts the polder abandons the rest. -/
def pushOne (p : Polder) (s : State) (b : Byte) : State :=
  if coreLive s p = false then s
  else
    let sp := s.pld[p].core.s - 1
    let t := modCore p (fun c => { c with s := sp }) ((waitCycles sp.toNat).repeat (countCycle p) s)
    endAccess p (if dryByte t p sp.toNat (some b) then noteDry p sp.toNat t else writeOne p sp.toNat b t)

/-- The entry after its frame: I and T cleared, the PEND bit cleared, P from the vector; the pushes and the vector read take 6 cycles. -/
def vectorTo (p : Polder) (v : Nat) (s : State) : State :=
  if coreLive s p = false then s
  else
    let h := ramWord s p (0xFFE0 + 2 * v)
    let t := modCore p (fun c => { c with
      f := c.f &&& ~~~(flagI ||| flagT), rpt := none, p := h, pend := c.pend &&& ~~~(BitVec.ofNat 16 (2 ^ v)) }) ((6).repeat (countCycle p) s)
    traceMark p 4 h.toNat (if v = 13 then ctrAdd (pOhmDryTraps p) 1 t else t)

/-- Taking the request of vector `v`: the buffer drains, the frame is pushed, the core vectors. -/
def takeRequest (p : Polder) (v : Nat) (s : State) : State :=
  let t := drainAll p s
  vectorTo p v ((irqFrame t.pld[p].core).foldl (pushOne p) t)

/-- INTERRUPT_ENTRY (13_ohmore_model R342): at a boundary that allows it, the highest request that I lets through. -/
def execInterruptEntry (p : Polder) (s : State) : Result :=
  let c := s.pld[p].core
  if coreRunning s p = false ∨ boundaryOk c = false then .next s
  else match takable c with
    | none => .next s
    | some v => .next (takeRequest p v s)

/-- WAIT_WAKE (13_ohmore_model R343): by a request that can be taken, by vector; with I = 0, by an event since the clock stopped, by continuation. -/
def execWaitWake (p : Polder) (s : State) : Result :=
  let c := s.pld[p].core
  if s.mode.life ≠ .run ∨ domOn s (.pld p) = false ∨ c.phase ≠ .waiting then .next s
  else
    let t := modCore p (fun x => { x with phase := .running, woken := false }) s
    match takable c with
    | some v => .next (takeRequest p v t)
    | none => .next (if c.woken && !hasFlag c.f flagI then t else s)

/-! ### What is not an instruction (14_ohmore_isa R367, R368) -/

/-- FETCH_VOID (14_ohmore_isa R367): a NOP of 2 bytes and 1 cycle in place of a first byte in 0xC000–0xEFFF. -/
def execFetchVoid (p : Polder) (s : State) : Result :=
  match ready s p with
  | some (c0, .void) =>
    .next (commit p c0 2 {} (idleCycles p 1 (ctrAdd (pOhmFetchVoid p) 1 (modCore p (fun c => { c with f := c0.f, rpt := c0.rpt }) s))))
  | _ => .next s

/-- A free number below `n`. -/
def freeBelow (n : Nat) (s : State) : Nat × State := let (v, t) := takeFree s; (v % n, t)

/-- The RAM bytes that a reserved encoding writes: as many as a free number says, each at a free address below the protected pages
(14_ohmore_isa R368). -/
def freeCells (lim : Nat) : Nat → State → List Host.Cell × State
  | 0, s => ([], s)
  | n + 1, s =>
    let (a, s1) := freeBelow lim s
    let (v, s2) := freeBelow 256 s1
    let (r, s3) := freeCells lim n s2
    ((a, BitVec.ofNat 8 v) :: r, s3)

/-- What a reserved encoding may change: A, X, Y, S, N, V, H, Z and C, each to a free value (14_ohmore_isa R368, log entry 3). -/
def freeWrites (s : State) : Writes × State :=
  let (a, s1) := takeFree s
  let (x, s2) := takeFree s1
  let (y, s3) := takeFree s2
  let (sp, s4) := takeFree s3
  let (f, s5) := takeFree s4
  ({ a := some (BitVec.ofNat 8 a), x := some (BitVec.ofNat 16 x), y := some (BitVec.ofNat 16 y), s := some (BitVec.ofNat 16 sp),
     f := ⟨0xE3, BitVec.ofNat 8 f⟩ }, s5)

/-- RESERVED_OP (14_ohmore_isa R368): the confined effect of a reserved encoding, with free values; P advances and the cycles of its base pass. -/
def execReservedOp (p : Polder) (s : State) : Result :=
  match ready s p with
  | some (c0, .reserved len) =>
    let (w, s1) := freeWrites (ctrAdd (pOhmReservedOps p) 1 (modCore p (fun c => { c with f := c0.f, rpt := c0.rpt }) s))
    let lim := min (progFirst s p) 0xC000
    let (n, s2) := freeBelow (lim + 1) s1
    let (cells, s3) := freeCells lim n s2
    .next (commit p c0 len w (storeRam p (len - 1) cells s3))
  | _ => .next s

end Sys2Proof.Machine
end

