-- ==== Sys2Proof/Machine/Clocks.lean ====
section
/-!
DEFINITION. Clock synthesis (16_clocks): lock and loss of the PLLs, the change of reference, EXT_10M, the outputs and the clock faults.
-/

namespace Sys2Proof.Machine

/-- PLLA, PLLB and PLLC have all declared lock. -/
def lockABC (s : State) : Bool := locked s .a && locked s .b && locked s .c

/-- The clocks are in service: past the wait for lock at boot (16_clocks R410). -/
def clkService (s : State) : Bool :=
  s.mode.life == .run || (s.mode.life == .boot && s.boot.phase != .reference && s.boot.phase != .pllWait)

/-! ### Disciplined outputs (16_clocks R405–R408) -/

/-- The disciplined outputs that are enabled; in a differential pair the odd output's enable is ignored. -/
def ckdWanted (s : State) : Vector Bool 2 :=
  let e := cfgB s clkCfgCkd0En
  #v[e, if cfg s clkCfgCkdFmt = 0 then cfgB s clkCfgCkd1En else e]

/-- The outputs may run now: their gate, PLLD locked, CLK on. -/
def ckdMay (s : State) : Bool := ckdGate s && locked s .d && domOn s .clk

/-- CKD_RESTART (16_clocks R405, R406): at a whole ST second, the last one that has come: at least 2 ms after the anchor of a relock, after a stop at an anchor, and
with PLLD locked and the gate open since. -/
def execCkdRestart (s : State) : Result :=
  let at_ := tickOf s (stSec s)
  let due := match s.clk.ckdRelock with | some a => decide (((a + msTicks 2 : Nat) : Int) ≤ at_) | none => true
  if ckdMay s && due && decide ((s.clk.ckdFrom : Int) ≤ at_) && s.clk.ckdRun != ckdWanted s then
    .next (clkEmit (bump cClkCkdRestarts { s with clk := { s.clk with ckdRun := ckdWanted s, ckdRelock := none } }))
  else .next s

/-! ### Lock (16_clocks R401, R402) -/

/-- The relock in progress is complete: PLLC alone for a wake (15_power R383), else PLLA, PLLB and PLLC. -/
def relockDone (s : State) : Bool :=
  if s.pmu.wokenClk && s.mode.mode == .layup && s.mode.fixStart.isNone then locked s .c else lockABC s

/-- PLL_LOCK (16_clocks R401, R402, R410, 09_sky_time R218): the first lock of PLLB starts the tick counter; the relock of PLLA after a loss restarts
the CKO outputs, with a trigger due 1 ms later. A lock on the fallback path is not used. -/
def execPllLock (l : Pll) (s : State) : Result :=
  if s.clk.started = false ∨ s.mode.fallback ∨ domOn s .clk = false ∨ locked s l then .next s
  else
    let s1 := setLock l true s
    let s2 := if l = .b then { s1 with sky := { s1.sky with run := true } } else s1
    let s3 := if l = .a then ckoUpdate s2 else if l = .d then { s2 with clk := { s2.clk with ckdFrom := max s2.clk.ckdFrom s.sky.tick } } else s2
    let s4 := if l = .a ∧ s.mode.life = .run ∧ s.clk.relocking = false ∧ anyPortOn s then
        { s3 with clk := { s3.clk with trigAt := some s.sky.tick } } else s3
    let s5 := if s4.clk.relocking ∧ relockDone s4 then { s4 with clk := { s4.clk with relocking := false, refChange := false } } else s4
    .next (clkRefresh s5)

/-- The loss of PLLA (16_clocks R410 code 4): the CKO outputs stop, the ports fall into SYNC_LOST and a trigger in its restart gap is withdrawn. -/
def pllaLoss (s : State) : State :=
  let s1 := ckoUpdate (bump cClkPllaLosses (setLock .a false s))
  let s2 := { s1 with clk := { s1.clk with trigAt := none } }
  clkRefresh ((List.finRange 4).foldl (fun t p =>
    if portOn t p = false then t
    else
      let u := modPort p (fun q => { q with gap := false, word0 := if q.gap then none else q.word0 }) t
      if u.spt.port[p].lost ∨ u.spt.port[p].synced = false then u else loseSync p u) s2)

/-- PLL_LOSS (16_clocks R401, R410): codes 2, 4 and 5; before the clocks are in service only the lock is gone. -/
def execPllLoss (l : Pll) (s : State) : Result :=
  if locked s l = false then .next s
  else if clkService s = false then .next (setLock l false s)
  else .next (match l with
    | .a => pllaLoss s
    | .b => clockFault 2 s
    | .c => clockFault 2 s
    | .d => clkRefresh (ckdStop (setLock .d false s)))

/-- REFERENCE_LOSS (16_clocks R410 code 1). The boot oscillator is inside the device and is not lost. -/
def execReferenceLoss (s : State) : Result :=
  .next (if clkService s ∧ s.clk.refFreq ≠ 4 then clockFault 1 s else s)

/-! ### The reference (16_clocks R396–R398) -/

/-- Every PLL begins to relock. -/
def relockAll (s : State) : State :=
  { s with clk := { s.clk with lock := Vector.replicate 4 false, relocking := true, relockTick := s.sky.tick, ckdRun := Vector.replicate 2 false } }

/-- The change to EXT_10M that REF_SRC asks for, after common verification (16_clocks R397); with no EXT_10M there, REFIN stays. -/
def changeReference (s : State) : State :=
  if cfg s clkCfgRefSrc = 0 ∨ s.mode.fallback then s
  else if s.clk.extGood = 0 then bump cClkRefSwitchFail s
  else
    let t := relockAll s
    { t with clk := { t.clk with refExt := true, refChange := true } }

/-- RELOCK_TIMEOUT (16_clocks R397, R410 code 3): a relock not declared within 20 ms; a failed change of reference goes back to REFIN. -/
def execRelockTimeout (s : State) : Result :=
  if s.clk.relocking = false ∨ since s s.clk.relockTick (msTicks 20) = false then .next s
  else if s.clk.refChange then
    let t := relockAll (bump cClkRefSwitchFail s)
    .next (clkRefresh { t with clk := { t.clk with refExt := false, refChange := false } })
  else .next (clockFault 3 s)

/-- EXT10M_WINDOW (16_clocks R398): the edges of a 10 ms window of KCLK ticks. -/
def execExt10mWindow (edges : Nat) (s : State) : Result :=
  if locked s .b = false ∨ domOn s .clk = false ∨ s.mode.fallback ∨ since s s.clk.extAt (msTicks 10) = false then .next s
  else
    let good := decide (99998 ≤ edges) && decide (edges ≤ 100002)
    let n := if good then min 100 (s.clk.extGood + 1) else 0
    let t := { s with clk := { s.clk with extGood := n, extPresent := n == 100, extAt := s.sky.tick } }
    .next (clkRefresh (bumpIf (s.clk.extPresent && !good) cClkExt10mLosses t))

end Sys2Proof.Machine
end

