-- ==== Sys2Proof/Machine/Modes.lean ====
section
/-!
DEFINITION. Operating modes (01_architecture): power-up and the resets, mode rules, transitions, holdover, SURVEY and the periodic fixes of LAYUP.
-/

namespace Sys2Proof.Machine

/-! ### Power-up and resets (15_power R371, R372, 20_electrical R476) -/

/-- The device may boot: its rails are up, VIN in range and RESET_N high. -/
def bootIfFree (s : State) : State :=
  if s.aon.rails ∧ s.aon.brownout = false ∧ s.mode.rstLow = false ∧ s.mode.life = .reset then startBoot s else s

/-- VIN_THRESHOLD_RISE (15_power R371): the rails start in order; with RESET_N high boot follows. -/
def execVinThresholdRise (s : State) : Result :=
  .next (if s.aon.rails then s else bootIfFree { s with aon := { s.aon with rails := true } })

/-- BROWNOUT (15_power R372): VIN below 2.85 V for 10 µs or more acts as RESET_N held low; AON keeps its state. -/
def execBrownout (s : State) : Result :=
  if s.aon.rails = false ∨ s.aon.brownout then .next s
  else
    let t := deviceReset s
    .next { t with aon := { t.aon with brownout := true, brownouts := satInc t.aon.brownouts 1 } }

/-- BROWNOUT_RECOVERY (15_power R372): VIN back at or above 3.0 V; a full boot, after the release of RESET_N where that is later. -/
def execBrownoutRecovery (s : State) : Result :=
  .next (if s.aon.brownout then bootIfFree { s with aon := { s.aon with brownout := false } } else s)

/-- VIN_LOSS (15_power R372): below 2.0 V the always-on domain is cleared as well. -/
def execVinLoss (s : State) : Result := .next { (deviceReset s) with aon := {} }

/-- RESET_N_ASSERT (20_electrical R476): low for `ns` nanoseconds so far: below 100 it is ignored, from 1,000 on it resets, and between the two
it is either ignored or a full reset, by a free value (log entry 3). -/
def execResetNAssert (ns : Nat) (s : State) : Result :=
  let resetNow (t : State) : State := let u := deviceReset t; { u with mode := { u.mode with rstLow := true } }
  if ns < 100 then .next s
  else if 1000 ≤ ns then .next (resetNow s)
  else
    let (n, t) := takeFree s
    .next (if n % 2 = 0 then t else resetNow t)

/-- RESET_N_RELEASE (20_electrical R476): TEST_N low selects test mode, in which the device does not boot; else boot begins, once VIN allows it. -/
def execResetNRelease (testN : Bool) (s : State) : Result :=
  if s.mode.rstLow = false then .next s
  else
    let t := { s with mode := { s.mode with rstLow := false } }
    .next (if testN then bootIfFree t else { t with mode := { t.mode with life := .test } })

/-- VBAT_RESUME (15_power R381, 01_architecture Table 01-6): in the off state VBAT_SNS is at or above VRES; a full boot. -/
def execVbatResume (vbat : Nat) (s : State) : Result :=
  .next (if s.mode.life = .off ∧ s.aon.vres ≤ vbat then bootIfFree { s with mode := { s.mode with life := .reset } } else s)

/-! ### Mode rules (01_architecture R24) -/

/-- A rule's term holds (01_architecture Tables 01-8, 01-9): below THR, or at or above it; a quantity that is unavailable does not hold. -/
def ruleHolds (s : State) (i : Nat) : Bool :=
  let thr := cfgAt s bootRulesThr i
  let atLeast := cfgAt s bootRulesCmp i == 1
  let test (below : Bool) : Bool := if atLeast then !below else below
  match cfgAt s bootRulesQty i with
  | 0 => true
  | 1 => match socNow s with | some q => test (decide (q < thr)) | none => false
  | 2 => velValid s && (match pubRec s with | some r => test (decide (speedSq r.sol < ((10 * thr) * (10 * thr) : Nat))) | none => false)
  | 3 => match s.mode.stillSince with | some q => test (decide (((stNow s - q) / 60).floor < (thr : Int))) | none => false
  | 4 => test (decide ((s.mode.evtLevel.getLsbD (cfgAt s bootRulesArg i)).toNat < thr))
  | 5 => !s.aon.tj.isEmpty && test (decide (tjMean s 1000 < (sext 16 thr : Int)))
  | 6 => !s.aon.vbat.isEmpty && test (decide (vbatMean s < (thr : Rat)))
  | _ => false

/-- Target of a code (01_architecture Table 01-8). -/
def ruleTarget (n : Nat) : Target := if n = 1 then .thin else if n = 2 then .layup else .full

/-- What a check selects: the first valid rule that holds, else 15 and FULL. -/
def ruleSelect (s : State) : Nat × Target :=
  match (List.range 16).find? fun i => cfgAt s bootRulesValid i == 1 && ruleHolds s i with
  | some i => (i, ruleTarget (cfgAt s bootRulesTarget i))
  | none => (15, .full)

/-- One mode-rule check (01_architecture R24). -/
def ruleCheck (s : State) : State :=
  let (sel, tgt) := ruleSelect s
  let m := s.mode
  let count := if sel = m.pendRule ∧ tgt = m.pendTarget then m.pendCount + 1 else 1
  let t := { s with mode := { m with pendRule := sel, pendTarget := tgt, pendCount := count, firstCheck := false } }
  if m.firstCheck ∧ tgt = .full then publishMode { t with mode := { t.mode with rule := sel } }
  else if cfg s bootModesRuleDwell ≤ count ∧ tgt ≠ m.target then
    applyPrecedence (publishMode { t with mode := { t.mode with target := tgt, rule := sel } })
  else t

/-- The period of CHECK_PERIOD × 100 ms of ST that runs now (01_architecture R24). -/
def checkPeriod (s : State) : Nat := (stNow s * 10 / cfg s bootModesCheckPeriod).floor.toNat

/-- Ranks 3–7 of Table 01-4 that hold, rank k in bit k. While ranks 1 and 2 hold no check runs. -/
def rankBits (s : State) : Nat :=
  packFields [(3, 1, b2n s.mode.rank3), (4, 1, b2n (rank4 s)), (5, 1, b2n (rank5 s)), (6, 1, b2n (rank6Holds s)), (7, 1, b2n (!s.mode.aligned))]

/-- A check is due (01_architecture R24): the first of the boot, once in every CHECK_PERIOD of ST, and at once after a change of rank. -/
def checkDue (s : State) : Bool := s.mode.firstCheck || checkPeriod s != s.mode.checkAt || rankBits s != s.mode.ranksSeen

/-- MODE_RULE_CHECK (01_architecture R24). -/
def execModeRuleCheck (s : State) : Result :=
  .next (if s.mode.life = .run ∧ checkDue s then
    ruleCheck { s with mode := { s.mode with checkAt := checkPeriod s, ranksSeen := rankBits s } } else s)

/-! ### Transitions (01_architecture R21, R23) -/

/-- The first 2.5 ms slot boundary after an ST. -/
def slotAfter (q : Rat) : Rat := ((q * 400).floor + 1 : Rat) / 400

/-- The THIN duty window is open: from THIN_ON ms before a second to 20 ms after it (15_power R375). -/
def inDuty (s : State) : Bool :=
  let f := stNow s - (stNow s).floor
  decide (f < 2 / 100) || decide (1 - (cfg s pmuCfgThinOn : Rat) / 1000 ≤ f)

/-- The active set follows, and with it the thermal cause of the guarantee void (15_power R384, R385). -/
def refreshSet (s : State) : State := let t := activeRefresh s; voidThermalSet t.ary.reduced t

/-- The filters that do not run in the new mode are discarded; the precise filter starts at SURVEY (07_solver R157, Table 07-1). -/
def filtersFor (m : Mode) (s : State) : State :=
  if m = .survey then { s with sol := { s.sol with precOn := true } }
  else if m = .full ∨ m = .cold then s
  else { s with sol := { s.sol with
    precOn := false, prec := none, precF := none, iono := [], amb := [], wind := [], hold := none, holdSince := none, att := { s.sol.att with ok := false },
    levels := s.sol.levels.set 1 none } }

/-- MODE_TRANSITION (01_architecture R23): at the slot boundary after the decision. -/
def execModeTransition (s : State) : Result :=
  match s.mode.decided with
  | none => .next s
  | some (m, rank, q) =>
    if s.mode.life ≠ .run ∨ stNow s < slotAfter q then .next s
    else
      let s1 := filtersFor m (enterMode m rank s)
      let s2 := if oneAntMode s1 ∧ oneAntMode s = false then shrinkBank s1 else s1
      let s3 := refreshSet { s2 with pmu := { s2.pmu with duty := inDuty s2 } }
      .next (applyPrecedence (if s3.sol.std.isSome then writeSol s3 else s3))

/-- HOLD_ENTER (01_architecture R21): GNSS unusable for HOLD_ENTER s after first alignment; rank 6 holds. -/
def execHoldEnter (s : State) : Result := .next (if s.mode.life = .run ∧ rank6Holds s then applyPrecedence s else s)

/-- HOLD_EXIT (01_architecture R21): GNSS usable for HOLD_EXIT s in HOLDOVER. -/
def execHoldExit (s : State) : Result := .next (if s.mode.life = .run ∧ s.mode.mode = .holdover ∧ holdoverEnds s then applyPrecedence s else s)

/-- SURVEY_MAX (01_architecture R21): SURVEY_MAX × 10 s in SURVEY; FULL is decided, with SURVEY_EXIT 2 at the exit. -/
def execSurveyMax (s : State) : Result :=
  .next (if s.mode.life = .run ∧ s.mode.mode = .survey ∧ s.mode.decided.isNone ∧ (10 * cfg s bootModesSurveyMax : Rat) ≤ stNow s - s.mode.surveyAt then
    decideTo .full 8 { s with mode := { s.mode with exitWhy := 2 } } else s)

/-! ### LAYUP fixes (01_architecture R488) -/

/-- A fix ends; where ranks 3 and 4 have ceased to hold it ends LAYUP: to COLD after a failure or without alignment, else by the rule target. -/
def endFix (ok : Bool) (s : State) : State :=
  let t := { s with mode := { s.mode with fixStart := none, fixOk := none } }
  if t.mode.rank3 ∨ rank4 t then t
  else if !ok ∨ t.mode.aligned = false then decideTo .cold 7 t
  else decideTo (serviceMode t) 8 t

/-- LAYUP_FIX_START (01_architecture R488): at a whole multiple of LAYUP_FIX s; a fix still running ends there, and LAYUP with it where its ranks have ceased; the second lies after the boundary at which LAYUP took effect. CLK that is up with PLLC alone now
relocks PLLA and PLLB (15_power R383). -/
def execLayupFixStart (s : State) : Result :=
  let sec := stSec s
  if s.mode.life ≠ .run ∨ s.mode.mode ≠ .layup ∨ s.mode.decided.isSome ∨ sec % cfg s bootModesLayupFix ≠ 0 ∨
      (sec : Rat) ≤ s.mode.entryAt ∨ s.mode.fixStart = some sec then .next s
  else
    let t := if s.mode.fixStart.isSome then endFix s.mode.fixOk.isSome s else s
    let u := bump cPmuWakesSched { t with mode := { t.mode with fixStart := some sec, fixOk := none } }
    .next (if t.mode.decided.isSome then t else { u with clk := if domOn u .clk && !lockABC u && !u.clk.relocking then { u.clk with relocking := true, relockTick := u.sky.tick } else u.clk })

/-- LAYUP_FIX_TIMEOUT (01_architecture R488): 60 s without a valid standalone PVT. -/
def execLayupFixTimeout (s : State) : Result :=
  match s.mode.fixStart with
  | some f => .next (if s.mode.fixOk = none ∧ (60 : Rat) ≤ stNow s - f then endFix false s else s)
  | none => .next s

/-- LAYUP_FIX_END (01_architecture R488): the epoch of R132 has been made and no basin record waits. -/
def execLayupFixEnd (s : State) : Result :=
  let made : Bool := match s.mode.fixOk, s.msr.lastEpoch with | some q, some e => decide (fixEpoch q ≤ e) | _, _ => false
  .next (if s.mode.fixStart.isSome ∧ made ∧ s.hst.outB.recs = [] then endFix true s else s)

end Sys2Proof.Machine
end

