-- ==== Sys2Proof/Machine/Power.lean ====
section
/-!
DEFINITION. Power (15_power): the domain sequencer, the THIN duty window, wakes, the sample grid with the voltage ranks, the thermal governor and the
fuel gauge.
-/

namespace Sys2Proof.Machine

/-! ### What a mode asks of a domain (15_power R374, Table 15-3) -/

/-- A bank holds a channel of a share (05_tracking R124). -/
def bankShared (s : State) (n : Fin 4) : Bool :=
  (shareRows s).any fun r => decide (0 < r.count) && decide (r.first < 384 * (n.val + 1)) && decide (384 * n.val < r.first + r.count)

/-- On in COLD, SURVEY, FULL and HOLDOVER; in THIN and QUIET the duty window decides, in LAYUP a fix. -/
def dutyPos (s : State) : DomPos :=
  match s.mode.mode with
  | .layup => if s.mode.fixStart.isSome then .on else .retention
  | .thin | .quiet => if s.pmu.duty then .on else .retention
  | _ => .on

/-- The domain's state in the mode in force. -/
def modeTarget (s : State) (d : Domain) : DomPos :=
  let layup := s.mode.mode == .layup
  let slow := slowMode s
  let host : DomPos := if layup && s.mode.fixStart.isNone && !s.pmu.woken then .retention else .on
  let served := if layup then DomPos.retention else if slow && !served s (stSec s) then .retention else .on
  match d with
  | .aon | .time => .on
  | .com | .hst => host
  | .clk => if layup && s.mode.fixStart.isNone && !s.pmu.wokenClk then .off else .on
  | .nvm => .off
  | .spt n => if portEn s n = false then .off else if slow then (if portAnt s n = refAnt s then dutyPos s else .off) else .on
  | .gfr | .msr | .sol => dutyPos s
  | .trk n => if bankShared s n = false then .off else if slow then (if n = 0 then dutyPos s else .off) else .on
  | .snf | .lnk => served
  | .cry => if layup && !s.pmu.woken then .retention else .on
  | .obs => if layup || !(cfgB s obsCfgEn && (blockOf s 8 0x1910).isSome) then .off else .on
  | .pld n => if isDry s n then .off else if layup then .retention else .on

/-- Where a domain is headed: Table 15-3 in a mode; in SAFE off after the third copy of the record; else it stays. -/
def domTarget (s : State) (d : Domain) : DomPos :=
  match s.mode.life with
  | .run => modeTarget s d
  | .safe => if d = .aon ∨ s.boot.safeCopies < 3 then domAt s d else .off
  | _ => domAt s d

/-! ### The steps of the sequencer (15_power R376, R377, 13_ohmore_model R347) -/

/-- The core of a polder may be stopped here: not running, or at a boundary that allows an interrupt. -/
def stopOk (s : State) : Domain → Bool
  | .pld p => s.pld[p].core.phase != .running || boundaryOk s.pld[p].core
  | _ => true

/-- The gain steps that wait on a port are suppressed as it stops: no step is in flight any more, and the loop asks afresh (09_sky_time Table 09-5). -/
def dropSteps (p : Port) (s : State) : State :=
  let n := ((List.finRange 4).filter fun l => (laneAt s p l).req.isSome).length
  (List.range n).foldl (fun t _ => bump cSkySuppressedActions t)
    (modPort p (fun q => { q with lane := q.lane.map fun x => { x with req := none } }) s)

/-- What the stop step does: a port's waiting gain steps are suppressed, a core drains its store buffer, the clock outputs stop, a bank notes the tick. -/
def onStop (d : Domain) (s : State) : State :=
  match d with
  | .pld p => if coreLive s p then drainAll p s else s
  | .clk => { s with clk := { s.clk with ckoRun := Vector.replicate 4 false, ckdRun := Vector.replicate 2 false } }
  | .trk n => { s with pmu := { s.pmu with trkDown := s.pmu.trkDown.set n s.sky.tick } }
  | .spt n => dropSteps n s
  | _ => s

/-- What the save step does: a core is kept from where it stands. -/
def onSave (d : Domain) (s : State) : State :=
  match d with
  | .pld p => modCore p (fun c => { c with phase := match c.phase with | .running => .saved | .waiting => .savedWait | x => x }) s
  | _ => s

/-- What is lost when a domain's rail is removed. The gain index stands in the front end, and the lane keeps it (09_sky_time Table 09-5), with the episode
that only FIX_INDEX ends (02_sample_ports R47). -/
def onOff (d : Domain) (s : State) : State :=
  match d with
  | .clk => { s with clk := { s.clk with lock := Vector.replicate 4 false, relocking := false, trigAt := none, lsynTx := false } }
  | .spt n => sptRefresh n <| modPort n (fun q => { initFail := q.initFail, lane := q.lane.map fun x => { gain := x.gain, conflict := x.conflict } }) s
  | .trk n => { s with trk := { s.trk with chan := s.trk.chan.filter fun x => x.1 / 384 != n.val } }
  | .obs => { s with obs := {} }
  | _ => s

/-- The next step of a domain on its way down. -/
def stepDown (s : State) (d : Domain) : DomPos :=
  let off := domTarget s d == .off
  match domAt s d with
  | .on => .stopped
  | .stopped => .isolated
  | .isolated => if off then .cutOff else .saved
  | .saved => if off then .cutOff else .cutRetention
  | .cutRetention => .retention
  | .cutOff => .off
  | .retention => if off then .cutOff else .retention
  | .off => .off

/-- A sample port has stopped or come back: the active set follows (03_array R73). -/
def portsChanged (d : Domain) (s : State) : State := match d with | .spt _ => refreshSet s | _ => s

/-- DOMAIN_DOWN (15_power R376): one step of stop, isolate, save and cut. A cut in progress completes even where the domain is asked for again. -/
def execDomainDown (d : Domain) (s : State) : Result :=
  let pos := domAt s d
  let cutting := pos == .cutRetention || pos == .cutOff
  if d = .aon ∨ (domTarget s d = .on ∧ cutting = false) ∨ domTarget s d = pos ∨ (pos = .on ∧ stopOk s d = false) then .next s
  else
    let x := stepDown s d
    let t := setDom d x s
    .next (portsChanged d (clkRefresh (match x with
      | .stopped => onStop d t
      | .saved => onSave d t
      | .off => onOff d t
      | _ => t)))

/-- A saved core goes on where it stood (13_ohmore_model R347). -/
def resumeCore (p : Polder) (s : State) : State :=
  modCore p (fun c => { c with phase := match c.phase with | .saved => .running | .savedWait => .waiting | x => x }) s

/-- A channel back from retention (15_power R375): its replicas advanced over the gap at the rates that it held, its times shifted by the time in
retention, and its first full dump checked as after hollow ones. -/
def resumeChan (now away : Nat) (c : Chan) : Chan :=
  let gap : Rat := ((now : Rat) - c.last) * nominalRate
  let shift (x : Option Nat) : Option Nat := x.map (· + away)
  if c.st = .idle then c
  else { c with
    cycles := c.cycles + (chanCarrier c + c.fNco) * gap, tx := c.tx + c.codeRate * gap / (chanInfo c).chipHz, last := now,
    entered := c.entered + away, ecWin := c.ecWin.map fun x => (x.1 + away, x.2), weakSince := shift c.weakSince, strongSince := shift c.strongSince,
    lossSince := shift c.lossSince, coast := shift c.coast, beamOk := shift c.beamOk, takeAt := c.takeAt + away, cnFrom := c.cnFrom + away,
    dumpNo := c.dumpNo + (roundEven (c.codeRate * gap / (chanInfo c).chipHz / (chanInfo c).period)).toNat, dks := [], won := none, clPrev := none, recheck := true }

/-- What power-up brings: a bank's channels from retention, a port's trigger (02_sample_ports R36), a core, the relock of the PLLs (DESIGN CHOICE: log entry 104). -/
def onUp (d : Domain) (s : State) : State :=
  match d with
  | .pld p => resumeCore p s
  | .trk n =>
    let away := s.sky.tick - s.pmu.trkDown[n]
    { s with trk := { s.trk with chan := s.trk.chan.map fun x => if x.1 / 384 = n.val then (x.1, resumeChan s.sky.tick away x.2) else x } }
  | .spt n =>
    if cfg s sptCtrlSyncPolicy = 0 ∧ (List.finRange 4).any (fun q => q != n && portOn s q) then
      { s with spt := { s.spt with trigDue := s.spt.trigDue ++ [s.sky.tick] } }
    else s
  | .clk => { s with clk := { s.clk with lock := Vector.replicate 4 false, started := true, relocking := true, relockTick := s.sky.tick } }
  | _ => s

/-- The domains in the order of Table 15-2. -/
def allDomains : List Domain :=
  [.aon, .time, .com, .clk, .nvm] ++ (List.finRange 4).map Domain.spt ++ [.gfr] ++ (List.finRange 4).map Domain.trk ++ [.msr, .sol, .snf, .lnk, .cry, .hst, .obs] ++
    (List.finRange 8).map Domain.pld

/-- A domain waits for its rail: it is asked for and lies in retention or off. A polder that is off waits for the next boot. -/
def waitsRail (s : State) (d : Domain) : Bool :=
  domTarget s d == .on && (domAt s d == .retention || (domAt s d == .off && (match d with | .pld _ => false | _ => true)))

/-- Rail steps that began within the last 2 µs. -/
def recentRails (s : State) : List Nat := s.pmu.rails.filter fun t => decide (s.sky.tick < t + 983)

/-- A domain may begin its rail step (15_power R378): at most four begin in any 2 µs, in the order of Table 15-2. -/
def railFree (s : State) (d : Domain) : Bool :=
  decide ((recentRails s).length + ((allDomains.takeWhile (· != d)).filter (waitsRail s)).length < 4)

/-- A domain that waits for its rail comes up from retention or from off, where its rail step may begin. -/
def powerUp (d : Domain) (s : State) : State :=
  if waitsRail s d = false ∨ railFree s d = false then s
  else
    let t := setDom d .on { s with pmu := { s.pmu with rails := s.sky.tick :: recentRails s } }
    match domAt s d, d with
    | .off, .trk _ => t
    | _, _ => onUp d t

/-- Set whether a domain is asked for again during its cut. -/
def setAgain (d : Domain) (v : Bool) (s : State) : State := { s with pmu := { s.pmu with again := s.pmu.again.set (domIdx d) v } }

/-- DOMAIN_UP (15_power R376, R377): an entry abandoned at an abort point, a request noted during a cut, or a power-up. -/
def execDomainUp (d : Domain) (s : State) : Result :=
  if domTarget s d ≠ .on then .next s
  else match domAt s d with
    | .on => .next s
    | .stopped | .isolated | .saved =>
      let t := bump cPmuEntryAborts (setDom d .on s)
      .next (portsChanged d (clkRefresh (match d with | .pld p => resumeCore p t | .clk => ckoUpdate t | _ => t)))
    | .cutRetention | .cutOff => .next (setAgain d true s)
    | .retention | .off =>
      let t := powerUp d s
      .next (if domOn t d then portsChanged d (clkRefresh (if s.pmu.again[domIdx d] then bump cPmuReenables (setAgain d false t) else t)) else s)

/-! ### The THIN duty window (15_power R375) -/

/-- Domains that follow the duty window. -/
def dutyDomains (s : State) : List Domain :=
  ((List.finRange 4).filter fun n => portEn s n && portAnt s n == refAnt s).map Domain.spt ++ [.gfr, .trk 0, .msr, .sol]

/-- THIN_WINDOW_OPEN (15_power R375): THIN_ON before the second; the duty domains resume, those beyond the inrush limit with a DOMAIN_UP of their own (R378). -/
def execThinWindowOpen (s : State) : Result :=
  if s.mode.life ≠ .run ∨ (s.mode.mode ≠ .thin ∧ s.mode.mode ≠ .quiet) ∨ s.pmu.duty ∨ inDuty s = false then .next s
  else
    let t := { s with pmu := { s.pmu with duty := true } }
    .next ((dutyDomains t).foldl (fun u d => powerUp d u) t)

/-- THIN_WINDOW_CLOSE (15_power R375): 20 ms after the second; the duty domains go to retention. -/
def execThinWindowClose (s : State) : Result :=
  if s.mode.life ≠ .run ∨ (s.mode.mode ≠ .thin ∧ s.mode.mode ≠ .quiet) ∨ s.pmu.duty = false ∨ inDuty s then .next s
  else
    let t := { s with pmu := { s.pmu with duty := false } }
    .next ((dutyDomains t).foldl (fun u d => if domOn u d then onSave d (onStop d (setDom d .retention u)) else u) t)

/-! ### Wakes (15_power R381–R383) -/

/-- I2C_ADDRESS_MATCH (15_power R382, 18_host_ports R453): the block is captured at the match; with HST not on it is a wake. -/
def execI2cAddressMatch (addr : BitVec 7) (_read : Bool) (s : State) : Result :=
  if s.mode.life ≠ .run ∨ cfgB s hstCfgI2cEn = false ∨ addr.toNat ≠ cfg s hstCfgI2cAddr then .next s
  else
    let on := domOn s .hst
    let t := if on then s else bumpIf (!s.pmu.woken) cPmuWakesI2c (wakeHost s)
    let u := modHst (fun h => { h with i2cWasOn := on, lastTraffic := s.sky.tick }) t
    .next (modHst (fun h => { h with i2cBlock := some (i2cStatus u) }) u)

/-- UART_BREAK_WAKE (15_power R381, 18_host_ports R437): HU_RX low for 1 ms with HST not on; what the parser holds is void and autobaud starts anew. A wake that is
under way already is not counted again (18_host_ports Table 18-8). -/
def execUartBreakWake (s : State) : Result :=
  .next (if s.mode.life ≠ .run ∨ domOn s .hst then s else baudRestart (dropUnit (bumpIf (!s.pmu.woken) cPmuWakesBreak (wakeHost s))))

/-- No record waits that could leave: in LAYUP the basin's alone do (01_architecture Table 01-5). -/
def noRecordWaits (s : State) : Bool :=
  s.hst.outB.recs.isEmpty && (s.mode.mode == .layup || s.hst.pol.toList.all fun h => h.out.recs.isEmpty)

/-- HOST_IDLE (15_power R381): domains up for a wake only return after HOST_IDLE × 10 ms without traffic or a waiting record. -/
def execHostIdle (s : State) : Result :=
  .next (if (s.pmu.woken ∨ s.pmu.wokenClk) ∧ since s s.hst.lastTraffic (msTicks (10 * cfg s pmuCfgHostIdle)) ∧ noRecordWaits s then
    { s with pmu := { s.pmu with woken := false, wokenClk := false } } else s)

/-! ### The thermal governor (15_power R384, R385) -/

/-- PMU.STATUS goes out for a change, where records can (15_power R395). -/
def notePmu (s : State) : State := if s.mode.life = .run then recPmu s else s

/-- A level takes effect: the active set, the thermal cause and the record follow. Entries to a higher level count. -/
def setGov (l : Nat) (s : State) : State :=
  let t := { s with aon := { s.aon with govLevel := l, govNext := none, coolMs := 0 } }
  let u := if s.aon.govLevel < l then bump (if l = 1 then cPmuGovL1Entries else cPmuGovL2Entries) t else t
  if s.mode.life = .run then recPmu (refreshSet u) else u

/-- The level that the means call for (15_power R384), from the level in effect. -/
def govWanted (s : State) (cool : Nat) : Nat :=
  let l := s.aon.govLevel
  let hot := tjMean s 100
  if l < 2 ∧ 105 ≤ hot then 2
  else if l = 0 ∧ 100 ≤ hot then 1
  else if 0 < l ∧ 10000 ≤ cool then l - 1
  else l

/-- The governor at a sample. -/
def govSample (s : State) : State :=
  let l := s.aon.govLevel
  let cool := if l = 0 then 0 else if tjMean s 1000 ≤ (if l = 1 then 97 else 102) then s.aon.coolMs + 1 else 0
  let w := govWanted s cool
  let t := { s with aon := { s.aon with coolMs := cool } }
  if w = l then t
  else if anyPortOn s then (if t.aon.govNext = some w then t else { t with aon := { t.aon with govNext := some w, govAt := (nextStreamMs s).toNat } })
  else setGov w t

/-- GOVERNOR_LEVEL_CHANGE (15_power R384): at the stream millisecond boundary after the sample. -/
def execGovernorLevelChange (s : State) : Result :=
  .next (match s.aon.govNext with | some l => if s.sky.tick < s.aon.govAt then s else setGov l s | none => s)

/-! ### The fuel gauge (15_power R386–R388) -/

/-- Set GAUGE_DISAGREE. -/
def setDisagree (s : State) : State :=
  if s.aon.disagree then s else notePmu (bump cPmuGaugeDisagreeEpisodes { s with aon := { s.aon with disagree := true } })

/-- Charge in % of a rest voltage, through the OCV table (15_power R387). -/
def ocvPercent (s : State) (v : Nat) : Rat :=
  let at_ (k : Nat) : Rat := (cfgAt s pmuGaugeOcv k : Rat)
  if (v : Rat) ≤ at_ 0 then 0
  else if at_ 10 ≤ v then 100
  else match (List.range 10).find? fun k => decide (at_ k < v) && decide ((v : Rat) ≤ at_ (k + 1)) with
    | some k => 10 * k + 10 * ((v : Rat) - at_ k) / (at_ (k + 1) - at_ k)
    | none => 0

/-- GAUGE_ANCHOR (15_power R387): after REST_MIN minutes at rest, from the VBAT_SNS measured then; without PMU.GAUGE the gauge never anchors. -/
def execGaugeAnchor (s : State) : Result :=
  match s.aon.vbat with
  | [] => .next s
  | v :: _ =>
    if (blockOf s 8 0x1511).isNone ∨ s.aon.restMs < 60000 * cfg s pmuGaugeRestMin then .next s
    else
      let count := (ocvPercent s v / 100 * cfg s pmuGaugeCapacity * 36000000).floor
      let t := bump cPmuAnchors { s with aon := { s.aon with count := count, anchored := true, disagree := false, restMs := 0 } }
      .next (if s.aon.anchored ∧ s.aon.disagree = false then t else notePmu t)

/-! ### The sample grid (15_power R386) -/

/-- Add a sample to the window of 10 s of ST in which it falls (12_polders R321). -/
def senseAdd (win : Nat) (tj : Int) (vin vbat level : Nat) : List SenseWin → List SenseWin
  | w :: r => if w.win = win then ⟨win, w.n + 1, w.tj + tj, w.vin + vin, w.vbat + vbat, level⟩ :: r else ⟨win, 1, tj, vin, vbat, level⟩ :: [w]
  | [] => [⟨win, 1, tj, vin, vbat, level⟩]

/-- The gauge at a sample: the count, the rest time and the contradiction of a count that reaches 0 %. -/
def gaugeSample (s : State) : State :=
  let i := s.aon.current
  let n := s.aon.count + i
  let rest := if i.natAbs < 10 * cfg s pmuGaugeRestI then s.aon.restMs + 1 else 0
  let t := { s with aon := { s.aon with count := n, restMs := rest } }
  if s.aon.anchored ∧ 0 < s.aon.count ∧ n ≤ 0 ∧ (s.aon.vres : Rat) ≤ vbatMean s then setDisagree t else t

/-- The voltage ranks at a sample (01_architecture R18, R19, 15_power R388). On the fallback path only rank 2 acts (R20). -/
def voltageRanks (s : State) : State :=
  let v := vbatMean s
  if s.mode.life ≠ .run then s
  else if v < cfg s bootModesVoff then goOff s
  else if s.mode.fallback then s
  else if s.mode.rank3 then (if (cfg s bootModesVres : Rat) ≤ v then applyPrecedence { s with mode := { s.mode with rank3 := false } } else s)
  else if v < cfg s bootModesVcut then
    let t := { s with mode := { s.mode with rank3 := true } }
    applyPrecedence (match socNow s with | some q => if 20 ≤ q then setDisagree t else t | none => t)
  else s

/-- PMU.STATUS at 60 s (15_power R395). -/
def statusDue (s : State) : Bool :=
  s.mode.life == .run && (match s.pmu.statusTick with | some t => since s t (secTicks 60) | none => true)

/-- PMU_SAMPLE (15_power R384, R386): one sample of the 1 ms grid: die temperature in °C, VBAT_SNS and VIN in 10 mV, battery current in 0.1 mA. The grid
runs from the VIN threshold on. -/
def execPmuSample (tj : Int) (vbat vin : Nat) (current : Int) (s : State) : Result :=
  if s.aon.rails = false then .next s
  else
    let t := { s with
      aon := { s.aon with tj := (tj :: s.aon.tj).take 1000, vbat := (vbat :: s.aon.vbat).take 1000, vin := vin, current := current },
      pmu := { s.pmu with vinBadMs := if 300 ≤ vin ∧ vin ≤ 550 then 0 else s.pmu.vinBadMs + 1 } }
    let t1 := if 300 ≤ vin ∧ vin ≤ 550 then voidVinEnd t else t
    let t2 := govSample (gaugeSample t1)
    let t3 := if t2.mode.life = .run ∧ t2.sky.run then
        { t2 with aon := { t2.aon with sense := senseAdd ((stNow t2 / 10).floor.toNat) tj vin vbat t2.aon.govLevel t2.aon.sense } } else t2
    let t4 := voltageRanks t3
    .next (if statusDue t4 then recPmu t4 else t4)

end Sys2Proof.Machine
end

