-- ==== Sys2Proof/Machine/Image.lean ====
section
/-!
DEFINITION. The Jahorn image and its verification (17_boot_image R415–R428): the header, the segments, the parameter blocks, and the rules
that the chapters set for the fields.
-/

namespace Sys2Proof.Machine

/-! ### The header (17_boot_image R415, R418) -/

/-- Bits of the image header. -/
def hdr (l : List Byte) (lo w : Nat) : Nat := getBits (leNat (l.take 128)) lo w

/-- IMG_LEN. -/
def imgLen (l : List Byte) : Nat := hdr l 64 32

/-- Bytes of entry `k`: none for an unused one; bits 2:0 of its first byte count them. -/
def entryCmd (l : List Byte) (k : Nat) : List Byte := (leBytes 8 (hdr l (736 + 64 * k) 64)).drop 1 |>.take (hdr l (736 + 64 * k) 3)

/-- Opcodes that an entry may not begin with (17_boot_image R415). -/
def badEntryOps : List Nat := [0x01, 0x02, 0x12, 0x20, 0x21, 0x32, 0x34, 0x38, 0x3E, 0x52, 0x5C, 0x60, 0x71, 0xB1, 0xC7, 0xD8, 0xDC]

/-- An entry breaks R415. -/
def entryBad (l : List Byte) (k : Nat) : Bool :=
  match entryCmd l k with
  | [] => false
  | b :: _ => badEntryOps.contains b.toNat

/-- The header's checks of step 2, each with its bit (17_boot_image Table 17-3, R415). -/
def headerChecks (l : List Byte) : List (Nat × Bool) :=
  let mode := hdr l 96 3
  let segOk (n : Nat) : Nat × Bool := let len := hdr l (256 + 64 * n) 32; (256 + 64 * n, len == 0 || (decide (276 ≤ len) && decide (len ≤ 131280)))
  [(32, hdr l 32 16 == 1), (48, hdr l 48 16 == 128),
   (64, decide (512 ≤ imgLen l) && decide (imgLen l ≤ 8388608) && imgLen l % 4 == 0),
   (96, mode != 7), (99, hdr l 99 5 == 0), (117, hdr l 117 3 == 0), (120, hdr l 120 2 != 0 || mode == 6), (122, hdr l 122 6 == 0),
   (128, hdr l 128 1 == 1 || mode != 6), (129, hdr l 129 1 == 0 || mode == 6), (130, hdr l 130 30 == 0),
   (192, decide (140 ≤ hdr l 192 32) && decide (hdr l 192 32 ≤ 98440))] ++
  (List.range 8).map segOk ++ (List.range 4).map (fun k => (736 + 64 * k, !entryBad l k)) ++ [(992, hdr l 992 32 == 0)]

/-- Steps 1 and 2 on a header that the flash answered with (17_boot_image Table 17-9). -/
def headerFail (l : List Byte) : Option SafeCause :=
  if hdr l 0 32 ≠ 0x4E52484A then some ⟨1, 0, 0xFFFF, 0⟩
  else ((headerChecks l).find? fun x => !x.2).map fun x => ⟨2, 0, 0xFFFF, x.1 / 8⟩

/-! ### Segments (17_boot_image R419, R420) -/

/-- Offset and length of the common segment. -/
def commonAt (l : List Byte) : Nat × Nat := (hdr l 160 32, hdr l 192 32)

/-- Offset and length of polder `n`'s segment; length 0 where there is none. -/
def segAt (l : List Byte) (n : Nat) : Nat × Nat := (hdr l (224 + 64 * n) 32, hdr l (256 + 64 * n) 32)

/-- The bytes of a segment. -/
def segBytes (l : List Byte) (x : Nat × Nat) : List Byte := bytesAt l x.1 x.2

/-- The segments that the image has. -/
def segments (l : List Byte) : List (Nat × Nat) := commonAt l :: ((List.range 8).map (segAt l)).filter fun x => x.2 != 0

/-- A segment lies in the image, behind the header, at a multiple of 4. -/
def segPlaced (l : List Byte) (x : Nat × Nat) : Bool := x.1 % 4 == 0 && decide (128 ≤ x.1) && decide (x.1 + x.2 ≤ imgLen l)

/-- Two ranges of offset and length share a byte. -/
def rangesMeet (x y : Nat × Nat) : Bool := decide (x.1 < y.1 + y.2) && decide (y.1 < x.1 + x.2)

/-- The first of a list that meets an earlier one. -/
def firstMeeting : List (Nat × Nat) → List (Nat × Nat) → Option (Nat × Nat)
  | _, [] => none
  | seen, x :: r => if seen.any (rangesMeet x) then some x else firstMeeting (x :: seen) r

/-- Step 4: the layout of the segments and the common MAGIC. -/
def layoutFail (l : List Byte) : Option SafeCause :=
  match (segments l).find? fun x => !segPlaced l x with
  | some x => some ⟨4, 0, 0xFFFF, x.1⟩
  | none => match firstMeeting [] (segments l) with
    | some x => some ⟨4, 0, 0xFFFF, x.1⟩
    | none => if leAt l (commonAt l).1 4 = 0x47455343 then none else some ⟨4, 0, 0xFFFF, (commonAt l).1⟩

/-- Steps 5–7: ROOT_HASH, the maker key and the maker's signature (17_boot_image R420, R426). -/
def signatureFail (s : State) (l : List Byte) : Option SafeCause :=
  let c := segBytes l (commonAt l)
  let root := leBytes 32 (s.boot.otp % 2 ^ 256)
  let key := bytesAt c 8 64
  let hash := sha256 (bytesAt l 0 128 ++ c.take 72 ++ c.drop 136)
  if s.boot.otp % 2 ^ 256 = 0 then some ⟨5, 0, 0xFFFF, 0xFFFFFFFF⟩
  else if sha256 key ≠ root then some ⟨6, 0, 0xFFFF, (commonAt l).1 + 8⟩
  else if ecdsaVerify hash key (bytesAt c 72 64) = false then some ⟨7, 0, 0xFFFF, (commonAt l).1 + 72⟩
  else none

/-! ### Parameter blocks (17_boot_image R421, R422) -/

/-- A parameter block with its offset in the bytes it was read from. -/
abbrev PlacedBlock := Nat × ParamBlock

/-- The blocks that bytes hold, from offset `o`, and the offset of one that runs past the end. -/
def parseBlocks (owner : Nat) : Nat → List Byte → Nat → List PlacedBlock × Option Nat
  | 0, _, _ => ([], none)
  | n + 1, l, o =>
    if l = [] then ([], none)
    else
      let words := leAt l 2 2
      if l.length < 4 + 4 * words then ([], some o)
      else
        let r := parseBlocks owner n (l.drop (4 + 4 * words)) (o + 4 + 4 * words)
        ((o, ⟨owner, leAt l 0 2, words, leNat ((l.drop 4).take (4 * words))⟩) :: r.1, r.2)

/-- A code's block in an index. -/
def specOf (specs : List BlockSpec) (code : Nat) : Option BlockSpec := specs.find? fun b => b.code == code

/-- The words of a block are in its class; BOOT.RAM follows its own layout. -/
def classOk (specs : List BlockSpec) (ram : Bool) (b : ParamBlock) : Bool :=
  match specOf specs b.code with
  | some x => decide (x.minWords ≤ b.words) && decide (b.words ≤ x.maxWords) && b.words % x.unit == 0
  | none => ram && b.code == 0x1718 && decide (2 ≤ b.words) && decide (b.words ≤ 13824)

/-- The first block that breaks the structure: recognised and of the right kind, in its class, in strictly ascending code order. -/
def structBad (specs : List BlockSpec) (ram : Bool) : Option Nat → List PlacedBlock → Option PlacedBlock
  | _, [] => none
  | prev, b :: r =>
    let rising := match prev with | some c => decide (c < b.2.code) | none => true
    if rising && classOk specs ram b.2 then structBad specs ram (some b.2.code) r else some b

/-! ### Fields (17_boot_image Table 17-9 step 9) -/

/-- The places of a field in a block of so many words. -/
def places (r : FldRow) (words : Nat) : List Nat :=
  ((List.range r.count).map fun k => r.fld.lo + k * r.stride).filter fun lo => decide (lo + r.fld.width ≤ 32 * words)

/-- A field's value at a place. -/
def valueAt (f : Fld) (v lo : Nat) : Int := if f.signed then sext f.width (getBits v lo f.width) else (getBits v lo f.width : Nat)

/-- Places of fields out of their range. -/
def rangeBad (x : BlockSpec) (b : ParamBlock) : List Nat :=
  x.rows.flatMap fun r => (places r b.words).filter fun lo => decide (valueAt r.fld b.val lo < r.fld.min) || decide (r.fld.max < valueAt r.fld b.val lo)

/-- The bits that fields hold. -/
def fieldMask (x : BlockSpec) (words : Nat) : Nat :=
  (x.rows.flatMap fun r => (places r words).map fun lo => 2 ^ lo * (2 ^ r.fld.width - 1)).foldl (· ||| ·) 0

/-- Bits of the block's fixed layout: MSR.STATION's strings follow their own. -/
def layoutBits (b : ParamBlock) : Nat := if b.code = 0x0613 then 224 else 32 * b.words

/-- Reserved bits that are set. -/
def reservedBad (x : BlockSpec) (b : ParamBlock) : List Nat :=
  let m := fieldMask x b.words
  (List.range (layoutBits b)).filter fun i => b.val.testBit i && !m.testBit i

/-- The lowest bit of a list. -/
def lowest : List Nat → Option Nat
  | [] => none
  | b :: r => match lowest r with | some c => some (min b c) | none => some b

/-- The first failing bit of a block's fields. -/
def fieldBad (specs : List BlockSpec) (b : ParamBlock) : Option Nat :=
  match specOf specs b.code with
  | some x => lowest (rangeBad x b ++ reservedBad x b)
  | none => none

/-! ### Rules within a block (17_boot_image Table 17-9 step 9); `t` holds the blocks in question -/

/-- Words of a common block, 0 where it is absent. -/
def wordsOf (t : State) (owner code : Nat) : Nat := match blockOf t owner code with | some b => b.words | none => 0

/-- A rule of entry `k` of a block with entries of a stride in bits: the failing bit and whether it holds. -/
def perEntry (n stride lo : Nat) (ok : Nat → Bool) : List (Nat × Bool) := (List.range n).map fun k => (lo + stride * k, ok k)

/-- Ports that the image enables. -/
def enabledPorts (t : State) : List Nat := (List.range 4).filter fun p => cfgBAt t sptPortEn p

/-- SPT.PORT: distinct antennas of enabled ports (02_sample_ports R26). -/
def ruleSptPort (t : State) : List (Nat × Bool) :=
  perEntry 4 64 4 fun k => !(enabledPorts t).contains k ||
    (enabledPorts t).all fun j => decide (k ≤ j) || cfgAt t sptPortAnt j != cfgAt t sptPortAnt k

/-- SPT.LANE: P_LO below P_HI, FIX_INDEX within GAIN_MAX (02_sample_ports R50). -/
def ruleSptLane (t : State) : List (Nat × Bool) :=
  perEntry 16 32 5 (fun k => decide (cfgAt t sptLaneFixIndex k ≤ cfgAt t sptLaneGainMax k)) ++
  perEntry 16 32 14 (fun k => decide (cfgAt t sptLanePLo k < cfgAt t sptLanePHi k))

/-- SPT.GAIN: no entry twice, gains strictly rising with the index (02_sample_ports R50). -/
def ruleSptGain (t : State) : List (Nat × Bool) :=
  let n := wordsOf t 8 0x0212 / 2
  let same (i k : Nat) : Bool := cfgAt t sptGainPort i == cfgAt t sptGainPort k && cfgAt t sptGainLane i == cfgAt t sptGainLane k
  let ix (i : Nat) : Nat := cfgAt t sptGainIndex i
  perEntry n 64 6 (fun k => (List.range k).all fun i => !(same i k && ix i == ix k)) ++
  perEntry n 64 10 (fun k => (List.range n).all fun i => !same i k || !decide (ix i < ix k) || decide (cfgIAt t sptGainGain i < cfgIAt t sptGainGain k))

/-- ACQ.SIG (04_acquisition R95). -/
def ruleAcqSig (t : State) : List (Nat × Bool) :=
  let n := wordsOf t 8 0x0411
  let whole (k coh : Nat) : Bool := ((coh : Rat) / 1000 / (sigInfo k).period).den == 1
  perEntry n 32 1 (fun k => whole k (cfgAt t acqSigFastCoh k)) ++ perEntry n 32 16 (fun k => whole k (cfgAt t acqSigDeepCoh k)) ++
  perEntry n 32 8 (fun k => !cfgBAt t acqSigEn k || cfgAt t acqSigFastNc k != 0 || cfgAt t acqSigDeepNc k != 0)

/-- TRK.SHARE (05_tracking R130). -/
def ruleTrkShare (t : State) : List (Nat × Bool) :=
  let n := wordsOf t 8 0x0510 / 2
  let r (k : Nat) : Nat × Nat := (cfgAt t trkShareFirst k, cfgAt t trkShareCount k)
  let nav (ch : Nat) : Bool := (List.range n).any fun k =>
    decide ((r k).1 ≤ ch) && decide (ch < (r k).1 + (r k).2) && cfgAt t trkShareRole k == 0 && (cfgAt t trkShareBand k).testBit 0 ||
    decide ((r k).1 ≤ ch) && decide (ch < (r k).1 + (r k).2) && cfgAt t trkShareRole k == 0 && (cfgAt t trkShareBand k).testBit 2
  if n = 0 then [] else
  perEntry n 64 0 (fun k => (List.range k).all fun i => !rangesMeet (r i) (r k)) ++
  perEntry n 64 11 (fun k => decide ((r k).1 + (r k).2 ≤ 1536)) ++
  perEntry n 64 22 (fun k => cfgAt t trkShareRole k != 2 || decide (1408 ≤ (r k).1)) ++
  perEntry n 64 24 (fun k => cfgAt t trkShareConst k != 0) ++ perEntry n 64 31 (fun k => cfgAt t trkShareBand k != 0) ++
  [(0, (List.range 48).all nav)]

/-- The strings of MSR.STATION: the bytes that they take, none where they break the layout; their characters are 0x20–0x7E. -/
def stationStrings (b : ParamBlock) : Option Nat :=
  let l := leBytes (4 * b.words) b.val
  let n1 := leAt l 28 1
  let n2 := leAt l (29 + n1) 1
  let stop := 30 + n1 + n2
  let chars := bytesAt l 29 n1 ++ bytesAt l (30 + n1) n2
  if n1 ≤ 31 ∧ n2 ≤ 31 ∧ ceilDiv stop 4 = b.words ∧ (l.drop stop).all (· == 0) ∧ chars.all (fun c => decide (0x20 ≤ c.toNat) && decide (c.toNat ≤ 0x7E)) then some stop
  else none

/-- A number stored as 32 bytes, most significant first, in a field. -/
def beField (v : Nat) : Nat := beNat (leBytes 32 v)

/-- SOL.KEY (07_solver R191). -/
def ruleSolKey (t : State) : List (Nat × Bool) :=
  let n := wordsOf t 8 0x0711 / 18
  perEntry n 576 0 (fun k => (List.range k).all fun i => cfgAt t solKeyKeyId i != cfgAt t solKeyKeyId k) ++
  perEntry n 576 16 (fun k => decide (cfgAt t solKeyFromWeek k ≤ cfgAt t solKeyUntilWeek k)) ++
  perEntry n 576 64 (fun k => onCurve (beField (cfgAt t solKeyKeyX k)) (beField (cfgAt t solKeyKeyY k)))

/-- SNF.SHARE (08_snapshot_farm R216). -/
def ruleSnfShare (t : State) : List (Nat × Bool) :=
  let owns (p : Nat) : Bool := (List.range 128).any fun i => cfgAt t snfShareOwner i == p
  perEntry 128 4 0 (fun i => decide (cfgAt t snfShareOwner i ≤ 7) || cfgAt t snfShareOwner i == 15) ++
  [(512, decide (((List.range 8).map (cfgAt t snfShareStore)).sum ≤ 256))] ++
  perEntry 8 8 512 (fun p => owns p == (cfgAt t snfShareStore p != 0))

/-- Pulse periods in 10 µs (09_sky_time Table 09-12). -/
def pulsePeriods : List Nat := [100000, 10000, 1000, 100, 200000, 1000000]

/-- Half the occupied bandwidth of a channel in Hz (10_tag_link Table 10-1). -/
def halfBand (t : State) (k : Nat) : Int := (3 * chipRate t k / 4 : Nat)

/-- LNK.CHAN (10_tag_link R251, R278): of enabled channels only. -/
def ruleLnkChan (t : State) : List (Nat × Bool) :=
  let n := wordsOf t 8 0x1011 / 4
  let on := (List.range n).filter fun k => cfgBAt t lnkChanEn k
  let lo (k : Nat) : Int := (cfgAt t lnkChanFreq k : Int) - halfBand t k
  let hi (k : Nat) : Int := (cfgAt t lnkChanFreq k : Int) + halfBand t k
  let when (ok : Nat → Bool) (k : Nat) : Bool := !on.contains k || ok k
  perEntry n 128 0 (when fun k => on.all fun i => decide (hi k - lo i ≤ 6000000)) ++
  perEntry n 128 73 (when fun k => decide (8 * 2 ^ cfgAt t lnkChanSf k * 2 ^ cfgAt t lnkChanRep k ≤ 8 * 2 ^ cfgAt t lnkChanPreSf k)) ++
  perEntry n 128 77 (when fun k => on.all fun i => decide (k ≤ i) || !(decide (lo i < hi k) && decide (lo k < hi i)) || cfgAt t lnkChanCode i != cfgAt t lnkChanCode k) ++
  perEntry n 128 84 (when fun k => !cfgBAt t lnkChanSnap k || decide (8 / 1000 ≤ preTime t k))

/-- LNK.SLOTS (10_tag_link R260, R278). -/
def ruleLnkSlots (t : State) : List (Nat × Bool) :=
  let own (i : Nat) : Nat := cfgAt t lnkSlotsOwner i
  let r (p : Nat) : Nat × Nat := (cfgAt t lnkSlotsCtxFirst p, cfgAt t lnkSlotsCtxCount p)
  perEntry 400 4 0 (fun i => if i = 0 ∨ alarmSlot i then own i == 15 else decide (own i ≤ 7) || own i == 15) ++
  perEntry 8 32 1600 (fun p => (List.range p).all fun q => !rangesMeet (r q) (r p)) ++
  perEntry 8 32 1610 (fun p => decide ((r p).1 + (r p).2 ≤ 1024) && ((r p).2 != 0 || !(List.range 400).any fun i => own i == p))

/-- CLK.CFG (16_clocks R412); an output in a differential pair with an odd number is ignored (R408). -/
def ruleClkCfg (t : State) : List (Nat × Bool) :=
  let ok (div : Nat) : Bool := decide (div ≤ cfg t clkCfgCkdVco) && decide (1000 * cfg t clkCfgCkdVco ≤ 125000000 * div)
  [(3, (cfg t clkCfgSscMode != 1 || decide (cfg t clkCfgSscDepth ≤ 20)) && (cfg t clkCfgSscMode != 2 || decide (cfg t clkCfgSscDepth ≤ 10))),
   (64, !cfgB t clkCfgCkd0En || ok (cfg t clkCfgCkd0Div)),
   (96, !cfgB t clkCfgCkd1En || cfg t clkCfgCkdFmt != 0 || ok (cfg t clkCfgCkd1Div))]

/-- HST.SLOTS (18_host_ports R458). -/
def ruleHstSlots (t : State) : List (Nat × Bool) :=
  let slot (p : Nat) : Nat := cfgAt t hstSlotsSlot p
  let outq (p : Nat) : Nat := cfgAt t hstSlotsOutq p
  let total := cfg t hstSlotsOutqB + cfg t hstSlotsInqB + ((List.range 8).map fun p => outq p + cfgAt t hstSlotsInq p).sum
  perEntry 8 12 12 (fun p => slot p == 0 || decide (24 ≤ slot p)) ++
  perEntry 8 8 120 (fun p => (outq p == 0 || decide (32 ≤ outq p)) && (outq p == 0) == (slot p == 0)) ++
  [(112, decide (total ≤ 640))]

/-- The rules within a common block, by its code: the failing bit of each and whether it holds. -/
def commonRules (t : State) (b : ParamBlock) : List (Nat × Bool) :=
  match b.code with
  | 0x0110 => [(52, decide (cfg t bootModesVoff < cfg t bootModesVcut) && decide (cfg t bootModesVcut < cfg t bootModesVres))]
  | 0x0111 => perEntry b.words 32 5 fun k => if cfgAt t bootRulesQty k = 4 then decide (cfgAt t bootRulesArg k ≤ 3) else cfgAt t bootRulesArg k == 0
  | 0x0210 => ruleSptPort t
  | 0x0211 => ruleSptLane t
  | 0x0212 => ruleSptGain t
  | 0x0311 => [(25, decide (cfg t aryCfgResRise < cfg t aryCfgResDeny))]
  | 0x0411 => ruleAcqSig t
  | 0x0510 => ruleTrkShare t
  | 0x0511 => perEntry b.words 32 7 fun k => decide (cfgAt t trkSigEl k < cfgAt t trkSigVevl k)
  | 0x0513 => [(28, decide (cfg t trkCfgPliOff < cfg t trkCfgPliOn))]
  | 0x0613 => [(224, (stationStrings b).isSome)]
  | 0x0711 => ruleSolKey t
  | 0x0810 => ruleSnfShare t
  | 0x0911 => perEntry 2 64 7 fun k => decide (cfgAt t skyTpWidth k < pulsePeriods.getD (cfgAt t skyTpPeriod k) 0)
  | 0x0913 => [(0, decide (cfg t skySchedCommon + ((List.range 8).map (cfgAt t skySchedQuota)).sum ≤ 131072))]
  | 0x1011 => ruleLnkChan t
  | 0x1012 => ruleLnkSlots t
  | 0x1110 => [(26, decide (cfg t rfcCfgBiasRamp + 2 ≤ cfg t rfcCfgPaLead))]
  | 0x1112 => [(0, decide (((List.range 8).map (cfgAt t rfcShareShare)).sum + cfg t rfcShareShareC ≤ 100))]
  | 0x1210 => perEntry 32 4 0 fun i =>
      let o := cfgAt t pldCryptoOwner i
      if i = 0 ∨ i = 16 then o == 12 else decide (o ≤ 7) || o == 12 || o == 15
  | 0x1511 => perEntry 10 10 42 fun k => decide (cfgAt t pmuGaugeOcv k < cfgAt t pmuGaugeOcv (k + 1))
  | 0x1610 => ruleClkCfg t
  | 0x1810 => [(10, !cfgB t hstCfgSyncMode || cfg t hstCfgStop != 1), (32, cfgB t hstCfgSyncMode || decide (cfg t hstCfgBaud ≤ 12000000))]
  | 0x1811 => ruleHstSlots t
  | 0x1910 => [(32, decide (cfg t obsCfgCmnKib + ((List.range 8).map (cfgAt t obsCfgPolKib)).sum ≤ 256))]
  | _ => []

/-- The first failing bit of a list of rules. -/
def ruleBad (l : List (Nat × Bool)) : Option Nat := (l.find? fun x => !x.2).map (·.1)

/-- MSR.STATION is ignored without RTCM_EN (06_measurements R154). -/
def blockIgnored (t : State) (b : ParamBlock) : Bool := b.code == 0x0613 && !cfgB t msrExportRtcmEn

/-- The first failing bit of a common block: its fields, then its rules. -/
def commonBlockBad (t : State) (b : ParamBlock) : Option Nat :=
  if blockIgnored t b then none
  else match fieldBad commonBlocks b with
    | some k => some k
    | none => ruleBad (commonRules t b)

/-! ### Required blocks and rules across blocks (17_boot_image Table 17-9 steps 10, 11) -/

/-- Required blocks that are missing (17_boot_image Table 17-5). -/
def missingBlocks (t : State) : List Nat :=
  let need : List Nat := [0x0210, 0x0211] ++ (if 2 ≤ (enabledPorts t).length then [0x0310] else []) ++ (if cfgB t msrExportRtcmEn then [0x0613] else [])
  need.filter fun c => (blockOf t 8 c).isNone

/-- Antennas of enabled ports. -/
def enabledAnts (t : State) : List (Fin 4) := (enabledPorts t).map fun p => ⟨cfgAt t sptPortAnt p % 4, Nat.mod_lt _ (by decide)⟩

/-- Antenna and band of the enabled lanes (02_sample_ports R30). -/
def enabledLanes (t : State) : List (Nat × Nat) :=
  (enabledPorts t).flatMap fun p => ((List.range 4).map fun l => (cfgAt t sptPortAnt p, cfgAt t sptLaneBand (4 * p + l))).filter fun x => x.2 != 0

/-- Every lane with a gain table has an entry for every index up to GAIN_MAX (02_sample_ports R50). -/
def gainsComplete (t : State) : Bool :=
  let n := wordsOf t 8 0x0212 / 2
  (List.range 16).all fun k => decide (2 ≤ cfgAt t sptLaneGainMode k) ||
    (List.range (cfgAt t sptLaneGainMax k + 1)).all fun i => (List.range n).any fun e =>
      cfgAt t sptGainPort e == k / 4 && cfgAt t sptGainLane e == k % 4 && cfgAt t sptGainIndex e == i

/-- The enabled antennas lie in one plane, and it is tilted more than 60° from horizontal (03_array R52). -/
def planeTilted (t : State) : Bool :=
  let pts := (enabledAnts t).map (antVec t)
  match pts with
  | o :: r =>
    let d := r.map fun v => vAdd v (vScale (-1) o)
    match (d.flatMap fun a => d.map (vCross a)).find? fun n => !vZero n with
    | some n => decide (3 ≤ pts.length) && d.all (fun a => vDot n a == 0) && decide (4 * (n.z * n.z) < vDot n n)
    | none => false
  | [] => false

/-- ARY.GEOM and ARY.CFG (03_array R52, R74): block, bit and whether the rule holds. -/
def arrayRules (t : State) : List (Nat × Nat × Bool) :=
  let ants := enabledAnts t
  let geom := (blockOf t 8 0x0310).isSome
  let carried (f : Fld) : Bool := ants.any fun a => a.val == cfg t f
  [(0x0310, 64 * (refAnt t).val, !geom || vZero (antVec t (refAnt t))),
   (0x0310, 0xFFFF, !geom || allDistinct (ants.map (antVec t))),
   (0x0310, 0xFFFF, !geom || !planeTilted t),
   (0x0311, 0, ants.isEmpty || carried aryCfgRef),
   (0x0311, 2, decide (ants.length < 2) || (cfg t aryCfgKeep2 != cfg t aryCfgRef && carried aryCfgKeep2))]

/-- The beacon's rules (10_tag_link R278), where the link is on. -/
def beaconRules (t : State) : List (Nat × Nat × Bool) :=
  let ch := cfg t lnkCfgBeaconCh
  let on := (blockOf t 8 0x1011).isSome && cfgB t lnkCfgBeaconEn
  [(0x1010, 1, !on || (cfgBAt t lnkChanEn ch && !(cfg t lnkCfgAlarmCh).testBit ch)),
   (0x1010, 1, !on || decide (beaconTime t ch ≤ 24 / 10000))]

/-- Owners of the slots with their numbers. -/
def ownedSlots (t : State) : List (Nat × Nat) := ((List.range 400).map fun i => (i, slotOwner t i)).filter fun x => decide (x.2 < 8)

/-- G unowned slots lie between runs of different polders (11_radio_control R291). -/
def gapsOk (g : Nat) : List (Nat × Nat) → Bool
  | a :: b :: r => (a.2 == b.2 || decide (a.1 + g < b.1)) && gapsOk g (b :: r)
  | _ => true

/-- The slot map keeps its gaps (11_radio_control R291): also between any run and slot 0 of this superframe and of the next. -/
def slotMapOk (t : State) : Bool :=
  let g := ceilDiv (2 * offMinMax t) 5
  let l := ownedSlots t
  gapsOk g l && l.all fun x => decide (g < x.1) && decide (x.1 + g < 400)

/-- The host slots fit a cycle (18_host_ports R458); half-bits per character and 0.98 × 1 ms. -/
def hostFits (t : State) : Bool :=
  let rate := if cfgB t hstCfgAutobaud then cfg t hstCfgMinBaud else cfg t hstCfgBaud
  let total := cfg t hstSlotsSlotB + ((List.range 8).map (cfgAt t hstSlotsSlot)).sum
  decide ((total : Rat) * charHalfBits t / 2 ≤ 98 / 100 * rate / 1000)

/-- The rules across blocks: block, bit and whether the rule holds. -/
def crossRules (t : State) : List (Nat × Nat × Bool) :=
  [(0x0211, 0xFFFF, allDistinct (enabledLanes t)), (0x0212, 0xFFFF, gainsComplete t)] ++ arrayRules t ++ beaconRules t ++
  [(0x1012, 0xFFFF, slotMapOk t), (0x1510, 0, decide (((List.range 8).map (cfgAt t pmuCfgBudget)).sum ≤ 400)), (0x1811, 0, hostFits t)]

/-! ### Common verification (17_boot_image R427) -/

/-- The common segment's blocks, with their offsets in the image. -/
def commonParsed (l : List Byte) : List PlacedBlock × Option Nat :=
  let c := commonAt l
  parseBlocks 8 c.2 ((segBytes l c).drop 136) (c.1 + 136)

/-- Step 8. -/
def structFail (x : List PlacedBlock × Option Nat) : Option SafeCause :=
  match structBad commonBlocks false none x.1 with
  | some b => some ⟨8, b.2.code, 0xFFFF, b.1⟩
  | none => x.2.map fun o => ⟨8, 0, 0xFFFF, o⟩

/-- Step 9. -/
def fieldsFail (t : State) (l : List PlacedBlock) : Option SafeCause :=
  l.findSome? fun b => (commonBlockBad t b.2).map fun k => ⟨9, b.2.code, k, b.1⟩

/-- Step 10. -/
def requiredFail (t : State) : Option SafeCause := (missingBlocks t).head?.map fun c => ⟨10, c, 0xFFFF, 0xFFFFFFFF⟩

/-- Step 11. -/
def crossFail (t : State) (l : List PlacedBlock) : Option SafeCause :=
  ((crossRules t).find? fun x => !x.2.2).map fun x => ⟨11, x.1, x.2.1, match l.find? fun b => b.2.code == x.1 with | some b => b.1 | none => 0xFFFFFFFF⟩

/-- Steps 8–11 on the parsed blocks. -/
def blocksFail (s : State) (x : List PlacedBlock × Option Nat) : Option SafeCause :=
  let t := { s with boot := { s.boot with blocks := x.1.map (·.2) } }
  match structFail x with
  | some f => some f
  | none => match fieldsFail t x.1 with
    | some f => some f
    | none => match requiredFail t with
      | some f => some f
      | none => crossFail t x.1

/-- Steps 5–11. -/
def commonFail (s : State) (l : List Byte) : Option SafeCause :=
  match signatureFail s l with
  | some f => some f
  | none => blocksFail s (commonParsed l)

/-! ### Polder segments (17_boot_image R423–R425, R428) -/

/-- CT_LEN of a segment. -/
def ctLen (g : List Byte) : Nat := leAt g 8 4

/-- The structural checks of a polder segment's header (17_boot_image R428). -/
def segHeaderOk (s : State) (p : Polder) (g : List Byte) (len : Nat) : Bool :=
  let h := leNat (g.take 208)
  leAt g 0 4 == 0x47455350 && getBits h 32 3 == p.val && getBits h 35 29 == 0 && getBits h 96 32 == 0 && getBits h 1504 32 == 0 &&
  ctLen g % 4 == 0 && decide (68 ≤ ctLen g) && decide (ctLen g ≤ 131072) && len == 208 + ctLen g &&
  decide (len ≤ 16 * cfgAt s skySchedQuota p.val) && !(cryptoSlots s p).isEmpty

/-- An extent of BOOT.RAM: address, length and bytes. -/
abbrev Extent := Nat × Nat × List Byte

/-- The extents of BOOT.RAM, none where one runs past the end, is out of range or is padded with other than zeros. -/
def parseExtents : Nat → List Byte → Option (List Extent)
  | 0, l => if l = [] then some [] else none
  | n + 1, l =>
    if l = [] then some []
    else
      let a := leAt l 0 2
      let len := leAt l 2 2
      let w := 4 * ceilDiv len 4
      let data := (l.drop 4).take w
      if len = 0 ∨ 49152 < len ∨ data.length < w ∨ (data.drop len).any (· != 0) then none
      else (parseExtents n (l.drop (4 + w))).map fun r => (a, len, data.take len) :: r

/-- BOOT.RAM holds (17_boot_image R425): extents in RAM, none overlapping, one over the reset vector. -/
def extentsOk (l : List Extent) : Bool :=
  let r := l.map fun x => (x.1, x.2.1)
  r.all (fun x => decide (x.1 + x.2 ≤ 0xC000) || (decide (0xF000 ≤ x.1) && decide (x.1 + x.2 ≤ 0x10000))) &&
  (firstMeeting [] r).isNone && r.any fun x => decide (x.1 ≤ 0xFFFE) && decide (0x10000 ≤ x.1 + x.2)

/-- The extents of a block. -/
def extentsOf (b : ParamBlock) : Option (List Extent) := parseExtents b.words (leBytes (4 * b.words) b.val)

/-- Entries of LNK.ROSTER. -/
def rosterCount (t : State) (p : Polder) : Nat := wordsOf t p.val 0x1018 / 8

/-- LNK.ROSTER (10_tag_link R278). -/
def rosterOk (t : State) (p : Polder) : Bool :=
  let n := rosterCount t p
  let c (k : Nat) : Nat := cfgPAt t p lnkRosterCtx k
  let first := cfgAt t lnkSlotsCtxFirst p.val
  decide (n ≤ cfgAt t lnkSlotsCtxCount p.val) && allDistinct ((List.range n).map c) &&
  (List.range n).all fun k => decide (first ≤ c k) && decide (c k < first + cfgAt t lnkSlotsCtxCount p.val) && cfgPAt t p lnkRosterState k != 2

/-- Entries of PLD.SLUICE. -/
def sluiceCount (t : State) (p : Polder) : Nat := wordsOf t p.val 0x1219

/-- PLD.SLUICE (12_polders R329). -/
def sluiceOk (t : State) (p : Polder) : Bool :=
  let l := List.range (sluiceCount t p)
  allDistinct (l.map (cfgPAt t p pldSluiceIndex)) && l.all (fun k => cfgPAt t p pldSluicePeer k != p.val) &&
  allDistinct (l.map fun k => (cfgPAt t p pldSluicePeer k, cfgPAt t p pldSluiceId k, cfgPAt t p pldSluiceDir k))

/-- Required blocks of a polder segment (17_boot_image Table 17-5, 18_host_ports R458). -/
def polderRequired (t : State) (p : Polder) : Bool :=
  (blockOf t p.val 0x1218).isSome && (blockOf t p.val 0x1718).isSome && (cfgAt t hstSlotsSlot p.val == 0 || (blockOf t p.val 0x1818).isSome)

/-- Bytes that a segment's blocks take in the parameter-block store (17_boot_image R425). -/
def storeBytes (l : List PlacedBlock) : Nat := (l.map fun b => if b.2.code = 0x1718 ∨ b.2.code = 0x1018 then 0 else 4 + 4 * b.2.words).sum

/-- The plaintext's structure and fields hold (17_boot_image R428). -/
def plainOk (s : State) (p : Polder) (x : List PlacedBlock × Option Nat) : Bool :=
  let l := x.1.map (·.2)
  let t := { s with boot := { s.boot with blocks := s.boot.blocks ++ l } }
  let ram := match l.find? fun b => b.code == 0x1718 with | some b => (match extentsOf b with | some e => extentsOk e | none => false) | none => false
  x.2.isNone && (structBad polderBlocks true none x.1).isNone && l.all (fun b => (fieldBad polderBlocks b).isNone) &&
  decide (storeBytes x.1 ≤ 4096) && polderRequired t p && ram && rosterOk t p && sluiceOk t p

end Sys2Proof.Machine
end

