-- ==== Sys2Proof/Machine/Boot.lean ====
section
/-!
DEFINITION. Boot (16_clocks R396, R402, R403, 17_boot_image R414–R432) and the loading of the polder segments (12_polders R324, R325).
-/

namespace Sys2Proof.Machine

/-! ### SAFE (17_boot_image R432) -/

/-- The common segment has failed: SAFE, from which only a reset leads. -/
def enterSafe (f : SafeCause) (s : State) : State :=
  { s with boot := { s.boot with fail := some f, due := s.sky.tick }, mode := { s.mode with life := .safe } }

/-- The payload of copy `n` of the SAFE record (17_boot_image Table 17-11). -/
def safePayload (s : State) (f : SafeCause) (n : Nat) : List Byte :=
  leBytes 2 0x1101 ++ leBytes 16 (packFields
    [(0, 16, 0x0B00), (16, 4, f.cause), (20, 1, b2n s.mode.fallback), (21, 3, s.clk.refFreq), (24, 2, n), (32, 16, f.block),
     (48, 16, min f.bit 0xFFFF), (64, 32, f.offset), (96, 32, s.boot.version)])

/-- Every domain but AON is off. -/
def allOff (s : State) : State :=
  { s with pmu := { s.pmu with dom := Vector.ofFn fun (i : Fin 29) => if i = domIdx .aon then .on else .off } }

/-- SAFE_RECORD (17_boot_image R432): one copy goes out at 115,200 baud, with SEQ 0, 1 and 2 in order, 100 ms after the one before; after the third every domain
but AON goes off. -/
def execSafeRecord (s : State) : Result :=
  match s.boot.fail with
  | none => .next s
  | some f =>
    if s.mode.life ≠ .safe ∨ 3 ≤ s.boot.safeCopies ∨ s.sky.tick < s.boot.due then .next s
    else
      let n := s.boot.safeCopies + 1
      let u := unitBytes 8 0 0 s.boot.safeCopies (safePayload s f n)
      let t := { s with
        boot := { s.boot with safeCopies := n, due := s.sky.tick + msTicks 100 },
        hst := { s.hst with line := u, rate := 115200, sentChars := s.hst.sentChars + u.length, outB := { s.hst.outB with counter := n } } }
      .next (if n = 3 then allOff t else t)

/-! ### The reference and the PLLs (16_clocks R396, R402, R403) -/

/-- The loader goes to a phase. -/
def toPhase (p : BootPhase) (s : State) : State := { s with boot := { s.boot with phase := p } }

/-- The fallback clock path: every PLL is held open-loop, and the device runs from the reference. -/
def fallbackPath (s : State) : State :=
  toPhase .fallbackImage { s with
    mode := { s.mode with fallback := true },
    clk := { s.clk with lock := Vector.replicate 4 false, started := false, relocking := false },
    sky := { s.sky with run := true } }

/-- The nearest of the four reference frequencies to a count of edges in 1 ms, as REF_FREQ; the lower where two are as near. -/
def nearestRef (edges : Nat) : Nat :=
  let d (f : Nat) : Nat := ((f : Int) - edges).natAbs
  if d 10000 ≤ d 19200 ∧ d 10000 ≤ d 26000 ∧ d 10000 ≤ d 38400 then 0
  else if d 19200 ≤ d 26000 ∧ d 19200 ≤ d 38400 then 1
  else if d 26000 ≤ d 38400 then 2 else 3

/-- REFERENCE_DETECTION (16_clocks R396): the edges that 1 ms of the boot oscillator counts; with none, the fallback path at once. -/
def execReferenceDetection (edges : Nat) (s : State) : Result :=
  if s.mode.life ≠ .boot ∨ s.boot.phase ≠ .reference then .next s
  else if edges = 0 then .next (fallbackPath { s with clk := { s.clk with refFreq := 4 } })
  else .next (toPhase .pllWait { s with clk := { s.clk with refFreq := nearestRef edges, started := true } })

/-- A command in 1-1-1 at SYSCLK/16 (17_boot_image R414, R415). -/
def plainCmd (bytes : List Byte) : FlashCmd := ⟨0, 12288, bytes⟩

/-- The JEDEC reset pair in 1-1-1, in 4-4-4, and in 8D-8D-8D with each opcode followed by its complement (17_boot_image R414). -/
def resetPairs : List FlashCmd :=
  [plainCmd [0x66], plainCmd [0x99], ⟨3, 12288, [0x66]⟩, ⟨3, 12288, [0x99]⟩, ⟨6, 12288, [0x66, 0x99]⟩, ⟨6, 12288, [0x99, 0x66]⟩]

/-- Note commands to the flash, and how many ticks the loader then waits. -/
def flashSend (l : List FlashCmd) (wait : Nat) (s : State) : State :=
  { s with boot := { s.boot with sent := s.boot.sent ++ l, due := s.sky.tick + wait } }

/-- BOOT_PLL_LOCK (16_clocks R402, 17_boot_image R414): PLLA, PLLB and PLLC have all declared lock; the flash is reset and given t_NVRST. -/
def execBootPllLock (s : State) : Result :=
  .next (if s.mode.life = .boot ∧ s.boot.phase = .pllWait ∧ lockABC s then toPhase .header (flashSend resetPairs 245760 s) else s)

/-- T_BOOTWAIT_EXPIRY (16_clocks R402): one of the three has not; the fallback path. -/
def execTBootwaitExpiry (s : State) : Result :=
  .next (if s.mode.life = .boot ∧ s.boot.phase = .pllWait ∧ lockABC s = false then fallbackPath s else s)

/-! ### The flash (17_boot_image R414–R417) -/

/-- The next step after entry `k - 1`: the first used entry from `k` on, else the second header read. -/
def entryPhase (h : List Byte) (k : Nat) : BootPhase :=
  match (List.range 4).find? fun i => decide (k ≤ i) && !(entryCmd h i).isEmpty with
  | some i => .entries i
  | none => .reread

/-- An address as it goes out, most significant byte first. -/
def flashAddr (four : Bool) (a : Nat) : List Byte := (leBytes (if four then 4 else 3) a).reverse

/-- A read from an address in the image's mode (17_boot_image R416, Table 17-1): NV_CMD, in 8D-8D-8D with its complement, and the address. -/
def imageCmd (h : List Byte) (a : Nat) : FlashCmd :=
  let op : Byte := BitVec.ofNat 8 (hdr h 104 8)
  ⟨hdr h 96 3, (196608 : Rat) / 2 ^ hdr h 120 2, (if hdr h 96 3 = 6 then [op, ~~~op] else [op]) ++ flashAddr (hdr h 128 1 == 1) a⟩

/-- The one read of the fallback clock path (17_boot_image R417). -/
def fallbackCmd (s : State) (h : List Byte) : FlashCmd :=
  let four := hdr h 128 1 == 1
  ⟨0, (refKHz s : Rat) / 2, (if four then 0x13 else 0x03) :: flashAddr four 0⟩

/-- HEADER_READ (17_boot_image R414, R427 steps 1 and 2), t_NVRST after the reset. -/
def execHeaderRead (answers : Bool) (bytes : List Byte) (s0 : State) : Result :=
  if s0.mode.life ≠ .boot ∨ s0.boot.phase ≠ .header ∨ s0.sky.tick < s0.boot.due then .next s0
  else
    let s := flashSend [plainCmd (0x03 :: flashAddr false 0)] 0 s0
    if answers = false then .next (enterSafe ⟨1, 0, 0xFFFF, 0xFFFFFFFF⟩ s)
    else
      let h := bytesAt bytes 0 128
      .next (match headerFail h with
        | some f => enterSafe f s
        | none => toPhase (entryPhase h 0) { s with boot := { s.boot with header := h } })

/-- ENTRY_SEND (17_boot_image R415): entry `k` is sent when it is the one due, and 50 µs pass behind it. -/
def execEntrySend (k : Fin 4) (s : State) : Result :=
  .next (if s.mode.life = .boot ∧ s.boot.phase = .entries k.val ∧ s.boot.due ≤ s.sky.tick then
    toPhase (entryPhase s.boot.header (k.val + 1)) (flashSend [plainCmd (entryCmd s.boot.header k.val)] 24576 s) else s)

/-- HEADER_REREAD (17_boot_image R416, R427 step 3); where it matches, the read of the image follows. -/
def execHeaderReread (bytes : List Byte) (s : State) : Result :=
  let h := s.boot.header
  if s.mode.life ≠ .boot ∨ s.boot.phase ≠ .reread ∨ s.sky.tick < s.boot.due then .next s
  else .next (if bytes = h then toPhase .image (flashSend [imageCmd h 0, imageCmd h 128] 0 s) else enterSafe ⟨3, 0, 0xFFFF, 0xFFFFFFFF⟩ (flashSend [imageCmd h 0] 0 s))

/-- The image is in: NVM goes off, and the common part is verified. -/
def imageIn (l : List Byte) (s : State) : State := setDom .nvm .off (toPhase .verify { s with boot := { s.boot with image := l } })

/-- IMAGE_READ_DONE (17_boot_image R416, R427 step 3): bytes 128 to IMG_LEN − 1, or a stall of NV_DQS. -/
def execImageReadDone (bytes : List Byte) (dqsStall : Bool) (s : State) : Result :=
  let h := s.boot.header
  if s.mode.life ≠ .boot ∨ s.boot.phase ≠ .image then .next s
  else if dqsStall ∧ hdr h 129 1 = 1 then .next (enterSafe ⟨3, 0, 0xFFFF, 0xFFFFFFFF⟩ s)
  else .next (imageIn (h ++ bytesAt bytes 0 (imgLen h - 128)) s)

/-- FALLBACK_IMAGE_READ (17_boot_image R417, R427 steps 1 and 2): the whole image in one read. -/
def execFallbackImageRead (answers : Bool) (bytes : List Byte) (s0 : State) : Result :=
  let h := bytesAt bytes 0 128
  let s := flashSend [fallbackCmd s0 h] 0 s0
  if s0.mode.life ≠ .boot ∨ s0.boot.phase ≠ .fallbackImage then .next s0
  else if answers = false then .next (enterSafe ⟨1, 0, 0xFFFF, 0xFFFFFFFF⟩ s)
  else
    .next (match headerFail h with
      | some f => enterSafe f s
      | none => imageIn (bytesAt bytes 0 (imgLen h)) { s with boot := { s.boot with header := h } })

/-! ### Common verification (17_boot_image R427) -/

/-- COMMON_VERIFICATION (17_boot_image R427 steps 4–11): SAFE at the first failure, else the change of reference (16_clocks R397) and the
configuration step. -/
def execCommonVerification (s : State) : Result :=
  if s.mode.life ≠ .boot ∨ s.boot.phase ≠ .verify then .next s
  else
    let l := s.boot.image
    match layoutFail l with
    | some f => .next (enterSafe f s)
    | none =>
      let t := { s with boot := { s.boot with version := leAt l ((commonAt l).1 + 4) 4 } }
      .next (match commonFail t l with
        | some f => enterSafe f t
        | none => changeReference (toPhase .configure { t with boot := { t.boot with blocks := (commonParsed l).1.map (·.2) } }))

/-! ### The configuration step (17_boot_image R429) -/

/-- The start of polder `p`'s part (17_boot_image R428, R430): dry for want of a segment or by its header, else its domain is on and its card
port holds CPn_RST_N low. -/
def beginPolder (p : Polder) (s : State) : State :=
  let x := segAt s.boot.image p.val
  if x.2 = 0 then goDry p 1 s
  else if segHeaderOk s p (segBytes s.boot.image x) x.2 = false then goDry p 2 s
  else setDom (.pld p) .on (modP p (fun q => { q with key := .resetLow, keyTick := s.sky.tick }) s)

/-- Every domain but those of the polders takes its state of COLD. -/
def powerCold (s : State) : State :=
  { s with pmu := { s.pmu with dom := Vector.ofFn fun (i : Fin 29) =>
    match ([Domain.aon, .time, .com, .clk, .nvm, .gfr, .msr, .sol, .snf, .lnk, .cry, .hst, .obs] ++ (List.finRange 4).map Domain.spt ++ (List.finRange 4).map Domain.trk).find? fun d => domIdx d == i with
    | some d => modeTarget s d
    | none => .off } }

/-- A lane under FIXED holds FIX_INDEX from the configuration step on (02_sample_ports R46, log entry 15). -/
def fixedPorts (s : State) : Vector PortState 4 :=
  let held (p l : Port) : LaneState :=
    let x := laneAt s p l
    if cfgAt s sptLaneGainMode (laneIdx p l) = 1 then { x with gain := cfgAt s sptLaneFixIndex (laneIdx p l) } else x
  Vector.ofFn fun (p : Fin 4) => { s.spt.port[p] with lane := Vector.ofFn (held p) }

/-- What the parameter blocks set at the configuration step: the gain of lanes under FIXED, the rate of the host port, the threshold kept in AON
(01_architecture Table 01-6), the spread spectrum (16_clocks R400). -/
def applyBlocks (s : State) : State :=
  { s with
    spt := { s.spt with port := fixedPorts s },
    hst := { s.hst with rate := cfg s hstCfgBaud },
    aon := { s.aon with vres := cfg s bootModesVres },
    clk := { s.clk with ssc := cfg s clkCfgSscMode != 0 && !s.mode.fallback } }

/-- The link measures its path through LFB_IN (10_tag_link R267): a value within the limits of t_PIPE. -/
def measurePipe (s : State) : State :=
  let (n, t) := takeFree s
  { t with lnk := { t.lnk with pipe := 4150 + n % 101 } }

/-- MARK of the boot (00_scope R5). -/
def drawMark (s : State) : State :=
  let (b, t) := takeRandom 6 s
  { t with boot := { t.boot with mark := leNat b } }

/-- The front-end script begins 1 ms after the CKO outputs (16_clocks R408); without one the first trigger falls 1 ms into COLD (02_sample_ports R35). -/
def firstTrigger (s0 : State) : State :=
  let s := { s0 with spt := { s0.spt with feNext := s0.sky.tick + msTicks 1 } }
  if feinitCount s = 0 then { s with spt := { s.spt with trigDue := s.spt.trigDue ++ [s.sky.tick + msTicks 1] } } else s

/-- Disciplined outputs with CKD_GATE 0 run from the end of boot (16_clocks R406). -/
def firstCkd (s : State) : State :=
  if cfg s clkCfgCkdGate = 0 ∧ ckdMay s then { s with clk := { s.clk with ckdRun := ckdWanted s } } else s

/-- The calibration of every antenna is initialised at boot (03_array R64). -/
def calBoot (s : State) : State := (List.finRange 4).foldl (fun t p => if portEn t p then calInit p t else t) s

/-- CONFIGURATION_STEP (17_boot_image R429, R430): the blocks apply, the domains of COLD are powered, COLD is entered and the polders begin. -/
def execConfigurationStep (s : State) : Result :=
  if s.mode.life ≠ .boot ∨ s.boot.phase ≠ .configure ∨ s.clk.relocking then .next s
  else
    let s1 := drawMark (applyBlocks (toPhase .done { s with mode := { s.mode with life := .run } }))
    let s2 := measurePipe (powerCold { s1 with boot := { s1.boot with cfgSt := stNow s1 } })
    let s3 := firstCkd (ckoUpdate (firstTrigger (guardBoot s2)))
    let s4 := refreshSet (calBoot (enterMode .cold 7 s3))
    let s5 := (List.finRange 8).foldl (fun t p => beginPolder p t) s4
    .next (applyPrecedence (closeAnchor (clkEmit s5)))

/-! ### The key flow of a polder (12_polders R324, R325) -/

/-- Change where a polder's key flow stands. -/
def setKey (p : Polder) (k : KeyPhase) (s : State) : State := modP p (fun q => { q with key := k }) s

/-- SE_RESET (12_polders R324 step 1): CPn_RST_N has been low for 400 card clocks and is released; the ATR is awaited. -/
def execSeReset (p : Polder) (s : State) : Result :=
  if s.pld[p].key ≠ .resetLow ∨ since s s.pld[p].keyTick (cardTicks s p 400) = false then .next s
  else .next (cardRelease p (modP p (fun q => { q with key := .awaitAtr, keyTick := s.sky.tick }) s))

/-- ATR_TIMEOUT (12_polders R325 cause 3, 18_host_ports R455): no start bit within 40,000 card clocks; at boot the polder is dry, later the port's flag is set. -/
def execAtrTimeout (p : Polder) (s : State) : Result :=
  if s.hst.pol[p].awaitTs = false ∨ cardClocks s p < 40000 then .next s
  else if s.pld[p].key = .awaitAtr then .next (goDry p 3 s)
  else .next (modH p (fun h => { h with atrTimeout := true, awaitTs := false }) s)

/-- 1,200 ms have passed since the release: the secure element is silent, and a later answer is ignored (12_polders Table 12-11, 17_boot_image
Table 17-12). -/
def seLate (s : State) (p : Polder) : Bool := since s s.pld[p].keyTick (msTicks 1200)

/-- UNWRAP (12_polders R324 step 3, Table 12-10): the status word of the unwrap command. -/
def execUnwrap (p : Polder) (sw : BitVec 16) (s : State) : Result :=
  if s.pld[p].key ≠ .unwrap then .next s
  else if seLate s p then .next (goDry p 5 s)
  else .next (if sw = 0x6140 then setKey p .getResponse s else goDry p 4 s)

/-- Polder `p`'s segment in the staged image. -/
def segOf (s : State) (p : Polder) : List Byte := segBytes s.boot.image (segAt s.boot.image p.val)

/-- The owner public key of a segment, x then y. -/
def ownerKey (g : List Byte) : List Byte := bytesAt g 16 64

/-- GET_RESPONSE (12_polders R324 steps 3 and 4): the segment key and the owner hash. -/
def execGetResponse (p : Polder) (resp : List Byte) (sw : BitVec 16) (s : State) : Result :=
  if s.pld[p].key ≠ .getResponse then .next s
  else if seLate s p then .next (goDry p 5 s)
  else if sw ≠ 0x9000 ∨ resp.length ≠ 64 then .next (goDry p 4 s)
  else if resp.drop 32 ≠ sha256 (ownerKey (segOf s p)) then .next (goDry p 6 s)
  else .next (modP p (fun q => { q with key := .load, segKey := some (resp.take 32), keySt := stNow s }) s)

/-- SE_SILENT (12_polders R325 cause 5): 1,200 ms after the release the exchange is not over. -/
def execSeSilent (p : Polder) (s : State) : Result :=
  let waiting : Bool := match s.pld[p].key with | .awaitAtr => true | .unwrap => true | .getResponse => true | _ => false
  .next (if waiting && seLate s p then goDry p 5 s else s)

/-! ### Loading (17_boot_image R423–R425, R428) -/

/-- The decrypted text of a segment: its blocks and the owner's signature. -/
def segText (key g : List Byte) : List Byte := bytesAt (gcmText key (bytesAt g 176 12) (bytesAt g 208 (ctLen g))) 0 (ctLen g)

/-- The GCM tag of a segment is right (17_boot_image R423). -/
def segTagOk (key g : List Byte) : Bool := gcmTag key (bytesAt g 176 12) (g.take 192) (bytesAt g 208 (ctLen g)) == bytesAt g 192 16

/-- The owner's signature over the plaintext is right (17_boot_image R423). -/
def segSigned (g text : List Byte) : Bool := ecdsaVerify (sha256 (text.take (ctLen g - 64))) (ownerKey g) (text.drop (ctLen g - 64))

/-- The extents of BOOT.RAM go to polder RAM. -/
def loadRam (p : Polder) (t : State) : State :=
  match blockOf t p.val 0x1718 with
  | some b => match extentsOf b with
    | some l => modP p (fun q => { q with ram := l.foldl (fun m x => swrite (fun _ => 0) m x.1 x.2.2) q.ram }) t
    | none => t
  | none => t

/-- A context's state by its code in LNK.ROSTER. -/
def rosterState (n : Nat) : CtxState := if n = 1 then .active else if n = 3 then .retired else .empty

/-- LNK.ROSTER goes to the polder's contexts (10_tag_link Table 10-15). -/
def loadRoster (p : Polder) (t : State) : State :=
  (List.range (rosterCount t p)).foldl (fun u k =>
    let st := rosterState (cfgPAt t p lnkRosterState k)
    if st = .empty then u
    else
      let c : Ctx := { state := st, key := leBytes 16 (cfgPAt t p lnkRosterKey k), tagId := cfgPAt t p lnkRosterTagId k, retryMax := cfgPAt t p lnkRosterRetryMax k }
      ctxMod (cfgPAt t p lnkRosterCtx k) (fun _ => c) u) t

/-- A sluice area's declaration, with the transfer instants since the configuration step counted (12_polders R322, R323). -/
def declared (t : State) (p : Polder) (k : Nat) (x : Sluice) : Sluice :=
  let period := cfgPAt t p pldSluicePeriod k
  let last := stMs t / period
  let n := last - (t.boot.cfgSt * 1000).floor.toNat / period
  { x with
    decl := some ⟨cfgPAt t p pldSluiceDir k == 1, cfgPAt t p pldSluicePeer k, cfgPAt t p pldSluiceId k, period, none⟩,
    seq := BitVec.ofNat 16 n, st := if n = 0 then 0 else stWord ((last * period : Nat) / 1000 : Rat) }

/-- PLD.SLUICE declares the polder's areas. -/
def loadSluices (p : Polder) (t : State) : State :=
  (List.range (sluiceCount t p)).foldl (fun u k =>
    let i : Fin 8 := ⟨cfgPAt t p pldSluiceIndex k % 8, Nat.mod_lt _ (by decide)⟩
    modSluice p i (declared t p k) u) t

/-- The verified plaintext is loaded: the blocks, the RAM, the contexts and the sluices; the key is erased. BOOT.RAM and LNK.ROSTER do not go to
the store (17_boot_image R425). -/
def loadPlain (p : Polder) (l : List ParamBlock) (s : State) : State :=
  let t := { s with boot := { s.boot with blocks := s.boot.blocks ++ l } }
  let u := loadSluices p (loadRoster p (loadRam p t))
  settleSluices p (modP p (fun q => { q with key := .done, segKey := none })
    { u with boot := { u.boot with blocks := s.boot.blocks ++ l.filter fun b => b.code != 0x1718 && b.code != 0x1018 } })

/-- ST at which the polder's own slots have done the first `n` slots' worth of the loader's operations on its segment: one operation follows the other
(17_boot_image R428 and the example of R431). -/
def loadSlotsEnd (s : State) (p : Polder) (n : Nat) : Rat :=
  let own := cryptoSlots s p
  cryptoEnd own (ownSlotFrom own s.pld[p].keySt) n

/-- Slots of the decryption of a segment. -/
def openSlots (g : List Byte) : Nat := 1 + ceilDiv (ctLen g + 192) 64

/-- Slots of the whole of steps 4–6: decryption, hash and signature (17_boot_image R428). -/
def loadSlots (g : List Byte) : Nat := openSlots g + (2 + ceilDiv (ctLen g - 64) 128) + 32

/-- SEGMENT_LOAD (12_polders R324 steps 5–7, 17_boot_image R425, R428): decryption, tag, signature, then the plaintext's structure and fields, each when the polder's
own crypto slots have done it. -/
def execSegmentLoad (p : Polder) (s : State) : Result :=
  match s.pld[p].segKey with
  | none => .next s
  | some key =>
    let g := segOf s p
    let text := segText key g
    let x := parseBlocks p.val (ctLen g) (text.take (ctLen g - 64)) 0
    let tag := segTagOk key g
    if s.pld[p].key ≠ .load ∨ stNow s < loadSlotsEnd s p (if tag then loadSlots g else openSlots g) then .next s
    else if tag = false then .next (goDry p 7 s)
    else if segSigned g text = false then .next (goDry p 8 s)
    else if plainOk s p x = false then .next (goDry p 2 s)
    else .next (loadPlain p (x.1.map (·.2)) s)

end Sys2Proof.Machine
end

