-- ==== Sys2Proof/Machine/Flow.lean ====
section
/-!
DEFINITION. The Ohmore instructions that move P (14_ohmore_isa Table 14-4): branches, jumps, calls and returns, repeats, NOP and WAIT.
-/

namespace Sys2Proof.Machine

/-- BRA (14_ohmore_isa R358). Branch. Taken: always. -/
def execBra (p : Polder) (s : State) : Result :=
  runOp p .bra (fun c i t => branchIf p c i (true) {} (idleCycles p 1 t)) s

/-- BEQ (14_ohmore_isa R358). Branch. Taken: Z = 1. -/
def execBeq (p : Polder) (s : State) : Result :=
  runOp p .beq (fun c i t => branchIf p c i (condEq c.f) {} (idleCycles p 1 t)) s

/-- BNE (14_ohmore_isa R358). Branch. Taken: Z = 0. -/
def execBne (p : Polder) (s : State) : Result :=
  runOp p .bne (fun c i t => branchIf p c i (!condEq c.f) {} (idleCycles p 1 t)) s

/-- BCS (14_ohmore_isa R358). Branch. Taken: C = 1. -/
def execBcs (p : Polder) (s : State) : Result :=
  runOp p .bcs (fun c i t => branchIf p c i (condCs c.f) {} (idleCycles p 1 t)) s

/-- BCC (14_ohmore_isa R358). Branch. Taken: C = 0. -/
def execBcc (p : Polder) (s : State) : Result :=
  runOp p .bcc (fun c i t => branchIf p c i (!condCs c.f) {} (idleCycles p 1 t)) s

/-- BMI (14_ohmore_isa R358). Branch. Taken: N = 1. -/
def execBmi (p : Polder) (s : State) : Result :=
  runOp p .bmi (fun c i t => branchIf p c i (condMi c.f) {} (idleCycles p 1 t)) s

/-- BPL (14_ohmore_isa R358). Branch. Taken: N = 0. -/
def execBpl (p : Polder) (s : State) : Result :=
  runOp p .bpl (fun c i t => branchIf p c i (!condMi c.f) {} (idleCycles p 1 t)) s

/-- BVS (14_ohmore_isa R358). Branch. Taken: V = 1. -/
def execBvs (p : Polder) (s : State) : Result :=
  runOp p .bvs (fun c i t => branchIf p c i (condVs c.f) {} (idleCycles p 1 t)) s

/-- BVC (14_ohmore_isa R358). Branch. Taken: V = 0. -/
def execBvc (p : Polder) (s : State) : Result :=
  runOp p .bvc (fun c i t => branchIf p c i (!condVs c.f) {} (idleCycles p 1 t)) s

/-- BHI (14_ohmore_isa R358). Branch. Taken: C = 0 and Z = 0. -/
def execBhi (p : Polder) (s : State) : Result :=
  runOp p .bhi (fun c i t => branchIf p c i (!condLs c.f) {} (idleCycles p 1 t)) s

/-- BLS (14_ohmore_isa R358). Branch. Taken: C = 1 or Z = 1. -/
def execBls (p : Polder) (s : State) : Result :=
  runOp p .bls (fun c i t => branchIf p c i (condLs c.f) {} (idleCycles p 1 t)) s

/-- BGE (14_ohmore_isa R358). Branch. Taken: N = V. -/
def execBge (p : Polder) (s : State) : Result :=
  runOp p .bge (fun c i t => branchIf p c i (!condLt c.f) {} (idleCycles p 1 t)) s

/-- BLT (14_ohmore_isa R358). Branch. Taken: N ≠ V. -/
def execBlt (p : Polder) (s : State) : Result :=
  runOp p .blt (fun c i t => branchIf p c i (condLt c.f) {} (idleCycles p 1 t)) s

/-- BGT (14_ohmore_isa R358). Branch. Taken: Z = 0 and N = V. -/
def execBgt (p : Polder) (s : State) : Result :=
  runOp p .bgt (fun c i t => branchIf p c i (!condLe c.f) {} (idleCycles p 1 t)) s

/-- BLE (14_ohmore_isa R358). Branch. Taken: Z = 1 or N ≠ V. -/
def execBle (p : Polder) (s : State) : Result :=
  runOp p .ble (fun c i t => branchIf p c i (condLe c.f) {} (idleCycles p 1 t)) s

/-- DBNZ on a register (14_ohmore_isa R364): decremented modulo 65,536; the branch is taken if the result is not 0. -/
def dbnzReg (p : Polder) (c : Core) (i : OhmInstr) (r : Word) (w : Writes) (s : State) : Writes × State := branchIf p c i (r != 0) w (idleCycles p 1 s)

/-- DBNZ d,r (14_ohmore_isa R364): the direct-page byte decremented modulo 256, as a read-modify-write. -/
def dbnzByte (p : Polder) (c : Core) (i : OhmInstr) (s : State) : Writes × State :=
  let (v, t) := readMem p 2 (effAddr c i) 1 s
  let r := v.headD 0 - 1
  branchIf p c i (r != 0) {} (writeMem p 1 (effAddr c i) [r] t)

/-- DBNZ (14_ohmore_isa R364). No form changes a flag. -/
def execDbnz (p : Polder) (s : State) : Result :=
  runOp p .dbnz (fun c i t => match i.mode with
    | .relX => dbnzReg p c i (c.x - 1) { x := some (c.x - 1) } t
    | .relY => dbnzReg p c i (c.y - 1) { y := some (c.y - 1) } t
    | _ => dbnzByte p c i t) s

/-- JMP (14_ohmore_isa R357). P ← a. -/
def execJmp (p : Polder) (s : State) : Result :=
  runOp p .jmp (fun _ i t => ({ p := some (BitVec.ofNat 16 i.arg, 1) }, idleCycles p 3 t)) s

/-- JMPI (14_ohmore_isa R357). P ← M16 at a. -/
def execJmpi (p : Polder) (s : State) : Result :=
  runOp p .jmpi (fun _ i t => let (v, u) := readMem p 3 i.arg 2 t; ({ p := some (wordOf v, 1) }, u)) s

/-- JX (14_ohmore_isa R357). P ← X. -/
def execJx (p : Polder) (s : State) : Result :=
  runOp p .jx (fun c _ t => ({ p := some (c.x, 1) }, idleCycles p 2 t)) s

/-- The frame of CALL.m in ascending order of address (14_ohmore_isa R361): the mask, then what it names, then P of the next instruction. -/
def callFrame (c : Core) (m : Fin 16) : List Byte :=
  let b (i : Nat) : Bool := m.val.testBit i
  [BitVec.ofNat 8 m.val] ++ (if b 3 then wordBytes c.y else []) ++ (if b 2 then wordBytes c.x else []) ++ (if b 1 then [c.f] else []) ++
    (if b 0 then [c.a] else []) ++ wordBytes (c.p + 3)

/-- CALL (14_ohmore_isa R361). Push the masked frame as one store and jump. -/
def execCall (p : Polder) (s : State) : Result :=
  runOp p .call (fun c i t => match i.mode with
    | .call m => let (sp, u) := pushBytes p 3 c (callFrame c m) t; ({ s := some sp, p := some (BitVec.ofNat 16 i.arg, 2) }, u)
    | _ => ({}, t)) s

/-- Bytes of a frame whose mask byte has low bits `m`. -/
def frameLen (m : Nat) : Nat := 3 + b2n (m.testBit 0) + b2n (m.testBit 1) + 2 * b2n (m.testBit 2) + 2 * b2n (m.testBit 3)

/-- What RET restores from a frame (14_ohmore_isa R362): the registers that the mask names and P; a restored F leaves T. -/
def retWrites (c : Core) (m : Nat) (v : List Byte) : Writes :=
  let jY := 1
  let jX := jY + 2 * b2n (m.testBit 3)
  let jF := jX + 2 * b2n (m.testBit 2)
  let jA := jF + b2n (m.testBit 1)
  let jP := jA + b2n (m.testBit 0)
  let word (j : Nat) : Word := wordOf ((v.drop j).take 2)
  { y := if m.testBit 3 then some (word jY) else none
    x := if m.testBit 2 then some (word jX) else none
    f := if m.testBit 1 then ⟨0xF3, v.getD jF 0⟩ else noFlags
    a := if m.testBit 0 then some (v.getD jA 0) else none
    s := some (c.s + BitVec.ofNat 16 (frameLen m))
    p := some (word jP, 3) }

/-- The mask byte at S, which sets the length of the frame: from the youngest buffered store that covers it or RAM, or as its region reads. -/
def maskAt (s : State) (p : Polder) (a : Nat) : Nat :=
  (if isRam a then sbPeek s p a else if dryByte s p a none then 0 else (readOne p a s).1).toNat % 16

/-- RET (14_ohmore_isa R362). Pull the frame as one load. -/
def execRet (p : Polder) (s : State) : Result :=
  runOp p .ret (fun c _ t =>
    let m := maskAt t p c.s.toNat
    let (v, u) := readMem p 3 c.s.toNat (frameLen m) t
    (retWrites c m v, u)) s

/-- What RTI restores from the interrupt frame (13_ohmore_model R342, Table 13-8, 14_ohmore_isa R366): every register, I and T included; with T = 1 the
repeat of the instruction at P goes on, CNT 0 for 256 iterations. -/
def rtiWrites (c : Core) (v : List Byte) : Writes :=
  let f := v.getD 6 0 &&& 0xFB
  let n := (v.getD 0 0).toNat
  { y := some (wordOf ((v.drop 1).take 2)), x := some (wordOf ((v.drop 3).take 2)), a := some (v.getD 5 0), f := ⟨0xFF, f⟩,
    s := some (c.s + 9), p := some (wordOf ((v.drop 7).take 2), 5),
    rpt := if hasFlag f flagT then some ⟨true, if n = 0 then 256 else n, false⟩ else none }

/-- The frame of RTI: each byte from the youngest buffered store that covers it, or from RAM, in 5 cycles without a stall (14_ohmore_isa R363); a frame
outside RAM is read as its region is. -/
def rtiFrame (p : Polder) (c : Core) (s : State) : List Byte × State :=
  let addrs := spanOf c.s.toNat 9
  if addrs.all isRam then (addrs.map (sbPeek s p), idleCycles p 4 (coreCycle p true false s)) else readMem p 5 c.s.toNat 9 s

/-- RTI (14_ohmore_isa R342, R363). Pull the interrupt frame. -/
def execRti (p : Polder) (s : State) : Result :=
  runOp p .rti (fun c _ t => let (v, u) := rtiFrame p c t; (rtiWrites c v, u)) s

/-- The repeat that RPT and RPTI begin (14_ohmore_isa R365): n times, 0 meaning 256. -/
def newRepeat (interruptible : Bool) (i : OhmInstr) : Repeat := ⟨interruptible, if i.arg = 0 then 256 else i.arg, true⟩

/-- RPT and RPTI: one cycle; T ← 1 where the next instruction can be repeated. -/
def startRepeat (p : Polder) (interruptible : Bool) (c : Core) (i : OhmInstr) (s : State) : Writes × State :=
  let t := idleCycles p 1 s
  ({ rpt := some (newRepeat interruptible i), f := ⟨flagT, fbit flagT (fetchAt t p (c.p + 2).toNat).repeatable⟩ }, t)

/-- RPT (14_ohmore_isa R365). The next instruction n times. -/
def execRpt (p : Polder) (s : State) : Result :=
  runOp p .rpt (startRepeat p false) s

/-- RPTI (14_ohmore_isa R366). The next instruction n times, interruptible between iterations. -/
def execRpti (p : Polder) (s : State) : Result :=
  runOp p .rpti (startRepeat p true) s

/-- NOP (14_ohmore_isa R357). Nothing. -/
def execNop (p : Polder) (s : State) : Result :=
  runOp p .nop (fun _ _ t => ({}, idleCycles p 1 t)) s

/-- WAIT stops the clock: the buffer drains, and no event has come yet (13_ohmore_model R343). -/
def waitStop (p : Polder) (s : State) : State :=
  modCore p (fun c => { c with phase := .waiting, woken := false }) (ctrAdd (pOhmWaits p) 1 s)

/-- WAIT (13_ohmore_model R343). Drain, then stop. -/
def execWait (p : Polder) (s : State) : Result :=
  match runOp p .wait (fun _ _ t => ({}, idleCycles p 1 (drainAll p t))) s, ready s p with
  | .next t, some (_, .ins i _) => .next (if i.op = .wait then waitStop p t else t)
  | r, _ => r

end Sys2Proof.Machine
end

