-- ==== Sys2Proof/Machine/Moves.lean ====
section
/-!
DEFINITION. The Ohmore instructions that move data (14_ohmore_isa Table 14-4): loads, stores, transfers, block moves and the stack.
-/

namespace Sys2Proof.Machine

/-- LDA (14_ohmore_isa R337, R359). A ← M at the end of the shadow, with N and Z. -/
def execLda (p : Polder) (s : State) : Result :=
  runOp p .lda (fun c i t => let (m, u) := operand8 p c i t; ({ load := some ⟨.a, m.setWidth 16⟩ }, u)) s

/-- LDX (14_ohmore_isa R337, R359). X ← M16 at the end of the shadow, with N (bit 15) and Z. -/
def execLdx (p : Polder) (s : State) : Result :=
  runOp p .ldx (fun c i t => let (m, u) := operand16 p c i t; ({ load := some ⟨.x, m⟩ }, u)) s

/-- LDY (14_ohmore_isa R337, R359). Y ← M16 at the end of the shadow, with N (bit 15) and Z. -/
def execLdy (p : Polder) (s : State) : Result :=
  runOp p .ldy (fun c i t => let (m, u) := operand16 p c i t; ({ load := some ⟨.y, m⟩ }, u)) s

/-- STA (14_ohmore_isa R357). M ← A. -/
def execSta (p : Polder) (s : State) : Result :=
  runOp p .sta (fun c i t => ({}, writeMem p (baseCycles i) (effAddr c i) [c.a] t)) s

/-- STX (14_ohmore_isa R357). M16 ← X. -/
def execStx (p : Polder) (s : State) : Result :=
  runOp p .stx (fun c i t => ({}, writeMem p (baseCycles i) (effAddr c i) (wordBytes c.x) t)) s

/-- STY (14_ohmore_isa R357). M16 ← Y. -/
def execSty (p : Polder) (s : State) : Result :=
  runOp p .sty (fun c i t => ({}, writeMem p (baseCycles i) (effAddr c i) (wordBytes c.y) t)) s

/-- LDS (14_ohmore_isa R357). S ← operand. -/
def execLds (p : Polder) (s : State) : Result :=
  runOp p .lds (fun _ i t => ({ s := some (BitVec.ofNat 16 i.arg) }, idleCycles p 2 t)) s

/-- TAX (14_ohmore_isa R357). X ← A, zero-extended. -/
def execTax (p : Polder) (s : State) : Result :=
  runOp p .tax (fun c _ t => let r : Word := c.a.setWidth 16; ({ x := some r, f := nz16 r }, idleCycles p 1 t)) s

/-- TAY (14_ohmore_isa R357). Y ← A, zero-extended. -/
def execTay (p : Polder) (s : State) : Result :=
  runOp p .tay (fun c _ t => let r : Word := c.a.setWidth 16; ({ y := some r, f := nz16 r }, idleCycles p 1 t)) s

/-- TXY (14_ohmore_isa R357). Y ← X. -/
def execTxy (p : Polder) (s : State) : Result :=
  runOp p .txy (fun c _ t => let r : Word := c.x; ({ y := some r, f := nz16 r }, idleCycles p 1 t)) s

/-- TYX (14_ohmore_isa R357). X ← Y. -/
def execTyx (p : Polder) (s : State) : Result :=
  runOp p .tyx (fun c _ t => let r : Word := c.y; ({ x := some r, f := nz16 r }, idleCycles p 1 t)) s

/-- TXA (14_ohmore_isa R357). A ← bits 7:0 of X. -/
def execTxa (p : Polder) (s : State) : Result :=
  runOp p .txa (fun c _ t => let r : Byte := c.x.setWidth 8; ({ a := some r, f := nz8 r }, idleCycles p 1 t)) s

/-- TYA (14_ohmore_isa R357). A ← bits 7:0 of Y. -/
def execTya (p : Polder) (s : State) : Result :=
  runOp p .tya (fun c _ t => let r : Byte := c.y.setWidth 8; ({ a := some r, f := nz8 r }, idleCycles p 1 t)) s

/-- TSX (14_ohmore_isa R357). X ← S; no flags. -/
def execTsx (p : Polder) (s : State) : Result :=
  runOp p .tsx (fun c _ t => ({ x := some c.s }, idleCycles p 1 t)) s

/-- TXS (14_ohmore_isa R357). S ← X; no flags. -/
def execTxs (p : Polder) (s : State) : Result :=
  runOp p .txs (fun c _ t => ({ s := some c.x }, idleCycles p 1 t)) s

/-- The byte at Y ← the byte at X, then both registers moved by `d` (14_ohmore_isa Table 14-4 MVI, MVD): the read takes the first cycle and the write the
second; a read outside RAM follows both base cycles (13_ohmore_model R336). -/
def moveByte (p : Polder) (d : Word) (c : Core) (s : State) : Writes × State :=
  let out := !isRam c.x.toNat
  let (v, t) := readMem p (if out then 2 else 1) c.x.toNat 1 s
  ({ x := some (c.x + d), y := some (c.y + d) }, if coreLive t p then writeMem p (if out then 0 else 1) c.y.toNat [v.headD 0] t else t)

/-- MVI (14_ohmore_isa R357). Move a byte, X and Y upward. -/
def execMvi (p : Polder) (s : State) : Result :=
  runOp p .mvi (fun c _ => moveByte p 1 c) s

/-- MVD (14_ohmore_isa R357). Move a byte, X and Y downward. -/
def execMvd (p : Polder) (s : State) : Result :=
  runOp p .mvd (fun c _ => moveByte p (-1) c) s

/-- PHA (14_ohmore_isa R332, R363). Push A. -/
def execPha (p : Polder) (s : State) : Result :=
  runOp p .pha (fun c _ t => let (sp, u) := pushBytes p 1 c [c.a] t; ({ s := some sp }, u)) s

/-- PHF (14_ohmore_isa R332, R363). Push F. -/
def execPhf (p : Polder) (s : State) : Result :=
  runOp p .phf (fun c _ t => let (sp, u) := pushBytes p 1 c [c.f] t; ({ s := some sp }, u)) s

/-- PHX (14_ohmore_isa R332, R363). Push X, high byte then low byte. -/
def execPhx (p : Polder) (s : State) : Result :=
  runOp p .phx (fun c _ t => let (sp, u) := pushBytes p 1 c (wordBytes c.x) t; ({ s := some sp }, u)) s

/-- PHY (14_ohmore_isa R332, R363). Push Y, high byte then low byte. -/
def execPhy (p : Polder) (s : State) : Result :=
  runOp p .phy (fun c _ t => let (sp, u) := pushBytes p 1 c (wordBytes c.y) t; ({ s := some sp }, u)) s

/-- PLA (14_ohmore_isa R332, R359). Pull A, as a load. -/
def execPla (p : Polder) (s : State) : Result :=
  runOp p .pla (fun c _ t => let (v, u) := readMem p 1 c.s.toNat 1 t; ({ s := some (c.s + 1), load := some ⟨.a, (v.headD 0).setWidth 16⟩ }, u)) s

/-- PLF (14_ohmore_isa R332, R357). Pull F; T and bit 2 are not written. -/
def execPlf (p : Polder) (s : State) : Result :=
  runOp p .plf (fun c _ t => let (v, u) := readMem p 1 c.s.toNat 1 t; ({ s := some (c.s + 1), f := ⟨0xF3, v.headD 0⟩ }, u)) s

/-- PLX (14_ohmore_isa R332, R359). Pull X, low byte then high byte, as a load. -/
def execPlx (p : Polder) (s : State) : Result :=
  runOp p .plx (fun c _ t => let (v, u) := readMem p 1 c.s.toNat 2 t; ({ s := some (c.s + 2), load := some ⟨.x, wordOf v⟩ }, u)) s

/-- PLY (14_ohmore_isa R332, R359). Pull Y, low byte then high byte, as a load. -/
def execPly (p : Polder) (s : State) : Result :=
  runOp p .ply (fun c _ t => let (v, u) := readMem p 1 c.s.toNat 2 t; ({ s := some (c.s + 2), load := some ⟨.y, wordOf v⟩ }, u)) s

end Sys2Proof.Machine
end

