-- ==== Sys2Proof/Machine/Dispatch.lean ====
section
/-!
DEFINITION. One arm for each command: its meaning, by direct call.
-/

namespace Sys2Proof.Machine

def exec (i : Instr) (s : State) : Host.Outcome State Fault Refusal :=
  match i with
  | .vinThresholdRise => Sys2Proof.Machine.execVinThresholdRise s
  | .brownout => Sys2Proof.Machine.execBrownout s
  | .vinLoss => Sys2Proof.Machine.execVinLoss s
  | .resetNAssert ns => Sys2Proof.Machine.execResetNAssert ns s
  | .resetNRelease testN => Sys2Proof.Machine.execResetNRelease testN s
  | .referenceDetection edges => Sys2Proof.Machine.execReferenceDetection edges s
  | .bootPllLock => Sys2Proof.Machine.execBootPllLock s
  | .tBootwaitExpiry => Sys2Proof.Machine.execTBootwaitExpiry s
  | .headerRead answers bytes => Sys2Proof.Machine.execHeaderRead answers bytes s
  | .entrySend k => Sys2Proof.Machine.execEntrySend k s
  | .headerReread bytes => Sys2Proof.Machine.execHeaderReread bytes s
  | .imageReadDone bytes dqsStall => Sys2Proof.Machine.execImageReadDone bytes dqsStall s
  | .fallbackImageRead answers bytes => Sys2Proof.Machine.execFallbackImageRead answers bytes s
  | .commonVerification => Sys2Proof.Machine.execCommonVerification s
  | .configurationStep => Sys2Proof.Machine.execConfigurationStep s
  | .safeRecord => Sys2Proof.Machine.execSafeRecord s
  | .modeRuleCheck => Sys2Proof.Machine.execModeRuleCheck s
  | .modeTransition => Sys2Proof.Machine.execModeTransition s
  | .holdEnter => Sys2Proof.Machine.execHoldEnter s
  | .holdExit => Sys2Proof.Machine.execHoldExit s
  | .surveyMax => Sys2Proof.Machine.execSurveyMax s
  | .vbatResume vbat => Sys2Proof.Machine.execVbatResume vbat s
  | .layupFixStart => Sys2Proof.Machine.execLayupFixStart s
  | .layupFixTimeout => Sys2Proof.Machine.execLayupFixTimeout s
  | .layupFixEnd => Sys2Proof.Machine.execLayupFixEnd s
  | .frameWord port fsOk w0 w1 w2 w3 => Sys2Proof.Machine.execFrameWord port fsOk w0 w1 w2 w3 s
  | .syncLost port => Sys2Proof.Machine.execSyncLost port s
  | .syncRegain port => Sys2Proof.Machine.execSyncRegain port s
  | .guardWindow port lane => Sys2Proof.Machine.execGuardWindow port lane s
  | .samplePortTrigger => Sys2Proof.Machine.execSamplePortTrigger s
  | .feinitEntry rx => Sys2Proof.Machine.execFeinitEntry rx s
  | .gainLoopMs port lane => Sys2Proof.Machine.execGainLoopMs port lane s
  | .fixedReturnStep port lane => Sys2Proof.Machine.execFixedReturnStep port lane s
  | .gainStep port => Sys2Proof.Machine.execGainStep port s
  | .gainUnaligned port => Sys2Proof.Machine.execGainUnaligned port s
  | .bhTxRise => Sys2Proof.Machine.execBhTxRise s
  | .bhTxFall => Sys2Proof.Machine.execBhTxFall s
  | .blankTailEnd => Sys2Proof.Machine.execBlankTailEnd s
  | .nullWeightUpdate band valid total cov => Sys2Proof.Machine.execNullWeightUpdate band valid total cov s
  | .quietReferenceInit band => Sys2Proof.Machine.execQuietReferenceInit band s
  | .jamLevelChange band => Sys2Proof.Machine.execJamLevelChange band s
  | .calUpdate ant band sigs => Sys2Proof.Machine.execCalUpdate ant band sigs s
  | .aoaMeasure sigs => Sys2Proof.Machine.execAoaMeasure sigs s
  | .spoofEval preds => Sys2Proof.Machine.execSpoofEval preds s
  | .spoofRaise => Sys2Proof.Machine.execSpoofRaise s
  | .spoofClear => Sys2Proof.Machine.execSpoofClear s
  | .spoofReleaseUnverified => Sys2Proof.Machine.execSpoofReleaseUnverified s
  | .acqTaskStart offers => Sys2Proof.Machine.execAcqTaskStart offers s
  | .acqRecordComplete lane => Sys2Proof.Machine.execAcqRecordComplete lane s
  | .acqStep lane ivs => Sys2Proof.Machine.execAcqStep lane ivs s
  | .acqVerify lane ivs => Sys2Proof.Machine.execAcqVerify lane ivs s
  | .handover lane => Sys2Proof.Machine.execHandover lane s
  | .trackDump ch d => Sys2Proof.Machine.execTrackDump ch d s
  | .coastExpiry ch => Sys2Proof.Machine.execCoastExpiry ch s
  | .pullFail ch => Sys2Proof.Machine.execPullFail ch s
  | .lossTExpiry ch => Sys2Proof.Machine.execLossTExpiry ch s
  | .reacqExpiry ch => Sys2Proof.Machine.execReacqExpiry ch s
  | .weakSwitch ch => Sys2Proof.Machine.execWeakSwitch ch s
  | .freqRecovery ch => Sys2Proof.Machine.execFreqRecovery ch s
  | .cn0Update ch => Sys2Proof.Machine.execCn0Update ch s
  | .arraySpawn ch => Sys2Proof.Machine.execArraySpawn ch s
  | .beamTakeover ch => Sys2Proof.Machine.execBeamTakeover ch s
  | .beamTimeout ch => Sys2Proof.Machine.execBeamTimeout ch s
  | .beamReturn ch => Sys2Proof.Machine.execBeamReturn ch s
  | .measurementEpoch => Sys2Proof.Machine.execMeasurementEpoch s
  | .stationMessages => Sys2Proof.Machine.execStationMessages s
  | .navCheckUnit ch u => Sys2Proof.Machine.execNavCheckUnit ch u s
  | .symbolRecord ch => Sys2Proof.Machine.execSymbolRecord ch s
  | .standaloneUpdate sol clk => Sys2Proof.Machine.execStandaloneUpdate sol clk s
  | .preciseUpdate sol ambs ils => Sys2Proof.Machine.execPreciseUpdate sol ambs ils s
  | .attitudeUpdate sol => Sys2Proof.Machine.execAttitudeUpdate sol s
  | .integrityEval std prec => Sys2Proof.Machine.execIntegrityEval std prec s
  | .solSkip f => Sys2Proof.Machine.execSolSkip f s
  | .positionHold => Sys2Proof.Machine.execPositionHold s
  | .exclHoldExpiry sat => Sys2Proof.Machine.execExclHoldExpiry sat s
  | .correctionExpiry item => Sys2Proof.Machine.execCorrectionExpiry item s
  | .envelopeVerifyStart => Sys2Proof.Machine.execEnvelopeVerifyStart s
  | .envelopeVerdict => Sys2Proof.Machine.execEnvelopeVerdict s
  | .nmeaOutput => Sys2Proof.Machine.execNmeaOutput s
  | .solSatRecord => Sys2Proof.Machine.execSolSatRecord s
  | .statusPublish => Sys2Proof.Machine.execStatusPublish s
  | .historyEntry => Sys2Proof.Machine.execHistoryEntry s
  | .snapshotDelivery chan => Sys2Proof.Machine.execSnapshotDelivery chan s
  | .farmSlotStart dets solves => Sys2Proof.Machine.execFarmSlotStart dets solves s
  | .farmResult => Sys2Proof.Machine.execFarmResult s
  | .snfPop p => Sys2Proof.Machine.execSnfPop p s
  | .snfHold p v => Sys2Proof.Machine.execSnfHold p v s
  | .snfWakeEn p v => Sys2Proof.Machine.execSnfWakeEn p v s
  | .ordinaryUpdate => Sys2Proof.Machine.execOrdinaryUpdate s
  | .switchBoundary => Sys2Proof.Machine.execSwitchBoundary s
  | .firstAlignment => Sys2Proof.Machine.execFirstAlignment s
  | .permittedStep => Sys2Proof.Machine.execPermittedStep s
  | .gnssReturn => Sys2Proof.Machine.execGnssReturn s
  | .extPpsEdge bin => Sys2Proof.Machine.execExtPpsEdge bin s
  | .extPpsMissing => Sys2Proof.Machine.execExtPpsMissing s
  | .driftVoteWindow => Sys2Proof.Machine.execDriftVoteWindow s
  | .disqualification c => Sys2Proof.Machine.execDisqualification c s
  | .undecided => Sys2Proof.Machine.execUndecided s
  | .requalification c => Sys2Proof.Machine.execRequalification c s
  | .tpDecision tp => Sys2Proof.Machine.execTpDecision tp s
  | .timePulseEdge tp => Sys2Proof.Machine.execTimePulseEdge tp s
  | .tpInactiveEdge tp => Sys2Proof.Machine.execTpInactiveEdge tp s
  | .evtCapture pin rising bin => Sys2Proof.Machine.execEvtCapture pin rising bin s
  | .schedulerFire => Sys2Proof.Machine.execSchedulerFire s
  | .schedArm p => Sys2Proof.Machine.execSchedArm p s
  | .schedCancel p => Sys2Proof.Machine.execSchedCancel p s
  | .schedPop p => Sys2Proof.Machine.execSchedPop p s
  | .schedWakeEn p v => Sys2Proof.Machine.execSchedWakeEn p v s
  | .nowLatch p => Sys2Proof.Machine.execNowLatch p s
  | .frameSyncDetect chan f => Sys2Proof.Machine.execFrameSyncDetect chan f s
  | .frameReceive chan body mic => Sys2Proof.Machine.execFrameReceive chan body mic s
  | .rxCut chan => Sys2Proof.Machine.execRxCut chan s
  | .gatewayAck chan => Sys2Proof.Machine.execGatewayAck chan s
  | .tagAck ctx body mic us => Sys2Proof.Machine.execTagAck ctx body mic us s
  | .tagAckTimeout ctx => Sys2Proof.Machine.execTagAckTimeout ctx s
  | .retry ctx => Sys2Proof.Machine.execRetry ctx s
  | .beaconLaunch => Sys2Proof.Machine.execBeaconLaunch s
  | .txSubmit p => Sys2Proof.Machine.execTxSubmit p s
  | .txCancel p => Sys2Proof.Machine.execTxCancel p s
  | .launch p handle => Sys2Proof.Machine.execLaunch p handle s
  | .relaunch p ctx => Sys2Proof.Machine.execRelaunch p ctx s
  | .rosterLoadState p => Sys2Proof.Machine.execRosterLoadState p s
  | .rosterLoadKey p => Sys2Proof.Machine.execRosterLoadKey p s
  | .rxPop p => Sys2Proof.Machine.execRxPop p s
  | .rxWake p v => Sys2Proof.Machine.execRxWake p v s
  | .dpdUpdate => Sys2Proof.Machine.execDpdUpdate s
  | .noiseFloor levels => Sys2Proof.Machine.execNoiseFloor levels s
  | .lsynRetune locked => Sys2Proof.Machine.execLsynRetune locked s
  | .emissionDecision lbt gnt => Sys2Proof.Machine.execEmissionDecision lbt gnt s
  | .emissionEnd => Sys2Proof.Machine.execEmissionEnd s
  | .coexReq => Sys2Proof.Machine.execCoexReq s
  | .coexPriRise => Sys2Proof.Machine.execCoexPriRise s
  | .coexPriFall => Sys2Proof.Machine.execCoexPriFall s
  | .quietPinRise => Sys2Proof.Machine.execQuietPinRise s
  | .quietPinFall => Sys2Proof.Machine.execQuietPinFall s
  | .quietTransitExit => Sys2Proof.Machine.execQuietTransitExit s
  | .profileSetChange => Sys2Proof.Machine.execProfileSetChange s
  | .profileHoldExpiry => Sys2Proof.Machine.execProfileHoldExpiry s
  | .cryptoGcmEncrypt p key256 => Sys2Proof.Machine.execCryptoGcmEncrypt p key256 s
  | .cryptoGcmDecrypt p key256 => Sys2Proof.Machine.execCryptoGcmDecrypt p key256 s
  | .cryptoCcmEncrypt p key256 => Sys2Proof.Machine.execCryptoCcmEncrypt p key256 s
  | .cryptoCcmDecrypt p key256 => Sys2Proof.Machine.execCryptoCcmDecrypt p key256 s
  | .cryptoSha256 p final => Sys2Proof.Machine.execCryptoSha256 p final s
  | .cryptoEcdsaVerify p => Sys2Proof.Machine.execCryptoEcdsaVerify p s
  | .cryptoTrng p => Sys2Proof.Machine.execCryptoTrng p s
  | .cryptoOpStart p => Sys2Proof.Machine.execCryptoOpStart p s
  | .cryptoDone p => Sys2Proof.Machine.execCryptoDone p s
  | .breachRecord p => Sys2Proof.Machine.execBreachRecord p s
  | .coreStart p => Sys2Proof.Machine.execCoreStart p s
  | .basinLatch p addr => Sys2Proof.Machine.execBasinLatch p addr s
  | .basinSense => Sys2Proof.Machine.execBasinSense s
  | .sluiceTransfer p k => Sys2Proof.Machine.execSluiceTransfer p k s
  | .sluiceDeliver p k => Sys2Proof.Machine.execSluiceDeliver p k s
  | .sluiceSend p k => Sys2Proof.Machine.execSluiceSend p k s
  | .sluicePop p k => Sys2Proof.Machine.execSluicePop p k s
  | .sluiceWakeEn p k v => Sys2Proof.Machine.execSluiceWakeEn p k v s
  | .seReset p => Sys2Proof.Machine.execSeReset p s
  | .atrTimeout p => Sys2Proof.Machine.execAtrTimeout p s
  | .unwrap p sw => Sys2Proof.Machine.execUnwrap p sw s
  | .getResponse p resp sw => Sys2Proof.Machine.execGetResponse p resp sw s
  | .seSilent p => Sys2Proof.Machine.execSeSilent p s
  | .segmentLoad p => Sys2Proof.Machine.execSegmentLoad p s
  | .vinOutOfRange => Sys2Proof.Machine.execVinOutOfRange s
  | .guaranteeVoidClear => Sys2Proof.Machine.execGuaranteeVoidClear s
  | .interruptEntry p => Sys2Proof.Machine.execInterruptEntry p s
  | .waitWake p => Sys2Proof.Machine.execWaitWake p s
  | .pendClear p mask => Sys2Proof.Machine.execPendClear p mask s
  | .dryClear p => Sys2Proof.Machine.execDryClear p s
  | .restartedClear p => Sys2Proof.Machine.execRestartedClear p s
  | .registerWrite p addr v => Sys2Proof.Machine.execRegisterWrite p addr v s
  | .lda p => Sys2Proof.Machine.execLda p s
  | .sta p => Sys2Proof.Machine.execSta p s
  | .add p => Sys2Proof.Machine.execAdd p s
  | .adc p => Sys2Proof.Machine.execAdc p s
  | .sub p => Sys2Proof.Machine.execSub p s
  | .sbc p => Sys2Proof.Machine.execSbc p s
  | .and p => Sys2Proof.Machine.execAnd p s
  | .ora p => Sys2Proof.Machine.execOra p s
  | .eor p => Sys2Proof.Machine.execEor p s
  | .cmp p => Sys2Proof.Machine.execCmp p s
  | .addd p => Sys2Proof.Machine.execAddd p s
  | .subd p => Sys2Proof.Machine.execSubd p s
  | .daa p => Sys2Proof.Machine.execDaa p s
  | .ldx p => Sys2Proof.Machine.execLdx p s
  | .ldy p => Sys2Proof.Machine.execLdy p s
  | .stx p => Sys2Proof.Machine.execStx p s
  | .sty p => Sys2Proof.Machine.execSty p s
  | .cpx p => Sys2Proof.Machine.execCpx p s
  | .cpy p => Sys2Proof.Machine.execCpy p s
  | .adx p => Sys2Proof.Machine.execAdx p s
  | .ady p => Sys2Proof.Machine.execAdy p s
  | .inc p => Sys2Proof.Machine.execInc p s
  | .dec p => Sys2Proof.Machine.execDec p s
  | .asl p => Sys2Proof.Machine.execAsl p s
  | .lsr p => Sys2Proof.Machine.execLsr p s
  | .rol p => Sys2Proof.Machine.execRol p s
  | .ror p => Sys2Proof.Machine.execRor p s
  | .clr p => Sys2Proof.Machine.execClr p s
  | .inca p => Sys2Proof.Machine.execInca p s
  | .deca p => Sys2Proof.Machine.execDeca p s
  | .asla p => Sys2Proof.Machine.execAsla p s
  | .lsra p => Sys2Proof.Machine.execLsra p s
  | .rola p => Sys2Proof.Machine.execRola p s
  | .rora p => Sys2Proof.Machine.execRora p s
  | .clra p => Sys2Proof.Machine.execClra p s
  | .nega p => Sys2Proof.Machine.execNega p s
  | .coma p => Sys2Proof.Machine.execComa p s
  | .clc p => Sys2Proof.Machine.execClc p s
  | .sec p => Sys2Proof.Machine.execSec p s
  | .di p => Sys2Proof.Machine.execDi p s
  | .ei p => Sys2Proof.Machine.execEi p s
  | .nop p => Sys2Proof.Machine.execNop p s
  | .wait p => Sys2Proof.Machine.execWait p s
  | .tax p => Sys2Proof.Machine.execTax p s
  | .tay p => Sys2Proof.Machine.execTay p s
  | .txa p => Sys2Proof.Machine.execTxa p s
  | .tya p => Sys2Proof.Machine.execTya p s
  | .txy p => Sys2Proof.Machine.execTxy p s
  | .tyx p => Sys2Proof.Machine.execTyx p s
  | .tsx p => Sys2Proof.Machine.execTsx p s
  | .txs p => Sys2Proof.Machine.execTxs p s
  | .inx p => Sys2Proof.Machine.execInx p s
  | .dex p => Sys2Proof.Machine.execDex p s
  | .iny p => Sys2Proof.Machine.execIny p s
  | .dey p => Sys2Proof.Machine.execDey p s
  | .mvi p => Sys2Proof.Machine.execMvi p s
  | .mvd p => Sys2Proof.Machine.execMvd p s
  | .jx p => Sys2Proof.Machine.execJx p s
  | .pha p => Sys2Proof.Machine.execPha p s
  | .phf p => Sys2Proof.Machine.execPhf p s
  | .pla p => Sys2Proof.Machine.execPla p s
  | .plf p => Sys2Proof.Machine.execPlf p s
  | .phx p => Sys2Proof.Machine.execPhx p s
  | .phy p => Sys2Proof.Machine.execPhy p s
  | .plx p => Sys2Proof.Machine.execPlx p s
  | .ply p => Sys2Proof.Machine.execPly p s
  | .ret p => Sys2Proof.Machine.execRet p s
  | .rti p => Sys2Proof.Machine.execRti p s
  | .rpt p => Sys2Proof.Machine.execRpt p s
  | .rpti p => Sys2Proof.Machine.execRpti p s
  | .dbnz p => Sys2Proof.Machine.execDbnz p s
  | .bra p => Sys2Proof.Machine.execBra p s
  | .beq p => Sys2Proof.Machine.execBeq p s
  | .bne p => Sys2Proof.Machine.execBne p s
  | .bcs p => Sys2Proof.Machine.execBcs p s
  | .bcc p => Sys2Proof.Machine.execBcc p s
  | .bmi p => Sys2Proof.Machine.execBmi p s
  | .bpl p => Sys2Proof.Machine.execBpl p s
  | .bvs p => Sys2Proof.Machine.execBvs p s
  | .bvc p => Sys2Proof.Machine.execBvc p s
  | .bhi p => Sys2Proof.Machine.execBhi p s
  | .bls p => Sys2Proof.Machine.execBls p s
  | .bge p => Sys2Proof.Machine.execBge p s
  | .blt p => Sys2Proof.Machine.execBlt p s
  | .bgt p => Sys2Proof.Machine.execBgt p s
  | .ble p => Sys2Proof.Machine.execBle p s
  | .jmp p => Sys2Proof.Machine.execJmp p s
  | .jmpi p => Sys2Proof.Machine.execJmpi p s
  | .lds p => Sys2Proof.Machine.execLds p s
  | .call p => Sys2Proof.Machine.execCall p s
  | .reservedOp p => Sys2Proof.Machine.execReservedOp p s
  | .fetchVoid p => Sys2Proof.Machine.execFetchVoid p s
  | .domainDown d => Sys2Proof.Machine.execDomainDown d s
  | .domainUp d => Sys2Proof.Machine.execDomainUp d s
  | .thinWindowOpen => Sys2Proof.Machine.execThinWindowOpen s
  | .thinWindowClose => Sys2Proof.Machine.execThinWindowClose s
  | .pmuSample tj vbat vin current => Sys2Proof.Machine.execPmuSample tj vbat vin current s
  | .governorLevelChange => Sys2Proof.Machine.execGovernorLevelChange s
  | .gaugeAnchor => Sys2Proof.Machine.execGaugeAnchor s
  | .freeboardAccrual => Sys2Proof.Machine.execFreeboardAccrual s
  | .i2cAddressMatch addr read => Sys2Proof.Machine.execI2cAddressMatch addr read s
  | .uartBreakWake => Sys2Proof.Machine.execUartBreakWake s
  | .hostIdle => Sys2Proof.Machine.execHostIdle s
  | .pllLock l => Sys2Proof.Machine.execPllLock l s
  | .pllLoss l => Sys2Proof.Machine.execPllLoss l s
  | .referenceLoss => Sys2Proof.Machine.execReferenceLoss s
  | .ext10mWindow edges => Sys2Proof.Machine.execExt10mWindow edges s
  | .ckdRestart => Sys2Proof.Machine.execCkdRestart s
  | .uartCharReceive data pe fe brk noise => Sys2Proof.Machine.execUartCharReceive data pe fe brk noise s
  | .hostCycle busy => Sys2Proof.Machine.execHostCycle busy s
  | .bootRecord => Sys2Proof.Machine.execBootRecord s
  | .inboundUnit => Sys2Proof.Machine.execInboundUnit s
  | .correctionFrame => Sys2Proof.Machine.execCorrectionFrame s
  | .timeAssistance => Sys2Proof.Machine.execTimeAssistance s
  | .navAssistance content => Sys2Proof.Machine.execNavAssistance content s
  | .positionAssistance => Sys2Proof.Machine.execPositionAssistance s
  | .outSubmit p => Sys2Proof.Machine.execOutSubmit p s
  | .inPop p => Sys2Proof.Machine.execInPop p s
  | .inWake p v => Sys2Proof.Machine.execInWake p v s
  | .i2cWrite bytes => Sys2Proof.Machine.execI2cWrite bytes s
  | .i2cRead n => Sys2Proof.Machine.execI2cRead n s
  | .cardReset p v => Sys2Proof.Machine.execCardReset p v s
  | .cardClkEn p v => Sys2Proof.Machine.execCardClkEn p v s
  | .cardCharReceive p bits gap => Sys2Proof.Machine.execCardCharReceive p bits gap s
  | .cardCharSend p err => Sys2Proof.Machine.execCardCharSend p err s
  | .txData p v => Sys2Proof.Machine.execTxData p v s
  | .cardRxPop p => Sys2Proof.Machine.execCardRxPop p s
  | .cardRxWake p v => Sys2Proof.Machine.execCardRxWake p v s
  | .cardTxWake p v => Sys2Proof.Machine.execCardTxWake p v s
  | .txFailClear p => Sys2Proof.Machine.execTxFailClear p s
  | .cryptoWakeEn p v => Sys2Proof.Machine.execCryptoWakeEn p v s
  | .anchorPacket => Sys2Proof.Machine.execAnchorPacket s
  | .tracePacketClose p => Sys2Proof.Machine.execTracePacketClose p s
  | .counterDump => Sys2Proof.Machine.execCounterDump s
  | .packetSend => Sys2Proof.Machine.execPacketSend s
  | .relockTimeout => Sys2Proof.Machine.execRelockTimeout s
  | .inboundGapTimeout => Sys2Proof.Machine.execInboundGapTimeout s
  | .huCtsNFall => Sys2Proof.Machine.execHuCtsNFall s
  | .preambleDetection chan => Sys2Proof.Machine.execPreambleDetection chan s
  | .brownoutRecovery => Sys2Proof.Machine.execBrownoutRecovery s

end Sys2Proof.Machine
end

