-- ==== Sys2Proof/Machine/Tick.lean ====
section
/-!
DEFINITION. The block's own clock: what an empty queue brings in place of idling (log entry 1). One idle step is one edge of KCLK, or one cycle of
the reference while KCLK is stopped (09_sky_time R218).
-/

namespace Sys2Proof.Machine

/-- KCLK runs (16_clocks R402, R403). -/
def kclkRuns (s : State) : Bool := s.clk.lock[1] && domOn s .clk && !s.mode.fallback

/-- Ticks in 2⁻³² that one reference cycle is worth, to the nearest (09_sky_time R218, log entry 1). -/
def refStep (s : State) : Nat := (roundEven ((491520 : Rat) / refKHz s * 4294967296)).toNat

/-- The tick counter after one edge (09_sky_time R218). -/
def tickOnce (s : State) : State :=
  if kclkRuns s then { s with sky := { s.sky with tick := s.sky.tick + 1 } }
  else
    let v := s.sky.frac.toNat + refStep s
    { s with sky := { s.sky with tick := s.sky.tick + v / 4294967296, frac := BitVec.ofNat 32 v } }

/-- The segment whose anchor has come is in force (09_sky_time R219). -/
def commitSegment (s : State) : State :=
  match s.sky.next with
  | none => s
  | some g =>
    if s.sky.tick < g.tick then s
    else publishSky (clkRefresh (ckdAnchor (g.rate * 491520000) { s with sky := { s.sky with seg := g, past := pastSegs s, next := none } }))

/-- One idle step: the counter, the segment that falls due, the host slots whose cutoff has come. Before the counter starts nothing changes. -/
def idle (s : State) : State := if s.sky.run then fillDue 9 (commitSegment (tickOnce s)) else s

end Sys2Proof.Machine
end

