-- ==== Sys2Proof/Safety.lean ====
section
/-!
DEFINITION. What claims call a well-kept state and a clean run: every memory and numbered array in its canonical form, counters within their width,
and, for a polder, no breach, no dry polder and no restart.
-/

namespace Sys2Proof.Machine

/-- A memory's canonical form: addresses strictly rising, no entry equal to what an unlisted address reads as. -/
def Memory.wf (d : Nat → Byte) (m : List Host.Cell) : Bool := swf d m

/-- A polder's RAM and window store are canonical. -/
def PolderState.memWf (q : PolderState) : Bool := Memory.wf (fun _ => 0) q.ram && Memory.wf winDflt q.win

/-- Every memory of the block is canonical, and so are the counters and the numbered arrays of channels and contexts. -/
def State.memWf (s : State) : Prop :=
  Memory.wf basinDflt s.basin = true ∧ swf (fun _ => 0) s.ctr = true ∧ swf (fun _ => ({} : Chan)) s.trk.chan = true ∧
    swf (fun _ => ({} : Ctx)) s.lnk.ctx = true ∧ ∀ p : Polder, s.pld[p].memWf = true

/-- Every counter is within 32 bits (02_sample_ports R51, 19_observation R470). -/
def State.ctrWf (s : State) : Prop := ∀ i, ctrGet s i < 2 ^ 32

/-- A polder that serves: not dry, its key flow over, its core neither off nor restarting (12_polders R306, R325). -/
def serving (s : State) (p : Polder) : Prop := isDry s p = false ∧ s.pld[p].key = .done ∧ s.pld[p].core.phase ≠ .off ∧ s.pld[p].core.phase ≠ .restarting

/-- From `s` to `t` a polder broke no rule of the warden: no breach counted, no new dry cause, no restart (12_polders R315, R317, R325). -/
def clean (p : Polder) (s t : State) : Prop :=
  t.pld[p].breachCount = s.pld[p].breachCount ∧ t.pld[p].dryCauses = s.pld[p].dryCauses ∧ t.pld[p].restartTimes = s.pld[p].restartTimes

/-! ### The terms of claims about a core (13_ohmore_model, 14_ohmore_isa) -/

/-- A command completes: it answers a next state, of which `P` holds. -/
def completes (c : Instr) (s : State) (P : State → Prop) : Prop := ∃ t, exec c s = .next t ∧ P t

/-- Polder `p`'s core is to execute the instruction `i` of operation `op` and `len` bytes now, and sees the core as `c0`. -/
def executes (s : State) (p : Polder) (op : OhmOp) (c0 : Core) (i : OhmInstr) (len : Nat) : Prop := ready s p = some (c0, .ins i len) ∧ i.op = op

/-- The state in which an instruction begins: T and the repeat as it sees them (14_ohmore_isa R365). -/
def begun (p : Polder) (c0 : Core) (s : State) : State := modCore p (fun c => { c with f := c0.f, rpt := c0.rpt }) s

/-- P after an instruction that does not jump: an iteration but the last leaves it in place (14_ohmore_isa R352, R365). -/
def pcAfter (c0 : Core) (len : Nat) : Word :=
  match c0.rpt with
  | some r => if 2 ≤ r.left then c0.p else c0.p + BitVec.ofNat 16 len
  | none => c0.p + BitVec.ofNat 16 len

/-- The repeat after an instruction: one iteration fewer, none after the last (14_ohmore_isa R365). -/
def rptAfter (c0 : Core) : Option Repeat :=
  match c0.rpt with
  | some r => if 2 ≤ r.left then some { r with left := r.left - 1, atStart := false } else none
  | none => none

/-- F after an instruction: T ends with the last iteration (14_ohmore_isa R365). -/
def tAfter (c0 : Core) (f : Byte) : Byte :=
  match c0.rpt with
  | some r => if 2 ≤ r.left then f else f &&& ~~~flagT
  | none => f

/-- Nothing but polder `p`, its trace and the culvert's drop counts differs between `s` and `t`, and these last only where the polder is traced. -/
def elsewhere (p : Polder) (s t : State) : Prop :=
  { t with pld := s.pld, obs := s.obs, ctr := s.ctr } = s ∧ (∀ q : Polder, q ≠ p → t.pld[q] = s.pld[q]) ∧ (traced s p = false → t.obs = s.obs ∧ t.ctr = s.ctr)

/-- The polder is as it was but for its core and RAM, and the RAM reads the same through the store buffer (13_ohmore_model R338). -/
def sameMemory (p : Polder) (s t : State) : Prop :=
  { t.pld[p] with core := {}, ram := [] } = { s.pld[p] with core := {}, ram := [] } ∧ ∀ a, sbPeek t p a = sbPeek s p a

/-- The end of an instruction whose accesses left the state `u`: the core holds the registers of `k`, with T, the repeat and P as R352 and R365 say; nothing
else of the polder differs, and nothing elsewhere. -/
def retired (p : Polder) (c0 : Core) (len : Nat) (u t : State) (k : Core) : Prop :=
  t.pld[p].core = { k with f := tAfter c0 k.f, rpt := rptAfter c0, p := pcAfter c0 len } ∧
    { t.pld[p] with core := {} } = { u.pld[p] with core := {} } ∧ elsewhere p u t

/-- The same for an instruction that jumps, with the repeat it begins. -/
def jumped (p : Polder) (u t : State) (k : Core) (target : Word) (r : Option Repeat) : Prop :=
  t.pld[p].core = { k with rpt := r, p := target } ∧ { t.pld[p] with core := {} } = { u.pld[p] with core := {} } ∧ elsewhere p u t

/-- The core at the end of an instruction before its own writes: a load whose shadow it was has landed (13_ohmore_model R337). -/
def landed (p : Polder) (c0 : Core) (u : State) : Core := { landLoad c0.load u.pld[p].core with load := none }

/-! ### The terms of claims about the block's subsystems -/

/-- The parts of the state, by their fields. -/
inductive Part where
  | spt | ary | acq | trk | msr | sol | snf | sky | lnk | rfc | aon
  | pmu | clk | boot | mode | hst | obs | pld | basin | ctr | fresh | pending
  deriving DecidableEq, Repr

/-- A part is the same in `s` and `t`. -/
def Part.same (s t : State) : Part → Prop
  | .spt => t.spt = s.spt
  | .ary => t.ary = s.ary
  | .acq => t.acq = s.acq
  | .trk => t.trk = s.trk
  | .msr => t.msr = s.msr
  | .sol => t.sol = s.sol
  | .snf => t.snf = s.snf
  | .sky => t.sky = s.sky
  | .lnk => t.lnk = s.lnk
  | .rfc => t.rfc = s.rfc
  | .aon => t.aon = s.aon
  | .pmu => t.pmu = s.pmu
  | .clk => t.clk = s.clk
  | .boot => t.boot = s.boot
  | .mode => t.mode = s.mode
  | .hst => t.hst = s.hst
  | .obs => t.obs = s.obs
  | .pld => t.pld = s.pld
  | .basin => t.basin = s.basin
  | .ctr => t.ctr = s.ctr
  | .fresh => t.fresh = s.fresh
  | .pending => t.pending = s.pending

/-- No part but those named differs between `s` and `t`. -/
def only (l : List Part) (s t : State) : Prop := ∀ x : Part, x ∈ l ∨ x.same s t

/-- The parts of the state that a command may change: no command changes another (log entry 1 for the queue, which only a step changes). -/
def footprint : Instr → List Part
  | .vinThresholdRise => [.aon, .pmu, .clk, .mode]
  | .brownout | .vinLoss =>
    [.spt, .ary, .acq, .trk, .msr, .sol, .snf, .sky, .lnk, .rfc, .aon, .pmu, .clk, .boot, .mode, .hst, .obs, .pld, .basin, .ctr]
  | .resetNAssert _ =>
    [.spt, .ary, .acq, .trk, .msr, .sol, .snf, .sky, .lnk, .rfc, .aon, .pmu, .clk, .boot, .mode, .hst, .obs, .pld, .basin, .ctr, .fresh]
  | .resetNRelease _ => [.aon, .pmu, .clk, .mode]
  | .referenceDetection _ => [.sky, .clk, .boot, .mode]
  | .bootPllLock => [.boot]
  | .tBootwaitExpiry => [.sky, .clk, .boot, .mode]
  | .headerRead _ _ => [.boot, .mode]
  | .entrySend _ => [.boot]
  | .headerReread _ => [.boot, .mode]
  | .imageReadDone _ _ | .fallbackImageRead _ _ => [.pmu, .boot, .mode]
  | .commonVerification => [.clk, .boot, .mode, .obs, .ctr]
  | .configurationStep => [.spt, .ary, .trk, .snf, .sky, .lnk, .rfc, .aon, .pmu, .clk, .boot, .mode, .hst, .obs, .pld, .basin, .ctr, .fresh]
  | .safeRecord => [.pmu, .boot, .hst]
  | .modeRuleCheck => [.mode, .basin]
  | .modeTransition => [.ary, .trk, .sol, .pmu, .mode, .hst, .obs, .basin, .ctr]
  | .holdEnter | .holdExit | .surveyMax => [.mode]
  | .vbatResume _ => [.aon, .pmu, .clk, .mode]
  | .layupFixStart => [.clk, .mode, .obs, .ctr]
  | .layupFixTimeout | .layupFixEnd => [.mode]
  | .frameWord _ _ _ _ _ _ => [.spt, .ary, .hst, .obs, .basin, .ctr]
  | .syncLost _ => [.spt, .hst, .obs, .basin, .ctr]
  | .syncRegain _ => [.spt, .ary, .hst, .obs, .basin, .ctr]
  | .guardWindow _ _ => [.spt, .hst, .obs, .basin, .ctr]
  | .samplePortTrigger => [.spt, .ary, .clk, .hst, .obs, .basin, .ctr]
  | .feinitEntry _ => [.spt, .clk, .hst, .obs, .basin, .ctr]
  | .gainLoopMs _ _ | .fixedReturnStep _ _ | .gainStep _ | .gainUnaligned _ => [.spt, .hst, .obs, .basin, .ctr]
  | .bhTxRise => [.spt, .obs, .ctr]
  | .bhTxFall | .blankTailEnd => [.spt]
  | .nullWeightUpdate _ _ _ _ => [.ary, .trk, .obs, .basin, .ctr]
  | .quietReferenceInit _ => [.ary]
  | .jamLevelChange _ => [.ary, .hst, .obs, .basin, .ctr]
  | .calUpdate _ _ _ => [.ary, .msr, .hst, .obs, .basin, .ctr]
  | .aoaMeasure _ => [.ary, .obs, .ctr]
  | .spoofEval _ => [.ary, .obs, .basin, .ctr]
  | .spoofRaise | .spoofClear | .spoofReleaseUnverified => [.ary, .sky, .mode, .hst, .obs, .basin, .ctr]
  | .acqTaskStart _ => [.acq, .trk, .sol, .obs, .ctr, .fresh]
  | .acqRecordComplete _ => [.acq]
  | .acqStep _ _ | .acqVerify _ _ => [.acq, .trk, .obs, .ctr, .fresh]
  | .handover _ => [.acq, .trk, .obs, .ctr]
  | .trackDump _ _ | .coastExpiry _ => [.trk, .obs, .ctr]
  | .pullFail _ => [.acq, .trk, .obs, .ctr]
  | .lossTExpiry _ | .reacqExpiry _ => [.trk, .obs, .ctr]
  | .weakSwitch _ => [.trk]
  | .freqRecovery _ | .cn0Update _ | .arraySpawn _ => [.trk, .obs, .ctr]
  | .beamTakeover _ | .beamTimeout _ => [.trk]
  | .beamReturn _ => [.trk, .obs, .ctr]
  | .measurementEpoch => [.trk, .msr, .sol, .sky, .hst, .obs, .basin, .ctr]
  | .stationMessages => [.msr, .hst, .obs, .ctr]
  | .navCheckUnit _ _ => [.trk, .msr, .sky, .hst, .obs, .basin, .ctr]
  | .symbolRecord _ => [.trk, .msr, .hst, .obs, .ctr]
  | .standaloneUpdate _ _ => [.msr, .sol, .sky, .lnk, .rfc, .clk, .mode, .hst, .obs, .pld, .basin, .ctr, .fresh]
  | .preciseUpdate _ _ _ => [.sol, .lnk, .rfc, .clk, .mode, .hst, .obs, .pld, .basin, .ctr, .fresh]
  | .attitudeUpdate _ => [.sol, .hst, .obs, .basin, .ctr]
  | .integrityEval _ _ => [.sol, .sky, .mode, .hst, .obs, .basin, .ctr]
  | .solSkip _ => [.sol, .obs, .ctr]
  | .positionHold | .exclHoldExpiry _ | .correctionExpiry _ => [.sol]
  | .envelopeVerifyStart | .envelopeVerdict => [.sol, .obs, .ctr]
  | .nmeaOutput | .solSatRecord => [.sol, .hst, .obs, .ctr]
  | .statusPublish => [.basin]
  | .historyEntry => [.snf]
  | .snapshotDelivery _ => [.snf, .lnk, .ctr]
  | .farmSlotStart _ _ => [.snf, .pmu, .ctr]
  | .farmResult => [.snf, .pld, .ctr]
  | .snfPop _ | .snfHold _ _ | .snfWakeEn _ _ => [.snf, .sky, .lnk, .pmu, .hst, .obs, .pld, .ctr]
  | .ordinaryUpdate | .switchBoundary => [.sky, .clk, .hst, .obs, .basin, .ctr]
  | .firstAlignment => [.acq, .trk, .sol, .sky, .lnk, .rfc, .clk, .boot, .mode, .hst, .obs, .pld, .basin, .ctr]
  | .permittedStep => [.sol, .sky, .lnk, .rfc, .clk, .boot, .mode, .hst, .obs, .pld, .basin, .ctr]
  | .gnssReturn => [.sky, .basin]
  | .extPpsEdge _ => [.sky]
  | .extPpsMissing => [.sky, .basin]
  | .driftVoteWindow => [.sky]
  | .disqualification _ | .undecided | .requalification _ => [.sky, .hst, .obs, .basin, .ctr]
  | .tpDecision _ => [.sky, .hst, .obs, .ctr]
  | .timePulseEdge _ => [.sky, .obs, .ctr]
  | .tpInactiveEdge _ => [.sky]
  | .evtCapture _ _ _ => [.sky, .pmu, .mode, .hst, .obs, .ctr]
  | .schedulerFire => [.sky, .obs, .pld, .ctr]
  | .schedArm _ | .schedCancel _ | .schedPop _ | .schedWakeEn _ _ | .nowLatch _ => [.snf, .sky, .lnk, .pmu, .hst, .obs, .pld, .ctr]
  | .frameSyncDetect _ _ => [.lnk, .rfc, .obs, .ctr]
  | .frameReceive _ _ _ => [.lnk, .rfc, .hst, .obs, .pld, .ctr]
  | .rxCut _ => [.lnk, .obs, .ctr]
  | .gatewayAck _ => [.lnk, .rfc, .hst, .obs, .pld, .ctr]
  | .tagAck _ _ _ _ | .tagAckTimeout _ => [.sky, .lnk, .obs, .pld, .ctr]
  | .retry _ => [.lnk, .rfc, .pmu, .obs, .ctr]
  | .beaconLaunch => [.lnk, .rfc, .obs, .ctr]
  | .txSubmit _ | .txCancel _ => [.snf, .sky, .lnk, .pmu, .hst, .obs, .pld, .ctr]
  | .launch _ _ => [.sky, .lnk, .rfc, .pmu, .obs, .pld, .ctr]
  | .relaunch _ _ => [.lnk, .rfc, .pmu, .obs, .ctr]
  | .rosterLoadState _ | .rosterLoadKey _ | .rxPop _ | .rxWake _ _ => [.snf, .sky, .lnk, .pmu, .hst, .obs, .pld, .ctr]
  | .dpdUpdate => [.lnk]
  | .noiseFloor _ => [.lnk, .basin]
  | .lsynRetune _ => [.lnk, .clk]
  | .emissionDecision _ _ => [.lnk, .rfc, .obs, .ctr]
  | .emissionEnd => [.sky, .lnk, .rfc, .pmu, .clk, .hst, .obs, .pld, .ctr, .fresh]
  | .coexReq => [.rfc]
  | .coexPriRise => [.lnk, .rfc, .clk, .hst, .obs, .pld, .basin, .ctr, .fresh]
  | .coexPriFall => [.rfc, .clk, .basin, .fresh]
  | .quietPinRise => [.lnk, .rfc, .clk, .mode, .hst, .obs, .pld, .basin, .ctr, .fresh]
  | .quietPinFall => [.rfc, .basin]
  | .quietTransitExit => [.rfc, .mode, .basin]
  | .profileSetChange | .profileHoldExpiry => [.rfc, .obs, .basin, .ctr]
  | .cryptoGcmEncrypt _ _ | .cryptoGcmDecrypt _ _ | .cryptoCcmEncrypt _ _ | .cryptoCcmDecrypt _ _ | .cryptoSha256 _ _
  | .cryptoEcdsaVerify _ | .cryptoTrng _ => [.snf, .sky, .lnk, .pmu, .hst, .obs, .pld, .ctr]
  | .cryptoOpStart _ => [.pld]
  | .cryptoDone _ => [.pld, .ctr, .fresh]
  | .breachRecord _ => [.hst, .pld, .ctr]
  | .coreStart _ => [.pmu, .pld]
  | .basinLatch _ _ => [.snf, .sky, .lnk, .pmu, .hst, .obs, .pld, .ctr]
  | .basinSense => [.pmu, .basin]
  | .sluiceTransfer _ _ => [.pld]
  | .sluiceDeliver _ _ => [.pld, .ctr]
  | .sluiceSend _ _ | .sluicePop _ _ | .sluiceWakeEn _ _ _ => [.snf, .sky, .lnk, .pmu, .hst, .obs, .pld, .ctr]
  | .seReset _ => [.hst, .pld]
  | .atrTimeout _ | .unwrap _ _ | .getResponse _ _ _ | .seSilent _ => [.snf, .sky, .lnk, .pmu, .hst, .obs, .pld, .ctr]
  | .segmentLoad _ => [.snf, .sky, .lnk, .pmu, .boot, .hst, .obs, .pld, .ctr]
  | .vinOutOfRange | .guaranteeVoidClear => [.pmu, .hst, .obs, .basin, .ctr]
  | .interruptEntry _ | .waitWake _ | .pendClear _ _ | .dryClear _ | .restartedClear _ | .registerWrite _ _ _ | .lda _ | .sta _ | .add _
  | .adc _ | .sub _ | .sbc _ | .and _ | .ora _ | .eor _ | .cmp _ | .addd _ | .subd _ => [.snf, .sky, .lnk, .pmu, .hst, .obs, .pld, .ctr]
  | .daa _ => [.obs, .pld, .ctr]
  | .ldx _ | .ldy _ | .stx _ | .sty _ | .cpx _ | .cpy _ => [.snf, .sky, .lnk, .pmu, .hst, .obs, .pld, .ctr]
  | .adx _ | .ady _ => [.obs, .pld, .ctr]
  | .inc _ | .dec _ | .asl _ | .lsr _ | .rol _ | .ror _ | .clr _ => [.snf, .sky, .lnk, .pmu, .hst, .obs, .pld, .ctr]
  | .inca _ | .deca _ | .asla _ | .lsra _ | .rola _ | .rora _ | .clra _ | .nega _ | .coma _ | .clc _ | .sec _ | .di _ | .ei _ | .nop _
  | .wait _ | .tax _ | .tay _ | .txa _ | .tya _ | .txy _ | .tyx _ | .tsx _ | .txs _ | .inx _ | .dex _ | .iny _ | .dey _ => [.obs, .pld, .ctr]
  | .mvi _ | .mvd _ => [.snf, .sky, .lnk, .pmu, .hst, .obs, .pld, .ctr]
  | .jx _ => [.obs, .pld, .ctr]
  | .pha _ | .phf _ | .pla _ | .plf _ | .phx _ | .phy _ | .plx _ | .ply _ | .ret _ | .rti _ => [.snf, .sky, .lnk, .pmu, .hst, .obs, .pld, .ctr]
  | .rpt _ | .rpti _ => [.obs, .pld, .ctr]
  | .dbnz _ => [.snf, .sky, .lnk, .pmu, .hst, .obs, .pld, .ctr]
  | .bra _ | .beq _ | .bne _ | .bcs _ | .bcc _ | .bmi _ | .bpl _ | .bvs _ | .bvc _ | .bhi _ | .bls _ | .bge _ | .blt _ | .bgt _ | .ble _
  | .jmp _ => [.obs, .pld, .ctr]
  | .jmpi _ => [.snf, .sky, .lnk, .pmu, .hst, .obs, .pld, .ctr]
  | .lds _ => [.obs, .pld, .ctr]
  | .call _ => [.snf, .sky, .lnk, .pmu, .hst, .obs, .pld, .ctr]
  | .reservedOp _ => [.obs, .pld, .ctr, .fresh]
  | .fetchVoid _ => [.obs, .pld, .ctr]
  | .domainDown _ | .domainUp _ => [.spt, .ary, .trk, .pmu, .clk, .hst, .obs, .pld, .basin, .ctr]
  | .thinWindowOpen => [.spt, .trk, .pmu, .clk, .pld]
  | .thinWindowClose => [.spt, .pmu, .clk, .obs, .pld, .ctr]
  | .pmuSample _ _ _ _ => [.spt, .ary, .acq, .trk, .msr, .sol, .snf, .sky, .lnk, .rfc, .aon, .pmu, .clk, .boot, .mode, .hst, .obs, .pld, .basin, .ctr]
  | .governorLevelChange => [.ary, .trk, .aon, .pmu, .hst, .obs, .basin, .ctr]
  | .gaugeAnchor => [.aon, .pmu, .hst, .obs, .ctr]
  | .freeboardAccrual => [.pmu, .obs, .ctr]
  | .i2cAddressMatch _ _ | .uartBreakWake => [.pmu, .hst, .obs, .ctr]
  | .hostIdle => [.pmu]
  | .pllLock _ => [.sky, .clk, .hst, .obs, .ctr]
  | .pllLoss _ | .referenceLoss =>
    [.spt, .ary, .acq, .trk, .msr, .sol, .snf, .sky, .lnk, .rfc, .aon, .pmu, .clk, .boot, .mode, .hst, .obs, .pld, .basin, .ctr]
  | .ext10mWindow _ | .ckdRestart => [.clk, .hst, .obs, .ctr]
  | .uartCharReceive _ _ _ _ _ | .hostCycle _ | .bootRecord => [.hst, .obs, .ctr]
  | .inboundUnit => [.hst, .obs, .pld, .ctr]
  | .correctionFrame => [.sol, .hst, .obs, .ctr]
  | .timeAssistance => [.sky, .hst, .obs, .basin, .ctr]
  | .navAssistance _ => [.msr, .hst, .obs, .ctr]
  | .positionAssistance => [.acq, .hst, .obs, .ctr]
  | .outSubmit _ | .inPop _ | .inWake _ _ => [.snf, .sky, .lnk, .pmu, .hst, .obs, .pld, .ctr]
  | .i2cWrite _ | .i2cRead _ => [.hst]
  | .cardReset _ _ | .cardClkEn _ _ => [.snf, .sky, .lnk, .pmu, .hst, .obs, .pld, .ctr]
  | .cardCharReceive _ _ _ => [.hst, .pld, .ctr]
  | .cardCharSend _ _ => [.hst, .pld]
  | .txData _ _ | .cardRxPop _ | .cardRxWake _ _ | .cardTxWake _ _ | .txFailClear _ | .cryptoWakeEn _ _ =>
    [.snf, .sky, .lnk, .pmu, .hst, .obs, .pld, .ctr]
  | .anchorPacket | .tracePacketClose _ | .counterDump | .packetSend => [.obs, .ctr]
  | .relockTimeout => [.spt, .ary, .acq, .trk, .msr, .sol, .snf, .sky, .lnk, .rfc, .aon, .pmu, .clk, .boot, .mode, .hst, .obs, .pld, .basin, .ctr]
  | .inboundGapTimeout => [.hst, .obs, .pld, .ctr]
  | .huCtsNFall => [.hst]
  | .preambleDetection _ => [.rfc]
  | .brownoutRecovery => [.aon, .pmu, .clk, .mode]

/-- The polder for which a command acts, where it acts for one alone: its core's, its windows' and its engines' commands. A sluice transfer also reaches
the peer, as 12_polders R309 has it. -/
def actsFor : Instr → Option Polder
  | .snfPop p | .snfHold p _ | .snfWakeEn p _ | .schedArm p | .schedCancel p | .schedPop p | .schedWakeEn p _ | .nowLatch p | .txSubmit p
  | .txCancel p | .launch p _ | .relaunch p _ | .rosterLoadState p | .rosterLoadKey p | .rxPop p | .rxWake p _ | .cryptoGcmEncrypt p _
  | .cryptoGcmDecrypt p _ | .cryptoCcmEncrypt p _ | .cryptoCcmDecrypt p _ | .cryptoSha256 p _ | .cryptoEcdsaVerify p | .cryptoTrng p
  | .cryptoOpStart p | .cryptoDone p | .breachRecord p | .coreStart p | .basinLatch p _ | .sluiceDeliver p _ | .sluiceSend p _
  | .sluicePop p _ | .sluiceWakeEn p _ _ | .seReset p | .atrTimeout p | .unwrap p _ | .getResponse p _ _ | .seSilent p | .segmentLoad p
  | .interruptEntry p | .waitWake p | .pendClear p _ | .dryClear p | .restartedClear p | .registerWrite p _ _ | .lda p | .sta p | .add p
  | .adc p | .sub p | .sbc p | .and p | .ora p | .eor p | .cmp p | .addd p | .subd p | .daa p | .ldx p | .ldy p | .stx p | .sty p | .cpx p
  | .cpy p | .adx p | .ady p | .inc p | .dec p | .asl p | .lsr p | .rol p | .ror p | .clr p | .inca p | .deca p | .asla p | .lsra p
  | .rola p | .rora p | .clra p | .nega p | .coma p | .clc p | .sec p | .di p | .ei p | .nop p | .wait p | .tax p | .tay p | .txa p
  | .tya p | .txy p | .tyx p | .tsx p | .txs p | .inx p | .dex p | .iny p | .dey p | .mvi p | .mvd p | .jx p | .pha p | .phf p | .pla p
  | .plf p | .phx p | .phy p | .plx p | .ply p | .ret p | .rti p | .rpt p | .rpti p | .dbnz p | .bra p | .beq p | .bne p | .bcs p | .bcc p
  | .bmi p | .bpl p | .bvs p | .bvc p | .bhi p | .bls p | .bge p | .blt p | .bgt p | .ble p | .jmp p | .jmpi p | .lds p | .call p
  | .reservedOp p | .fetchVoid p | .outSubmit p | .inPop p | .inWake p _ | .cardReset p _ | .cardClkEn p _ | .cardCharReceive p _ _
  | .cardCharSend p _ | .txData p _ | .cardRxPop p | .cardRxWake p _ | .cardTxWake p _ | .txFailClear p | .cryptoWakeEn p _
  | .tracePacketClose p => some p
  | .vinThresholdRise | .brownout | .vinLoss | .resetNAssert _ | .resetNRelease _ | .referenceDetection _ | .bootPllLock | .tBootwaitExpiry
  | .headerRead _ _ | .entrySend _ | .headerReread _ | .imageReadDone _ _ | .fallbackImageRead _ _ | .commonVerification
  | .configurationStep | .safeRecord | .modeRuleCheck | .modeTransition | .holdEnter | .holdExit | .surveyMax | .vbatResume _
  | .layupFixStart | .layupFixTimeout | .layupFixEnd | .frameWord _ _ _ _ _ _ | .syncLost _ | .syncRegain _ | .guardWindow _ _
  | .samplePortTrigger | .feinitEntry _ | .gainLoopMs _ _ | .fixedReturnStep _ _ | .gainStep _ | .gainUnaligned _ | .bhTxRise | .bhTxFall
  | .blankTailEnd | .nullWeightUpdate _ _ _ _ | .quietReferenceInit _ | .jamLevelChange _ | .calUpdate _ _ _ | .aoaMeasure _ | .spoofEval _
  | .spoofRaise | .spoofClear | .spoofReleaseUnverified | .acqTaskStart _ | .acqRecordComplete _ | .acqStep _ _ | .acqVerify _ _
  | .handover _ | .trackDump _ _ | .coastExpiry _ | .pullFail _ | .lossTExpiry _ | .reacqExpiry _ | .weakSwitch _ | .freqRecovery _
  | .cn0Update _ | .arraySpawn _ | .beamTakeover _ | .beamTimeout _ | .beamReturn _ | .measurementEpoch | .stationMessages
  | .navCheckUnit _ _ | .symbolRecord _ | .standaloneUpdate _ _ | .preciseUpdate _ _ _ | .attitudeUpdate _ | .integrityEval _ _
  | .solSkip _ | .positionHold | .exclHoldExpiry _ | .correctionExpiry _ | .envelopeVerifyStart | .envelopeVerdict | .nmeaOutput
  | .solSatRecord | .statusPublish | .historyEntry | .snapshotDelivery _ | .farmSlotStart _ _ | .farmResult | .ordinaryUpdate
  | .switchBoundary | .firstAlignment | .permittedStep | .gnssReturn | .extPpsEdge _ | .extPpsMissing | .driftVoteWindow
  | .disqualification _ | .undecided | .requalification _ | .tpDecision _ | .timePulseEdge _ | .tpInactiveEdge _ | .evtCapture _ _ _
  | .schedulerFire | .frameSyncDetect _ _ | .frameReceive _ _ _ | .rxCut _ | .gatewayAck _ | .tagAck _ _ _ _ | .tagAckTimeout _ | .retry _
  | .beaconLaunch | .dpdUpdate | .noiseFloor _ | .lsynRetune _ | .emissionDecision _ _ | .emissionEnd | .coexReq | .coexPriRise
  | .coexPriFall | .quietPinRise | .quietPinFall | .quietTransitExit | .profileSetChange | .profileHoldExpiry | .basinSense
  | .sluiceTransfer _ _ | .vinOutOfRange | .guaranteeVoidClear | .domainDown _ | .domainUp _ | .thinWindowOpen | .thinWindowClose
  | .pmuSample _ _ _ _ | .governorLevelChange | .gaugeAnchor | .freeboardAccrual | .i2cAddressMatch _ _ | .uartBreakWake | .hostIdle
  | .pllLock _ | .pllLoss _ | .referenceLoss | .ext10mWindow _ | .ckdRestart | .uartCharReceive _ _ _ _ _ | .hostCycle _ | .bootRecord
  | .inboundUnit | .correctionFrame | .timeAssistance | .navAssistance _ | .positionAssistance | .i2cWrite _ | .i2cRead _ | .anchorPacket
  | .counterDump | .packetSend | .relockTimeout | .inboundGapTimeout | .huCtsNFall | .preambleDetection _ | .brownoutRecovery => none

/-- What another polder owns is the same in `s` and `t` (12_polders R306, R307): its core, RAM, windows, crypto and sluices, its side of the host port, its
share of the farm, its scheduler window and entries, its side of the link, its freeboard and its trace. -/
def apart (p : Polder) (s t : State) : Prop :=
  ∀ q : Polder, q ≠ p →
    t.pld[q] = s.pld[q] ∧ t.hst.pol[q] = s.hst.pol[q] ∧ t.snf.share[q] = s.snf.share[q] ∧ t.sky.win[q] = s.sky.win[q] ∧
    ownEntries t q = ownEntries s q ∧ t.lnk.rxq[q] = s.lnk.rxq[q] ∧ t.lnk.txResult[q] = s.lnk.txResult[q] ∧
    t.lnk.rosResult[q] = s.lnk.rosResult[q] ∧ t.lnk.nextHandle[q] = s.lnk.nextHandle[q] ∧ t.pmu.credit[q] = s.pmu.credit[q] ∧
    t.pmu.spent[q] = s.pmu.spent[q] ∧ t.obs.share[q.castSucc] = s.obs.share[q.castSucc] ∧ t.obs.open_[q] = s.obs.open_[q]

/-- The device is as after a reset but for AON, the OTP, the queue and the levels of the board's pins (15_power R372). -/
def lostAll (s t : State) : Prop :=
  t.ary = {} ∧ t.acq = {} ∧ t.trk = {} ∧ t.msr = {} ∧ t.sol = {} ∧ t.snf = {} ∧ t.sky = {} ∧ t.lnk = {} ∧ t.pmu = {} ∧ t.clk = {} ∧ t.obs = {} ∧
    t.pld = State.reset.pld ∧ t.basin = [] ∧ t.ctr = [] ∧ t.spt = { State.reset.spt with bhTx := s.spt.bhTx } ∧
    t.boot = { State.reset.boot with otp := s.boot.otp } ∧ t.pending = s.pending

/-- Boot begins from `s`: CLK and NVM have power, and the cause of a reset by a clock fault is LAST_FAULT (16_clocks R396, R410). -/
def bootBegins (s t : State) : Prop :=
  t.mode.life = .boot ∧ domOn t .clk = true ∧ domOn t .nvm = true ∧ t.clk.lastFault = s.aon.faultCause ∧ t.aon.faultCause = 0 ∧
    (∀ d : Domain, d ≠ .clk → d ≠ .nvm → domAt t d = domAt s d)

/-- A counter is one higher, or at its limit (02_sample_ports R51). -/
def counted (i : Nat) (s t : State) : Prop := ctrGet t i = min (ctrGet s i + 1) (2 ^ 32 - 1)

/-- `t` is `u` but for the basin view, the basin queue, the culvert and the counters: what reports touch (12_polders R319, 18_host_ports R447, 19_observation
R466, 02_sample_ports R51). -/
def upToReports (u t : State) : Prop :=
  t = { u with hst := { u.hst with outB := t.hst.outB }, obs := t.obs, ctr := t.ctr, basin := t.basin }

/-- One basin record of a class and a KIND, with this content, enters the basin queue between `s` and `t` (18_host_ports R443, R447). -/
def recorded (cls kind : Nat) (content : List Byte) (s t : State) : Prop :=
  t.hst.outB = (pushRec 0 (cfg s hstSlotsOutqB) (leBytes 2 0x1202) cls (leBytes 2 kind ++ content) (stNow s) s.hst.outB).q

/-- One record of a class and a SRC, with this content, enters polder `p`'s output queue between `s` and `t`; a dry polder's queue takes none
(18_host_ports R443, R447, R448). -/
def recordedP (p : Polder) (cls src : Nat) (content : List Byte) (s t : State) : Prop :=
  isDry s p = true ∨ t.hst.pol[p].out =
    (pushRec 16 (cfgAt s hstSlotsOutq p.val) (leBytes 1 3) cls (leBytes 1 src ++ content) (stNow s) s.hst.pol[p].out).q

/-- Nothing but polder `p`'s own state differs between `s` and `t`, and of it only what `f` says. -/
def onlyPolder (p : Polder) (f : PolderState → PolderState) (s t : State) : Prop := t = { s with pld := s.pld.set p (f s.pld[p]) }

/-- Several basin records in turn, each a class, a KIND and its content, enter the basin queue between `s` and `t` (18_host_ports R443, R447). -/
def recordedAll (l : List (Nat × Nat × List Byte)) (s t : State) : Prop :=
  t.hst.outB = l.foldl (fun q x => (pushRec 0 (cfg s hstSlotsOutqB) (leBytes 2 0x1202) x.1 (leBytes 2 x.2.1 ++ x.2.2) (stNow s) q).q) s.hst.outB

/-- A counter is `n` higher, or at its limit (02_sample_ports R51). -/
def raised (i n : Nat) (s t : State) : Prop := ctrGet t i = min (ctrGet s i + n) (2 ^ 32 - 1)

/-- The basin view holds these bytes from `a` on. -/
def shown (a : Nat) (bytes : List Byte) (t : State) : Prop := sread basinDflt t.basin a bytes.length = bytes

/-- A record is the newest of polder `p`'s receive queue, with whatever LOST says; a dry polder has none (10_tag_link R273, R279). -/
def arrived (p : Polder) (r : RxRecord) (s t : State) : Prop := isDry s p = true ∨ ∃ lost, t.lnk.rxq[p].getLast? = some { r with lost := lost }

/-- Polder `p`'s core executes, so that its program may access its windows, and no restart falls due with this access (13_ohmore_model R334, 12_polders R317). -/
def mayAccess (s : State) (p : Polder) : Prop := coreLive s p = true ∧ s.pld[p].restartDue = false

end Sys2Proof.Machine
end

