-- ==== Sys2Proof/WellFormed.lean ====
section
/-!
DEFINITION. Well-formed commands: what the types of the operands do not say (a length, a range). The meanings are total and check nothing of
this; a sender that keeps to the manual sends well-formed commands only.
-/

namespace Sys2Proof

/-- Lengths and ranges of the operands: 128 header bytes, whole image words (17_boot_image R414, R418), a square covariance over valid samples
(03_array R58), at most the cells of a step (04_acquisition R76, R89), 8 taps (05_tracking R101), the bits of a unit within the 10-bit LEN of
06_measurements Table 06-9, two more of an LNAV subframe, the 8 parts of a tick (09_sky_time R237), payload bytes and contexts (10_tag_link Table 10-2, R268), 8
channels, the basin view (12_polders R319), a response of 64 bytes (12_polders Table 12-10), the ranges of the sample grid (15_power R386). -/
def Instr.wf : Instr → Bool
  | .headerRead answers bytes => !answers || bytes.length == 128
  | .headerReread bytes => bytes.length == 128
  | .imageReadDone bytes dqsStall => dqsStall || bytes.length % 4 == 0
  | .fallbackImageRead answers bytes => !answers || bytes.length % 4 == 0
  | .vbatResume vbat => decide (vbat < 1024)
  | .nullWeightUpdate _ valid total cov => decide (valid ≤ total) && cov.all (fun r => r.length == cov.length)
  | .acqStep _ ivs => ivs.all fun v => decide (v.flagged ≤ v.samples) && decide (v.cells.length ≤ 2046)
  | .acqVerify _ ivs => ivs.all fun v => decide (v.flagged ≤ v.samples) && decide (v.cells.length ≤ 2046)
  | .trackDump _ d => d.taps.length == 8 && decide (d.flagged ≤ d.samples)
  | .navCheckUnit _ u => decide (u.bits.length < 1024)
  | .extPpsEdge bin => decide (bin < 8)
  | .evtCapture _ _ bin => decide (bin < 8)
  | .frameReceive _ body _ => decide (body.length ≤ 5135)
  | .tagAck ctx _ _ _ => decide (ctx < 1024)
  | .tagAckTimeout ctx => decide (ctx < 1024)
  | .retry ctx => decide (ctx < 1024)
  | .relaunch _ ctx => decide (ctx < 1024)
  | .noiseFloor levels => levels.length == 8
  | .basinLatch _ addr => decide (0xE000 ≤ addr.toNat) && decide (addr.toNat < 0xF000)
  | .getResponse _ resp _ => decide (resp.length ≤ 64)
  | .pmuSample _ vbat vin current => decide (vbat < 1024) && decide (vin < 1024) && decide (current.natAbs ≤ 100000)
  | .i2cWrite x => decide (x.bytes ≠ [])
  | .i2cRead n => decide (0 < n)
  | .vinThresholdRise | .brownout | .vinLoss | .resetNAssert _ | .resetNRelease _ | .referenceDetection _ | .bootPllLock | .tBootwaitExpiry
  | .entrySend _ | .commonVerification | .configurationStep | .safeRecord | .modeRuleCheck | .modeTransition | .holdEnter | .holdExit | .surveyMax
  | .layupFixStart | .layupFixTimeout | .layupFixEnd | .frameWord _ _ _ _ _ _ | .syncLost _ | .syncRegain _ | .guardWindow _ _ | .samplePortTrigger
  | .feinitEntry _ | .gainLoopMs _ _ | .fixedReturnStep _ _ | .gainStep _ | .gainUnaligned _ | .bhTxRise | .bhTxFall | .blankTailEnd
  | .quietReferenceInit _ | .jamLevelChange _ | .calUpdate _ _ _ | .aoaMeasure _ | .spoofEval _ | .spoofRaise | .spoofClear
  | .spoofReleaseUnverified | .acqTaskStart _ | .acqRecordComplete _ | .handover _ | .coastExpiry _ | .pullFail _ | .lossTExpiry _
  | .reacqExpiry _ | .weakSwitch _ | .freqRecovery _ | .cn0Update _ | .arraySpawn _ | .beamTakeover _ | .beamTimeout _ | .beamReturn _
  | .measurementEpoch | .stationMessages | .symbolRecord _ | .standaloneUpdate _ _ | .preciseUpdate _ _ _ | .attitudeUpdate _ | .integrityEval _ _
  | .solSkip _ | .positionHold | .exclHoldExpiry _ | .correctionExpiry _ | .envelopeVerifyStart | .envelopeVerdict | .nmeaOutput | .solSatRecord
  | .statusPublish | .historyEntry | .snapshotDelivery _ | .farmSlotStart _ _ | .farmResult | .snfPop _ | .snfHold _ _ | .snfWakeEn _ _ | .ordinaryUpdate
  | .switchBoundary | .firstAlignment | .permittedStep | .gnssReturn | .extPpsMissing | .driftVoteWindow | .disqualification _ | .undecided
  | .requalification _ | .tpDecision _ | .timePulseEdge _ | .tpInactiveEdge _ | .schedulerFire | .schedArm _ | .schedCancel _ | .schedPop _
  | .schedWakeEn _ _ | .nowLatch _ | .frameSyncDetect _ _ | .rxCut _ | .gatewayAck _ | .beaconLaunch | .txSubmit _ | .txCancel _ | .launch _ _
  | .rosterLoadState _ | .rosterLoadKey _ | .rxPop _ | .rxWake _ _ | .dpdUpdate | .lsynRetune _ | .emissionDecision _ _ | .emissionEnd | .coexReq
  | .coexPriRise | .coexPriFall | .quietPinRise | .quietPinFall | .quietTransitExit | .profileSetChange | .profileHoldExpiry
  | .cryptoGcmEncrypt _ _ | .cryptoGcmDecrypt _ _ | .cryptoCcmEncrypt _ _ | .cryptoCcmDecrypt _ _ | .cryptoSha256 _ _ | .cryptoEcdsaVerify _
  | .cryptoTrng _ | .cryptoOpStart _ | .cryptoDone _ | .breachRecord _ | .coreStart _ | .basinSense | .sluiceTransfer _ _ | .sluiceDeliver _ _
  | .sluiceSend _ _ | .sluicePop _ _ | .sluiceWakeEn _ _ _ | .seReset _ | .atrTimeout _ | .unwrap _ _ | .seSilent _ | .segmentLoad _
  | .vinOutOfRange | .guaranteeVoidClear | .interruptEntry _ | .waitWake _ | .pendClear _ _ | .dryClear _ | .restartedClear _
  | .registerWrite _ _ _ | .lda _ | .sta _ | .add _ | .adc _ | .sub _ | .sbc _ | .and _ | .ora _ | .eor _ | .cmp _ | .addd _ | .subd _ | .daa _
  | .ldx _ | .ldy _ | .stx _ | .sty _ | .cpx _ | .cpy _ | .adx _ | .ady _ | .inc _ | .dec _ | .asl _ | .lsr _ | .rol _ | .ror _ | .clr _ | .inca _
  | .deca _ | .asla _ | .lsra _ | .rola _ | .rora _ | .clra _ | .nega _ | .coma _ | .clc _ | .sec _ | .di _ | .ei _ | .nop _ | .wait _ | .tax _
  | .tay _ | .txa _ | .tya _ | .txy _ | .tyx _ | .tsx _ | .txs _ | .inx _ | .dex _ | .iny _ | .dey _ | .mvi _ | .mvd _ | .jx _ | .pha _ | .phf _
  | .pla _ | .plf _ | .phx _ | .phy _ | .plx _ | .ply _ | .ret _ | .rti _ | .rpt _ | .rpti _ | .dbnz _ | .bra _ | .beq _ | .bne _ | .bcs _ | .bcc _
  | .bmi _ | .bpl _ | .bvs _ | .bvc _ | .bhi _ | .bls _ | .bge _ | .blt _ | .bgt _ | .ble _ | .jmp _ | .jmpi _ | .lds _ | .call _ | .reservedOp _
  | .fetchVoid _ | .domainDown _ | .domainUp _ | .thinWindowOpen | .thinWindowClose | .governorLevelChange | .gaugeAnchor | .freeboardAccrual
  | .i2cAddressMatch _ _ | .uartBreakWake | .hostIdle | .pllLock _ | .pllLoss _ | .referenceLoss | .ext10mWindow _ | .ckdRestart
  | .uartCharReceive _ _ _ _ _ | .hostCycle _ | .bootRecord | .inboundUnit | .correctionFrame | .timeAssistance | .navAssistance _
  | .positionAssistance | .outSubmit _ | .inPop _ | .inWake _ _ | .cardReset _ _ | .cardClkEn _ _ | .cardCharReceive _ _ _ | .cardCharSend _ _
  | .txData _ _ | .cardRxPop _ | .cardRxWake _ _ | .cardTxWake _ _ | .txFailClear _ | .cryptoWakeEn _ _ | .anchorPacket | .tracePacketClose _
  | .counterDump | .packetSend | .relockTimeout | .inboundGapTimeout | .huCtsNFall | .preambleDetection _ | .brownoutRecovery => true

end Sys2Proof
end

