-- ==== Sys2Proof/Certificates/Slice0/Obligations.lean ====
section
/-!
DEFINITION. The statements about the AV-1024 block for the provers: what the commands do, family by family, what they leave alone, and what every step keeps.
-/

open Sys2Proof Sys2Proof.Machine

/-- A step runs the command at the front of the queue on everything but the queue; without one it is an edge of the block's clock (INDEX The commands). -/
def Obligations.StepRunsFrontCommand : Prop :=
  (∀ (c : Instr) (r : List Instr) (s : State), s.pending = c :: r → step s = exec c { s with pending := r }) ∧
    ∀ s : State, s.pending = [] → step s = .next (idle s)

/-- Every command in every state answers a next state, and changes only the parts of the state that its family owns; none touches the queue (02_sample_ports R51, 12_polders R306, 12_polders R309, 14_ohmore_isa R368, 15_power R372). -/
def Obligations.EveryCommandCompletes : Prop :=
  ∀ (c : Instr) (s : State), (∃ t, exec c s = .next t) ∧ ∀ t, exec c s = .next t → only (footprint c) s t ∧ t.pending = s.pending

/-- Every step keeps the memories canonical: the basin view, each polder's RAM and window store, the counters, channels and contexts (12_polders R319, 13_ohmore_model R333, 13_ohmore_model R338, 02_sample_ports R51). -/
def Obligations.MemoriesStayCanonical : Prop :=
  ∀ (s t : State), s.memWf → step s = .next t → t.memWf

/-- A command of one polder leaves what every other polder owns as it was (12_polders R306, 12_polders R307, 12_polders R309). -/
def Obligations.CommandsStayWithTheirPolder : Prop :=
  ∀ (c : Instr) (p : Polder) (s t : State), actsFor c = some p → s.pld[p].key = .done → exec c s = .next t → apart p s t

/-- An idle step is one tick while KCLK runs, else one reference cycle through the fractional accumulator, and the segment that is due takes over (09_sky_time R218, 09_sky_time R219). -/
def Obligations.IdleStepCounts : Prop :=
  ∀ s : State, s.pending = [] → ∃ t, step s = .next t ∧
    (s.sky.run = false → t = s) ∧
    (s.sky.run = true → only [.sky, .clk, .hst, .obs, .basin, .ctr] s t ∧
      (kclkRuns s = true → t.sky.tick = s.sky.tick + 1 ∧ t.sky.frac = s.sky.frac) ∧
      (kclkRuns s = false → t.sky.tick * 2 ^ 32 + t.sky.frac.toNat = s.sky.tick * 2 ^ 32 + s.sky.frac.toNat + refStep s) ∧
      (∀ g, s.sky.next = some g → (g.tick ≤ t.sky.tick → t.sky.seg = g ∧ t.sky.next = none) ∧ (t.sky.tick < g.tick → t.sky.seg = s.sky.seg ∧ t.sky.next = some g)) ∧
      (s.sky.next = none → t.sky.seg = s.sky.seg ∧ t.sky.next = none))

/-- What the machine is right after reset (02_sample_ports R51, 09_sky_time R218, 12_polders Table 12-7, 01_architecture Table 01-2, 09_sky_time Table 09-15, 15_power R374, 13_ohmore_model Table 13-11). -/
def Obligations.ResetState : Prop :=
  let s := State.reset
  s.pending = [] ∧ (∀ i, ctrGet s i = 0) ∧ s.sky.tick = 0 ∧ s.sky.run = false ∧ s.hst.outB.recs = [] ∧ (∀ p : Polder, s.hst.pol[p].out.recs = []) ∧
    s.trk.chan = [] ∧ s.acq.queue = [] ∧ (∀ p : Polder, s.pld[p].core.phase = .off ∧ s.pld[p].ram = []) ∧
    (∀ d : Domain, domAt s d = if d = .aon then .on else .off) ∧ s.pmu.void = false ∧ s.mode.mode = .cold ∧ s.mode.target = .full ∧ s.mode.aligned = false ∧
    s.memWf ∧ s.ctrWf ∧
    (List.range 4).map (fun k => basinByte s (0xE000 + k)) = [0x00, 0x0B, 0x00, 0x00] ∧
    (List.range 8).map (fun k => basinByte s (0xE010 + k)) = [0x31, 0x0F, 0, 0, 0, 0, 0, 0] ∧
    (List.range 8).map (fun k => basinByte s (0xE098 + k)) = [0x12, 0, 0, 0, 0xFF, 0xFF, 0xFF, 0xFF]

/-- The five arithmetic flags of F (13_ohmore_model Table 13-2). -/
def flagsAre (f : Byte) (n v h z c : Bool) : Prop :=
  hasFlag f flagN = n ∧ hasFlag f flagV = v ∧ hasFlag f flagH = h ∧ hasFlag f flagZ = z ∧ hasFlag f flagC = c

/-- Writing a flag set leaves the bits `m` of F as they were. -/
def leavesFlags (w : FlagSet) (f m : Byte) : Prop := w.apply f &&& m = f &&& m

/-- Sum, difference and compare flags of the byte and word operations are the arithmetic ones (14_ohmore_isa R357, 14_ohmore_isa Table 14-4, 13_ohmore_model Table 13-2). -/
def Obligations.OhmoreAdderFlags : Prop :=
  ∀ (a m f : Byte) (x y : Word) (c : Bool),
    ((add8 a m c).1.toNat = (a.toNat + m.toNat + c.toNat) % 256 ∧
      flagsAre ((add8 a m c).2.apply f) (add8 a m c).1.msb
        (decide (a.toInt + m.toInt + c.toNat < -128 ∨ 127 < a.toInt + m.toInt + c.toNat))
        (decide (16 ≤ a.toNat % 16 + m.toNat % 16 + c.toNat)) (decide ((a.toNat + m.toNat + c.toNat) % 256 = 0))
        (decide (256 ≤ a.toNat + m.toNat + c.toNat)) ∧
      leavesFlags (add8 a m c).2 f (flagI ||| flagT)) ∧
    (((sub8 a m c).1.toNat : Int) = ((a.toNat : Int) - m.toNat - c.toNat) % 256 ∧
      flagsAre ((sub8 a m c).2.apply f) (sub8 a m c).1.msb
        (decide (a.toInt - m.toInt - c.toNat < -128 ∨ 127 < a.toInt - m.toInt - c.toNat))
        (decide (a.toNat % 16 < m.toNat % 16 + c.toNat)) (decide ((sub8 a m c).1.toNat = 0))
        (decide (a.toNat < m.toNat + c.toNat)) ∧
      leavesFlags (sub8 a m c).2 f (flagI ||| flagT)) ∧
    (flagsAre ((cmp16 x y).apply f) (x - y).msb (decide (x.toInt - y.toInt < -32768 ∨ 32767 < x.toInt - y.toInt)) (hasFlag f flagH)
        (decide (x = y)) (decide (x.toNat < y.toNat)) ∧
      leavesFlags (cmp16 x y) f (flagI ||| flagT)) ∧
    ((inc8 m).1 = m + 1 ∧ flagsAre ((inc8 m).2.apply f) (m + 1).msb (decide (m = 0x7F)) (hasFlag f flagH) (decide (m = 0xFF)) (hasFlag f flagC) ∧
      leavesFlags (inc8 m).2 f (flagI ||| flagT)) ∧
    ((dec8 m).1 = m - 1 ∧ flagsAre ((dec8 m).2.apply f) (m - 1).msb (decide (m = 0x80)) (hasFlag f flagH) (decide (m = 1)) (hasFlag f flagC) ∧
      leavesFlags (dec8 m).2 f (flagI ||| flagT)) ∧
    ((logic8 m).1 = m ∧ flagsAre ((logic8 m).2.apply f) m.msb false (hasFlag f flagH) (decide (m = 0)) (hasFlag f flagC) ∧
      leavesFlags (logic8 m).2 f (flagI ||| flagT)) ∧
    ((neg8 a).1 = 0 - a ∧ hasFlag ((neg8 a).2.apply f) flagC = decide (a ≠ 0) ∧ hasFlag ((neg8 a).2.apply f) flagV = decide (a = 0x80)) ∧
    ((com8 a).1 = ~~~a ∧ flagsAre ((com8 a).2.apply f) (!a.msb) false (hasFlag f flagH) (decide (a = 0xFF)) true) ∧
    flagsAre (clrFlags.apply f) false false (hasFlag f flagH) true false ∧
    (flagsAre ((nz16 x).apply f) x.msb (hasFlag f flagV) (hasFlag f flagH) (decide (x = 0)) (hasFlag f flagC)) ∧
    (flagsAre ((nz8 a).apply f) a.msb (hasFlag f flagV) (hasFlag f flagH) (decide (a = 0)) (hasFlag f flagC))

/-- Shifts and rotates move every bit by one, C takes the bit shifted out and V is N XOR C (14_ohmore_isa R357, 14_ohmore_isa Table 14-4). -/
def Obligations.OhmoreShiftFlags : Prop :=
  ∀ (m f : Byte) (c : Bool),
    ((asl8 m).1.toNat = 2 * m.toNat % 256 ∧ flagsAre ((asl8 m).2.apply f) (decide (128 ≤ 2 * m.toNat % 256)) (decide (128 ≤ 2 * m.toNat % 256) != decide (128 ≤ m.toNat))
        (hasFlag f flagH) (decide (2 * m.toNat % 256 = 0)) (decide (128 ≤ m.toNat)) ∧ leavesFlags (asl8 m).2 f (flagI ||| flagT)) ∧
    ((lsr8 m).1.toNat = m.toNat / 2 ∧ flagsAre ((lsr8 m).2.apply f) false (decide (m.toNat % 2 = 1)) (hasFlag f flagH) (decide (m.toNat / 2 = 0))
        (decide (m.toNat % 2 = 1)) ∧ leavesFlags (lsr8 m).2 f (flagI ||| flagT)) ∧
    ((rol8 m c).1.toNat = (2 * m.toNat + c.toNat) % 256 ∧
      flagsAre ((rol8 m c).2.apply f) (decide (128 ≤ (2 * m.toNat + c.toNat) % 256)) (decide (128 ≤ (2 * m.toNat + c.toNat) % 256) != decide (128 ≤ m.toNat))
        (hasFlag f flagH) (decide ((2 * m.toNat + c.toNat) % 256 = 0)) (decide (128 ≤ m.toNat)) ∧ leavesFlags (rol8 m c).2 f (flagI ||| flagT)) ∧
    ((ror8 m c).1.toNat = m.toNat / 2 + 128 * c.toNat ∧ flagsAre ((ror8 m c).2.apply f) c (c != decide (m.toNat % 2 = 1)) (hasFlag f flagH)
        (decide (m.toNat / 2 + 128 * c.toNat = 0)) (decide (m.toNat % 2 = 1)) ∧ leavesFlags (ror8 m c).2 f (flagI ||| flagT))

/-- The packed decimal byte of a number below 100. -/
def packed (x : Nat) : Byte := BitVec.ofNat 8 (x / 10 * 16 + x % 10)

/-- The correction of 14_ohmore_isa R360 for a value, its half carry and its carry, and the carry after it. -/
def decimalStep (x : Nat) (half carry : Prop) [Decidable half] [Decidable carry] : Nat × Bool :=
  ((if half ∨ 9 < x % 16 then 6 else 0) + (if carry ∨ 0x99 < x then 0x60 else 0), decide (carry ∨ 0x99 < x))

/-- A new A with its flags: C and H as given, V 0, N its bit 7 and Z that it is 0; I and T as they were. -/
def decimalIs (r : Byte × FlagSet) (a : Nat) (c h : Bool) : Prop :=
  r.1 = BitVec.ofNat 8 a ∧ ∀ f, flagsAre (r.2.apply f) r.1.msb false h (decide (r.1 = 0)) c ∧ leavesFlags r.2 f (flagI ||| flagT)

/-- ADDD, SUBD and DAA compute as R360 has it for every operand byte, and on packed decimal operands give the decimal sum, difference and carry (14_ohmore_isa R360). -/
def Obligations.OhmoreDecimal : Prop :=
  (∀ (a m : Byte) (c h : Bool),
    let sum := a.toNat + m.toNat + c.toNat
    let halfUp := 16 ≤ a.toNat % 16 + m.toNat % 16 + c.toNat
    let up := decimalStep (sum % 256) halfUp (256 ≤ sum)
    let diff := (a.toNat + 512 - m.toNat - c.toNat) % 256
    let halfDown := a.toNat % 16 < m.toNat % 16 + c.toNat
    let down := decimalStep diff halfDown (a.toNat < m.toNat + c.toNat)
    let adj := decimalStep a.toNat (h = true) (c = true)
    decimalIs (addd8 a m c) (sum + up.1) up.2 (decide halfUp) ∧
      decimalIs (subd8 a m c) (diff + 256 - down.1) down.2 (decide halfDown) ∧
      decimalIs (daa8 a c h) (a.toNat + adj.1) adj.2 false) ∧
  (∀ (s : State) (p : Polder) (c0 : Core) (i : OhmInstr) (len : Nat),
    let m := (operand8 p c0 i (begun p c0 s)).1
    let u := (operand8 p c0 i (begun p c0 s)).2
    let l := landed p c0 u
    let cy := hasFlag c0.f flagC
    (coreLive u p = true →
      (executes s p .addd c0 i len → completes (.addd p) s (fun t =>
        retired p c0 len u t { l with a := (addd8 c0.a m cy).1, f := (addd8 c0.a m cy).2.apply l.f })) ∧
      (executes s p .subd c0 i len → completes (.subd p) s (fun t =>
        retired p c0 len u t { l with a := (subd8 c0.a m cy).1, f := (subd8 c0.a m cy).2.apply l.f }))) ∧
    (executes s p .daa c0 i len → completes (.daa p) s (fun t =>
      let v := idleCycles p 1 (begun p c0 s)
      let k := landed p c0 v
      let r := daa8 c0.a cy (hasFlag c0.f flagH)
      retired p c0 len v t { k with a := r.1, f := r.2.apply k.f }))) ∧
  (∀ (x y : Nat) (c : Bool) (f : Byte), x < 100 → y < 100 →
    ((addd8 (packed x) (packed y) c).1 = packed ((x + y + c.toNat) % 100) ∧ hasFlag ((addd8 (packed x) (packed y) c).2.apply f) flagC = decide (100 ≤ x + y + c.toNat)) ∧
    ((subd8 (packed x) (packed y) c).1 = packed ((x + 100 - y - c.toNat) % 100) ∧ hasFlag ((subd8 (packed x) (packed y) c).2.apply f) flagC = decide (x < y + c.toNat)) ∧
    (let b := (add8 (packed x) (packed y) c).1
     let g := (add8 (packed x) (packed y) c).2.apply f
     (daa8 b (hasFlag g flagC) (hasFlag g flagH)).1 = packed ((x + y + c.toNat) % 100) ∧
      hasFlag ((daa8 b (hasFlag g flagC) (hasFlag g flagH)).2.apply g) flagC = decide (100 ≤ x + y + c.toNat))) ∧
  ∀ f : Byte, ((addd8 0x58 0x47 false).1 = 0x05 ∧ hasFlag ((addd8 0x58 0x47 false).2.apply f) flagC = true) ∧
    (∀ c, c = false → (addd8 0x99 0x01 c).1 = 0x00 ∧ hasFlag ((addd8 0x99 0x01 c).2.apply f) flagC = true ∧ hasFlag ((addd8 0x99 0x01 c).2.apply f) flagZ = true) ∧
    ((subd8 0x00 0x01 false).1 = 0x99 ∧ hasFlag ((subd8 0x00 0x01 false).2.apply f) flagC = true)

/-- ADD, ADC, SUB, SBC, AND, ORA, EOR, ADDD and SUBD write A and the flags of Table 14-4, CMP the flags alone (14_ohmore_isa R357, 14_ohmore_isa Table 14-4, 13_ohmore_model R337, 14_ohmore_isa R365, 14_ohmore_isa R352). -/
def Obligations.OhmoreAccumulatorOps : Prop :=
  ∀ (s : State) (p : Polder) (c0 : Core) (i : OhmInstr) (len : Nat),
    let m := (operand8 p c0 i (begun p c0 s)).1
    let u := (operand8 p c0 i (begun p c0 s)).2
    let l := landed p c0 u
    let cy := hasFlag c0.f flagC
    let does : Byte × FlagSet → State → Prop := fun r t => retired p c0 len u t { l with a := r.1, f := r.2.apply l.f }
    coreLive u p = true →
    (executes s p .add c0 i len → completes (.add p) s (does (add8 c0.a m false))) ∧
    (executes s p .adc c0 i len → completes (.adc p) s (does (add8 c0.a m cy))) ∧
    (executes s p .sub c0 i len → completes (.sub p) s (does (sub8 c0.a m false))) ∧
    (executes s p .sbc c0 i len → completes (.sbc p) s (does (sub8 c0.a m cy))) ∧
    (executes s p .and c0 i len → completes (.and p) s (does (logic8 (c0.a &&& m)))) ∧
    (executes s p .ora c0 i len → completes (.ora p) s (does (logic8 (c0.a ||| m)))) ∧
    (executes s p .eor c0 i len → completes (.eor p) s (does (logic8 (c0.a ^^^ m)))) ∧
    (executes s p .addd c0 i len → completes (.addd p) s (does (addd8 c0.a m cy))) ∧
    (executes s p .subd c0 i len → completes (.subd p) s (does (subd8 c0.a m cy))) ∧
    (executes s p .cmp c0 i len → completes (.cmp p) s (fun t => retired p c0 len u t { l with f := (sub8 c0.a m false).2.apply l.f }))

/-- The one-cycle operations on registers and flags write what Table 14-4 says, and the program's RAM reads the same after them (14_ohmore_isa R357, 14_ohmore_isa Table 14-4, 13_ohmore_model R338, 14_ohmore_isa R365, 14_ohmore_isa R352). -/
def Obligations.OhmoreInherentOps : Prop :=
  ∀ (s : State) (p : Polder) (c0 : Core) (i : OhmInstr) (len : Nat), Memory.wf (fun _ => 0) s.pld[p].ram = true →
    let u := idleCycles p 1 (begun p c0 s)
    let l := landed p c0 u
    let cy := hasFlag c0.f flagC
    let ends : Core → State → Prop := fun k t =>
      retired p c0 len u t k ∧ sameMemory p s t ∧ elsewhere p s t ∧ t.pld[p].core.cycles = s.pld[p].core.cycles + 1
    let accum : Byte × FlagSet → State → Prop := fun r => ends { l with a := r.1, f := r.2.apply l.f }
    (executes s p .inca c0 i len → completes (.inca p) s (accum (inc8 c0.a))) ∧
    (executes s p .deca c0 i len → completes (.deca p) s (accum (dec8 c0.a))) ∧
    (executes s p .asla c0 i len → completes (.asla p) s (accum (asl8 c0.a))) ∧
    (executes s p .lsra c0 i len → completes (.lsra p) s (accum (lsr8 c0.a))) ∧
    (executes s p .rola c0 i len → completes (.rola p) s (accum (rol8 c0.a cy))) ∧
    (executes s p .rora c0 i len → completes (.rora p) s (accum (ror8 c0.a cy))) ∧
    (executes s p .clra c0 i len → completes (.clra p) s (accum (0, clrFlags))) ∧
    (executes s p .nega c0 i len → completes (.nega p) s (accum (neg8 c0.a))) ∧
    (executes s p .coma c0 i len → completes (.coma p) s (accum (com8 c0.a))) ∧
    (executes s p .daa c0 i len → completes (.daa p) s (accum (daa8 c0.a cy (hasFlag c0.f flagH)))) ∧
    (executes s p .clc c0 i len → completes (.clc p) s (ends { l with f := l.f &&& ~~~flagC })) ∧
    (executes s p .sec c0 i len → completes (.sec p) s (ends { l with f := l.f ||| flagC })) ∧
    (executes s p .di c0 i len → completes (.di p) s (ends { l with f := l.f &&& ~~~flagI })) ∧
    (executes s p .ei c0 i len → completes (.ei p) s (ends { l with f := l.f ||| flagI })) ∧
    (executes s p .nop c0 i len → completes (.nop p) s (ends l)) ∧
    (executes s p .tax c0 i len → completes (.tax p) s (ends { l with x := c0.a.setWidth 16, f := (nz16 (c0.a.setWidth 16)).apply l.f })) ∧
    (executes s p .tay c0 i len → completes (.tay p) s (ends { l with y := c0.a.setWidth 16, f := (nz16 (c0.a.setWidth 16)).apply l.f })) ∧
    (executes s p .txa c0 i len → completes (.txa p) s (ends { l with a := c0.x.setWidth 8, f := (nz8 (c0.x.setWidth 8)).apply l.f })) ∧
    (executes s p .tya c0 i len → completes (.tya p) s (ends { l with a := c0.y.setWidth 8, f := (nz8 (c0.y.setWidth 8)).apply l.f })) ∧
    (executes s p .txy c0 i len → completes (.txy p) s (ends { l with y := c0.x, f := (nz16 c0.x).apply l.f })) ∧
    (executes s p .tyx c0 i len → completes (.tyx p) s (ends { l with x := c0.y, f := (nz16 c0.y).apply l.f })) ∧
    (executes s p .tsx c0 i len → completes (.tsx p) s (ends { l with x := c0.s })) ∧
    (executes s p .txs c0 i len → completes (.txs p) s (ends { l with s := c0.x })) ∧
    (executes s p .inx c0 i len → completes (.inx p) s (ends { l with x := c0.x + 1, f := (l.f &&& ~~~flagZ) ||| fbit flagZ (c0.x + 1 == 0) })) ∧
    (executes s p .dex c0 i len → completes (.dex p) s (ends { l with x := c0.x - 1, f := (l.f &&& ~~~flagZ) ||| fbit flagZ (c0.x - 1 == 0) })) ∧
    (executes s p .iny c0 i len → completes (.iny p) s (ends { l with y := c0.y + 1, f := (l.f &&& ~~~flagZ) ||| fbit flagZ (c0.y + 1 == 0) })) ∧
    (executes s p .dey c0 i len → completes (.dey p) s (ends { l with y := c0.y - 1, f := (l.f &&& ~~~flagZ) ||| fbit flagZ (c0.y - 1 == 0) }))

/-- CPX and CPY compare 16 bits, ADX, ADY and LDS write an index register or S and no flag (14_ohmore_isa R357, 14_ohmore_isa Table 14-4, 14_ohmore_isa R355, 14_ohmore_isa R365). -/
def Obligations.OhmoreWordOps : Prop :=
  ∀ (s : State) (p : Polder) (c0 : Core) (i : OhmInstr) (len : Nat),
    (let u := (operand16 p c0 i (begun p c0 s)).2
     let m := (operand16 p c0 i (begun p c0 s)).1
     let l := landed p c0 u
     coreLive u p = true →
      (executes s p .cpx c0 i len → completes (.cpx p) s (fun t => retired p c0 len u t { l with f := (cmp16 c0.x m).apply l.f })) ∧
      (executes s p .cpy c0 i len → completes (.cpy p) s (fun t => retired p c0 len u t { l with f := (cmp16 c0.y m).apply l.f }))) ∧
    (let u := idleCycles p (baseCycles i) (begun p c0 s)
     let l := landed p c0 u
     (executes s p .adx c0 i len → completes (.adx p) s (fun t => retired p c0 len u t { l with x := c0.x + addend16 i })) ∧
     (executes s p .ady c0 i len → completes (.ady p) s (fun t => retired p c0 len u t { l with y := c0.y + addend16 i }))) ∧
    (let u := idleCycles p 2 (begun p c0 s)
     let l := landed p c0 u
     executes s p .lds c0 i len → completes (.lds p) s (fun t => retired p c0 len u t { l with s := BitVec.ofNat 16 i.arg }))

/-- LDA, LDX, LDY, PLA, PLX and PLY leave their value for the end of the shadow, which sees the old register; PLF writes F but T and bit 2 (13_ohmore_model R337, 14_ohmore_isa R359, 14_ohmore_isa R357, 13_ohmore_model R332). -/
def Obligations.OhmoreLoadsAndPulls : Prop :=
  ∀ (s : State) (p : Polder) (c0 : Core) (i : OhmInstr) (len : Nat),
    (let u := (operand8 p c0 i (begun p c0 s)).2
     let m := (operand8 p c0 i (begun p c0 s)).1
     coreLive u p = true → executes s p .lda c0 i len →
      completes (.lda p) s (fun t => retired p c0 len u t { landed p c0 u with load := some ⟨.a, m.setWidth 16⟩ })) ∧
    (let u := (operand16 p c0 i (begun p c0 s)).2
     let m := (operand16 p c0 i (begun p c0 s)).1
     coreLive u p = true →
      (executes s p .ldx c0 i len → completes (.ldx p) s (fun t => retired p c0 len u t { landed p c0 u with load := some ⟨.x, m⟩ })) ∧
      (executes s p .ldy c0 i len → completes (.ldy p) s (fun t => retired p c0 len u t { landed p c0 u with load := some ⟨.y, m⟩ }))) ∧
    (let u := (readMem p 1 c0.s.toNat 1 (begun p c0 s)).2
     let b := (readMem p 1 c0.s.toNat 1 (begun p c0 s)).1.headD 0
     let l := landed p c0 u
     coreLive u p = true →
      (executes s p .pla c0 i len → completes (.pla p) s (fun t => retired p c0 len u t { l with s := c0.s + 1, load := some ⟨.a, b.setWidth 16⟩ })) ∧
      (executes s p .plf c0 i len →
        completes (.plf p) s (fun t => retired p c0 len u t { l with s := c0.s + 1, f := (l.f &&& 0x0C) ||| (b &&& 0xF3) }))) ∧
    (let u := (readMem p 1 c0.s.toNat 2 (begun p c0 s)).2
     let v := (readMem p 1 c0.s.toNat 2 (begun p c0 s)).1
     let l := landed p c0 u
     coreLive u p = true →
      (executes s p .plx c0 i len → completes (.plx p) s (fun t => retired p c0 len u t { l with s := c0.s + 2, load := some ⟨.x, wordOf v⟩ })) ∧
      (executes s p .ply c0 i len → completes (.ply p) s (fun t => retired p c0 len u t { l with s := c0.s + 2, load := some ⟨.y, wordOf v⟩ }))) ∧
    (∀ (v : Word) (c : Core),
      landLoad (some ⟨.a, v⟩) c = { c with a := v.setWidth 8, f := (nz8 (v.setWidth 8)).apply c.f } ∧
      landLoad (some ⟨.x, v⟩) c = { c with x := v, f := (nz16 v).apply c.f } ∧
      landLoad (some ⟨.y, v⟩) c = { c with y := v, f := (nz16 v).apply c.f })

/-- STA, STX, STY and the pushes write their register at the effective address or below S, and change no flag (14_ohmore_isa R357, 14_ohmore_isa R363, 13_ohmore_model R332, 13_ohmore_model R336). -/
def Obligations.OhmoreStoresAndPushes : Prop :=
  ∀ (s : State) (p : Polder) (c0 : Core) (i : OhmInstr) (len : Nat),
    let store : List Byte → State := fun b => writeMem p (baseCycles i) (effAddr c0 i) b (begun p c0 s)
    let push : List Byte → State := fun b => writeMem p 1 (c0.s - BitVec.ofNat 16 b.length).toNat b (begun p c0 s)
    let stored : OhmOp → Instr → List Byte → Prop := fun op c b =>
      executes s p op c0 i len → coreLive (store b) p = true → completes c s (fun t => retired p c0 len (store b) t (landed p c0 (store b)))
    let pushed : OhmOp → Instr → List Byte → Prop := fun op c b =>
      executes s p op c0 i len → coreLive (push b) p = true →
        completes c s (fun t => retired p c0 len (push b) t { landed p c0 (push b) with s := c0.s - BitVec.ofNat 16 b.length })
    stored .sta (.sta p) [c0.a] ∧
    stored .stx (.stx p) [c0.x.setWidth 8, (c0.x >>> 8).setWidth 8] ∧
    stored .sty (.sty p) [c0.y.setWidth 8, (c0.y >>> 8).setWidth 8] ∧
    pushed .pha (.pha p) [c0.a] ∧
    pushed .phf (.phf p) [c0.f] ∧
    pushed .phx (.phx p) [c0.x.setWidth 8, (c0.x >>> 8).setWidth 8] ∧
    pushed .phy (.phy p) [c0.y.setWidth 8, (c0.y >>> 8).setWidth 8]

/-- INC, DEC, ASL, LSR, ROL and ROR read, compute and write back one byte; CLR and the block moves write as Table 14-4 says (14_ohmore_isa R357, 13_ohmore_model R336, 14_ohmore_isa R355, 14_ohmore_isa Table 14-4). -/
def Obligations.OhmoreReadModifyWrite : Prop :=
  ∀ (s : State) (p : Polder) (c0 : Core) (i : OhmInstr) (len : Nat),
    let a := effAddr c0 i
    let r := readMem p (baseCycles i) a 1 (begun p c0 s)
    let m := r.1.headD 0
    let cy := hasFlag c0.f flagC
    let rmw : OhmOp → Instr → Byte × FlagSet → Prop := fun op c x =>
      executes s p op c0 i len → coreLive r.2 p = true → coreLive (writeMem p 1 a [x.1] r.2) p = true →
        completes c s (fun t => retired p c0 len (writeMem p 1 a [x.1] r.2) t
          { landed p c0 (writeMem p 1 a [x.1] r.2) with f := x.2.apply (landed p c0 (writeMem p 1 a [x.1] r.2)).f })
    let move : OhmOp → Instr → Word → Prop := fun op c d =>
      let out := isRam c0.x.toNat = false
      let v := readMem p (if out then 2 else 1) c0.x.toNat 1 (begun p c0 s)
      let u := writeMem p (if out then 0 else 1) c0.y.toNat [v.1.headD 0] v.2
      executes s p op c0 i len → coreLive v.2 p = true → coreLive u p = true →
        completes c s (fun t => retired p c0 len u t { landed p c0 u with x := c0.x + d, y := c0.y + d })
    rmw .inc (.inc p) (inc8 m) ∧ rmw .dec (.dec p) (dec8 m) ∧ rmw .asl (.asl p) (asl8 m) ∧ rmw .lsr (.lsr p) (lsr8 m) ∧
    rmw .rol (.rol p) (rol8 m cy) ∧ rmw .ror (.ror p) (ror8 m cy) ∧
    (let u := writeMem p (baseCycles i + 1) a [0] (begun p c0 s)
     executes s p .clr c0 i len → coreLive u p = true →
      completes (.clr p) s (fun t => retired p c0 len u t { landed p c0 u with f := clrFlags.apply (landed p c0 u).f })) ∧
    move .mvi (.mvi p) 1 ∧ move .mvd (.mvd p) (-1)

/-- Each branch is taken exactly where its condition of Table 14-5 holds, takes one cycle more then, and changes no flag (14_ohmore_isa R358, 14_ohmore_isa Table 14-5, 14_ohmore_isa R352, 14_ohmore_isa R355). -/
def Obligations.OhmoreBranches : Prop :=
  ∀ (s : State) (p : Polder) (c0 : Core) (i : OhmInstr) (len : Nat),
    let f := c0.f
    let n := hasFlag f flagN
    let z := hasFlag f flagZ
    let v := hasFlag f flagV
    let c := hasFlag f flagC
    let branch : OhmOp → Instr → Bool → Prop := fun op cmd taken =>
      executes s p op c0 i len →
        completes cmd s (fun t =>
          let u := idleCycles p (if taken then 2 else 1) (begun p c0 s)
          jumped p u t (landed p c0 u) (if taken then c0.p + 2 + (BitVec.ofNat 8 i.arg).signExtend 16 else c0.p + 2) none)
    branch .bra (.bra p) true ∧ branch .beq (.beq p) z ∧ branch .bne (.bne p) (!z) ∧ branch .bcs (.bcs p) c ∧ branch .bcc (.bcc p) (!c) ∧
    branch .bmi (.bmi p) n ∧ branch .bpl (.bpl p) (!n) ∧ branch .bvs (.bvs p) v ∧ branch .bvc (.bvc p) (!v) ∧
    branch .bhi (.bhi p) (!c && !z) ∧ branch .bls (.bls p) (c || z) ∧ branch .bge (.bge p) (n == v) ∧ branch .blt (.blt p) (n != v) ∧
    branch .bgt (.bgt p) (!z && (n == v)) ∧ branch .ble (.ble p) (z || (n != v))

/-- DBNZ decrements and branches while the result is not 0, with no flag; JMP, JMPI and JX go to their targets (14_ohmore_isa R364, 14_ohmore_isa R357, 14_ohmore_isa Table 14-4, 14_ohmore_isa R352). -/
def Obligations.OhmoreJumpsAndCounts : Prop :=
  ∀ (s : State) (p : Polder) (c0 : Core) (i : OhmInstr) (len : Nat),
    (∀ isX : Bool, i.mode = (if isX then .relX else .relY) → executes s p .dbnz c0 i len →
      let r := (if isX then c0.x else c0.y) - 1
      let u := idleCycles p (if r = 0 then 1 else 2) (begun p c0 s)
      let l := landed p c0 u
      completes (.dbnz p) s (fun t => jumped p u t (if isX then { l with x := r } else { l with y := r })
        (if r = 0 then c0.p + 2 else c0.p + 2 + (BitVec.ofNat 8 i.arg).signExtend 16) none)) ∧
    (i.mode = .relD → executes s p .dbnz c0 i len →
      let v := readMem p 2 (i.arg % 256) 1 (begun p c0 s)
      let r := v.1.headD 0 - 1
      let w := writeMem p 1 (i.arg % 256) [r] v.2
      let u := if r = 0 then w else idleCycles p 1 w
      coreLive u p = true →
      completes (.dbnz p) s (fun t => jumped p u t (landed p c0 u) (if r = 0 then c0.p + 3 else c0.p + 3 + (BitVec.ofNat 8 (i.arg / 256)).signExtend 16) none)) ∧
    (executes s p .jmp c0 i len →
      let u := idleCycles p 3 (begun p c0 s)
      completes (.jmp p) s (fun t => jumped p u t (landed p c0 u) (BitVec.ofNat 16 i.arg) none)) ∧
    (executes s p .jx c0 i len →
      let u := idleCycles p 2 (begun p c0 s)
      completes (.jx p) s (fun t => jumped p u t (landed p c0 u) c0.x none)) ∧
    (executes s p .jmpi c0 i len →
      let v := readMem p 3 i.arg 2 (begun p c0 s)
      coreLive v.2 p = true → completes (.jmpi p) s (fun t => jumped p v.2 t (landed p c0 v.2) (wordOf v.1) none))

/-- The bytes of a CALL frame from S upward (14_ohmore_isa R361). -/
def frameOf (c : Core) (m : Fin 16) : List Byte :=
  let word : Word → List Byte := fun w => [w.setWidth 8, (w >>> 8).setWidth 8]
  [BitVec.ofNat 8 m.val] ++ (if m.val.testBit 3 then word c.y else []) ++ (if m.val.testBit 2 then word c.x else []) ++
    (if m.val.testBit 1 then [c.f] else []) ++ (if m.val.testBit 0 then [c.a] else []) ++ word (c.p + 3)

/-- The number of bytes of the frame whose mask is `m`. -/
def frameBytes (m : Nat) : Nat :=
  3 + (if m.testBit 0 then 1 else 0) + (if m.testBit 1 then 1 else 0) + (if m.testBit 2 then 2 else 0) + (if m.testBit 3 then 2 else 0)

/-- CALL.m pushes the frame that its mask names, RET restores the registers its mask byte names, RTI every register (14_ohmore_isa R361, 14_ohmore_isa R362, 13_ohmore_model R342, 14_ohmore_isa R363). -/
def Obligations.OhmoreCallsAndReturns : Prop :=
  ∀ (s : State) (p : Polder) (c0 : Core) (i : OhmInstr) (len : Nat),
    (∀ m : Fin 16, i.mode = .call m → executes s p .call c0 i len →
      let sp := c0.s - BitVec.ofNat 16 (frameBytes m.val)
      let u := writeMem p 3 sp.toNat (frameOf c0 m) (begun p c0 s)
      coreLive u p = true → completes (.call p) s (fun t => jumped p u t { landed p c0 u with s := sp } (BitVec.ofNat 16 i.arg) none)) ∧
    (executes s p .ret c0 i len →
      let m := maskAt (begun p c0 s) p c0.s.toNat
      let v := readMem p 3 c0.s.toNat (frameBytes m) (begun p c0 s)
      let b := fun k => v.1.getD k 0
      let w := fun k => (b k).setWidth 16 ||| ((b (k + 1)).setWidth 16 <<< 8)
      let x := 1 + (if m.testBit 3 then 2 else 0)
      let f := x + (if m.testBit 2 then 2 else 0)
      let a := f + (if m.testBit 1 then 1 else 0)
      let q := a + (if m.testBit 0 then 1 else 0)
      coreLive v.2 p = true → v.1.length = frameBytes m → completes (.ret p) s (fun t =>
        let l := landed p c0 v.2
        jumped p v.2 t { l with
          y := if m.testBit 3 then w 1 else l.y, x := if m.testBit 2 then w x else l.x,
          f := if m.testBit 1 then (l.f &&& 0x0C) ||| (b f &&& 0xF3) else l.f, a := if m.testBit 0 then b a else l.a,
          s := c0.s + BitVec.ofNat 16 (frameBytes m) } (w q) none)) ∧
    (executes s p .rti c0 i len →
      let v := rtiFrame p c0 (begun p c0 s)
      let b := fun k => v.1.getD k 0
      let w := fun k => (b k).setWidth 16 ||| ((b (k + 1)).setWidth 16 <<< 8)
      let n := if b 0 = 0 then 256 else (b 0).toNat
      coreLive v.2 p = true → v.1.length = 9 → completes (.rti p) s (fun t =>
        jumped p v.2 t { landed p c0 v.2 with y := w 1, x := w 3, a := b 5, f := b 6 &&& 0xFB, s := c0.s + 9 } (w 7)
          (if hasFlag (b 6) flagT then some ⟨true, n, false⟩ else none)))

/-- RPT and RPTI begin a repeat of n, 0 for 256; WAIT drains the buffer and stops the clock; WAIT_WAKE goes on (14_ohmore_isa R365, 14_ohmore_isa R366, 13_ohmore_model R343, 13_ohmore_model R340). -/
def Obligations.OhmoreRepeatsAndWait : Prop :=
  (∀ (s : State) (p : Polder) (c0 : Core) (i : OhmInstr) (len : Nat),
    let u := idleCycles p 1 (begun p c0 s)
    let l := landed p c0 u
    let begins : Bool → State → Prop := fun k t =>
      jumped p u t { l with f := if (fetchAt u p (c0.p + 2).toNat).repeatable then l.f ||| flagT else l.f &&& ~~~flagT } (c0.p + 2)
        (some ⟨k, if i.arg = 0 then 256 else i.arg, true⟩)
    (executes s p .rpt c0 i len → completes (.rpt p) s (begins false)) ∧
    (executes s p .rpti c0 i len → completes (.rpti p) s (begins true)) ∧
    (executes s p .wait c0 i len → s.pld[p].core.phase = .running →
      completes (.wait p) s (fun t =>
        t.pld[p].core.phase = .waiting ∧ t.pld[p].core.sb = [] ∧ t.pld[p].core.woken = false ∧ t.pld[p].core.p = c0.p + 2 ∧
          (traced s p = false → ctrGet t (pOhmWaits p) = min (ctrGet s (pOhmWaits p) + 1) (2 ^ 32 - 1))))) ∧
  (∀ (s : State) (p : Polder), s.mode.life = .run → domOn s (.pld p) = true → s.pld[p].core.phase = .waiting →
    (takable s.pld[p].core = none → s.pld[p].core.woken = true → hasFlag s.pld[p].core.f flagI = false →
      exec (.waitWake p) s = .next (modCore p (fun c => { c with phase := .running, woken := false }) s)) ∧
    (∀ v, takable s.pld[p].core = some v →
      exec (.waitWake p) s = .next (takeRequest p v (modCore p (fun c => { c with phase := .running, woken := false }) s))))

/-- Decoding the encoding of every Ohmore instruction gives it back, and every decoded instruction has its encoding (14_ohmore_isa R352, 14_ohmore_isa R353, 14_ohmore_isa R356, 14_ohmore_isa Table 14-2, 14_ohmore_isa Table 14-3). -/
def Obligations.OhmoreDecodeOfEncode : Prop :=
  (∀ i : OhmInstr, i.wf = true → ohmDecodeBytes (ohmEncode i) = some i) ∧
    ∀ (b : List Byte) (i : OhmInstr), ohmDecodeBytes b = some i → i.wf = true ∧ ohmEncode i = b

/-- Bytes that the manual writes out decode to the instructions it names (14_ohmore_isa R352, 14_ohmore_isa Table 14-2, 14_ohmore_isa Table 14-3, 14_ohmore_isa R361, 14_ohmore_isa R366). -/
def Obligations.OhmoreEncodings : Prop :=
  ohmDecode 0x00 0x04 0 = some ⟨.lda, .imm8, 0x04⟩ ∧ ohmDecode 0x0B 0x40 0 = some ⟨.ldx, .imm8, 0x40⟩ ∧
  ohmDecode 0x1F 0x30 0 = some ⟨.sta, .dp, 0x30⟩ ∧ ohmDecode 0x20 0x00 0 = some ⟨.lda, .ix, 0⟩ ∧
  ohmDecode 0x58 0x00 0 = some ⟨.inx, .inh, 0⟩ ∧ ohmDecode 0xB7 0x00 0x00 = some ⟨.sta, .ay, 0⟩ ∧
  ohmDecode 0xC2 0x30 0xDD = some ⟨.dbnz, .relD, 0xDD30⟩ ∧ ohmDecode 0x68 0x00 0 = some ⟨.ret, .inh, 0⟩ ∧
  ohmDecode 0xE5 0x00 0x80 = some ⟨.call, .call 5, 0x8000⟩ ∧ ohmDecode 0x6B 0xC8 0 = some ⟨.rpti, .imm8, 200⟩ ∧
  ohmDecode 0x5C 0x00 0 = some ⟨.mvi, .inh, 0⟩ ∧
  ohmDecode 0x37 0 0 = none ∧ ohmDecode 0x6E 0 0 = none ∧ ohmDecode 0xD0 0 0 = none ∧ ohmDecode 0xF0 0 0 = none ∧ ohmDecode 0x4E 1 0 = none

/-- A running core executes what the bytes at P decode to, unless a request is due (13_ohmore_model R342, 14_ohmore_isa R352, 14_ohmore_isa R367, 13_ohmore_model R340). -/
def Obligations.OhmoreFetches : Prop :=
  ∀ (s : State) (p : Polder) (i : OhmInstr), s.mode.life = .run → s.pld[p].core.phase = .running → domOn s (.pld p) = true → s.pld[p].core.rpt = none →
    requestDue s.pld[p].core = false →
    let a := s.pld[p].core.p.toNat
    let b := fun k : Nat => let x := (a + k) % 65536; if x < 0xC000 ∨ 0xF000 ≤ x then ramByte s p x else 0
    (a < 0xC000 ∨ 0xF000 ≤ a) → ohmDecode (b 0) (b 1) (b 2) = some i →
      executes s p i.op s.pld[p].core i (if (b 0).toNat < 128 then 2 else 3)

/-- A read of RAM gives what the program stored last, and changes no memory that the program sees (13_ohmore_model R338, 13_ohmore_model R333, 14_ohmore_isa R354, 14_ohmore_isa R355). -/
def Obligations.OhmoreRamReads : Prop :=
  (∀ (s : State) (p : Polder) (base a n : Nat), Memory.wf (fun _ => 0) s.pld[p].ram = true → 0 < base → (spanOf a n).all isRam = true →
    let t := (readMem p base a n s).2
    (readMem p base a n s).1 = (spanOf a n).map (sbPeek s p) ∧
      { t with pld := s.pld, ctr := s.ctr } = s ∧ (∀ q : Polder, q ≠ p → t.pld[q] = s.pld[q]) ∧ sameMemory p s t ∧
      { t.pld[p].core with cycles := 0, sb := [] } = { s.pld[p].core with cycles := 0, sb := [] } ∧
      (t.ctr = s.ctr ∨ t.ctr = (ctrAdd (pOhmSbStalls p) 1 s).ctr) ∧
      ((∀ e ∈ s.pld[p].core.sb, ∀ x ∈ e, x.1 ∉ spanOf a n) → t.ctr = s.ctr ∧ t.pld[p].core.cycles = s.pld[p].core.cycles + BitVec.ofNat 32 base)) ∧
  (∀ (s : State) (p : Polder) (c : Core) (i : OhmInstr), Memory.wf (fun _ => 0) s.pld[p].ram = true →
    (i.mode = .imm8 → (operand8 p c i s).1 = BitVec.ofNat 8 i.arg) ∧
    (i.mode ≠ .imm8 → isRam (effAddr c i % 65536) = true → (operand8 p c i s).1 = sbPeek s p (effAddr c i % 65536)) ∧
    (i.mode = .ix ∨ i.mode = .ax → effAddr c i = (i.arg + c.x.toNat) % 65536) ∧ (i.mode = .ay → effAddr c i = (i.arg + c.y.toNat) % 65536) ∧
    (i.mode = .dp ∨ i.mode = .abs → effAddr c i = i.arg % 65536))

/-- A store to unprotected RAM is what the program reads there from then on, and every other byte reads as before (13_ohmore_model R338, 13_ohmore_model R333, 12_polders R318). -/
def Obligations.OhmoreRamWrites : Prop :=
  ∀ (s : State) (p : Polder) (base a : Nat) (b : List Byte), Memory.wf (fun _ => 0) s.pld[p].ram = true → b.length ≤ 9 → s.pld[p].restartDue = false →
    (∀ x ∈ spanOf a b.length, isRam x = true ∧ protectedAt s p x = false) →
    let t := writeMem p base a b s
    (∀ k, k < b.length → sbPeek t p ((a + k) % 65536) = b.getD k 0) ∧
      (∀ x, x ∉ spanOf a b.length → sbPeek t p x = sbPeek s p x) ∧
      { t with pld := s.pld } = s ∧ (∀ q : Polder, q ≠ p → t.pld[q] = s.pld[q]) ∧
      { t.pld[p] with core := {}, ram := [] } = { s.pld[p] with core := {}, ram := [] } ∧
      { t.pld[p].core with cycles := 0, sb := [] } = { s.pld[p].core with cycles := 0, sb := [] }

/-- Taking a request pushes the frame of Table 13-8, clears I, T and the PEND bit and goes to the vector of the highest request (13_ohmore_model R342, 13_ohmore_model R340, 13_ohmore_model R341, 13_ohmore_model Table 13-8). -/
def Obligations.OhmoreInterruptEntry : Prop :=
  ∀ (s : State) (p : Polder) (v : Nat), Memory.wf (fun _ => 0) s.pld[p].ram = true → coreRunning s p = true → boundaryOk s.pld[p].core = true →
    takable s.pld[p].core = some v → s.pld[p].restartDue = false →
    let c := s.pld[p].core
    (∀ k, k < 9 → isRam (c.s - BitVec.ofNat 16 (k + 1)).toNat = true ∧ protectedAt s p (c.s - BitVec.ofNat 16 (k + 1)).toNat = false) →
    completes (.interruptEntry p) s (fun t =>
      let k := t.pld[p].core
      let frame : List Byte := [BitVec.ofNat 8 (match c.rpt with | some r => r.left | none => 0), c.y.setWidth 8, (c.y >>> 8).setWidth 8, c.x.setWidth 8,
        (c.x >>> 8).setWidth 8, c.a, c.f, c.p.setWidth 8, (c.p >>> 8).setWidth 8]
      k.s = c.s - 9 ∧ k.f = c.f &&& ~~~(flagI ||| flagT) ∧ k.rpt = none ∧ k.pend = c.pend &&& ~~~(BitVec.ofNat 16 (2 ^ v)) ∧
      k.p = (sbPeek s p (0xFFE1 + 2 * v)).setWidth 16 <<< 8 ||| (sbPeek s p (0xFFE0 + 2 * v)).setWidth 16 ∧
      k.a = c.a ∧ k.x = c.x ∧ k.y = c.y ∧ k.sb = [] ∧
      (∀ j, j < 9 → sbPeek t p (k.s + BitVec.ofNat 16 j).toNat = frame.getD j 0) ∧
      (∀ a : Nat, (∀ j, j < 9 → a ≠ (k.s + BitVec.ofNat 16 j).toNat) → sbPeek t p a = sbPeek s p a) ∧
      (∀ q : Polder, q ≠ p → t.pld[q] = s.pld[q]) ∧
      (v ≠ 13 → traced s p = false → t.ctr = s.ctr) ∧ (v = 13 → traced s p = false → ctrGet t (pOhmDryTraps p) = min (ctrGet s (pOhmDryTraps p) + 1) (2 ^ 32 - 1)))

/-- An instruction that would begin in 0xC000 to 0xEFFF is a counted NOP of 2 bytes and 1 cycle, and operand bytes in that range are 0 (14_ohmore_isa R367). -/
def Obligations.OhmoreFetchVoid : Prop :=
  ∀ (s : State) (p : Polder), Memory.wf (fun _ => 0) s.pld[p].ram = true →
    (s.mode.life = .run → s.pld[p].core.phase = .running → domOn s (.pld p) = true → s.pld[p].core.rpt = none → requestDue s.pld[p].core = false →
      let a := s.pld[p].core.p.toNat
      let b := fun k : Nat => let x := (a + k) % 65536; if x < 0xC000 ∨ 0xF000 ≤ x then ramByte s p x else 0
      (0xC000 ≤ a → a < 0xF000 → ready s p = some (s.pld[p].core, .void)) ∧
      (a < 0xC000 ∨ 0xF000 ≤ a → ∀ i, ohmDecode (b 0) (b 1) (b 2) = some i → executes s p i.op s.pld[p].core i (if (b 0).toNat < 128 then 2 else 3))) ∧
    ∀ c0 : Core, ready s p = some (c0, .void) → completes (.fetchVoid p) s (fun t =>
      let u := idleCycles p 1 (ctrAdd (pOhmFetchVoid p) 1 (begun p c0 s))
      retired p c0 2 u t (landed p c0 u) ∧ sameMemory p s t ∧ t.pld[p].core.cycles = s.pld[p].core.cycles + 1 ∧
        t.pld[p].core.dry = s.pld[p].core.dry ∧ t.pld[p].core.pend = s.pld[p].core.pend ∧ counted (pOhmFetchVoid p) s t)

/-- A reserved encoding stays within the confinement of R368, whatever its free values (14_ohmore_isa R368, 14_ohmore_isa R369). -/
def Obligations.OhmoreReserved : Prop :=
  ∀ (s : State) (p : Polder) (c0 : Core), Memory.wf (fun _ => 0) s.pld[p].ram = true →
    (∀ len, ready s p = some (c0, .reserved len) → s.pld[p].core.phase = .running → completes (.reservedOp p) s (fun t =>
      let k := t.pld[p].core
      k.p = c0.p + BitVec.ofNat 16 len ∧ k.f &&& (flagI ||| flagT ||| 0x04) = c0.f &&& (flagI ||| flagT ||| 0x04) ∧ k.pend = s.pld[p].core.pend ∧
      k.dry = s.pld[p].core.dry ∧ k.dryAddr = s.pld[p].core.dryAddr ∧
      { t.pld[p] with core := {}, ram := [] } = { s.pld[p] with core := {}, ram := [] } ∧
      (∀ a : Nat, progFirst s p ≤ a → sbPeek t p a = sbPeek s p a) ∧
      (∀ q : Polder, q ≠ p → t.pld[q] = s.pld[q]) ∧ { t with pld := s.pld, obs := s.obs, ctr := s.ctr, fresh := s.fresh } = s ∧
      (traced s p = false → ctrGet t (pOhmReservedOps p) = min (ctrGet s (pOhmReservedOps p) + 1) (2 ^ 32 - 1))))

/-- Power-up, brownout, loss of VIN, RESET_N and the resume from Off: what each loses and when boot begins (15_power R371, 15_power R372, 20_electrical R476, 15_power R381, 16_clocks R396, 16_clocks R410). -/
def Obligations.PowerAndResets : Prop :=
  (∀ s : State, s.aon.rails = false → s.aon.brownout = false → s.mode.life = .reset →
    completes .vinThresholdRise s (fun t => t.aon.rails = true ∧ (s.mode.rstLow = false → bootBegins s t) ∧
      (s.mode.rstLow = true → t = { s with aon := { s.aon with rails := true } }))) ∧
  (∀ s : State, s.aon.rails = true → s.aon.brownout = false → completes .brownout s (fun t =>
    lostAll s t ∧ t.mode.life = .reset ∧ t.aon = { s.aon with brownout := true, brownouts := min (s.aon.brownouts + 1) (2 ^ 32 - 1), sense := [], faultCause := 0 })) ∧
  (∀ s : State, s.aon.brownout = true → s.aon.rails = true → s.mode.life = .reset →
    completes .brownoutRecovery s (fun t => t.aon.brownout = false ∧ (s.mode.rstLow = false → bootBegins s t) ∧
      (s.mode.rstLow = true → t = { s with aon := { s.aon with brownout := false } }))) ∧
  (∀ s : State, completes .vinLoss s (fun t => lostAll s t ∧ t.mode.life = .reset ∧ t.aon = {})) ∧
  (∀ (s : State) (ns : Nat), completes (.resetNAssert ns) s (fun t =>
    (1000 ≤ ns → lostAll s t ∧ t.mode.life = .reset ∧ t.mode.rstLow = true ∧ t.aon = { s.aon with sense := [], faultCause := 0 }) ∧
    (ns < 100 → t = s) ∧
    (100 ≤ ns → ns < 1000 → t = { s with fresh := s.fresh + 1 } ∨ (lostAll s t ∧ t.mode.life = .reset ∧ t.mode.rstLow = true)))) ∧
  (∀ s : State, s.mode.rstLow = true → completes (.resetNRelease false) s (fun t => t = { s with mode := { s.mode with rstLow := false, life := .test } })) ∧
  (∀ s : State, s.mode.rstLow = true → completes (.resetNRelease true) s (fun t => t.mode.rstLow = false ∧
    (s.aon.rails = true → s.aon.brownout = false → s.mode.life = .reset → bootBegins s t) ∧
    (s.aon.rails = false ∨ s.aon.brownout = true → t = { s with mode := { s.mode with rstLow := false } }))) ∧
  ∀ (s : State) (v : Nat), s.mode.life = .off → s.aon.vres ≤ v → s.aon.rails = true → s.aon.brownout = false → s.mode.rstLow = false →
    completes (.vbatResume v) s (fun t => bootBegins s t)

/-- Boot counts the reference, waits for the PLLs, and reads header, entries, header again and image, or takes the fallback path (16_clocks R396, 16_clocks R402, 16_clocks R403, 17_boot_image R414, 17_boot_image R415, 17_boot_image R416, 17_boot_image R417, 17_boot_image R427). -/
def Obligations.BootFindsReferenceAndImage : Prop :=
  let fall := fun (s : State) => { s with
    mode := { s.mode with fallback := true }, boot := { s.boot with phase := .fallbackImage }, sky := { s.sky with run := true },
    clk := { s.clk with lock := Vector.replicate 4 false, started := false, relocking := false } }
  let safe := fun (f : SafeCause) (s : State) => { s with boot := { s.boot with fail := some f, due := s.sky.tick }, mode := { s.mode with life := .safe } }
  let sends := fun (l : List FlashCmd) (wait : Nat) (ph : BootPhase) (s : State) => { s with
    boot := { s.boot with sent := s.boot.sent ++ l, due := s.sky.tick + wait, phase := ph } }
  ∀ s : State, s.mode.life = .boot →
    (s.boot.phase = .reference →
      completes (.referenceDetection 0) s (fun t => t = fall { s with clk := { s.clk with refFreq := 4 } }) ∧
      ∀ e, 0 < e → completes (.referenceDetection e) s (fun t =>
        t = { s with clk := { s.clk with refFreq := t.clk.refFreq, started := true }, boot := { s.boot with phase := .pllWait } } ∧ t.clk.refFreq < 4 ∧
          ∀ k, k < 4 → (([10000, 19200, 26000, 38400].getD t.clk.refFreq 0 : Int) - e).natAbs ≤ (([10000, 19200, 26000, 38400].getD k 0 : Int) - e).natAbs)) ∧
    (s.boot.phase = .pllWait →
      (lockABC s = true → completes .bootPllLock s (fun t => t = sends resetPairs 245760 .header s)) ∧
      (lockABC s = false → completes .tBootwaitExpiry s (fun t => t = fall s))) ∧
    (s.boot.phase = .header → s.boot.due ≤ s.sky.tick → ∀ b : List Byte,
      let u := sends [plainCmd [0x03, 0, 0, 0]] 0 .header s
      completes (.headerRead false b) s (fun t => t = safe ⟨1, 0, 0xFFFF, 0xFFFFFFFF⟩ u) ∧
      (∀ f, headerFail (bytesAt b 0 128) = some f → completes (.headerRead true b) s (fun t => t = safe f u)) ∧
      (headerFail (bytesAt b 0 128) = none → completes (.headerRead true b) s (fun t =>
        t = { u with boot := { u.boot with header := bytesAt b 0 128, phase := entryPhase (bytesAt b 0 128) 0 } }))) ∧
    (∀ k : Fin 4, s.boot.phase = .entries k.val → s.boot.due ≤ s.sky.tick → completes (.entrySend k) s (fun t =>
      t = sends [plainCmd (entryCmd s.boot.header k.val)] 24576 (entryPhase s.boot.header (k.val + 1)) s)) ∧
    (s.boot.phase = .reread → s.boot.due ≤ s.sky.tick →
      let h := s.boot.header
      completes (.headerReread h) s (fun t => t = sends [imageCmd h 0, imageCmd h 128] 0 .image s) ∧
      ∀ b, b ≠ h → completes (.headerReread b) s (fun t => t = safe ⟨3, 0, 0xFFFF, 0xFFFFFFFF⟩ (sends [imageCmd h 0] 0 .reread s))) ∧
    (s.boot.phase = .image → ∀ b : List Byte,
      (hdr s.boot.header 129 1 = 1 → completes (.imageReadDone b true) s (fun t => t = safe ⟨3, 0, 0xFFFF, 0xFFFFFFFF⟩ s)) ∧
      completes (.imageReadDone b false) s (fun t => domAt t .nvm = .off ∧ (∀ d, d ≠ .nvm → domAt t d = domAt s d) ∧
        t = { s with pmu := t.pmu, boot := { s.boot with phase := .verify, image := s.boot.header ++ bytesAt b 0 (imgLen s.boot.header - 128) } })) ∧
    (s.boot.phase = .fallbackImage → ∀ b : List Byte,
      let h := bytesAt b 0 128
      let u := sends [fallbackCmd s h] 0 .fallbackImage s
      completes (.fallbackImageRead false b) s (fun t => t = safe ⟨1, 0, 0xFFFF, 0xFFFFFFFF⟩ u) ∧
      (∀ f, headerFail h = some f → completes (.fallbackImageRead true b) s (fun t => t = safe f u)) ∧
      (headerFail h = none → completes (.fallbackImageRead true b) s (fun t => domAt t .nvm = .off ∧
        t = { u with pmu := t.pmu, boot := { u.boot with header := h, phase := .verify, image := bytesAt b 0 (imgLen h) } })))

/-- The verified image configures the device in COLD and begins the polders; a failed one leads to SAFE and three copies of its record, 100 ms apart (17_boot_image R427, 17_boot_image R428, 17_boot_image R429, 17_boot_image R430, 17_boot_image R432, 01_architecture R15, 02_sample_ports R35, 03_array R64, 12_polders R325). -/
def Obligations.BootVerifiesAndConfigures : Prop :=
  let safe := fun (f : SafeCause) (s : State) => { s with boot := { s.boot with fail := some f, due := s.sky.tick }, mode := { s.mode with life := .safe } }
  (∀ s : State, s.mode.life = .boot → s.boot.phase = .verify →
    (∀ f, layoutFail s.boot.image = some f → completes .commonVerification s (fun t => t = safe f s)) ∧
    (layoutFail s.boot.image = none →
      let v := leAt s.boot.image ((commonAt s.boot.image).1 + 4) 4
      let u := { s with boot := { s.boot with version := v } }
      (∀ f, commonFail u s.boot.image = some f → completes .commonVerification s (fun t => t = safe f u)) ∧
      (commonFail u s.boot.image = none → completes .commonVerification s (fun t =>
        t.boot = { s.boot with version := v, phase := .configure, blocks := (commonParsed s.boot.image).1.map (·.2) } ∧ t.mode.life = .boot ∧
          only [.clk, .boot, .mode, .obs, .ctr] s t)))) ∧
  (∀ s : State, s.mode.life = .boot → s.boot.phase = .configure → s.clk.relocking = false → completes .configurationStep s (fun t =>
    t.mode.life = .run ∧ t.mode.mode = .cold ∧ t.boot.phase = .done ∧ t.aon.vres = cfg s bootModesVres ∧ t.hst.rate = cfg s hstCfgBaud ∧
      t.clk.ssc = (cfg s clkCfgSscMode != 0 && !s.mode.fallback) ∧ domOn t .aon = true ∧ domOn t .time = true ∧ domOn t .nvm = false ∧
      4150 ≤ t.lnk.pipe ∧ t.lnk.pipe ≤ 4250 ∧ t.spt.feNext = s.sky.tick + 491520 ∧
      t.spt.trigDue = s.spt.trigDue ++ (if feinitCount s = 0 then [s.sky.tick + 491520] else []) ∧
      (∀ (q : Port) (b : Band), portEn s q = true → (∀ r : Port, portEn s r = true → portAnt s r = portAnt s q → r = q) →
        t.ary.cal[calIdx (portAnt s q) b] = { tau := (s.spt.port[q].residual : Rat) * 1000 / (49152 / 100) +
          ((cfgAt s aryGeomCabDly (portAnt s q).val : Rat) - (cfgAt s aryGeomCabDly (refAnt s).val : Rat)) / 100 }) ∧
      (∀ p : Polder, (segAt s.boot.image p.val).2 = 0 → isDry t p = true))) ∧
  ∀ (s : State) (f : SafeCause), s.boot.fail = some f → s.mode.life = .safe → s.boot.safeCopies < 3 → s.boot.due ≤ s.sky.tick →
    completes .safeRecord s (fun t =>
      t.boot = { s.boot with safeCopies := s.boot.safeCopies + 1, due := s.sky.tick + 49152000 } ∧ t.hst.rate = 115200 ∧
        t.hst.line = unitBytes 8 0 0 s.boot.safeCopies (safePayload s f (s.boot.safeCopies + 1)) ∧ only [.pmu, .boot, .hst] s t ∧
        (s.boot.safeCopies < 2 → t.pmu = s.pmu) ∧ (s.boot.safeCopies = 2 → ∀ d : Domain, domAt t d = if d = .aon then .on else .off))

/-- The mode rules, the decided transition, holdover, the limit of SURVEY and the fixes of LAYUP act as their rules say (01_architecture R15, 01_architecture R18, 01_architecture R21, 01_architecture R23, 01_architecture R24, 01_architecture R488). -/
def Obligations.ModesFollowTheirRules : Prop :=
  let ranked := fun (u t : State) => t = { u with mode := { u.mode with decided := match wantedMode u with
    | some (m, r) => some (m, r, stNow u)
    | none => if keepsDecision u then u.mode.decided else none } }
  ∀ s : State, s.mode.life = .run →
    ((∀ i : Nat, i < 16 → cfgAt s bootRulesValid i = 1 → ruleHolds s i = true → (∀ j, j < i → cfgAt s bootRulesValid j ≠ 1 ∨ ruleHolds s j = false) →
        ruleSelect s = (i, ruleTarget (cfgAt s bootRulesTarget i))) ∧
      ((∀ i, i < 16 → cfgAt s bootRulesValid i ≠ 1 ∨ ruleHolds s i = false) → ruleSelect s = (15, .full))) ∧
    (s.mode.firstCheck = true ∨ checkPeriod s ≠ s.mode.checkAt ∨ rankBits s ≠ s.mode.ranksSeen →
      let sel := ruleSelect s
      let n := if sel.1 = s.mode.pendRule ∧ sel.2 = s.mode.pendTarget then s.mode.pendCount + 1 else 1
      let u := { s.mode with
        checkAt := checkPeriod s, ranksSeen := rankBits s, pendRule := sel.1, pendTarget := sel.2, pendCount := n, firstCheck := false }
      completes .modeRuleCheck s (fun t => t = { s with mode := t.mode, basin := t.basin } ∧
        (s.mode.firstCheck = true → sel.2 = .full → t.mode = { u with rule := sel.1 }) ∧
        (s.mode.firstCheck = false ∨ sel.2 ≠ .full → cfg s bootModesRuleDwell ≤ n → sel.2 ≠ s.mode.target →
          ranked { s with mode := { u with rule := sel.1, target := sel.2 }, basin := t.basin } t) ∧
        (s.mode.firstCheck = false ∨ sel.2 ≠ .full → n < cfg s bootModesRuleDwell ∨ sel.2 = s.mode.target → t = { s with mode := u }))) ∧
    (∀ m rank q, s.mode.decided = some (m, rank, q) → slotAfter q ≤ stNow s → completes .modeTransition s (fun t =>
      let at_ : Rat := ((stNow s * 400).floor : Rat) / 400
      t.mode = { s.mode with
        mode := m, entryAt := at_, entryS := if s.mode.aligned then at_.floor.toNat % 2 ^ 32 else 0,
        surveyExit := if s.mode.mode = .survey ∧ m = .full then s.mode.exitWhy else s.mode.surveyExit, thinHold := m == .holdover && oneAntMode s,
        surveyAt := if m = .survey then at_ else s.mode.surveyAt, coldRun := 0, fixStart := none, fixOk := none,
        decided := match wantedMode t with | some (m, r) => some (m, r, stNow s) | none => none } ∧
        only [.ary, .trk, .sol, .pmu, .mode, .hst, .obs, .basin, .ctr] s t ∧
        (m = .survey → t.sol.precOn = true) ∧ (m = .thin ∨ m = .holdover ∨ m = .quiet ∨ m = .layup → t.sol.precOn = false ∧ t.sol.prec = none))) ∧
    (∀ q, s.mode.unusableSince = some q → s.mode.aligned = true → (cfg s bootModesHoldEnter : Rat) ≤ stNow s - q →
      completes .holdEnter s (ranked s) ∧ rank6Holds s = true) ∧
    (∀ q, s.mode.usableSince = some q → s.mode.mode = .holdover → (cfg s bootModesHoldExit : Rat) ≤ stNow s - q →
      completes .holdExit s (ranked s) ∧
        (s.mode.fallback = false → s.mode.rank3 = false → s.mode.target ≠ .layup → s.rfc.quiet = false → s.rfc.pin = false → wantedMode s = some (serviceMode s, 8))) ∧
    (s.mode.mode = .survey → s.mode.decided = none → (10 * cfg s bootModesSurveyMax : Rat) ≤ stNow s - s.mode.surveyAt →
      completes .surveyMax s (fun t => t = { s with mode := { s.mode with exitWhy := 2, decided := some (.full, 8, stNow s) } })) ∧
    (s.mode.mode = .layup → s.mode.decided = none → stSec s % cfg s bootModesLayupFix = 0 → s.mode.entryAt < stSec s → s.mode.fixStart ≠ some (stSec s) →
      s.mode.fixStart = none ∨ s.mode.rank3 = true ∨ s.mode.target = .layup →
      completes .layupFixStart s (fun t => t.mode = { s.mode with fixStart := some (stSec s), fixOk := none } ∧ counted cPmuWakesSched s t ∧
        t = { s with mode := t.mode, clk := t.clk, obs := t.obs, ctr := t.ctr } ∧
        (domOn s .clk = true → lockABC s = false → s.clk.relocking = false → t.clk = { s.clk with relocking := true, relockTick := s.sky.tick }) ∧
        (domOn s .clk = false ∨ lockABC s = true ∨ s.clk.relocking = true → t.clk = s.clk))) ∧
    ∀ f, s.mode.fixStart = some f →
      let ended := fun (ok : Bool) (t : State) =>
        t = { s with mode := { s.mode with fixStart := none, fixOk := none, decided := t.mode.decided } } ∧
          (s.mode.rank3 = true ∨ s.mode.target = .layup → t.mode.decided = s.mode.decided) ∧
          (s.mode.rank3 = false → s.mode.target ≠ .layup → t.mode.decided =
            if ok = false ∨ s.mode.aligned = false then some (.cold, 7, stNow s) else some (serviceMode s, 8, stNow s))
      (s.mode.fixOk = none → (60 : Rat) ≤ stNow s - f → completes .layupFixTimeout s (ended false)) ∧
      (∀ q e, s.mode.fixOk = some q → s.msr.lastEpoch = some e → fixEpoch q ≤ e → s.hst.outB.recs = [] → completes .layupFixEnd s (ended true)) ∧
      (s.mode.mode = .layup → s.mode.decided = none → stSec s % cfg s bootModesLayupFix = 0 → s.mode.entryAt < stSec s → f ≠ stSec s →
        s.mode.rank3 = false → s.mode.target ≠ .layup → completes .layupFixStart s (ended s.mode.fixOk.isSome))

/-- Frame words give samples, flags and sync counts; sync is lost and regained; the guard trips and clears; triggers and the init script go out (02_sample_ports R28, 02_sample_ports R29, 02_sample_ports R31, 02_sample_ports R35, 02_sample_ports R41, 02_sample_ports R43, 03_array R64). -/
def Obligations.SamplePortsFrameAndGuard : Prop :=
  (∀ (s : State) (p : Port) (ok : Bool) (w : Vector Byte 4), portOn s p = true → completes (.frameWord p ok w[0] w[1] w[2] w[3]) s (fun t =>
    t.spt.port[p].lastFs = some s.sky.tick ∧ t.spt.port[p].synced = (s.spt.port[p].synced || ok) ∧
      t.spt.port[p].badFs = (if ok then 0 else min 2 (s.spt.port[p].badFs + 1)) ∧ t.spt.port[p].goodFs = (if ok then min 8 (s.spt.port[p].goodFs + 1) else 0) ∧
      (∀ q : Port, q ≠ p → t.spt.port[q] = s.spt.port[q]) ∧
      ∀ l : Port, laneBand s p l ≠ 0 → cfgBAt s sptLaneBlank (laneIdx p l) = false →
        (w[l].toNat / 64 = 3 ∨ (laneAt s p l).loMute = true ∨ (laneAt s p l).notSamples = true ∨ s.spt.port[p].lost = true →
          ∃ at_, (laneAt t p l).out.head? = some ⟨at_, 0, 0, 2⟩) ∧
        (w[l].toNat / 64 ≠ 3 → (laneAt s p l).loMute = false → (laneAt s p l).notSamples = false → s.spt.port[p].lost = false → s.spt.port[p].gap = false →
          s.spt.port[p].blockMute = false → s.spt.port[p].count % 4096 ≠ 0 →
          (laneAt t p l).out.head? = some ⟨wordInstant s p, level3 (w[l].toNat / 8 % 8), level3 (w[l].toNat % 8), 0⟩))) ∧
  (∀ (s : State) (p : Port), portOn s p = true →
    (s.spt.port[p].lost = false → s.spt.port[p].synced = true → 2 ≤ s.spt.port[p].badFs → completes (.syncLost p) s (fun t =>
      upToReports (modPort p (fun q => { q with lost := true, goodFs := 0 }) s) t ∧
        counted (cSptSyncLoss p) s t)) ∧
    (s.spt.port[p].lost = true → 8 ≤ s.spt.port[p].goodFs → completes (.syncRegain p) s (fun t =>
      t.spt.port[p].lost = false ∧ t.spt.port[p].alignTs = true ∧ t.spt.port[p].count = 0 ∧ t.spt.port[p].stamp = none ∧ t.spt.port[p].word0 = none ∧
        (∀ l : Port, (laneAt t p l).loMute = false ∧ (laneAt t p l).notSamples = (laneAt s p l).notSamples) ∧ (∀ q : Port, q ≠ p → t.spt.port[q] = s.spt.port[q]) ∧
        ∀ b : Band, t.ary.cal[calIdx (portAnt s p) b] =
          { tau := ((cfgAt s aryGeomCabDly (portAnt s p).val : Rat) - (cfgAt s aryGeomCabDly (refAnt s).val : Rat)) / 100 })) ∧
    (∀ l : Port, 65536 ≤ (laneAt s p l).win.words →
      let x := laneAt s p l
      (2 * x.win.valid < x.win.words → completes (.guardWindow p l) s (fun t => t = modLane p l (fun x => { x with win := {} }) s)) ∧
      (x.win.words ≤ 2 * x.win.valid → guardFails x.win = true → completes (.guardWindow p l) s (fun t =>
        upToReports (modLane p l (fun x => { x with
          win := {}, failRun := min (x.failRun + 1) 4, passRun := 0, notSamples := x.notSamples || decide (3 ≤ x.failRun) }) s) t ∧
        (3 ≤ x.failRun → x.notSamples = false → counted (cSptGuardTrips p) s t))) ∧
      (x.win.words ≤ 2 * x.win.valid → guardFails x.win = false → completes (.guardWindow p l) s (fun t =>
        upToReports (modLane p l (fun x => { x with
          win := {}, passRun := min (x.passRun + 1) 16, failRun := 0, notSamples := x.notSamples && decide (x.passRun < 15) }) s) t)))) ∧
  (∀ s : State, triggerDue s = true →
    let kept := { s with
      spt := { s.spt with trigDue := s.spt.trigDue.filter fun t => decide (s.sky.tick < t) },
      clk := { s.clk with trigAt := if relockTrigger s then none else s.clk.trigAt } }
    (anyPortOn s = false → completes .samplePortTrigger s (fun t =>
      upToReports kept t ∧ raised cSkySuppressedActions ((portTriggers s).length + (if relockTrigger s then 1 else 0)) s t)) ∧
    (anyPortOn s = true → completes .samplePortTrigger s (fun t =>
      t.spt.trig = some (sclkEdge s.sky.tick) ∧ t.spt.trigDue = kept.spt.trigDue ∧ t.clk = kept.clk ∧
        ∀ p : Port, (portOn s p = false → t.spt.port[p] = s.spt.port[p]) ∧
          (portOn s p = true → t.spt.port[p].gap = true ∧ t.spt.port[p].count = 0 ∧ t.spt.port[p].alignTs = cfgBAt s sptPortAlign p.val ∧
            t.spt.port[p].word0 = (if cfgBAt s sptPortAlign p.val then none else
              some ((sclkEdge s.sky.tick : Int) + 8 * ((cfgAt s sptPortFeLat p.val : Int) - cfgAt s sptPortFePipe p.val))) ∧
            ∀ l : Port, (laneAt t p l).loMute = false)))) ∧
  (∀ t : Nat, t ≤ sclkEdge t ∧ sclkEdge t < t + 8 ∧ (sclkEdge t - Config.sclkPhase : Int) % 8 = 0) ∧
  ∀ (s : State) (rx : BitVec 32) (k : Nat), s.mode.life = .boot ∨ s.mode.life = .run → feinitNext s = some k →
    let p : Port := ⟨cfgAt s sptFeinitPort k % 4, Nat.mod_lt _ (by decide)⟩
    let n := cfgAt s sptPortSpiBits p.val
    let wait := ceilDiv (cfgAt s sptFeinitDelay k * 49152) 100
    spiFree s p 1 = true → s.spt.feNext + spiSpan s p n ≤ s.sky.tick → completes (.feinitEntry rx) s (fun t =>
      let bits := min 16 n
      t.spt.feinit = k + 1 ∧ t.spt.feNext = s.sky.tick + wait ∧
        t.spt.spi = some ⟨p, cfgAt s sptPortSpiMode p.val, spiBits s p (cfgAt s sptFeinitWord k), s.sky.tick - spiSpan s p n, s.sky.tick⟩ ∧
        t.spt.port[p].initFail = (cfgBAt s sptFeinitRead k && decide (rx.toNat % 2 ^ bits ≠ cfgAt s sptFeinitExpect k % 2 ^ bits)) ∧
        t.spt.trigDue = s.spt.trigDue ++ (if feinitNext t = none then [s.sky.tick + wait + 491520] else []) ∧
        ∀ q : Port, q ≠ p → t.spt.port[q] = s.spt.port[q])

/-- A lane's samples with the one that covers the present tick flagged blanked, where the lane is blanked. -/
def edgeBlanked (s : State) (p l : Port) : List StreamSample :=
  if receiverOn s p l = true ∧ cfgBAt s sptLaneBlank (laneIdx p l) = true then
    (laneAt s p l).out.map fun y => if y.at_ ≤ (s.sky.tick : Int) ∧ (s.sky.tick : Int) < y.at_ + samplePeriod s p then ⟨y.at_, 0, 0, 1⟩ else y
  else (laneAt s p l).out

/-- The gain loops evaluate each millisecond, their steps land at a boundary, a conflict returns to FIX_INDEX, and BH_TX blanks with its tail (02_sample_ports R44, 02_sample_ports R45, 02_sample_ports R46, 02_sample_ports R47, 02_sample_ports R48). -/
def Obligations.GainLoopsAndBlanking : Prop :=
  (∀ (s : State) (p l : Port), portOn s p = true → laneBand s p l ≠ 0 →
    let x := laneAt s p l
    (x.msTotal = 0 ∨ 2 * x.msValid < x.msTotal →
      completes (.gainLoopMs p l) s (fun t => t = modLane p l (fun x => { x with msTotal := 0, msValid := 0, msThree := 0 }) s)) ∧
    (0 < x.msTotal → x.msTotal ≤ 2 * x.msValid → completes (.gainLoopMs p l) s (fun t =>
      let y := laneAt t p l
      let n := laneIdx p l
      let hi := if cfgAt s sptLaneGainMode n = 0 then cfgAt s sptLanePHi n else 80
      let lo := if cfgAt s sptLaneGainMode n = 0 then cfgAt s sptLanePLo n else 4
      y.msTotal = 0 ∧ y.msValid = 0 ∧ y.msThree = 0 ∧ y.gain = x.gain ∧
        y.overload = decide (80 * (2 * x.msValid) < 200 * x.msThree) ∧ y.underload = decide (200 * x.msThree < 4 * (2 * x.msValid)) ∧
        y.hiRun = (if hi * (2 * x.msValid) < 200 * x.msThree then min 4 (x.hiRun + 1) else 0) ∧
        y.loRun = (if 200 * x.msThree < lo * (2 * x.msValid) then min 64 (x.loRun + 1) else 0) ∧
        (cfgAt s sptLaneGainMode n = 0 → x.req = none → y.req =
          if 4 ≤ y.hiRun ∧ 0 < x.gain then some (x.gain - 1, s.sky.tick)
          else if 4 ≤ y.loRun ∧ x.gain < cfgAt s sptLaneGainMax n then some (x.gain + 1, s.sky.tick) else none) ∧
        (cfgAt s sptLaneGainMode n = 1 → x.conflict = false → y.conflict = decide (4 ≤ y.hiRun ∨ 64 ≤ y.loRun) ∧
          (y.conflict = true → counted (cSptGainConflicts p) s t))))) ∧
  (∀ (s : State) (p l : Port) (a : Nat), portOn s p = true → (laneAt s p l).conflict = true → (laneAt s p l).req = none → (laneAt s p l).inside = some a →
    a + 491520000 ≤ s.sky.tick → (∀ b, (laneAt s p l).lastReturn = some b → b + 49152000 ≤ s.sky.tick) →
    let fix := cfgAt s sptLaneFixIndex (laneIdx p l)
    ((laneAt s p l).gain = fix → completes (.fixedReturnStep p l) s (fun t => upToReports (modLane p l (fun x => { x with conflict := false }) s) t)) ∧
    ((laneAt s p l).gain ≠ fix → completes (.fixedReturnStep p l) s (fun t => t = modLane p l (fun x => { x with
      lastReturn := some s.sky.tick, req := some (if x.gain < fix then x.gain + 1 else x.gain - 1, s.sky.tick) }) s))) ∧
  (∀ (s : State) (p : Port) (b : Int), stepPort s = some p → portOn s p = true ∧
    (∀ q : Port, portOn s q = true → ∀ u ∈ requestTicks s q, ∃ v ∈ requestTicks s p, v ≤ u) ∧
    (stepBoundary s p = some b → s.spt.stepMs ≠ some (1000 * stAt s b.toNat).floor.toNat →
      spiFree s p ((List.finRange 4).filter fun l => (laneAt s p l).req.isSome).length = true →
      completes (.gainStep p) s (fun t => (∀ q : Port, q ≠ p → t.spt.port[q] = s.spt.port[q]) ∧ t.spt.stepMs = some (1000 * stAt s b.toNat).floor.toNat ∧
        ∀ l : Port, ((laneAt s p l).req = none → laneAt t p l = laneAt s p l) ∧
          ∀ i u, (laneAt s p l).req = some (i, u) → (laneAt t p l).gain = i ∧ (laneAt t p l).prevGain = (laneAt s p l).gain ∧ (laneAt t p l).req = none ∧
            (laneAt t p l).stepAt = some b.toNat ∧ (laneAt t p l).hiRun = 0 ∧ (laneAt t p l).loRun = 0))) ∧
  (∀ (s : State) (p l0 : Port) (i0 u0 : Nat), portOn s p = true → (laneAt s p l0).req = some (i0, u0) → u0 + 983040 < s.sky.tick →
    spiFree s p ((List.finRange 4).filter fun l => match (laneAt s p l).req with | some (_, t) => decide (t + 983040 < s.sky.tick) | none => false).length = true →
    completes (.gainUnaligned p) s (fun t =>
    (ctrGet s (cSptGainUnaligned p) < 2 ^ 32 - 1 → ctrGet s (cSptGainUnaligned p) < ctrGet t (cSptGainUnaligned p)) ∧
      ∀ (l : Port) (i u : Nat), (laneAt s p l).req = some (i, u) →
        (u + 983040 < s.sky.tick → (laneAt t p l).gain = i ∧ (laneAt t p l).req = none) ∧ (s.sky.tick ≤ u + 983040 → laneAt t p l = laneAt s p l))) ∧
  (∀ s : State, s.spt.bhTx = false → completes .bhTxRise s (fun t =>
    t = { s with spt := { s.spt with bhTx := true, tail := none, blank := t.spt.blank, port := t.spt.port }, obs := t.obs, ctr := t.ctr } ∧
      (∀ p : Port, t.spt.port[p] = { s.spt.port[p] with lane := t.spt.port[p].lane }) ∧
      (∀ p l : Port, laneAt t p l = { laneAt s p l with out := edgeBlanked s p l }) ∧
      ((∀ b ∈ s.spt.blank, b.2 ≠ none) → t.spt.blank.head? = some (s.sky.tick, none)) ∧
      (∀ b ∈ s.spt.blank, b.2 = none → b ∈ t.spt.blank) ∧
      ∀ p l : Port, portOn s p = true → laneBand s p l ≠ 0 → cfgBAt s sptLaneBlank (laneIdx p l) = true → counted (cSptBlankEvents p) s t)) ∧
  (∀ s : State, s.spt.bhTx = true → completes .bhTxFall s (fun t => t = { s with spt := { s.spt with bhTx := false, tail := some s.sky.tick } })) ∧
  ∀ (s : State) (u : Nat), s.spt.tail = some u → u + cfg s sptCtrlBlankTail * 49152 / 1000 ≤ s.sky.tick → completes .blankTailEnd s (fun t =>
    t = { s with spt := { s.spt with
      tail := none, blank := s.spt.blank.map fun b => if b.2.isNone then (b.1, some (u + cfg s sptCtrlBlankTail * 49152 / 1000)) else b } })

/-- A band's millisecond commits its weights and sets the next ones and its runs; levels follow the runs; calibration steps within STEP_MAX; directions are measured (03_array R56, 03_array R58, 03_array R59, 03_array R60, 03_array R61, 03_array R62, 03_array R65, 03_array R66, 03_array R67, 03_array R68, 03_array R75). -/
def Obligations.ArrayNullsAndCalibrates : Prop :=
  (∀ (s : State) (b : Band) (valid total : Nat) (cov : List (List Cplx)), activeAnts s ≠ [] → completes (.nullWeightUpdate b valid total cov) s (fun t =>
    let x := s.ary.band[b]
    let y := t.ary.band[b]
    let hist := (cov :: x.cov).take (cfg s aryCfgNullAvg)
    let r := meanMatrix hist
    let lam := eigenAsc r
    let lamMin : Rat := if 2 ≤ (activeAnts s).length then lam.headD 0 else ((r.headD []).headD ⟨0, 0⟩).re
    (∀ c : Band, c ≠ b → t.ary.band[c] = s.ary.band[c]) ∧ y.marker = false ∧ y.level = x.level ∧
    (x.weights.isSome = true → counted cAryNullMs s t) ∧
    (∀ i w, x.next = some (i, w) → i ≤ (s.sky.tick : Int) → y.weights = w ∧ (x.weights ≠ w → y.weightsAt = i)) ∧
    (x.next = none ∨ (∃ i w, x.next = some (i, w) ∧ (s.sky.tick : Int) < i) → y.weights = x.weights ∧ y.weightsAt = x.weightsAt) ∧
    (2 * valid < total ∨ total = 0 → y.cov = x.cov ∧ y.k = x.k ∧ y.rise = x.rise ∧ y.q = x.q ∧ y.evals = x.evals ∧ y.upRun = x.upRun ∧ y.downRun = x.downRun ∧
      counted cArySkippedMs s t) ∧
    (0 < total → total ≤ 2 * valid →
      y.cov = hist ∧ y.evals = min 1000 (x.evals + 1) ∧
      (∀ i : Fin 3, y.upRun[i] = if i.val + 1 ≤ rawLevel s b y.rise y.k then x.upRun[i] + 1 else 0) ∧
      (∀ i : Fin 3, y.downRun[i] = if rawLevel s b y.rise y.k ≤ i.val then x.downRun[i] + 1 else 0) ∧
      ((activeAnts s).length < 2 → y.k = 0 ∧ y.next = some (nextStreamMs s, none)) ∧
      (2 ≤ (activeAnts s).length → y.k = ((lam.drop 1).filter fun l => decide (Config.pow10 ((cfg s aryCfgInrDet : Rat) / 20) * lamMin ≤ l)).length ∧
        y.next = some (nextStreamMs s, nullWeights s b r lamMin y.k)) ∧
      (x.q = none → y.q = none ∧ y.rise = 0) ∧
      ∀ q, x.q = some q → y.rise = 10 * Config.log10 (quot lamMin q) ∧ y.q = some (if y.k = 0 ∧ x.level = 0 then q + (lamMin - q) / 65536 else q)))) ∧
  (∀ (s : State) (b : Band), s.ary.band[b].q = none → s.ary.band[b].evals = 1000 →
    completes (.quietReferenceInit b) s (fun t => t = modBand b (fun y => { y with q := some (y.lamSum / 1000) }) s)) ∧
  (∀ (s : State) (b : Band),
    let x := s.ary.band[b]
    (∀ l : Fin 3, x.level < l.val + 1 → cfg s aryCfgJamPersist ≤ x.upRun[l] → (∀ m : Fin 3, l < m → x.upRun[m] < cfg s aryCfgJamPersist) →
      levelDue s b = some (l.val + 1)) ∧
    (∀ l : Fin 3, l.val < x.level → 10 * cfg s aryCfgJamClear ≤ x.downRun[l] → (∀ m : Fin 3, m < l → x.downRun[m] < 10 * cfg s aryCfgJamClear) →
      (∀ m : Fin 3, x.level < m.val + 1 → x.upRun[m] < cfg s aryCfgJamPersist) → levelDue s b = some l.val) ∧
    ∀ l, levelDue s b = some l → completes (.jamLevelChange b) s (fun t =>
      upToReports { s with ary := { s.ary with band := s.ary.band.set b { x with level := l }, jam := t.ary.jam } } t ∧
        (t.ary.jam = true ↔ ∃ c : Band, 2 ≤ t.ary.band[c].level) ∧ (s.ary.jam = false → t.ary.jam = true → counted cAryJamRaises s t))) ∧
  (∀ (s : State) (a : Port) (b : Band) (sigs : List CalSignal), a ≠ refAnt s → activeAnts s ≠ [] →
    stSec s % cfg s aryCalCalPeriod = 0 → (calAt s a b).lastS ≠ some (stSec s) → completes (.calUpdate a b sigs) s (fun t =>
    let ready := cfgB s aryCalCalEn && attValid s && !s.ary.spoof && decide (s.ary.band[b].level < 2) && (activeAnts s).contains a && (activeAnts s).contains (refAnt s)
    let n := (sigs.filterMap (calUse s a b)).length
    let x := { calAt s a b with lastS := some (stSec s) }
    let y := calAt t a b
    (∀ i, i ≠ calIdx a b → t.ary.cal[i] = s.ary.cal[i]) ∧ recorded 2 0x0308 (calBytes t a b) s t ∧
    (ready = false → y = x ∧ t.msr = s.msr) ∧
    (ready = true → n < cfg s aryCalCalMinSat → y = x ∧ t.msr = s.msr ∧ counted cAryCalHeld s t) ∧
    (ready = true → cfg s aryCalCalMinSat ≤ n →
      y = { x with run := 0 } ∧ t.msr = s.msr ∧ counted cAryCalReject s t ∨ y.first = false ∧ t.msr = { s.msr with calSeq := (s.msr.calSeq + 1) % 65536 }) ∧
    (x.first = false → absQ (y.phi - x.phi) ≤ (cfg s aryCalStepMax : Rat) * 5 / 1000) ∧ (x.conv = true → y.conv = true))) ∧
  ∀ (s : State) (sigs : List AoaSignal), completes (.aoaMeasure sigs) s (fun t =>
    let l := sigs.filter (aoaQualifies s)
    t = { s with ary := { s.ary with aoa := t.ary.aoa }, obs := t.obs, ctr := t.ctr } ∧
      (2 ≤ antRank s → t.ary.aoa = l.map (aoaDirection s)) ∧ (antRank s = 1 → t.ary.aoa = l.filterMap (aoaCone s)) ∧ (antRank s = 0 → t.ary.aoa = []))

/-- An evaluation is dirty, clean or unavailable and moves its runs; the alarm is raised, cleared or released, and GNSS time with it (03_array R69, 03_array R70, 03_array R71, 01_architecture R18, 09_sky_time R222, 09_sky_time R226). -/
def Obligations.SpoofingIsDecided : Prop :=
  let ended := fun (on : Bool) (kind : Nat) (s t : State) =>
    t.ary = { s.ary with spoof := on, dirty := 0, clean := 0, unavail := 0 } ∧ recorded 0 kind (spoofBytes t) s t ∧
      t.sky.entries = s.sky.entries ∧ t.sky.seg = s.sky.seg ∧ t.mode.mode = s.mode.mode ∧
      (on = true ∨ s.sol.timeValid = false → t.sky.trustedSince = none ∧ t.sky.gnssReturned = false ∧ t.sky.gnssFresh = false ∧ t.mode.usableSince = none ∧
        t.mode.unusableSince = some (s.mode.unusableSince.getD (stNow s))) ∧
      (on = false → s.sol.timeValid = true → t.sky.trustedSince = some (s.sky.trustedSince.getD s.sky.tick) ∧ t.mode.unusableSince = none ∧
        t.mode.usableSince = some (s.mode.usableSince.getD (stNow s)))
  ∀ s : State,
    completes (.spoofEval ()) s (fun t =>
      let sats := ((validAoa s).map (·.sat)).dedup.length
      let holds := (largestS1 s).isSome || (attValid s && decide (cfg s arySpoofDisagreeCount ≤ (s2Sats s).length))
      upToReports { s with ary := t.ary } t ∧
      t.ary = { s.ary with
        outcome := t.ary.outcome, attUsed := attValid s, aoaSats := sats, suspects := t.ary.suspects, cluster := t.ary.cluster,
        dirty := t.ary.dirty, clean := t.ary.clean, unavail := t.ary.unavail } ∧
      t.ary.outcome = (if cfgB s arySpoofSpoofEn = false then 2 else if holds then 1
        else if (2 ≤ antRank s ∨ attValid s = true) ∧ cfg s arySpoofMinAoa ≤ sats then 0 else 2) ∧
      (t.ary.outcome = 1 → t.ary.dirty = s.ary.dirty + 1 ∧ t.ary.clean = 0 ∧ t.ary.unavail = 0 ∧ counted cArySpoofDirty s t) ∧
      (t.ary.outcome = 0 → t.ary.dirty = 0 ∧ t.ary.clean = s.ary.clean + 1 ∧ t.ary.unavail = 0) ∧
      (t.ary.outcome = 2 → t.ary.dirty = s.ary.dirty ∧ t.ary.clean = s.ary.clean ∧ t.ary.unavail = if s.ary.spoof then s.ary.unavail + 1 else 0)) ∧
    (s.ary.spoof = false → cfg s arySpoofPersist ≤ s.ary.dirty → completes .spoofRaise s (fun t =>
      ended true 0x0304 s t ∧ t.sky.alignDecided = none ∧ counted cArySpoofRaises s t)) ∧
    (s.ary.spoof = true → cfg s arySpoofClear ≤ s.ary.clean → completes .spoofClear s (ended false 0x0305 s)) ∧
    (s.ary.spoof = true → 10 * cfg s arySpoofHold ≤ s.ary.unavail → completes .spoofReleaseUnverified s (fun t =>
      ended false 0x0306 s t ∧ counted cArySpoofUnverified s t))

/-- A task takes a lane and a channel, steps through its grid, verifies a hit twice and hands the signal to the bank (04_acquisition R76, 04_acquisition R79, 04_acquisition R80, 04_acquisition R84, 04_acquisition R87, 04_acquisition R88, 04_acquisition R89, 04_acquisition R90, 04_acquisition R91, 04_acquisition R92, 04_acquisition R96). -/
def Obligations.AcquisitionSearchesAndHandsOver : Prop :=
  (∀ (s : State) (offers : List SearchTarget),
    let u := offers.foldl offerTask (refreshViews s)
    (lanesRun u = false ∨ modeLanes u ≤ (runs u).length → completes (.acqTaskStart offers) s (fun t => t = u)) ∧
    ∀ x k (n : Fin 16), lanesRun u = true → (runs u).length < modeLanes u → nextTask u = some (x, k) → k < 1536 → u.acq.lane[n] = none →
      (∀ m : Fin 16, m < n → u.acq.lane[m] ≠ none) → completes (.acqTaskStart offers) s (fun t =>
        t.acq.queue = u.acq.queue.filter (fun y => y.target != x.target) ∧ chanGet t k = { chanGet u k with reserved := some x.target } ∧
        (∀ m : Fin 16, m ≠ n → t.acq.lane[m] = u.acq.lane[m]) ∧
        ∃ r, t.acq.lane[n] = some r ∧ r.task = x ∧ r.chan.val = k ∧ r.step = 0 ∧ r.hit = none ∧ r.restart = false ∧
          r.deep = decide (tierNc u x.target.sig false = 0))) ∧
  (∀ (s : State) (n : SearchLane) (r : LaneRun) (tk : Nat), s.acq.lane[n] = some r → r.dwell = .replay tk → completes (.acqRecordComplete n) s (fun t =>
    t = { s with acq := { s.acq with pool := s.acq.pool.map fun p =>
      if p.key = r.key ∧ p.tick = tk ∧ tk + recordTicks p ≤ s.sky.tick then { p with full := true } else p } })) ∧
  (∀ (s : State) (n : SearchLane) (r : LaneRun) (ivs : List AcqInterval), s.acq.lane[n] = some r → lanesRun s = true → r.hit = none → dwellReady s r = true →
    let coh := cohInForce s r.task.target r.deep
    (trackedOn s r.task.target r.key.combined r.chan.val = true → completes (.acqStep n ivs) s (fun t => t.acq.lane[n] = none ∧ counted cAcqSteps s t)) ∧
    (boundaryEnd n { r with restart := false } (bump cAcqSteps s) = none →
      (r.restart = true → completes (.acqStep n ivs) s (fun t => counted cAcqSteps s t ∧ counted cAcqRestarts s t ∧
        ∃ r', t.acq.lane[n] = some r' ∧ r'.task = r.task ∧ r'.chan = r.chan ∧ r'.step = 0 ∧ r'.hit = none ∧ r'.restart = false)) ∧
      (r.restart = false →
        let kept := keptIvs s r ivs
        (2 * kept.length < r.nc → r.voids < 3 → completes (.acqStep n ivs) s (fun t => counted cAcqSteps s t ∧ counted cAcqVoidSteps s t ∧
          ∃ r', t.acq.lane[n] = some r' ∧ r' = { r with voids := r.voids + 1, coh := coh, dwell := r'.dwell })) ∧
        (r.nc ≤ 2 * kept.length →
          let peaks := (stepGroups r).zipIdx.map (groupPeak kept (groupSize r.groups))
          let hits := sortBy (fun (a b : Peak) => decide (b.ratio < a.ratio)) (peaks.filter fun p => reachesT s r.nc p.ratio)
          (∀ p, (firstHit s r hits).1 = some p → completes (.acqStep n ivs) s (fun t => counted cAcqSteps s t ∧ counted cAcqHits s t ∧
            ∃ r', t.acq.lane[n] = some r' ∧ r' = { r with
              hit := some ⟨p.ratio, roundEven (2 * carryCode r p.bin ((p.cell : Rat) / 2) (dwellTick r) (dwellTick r')), p.bin, (0, 0)⟩,
              passes := 0, voids := 0, coh := coh, dwell := r'.dwell })) ∧
          ((firstHit s r hits).1 = none → r.step + 1 < gridSteps r → completes (.acqStep n ivs) s (fun t => counted cAcqSteps s t ∧
            ∃ r', t.acq.lane[n] = some r' ∧
              r' = { r with step := r.step + 1, voids := 0, hit := none, passes := 0, coh := coh, dwell := r'.dwell })))))) ∧
  (∀ (s : State) (n : SearchLane) (r : LaneRun) (h : AcqHit) (ivs : List AcqInterval), s.acq.lane[n] = some r → lanesRun s = true → r.hit = some h →
    r.passes < 2 → dwellReady s r = true → boundaryEnd n r (bump cAcqSteps s) = none →
    let kept := keptIvs s r ivs
    let v := verifyPeak kept
    (2 * kept.length < stepNc s r → r.voids < 3 → completes (.acqVerify n ivs) s (fun t => counted cAcqSteps s t ∧ counted cAcqVoidSteps s t ∧
      ∃ r' h', t.acq.lane[n] = some r' ∧ r'.hit = some h' ∧ h'.bin = h.bin ∧ r'.voids = r.voids + 1 ∧ r'.passes = r.passes ∧ r'.step = r.step)) ∧
    (stepNc s r ≤ 2 * kept.length → reachesT s (stepNc s r) v.1 = true → completes (.acqVerify n ivs) s (fun t => counted cAcqSteps s t ∧
      ∃ r' h', t.acq.lane[n] = some r' ∧ r'.hit = some h' ∧ h'.bin = h.bin ∧ h'.fine = v.2 ∧ r'.passes = r.passes + 1 ∧ r'.voids = 0 ∧ r'.step = r.step ∧
        (r.passes = 1 → h'.cell = h.cell ∧ r'.dwell = r.dwell))) ∧
    (stepNc s r ≤ 2 * kept.length → reachesT s (stepNc s r) v.1 = false → completes (.acqVerify n ivs) s (fun t =>
      counted cAcqSteps s t ∧ counted cAcqFalseHits s t))) ∧
  ∀ (s : State) (n : SearchLane) (r : LaneRun) (h : AcqHit), s.acq.lane[n] = some r → r.hit = some h → 2 ≤ r.passes →
    (tracked s r.task.target r.chan.val = true → completes (.handover n) s (fun t => t.acq.lane[n] = none ∧ counted cAcqDupHits s t)) ∧
    (tracked s r.task.target r.chan.val = false → (chanGet s r.chan.val).reserved = some r.task.target → completes (.handover n) s (fun t =>
      let c := chanGet t r.chan.val
      let g := targetInfo r.task.target
      let b := (h.bin : Rat) + h.fine.2
      let f := r.key.centre + b * spacing r
      t.acq = { s.acq with lane := s.acq.lane.set n none } ∧ counted cAcqHandovers s t ∧ (∀ j, j ≠ r.chan.val → chanGet t j = chanGet s j) ∧
        c.st = .pull ∧ c.target = some r.task.target ∧ c.combined = r.key.combined ∧ c.entered = s.sky.tick ∧ c.task = some r.task ∧
        c.fNco = f ∧ c.codeRate = (g.chipHz : Rat) * (1 + f / carrierOf r.task.target) ∧
        c.tx = chipsOf r.task.target (carryCode r b (((h.cell : Rat) + h.fine.1) / 2) (dwellTick r) s.sky.tick / g.chipHz) / g.chipHz))

/-- A channel's dumps, its coasting, pull-in, loss, reacquisition age, weak settings, recovery and C/N0 (05_tracking R99, 05_tracking R103, 05_tracking R104, 05_tracking R105, 05_tracking R106, 05_tracking R108, 05_tracking R115, 05_tracking R117). -/
def Obligations.ChannelsFollowTheirStates : Prop :=
  ∀ (s : State) (ch : TrkChan),
    let c := chanGet s ch.val
    let rest := fun (t : State) => ∀ j, j ≠ ch.val → chanGet t j = chanGet s j
    let lost := fun (t : State) =>
      chanGet t ch.val = { c with
        st := .lost, entered := s.sky.tick, weak := false, weakTo := none, coast := none, hollow := 0,
        lostView := c.target.bind fun g => (viewOf s g.sat).map fun v => (v.dop, v.range) } ∧ counted cTrkLost s t ∧ rest t
    (∀ d : DumpData, chanRuns s ch.val = true → dumpEnd c ≤ (s.sky.tick : Rat) →
      (d.samples < 2 * d.flagged ∨ d.samples = 0 → completes (.trackDump ch d) s (fun t => counted cTrkHollowDumps s t ∧ rest t ∧
        let x := chanGet t ch.val
        x.hollow = c.hollow + 1 ∧ x.coast.isSome ∧ x.st = c.st ∧ x.fNco = c.fNco ∧ x.codeRate = c.codeRate ∧
        x.cycles = c.cycles + (chanCarrier c + c.fNco) * dumpSpan c ∧ x.tx = c.tx + dumpCode c ∧ x.last = dumpEnd c)) ∧
      (0 < d.samples → 2 * d.flagged ≤ d.samples → c.takes = none → completes (.trackDump ch d) s (fun t =>
        let p := carrierPrompt s c d
        let (l, ef, ec) := loopUpdate s c p d (dumpSpan c)
        let w := ((ef, ec) :: c.pullWin).take 20
        let x := chanGet t ch.val
        rest t ∧ x.hollow = 0 ∧ x.coast = none ∧ x.last = dumpEnd c ∧ x.fNco = l.fNco ∧ x.codeRate = l.codeRate ∧ x.acc = l.acc ∧ x.vel = l.vel ∧
        (c.st ≠ .pull → x.dumpNo = c.dumpNo + (roundEven (dumpCode c / (chanInfo c).period)).toNat) ∧
        (c.st = .pull → x.prev = some p ∧
          x.st = if w.length = 20 ∧ meanQ (w.map (·.1)) ≤ 10 ∧ meanQ (w.map (·.2)) ≤ 1 / 10 then .track else .pull)))) ∧
    (∀ u, chanRuns s ch.val = true → canLose c = true → c.coast = some u → u + 4915200 * cfg s trkCfgCoast < s.sky.tick →
      completes (.coastExpiry ch) s lost) ∧
    (s.memWf → c.st = .pull → c.entered + 983040000 ≤ s.sky.tick → completes (.pullFail ch) s (fun t => chanGet t ch.val = {} ∧ counted cTrkPullFail s t ∧
      (c.task = none → t.acq = s.acq) ∧ ∀ x, c.task = some x → t.acq = { s.acq with queue :=
        (s.acq.queue.filter fun y => decide (y.cls ≤ x.cls)) ++ [x] ++ (s.acq.queue.filter fun y => decide (x.cls < y.cls)) })) ∧
    (∀ u, canLose c = true → c.lossSince = some u → u + 491520000 * cfg s trkCfgLossT ≤ s.sky.tick → completes (.lossTExpiry ch) s lost) ∧
    (s.memWf → c.st = .lost → c.entered + 491520000 * cfg s acqCfgReacqS ≤ s.sky.tick → completes (.reacqExpiry ch) s (fun t => chanGet t ch.val = {})) ∧
    (c.st = .lock → syncOpen c = false → cfgBAt s trkSigWeakEn (chanSig c) = true →
      (∀ u, c.weak = false → c.weakSince = some u → u + 983040000 ≤ s.sky.tick →
        completes (.weakSwitch ch) s (fun t => t = chanSet ch.val { c with weakTo := some true } s)) ∧
      (∀ u, c.weak = true → c.strongSince = some u → u + 983040000 ≤ s.sky.tick →
        completes (.weakSwitch ch) s (fun t => t = chanSet ch.val { c with weakTo := some false } s))) ∧
    (∀ u, c.st = .freq → c.strongSince = some u → u + 983040000 ≤ s.sky.tick → completes (.freqRecovery ch) s (fun t => rest t ∧
      chanGet t ch.val = { c with st := .track, entered := s.sky.tick, weak := false, weakTo := none, bumpWin := [] })) ∧
    (canLose c = true → 0 < c.cnWin.1 → c.cnFrom + cnLength c / nominalRate ≤ c.last → completes (.cn0Update ch) s (fun t => rest t ∧
      let x := chanGet t ch.val
      ∃ v, x = { c with cn0 := some v, delta := x.delta, mp := x.mp, cnWin := (0, 0, 0, 0, 0), cnFrom := c.last, weakSince := x.weakSince, strongSince := x.strongSince,
                        lossSince := x.lossSince } ∧
        (c.cnWin.2.1 ≤ c.cnWin.2.2.1 → v = 0) ∧ (x.mp = true → 35 ≤ v ∧ (cfg s trkCfgMpThr : Rat) / 100 < absQ x.delta) ∧
        x.weakSince = (if v < (cfg s trkCfgWeakCn0 : Rat) then some (c.weakSince.getD s.sky.tick) else none) ∧
        x.strongSince = (if (cfg s trkCfgWeakCn0 : Rat) + (cfg s trkCfgWeakHyst : Rat) ≤ v then some (c.strongSince.getD s.sky.tick) else none) ∧
        x.lossSince = (if v < (cfg s trkCfgLossCn0 : Rat) then some (c.lossSince.getD s.sky.tick) else none) ∧
        (c.mp = false → x.mp = true → counted cTrkMpFlags s t)))

/-- A strong signal spawns the array channels it lacks, and beam channels take over, give up after 2 s and return after 10 s (05_tracking R121, 05_tracking R125, 05_tracking R127). -/
def Obligations.ArrayAndBeamChannels : Prop :=
  ∀ (s : State) (ch : TrkChan) (g : SearchTarget), (chanGet s ch.val).target = some g →
    let c := chanGet s ch.val
    (spawns s ch.val c = true →
      (∀ x ∈ busyChans s, ∀ h, x.2.target = some h → spawns s x.1 x.2 = true → servedBefore s h g = true → lacking s h = [] ∨ freeChan s .array h = none) →
      (lacking s g = [] → completes (.arraySpawn ch) s (fun t => t = s)) ∧
      ∀ a l k, lacking s g = a :: l → freeChan s .array g = some k → completes (.arraySpawn ch) s (fun t =>
        (chanGet t k).st = .track ∧ (chanGet t k).ant = a ∧ (chanGet t k).target = some g ∧ (chanGet t k).fNco = c.fNco ∧ (chanGet t k).entered = s.sky.tick ∧
          (chanGet t k).combined = false ∧ (attValid s = false → (chanGet t k).tx = c.tx) ∧
          ∀ j, chanFree s j = false → chanGet t j = chanGet s j)) ∧
    (beamCandidate s ch.val c = true → (∀ x ∈ busyChans s, beamCandidate s x.1 x.2 = true → c.cn0.getD 0 ≤ x.2.cn0.getD 0) →
      ∀ k, freeChan s .beam g = some k → completes (.beamTakeover ch) s (fun t =>
        (∀ j, j ≠ k → chanGet t j = chanGet s j) ∧ (chanGet t k).st = .track ∧ (chanGet t k).takes = some ch ∧ (chanGet t k).beam = true ∧
          (chanGet t k).beamOk = some s.sky.tick ∧ (chanGet t k).target = some g ∧ (chanGet t k).combined = false ∧ (chanGet t k).fNco = c.fNco)) ∧
    (s.memWf → c.takes ≠ none → c.takeAt + 983040000 ≤ s.sky.tick → completes (.beamTimeout ch) s (fun t =>
      chanGet t ch.val = {} ∧ (∀ j, j ≠ ch.val → chanGet t j = chanGet s j) ∧ (g, s.sky.tick + 29491200000) ∈ t.trk.beamHold)) ∧
    (∀ u, chanRole s ch.val = .beam → c.st ≠ .idle → c.beam = false → beamAllowed s g = true → c.beamOk = some u → u + 4915200000 ≤ s.sky.tick →
      completes (.beamReturn ch) s (fun t => (chanGet t ch.val).beam = true ∧ (chanGet t ch.val).st = c.st ∧ ∀ j, j ≠ ch.val → chanGet t j = chanGet s j))

/-- An epoch, the station messages, a navigation unit and a run of symbols leave the records, the store and the counters that their rules give (06_measurements R132, 06_measurements R138, 06_measurements R140, 06_measurements R141, 06_measurements R144, 06_measurements R145, 06_measurements R146, 06_measurements R147, 06_measurements R148, 06_measurements R151). -/
def Obligations.MeasurementsAndNavigation : Prop :=
  (∀ (s : State) (te : Rat), epochDue s = some te → completes .measurementEpoch s (fun t =>
    t.msr.lastEpoch = some te ∧ t.msr.seq = (s.msr.seq + 1) % 65536 ∧ counted cMsrEpochs s t ∧ t.sky = { s.sky with clkStep := false } ∧ t.msr.eph = s.msr.eph ∧
    (s.memWf → shown 0xE0B0 (leBytes 4 (msrStatus t)) t) ∧
    (∀ x ∈ busyChans s, bankOn s x.1 = true → (chanGet t x.1).restarted = false ∧ (chanGet t x.1).wchg = false ∧ (chanGet t x.1).halfAdj = false) ∧
    ∃ r, t.msr.lastRec = some r ∧
      r.t = te ∧ r.int = intCode s ∧ r.aligned = s.mode.aligned ∧ r.clkStep = s.sky.clkStep ∧ r.source = srcCode s.sky.source ∧ r.usable = gnssUsable s ∧
      r.seq = s.msr.seq ∧ r.unc = min 65535 (uncWord s) ∧
      t.sol = { (refreshViews s).sol with
        resets := (resetsOf r.entries ++ s.sol.resets).dedup, attResets := (resetsOf r.entries ++ s.sol.attResets).dedup } ∧
      (let kept := unconsumed s te
       let full := 16 ≤ (kept.filter RingRec.isEpoch).length
       t.msr.ring = (if full then dropEpoch kept else kept) ++ [.epoch r] ∧ (full → counted cMsrRingOverrun s t)) ∧
      (∀ e ∈ r.entries, ∃ c, (e.chan, c) ∈ busyChans s ∧ followed c = true ∧ bankOn s e.chan = true ∧ c.target = some e.target ∧ e.cn0 = c.cn0.getD 0 ∧
        e.coasting = decide (0 < c.hollow) ∧ e.dopValid = !e.coasting ∧ (e.prValid = true → 1 ≤ e.level ∧ e.coasting = false) ∧
        (e.phValid = true → c.st = .lock ∧ e.level = 3 ∧ e.coasting = false) ∧ c.level ≤ e.level ∧
        e.doppler = (chanCarrier c + c.fNco) * (nominalRate / s.sky.seg.rate) - chanCarrier c ∧
        (∀ q, c.lockTick = some q → e.lockMs = ((latchTick s te - q) / 491520).floor.toNat) ∧
        e.restart = c.restarted ∧ e.wchg = c.wchg ∧ e.halfAdj = c.halfAdj ∧ e.mp = c.mp) ∧
      ∀ x ∈ busyChans s, followed x.2 = true → bankOn s x.1 = true → x.2.target ≠ none → ∃ e ∈ r.entries, e.chan = x.1)) ∧
  (∀ s : State, inService s = true → cfgB s msrExportRtcmEn = true → cfg s msrStationStnPeriod ≠ 0 → gnssUsable s = true →
    stSec s % cfg s msrStationStnPeriod = 0 → s.msr.stationS ≠ some (stSec s) → completes .stationMessages s (fun t =>
      upToReports { s with msr := { s.msr with stationS := some (stSec s) } } t ∧
      let id := leBytes 2 (cfg s msrStationStnId)
      let point := fun (x y z : Int) => [(2, 0x0605, id ++ leBytes 5 (twos 38 x) ++ leBytes 5 (twos 38 y) ++ leBytes 5 (twos 38 z) ++ leBytes 2 0)]
      let raw := match blockOf s 8 0x0613 with | some b => leBytes (4 * (b.words - 7)) (b.val / 2 ^ 224) | none => []
      let ant := raw.take ((raw.headD 0).toNat + 1)
      let rest := raw.drop ant.length
      let rcv := rest.take ((rest.headD 0).toNat + 1)
      recordedAll
        ((if cfgB s msrStationArpSrc = false then point (cfgI s msrStationArpX) (cfgI s msrStationArpY) (cfgI s msrStationArpZ)
          else match refEcef s with | some q => point q.1 q.2.1 q.2.2 | none => []) ++
        [(2, 0x0606, id ++ ant ++ [0] ++ rcv ++ [2, 0x42, 0x30] ++ [0])] ++
        (if cfgB s msrStationGloBiasEn = true then
          [(2, 0x0607, id ++ [0x0A] ++ leBytes 2 (twos 16 (cfgI s msrStationGloL1Bias)) ++ leBytes 2 (twos 16 (cfgI s msrStationGloL2Bias)))] else [])) s t)) ∧
  (∀ (s : State) (ch : TrkChan) (u : NavUnit) (g : SearchTarget),
    let k := ch.val
    let c := chanGet s k
    let bits := (checkUnit g.sig u).1
    let results := (checkUnit g.sig u).2
    let some_ := results.any resultOk
    let all_ := results.all resultOk
    let time_ := (timeWords g.sig).all fun i => resultOk (results.getD i 2)
    let x := u.content
    let rec_ := navHeader k g u.stFirst (unitKindOf g.sig) (u.inverted == some true) results bits.length ++ packBits bits
    let week : Rat := if g.sat.const = .glonass then 86400 else 604800
    s.ctrWf → c.target = some g → isNavChan s k = true → followed c = true → domOn s .msr = true → symbolsOnly g.sig = false →
    completes (.navCheckUnit ch u) s (fun t =>
      raised cMsrNavPass (results.count 0) s t ∧ raised cMsrNavCorrected (results.count 1) s t ∧ raised cMsrNavFail (results.count 2) s t ∧
      (∀ j, j ≠ k → chanGet t j = chanGet s j) ∧ t.msr.ring.getLast? = some (.nav (stNow s) rec_) ∧
      (∀ b, u.inverted = some b → some_ = true → (chanInfo c).two = false → c.half = none →
        (chanGet t k).half = some b ∧ (chanGet t k).halfAdj = b ∧ counted cMsrHalfResolved s t) ∧
      (u.inverted = none ∨ some_ = false ∨ c.half ≠ none → (chanGet t k).half = c.half) ∧
      (u.inverted = some true → some_ = true → (chanInfo c).two = true → c.halfKnown = true →
        (chanGet t k).conflict = true ∧ counted cMsrPolarityConflict s t) ∧
      (∀ q, x.txTime = some q → time_ = true → timeFieldsServe s g c = true →
        let tx := c.tx + level2S c * (roundEven ((q - c.tx) / level2S c) : Int)
        (chanGet t k).level = 3 ∧ (chanGet t k).tx = tx ∧
        ∀ y, skyTx s (stOfTick s c.last) 0 c = some y → level2S c / 2 ≤ absQ (reduceHalf (tx - y) week) → counted cMsrTowConflict s t) ∧
      (x.txTime = none ∨ time_ = false ∨ timeFieldsServe s g c = false → (chanGet t k).tx = c.tx ∧ (chanGet t k).level = c.level) ∧
      (∀ q, x.gpsTime = some q → time_ = true → g.sat.const = .gps ∨ g.sat.const = .galileo ∨ (g.sat.const = .beidou ∧ isGeo g.sat = false) →
        t.sky = (offerSeed (q + 75 / 1000 - stOfTick s c.last) 15000000 s).sky) ∧
      (x.gpsTime = none ∨ time_ = false → t.sky = s.sky) ∧
      (all_ = false → t.msr = { s.msr with ring := t.msr.ring }) ∧
      (∀ i a b l, all_ = true → x.issue = some (i, a, b, l) → ∃ e, ephOf t g.sat = some e ∧ (e.issues.head?).map (·.iod) = some i) ∧
      (∀ n, all_ = true → x.leap = some n → g.sat.const = .gps ∨ g.sat.const = .galileo ∨ g.sat.const = .beidou → t.msr.leap = some n) ∧
      (cfgB s msrExportNavExport = true → recorded 2 0x0602 rec_ s t) ∧ (cfgB s msrExportNavExport = false → t.hst = s.hst))) ∧
  ∀ (s : State) (ch : TrkChan) (g : SearchTarget),
    let c := chanGet s ch.val
    let first := stWord (stOfTick s c.last - ((c.soft.length * (targetInfo g).symMs : Nat) : Rat) / 1000)
    let rec_ := navHeader ch.val g first 4 false [3] c.soft.length ++ c.soft.reverse.map fun v => BitVec.ofNat 8 (twos 8 v)
    c.target = some g → isNavChan s ch.val = true → symbolsPerSecond g ≤ c.soft.length → domOn s .msr = true →
    symbolsOnly g.sig = true ∨ (cfg s msrExportSymExport).testBit g.sig = true → completes (.symbolRecord ch) s (fun t =>
      chanGet t ch.val = { c with soft := [] } ∧ (∀ j, j ≠ ch.val → chanGet t j = chanGet s j) ∧
      t.msr = { s.msr with ring := unconsumed s (stNow s) ++ [.symbols (stNow s) rec_] } ∧
      (cfgB s msrExportNavExport = false → t.hst = s.hst) ∧ (cfgB s msrExportNavExport = true → recorded 2 0x0603 rec_ s t))

/-- The standalone, precise and attitude filters take their epochs, form the solution and the time, and a skipped epoch counts (07_solver R156, 07_solver R157, 07_solver R160, 07_solver R163, 07_solver R164, 07_solver R169, 07_solver R179, 07_solver R182, 07_solver R186, 01_architecture R18). -/
def Obligations.FiltersUpdate : Prop :=
  let inDecided := fun (m : Mode) (s t : State) => t.mode.decided ≠ none ∧ (t.rfc.quiet = false → t.mode.decided = some (m, 8, stNow s))
  (∀ (s : State) (te : Rat), filterDue s .standalone = some te → completes (.standaloneUpdate () ()) s (fun t =>
    let v := refreshViews s
    let used := usedSats v false
    let m := stdMem v te used
    let formed := formedBy m.rows
    let sol := solutionOf m.post (velFormed m.rows)
    let good := pvtValid t && t.sol.timeValid && !s.ary.spoof
    let sec := te.floor.toNat
    let run := if good then (if s.mode.coldRun ≠ 0 ∧ s.mode.coldLast + 1 = sec then s.mode.coldRun + 1 else 1) else 0
    t.sol.std = some ⟨te, sol, if formed then 1 else 0, false, used⟩ ∧ t.sol.done = s.sol.done.set 0 (some te) ∧ t.sol.prec = s.sol.prec ∧
    t.sol.stdF = (if formed = true ∨ s.sol.stdF ≠ none then some m else none) ∧ t.sol.view = v.sol.view ∧
    t.msr = { s.msr with ring := s.msr.ring.filter fun x => decide (te < x.st) } ∧
    t.sol.hold = (if tooFast sol = true then none else s.sol.hold) ∧
    (timeVia s used = none → t.sol.timeValid = false ∧ t.sol.time = s.sol.time) ∧
    (∀ w off via, timeVia s used = some (w, off, via) →
      let clk := clockOf t m w off via
      t.sol.time = some (te, clk, via, used.length) ∧
      (t.sol.timeValid = true ↔ (formed = true ∨ t.sol.hold ≠ none) ∧ (if t.sol.hold = none then cfg s solFdeTimeMinSv else 2) ≤ used.length ∧
        clk.sigma ≤ 100 * cfg s solFdeTimeSigMax ∧ s.sol.fail = false) ∧
      (t.sol.timeValid = true → ∃ r, t.sky.sol = some r ∧ r.st = te ∧ r.offset = (clk.offset : Rat) / 4294967296 ∧ r.sigma = (clk.sigma : Rat) / 100 ∧
        r.rate = s.sky.seg.rate)) ∧
    (timeTrusted t = true ↔ t.sol.timeValid = true ∧ s.ary.spoof = false) ∧ gnssUsable t = timeTrusted t ∧
    (t.sol.timeValid = false → t.sky.sol = s.sky.sol) ∧
    (s.mode.mode = .layup → (t.mode.fixOk.isSome = true ↔ s.mode.fixOk ≠ none ∨ pvtValid t = true)) ∧ (s.mode.mode ≠ .layup → t.mode.fixOk = s.mode.fixOk) ∧
    (s.mode.mode = .cold → te.den = 1 → t.mode.coldRun = run ∧ t.mode.coldLast = sec) ∧
    (s.mode.mode = .cold → te.den = 1 → 5 ≤ run → s.mode.decided = none → s.mode.target ≠ .layup → inDecided (serviceMode s) s t ∧
      (s.mode.aligned = false → ∀ c via n, t.sol.time = some (te, c, via, n) →
        t.sky.alignDecided = some ((match s.sky.seed with | some d => d.value | none => 0) - (c.offset : Rat) / 4294967296))) ∧
    (s.mode.mode ≠ .cold ∨ te.den ≠ 1 → t.sky.alignDecided = s.sky.alignDecided))) ∧
  (∀ (s : State) (te : Rat), filterDue s .precise = some te →
    let v := refreshViews s
    (s.ary.spoof = true ∨ filterDue s .integrity ≠ none ∨ precPredict v te = none → completes (.preciseUpdate () () ()) s (fun t => t = s)) ∧
    ∀ f, s.ary.spoof = false → filterDue s .integrity = none → precPredict v te = some f → completes (.preciseUpdate () () ()) s (fun t =>
      let o := preciseEpoch v te f
      let used := usedSats v true
      let first := (o.amb.filter (ambEligible v)).filter fun a => ambBand a == 0
      let fixed := (t.sol.amb.filter fun x => x.fixed.isSome && first.any fun a => a.place == x.place).length
      t.sol.done = s.sol.done.set 1 (some te) ∧ t.sol.std = s.sol.std ∧ t.sol.time = s.sol.time ∧ t.sky = s.sky ∧ t.sol.resets = [] ∧
      t.sol.precF = some o.mem ∧ o.mem.t = te ∧ t.sol.iono = grantIono v used ∧ t.sol.amb = o.amb ∧
      (first = [] → ctrGet t cSolArAttempts = ctrGet s cSolArAttempts ∧ ctrGet t cSolArFixes = ctrGet s cSolArFixes) ∧
      ∃ r, t.sol.prec = some r ∧ r.t = te ∧ r.used = used ∧ r.atm = decide (4 ≤ (used.filter (atmFor v)).length) ∧
        (used.length < 4 → r.type = 0) ∧
        (4 ≤ used.length → r.type = if cfg s solArArMin ≤ fixed then (if fixed = first.length then 4 else 3) else 2) ∧
        t.sol.hold = (if s.sol.hold ≠ none ∧ r.type = 4 then some r.sol.pos else s.sol.hold) ∧
        t.sol.holdSince = (if r.type = 4 ∧ speedSq r.sol < 100 * 100 then some (s.sol.holdSince.getD te) else none) ∧
        (s.mode.mode = .survey → s.mode.decided = none → 2 ≤ r.type → r.sol.h95 ≤ 10 * cfg s bootModesSurveyHpl → t.mode.exitWhy = 1 ∧ inDecided .full s t) ∧
        (s.mode.mode ≠ .survey ∨ r.type < 2 → t.mode.exitWhy = s.mode.exitWhy))) ∧
  (∀ (s : State) (te : Rat), filterDue s .attitude = some te → completes (.attitudeUpdate ()) s (fun t =>
    let v := refreshViews s
    let e := attEpoch v te
    let r := t.sol.att
    upToReports { s with sol := t.sol } t ∧
    t.sol = { v.sol with att := r, attF := some (turnIn e.1), attResets := [], attLast := t.sol.attLast, done := s.sol.done.set 2 (some te), shown := t.sol.shown } ∧
    r = attRecOf v te e.1.angles e.2.1 e.2.2 ∧ r.t = te ∧ r.axes = axesOf v (e.2.2.map (·.1)) ∧ (r.axes = 2 → r.roll = 0) ∧ r.heading < 36000 ∧
    (r.ok = true ↔ 2 ≤ r.axes ∧ 5 ≤ r.nsat ∧ r.sigHdg ≤ 100) ∧
    (∀ x ∈ e.2.2, x.1 ∈ baselines v ∧ baselineFix v e.1.filt x.1 e.1.amb = some x.2 ∧ absQ (vLen (fixedVector v x.2) - vLen (baseVec v x.1)) ≤ 10 / 1000) ∧
    t.sol.attLast = (if r.ok = true ∧ s.ary.spoof = false then some (te, r) else s.sol.attLast) ∧
    t.sol.shown = (pubType t, pvtValid t, velValid t, attValid t, t.sol.fail) ∧
    (s.memWf → shown 0xE018 (solPvt t) t ∧ shown 0xE040 (solTime t) t ∧ shown 0xE058 (solAtt t) t ∧ shown 0xE070 (solInteg t) t) ∧
    recordedAll
      ((if s.sol.shown.1 = pubType t then [] else [(1, 0x0702, solPvt t)]) ++ (if s.sol.shown.2.1 = pvtValid t then [] else [(1, 0x0703, solPvt t)]) ++
        (if s.sol.shown.2.2.2.1 = attValid t then [] else [(1, 0x0704, solAtt t)]) ++
        (if s.sol.shown.2.2.2.2 = t.sol.fail then [] else [(1, 0x0705, solInteg t)])) s t)) ∧
  ∀ (s : State) (f : Filter) (te : Rat), filterDue s f = some te → completes (.solSkip f) s (fun t =>
    t = { s with sol := { s.sol with done := s.sol.done.set (filterIdx f) (some te) }, obs := t.obs, ctr := t.ctr } ∧ counted cSolSolSkip s t)

/-- Integrity excludes the worst subset until none fails, exclusions and corrections expire, and a signed envelope acts only when its signature passes (07_solver R165, 07_solver R171, 07_solver R172, 07_solver R173, 07_solver R174, 07_solver R177, 07_solver R183, 07_solver R184). -/
def Obligations.IntegrityAndEnvelopes : Prop :=
  (∀ (s : State) (m : FilterMem) (fuel n : Nat) (ex : List SatId),
    let rows := rowsWithout ex m.rows
    let all := if ex = [] then m.post else Config.estimate m.pre rows
    let fr := localFrame (positionOf (fvec all 0))
    let subs := (subsetSats s (codeSats rows)).map (subsetOf m rows all fr)
    let s0 := sigmasOf all fr
    let e := evaluate s m (fuel + 1) n ex
    let h := fun (x : Subset) => tenth s solFdeKFa * x.sdH + tenth s solFdeKMd * x.skH
    let v := fun (x : Subset) => tenth s solFdeKFa * x.sdV + tenth s solFdeKMd * x.skV
    (∀ w ∈ codeSats rows, (∃ x ∈ subs, x.without = [w]) ∧
      (cfgB s solFdeSubsetConst = true → ∃ x ∈ subs, x.without = (codeSats rows).filter fun y => y.const == w.const)) ∧
    ((∀ x ∈ subs, subsetFails s x = false) → e.fail = false ∧ e.excl = ex ∧ e.count = n ∧
      (e.valid = true ↔ formedBy rows = true ∧ ∀ x ∈ subs, x.formed = true) ∧
      tenth s solFdeKMd * s0.1 ≤ e.pl.1 ∧ (∀ x ∈ subs, h x ≤ e.pl.1) ∧ (e.pl.1 = tenth s solFdeKMd * s0.1 ∨ ∃ x ∈ subs, e.pl.1 = h x) ∧
      tenth s solFdeKMd * s0.2 ≤ e.pl.2 ∧ (∀ x ∈ subs, v x ≤ e.pl.2) ∧ (e.pl.2 = tenth s solFdeKMd * s0.2 ∨ ∃ x ∈ subs, e.pl.2 = v x)) ∧
    ((∃ x ∈ subs, subsetFails s x = true) → n = cfg s solFdeExclMax → e.fail = true ∧ e.excl = ex ∧ e.count = n) ∧
    ((∃ x ∈ subs, subsetFails s x = true) → n ≠ cfg s solFdeExclMax → ∃ w ∈ subs, subsetFails s w = true ∧
      (∀ x ∈ subs, subsetFails s x = true → subsetTest x ≤ subsetTest w) ∧ e = evaluate s m fuel (n + 1) (ex ++ w.without))) ∧
  (∀ (s : State) (te : Rat), s.ctrWf → filterDue s .integrity = some te → completes (.integrityEval () ()) s (fun t =>
    let pm := if s.sol.precOn = true then s.sol.precF else none
    let a := evaluationOf s s.sol.stdF
    let b := evaluationOf s pm
    let fail := a.fail || b.fail
    let out := (a.excl ++ b.excl).dedup
    upToReports { s with sol := t.sol, sky := t.sky, mode := t.mode } t ∧
    t.sol = { s.sol with
      levels := #v[levelsOf s.sol.stdF a, levelsOf pm b]
      fail := fail
      timeValid := s.sol.timeValid && !fail
      excl := (s.sol.excl.filter fun x => !out.contains x.1) ++ out.map fun v => (v, stNow s)
      amb := s.sol.amb.map fun x => if out.contains x.sat then { x with fresh := true, fixed := none, run := 0, held := false } else x
      done := s.sol.done.set 3 (some te)
      shown := t.sol.shown } ∧
    (fail = true → timeTrusted t = false ∧ gnssUsable t = false ∧ pvtValid t = false) ∧ (fail = false → t.sky = s.sky ∧ t.mode = s.mode) ∧
    raised cSolFdeExclusions (a.count + b.count) s t ∧ raised cSolIntegFails (b2n a.fail + b2n b.fail) s t ∧
    (s.sol.shown.2.2.2.2 ≠ fail → pubType s = s.sol.shown.1 → pvtValid t = s.sol.shown.2.1 → attValid s = s.sol.shown.2.2.2.1 →
      recorded 1 0x0705 (solInteg t) s t))) ∧
  (∀ (s : State) (q : Rat) (r : SolRec), s.sol.holdSince = some q → s.sol.prec = some r → cfgB s solCfgTimeHold = true → s.sol.hold = none →
    s.sol.precOn = true → r.type = 4 → 60 ≤ stNow s - q →
    completes .positionHold s (fun t => t = { s with sol := { s.sol with hold := some r.sol.pos } })) ∧
  (∀ (s : State) (v : SatId), completes (.exclHoldExpiry v) s (fun t => t = { s with sol := { s.sol with excl := t.sol.excl } } ∧
    ∀ x, x ∈ t.sol.excl ↔ x ∈ s.sol.excl ∧ ¬ (x.1 = v ∧ (cfg s solFdeExclHold : Rat) ≤ stNow s - x.2))) ∧
  (∀ (s : State) (i : Nat) (c : CorrItem) (n : Nat), s.sol.corr[i]? = some c → corrLimit s c.kind = some n → (n : Rat) < stNow s - c.ref →
    completes (.correctionExpiry i) s (fun t => t = { s with sol := { s.sol with corr := s.sol.corr.eraseIdx i } })) ∧
  (∀ (s : State) (e : Envelope) (rest : List Envelope), s.sol.env = e :: rest → s.sol.verify = none → domOn s .cry = true → domOn s .sol = true →
    let refused := fun (i : Nat) => completes .envelopeVerifyStart s (fun t =>
      counted i s t ∧ t = { s with sol := { s.sol with env := rest }, obs := t.obs, ctr := t.ctr })
    let stale := stOfWord e.issue < stNow s - cfg s solCfgAgeClk ∨ stNow s + 5 < stOfWord e.issue ∨ ∃ x, s.sol.issues.find? (fun y => y.1 == e.key) = some x ∧ e.issue ≤ x.2
    (keyEntry s e.key e.format = none → refused cSolEnvUnknownKey) ∧
    ∀ k, keyEntry s e.key e.format = some k →
      (gpsWeek s < cfgAt s solKeyFromWeek k ∨ cfgAt s solKeyUntilWeek k < gpsWeek s → refused cSolEnvKeyExpired) ∧
      (cfgAt s solKeyFromWeek k ≤ gpsWeek s → gpsWeek s ≤ cfgAt s solKeyUntilWeek k →
        (stale → refused cSolEnvStale) ∧
        (¬ stale → completes .envelopeVerifyStart s (fun t =>
          t = { s with sol := { s.sol with env := rest, verify := some (e, cryptoEnd (commonSlots s) (nextCryptoSlot s) (envSlots e)) } })))) ∧
  ∀ (s : State) (e : Envelope) (end_ : Rat), s.sol.verify = some (e, end_) →
    let k := (keyEntry s e.key e.format).getD 0
    let ok := ecdsaVerify (sha256 e.signed) (leBytes 32 (cfgAt s solKeyKeyX k) ++ leBytes 32 (cfgAt s solKeyKeyY k)) e.sig
    let body := e.signed.drop 12
    let items := (if e.format = 0 then parseRtcm (cfgB s solCfgDatumReg) body.length body else parseCompact body.length body).items.flatten
    (stNow s < end_ → completes .envelopeVerdict s (fun t => t = s)) ∧
    (end_ ≤ stNow s → ok = false → completes .envelopeVerdict s (fun t =>
      counted cSolEnvSigFail s t ∧ t = { s with sol := { s.sol with verify := none }, obs := t.obs, ctr := t.ctr })) ∧
    (end_ ≤ stNow s → ok = true → completes .envelopeVerdict s (fun t =>
      counted cSolEnvAccept s t ∧ t.sol.verify = none ∧ (e.key, e.issue) ∈ t.sol.issues ∧ (∀ x ∈ t.sol.issues, x.1 = e.key → x.2 = e.issue) ∧
      (s.sol.key = some e.key → t.sol.key = some e.key ∧ ctrGet t cSolKeySwitch = ctrGet s cSolKeySwitch) ∧
      (s.sol.key ≠ some e.key → orbClkCount s items < 4 → t.sol.key = s.sol.key ∧ t.sol.corr = s.sol.corr ∧ t.sol.amb = s.sol.amb) ∧
      (s.sol.key ≠ some e.key → 4 ≤ orbClkCount s items → t.sol.key = some e.key ∧
        (s.sol.key ≠ none → counted cSolKeySwitch s t ∧ (∀ x ∈ t.sol.amb, x.fresh = true ∧ x.fixed = none ∧ x.held = false) ∧
          ∀ c ∈ t.sol.corr, ∃ x ∈ items, ∃ w, c = { x with waits := w }))))

/-- NMEA sentences, the satellite record, the status structures and the reference history are put out (07_solver R186, 07_solver R188, 07_solver R192, 04_acquisition R96, 05_tracking R131, 08_snapshot_farm R197). -/
def Obligations.OutputsAreRecorded : Prop :=
  ∀ s : State,
    (inService s = true → cfgB s solCfgNmeaEn = true → stSec s % cfg s solCfgNmeaDiv = 0 → s.sol.nmeaS ≠ some (stSec s) → completes .nmeaOutput s (fun t =>
      let q : Rat := (stSec s : Rat)
      let sats := fun (k : Constellation) => (solSats s).filter fun v => v.const == k
      let talkers := [Constellation.gps, .glonass, .galileo, .beidou, .qzss, .navic]
      upToReports { s with sol := { s.sol with nmeaS := some (stSec s) } } t ∧ recordedAll
        ([(2, 0x0707, ggaLine s q), (2, 0x0708, rmcLine s q)] ++
          (talkers.flatMap fun k => (gsaLines s k ((sats k).filter fun v => reasonOf s (pubPrecise s) v == 0)).map fun l => (2, 0x0709, l)) ++
          (talkers.flatMap fun k => (gsvLines s k (sats k)).map fun l => (2, 0x070A, l)) ++
          (match zdaLine s q with | some l => [(2, 0x070B, l)] | none => []) ++ [(2, 0x070C, gstLine s q)]) s t ∧
        (zdaLine s q = none ↔ s.msr.leap = none))) ∧
    (inService s = true → solSats s ≠ [] → s.sol.satS ≠ some (stSec s) → completes .solSatRecord s (fun t =>
      upToReports { s with sol := { s.sol with satS := some (stSec s) } } t ∧ recorded 2 0x0706 ((solSats s).flatMap (solSat s)) s t)) ∧
    (inService s = true → completes .statusPublish s (fun t => t = { s with basin := t.basin } ∧
      (s.memWf → shown 0xE0A4 (leBytes 4 (acqStatus s)) t ∧ shown 0xE0A8 (leBytes 8 (trkStatus s)) t ∧ shown 0xE080 (leBytes 4 (solStatus s)) t ∧
        ∃ w, shown 0xE0B4 (leBytes 4 w) t ∧ w.testBit 8 = setTransmits s ∧ w.testBit 9 = s.lnk.dpdTrained ∧
          (s.lnk.pipe < 65536 → w / 65536 = s.lnk.pipe)))) ∧
    ∀ r : EpochRec, s.msr.lastRec = some r → r.t.den = 1 → histAt s r.t.floor.toNat = none → domOn s .snf = true → completes .historyEntry s (fun t =>
      t = { s with snf := { s.snf with history := t.snf.history } } ∧
      ∃ h, t.snf.history = h :: (s.snf.history.filter fun x => decide (r.t.floor.toNat < x.sec + 64)) ∧
        h.sec = r.t.floor.toNat ∧ h.aligned = r.aligned ∧ h.usable = r.usable ∧ h.rate = r.rate ∧ h.tick = s.sky.tick ∧
        h.ref = (if pvtValid s then (pubRec s).map fun x => x.sol.pos else none) ∧
        ∀ x ∈ h.sats, ∃ e ∈ r.entries, e.role ≠ .array ∧ (e.target.sig = 0 ∨ e.target.sig = 15 ∨ e.target.sig = 4) ∧ e.level = 3 ∧ e.prValid = true ∧
          e.dopValid = true ∧ x.sat = e.target.sat ∧ x.pr = e.pr ∧ x.doppler = e.doppler ∧ x.cn0 = e.cn0 ∧ x.reason = reasonOf s (pubPrecise s) e.target.sat)

/-- A snapshot enters its share or spills, an owned slot runs the first eligible job or idles with its cause, and a result enters the mailbox (08_snapshot_farm R207, 08_snapshot_farm R208, 08_snapshot_farm R209, 08_snapshot_farm R211, 08_snapshot_farm R212, 08_snapshot_farm R213). -/
def Obligations.FarmServesItsShares : Prop :=
  (∀ (s : State) (ch : LinkChan) (a : PendingAck) (payload : List Byte), s.lnk.snapDue[ch] = some a → a.snap = some payload →
    let p := a.polder
    let q := snapshotOf s ch a payload
    let sh := s.snf.share[p]
    let st := (ctxGet s a.ctx).state
    let job := fun (o : Polder) => match s.snf.job with | some x => decide (x.1 = o) | none => false
    completes (.snapshotDelivery ch) s (fun t =>
      t.lnk = { s.lnk with snapDue := s.lnk.snapDue.set ch none } ∧ (∀ o, o ≠ p → t.snf.share[o] = s.snf.share[o]) ∧ t.snf.job = s.snf.job ∧
      (isDry s p = true ∨ st = .empty ∨ st = .retired → t.snf = s.snf ∧ counted (pSnfSnapOrphan p) s t) ∧
      (isDry s p = false → st ≠ .empty → st ≠ .retired →
        (sh.store.length + (if job p then 1 else 0) < cfgAt s snfShareStore p.val → t.snf.share[p] = { sh with store := sh.store ++ [q] } ∧ counted (pSnfSnapsIn p) s t) ∧
        (cfgAt s snfShareStore p.val ≤ sh.store.length + (if job p then 1 else 0) → counted (pSnfSnapSpill p) s t ∧
          ((∀ x ∈ sh.store, x.cls < q.cls) → t.snf.share[p] = { sh with lostNext := true }) ∧
          (∀ c ∈ sh.store, q.cls ≤ c.cls → (∀ x ∈ sh.store, x.cls ≤ c.cls) → counted (pSnfSnapsIn p) s t ∧
            t.snf.share[p] = { sh with lostNext := true, store := dropClass (fun x => x.cls) c.cls sh.store ++ [q] }))))) ∧
  (∀ (s : State) (p : Polder),
    let now := farmSlotNow s
    let sh := s.snf.share[p]
    let next := (sortBy snapBefore (sh.store.filter (farmEligible s))).head?
    let idle := fun (low : Bool) (i : Nat) => completes (.farmSlotStart () ()) s (fun t => counted i s t ∧
      t = { s with
        snf := { s.snf with slot := some now, share := s.snf.share.set p { sh with creditLow := low } }
        ctr := t.ctr })
    s.snf.job = none → s.snf.slot ≠ some now → s.sky.run = true → s.mode.life = .run → cfgAt s snfShareOwner now.2 = p.val →
    (isDry s p = true ∨ coreRuns s p = false ∨ winBit s p 0xC604 1 = true ∨ farmMode s now.1 = false → idle false (pSnfSlotIdleHold p)) ∧
    (isDry s p = false → coreRuns s p = true → winBit s p 0xC604 1 = false → farmMode s now.1 = true →
      (next = none → idle false (pSnfSlotIdleEmpty p)) ∧
      ∀ q, next = some q →
        (farmReject s q = none → creditOk s p 4300 = false → idle true (pSnfSlotIdleCredit p)) ∧
        (farmReject s q ≠ none ∨ creditOk s p 4300 = true → completes (.farmSlotStart () ()) s (fun t => ∃ r,
          t.snf = { s.snf with slot := some now, job := some (p, r, false), share := s.snf.share.set p { sh with creditLow := false, store := sh.store.erase q } } ∧
          t.pmu = (if farmReject s q = none then (charge p 4300 s).pmu else s.pmu) ∧ r.ctx = q.ctx ∧ r.cls = q.cls ∧ r.lost = false ∧
          r = farmResultOf s p q ∧ (∀ n, farmReject s q = some n → q.ctx < 1024 → getBits r.header 10 3 = n ∧ r.entries = []) ∧
          counted (pSnfJobs p) s t ∧ counted (farmCounter p r.header) s t)))) ∧
  (∀ (s : State) (p : Polder) (r : FarmResult) (d : Bool), s.snf.job = some (p, r, d) → farmSlotOver s = false → completes .farmResult s (fun t => t = s)) ∧
  (∀ (s : State) (p : Polder) (r : FarmResult), s.snf.job = some (p, r, true) → farmSlotOver s = true →
    completes .farmResult s (fun t => t = { s with snf := { s.snf with job := none } })) ∧
  (∀ (s : State) (p : Polder) (r : FarmResult), s.snf.job = some (p, r, false) → farmSlotOver s = true →
    let sh := s.snf.share[p]
    let marked := fun (lost : Bool) => { r with lost := lost, header := r.header + putBits 18 1 (b2n lost) }
    let entered := fun (l : List FarmResult) (lost : Bool) (t : State) =>
      t.snf = { s.snf with job := none, share := s.snf.share.set p { sh with results := l ++ [marked lost], lostNext := false } } ∧
        t.pld = (if winBit s p 0xC604 2 then (raisePend p 10 s).pld else s.pld)
    completes .farmResult s (fun t =>
      (sh.results.length < cfgAt s snfShareResDepth p.val → entered sh.results sh.lostNext t ∧ t.ctr = s.ctr) ∧
      (cfgAt s snfShareResDepth p.val ≤ sh.results.length → counted (pSnfResultSpill p) s t ∧
        ((∀ x ∈ sh.results, x.cls < r.cls) → t.snf = { s.snf with job := none, share := s.snf.share.set p { sh with lostNext := true } } ∧ t.pld = s.pld) ∧
        (∀ c ∈ sh.results, r.cls ≤ c.cls → (∀ x ∈ sh.results, x.cls ≤ c.cls) → entered (dropClass (fun x => x.cls) c.cls sh.results) true t)))) ∧
  ∀ (s : State) (p : Polder), mayAccess s p → domOn s .snf = true →
    completes (.snfPop p) s (fun t => t.snf = { s.snf with share := s.snf.share.set p { s.snf.share[p] with results := s.snf.share[p].results.drop 1 } } ∧
      t = { s with snf := t.snf, pld := t.pld }) ∧
    (s.pld[p].memWf = true → ∀ v : Bool,
      completes (.snfHold p v) s (fun t => winBit t p 0xC604 1 = v ∧ winBit t p 0xC604 2 = winBit s p 0xC604 2 ∧
        (winBit s p 0xC604 0 = false → t = { s with pld := t.pld })) ∧
      completes (.snfWakeEn p v) s (fun t => winBit t p 0xC604 2 = v ∧ winBit t p 0xC604 1 = winBit s p 0xC604 1 ∧
        (winBit s p 0xC604 0 = false → t = { s with pld := t.pld })))

/-- An uplink is checked at its header and at its MIC, delivered or awaits its acknowledgement, and a reception in another polder's slot is cut (10_tag_link R253, 10_tag_link R255, 10_tag_link R256, 10_tag_link R257, 10_tag_link R258, 10_tag_link R261, 10_tag_link R265, 10_tag_link R269, 11_radio_control R290). -/
def Obligations.UplinksReceivedAndAcknowledged : Prop :=
  (∀ (s : State) (ch : LinkChan) (f : SyncFrame),
    let w := f.header.toNat % 2 ^ 64
    let ctx := getBits w 8 10
    let first := stNow s - preTime s ch.val
    let slot := (slotAt first).2
    let alarm := (cfg s lnkCfgAlarmCh).testBit ch.val
    let quiet := { s with rfc := { s.rfc with alarmRx := s.rfc.alarmRx.set ch false } }
    let ended := fun (i : Nat) => completes (.frameSyncDetect ch f) s (fun t => counted i s t ∧ t = { quiet with obs := t.obs, ctr := t.ctr })
    let lost := metTransmission s first
    let taken := fun (p : Polder) => completes (.frameSyncDetect ch f) s (fun t => t = { s with lnk := { s.lnk with
      rx := s.lnk.rx.set ch (some ⟨w, p, first, first + frameTime s ch.val (getBits w 18 13), f.afc, f.rssi, f.syncErrs⟩) } })
    linkRx s (stSec s) = true → cfgBAt s lnkChanEn ch.val = true → s.lnk.air = none → s.lnk.rx[ch] = none → s.rfc.seq = .rx →
    f.syncErrs ≤ cfgAt s lnkChanSyncErr ch.val → 20 * f.afc.natAbs * 1000000 ≤ 60 * cfgAt s lnkChanFreq ch.val →
    (lost = true → completes (.frameSyncDetect ch f) s (fun t => t = { quiet with obs := t.obs, ctr := t.ctr } ∧
      ∀ p : Polder, slotOwner s slot = p.val → counted (pLnkRxBlanked p) s t)) ∧
    (lost = false → crc16 (leBytes 8 w) ≠ getBits f.header.toNat 64 16 → ended cLnkHdrFail) ∧
    (lost = false → crc16 (leBytes 8 w) = getBits f.header.toNat 64 16 →
      (badHeader s ch.val w = true → ended cLnkBadType) ∧
      (badHeader s ch.val w = false →
        (ctxOwner s ctx = none → ended cLnkForeign) ∧
        ∀ p, ctxOwner s ctx = some p →
          (alarm = true → getBits w 0 4 = 3 ∧ getBits w 4 2 = 0 ∧ alarmSlot slot = true → taken p) ∧
          (alarm = true → ¬ (getBits w 0 4 = 3 ∧ getBits w 4 2 = 0 ∧ alarmSlot slot = true) → completes (.frameSyncDetect ch f) s (fun t => t = quiet)) ∧
          (alarm = false → slotOwner s slot ≠ p.val → ended cLnkForeign) ∧
          (alarm = false → slotOwner s slot = p.val → taken p)))) ∧
  (∀ (s : State) (ch : LinkChan) (body : List Byte) (mic : BitVec 64) (r : Reception), s.lnk.rx[ch] = some r → reached s r.last = true →
    let p := r.polder
    let type := getBits r.header 0 4
    let ctx := getBits r.header 8 10
    let fc := getBits r.header 32 32
    let c := ctxGet s ctx
    let text := ccmText c.key (linkNonce s 0 ctx fc) body
    let good := c.state ≠ .empty ∧ c.key ≠ [] ∧ body.length = getBits r.header 18 13 ∧ linkMic s 8 0 ctx fc c.key (leBytes 8 r.header) text = leBytes 8 mic.toNat
    let done := { s with lnk := { s.lnk with rx := s.lnk.rx.set ch none }, rfc := { s.rfc with alarmRx := s.rfc.alarmRx.set ch false } }
    let asks := getBits r.header 6 1 = 1 ∧ (type = 1 ∨ type = 2)
    let replay := ∃ l, c.lastFc = some l ∧ fc < l
    let record : RxRecord := ⟨if type = 2 then 1 else 0, ctx, ch.val, type, getBits r.header 4 2, false, false, fc, stWord r.first, r.afc, r.rssi, r.syncErrs, 0, 0, 0,
      if type = 2 then text.take 20 else text⟩
    (¬ good → completes (.frameReceive ch body mic) s (fun t => counted (pLnkAuthFail p) s t ∧ t = { done with obs := t.obs, ctr := t.ctr })) ∧
    (good → completes (.frameReceive ch body mic) s (fun t =>
      let x := ctxGet t ctx
      x.lastRxSt = stWord r.first ∧ x.rssi = r.rssi ∧ x.rxCount = satInc c.rxCount 1 ∧ x.key = c.key ∧ x.downFc = c.downFc ∧
      t.lnk.lone = false ∧ t.lnk.quietBeacons = 0 ∧ t.lnk.rx = s.lnk.rx.set ch none ∧ t.lnk.air = s.lnk.air ∧ (∀ j, j ≠ ctx → ctxGet t j = ctxGet s j) ∧
      (c.state = .retired → counted (pLnkRetiredRx p) s t ∧ x.state = .retired ∧ t.lnk.ackDue = s.lnk.ackDue ∧ t.lnk.snapDue = s.lnk.snapDue ∧
        t.lnk.alarmAcks = s.lnk.alarmAcks ∧
        ((∃ l, c.liveAt = some l ∧ stNow s < l + cfg s lnkCfgLiveS) → t.lnk.rxq = s.lnk.rxq) ∧
        (c.liveAt = none → arrived p { record with kind := 3, payload := [] } s t)) ∧
      (replay → counted (pLnkReplay p) s t ∧ x.lastFc = c.lastFc) ∧ (¬ replay → x.lastFc = some fc) ∧ (c.lastFc = some fc → counted (pLnkDupRx p) s t) ∧
      (c.state ≠ .retired → x.state = .active ∧
        (replay → t.lnk.rxq = s.lnk.rxq ∧ t.lnk.ackDue = s.lnk.ackDue ∧ t.lnk.snapDue = s.lnk.snapDue ∧ t.lnk.alarmAcks = s.lnk.alarmAcks) ∧
        (c.lastFc = some fc → t.lnk.rxq = s.lnk.rxq ∧ t.lnk.snapDue = s.lnk.snapDue ∧ t.lnk.alarmAcks = s.lnk.alarmAcks ∧
          t.lnk.ackDue = if asks then s.lnk.ackDue.set ch (some ⟨p, ctx, fc, r.last, none, none, r⟩) else s.lnk.ackDue) ∧
        (¬ replay → c.lastFc ≠ some fc →
          let a : PendingAck := ⟨p, ctx, fc, r.last, some record, if type = 2 then some text else none, r⟩
          (asks → t.lnk.ackDue = s.lnk.ackDue.set ch (some a) ∧ t.lnk.rxq = s.lnk.rxq) ∧
          (¬ asks → t.lnk.ackDue = s.lnk.ackDue ∧ arrived p record s t) ∧
          t.lnk.snapDue = (if type = 2 then s.lnk.snapDue.set ch (some a) else s.lnk.snapDue) ∧
          (type = 3 → t.lnk.alarmAcks = (if 32 ≤ s.lnk.alarmAcks.length then s.lnk.alarmAcks.drop 1 else s.lnk.alarmAcks) ++ [(ctx, fc)] ∧
            (32 ≤ s.lnk.alarmAcks.length → counted cLnkAlarmAckSpill s t)) ∧
          (type ≠ 3 → t.lnk.alarmAcks = s.lnk.alarmAcks)))))) ∧
  (∀ (s : State) (ch : LinkChan) (r : Reception), s.lnk.rx[ch] = some r → (cfg s lnkCfgAlarmCh).testBit ch.val = false →
    slotOwner s (slotAt (stNow s)).2 ≠ 15 → slotOwner s (slotAt (stNow s)).2 ≠ r.polder.val → completes (.rxCut ch) s (fun t =>
      counted cLnkRxCut s t ∧ t = { s with lnk := { s.lnk with rx := s.lnk.rx.set ch none }, obs := t.obs, ctr := t.ctr })) ∧
  (∀ (s : State) (ch : LinkChan) (a : PendingAck), s.lnk.ackDue[ch] = some a → reached s (a.last + 150 / 1000000) = true →
    let endT := a.last + 150 / 1000000 + ackTime s ch.val + tTail
    let may := (∀ c : LinkChan, c ≠ ch → s.lnk.rx[c] = none) ∧
      (∀ y ∈ launchCandidates s, y.1 = a.polder → let d := y.2.2.1; let x := launchSpan s d.chan d.payload.length d.ackReq y.2.2.2; endT ≤ x.1 ∨ x.2 ≤ a.last) ∧
      (∀ x ∈ s.lnk.ctx, ctxOf s a.polder x.1 = true → ∀ d ∈ x.2.queue, d.wait = .ack → ackEnd s d ≤ a.last) ∧
      inRun s a.polder a.last endT = true ∧ linkTx s (stSec s) = true ∧ inhibited s = false ∧ s.lnk.air = none
    (∀ e, s.lnk.prep = some e → e.kind = .ack a.polder ch → e.admitted ≠ none → may → completes (.gatewayAck ch) s (fun t =>
      t.lnk.air = some e ∧ t.lnk.prep = none ∧ t.lnk.ackDue = s.lnk.ackDue ∧ t.lnk.rx = Vector.replicate 8 none ∧
        t.rfc.seq = (if cfgB s lnkCfgExtPa then .txe else .txi))) ∧
    ((s.lnk.prep = none ∨ (∃ e, s.lnk.prep = some e ∧ (e.kind ≠ .ack a.polder ch ∨ e.admitted = none)) ∨ ¬ may) → completes (.gatewayAck ch) s (fun t =>
      t.lnk.ackDue = s.lnk.ackDue.set ch none ∧ t.lnk.air = s.lnk.air ∧ counted (pLnkAckSkip a.polder) s t ∧
        ∀ r, a.record = some r → arrived a.polder { r with ack := false } s t))) ∧
  ∀ (s : State) (ch : LinkChan), (cfg s lnkCfgAlarmCh).testBit ch.val = true → cfgBAt s lnkChanEn ch.val = true → alarmSlot (slotAt (stNow s)).2 = true →
    linkRx s (stSec s) = true → s.lnk.air = none →
    completes (.preambleDetection ch) s (fun t => t = { s with rfc := { s.rfc with alarmRx := s.rfc.alarmRx.set ch true } })

/-- A downlink launches when admitted and paid for, else it is held; its end, acknowledgement, retries and the beacon follow (10_tag_link R259, 10_tag_link R263, 10_tag_link R266, 10_tag_link R267, 10_tag_link R270, 10_tag_link R271, 10_tag_link R273, 11_radio_control R282, 11_radio_control R293, 15_power R390). -/
def Obligations.DownlinksLaunchAndClose : Prop :=
  let may := fun (s : State) (p : Polder) (ctx h : Nat) (e : Emission) (q : Int) =>
    s.lnk.prep = some e ∧ e.kind = .launch p ctx h ∧ e.admitted = some q ∧ linkTx s (stSec s) = true ∧ inhibited s = false ∧ s.lnk.air = none
  let held := fun (p : Polder) (ctx : Nat) (d : Downlink) (s t : State) =>
    t.lnk.air = s.lnk.air ∧ (ctxGet t ctx).downFc = (ctxGet s ctx).downFc ∧ t.pmu = s.pmu ∧ counted (pLnkTxHeld p) s t ∧
      (ctxGet t ctx).queue = (ctxGet s ctx).queue.map fun x => if x.handle = d.handle then { x with wait := if x.wait = .retry then .retry else .held } else x
  let launched := fun (p : Polder) (ctx : Nat) (d : Downlink) (e : Emission) (q : Int) (s t : State) =>
    let c := ctxGet s ctx
    t.lnk.air = some { e with frame := downFrame s ctx c d } ∧ t.lnk.prep = none ∧ t.pmu = (charge p (txCharge s q e.dur) s).pmu ∧
      t.rfc.seq = (if cfgB s lnkCfgExtPa then .txe else .txi) ∧ t.lnk.rx = Vector.replicate 8 none ∧
      (∀ j, j ≠ ctx → ctxGet t j = ctxGet s j) ∧ (ctxGet t ctx).downFc = (c.downFc + 1) % 2 ^ 32 ∧ (ctxGet t ctx).state = c.state ∧
      (ctxGet t ctx).queue = (c.queue.map fun x => if x.handle = d.handle then
        { x with wait := .onAir, fc := c.downFc, attempts := x.attempts + 1, retries := x.retries + 1, lastSt := stWord (stNow s) } else x) ∧
      (0 < d.retries → counted (pLnkTxRetries p) s t)
  let outcome := fun (p : Polder) (ctx : Nat) (d : Downlink) (n : Nat) (s t : State) =>
    (ctxGet t ctx).queue = ((ctxGet s ctx).queue.filter fun x => x.handle != d.handle) ∧
      (∀ e ∈ t.sky.entries, ¬ (e.owner = p.val ∧ e.kind = 0 ∧ e.arg = d.handle)) ∧ arrived p (outcomeRecord ctx d n) s t
  (∀ (s : State) (p : Polder) (h : Nat) (x : SchedEntry) (d : Downlink),
    (s.sky.entries.find? fun e => e.owner == p.val && e.kind == 0 && e.arg == h) = some x → reached s (stOfWord x.st) = true → ((ctxGet s x.op).queue.find? fun d => d.handle == h) = some d →
    (∀ e q, may s p x.op h e q → creditOk s p (txCharge s q e.dur) = true → completes (.launch p h) s (launched p x.op d e q s)) ∧
    (∀ e q, may s p x.op h e q → creditOk s p (txCharge s q e.dur) = false →
      completes (.launch p h) s (fun t => held p x.op d s t ∧ counted (pLnkCreditHeld p) s t ∧ t.lnk.prep = none)) ∧
    ((¬ ∃ e q, may s p x.op h e q) → completes (.launch p h) s (held p x.op d s)) ∧
    completes (.launch p h) s (fun t => (∀ e ∈ t.sky.entries, ¬ (e.owner = p.val ∧ e.kind = 0 ∧ e.arg = h)) ∧
      t.sky.win[p].done.getLast? = some (completionOf s x false))) ∧
  (∀ (s : State) (p : Polder) (ctx : Nat) (d : Downlink) (e : Emission) (q : Int),
    ctxOwner s ctx = some p → waitingDown s ctx = some d → may s p ctx d.handle e q → e.decided = true → prepDue s e = true → ((ctxGet s ctx).queue.find? fun x => x.handle == d.handle) = some d →
    creditOk s p (txCharge s q e.dur) = true →
      (d.wait = .retry → completes (.retry ctx) s (launched p ctx d e q s)) ∧ (d.wait = .held → completes (.relaunch p ctx) s (launched p ctx d e q s))) ∧
  (∀ (s : State) (e : Emission), s.lnk.air = some e → reached s (e.t0 + e.dur) = true →
    let path := fun (t : State) => t.lnk.air = none ∧ t.rfc = { (chargeDuty e e.dur s).rfc with seq := .rx, req := false } ∧
      t.clk = { s.clk with lsynTx := false, lsynRxAt := t.clk.lsynRxAt } ∧ stNow s + 8 / 1000000 ≤ t.clk.lsynRxAt ∧ t.clk.lsynRxAt ≤ stNow s + 30 / 1000000
    (∀ p ctx h d, e.kind = .launch p ctx h → ((ctxGet s ctx).queue.find? fun x => x.handle == h) = some d →
      (d.ackReq = true → completes .emissionEnd s (fun t => path t ∧ (ctxGet t ctx).queue =
        (ctxGet s ctx).queue.map fun x => if x.handle = h then { x with wait := .ack, lastChip := e.t0 + e.dur } else x)) ∧
      (s.memWf → d.ackReq = false → completes .emissionEnd s (fun t => path t ∧ outcome p ctx d 1 s t))) ∧
    (∀ p ch a, e.kind = .ack p ch → s.lnk.ackDue[ch] = some a → completes .emissionEnd s (fun t => path t ∧
      t.lnk.ackDue = s.lnk.ackDue.set ch none ∧ t.pmu = (charge p (txCharge s (e.admitted.getD 0) e.dur) s).pmu ∧
      ∀ r, a.record = some r → arrived a.polder { r with ack := true } s t)) ∧
    (e.kind = .beacon → completes .emissionEnd s path)) ∧
  (∀ (s : State) (p : Polder) (ctx : Nat) (d : Downlink), s.memWf → ctxOwner s ctx = some p → ((ctxGet s ctx).queue.find? fun d => d.wait == .ack) = some d →
    (∀ (body mic : BitVec 32) (us : Nat),
      let good := 146 ≤ us ∧ us ≤ 154 ∧ getBits body.toNat 0 10 = ctx ∧ getBits body.toNat 10 16 = d.fc % 65536 ∧
        linkMic s 4 4 ctx d.fc (ctxGet s ctx).key [] (leBytes 4 body.toNat) = leBytes 4 mic.toNat
      (good → completes (.tagAck ctx body mic us) s (outcome p ctx d 0 s)) ∧ (¬ good → completes (.tagAck ctx body mic us) s (fun t => t = s))) ∧
    (ackUntil s d ≤ stNow s → d.retries ≤ (ctxGet s ctx).retryMax → completes (.tagAckTimeout ctx) s (fun t => (ctxGet t ctx).state = (ctxGet s ctx).state ∧
      (ctxGet t ctx).queue = (ctxGet s ctx).queue.map fun x => if x.handle = d.handle then { x with wait := .retry } else x)) ∧
    (ackUntil s d ≤ stNow s → (ctxGet s ctx).retryMax < d.retries → completes (.tagAckTimeout ctx) s (fun t => counted (pLnkSilentEntries p) s t ∧ (ctxGet t ctx).state = .silent ∧
      (ctxGet t ctx).queue = (((ctxGet s ctx).queue.filter fun x => x.handle != d.handle).map fun x => { x with wait := .held }) ∧
      arrived p (outcomeRecord ctx d 2) s t))) ∧
  ∀ (s : State) (e : Emission), s.lnk.prep = some e → e.kind = .beacon → prepDue s e = true →
    let goes := e.admitted ≠ none ∧ beaconMode s = true ∧ inhibited s = false ∧ linkTx s (stSec s) = true ∧ stSec s % beaconPeriod s = 0 ∧ s.lnk.air = none
    let lone := s.lnk.lone || decide (60 ≤ s.lnk.quietBeacons)
    (goes → completes .beaconLaunch s (fun t => t.lnk.air = some { e with frame := beaconBody s (stSec s) } ∧ t.lnk.prep = none ∧ counted cLnkBeacons s t ∧
      t.lnk.alarmAcks = s.lnk.alarmAcks.drop 4 ∧ t.lnk.quietBeacons = s.lnk.quietBeacons + 1 ∧ t.lnk.lone = lone ∧
      t.lnk.dpdPending = (cfgB s lnkCfgExtPa && cfgB s lnkCfgDpdEn))) ∧
    (¬ goes → completes .beaconLaunch s (fun t => t.lnk = { s.lnk with prep := none, lone := lone } ∧ t.rfc = { s.rfc with req := false } ∧
      (lone = true → s.lnk.lone = false → counted cLnkLoneEntries s t)))

/-- The link window submits and cancels frames, loads the roster and pops the receive queue, with the result of the first check that fails (10_tag_link R266, 10_tag_link R268, 10_tag_link R279, 12_polders R315). -/
def Obligations.LinkWindowCommands : Prop :=
  ∀ (s : State) (p : Polder), mayAccess s p → domOn s .lnk = true →
    let w := winNat s p 0xC008 2
    let ctx := getBits w 0 10
    let ch := getBits w 10 3
    let ackReq := w.testBit 13
    let len := winNat s p 0xC00A 1
    let st := stOfWord (winNat s p 0xC000 8)
    let c := ctxGet s ctx
    let span := launchSpan s ch len ackReq st
    let txIs := fun (n : Nat) (t : State) => t.lnk = { s.lnk with txResult := s.lnk.txResult.set p n } ∧ t.sky.entries = s.sky.entries
    let place := cfgBAt s lnkChanEn ch = true ∧ launchFits s p ch len ackReq st = true ∧ served s st.floor.toNat = true ∧ overlapsLaunch s p span.1 span.2 = false
    let h := s.lnk.nextHandle[p]
    let frame : Downlink := ⟨h, ch, ackReq, getBits w 14 2, sext 8 (winNat s p 0xC00B 1), winBytes s p 0xC020 len, st,
      if c.state = .silent then .held else .armed, 0, 0, 0, 0, 0⟩
    let q := winNat s p 0xC010 2
    (ctxOf s p ctx = false → cfgP s p pldSegBreachAct ≠ 2 → completes (.txSubmit p) s (fun t => txIs 1 t ∧
      t.pld[p].breachCount = min 65535 (s.pld[p].breachCount + 1) ∧ t.pld[p].lastKind = 4 ∧ t.pld[p].lastAddr = 0xC00C)) ∧
    (ctxOf s p ctx = true → c.state ≠ .active ∧ c.state ≠ .silent → completes (.txSubmit p) s (txIs 1)) ∧
    (ctxOf s p ctx = true → c.state = .active ∨ c.state = .silent →
      (192 < len ∨ 224 < queueSize c + 16 + len → completes (.txSubmit p) s (txIs 2)) ∧
      (len ≤ 192 → queueSize c + 16 + len ≤ 224 →
        (st < stNow s + 1 / 1000 → completes (.txSubmit p) s (txIs 3)) ∧
        (stNow s + 1 / 1000 ≤ st →
          (¬ place → completes (.txSubmit p) s (txIs 4)) ∧
          (place → schedQuota s p ≤ (ownEntries s p).length → completes (.txSubmit p) s (fun t => txIs 5 t ∧ counted cSkyArmFull s t)) ∧
          (place → (ownEntries s p).length < schedQuota s p → completes (.txSubmit p) s (fun t =>
            t.lnk.txResult = s.lnk.txResult.set p 0 ∧ t.lnk.nextHandle = s.lnk.nextHandle.set p ((h + 1) % 65536) ∧ t.lnk.rxq = s.lnk.rxq ∧
            (h < 65536 → s.pld[p].memWf = true → winNat t p 0xC010 2 = h) ∧ ctxGet t ctx = { c with queue := c.queue ++ [frame] } ∧ (∀ j, j ≠ ctx → ctxGet t j = ctxGet s j) ∧
            (c.state = .silent → t.sky.entries = s.sky.entries) ∧
            (c.state = .active → ∃ e, t.sky.entries = s.sky.entries ++ [e] ∧ e.owner = p.val ∧ e.kind = 0 ∧ e.op = ctx ∧ e.arg = h ∧ e.st = winNat s p 0xC000 8)))))) ∧
    (findDown s p q = none → completes (.txCancel p) s (txIs 6)) ∧
    (∀ k d, findDown s p q = some (k, d) →
      (d.wait = .onAir ∨ d.wait = .ack ∨ (d.wait = .armed ∧ d.st ≤ stNow s) → completes (.txCancel p) s (txIs 6)) ∧
      (d.wait = .held ∨ d.wait = .retry ∨ (d.wait = .armed ∧ stNow s < d.st) → s.memWf → completes (.txCancel p) s (fun t =>
        t.lnk.txResult[p] = 0 ∧ (ctxGet t k).queue = ((ctxGet s k).queue.filter fun x => x.handle != d.handle) ∧ arrived p (outcomeRecord k d 4) s t ∧
          ∀ e ∈ t.sky.entries, ¬ (e.owner = p.val ∧ e.kind = 0 ∧ e.arg = d.handle)))) ∧
    (let k := getBits (winNat s p 0xC200 2) 0 10
     let x := ctxGet s k
     let code := getBits (winNat s p 0xC202 1) 0 2
     let retry := getBits (winNat s p 0xC202 1) 2 4
     let dest : CtxState := if code = 0 then .empty else if code = 3 then .retired else .active
     ctxOf s p k = true →
      (code = 2 → completes (.rosterLoadState p) s (fun t => t.lnk = { s.lnk with rosResult := s.lnk.rosResult.set p 2 }) ∧
        completes (.rosterLoadKey p) s (fun t => t.lnk = { s.lnk with rosResult := s.lnk.rosResult.set p 2 })) ∧
      (s.memWf → code ≠ 2 →
        completes (.rosterLoadState p) s (fun t => t.lnk.rosResult[p] = 0 ∧ (ctxGet t k).state = dest ∧ (ctxGet t k).retryMax = retry ∧
          (ctxGet t k).key = (if code = 0 then [] else x.key) ∧ (ctxGet t k).queue = (if code = 1 then x.queue else []) ∧
          (code = 0 → ∀ r ∈ t.lnk.rxq[p], r.ctx = k → r.kind = 2) ∧
          (code ≠ 1 → ∀ y ∈ t.snf.share[p].store, y.ctx ≠ k)) ∧
        completes (.rosterLoadKey p) s (fun t => t.lnk.rosResult[p] = 0 ∧ (ctxGet t k).state = dest ∧ (ctxGet t k).retryMax = retry ∧
          (ctxGet t k).key = (if code = 0 then [] else winBytes s p 0xC210 16) ∧ (ctxGet t k).tagId = winNat s p 0xC204 4))) ∧
    completes (.rxPop p) s (fun t => t.lnk = { s.lnk with rxq := s.lnk.rxq.set p (s.lnk.rxq[p].drop 1) }) ∧
    (∀ v : Bool, s.pld[p].memWf = true → completes (.rxWake p v) s (fun t => rxWakeEn t p = v ∧ (winBit s p 0xC101 0 = false → t.lnk = s.lnk)))

/-- The synthesizer retunes for the next emission, the guard admits it by every test or counts why not, and its power is clamped (10_tag_link R258, 10_tag_link R274, 10_tag_link R275, 11_radio_control R290, 11_radio_control R292, 11_radio_control R300, 16_clocks R409). -/
def Obligations.GuardAdmitsEmissions : Prop :=
  (∀ (s : State) (e : Emission) (lbt : Int),
    let o := emissionOwner e.kind
    guardTest s e lbt = none ↔ s.clk.lsynTx = true ∧ setTransmits s = true ∧ (∀ n ∈ setProfiles s, profileOk s n o e.chan.val e.t0 e.dur = true) ∧
      (∀ n ∈ setProfiles s, dutyOk s n o e.chan.val e.dur = true) ∧
      (∀ n ∈ setProfiles s, (e.kind.isAck && ackExempt s n) = false → ∀ th, lbtThreshold s n e.chan.val = some th → lbt ≤ th) ∧
      inhibited s = false ∧ (∀ k : LinkChan, s.rfc.alarmRx[k] = false) ∧ (cfgB s rfcCfgGntEn = true → s.rfc.gnt = true) ∧
      (cfgB s rfcCfgPriEn = true → s.rfc.pri = false)) ∧
  (∀ (s : State) (ch : Nat) (req : Int), clampPower s ch req ≤ req ∧ ∀ n ∈ setProfiles s, ∀ k, subOf s n ch = some k →
    clampPower s ch req ≤ sext 8 (subFld s n k 84 8) - (cfgAt s rfcTightenPCut (n - 1) : Nat) ∧
      clampPower s ch req ≤ sext 8 (subFld s n k 92 8) - (cfgAt s rfcTightenPCut (n - 1) : Nat) - antGain s) ∧
  (∀ (s : State) (lbt : Int) (gnt : Bool) (e : Emission), s.lnk.prep = some e → e.decided = false → decisionDue s e = true →
    let u := { s with rfc := { s.rfc with gnt := gnt } }
    let q := clampPower u e.chan.val e.req
    (guardTest u e lbt = none → completes (.emissionDecision lbt gnt) s (fun t =>
      t.lnk = { s.lnk with prep := some { e with decided := true, admitted := some q } } ∧
        (∀ p c h, e.kind = .launch p c h → t.rfc = { u.rfc with lastPwr := u.rfc.lastPwr.set e.chan (some q) } ∧ (q < e.req → counted (pRfcPowerClamps p) s t)) ∧
        (∀ p c, e.kind = .ack p c → t.rfc = u.rfc ∧ (q < e.req → counted (pRfcPowerClamps p) s t)) ∧ (e.kind = .beacon → t.rfc = u.rfc))) ∧
    (∀ r, guardTest u e lbt = some r → completes (.emissionDecision lbt gnt) s (fun t =>
      t.lnk = { s.lnk with prep := some { e with decided := true, admitted := none } } ∧ t.rfc = { u.rfc with req := false } ∧
        (r = .unlocked → counted cClkLsynUnlocked s t) ∧ (e.kind = .beacon → counted cRfcCommonDefer s t) ∧
        ∀ p, emissionOwner e.kind = p.val → e.kind ≠ .beacon →
          (r = .profile → counted (pRfcDeferProfile p) s t) ∧ (r = .duty → counted (pRfcDeferDuty p) s t) ∧ (r = .lbt → counted (pRfcDeferLbt p) s t) ∧
          (r = .quiet → counted (pRfcDeferQuiet p) s t) ∧ (r = .alarm → counted (pRfcDeferAlarm p) s t) ∧ (r = .gnt → counted (pRfcDeferGnt p) s t) ∧
          (r = .pri → counted (pRfcDeferPri p) s t)))) ∧
  (∀ s : State,
    (∀ ch a, firstAck s = some (ch, a) → s.lnk.ackDue[ch] = some a ∧ (∀ c b, s.lnk.ackDue[(c : Fin 8)] = some b → a.last ≤ b.last) ∧
      ∃ e, nextEmission s = some e ∧ e.kind = .ack a.polder ch ∧ e.chan = ch ∧ e.t0 = a.last + 150 / 1000000 ∧ e.dur = ackTime s ch.val) ∧
    (firstAck s = none → ∀ e, nextEmission s = some e → e.kind = .beacon ∨ ∃ p c h, e.kind = .launch p c h)) ∧
  (∀ (s : State) (locked : Bool) (e : Emission), linkRx s (stSec s) = true → s.lnk.air = none → nextEmission s = some e →
    completes (.lsynRetune locked) s (fun t => t = { s with lnk := { s.lnk with prep := some e }, clk := { s.clk with lsynTx := locked } })) ∧
  (∀ s : State,
    let may := ∃ e, s.lnk.prep.or (nextEmission s) = some e ∧ cfgB s rfcCfgReqEn = true ∧ inhibited s = false ∧
      reached s (e.t0 - (cfg s rfcCfgReqLead : Rat) / 1000000) = true ∧ setTransmits s = true ∧ (e.decided = false ∨ e.admitted ≠ none) ∧
      ∀ n ∈ setProfiles s, profileOk s n (emissionOwner e.kind) e.chan.val e.t0 e.dur = true ∧ dutyOk s n (emissionOwner e.kind) e.chan.val e.dur = true
    (may → completes .coexReq s (fun t => t = { s with rfc := { s.rfc with req := true } })) ∧ (¬ may → completes .coexReq s (fun t => t = s))) ∧
  (∀ s : State, s.lnk.dpdPending = true →
    completes .dpdUpdate s (fun t => t = { s with lnk := { s.lnk with dpdTrained := true, dpdPending := false } })) ∧
  ∀ (s : State) (levels : List Int), linkRx s (stSec s) = true → completes (.noiseFloor levels) s (fun t =>
    t = { s with lnk := { s.lnk with noise := t.lnk.noise }, basin := t.basin } ∧
    (∀ n : Fin 8, t.lnk.noise[n] = if cfgBAt s lnkChanEn n.val = true ∧ noiseSlots s = true then clampI (-512) 511 (levels.getD n.val (-512)) else -512) ∧
    (s.memWf → shown 0xE0B8 (t.lnk.noise.toList.flatMap fun x => leBytes 2 (twos 10 x)) t))

/-- PRI cuts and releases the path, the QUIET pin and quiet transit stop transmission until their exits, and the profile set changes and lapses (01_architecture R22, 11_radio_control R288, 11_radio_control R289, 11_radio_control R298, 11_radio_control R299, 11_radio_control R302, 11_radio_control R305). -/
def Obligations.QuietAndCoexistence : Prop :=
  ∀ s : State,
    let status := fun (t : State) => s.memWf → shown 0xE0C8 (leBytes 4 (rfcStatus t)) t
    let wanted := fun (t : State) => t.mode = { s.mode with decided := match wantedMode t with | some (m, r) => some (m, r, stNow s) | none => if keepsDecision s = true then s.mode.decided else none }
    (cfgB s rfcCfgPriEn = true → completes .coexPriRise s (fun t => status t ∧ counted cRfcPriCuts s t ∧ t.lnk.air = none ∧ t.lnk.rx = Vector.replicate 8 none ∧
      t.rfc.pri = true ∧ t.rfc.seq = .off ∧ t.rfc.req = false ∧ t.rfc.alarmRx = Vector.replicate 8 false ∧
      (∀ e, s.lnk.air = some e → t.rfc.duty = (chargeDuty e (clampQ 0 e.dur (stNow s - e.t0)) s).rfc.duty))) ∧
    (cfgB s rfcCfgPriEn = false → completes .coexPriRise s (fun t => status t ∧ t = { s with rfc := { s.rfc with pri := true }, basin := t.basin })) ∧
    (cfgB s rfcCfgPriEn = true → linkRx s (stSec s) = true → completes .coexPriFall s (fun t => status t ∧ t = { s with
      rfc := { s.rfc with pri := false, seq := .rx, req := false }
      clk := { s.clk with lsynTx := false, lsynRxAt := t.clk.lsynRxAt }
      fresh := t.fresh
      basin := t.basin } ∧ stNow s + 8 / 1000000 ≤ t.clk.lsynRxAt ∧ t.clk.lsynRxAt ≤ stNow s + 30 / 1000000)) ∧
    (cfgB s rfcCfgPriEn = false ∨ linkRx s (stSec s) = false →
      completes .coexPriFall s (fun t => status t ∧ t = { s with rfc := { s.rfc with pri := false }, basin := t.basin })) ∧
    (s.rfc.quiet = false → completes .quietPinRise s (fun t => status t ∧ wanted t ∧ t.rfc.quiet = true ∧ t.rfc.qCause = 3 ∧ t.rfc.pin = true ∧
      t.lnk.air = none ∧ counted cRfcQuietEntries s t ∧ recorded 0 0x0B02 (leBytes 4 (rfcStatus t)) s t ∧
      (∀ p ctx h e, s.lnk.air = some e → e.kind = .launch p ctx h → counted (pLnkTxHeld p) s t) ∧
      (s.lnk.air = none → t.rfc = { s.rfc with quiet := true, qCause := 3, pin := true }))) ∧
    (s.rfc.quiet = true → completes .quietPinRise s (fun t => status t ∧ t = { s with rfc := { s.rfc with pin := true }, basin := t.basin })) ∧
    completes .quietPinFall s (fun t => status t ∧ t = { s with rfc := { s.rfc with pin := false }, basin := t.basin }) ∧
    (∀ a m, s.rfc.quiet = true → s.rfc.pin = false → s.rfc.exitRun = some a → s.rfc.motion.head? = some m → 120 ≤ m.st - a →
      completes .quietTransitExit s (fun t => status t ∧ wanted t ∧ t = { s with
        rfc := { s.rfc with quiet := false, qCause := 0, ground := some m.hgt }
        mode := t.mode
        basin := t.basin })) ∧
    (∀ n, s.rfc.setNext = some n → completes .profileSetChange s (fun t => status t ∧
      upToReports { s with rfc := { s.rfc with set := n, setNext := none } } t ∧ t.hst = s.hst ∧ (n ≠ s.rfc.set → counted cRfcProfileChanges s t))) ∧
    ∀ q, s.rfc.lastQual = some q → 600 ≤ stNow s - q → s.rfc.basis ≠ 3 → completes .profileHoldExpiry s (fun t => status t ∧
      upToReports { s with rfc := { s.rfc with set := 1, setNext := none, basis := 3 } } t ∧ t.hst = s.hst ∧
        (s.rfc.set ≠ 1 → counted cRfcProfileChanges s t ∧ counted cRfcHoldExpired s t))

/-- The crypto engine takes an operation with its inputs, refuses what it may not, starts it in an own slot and leaves its result (12_polders R312, 12_polders R313). -/
def Obligations.CryptoEngineServes : Prop :=
  (∀ (s : State) (p : Polder), mayAccess s p → domOn s .cry = true →
    let len := winNat s p 0xC402 2
    let aad := winNat s p 0xC404 1
    let tag := getBits (winNat s p 0xC405 1) 1 2
    let unit := fun (t : State) => { t.pld[p] with win := [] }
    let answered := fun (n : Nat) (t : State) => unit t = { s.pld[p] with crypto := { s.pld[p].crypto with result := n }, win := [] } ∧ t = { s with pld := t.pld }
    let submits := fun (c : Instr) (op : Nat) (key256 final : Bool) (bad : Prop) =>
      (s.pld[p].crypto.job ≠ none → completes c s (answered 4)) ∧
      (s.pld[p].crypto.job = none →
        (cryptoSlots s p = [] → completes c s (answered 5)) ∧
        (cryptoSlots s p ≠ [] → bad → completes c s (answered 6)) ∧
        (cryptoSlots s p ≠ [] → ¬ bad → completes c s (fun t => t = { s with pld := t.pld } ∧ unit t = { s.pld[p] with
          crypto := { s.pld[p].crypto with
            result := 1
            job := some ⟨op, key256, final, len, aad, if tag = 0 then 4 else if tag = 1 then 8 else 16, winBytes s p 0xC410 16, winBytes s p 0xC420 32,
              winBytes s p 0xC440 aad, winBytes s p 0xC460 16, winBytes s p 0xC500 256, stNow s, none, false⟩ }
          win := [] })))
    let aead := 256 < len ∨ 32 < aad ∨ tag = 3
    (∀ k, submits (.cryptoGcmEncrypt p k) 1 k false aead) ∧ (∀ k, submits (.cryptoGcmDecrypt p k) 2 k false aead) ∧
      (∀ k, submits (.cryptoCcmEncrypt p k) 3 k false aead) ∧ (∀ k, submits (.cryptoCcmDecrypt p k) 4 k false aead) ∧
      (∀ f, submits (.cryptoSha256 p f) 5 false f (256 < len)) ∧ submits (.cryptoEcdsaVerify p) 6 false false False ∧
      submits (.cryptoTrng p) 7 false false (len = 0 ∨ 256 < len) ∧
      (s.pld[p].memWf = true → ∀ v : Bool, completes (.cryptoWakeEn p v) s (fun t => winBit t p 0xC405 0 = v ∧ winBit t p 0xC405 1 = winBit s p 0xC405 1 ∧
        winBit t p 0xC405 2 = winBit s p 0xC405 2 ∧ t = { s with pld := t.pld }))) ∧
  (∀ (s : State) (p : Polder) (j : CryptoJob) (g : Nat), s.pld[p].crypto.job = some j → j.endAt = none → domOn s .cry = true → 0 ≤ j.at_ →
    cryptoOwner s (g % 32) = p.val → j.at_ + 1 / 1000000 ≤ (g : Rat) / 32000 →
    (∀ h : Nat, cryptoOwner s (h % 32) = p.val → j.at_ + 1 / 1000000 ≤ (h : Rat) / 32000 → g ≤ h) →
    ((g : Rat) / 32000 ≤ stNow s → completes (.cryptoOpStart p) s (onlyPolder p (fun q => { q with crypto := { q.crypto with
      job := some { j with endAt := some (cryptoEnd (cryptoSlots s p) g (cryptoCost j)) } } }) s)) ∧
    (stNow s < (g : Rat) / 32000 → completes (.cryptoOpStart p) s (fun t => t = s))) ∧
  (∀ (s : State) (p : Polder) (j : CryptoJob) (e : Rat), s.pld[p].crypto.job = some j → j.endAt = some e → e + 1 / 1000000 ≤ stNow s →
    (j.discarded = true → completes (.cryptoDone p) s (onlyPolder p (fun q => { q with crypto := { q.crypto with job := none } }) s)) ∧
    (j.discarded = false → completes (.cryptoDone p) s (fun t => ∃ rnd : List Byte,
      let o := cryptoOutcome j s.pld[p].crypto.sha rnd
      (j.op = 7 → rnd.length = j.len ∧ t.fresh = s.fresh + j.len) ∧ (j.op ≠ 7 → t.fresh = s.fresh) ∧
      t.pld[p].crypto = ⟨o.result, stWord (e + 1 / 1000000), none, o.sha⟩ ∧ counted (pPldCryptoOps p) s t ∧ (o.result = 3 → counted (pPldCryptoAuthFail p) s t) ∧
      (s.pld[p].memWf = true → winBytes t p 0xC460 o.tag.length = o.tag ∧ (o.tag.length ≤ 16 → o.buf.length ≤ 256 → winBytes t p 0xC500 o.buf.length = o.buf)) ∧
      (winBit s p 0xC405 0 = false → t.pld[p].core = s.pld[p].core) ∧
      (winBit s p 0xC405 0 = true → s.pld[p].core.phase ≠ .off → t.pld[p].core.pend = s.pld[p].core.pend ||| 0x200) ∧
      ∀ q, q ≠ p → t.pld[q] = s.pld[q]))) ∧
  ∀ (j : CryptoJob) (sha rnd : List Byte),
    let o := cryptoOutcome j sha rnd
    let data := j.buf.take j.len
    let gcm := fun (b : List Byte) => bytesAt (gcmText j.theKey (j.iv.take 12) b) 0 j.len
    let ccm := fun (b : List Byte) => bytesAt (ccmText j.theKey (j.iv.take 13) b) 0 j.len
    (j.op = 1 → o.result = 2 ∧ o.buf = gcm data ∧ o.tag = jobGcmTag j (gcm data)) ∧
    (j.op = 2 → o.tag = [] ∧ (jobGcmTag j data = j.tag.take j.tagLen → o.result = 2 ∧ o.buf = gcm data) ∧
      (jobGcmTag j data ≠ j.tag.take j.tagLen → o.result = 3 ∧ o.buf = List.replicate j.len 0)) ∧
    (j.op = 3 → o.result = 2 ∧ o.buf = ccm data ∧ o.tag = jobCcmTag j data) ∧
    (j.op = 4 → o.tag = [] ∧ (jobCcmTag j (ccm data) = j.tag.take j.tagLen → o.result = 2 ∧ o.buf = ccm data) ∧
      (jobCcmTag j (ccm data) ≠ j.tag.take j.tagLen → o.result = 3 ∧ o.buf = List.replicate j.len 0)) ∧
    (j.op = 5 → o.result = 2 ∧ (j.final = false → o.sha = sha ++ data ∧ o.buf = []) ∧
      (j.final = true → o.sha = [] ∧ o.buf = bytesAt (sha256 (sha ++ data)) 0 32)) ∧
    (j.op = 6 → o.buf = [] ∧ o.tag = [] ∧ (o.result = 2 ↔ ecdsaVerify (bytesAt j.buf 0 32) (bytesAt j.buf 32 64) (bytesAt j.buf 96 64) = true) ∧
      (o.result = 2 ∨ o.result = 3)) ∧
    (j.op = 7 → o.result = 2 ∧ o.buf = rnd)

/-- A core starts, its windows take writes or are dry, the basin is latched and never written, flags clear, and breaches and means are reported (12_polders R315, 12_polders R316, 12_polders R317, 12_polders R320, 12_polders R321, 13_ohmore_model R336, 13_ohmore_model R341, 13_ohmore_model R344, 13_ohmore_model R346). -/
def Obligations.CoresWindowsAndBasinServe : Prop :=
  (∀ (s : State) (p : Polder), s.mode.life = .run → isDry s p = false → s.pld[p].key = .done → domOn s (.pld p) = true →
    s.pld[p].core.phase = .off ∨ s.pld[p].core.phase = .restarting → completes (.coreStart p) s (fun t =>
      t.pmu = { s.pmu with accrues := s.pmu.accrues.set p true } ∧ t = { s with pmu := t.pmu, pld := t.pld } ∧ (∀ q, q ≠ p → t.pld[q] = s.pld[q]) ∧
      t.pld[p] = { s.pld[p] with
        core := { phase := .running, s := BitVec.ofNat 16 (progFirst s p), p := ramWord s p 0xFFFE }
        restarted := s.pld[p].restarted || decide (s.pld[p].core.phase = .restarting) })) ∧
  (∀ (s : State) (p : Polder), mayAccess s p →
    let core := fun (f : Core → Core) (t : State) => t = { s with pld := t.pld } ∧ (∀ q, q ≠ p → t.pld[q] = s.pld[q]) ∧
      { t.pld[p] with win := [] } = { s.pld[p] with core := f s.pld[p].core, win := [] }
    (∀ mask : Word, completes (.pendClear p mask) s (core fun c => { c with pend := c.pend &&& ~~~mask })) ∧
    completes (.dryClear p) s (core fun c => { c with dry := false }) ∧
    completes (.restartedClear p) s (fun t => t = { s with pld := t.pld } ∧ { t.pld[p] with win := [] } = { s.pld[p] with restarted := false, win := [] }) ∧
    (∀ (addr : Word) (b n : Nat), 0xE000 ≤ addr.toNat → addr.toNat < 0xF000 → structOf addr.toNat = some (b, n) →
      (addr.toNat = b ∨ (∀ l, s.pld[p].latch ≠ some (b, l)) → completes (.basinLatch p addr) s (onlyPolder p (fun q => { q with latch := some (b, sread basinDflt s.basin b n) }) s)) ∧
      (addr.toNat ≠ b → (∃ l, s.pld[p].latch = some (b, l)) → completes (.basinLatch p addr) s (fun t => t = s))) ∧
    (∀ (addr : Word) (v : Byte), 0xE000 ≤ addr.toNat → addr.toNat < 0xF000 → cfgP s p pldSegBreachAct ≠ 2 → completes (.registerWrite p addr v) s (fun t =>
      t.basin = s.basin ∧ counted cPldAllBreaches s t ∧ counted (pPldBreaches p) s t ∧ t.pld[p].breachCount = min 65535 (s.pld[p].breachCount + 1) ∧
        t.pld[p].lastKind = 1 ∧ t.pld[p].lastAddr = addr.toNat ∧ t.pld[p].ram = s.pld[p].ram ∧ t.pld[p].win = s.pld[p].win ∧
        (cfgP s p pldSegBreachAct = 1 → t.pld[p].core.pend = s.pld[p].core.pend ||| 0x4000))) ∧
    ∀ (addr : Word) (v : Byte), 0xC000 ≤ addr.toNat → addr.toNat < 0xE000 →
      (windowFate s p addr.toNat (some v) = .dry → completes (.registerWrite p addr v) s (fun t =>
        t.pld[p].core.dry = true ∧ t.pld[p].core.dryAddr = addr ∧ counted (pOhmDryAccesses p) s t ∧ t.pld[p].win = s.pld[p].win ∧
          (cfgP s p ohmCfgDryTrap = 1 → t.pld[p].core.pend = s.pld[p].core.pend ||| 0x2000) ∧ (cfgP s p ohmCfgDryTrap ≠ 1 → t.pld[p].core.pend = s.pld[p].core.pend))) ∧
      (windowFate s p addr.toNat (some v) = .live → s.pld[p].memWf = true →
        addr.toNat ∉ [0xC00C, 0xC101, 0xC203, 0xC400, 0xC604, 0xC714, 0xC71E, 0xC800, 0xC801, 0xC80C, 0xC810, 0xCC00, 0xCC08, 0xCC09, 0xCC14, 0xD5E3, 0xD7F1] →
        ¬ (0xD000 ≤ addr.toNat ∧ addr.toNat < 0xD400 ∧ (addr.toNat - 0xD000) % 0x80 = 0x40) → completes (.registerWrite p addr v) s (fun t =>
          t = { s with pld := t.pld } ∧ (∀ q, q ≠ p → t.pld[q] = s.pld[q]) ∧ { t.pld[p] with win := [] } = { s.pld[p] with win := [] } ∧
            winByte t p addr.toNat = v &&& winStored addr.toNat ∧ ∀ a, a ≠ addr.toNat → winByte t p a = winByte s p a))) ∧
  (∀ (s : State) (p : Polder) (b : MsBreaches) (r : List MsBreaches), s.pld[p].msBreaches = b :: r → b.ms ≠ stMs s → completes (.breachRecord p) s (fun t =>
    t.pld = s.pld.set p { s.pld[p] with msBreaches := r } ∧ recordedP p 0 2 (leBytes 2 (min 65535 b.count) ++ leBytes 1 b.kind ++ leBytes 2 b.addr) s t)) ∧
  ∀ (s : State) (w : SenseWin),
    let sec := stSec s / 10 * 10
    let mean := fun (x : Rat) => roundAway (quot x w.n)
    s.mode.life = .run → s.sky.run = true → sec ≠ 0 → s.pmu.senseS ≠ sec → (sec : Rat) + 2 / 1000 ≤ stNow s →
    (s.aon.sense.find? fun x => 10 * (x.win + 1) == sec) = some w → completes .basinSense s (fun t =>
      t = { s with pmu := { s.pmu with senseS := sec }, basin := t.basin } ∧
      (s.memWf → shown 0xE0DC (leBytes 16 (packFields
        [(0, 64, stWord sec), (64, 8, twos 8 (mean w.tj)), (72, 10, (mean w.vin).toNat), (82, 10, (mean w.vbat).toNat), (92, 7, (socNow s).getD 0),
         (99, 1, b2n s.aon.anchored), (100, 1, b2n s.aon.disagree), (101, 2, w.level)])) t))

/-- Sluices send at their instants, deliver 4 µs later, lose an unpopped message, and take SEND, POP and WAKE_EN from their owners alone (12_polders R322, 12_polders R323). -/
def Obligations.SluicesTransfer : Prop :=
  (∀ (s : State) (p : Polder) (k : Fin 8) (d : SluiceDecl),
    let x := s.pld[p].sluice[k]
    let inst : Rat := (stMs s : Rat) / 1000
    let area := fun (send : Bool) => { x with seq := x.seq + 1, st := stWord inst, send := send }
    x.decl = some d → s.mode.life = .run → s.sky.run = true → stMs s % d.period = 0 → x.st ≠ stWord inst →
    (d.dirIn = true ∨ x.send = false ∨ tickOf s inst ≤ x.sendTick → completes (.sluiceTransfer p k) s (onlyPolder p (fun q => { q with sluice := q.sluice.set k (area x.send) }) s)) ∧
    (d.dirIn = false → x.send = true → (x.sendTick : Int) < tickOf s inst → completes (.sluiceTransfer p k) s (fun t =>
      t = { s with pld := t.pld } ∧
      (∀ j, d.partner = some j → d.peer ≠ p.val → t.pld[p].sluice[k] = area false) ∧
      (d.partner = none → t.pld = s.pld.set p { s.pld[p] with sluice := s.pld[p].sluice.set k (area false) }) ∧
      ∀ (j : Fin 8) (q : Polder), d.partner = some j → d.peer = q.val → q ≠ p →
        t.pld[q].sluice[j] = (if s.pld[q].core.phase = .off then s.pld[q].sluice[j]
          else { s.pld[q].sluice[j] with transit := some (winBytes s p (sluiceBase k) 64, inst) })))) ∧
  (∀ (s : State) (p : Polder) (k : Fin 8) (m : List Byte) (inst : Rat), s.pld[p].sluice[k].transit = some (m, inst) → inst + 4 / 1000000 ≤ stNow s →
    completes (.sluiceDeliver p k) s (fun t =>
      t.pld[p].sluice[k] = { s.pld[p].sluice[k] with data := m, transit := none, full := true, lost := s.pld[p].sluice[k].lost || s.pld[p].sluice[k].full } ∧
      (s.pld[p].sluice[k].full = true → counted (pPldSluiceLost p) s t) ∧ (s.pld[p].sluice[k].full = false → t.ctr = s.ctr) ∧
      (sluiceWake s p k = false → t.pld[p].core = s.pld[p].core) ∧
      (sluiceWake s p k = true → s.pld[p].core.phase ≠ .off → t.pld[p].core.pend = s.pld[p].core.pend ||| 0x100) ∧ ∀ q, q ≠ p → t.pld[q] = s.pld[q])) ∧
  ∀ (s : State) (p : Polder) (k : Fin 8), mayAccess s p →
    let x := s.pld[p].sluice[k]
    let rest := fun (t : State) => t = { s with pld := t.pld } ∧ (∀ q, q ≠ p → t.pld[q] = s.pld[q]) ∧ ∀ j, j ≠ k → t.pld[p].sluice[j] = s.pld[p].sluice[j]
    (x.decl = none → cfgP s p pldSegBreachAct ≠ 2 →
      (∀ c ∈ [Instr.sluiceSend p k, .sluicePop p k, .sluiceWakeEn p k true], completes c s (fun t =>
        t.pld[p].sluice = s.pld[p].sluice ∧ t.pld[p].lastKind = 3 ∧ t.pld[p].breachCount = min 65535 (s.pld[p].breachCount + 1)))) ∧
    (∀ d, x.decl = some d →
      (d.dirIn = false → completes (.sluiceSend p k) s (fun t => rest t ∧
        t.pld[p].sluice[k] = if x.send = false ∧ sluiceAbsent s d = false then { x with send := true, sendTick := s.sky.tick } else x)) ∧
      (d.dirIn = true → completes (.sluicePop p k) s (fun t => rest t ∧ t.pld[p].sluice[k] = { x with full := false, lost := false })) ∧
      (s.pld[p].memWf = true → ∀ v : Bool, completes (.sluiceWakeEn p k v) s (fun t => rest t ∧ sluiceWake t p k = v)))

/-- A polder's key flow releases its card, takes the wrapped key and loads the verified segment, and every failure makes the polder dry with its cause (12_polders R324, 12_polders R325, 17_boot_image R423, 17_boot_image R425, 18_host_ports R455). -/
def Obligations.KeyFlowLoadsASegment : Prop :=
  ∀ (s : State) (p : Polder), isDry s p = false →
    let dry := fun (n : Nat) (t : State) => t.pld[p].dryCauses = [n] ∧ t.pld[p].core = {} ∧ t.pld[p].ram = [] ∧ t.pld[p].win = [] ∧ t.pld[p].segKey = none ∧
      t.pld[p].key = .done ∧ domOn t (.pld p) = false ∧ recorded 1 0x0C01 (leBytes 1 p.val ++ leBytes 1 n) s t ∧ counted cPldDryPolders s t ∧
      t.snf.share[p].store = [] ∧ t.snf.share[p].results = [] ∧ t.lnk.rxq[p] = [] ∧ ownEntries t p = [] ∧ (s.memWf → ∀ k, ctxOf s p k = true → ctxGet t k = {})
    let key := fun (k : KeyPhase) (t : State) => onlyPolder p (fun q => { q with key := k }) s t
    let late := s.pld[p].keyTick + 589824000 ≤ s.sky.tick
    (s.pld[p].key = .resetLow → s.sky.tick < s.pld[p].keyTick + cardTicks s p 400 → completes (.seReset p) s (fun t => t = s)) ∧
    (s.pld[p].key = .resetLow → s.pld[p].keyTick + cardTicks s p 400 ≤ s.sky.tick → completes (.seReset p) s (fun t => t.pld = s.pld.set p { s.pld[p] with key := .awaitAtr, keyTick := s.sky.tick } ∧
      t.hst.pol[p] = { s.hst.pol[p] with awaitTs := true, conv := false, tsBad := false, atrTimeout := false, cardTx := [], cardRetry := 0, cardClocks := 0, cardTick := s.sky.tick } ∧
      ∀ q, q ≠ p → t.hst.pol[q] = s.hst.pol[q])) ∧
    (s.hst.pol[p].awaitTs = true → 40000 ≤ cardClocks s p → s.pld[p].key = .awaitAtr → completes (.atrTimeout p) s (dry 3)) ∧
    (s.hst.pol[p].awaitTs = true → 40000 ≤ cardClocks s p → s.pld[p].key ≠ .awaitAtr → completes (.atrTimeout p) s (fun t => t = { s with hst := { s.hst with
      pol := s.hst.pol.set p { s.hst.pol[p] with atrTimeout := true, awaitTs := false } } })) ∧
    (∀ sw : BitVec 16, s.pld[p].key = .unwrap → (late → completes (.unwrap p sw) s (dry 5)) ∧ (¬late → (sw = 0x6140 → completes (.unwrap p sw) s (key .getResponse)) ∧ (sw ≠ 0x6140 → completes (.unwrap p sw) s (dry 4)))) ∧
    (∀ (resp : List Byte) (sw : BitVec 16), s.pld[p].key = .getResponse → (late → completes (.getResponse p resp sw) s (dry 5)) ∧ (¬late →
      (sw ≠ 0x9000 ∨ resp.length ≠ 64 → completes (.getResponse p resp sw) s (dry 4)) ∧
      (sw = 0x9000 → resp.length = 64 →
        (resp.drop 32 ≠ sha256 (ownerKey (segOf s p)) → completes (.getResponse p resp sw) s (dry 6)) ∧
        (resp.drop 32 = sha256 (ownerKey (segOf s p)) →
          completes (.getResponse p resp sw) s (onlyPolder p (fun q => { q with key := .load, segKey := some (resp.take 32), keySt := stNow s }) s))))) ∧
    (s.pld[p].key = .awaitAtr ∨ s.pld[p].key = .unwrap ∨ s.pld[p].key = .getResponse → late →
      completes (.seSilent p) s (dry 5)) ∧
    ∀ k : List Byte, s.pld[p].key = .load → s.pld[p].segKey = some k →
      let g := segOf s p
      let text := segText k g
      let x := parseBlocks p.val (ctLen g) (text.take (ctLen g - 64)) 0
      let opened := loadSlotsEnd s p (openSlots g) ≤ stNow s
      let checked := loadSlotsEnd s p (loadSlots g) ≤ stNow s
      (segTagOk k g = false → opened → completes (.segmentLoad p) s (dry 7)) ∧
      (segTagOk k g = true → checked → segSigned g text = false → completes (.segmentLoad p) s (dry 8)) ∧
      (segTagOk k g = true → checked → segSigned g text = true →
        (plainOk s p x = false → completes (.segmentLoad p) s (dry 2)) ∧
        (plainOk s p x = true → completes (.segmentLoad p) s (fun t =>
          t.pld[p].key = .done ∧ t.pld[p].segKey = none ∧ t.pld[p].dryCauses = [] ∧ t.pld[p].core = s.pld[p].core ∧
          t.boot = { s.boot with blocks := s.boot.blocks ++ (x.1.map (·.2)).filter fun b => b.code != 0x1718 && b.code != 0x1018 } ∧
          (∀ q, q ≠ p → t.pld[q].ram = s.pld[q].ram ∧ t.pld[q].core = s.pld[q].core ∧ t.pld[q].key = s.pld[q].key) ∧ t.hst = s.hst)))

/-- The mapping: the ordinary update keeps ST continuous, boundaries switch the source, alignment and a permitted step shift ST by what was decided (09_sky_time R219, 09_sky_time R222, 09_sky_time R224, 09_sky_time R226, 09_sky_time R228, 09_sky_time R229, 09_sky_time R230). -/
def Obligations.SkyTimeSteersAndSteps : Prop :=
  ∀ s : State,
    (∀ step, s.sky.alignDecided = some step → s.sky.tick < s.sky.anchorAt → completes .firstAlignment s (fun t => t = s)) ∧
    (∀ step, s.sky.alignDecided = some step → s.sky.anchorAt ≤ s.sky.tick → completes .firstAlignment s (fun t =>
      t.mode.aligned = true ∧ t.sky.source = .gnss ∧ t.sky.target = .gnss ∧ t.sky.switching = false ∧ t.sky.seed = none ∧ t.sky.alignDecided = none ∧
        t.sky.gnssFresh = true ∧ t.sky.tick = s.sky.tick ∧ stNow t = stNow s + step ∧ t.sky.alignedAt = some (stNow s + step) ∧ t.sky.next = none ∧
        (∀ e ∈ t.sky.entries, e.kind = 0 → stNow t < stOfWord e.st) ∧ t.clk.ckdFrom = s.sky.tick + 1)) ∧
    (∀ x, s.sky.stepTo = some x → s.sky.anchorAt ≤ s.sky.tick → completes .permittedStep s (fun t =>
      t.sky.source = x ∧ t.sky.target = x ∧ t.sky.switching = false ∧ t.sky.stepTo = none ∧ t.sky.r = 0 ∧ t.sky.clkStep = true ∧
        stNow t = stNow s - phaseAgainst s x ∧ t.sky.tick = s.sky.tick ∧ counted cSkySteps s t)) ∧
    (∀ n, s.sky.trustedSince = some n → n + 491520000 * cfg s skyCfgGnssReturn ≤ s.sky.tick →
      completes .gnssReturn s (fun t => upToReports { s with sky := { s.sky with gnssReturned := true } } t)) ∧
    (s.sky.run = true → s.mode.aligned = true →
      (s.sky.switching = false → s.sky.source ≠ .free → s.sky.seg.tick = s.sky.tick → completes .ordinaryUpdate s (fun t => t = s)) ∧
      (s.sky.switching = false → s.sky.source ≠ .free → s.sky.seg.tick ≠ s.sky.tick → completes .ordinaryUpdate s (fun t =>
        t.sky.seg.tick = s.sky.tick ∧ stNow t = stNow s ∧ t.sky.next = none ∧ t.sky.e = errorNow s s.sky.source ∧ t.sky.tickS = tickSource s s.sky.source ∧
          t.sky.seg.rate = t.sky.tickS * (1 + clampQ (-slewMax s) (slewMax s) (-t.sky.e / cfg s skyCfgTau)) ∧
          t.sky.source = s.sky.source ∧ t.sky.entries = s.sky.entries)) ∧
      completes .switchBoundary s (fun t =>
        t.sky.tick = s.sky.tick ∧ stNow t = stNow s ∧
        (wantedSource s = s.sky.target → s.sky.switching = false → t = s) ∧
        (wantedSource s = .free → s.sky.target ≠ .free → t.sky.source = .free ∧ t.sky.target = .free ∧ t.sky.switching = false ∧ t.sky.seg.rate = s.sky.tickS) ∧
        (wantedSource s ≠ .free → wantedSource s ≠ s.sky.target → t.sky.target = wantedSource s ∧ t.sky.switching = true ∧ t.sky.source = s.sky.source ∧
          t.sky.r = phaseAgainst s (wantedSource s) ∧
          (t.sky.stepTo = some (wantedSource s) ↔ cfgB s skyCfgStepEn = true ∧ (cfg s skyCfgStepThr : Rat) / 1000000 < absQ t.sky.r)) ∧
        (wantedSource s = s.sky.target → s.sky.switching = true → s.sky.stepTo = none → t.sky.r = phaseAgainst s s.sky.target ∧
          (absQ t.sky.r ≤ (cfg s skyCfgSwDone : Rat) / 1000000000 → t.sky.source = s.sky.target ∧ t.sky.switching = false ∧ t.sky.e = t.sky.r) ∧
          ((cfg s skyCfgSwDone : Rat) / 1000000000 < absQ t.sky.r → t.sky.source = s.sky.source ∧ t.sky.switching = true))))

/-- EXT edges are timed, and the drift vote disqualifies, leaves undecided and requalifies as its counts say (09_sky_time R227, 09_sky_time R231, 09_sky_time R232, 09_sky_time R233, 09_sky_time R234). -/
def Obligations.ComparatorsVoteOnDrift : Prop :=
  ∀ s : State,
    (∀ bin : Nat, s.sky.run = true → domOn s .time = true → completes (.extPpsEdge bin) s (fun t =>
      t.sky.extLast = some s.sky.tick ∧
      t = { s with sky := { s.sky with extLast := t.sky.extLast, extSince := t.sky.extSince, extPhase := t.sky.extPhase } } ∧
      t.sky.extPhase.head? = some (let q := stNow s + ((bin % 8 : Nat) : Rat) / 8 * s.sky.seg.rate - (cfgI s skyCfgExtDly : Rat) / 10000000000; (q - roundAway q, q)) ∧
      t.sky.extPhase.length ≤ 11 ∧
      (∀ n, s.sky.extLast = some n → s.sky.tick ≤ n + 491569152 → t.sky.extSince = s.sky.extSince) ∧
      (∀ n, s.sky.extLast = some n → n + 491569152 < s.sky.tick → t.sky.extSince = some s.sky.tick ∧ t.sky.extPhase.length = 1) ∧
      (s.sky.extLast = none → t.sky.extSince = some s.sky.tick ∧ t.sky.extPhase.length = 1))) ∧
    (∀ n, s.sky.extLast = some n → n + 491569152 < s.sky.tick →
      completes .extPpsMissing s (fun t => upToReports { s with sky := { s.sky with extLast := none, extSince := none, extPhase := [] } } t)) ∧
    (s.sky.run = true → completes .driftVoteWindow s (fun t =>
      t = { s with sky := { s.sky with outlier := t.sky.outlier, agree := t.sky.agree, pairBad := t.sky.pairBad, pairGood := t.sky.pairGood, model := t.sky.model } } ∧
      (∀ c, t.sky.outlier[cmpIdx c] = if isOutlier s c then s.sky.outlier[cmpIdx c] + 1 else 0) ∧
      (∀ c, t.sky.agree[cmpIdx c] = if s.sky.disq[cmpIdx c] = true ∧ agreesAll s c = true then s.sky.agree[cmpIdx c] + 1 else 0) ∧
      (cmpAvail s .gnss = true → cmpAvail s .ext = true → cmpAvail s .model = false →
        (disagree s .gnss .ext = true → t.sky.pairBad = s.sky.pairBad + 1 ∧ t.sky.pairGood = 0) ∧
        (disagree s .gnss .ext = false → t.sky.pairBad = 0 ∧ t.sky.pairGood = s.sky.pairGood + 1)) ∧
      (cmpAvail s .gnss = true → cmpAvail s .ext = true → cmpAvail s .model = true → t.sky.pairBad = 0 ∧ t.sky.pairGood = 0) ∧
      (∀ w ∈ t.sky.model, s.sky.tick < w.1 + 491520000 * 86400) ∧ (cmpAvail s .gnss = true → (s.sky.tick, ySource s .gnss) ∈ t.sky.model))) ∧
    (∀ c : Comparator, s.sky.disq[cmpIdx c] = false → 3 ≤ s.sky.outlier[cmpIdx c] → completes (.disqualification c) s (fun t =>
      upToReports { s with sky := { s.sky with disq := s.sky.disq.set (cmpIdx c) true, agree := s.sky.agree.set (cmpIdx c) 0 } } t ∧
        recorded 1 0x0906 (skyStatus t) s t ∧ (c ≠ .model → counted cSkyDisqualifications s t))) ∧
    (∀ c : Comparator, s.sky.disq[cmpIdx c] = true → 6 ≤ s.sky.agree[cmpIdx c] → completes (.requalification c) s (fun t =>
      upToReports { s with sky := { s.sky with disq := s.sky.disq.set (cmpIdx c) false, outlier := s.sky.outlier.set (cmpIdx c) 0 } } t ∧
        recorded 1 0x0907 (skyStatus t) s t)) ∧
    (s.sky.undecided = false → 3 ≤ s.sky.pairBad → completes .undecided s (fun t =>
      upToReports { s with sky := { s.sky with undecided := true } } t ∧ recorded 1 0x0908 (skyStatus t) s t ∧ counted cSkyUndecidedEpisodes s t)) ∧
    (s.sky.undecided = true → 6 ≤ s.sky.pairGood ∨ (∀ c, cmpAvail s c = true) → completes .undecided s (fun t =>
      upToReports { s with sky := { s.sky with undecided := false } } t ∧ recorded 1 0x0909 (skyStatus t) s t))

/-- Time pulses are decided, made and ended, and event inputs captured, as their rules say (09_sky_time R235, 09_sky_time R236, 09_sky_time R237). -/
def Obligations.PulsesAndEventsOnTime : Prop :=
  ∀ s : State,
    (∀ n : Fin 2, tpDriven s n.val = true →
      (1 ≤ tpPeriod s n.val →
        (tickOf s (tpEdgeNear s n.val (stNow s + 1 / 10) - 1 / 10) ≤ s.sky.tick → completes (.tpDecision n) s (fun t => let edge := tpEdgeNear s n.val (stNow s + 1 / 10)
          upToReports (modTp n (fun q => { q with decided := some (edge, tpGate s n.val), on := tpGate s n.val }) s) t ∧
            (tpGate s n.val = false → counted cSkyTpGated s t) ∧
            ∃ content, recorded 2 0x090A content s t ∧ content.length = 16 ∧ leNat (content.take 8) = stWord edge)) ∧
        (∀ edge, s.sky.tp[n].decided = some (edge, true) → s.sky.tick < tickOf s edge → completes (.timePulseEdge n) s (fun t => t = s)) ∧
        (∀ edge, s.sky.tp[n].decided = some (edge, true) → tickOf s edge ≤ s.sky.tick → completes (.timePulseEdge n) s (fun t =>
          t = modTp n (fun q => { q with active := true, edge := some edge, fine := tpFine s edge, decided := none }) s)) ∧
        (∀ edge, s.sky.tp[n].decided = some (edge, false) → completes (.timePulseEdge n) s (fun t =>
          t = modTp n (fun q => { q with decided := none }) s))) ∧
      (tpPeriod s n.val < 1 → tickOf s (tpEdgeNear s n.val (stNow s)) ≤ s.sky.tick → completes (.timePulseEdge n) s (fun t => let edge := tpEdgeNear s n.val (stNow s)
        (tpGate s n.val = true → t = modTp n (fun q => { q with active := true, edge := some edge, fine := tpFine s edge, on := true }) s) ∧
        (tpGate s n.val = false → upToReports (modTp n (fun q => { q with on := false }) s) t ∧ counted cSkyTpGated s t)))) ∧
    (∀ n : Fin 2, s.sky.tp[n].active = true → (∀ e, s.sky.tp[n].edge = some e → tickOf s (e + tpWidth s n.val) ≤ s.sky.tick) → completes (.tpInactiveEdge n) s (fun t => t = modTp n (fun q => { q with active := false, edge := none }) s)) ∧
    ∀ (pin : Port) (rising : Bool) (bin : Nat), completes (.evtCapture pin rising bin) s (fun t =>
      t.mode.evtLevel.getLsbD pin.val = rising ∧ (∀ k : Port, k ≠ pin → t.mode.evtLevel.getLsbD k.val = s.mode.evtLevel.getLsbD k.val ∧ t.sky.evt[k] = s.sky.evt[k]) ∧
      (cfgBAt s skyEvtEn pin.val = false → t.sky = s.sky) ∧
      (cfgBAt s skyEvtEn pin.val = true → cfgAt s skyEvtEdge pin.val = (if rising then 0 else 1) ∨ cfgAt s skyEvtEdge pin.val = 2 →
        s.mode.life = .run → s.sky.run = true →
        (∀ l, s.sky.evt[pin].last = some l → (s.sky.tick : Rat) - l ≤ (cfgAt s skyEvtHoldoff pin.val : Rat) * 491520000 / 1000000 →
          t.sky.evt[pin] = { s.sky.evt[pin] with held := min 255 (s.sky.evt[pin].held + 1) } ∧ counted cSkyEvtHoldoff s t) ∧
        ((∀ l, s.sky.evt[pin].last = some l → (cfgAt s skyEvtHoldoff pin.val : Rat) * 491520000 / 1000000 < (s.sky.tick : Rat) - l) →
          t.sky.evt[pin] = { last := some s.sky.tick, held := 0, seq := s.sky.evt[pin].seq + 1 } ∧ counted cSkyEvtCaptures s t ∧
            ∃ content, recorded 0 0x090B content s t ∧ content.length = 16)))

/-- The scheduler window arms, cancels, pops and latches; a tick fires the first due entry of each polder and delays its others by one tick (09_sky_time R238, 09_sky_time R241, 09_sky_time R242, 09_sky_time R243, 09_sky_time R244). -/
def Obligations.SchedulerArmsAndFires : Prop :=
  (∀ (s : State) (p : Polder), mayAccess s p → domOn s .time = true → s.pld[p].memWf = true →
    let st := winNat s p 0xC708 8
    let h := winNat s p 0xC718 3
    let answered := fun (n : Nat) (k : SkyState) => { k with win := k.win.set p { k.win[p] with result := n } }
    let pend := fun (e : SchedEntry) => e.owner == p.val && e.kind == 3 && e.handle == h && !entryDue s e
    (stOfWord st < stNow s + 1 / 100000 → completes (.schedArm p) s (fun t => t.sky = answered 2 s.sky ∧ counted cSkyArmPast s t)) ∧
    (stNow s + 1 / 100000 ≤ stOfWord st → schedQuota s p ≤ (ownEntries s p).length →
      completes (.schedArm p) s (fun t => t.sky = answered 1 s.sky ∧ counted cSkyArmFull s t)) ∧
    (stNow s + 1 / 100000 ≤ stOfWord st → (ownEntries s p).length < schedQuota s p → schedQuota s p ≤ 2 ^ 24 → completes (.schedArm p) s (fun t =>
      let g := winNat t p 0xC718 3
      t.sky = answered 0 { s.sky with
        order := s.sky.order + 1
        entries := s.sky.entries ++ [⟨st, p.val, 3, 2, p.val, 0, winNat s p 0xC710 4, g, s.sky.order, 0, false⟩] } ∧ g < schedQuota s p ∧ ∀ e ∈ ownEntries s p, e.handle ≠ g)) ∧
    completes (.schedCancel p) s (fun t =>
      t.sky = answered (if s.sky.entries.any pend then 0 else 3) { s.sky with entries := s.sky.entries.filter fun e => !pend e }) ∧
    completes (.schedPop p) s (fun t => t.sky = { s.sky with win := s.sky.win.set p { s.sky.win[p] with done := s.sky.win[p].done.drop 1 } } ∧
      winBit t p 0xC71E 6 = winBit s p 0xC71E 6) ∧
    (∀ v : Bool, completes (.schedWakeEn p v) s (fun t => winBit t p 0xC71E 6 = v ∧ t.sky.entries = s.sky.entries)) ∧
    completes (.nowLatch p) s (fun t => t = { s with sky := { s.sky with win := s.sky.win.set p { s.sky.win[p] with now := stWord (stNow s) } } })) ∧
  ∀ s : State, s.mode.life = .run → s.sky.run = true → completes .schedulerFire s (fun t =>
    t.sky.tick = s.sky.tick ∧ (t.sky.entries.filter fun e => decide (8 ≤ e.owner)) = (s.sky.entries.filter fun e => decide (8 ≤ e.owner)) ∧
    ∀ p : Polder,
      ((ownEntries s p).any (entryDue s) = false → ownEntries t p = ownEntries s p ∧ t.sky.win[p] = s.sky.win[p]) ∧
      ((ownEntries s p).any (entryDue s) = true → ∃ e ∈ ownEntries s p, entryDue s e = true ∧
        (∀ x ∈ ownEntries s p, entryDue s x = true → goesBefore x e = false) ∧
        ownEntries t p = ((ownEntries s p).filter fun x => x.handle != e.handle).map (fun x => if entryDue s x then { x with delay := x.delay + 1 } else x) ∧
        t.sky.win[p] = { s.sky.win[p] with done :=
          (if 16 ≤ s.sky.win[p].done.length then s.sky.win[p].done.drop 1 else s.sky.win[p].done) ++ [completionOf s e (s.mode.mode == .layup)] }))

/-- A domain goes down and comes up step by step, the duty window moves its domains, wakes bring the host side up, and the guarantee void follows its causes (12_polders R327, 13_ohmore_model R347, 15_power R375, 15_power R376, 15_power R377, 15_power R381, 15_power R382). -/
def Obligations.PowerFollowsTheModes : Prop :=
  (∀ (s : State) (d : Domain), d ≠ .aon →
    let x := domTarget s d
    let goes := fun (to_ : DomPos) (t : State) => domAt t d = to_ ∧ (∀ e, e ≠ d → domAt t e = domAt s e) ∧ t.sky = s.sky ∧ t.mode = s.mode
    (domAt s d = .on → x ≠ .on → stopOk s d = true → completes (.domainDown d) s (fun t => goes .stopped t ∧
      ∀ p, d = .pld p → coreLive s p = true → t.pld[p].core.sb = [] ∧ t.pld[p].core.phase = .running ∧
        (Memory.wf (fun _ => 0) s.pld[p].ram = true → ∀ a, sbPeek t p a = sbPeek s p a))) ∧
    (domAt s d = .on → x ≠ .on → stopOk s d = false → completes (.domainDown d) s (fun t => t = s)) ∧
    (domAt s d = .stopped → x ≠ .on → x ≠ .stopped → completes (.domainDown d) s (goes .isolated)) ∧
    (domAt s d = .isolated → x = .off → completes (.domainDown d) s (goes .cutOff)) ∧
    (domAt s d = .isolated → x = .retention → completes (.domainDown d) s (fun t => goes .saved t ∧
      ∀ p, d = .pld p → t.pld[p] = { s.pld[p] with core := { s.pld[p].core with
        phase := match s.pld[p].core.phase with | .running => .saved | .waiting => .savedWait | y => y } })) ∧
    (domAt s d = .saved → x = .retention → completes (.domainDown d) s (goes .cutRetention)) ∧
    (domAt s d = .cutRetention → x ≠ .cutRetention → completes (.domainDown d) s (goes .retention)) ∧
    (domAt s d = .cutOff → x ≠ .cutOff → completes (.domainDown d) s (fun t => goes .off t ∧ ∀ n k, d = .trk n → k / 384 = n.val → chanGet t k = {})) ∧
    (domAt s d = .retention → x = .off → completes (.domainDown d) s (goes .cutOff)) ∧
    (x = .on →
      (domAt s d = .stopped ∨ domAt s d = .isolated ∨ domAt s d = .saved → completes (.domainUp d) s (fun t => goes .on t ∧ counted cPmuEntryAborts s t)) ∧
      (domAt s d = .cutRetention ∨ domAt s d = .cutOff → completes (.domainUp d) s (fun t =>
        t = { s with pmu := { s.pmu with again := s.pmu.again.set (domIdx d) true } })) ∧
      (domAt s d = .retention → railFree s d = true → completes (.domainUp d) s (fun t => goes .on t ∧ t.pmu.rails = s.sky.tick :: recentRails s ∧
        t.pmu.again[domIdx d] = false ∧ (s.pmu.again[domIdx d] = true → counted cPmuReenables s t) ∧
        ∀ p, d = .pld p → t.pld[p].core = { s.pld[p].core with phase := match s.pld[p].core.phase with | .saved => .running | .savedWait => .waiting | y => y })) ∧
      (domAt s d = .off → (∀ p, d ≠ .pld p) → railFree s d = true → completes (.domainUp d) s (fun t => goes .on t ∧
        t.pmu.rails = s.sky.tick :: recentRails s ∧ (s.pmu.again[domIdx d] = true → counted cPmuReenables s t))) ∧
      (domAt s d = .retention ∨ domAt s d = .off → railFree s d = false → completes (.domainUp d) s (fun t => t = s)) ∧
      (domAt s d = .off → ∀ p, d = .pld p → completes (.domainUp d) s (fun t => t = s)))) ∧
  ∀ s : State,
    (s.mode.life = .run → s.mode.mode = .thin ∨ s.mode.mode = .quiet →
      (s.pmu.duty = false → inDuty s = true → completes .thinWindowOpen s (fun t => t.pmu.duty = true ∧
        let opened := { s with pmu := { s.pmu with duty := true } }
        (∀ d ∈ dutyDomains s, waitsRail opened d = true → (domAt t d = .on ↔ railFree opened d = true)) ∧
        ∀ d, d ∉ dutyDomains s ∨ waitsRail opened d = false → domAt t d = domAt s d)) ∧
      (s.pmu.duty = true → inDuty s = false → completes .thinWindowClose s (fun t => t.pmu.duty = false ∧
        (∀ d ∈ dutyDomains s, domOn s d = true → domAt t d = .retention) ∧ ∀ d, d ∉ dutyDomains s → domAt t d = domAt s d))) ∧
    (∀ (addr : BitVec 7) (read : Bool), s.mode.life = .run → cfgB s hstCfgI2cEn = true → addr.toNat = cfg s hstCfgI2cAddr →
      completes (.i2cAddressMatch addr read) s (fun t => t.hst.i2cBlock = some (i2cStatus t) ∧ t.hst.i2cWasOn = domOn s .hst ∧ t.hst.lastTraffic = s.sky.tick ∧
        (domOn s .hst = true → t.pmu = s.pmu ∧ t.ctr = s.ctr) ∧
        (domOn s .hst = false → t.pmu.woken = true ∧ (s.pmu.woken = false → counted cPmuWakesI2c s t) ∧ (s.pmu.woken = true → t.ctr = s.ctr)))) ∧
    (s.mode.life = .run → domOn s .hst = false → completes .uartBreakWake s (fun t => t.pmu.woken = true ∧ t.hst.unit = [] ∧
      (s.pmu.woken = false → counted cPmuWakesBreak s t) ∧ (s.pmu.woken = true → ctrGet t cPmuWakesBreak = ctrGet s cPmuWakesBreak) ∧
      (autobaud s = true → t.hst.baudOk = false) ∧ t.pmu.wokenClk = (s.pmu.wokenClk || !domOn s .clk))) ∧
    (s.pmu.woken = true ∨ s.pmu.wokenClk = true → s.hst.lastTraffic + 4915200 * cfg s pmuCfgHostIdle ≤ s.sky.tick → s.hst.outB.recs = [] →
      (s.mode.mode = .layup ∨ ∀ p : Polder, s.hst.pol[p].out.recs = []) → completes .hostIdle s (fun t => t = { s with pmu := { s.pmu with woken := false, wokenClk := false } })) ∧
    (s.mode.life = .run → s.pmu.voidVin = false → s.pmu.vinBadMs ≠ 0 → completes .vinOutOfRange s (fun t =>
      t.pmu = { s.pmu with
        voidVin := true
        void := true
        voidCause := if s.pmu.void then s.pmu.voidCause ||| 2 else 2
        voidSince := if s.pmu.void then s.pmu.voidSince else stSec s % 2 ^ 32 } ∧
      (s.memWf → shown 0xE008 (leBytes 8 (flagsWord t)) t) ∧ (s.pmu.void = true → t.hst = s.hst) ∧
      (s.pmu.void = false → recorded 0 0x0C02 (leBytes 8 (flagsWord t)) s t))) ∧
    (s.mode.life = .run → s.pmu.void = true → s.pmu.voidVin = false → s.pmu.voidThermal = false → s.pmu.voidEnd + 29491200000 ≤ s.sky.tick →
      completes .guaranteeVoidClear s (fun t => t.pmu = { s.pmu with void := false, voidCause := 0 } ∧ (s.memWf → shown 0xE008 (leBytes 8 (flagsWord t)) t) ∧
        recorded 1 0x0C03 (leBytes 8 (flagsWord t)) s t))

/-- A power sample feeds the governor, the gauge and the voltage ranks; anchors, freeboard and the PLLs' lock, loss and faults follow (01_architecture R18, 15_power R384, 15_power R386, 15_power R387, 15_power R389, 16_clocks R397, 16_clocks R398, 16_clocks R401, 16_clocks R405, 16_clocks R410). -/
def Obligations.GovernorGaugeAndClocks : Prop :=
  let faulted := fun (code : Nat) (s t : State) =>
    t.mode.life = .boot ∧ t.clk = { lastFault := code } ∧ t.aon = { s.aon with sense := [], faultCause := 0, faultResets := min (s.aon.faultResets + 1) (2 ^ 32 - 1) } ∧
      domOn t .clk = true ∧ domOn t .nvm = true ∧ t.trk = {} ∧ t.sol = {} ∧ t.sky = {} ∧ t.pld = State.reset.pld ∧ t.ctr = []
  ∀ s : State,
    let ranked := fun (v : Bool) (t : State) =>
      let u := { s with mode := { s.mode with rank3 := v } }
      t.mode = { s.mode with
        rank3 := v
        decided := match wantedMode u with | some (m, r) => some (m, r, stNow s) | none => if keepsDecision u = true then s.mode.decided else none }
    (∀ (tj : Int) (vbat vin : Nat) (current : Int), s.aon.rails = true →
      let v := meanQ ((((vbat :: s.aon.vbat).take 1000).map Int.ofNat |>.take 1000).map fun x => (x : Rat))
      (s.mode.life = .run → v < cfg s bootModesVoff → completes (.pmuSample tj vbat vin current) s (fun t => t.mode.life = .off ∧ t.ctr = [] ∧ t.trk = {})) ∧
      (s.mode.life ≠ .run ∨ cfg s bootModesVoff ≤ v → completes (.pmuSample tj vbat vin current) s (fun t =>
        let l := s.aon.govLevel
        let hot := tjMean t 100
        let cool := if l = 0 then 0 else if tjMean t 1000 ≤ (if l = 1 then 97 else 102) then s.aon.coolMs + 1 else 0
        let w := if l < 2 ∧ 105 ≤ hot then 2 else if l = 0 ∧ 100 ≤ hot then 1 else if 0 < l ∧ 10000 ≤ cool then l - 1 else l
        t.aon.tj = (tj :: s.aon.tj).take 1000 ∧ t.aon.vbat = (vbat :: s.aon.vbat).take 1000 ∧ t.aon.vin = vin ∧ t.aon.current = current ∧
        t.aon.count = s.aon.count + current ∧ t.aon.restMs = (if current.natAbs < 10 * cfg s pmuGaugeRestI then s.aon.restMs + 1 else 0) ∧
        t.pmu.vinBadMs = (if 300 ≤ vin ∧ vin ≤ 550 then 0 else s.pmu.vinBadMs + 1) ∧ t.mode.life = s.mode.life ∧
        (w = l → t.aon.govLevel = l ∧ t.aon.coolMs = cool) ∧
        (w ≠ l → anyPortOn s = true → t.aon.govLevel = l ∧ t.aon.govNext = some w ∧
          t.aon.govAt = (if s.aon.govNext = some w then s.aon.govAt else (nextStreamMs s).toNat)) ∧
        (w ≠ l → anyPortOn s = false → t.aon.govLevel = w ∧ t.aon.govNext = none ∧ t.aon.coolMs = 0 ∧
          (l < w → counted (if w = 1 then cPmuGovL1Entries else cPmuGovL2Entries) s t)) ∧
        (s.mode.life = .run → s.mode.fallback = false →
          (s.mode.rank3 = true → v < cfg s bootModesVres → t.mode = s.mode) ∧ (s.mode.rank3 = true → (cfg s bootModesVres : Rat) ≤ v → ranked false t) ∧
          (s.mode.rank3 = false → (cfg s bootModesVcut : Rat) ≤ v → t.mode = s.mode) ∧ (s.mode.rank3 = false → v < cfg s bootModesVcut → ranked true t))))) ∧
    (∀ l, s.aon.govNext = some l → s.sky.tick < s.aon.govAt → completes .governorLevelChange s (fun t => t = s)) ∧
    (∀ l, s.aon.govNext = some l → s.aon.govAt ≤ s.sky.tick → completes .governorLevelChange s (fun t => t.aon = { s.aon with govLevel := l, govNext := none, coolMs := 0 } ∧
      (s.aon.govLevel < l → counted (if l = 1 then cPmuGovL1Entries else cPmuGovL2Entries) s t) ∧ (s.mode.life = .run → t.pmu.statusTick = some s.sky.tick))) ∧
    (∀ v r, s.aon.vbat = v :: r → blockOf s 8 0x1511 ≠ none → 60000 * cfg s pmuGaugeRestMin ≤ s.aon.restMs → completes .gaugeAnchor s (fun t =>
      t.aon = { s.aon with
        count := (ocvPercent s v / 100 * cfg s pmuGaugeCapacity * 36000000).floor
        anchored := true
        disagree := false
        restMs := 0 } ∧ counted cPmuAnchors s t)) ∧
    (s.mode.life = .run → s.sky.run = true → s.pmu.creditMs ≠ some (stMs s) → completes .freeboardAccrual s (fun t =>
      t.pmu.creditMs = some (stMs s) ∧ t.pmu.spent = s.pmu.spent ∧ ∀ p : Polder, t.pmu.credit[p] = (if s.pmu.accrues[p] = true ∧ isDry s p = false then
        min (10000 * (cfgAt s pmuCfgBudget p.val : Int)) (s.pmu.credit[p] + cfgAt s pmuCfgBudget p.val) else s.pmu.credit[p]) ∧
        (t.pmu.credit[p] < 0 → counted (pPmuFbNegativeMs p) s t))) ∧
    (∀ l : Pll, s.clk.started = true → s.mode.fallback = false → domOn s .clk = true → locked s l = false → completes (.pllLock l) s (fun t =>
      (∀ k, locked t k = (locked s k || decide (k = l))) ∧ t.sky = { s.sky with run := s.sky.run || decide (l = .b) } ∧
      (s.clk.relocking = true → relockDone t = true → t.clk.relocking = false ∧ t.clk.refChange = false) ∧
      (s.clk.relocking = true → relockDone t = false → t.clk.relocking = true) ∧
      (l = .a → s.mode.life = .run → ∀ n : Fin 4, t.clk.ckoRun[n] = ckoWanted s n) ∧
      (l = .a → s.mode.life = .run → s.clk.relocking = false → anyPortOn s = true → t.clk.trigAt = some s.sky.tick))) ∧
    (∀ l : Pll, locked s l = true →
      (clkService s = false → completes (.pllLoss l) s (fun t => t = { s with clk := { s.clk with lock := s.clk.lock.set (pllIdx l) false } })) ∧
      (clkService s = true →
        (l = .a → completes (.pllLoss l) s (fun t => locked t .a = false ∧ counted cClkPllaLosses s t ∧ t.clk.ckoRun = Vector.ofFn (fun _ => false) ∧ t.clk.trigAt = none ∧
          ∀ p : Port, portOn s p = true → s.spt.port[p].synced = true → s.spt.port[p].lost = false → t.spt.port[p].lost = true ∧ counted (cSptSyncLoss p) s t)) ∧
        (l = .b ∨ l = .c → completes (.pllLoss l) s (faulted 2 s)) ∧
        (l = .d → completes (.pllLoss l) s (fun t => locked t .d = false ∧ t.clk.ckdRun = Vector.replicate 2 false ∧ t.sky = s.sky ∧ t.spt = s.spt)))) ∧
    (clkService s = true → s.clk.refFreq ≠ 4 → completes .referenceLoss s (faulted 1 s)) ∧ (clkService s = false ∨ s.clk.refFreq = 4 → completes .referenceLoss s (fun t => t = s)) ∧
    (∀ n : Nat, locked s .b = true → domOn s .clk = true → s.mode.fallback = false → s.clk.extAt + 4915200 ≤ s.sky.tick → completes (.ext10mWindow n) s (fun t =>
      t.clk.extAt = s.sky.tick ∧ t.clk.extGood = (if 99998 ≤ n ∧ n ≤ 100002 then min 100 (s.clk.extGood + 1) else 0) ∧ t.clk.extPresent = decide (t.clk.extGood = 100) ∧
        (s.clk.extPresent = true → n < 99998 ∨ 100002 < n → counted cClkExt10mLosses s t))) ∧
    (ckdMay s = true → (∀ a, s.clk.ckdRelock = some a → ((a + 983040 : Nat) : Int) ≤ tickOf s (stSec s)) → (s.clk.ckdFrom : Int) ≤ tickOf s (stSec s) → s.clk.ckdRun ≠ ckdWanted s →
      completes .ckdRestart s (fun t => t.clk.ckdRun = ckdWanted s ∧ t.clk.ckdRelock = none ∧ counted cClkCkdRestarts s t ∧ recorded 1 0x1001 (leBytes 8 (clkStatus t)) s t)) ∧
    (s.clk.relocking = true → s.clk.relockTick + 9830400 ≤ s.sky.tick →
      (s.clk.refChange = true → completes .relockTimeout s (fun t => t.clk.refExt = false ∧ t.clk.refChange = false ∧ t.clk.relocking = true ∧ t.clk.relockTick = s.sky.tick ∧
        (∀ l, locked t l = false) ∧ t.clk.ckdRun = Vector.replicate 2 false ∧ counted cClkRefSwitchFail s t)) ∧
      (s.clk.refChange = false → completes .relockTimeout s (faulted 3 s)))

/-- Characters and units come in by their checks, assistance takes effect, cycles go out slot by slot, and the windows and the I²C target answer (18_host_ports R437, 18_host_ports R439, 18_host_ports R440, 18_host_ports R442, 18_host_ports R444, 18_host_ports R445, 18_host_ports R446, 18_host_ports R449, 18_host_ports R450, 18_host_ports R451, 18_host_ports R453, 07_solver R172). -/
def Obligations.HostPortInAndOut : Prop :=
  ∀ s : State,
    (s.mode.life = .run → domOn s .hst = true → ∀ (data : BitVec 9) (pe fe brk noise : Bool) (falls : List Nat),
      let v := if cfg s hstCfgDataBits = 9 then data.toNat else data.toNat % 256
      let entry := BitVec.ofNat 16 (packFields [(0, 9, v), (9, 1, b2n pe), (10, 1, b2n fe), (11, 1, b2n brk),
        (12, 1, b2n (noise && !cfgB s hstCfgSyncMode)), (13, 1, b2n s.hst.rxOvr)])
      let waits := autobaud s = true ∧ s.hst.baudOk = false ∧ brk = false
      (hostOnRef s = true → brk = false → completes (.uartCharReceive ⟨data, falls⟩ pe fe brk noise) s (fun t => t = s)) ∧
      (hostOnRef s = false ∨ brk = true → completes (.uartCharReceive ⟨data, falls⟩ pe fe brk noise) s (fun t => t.hst.lastTraffic = s.sky.tick ∧
        (waits → t.hst.rx = s.hst.rx ∧
          (∀ r, measuredRate s falls = some r → t.hst.baudOk = true ∧ t.hst.rate = r ∧ cfg s hstCfgMinBaud ≤ r ∧ r ≤ 12000000 ∧ falls.length = 5) ∧
          (measuredRate s falls = none → t.hst.baudOk = false ∧ counted cHstAutobaudRejects s t)) ∧
        (¬ waits → t.ctr = s.ctr ∧ (brk = true → autobaud s = true → t.hst.baudOk = false) ∧
          (512 ≤ s.hst.rx.length → t.hst.rx = s.hst.rx ∧ t.hst.rxOvr = true) ∧
          (s.hst.rx.length < 512 → t.hst.rx = s.hst.rx ++ [⟨entry, s.sky.tick - charTicks s⟩] ∧ t.hst.rxOvr = false ∧
            (hostOnRef s = true ∨ (cfgB s hstCfgFlowEn = true ∧ 384 ≤ t.hst.rx.length) → t.hst.rtsHigh = true) ∧
            (hostOnRef s = false → cfgB s hstCfgFlowEn = false ∨ t.hst.rx.length ≤ 256 → t.hst.rtsHigh = false)))))) ∧
    completes .huCtsNFall s (fun t => t = { s with hst := { s.hst with ctsHigh := false } }) ∧
    (s.mode.life = .run → domOn s .hst = true →
      completes .inboundUnit s (fun t => t.hst.rx = [] ∧
        (∀ c, s.hst.rx = [c] → t.hst.unit = (feedChar { s with hst := { s.hst with rx := [] } } c).hst.unit ∧ t.hst.inqB = (feedChar { s with hst := { s.hst with rx := [] } } c).hst.inqB) ∧
        (s.hst.rx = [] → t.hst.inqB = s.hst.inqB ∧ t.hst.unit = s.hst.unit ∧ t.pld = s.pld)) ∧
      completes .inboundGapTimeout s (fun t => t.hst.rx = [] ∧ (∀ c, t.hst.unit.getLast? = some c → s.sky.tick ≤ c.tick + 64 * charTicks s) ∧
        ∀ c, s.hst.rx = [] → s.hst.unit.getLast? = some c →
          (c.tick + 64 * charTicks s < s.sky.tick → t.hst.unit = [] ∧ (2 ≤ s.hst.unit.length → counted cHstInBadchar s t)) ∧
          (s.sky.tick ≤ c.tick + 64 * charTicks s → t.hst.unit = s.hst.unit))) ∧
    (let u := s.hst.unit
     let b := u.map RxChar.byte
     let h := leNat ((b.drop 2).take 4)
     let len := getBits h 8 12
     let seq := getBits h 20 12
     let slice := (b.drop 6).take len
     let format := getBits h 0 4 ≤ 8 ∧ getBits h 6 2 = 0 ∧ (getBits h 0 4 = 8 ∨ len ≤ 496) ∧ bit8Ok s u = true
     let crc := crc16 ((b.drop 2).take (4 + len)) = leNat (b.drop (6 + len))
     let t := finishUnit s
     t.hst.unit = [] ∧ (¬ format → counted cHstInFormat s t) ∧ (format → ¬ crc → counted cHstInCrc s t) ∧
      (format → crc → getBits h 0 4 = 8 →
        (1024 * cfg s hstSlotsInqB < (s.hst.inqB.map fun f => f.1.length).sum + slice.length → counted cHstInSpillB s t) ∧
        ((s.hst.inqB.map fun f => f.1.length).sum + slice.length ≤ 1024 * cfg s hstSlotsInqB → ∀ y r, slice = y :: r →
          (1 ≤ y.toNat ∧ y.toNat ≤ 4 → ∃ q, t.hst.inqB = s.hst.inqB ++ [(slice, q)]) ∧ (¬ (1 ≤ y.toNat ∧ y.toNat ≤ 4) → counted cHstInFormat s t))) ∧
      ∀ p : Polder, format → crc → getBits h 0 4 = p.val →
        (inRoom s p slice.length = false → counted (pHstInSpill p) s t) ∧
        (inRoom s p slice.length = true → inCounterOf s.hst.pol[p].inCounter seq = none → counted (pHstInReplay p) s t) ∧
        ∀ n, inRoom s p slice.length = true → inCounterOf s.hst.pol[p].inCounter seq = some n →
          let text := slice.take (slice.length - 16)
          let good := 16 ≤ slice.length ∧ blockOf s p.val 0x1818 ≠ none ∧
            gcmTag (hostKey s p) (hostNonce s 1 p n) (unitHeader p.val (getBits h 4 2) 0 (slice.length - 16) seq) text = slice.drop (slice.length - 16)
          (¬ good → counted (pHstInAuth p) s t ∧ t.hst.pol = s.hst.pol) ∧
          (good → t.hst.pol[p].inCounter = some n ∧ ∃ st, t.hst.pol[p].inq =
            s.hst.pol[p].inq ++ [⟨getBits h 4 2, st, gcmText (hostKey s p) (hostNonce s 1 p n) text⟩])) ∧
    (∀ (d : List Byte) (q : Rat) (r : List (List Byte × Rat)),
      let rest := { s with hst := { s.hst with inqB := r } }
      (s.hst.inqB = (1 :: d, q) :: r → completes .correctionFrame s (fun t => t = envelopeArrive d rest)) ∧
      (s.hst.inqB = (2 :: d, q) :: r → completes .timeAssistance s (fun t =>
        (d.length ≠ 12 → counted cHstInFormat s t ∧ t.sky = s.sky) ∧ (d.length = 12 → s.mode.aligned = true → counted cHstInLateTime s t ∧ t.sky = s.sky) ∧
        (d.length = 12 → s.mode.aligned = false → cfgB s hstCfgAssistEn = true → t = offerSeed (stOfWord (leAt d 0 8) - q) (1000 * (leAt d 8 4 : Rat)) rest))) ∧
      (s.hst.inqB = (3 :: d, q) :: r → ∀ content : NavContent,
        let sig := getBits (leNat (d.take 16)) 64 5
        let checked := recheck sig (getBits (leNat (d.take 16)) 118 10) (d.drop 16)
        completes (.navAssistance content) s (fun t => t.hst = rest.hst ∧
          (d.length < 16 → counted cHstInFormat s t ∧ t.msr = s.msr) ∧ (cfgB s hstCfgAssistEn = false ∨ symbolsOnly sig = true ∨ checked = false → t.msr = s.msr) ∧
          (16 ≤ d.length → cfgB s hstCfgAssistEn = true → symbolsOnly sig = false → checked = true → ∀ i a e l, content.issue = some (i, a, e, l) →
            let v : SatId := ⟨(sigInfo sig).const, getBits (leNat (d.take 16)) 69 6⟩
            ephOf s v = none → ∃ y, ephOf t v = some y ∧ y.assist = some ⟨i, a, e, l⟩ ∧ y.issues = []))) ∧
      (s.hst.inqB = (4 :: d, q) :: r → completes .positionAssistance s (fun t =>
        (d.length ≠ 16 → counted cHstInFormat s t ∧ t.acq = s.acq) ∧ (s.sol.lastPos ≠ none → t.acq = s.acq) ∧
        (d.length = 16 → cfgB s hstCfgAssistEn = true → s.sol.lastPos = none → t = { rest with acq := { s.acq with
          pos := some (⟨100 * sext 32 (leAt d 0 4), 100 * sext 32 (leAt d 4 4), 1000 * sext 32 (leAt d 8 4)⟩, (sext 32 (leAt d 12 4)).toNat) } })))) ∧
    (s.mode.life = .run → s.sky.run = true → domOn s .hst = true → hostOnRef s = false → s.hst.lastMs ≠ some (stMs s) → ∀ held : Bool, completes (.hostCycle held) s (fun t =>
      let busy := held && (cfgB s hstCfgFlowEn || cfgB s hstCfgSyncMode)
      t.hst.lastMs = some (stMs s) ∧ t.hst.ctsHigh = (busy && cfgB s hstCfgFlowEn) ∧
      (busy = true ∨ (autobaud s = true ∧ s.hst.baudOk = false) → counted cHstCyclesSkipped s t ∧ t.hst.line = s.hst.line ∧ t.hst.outB = s.hst.outB ∧ t.hst.pol = s.hst.pol) ∧
      (busy = false → autobaud s = false ∨ s.hst.baudOk = true → t.hst.cycleAt = (stMs s : Rat) / 1000 ∧ t.ctr = s.ctr ∧
        (t.hst.slot < 9 → stNow s < slotCutoff t t.hst.slot)))) ∧
    (∀ k, k < 9 → 8 ≤ slotBytes s k ∨ slotBytes s k = 0 → (fillSlot s k).1.length = slotBytes s k ∧ (s.mode.mode = .layup → 0 < k → (fillSlot s k).2 = (slotQueue s k).recs) ∧
      ∀ x ∈ (fillSlot s k).2, ∃ y ∈ (slotQueue s k).recs, y.cls = x.cls ∧ y.counter = x.counter) ∧
    (s.mode.life = .run → domOn s .hst = true → s.hst.bootRec ≠ some (stSec s) → s.hst.bootRec = none ∨ stSec s % 60 = 0 → completes .bootRecord s (fun t =>
      t.hst.bootRec = some (stSec s) ∧ recorded 1 0x1201 (leBytes 2 0x0B00 ++ leBytes 4 s.boot.version ++ leBytes 6 s.boot.mark ++ leBytes 4 (stSec s)) s t)) ∧
    (∀ p : Polder, mayAccess s p → domOn s .hst = true →
      let len := winNat s p 0xD5E0 2
      let cls := winNat s p 0xD5E2 1
      let content := winBytes s p 0xD400 len
      let bad := 3 ≤ cls ∨ 480 < len ∨ (cls = 0 ∧ 240 < len)
      let answer := fun (n : Nat) (t : State) => t.hst.pol = s.hst.pol.set p { s.hst.pol[p] with outResult := n }
      (bad → completes (.outSubmit p) s (answer 1)) ∧ (¬ bad → cfgAt s hstSlotsSlot p.val = 0 → completes (.outSubmit p) s (answer 2)) ∧
      (¬ bad → cfgAt s hstSlotsSlot p.val ≠ 0 → completes (.outSubmit p) s (fun t => recordedP p cls 0 content s t ∧
        (isDry s p = true → answer 4 t) ∧ (isDry s p = false →
          let r := pushRec 16 (cfgAt s hstSlotsOutq p.val) (leBytes 1 3) cls (leBytes 1 0 ++ content) (stNow s) s.hst.pol[p].out
          t.hst.pol[p].outResult = if r.kept = false then 4 else if r.spilled + r.folded = 0 then 0 else 3))) ∧
      completes (.inPop p) s (fun t => t.hst = { s.hst with pol := s.hst.pol.set p { s.hst.pol[p] with inq := s.hst.pol[p].inq.drop 1 } }) ∧
      (s.pld[p].memWf = true → ∀ v : Bool, completes (.inWake p v) s (fun t => winBit t p 0xD7F1 1 = v))) ∧
    (∀ (b : Byte) (r block : List Byte) (stop : Bool), s.hst.i2cBlock = some block → domOn s .hst = true →
      completes (.i2cWrite ⟨b :: r, stop⟩) s (fun t => t = { s with hst := { s.hst with i2cPtr := if stop = true then 0 else b.toNat % 24, lastTraffic := s.sky.tick } }) ∧
      ∀ n, completes (.i2cRead n) s (fun t => t = { s with hst := { s.hst with
        i2cOut := (List.range n).map fun i => block.getD ((s.hst.i2cPtr + i) % 24) 0
        i2cPtr := 0
        i2cBlock := none
        lastTraffic := s.sky.tick } }))

/-- A card port's program resets, clocks, sends and receives; the culvert anchors, closes traces, dumps counters and sends packets in turn (18_host_ports R454, 18_host_ports R455, 18_host_ports R456, 19_observation R462, 19_observation R464, 19_observation R465, 19_observation R467, 19_observation R468, 19_observation R469, 19_observation R470). -/
def Obligations.CardPortsAndCulvert : Prop :=
  (∀ (s : State) (p : Polder), mayAccess s p → domOn s (.pld p) = true →
    let h := s.hst.pol[p]
    let port := fun (g : PolderHost) (t : State) => t.hst.pol = s.hst.pol.set p g ∧ t = { s with hst := { s.hst with pol := t.hst.pol }, pld := t.pld }
    let clocked := { h with cardClocks := cardClocks s p, cardTick := s.sky.tick }
    (cardBit s p 0 = false → completes (.cardReset p true) s (port { h with
      awaitTs := true, conv := false, tsBad := false, atrTimeout := false, cardTx := [], cardRetry := 0, cardClocks := 0, cardTick := s.sky.tick })) ∧
    (cardBit s p 0 = true → completes (.cardReset p false) s (port { clocked with awaitTs := false })) ∧
    (∀ v : Bool, cardBit s p 0 = v → completes (.cardReset p v) s (port clocked)) ∧
    (h.cardTx.length < 16 → ∀ v, completes (.txData p v) s (port { h with
      cardTx := h.cardTx ++ [v], cardNext := if h.cardTx = [] then max h.cardNext (s.sky.tick + etuTicks s p 11) else h.cardNext })) ∧
    (16 ≤ h.cardTx.length → ∀ v, completes (.txData p v) s (fun t => t.hst = s.hst ∧ counted (pHstCpTxOvf p) s t)) ∧
    completes (.cardRxPop p) s (port { h with cardRx := h.cardRx.drop 1 }) ∧ completes (.txFailClear p) s (port { h with txFail := false }) ∧
    (s.pld[p].memWf = true → ∀ v : Bool,
      completes (.cardReset p v) s (fun t => cardBit t p 0 = v ∧ ∀ b, 1 ≤ b → b ≤ 4 → cardBit t p b = cardBit s p b) ∧
      completes (.cardClkEn p v) s (fun t => cardBit t p 1 = v ∧ port clocked t ∧ cardBit t p 0 = cardBit s p 0) ∧
      completes (.cardRxWake p v) s (fun t => cardBit t p 3 = v ∧ port clocked t ∧ cardBit t p 0 = cardBit s p 0) ∧
      completes (.cardTxWake p v) s (fun t => cardBit t p 4 = v ∧ port clocked t ∧ cardBit t p 0 = cardBit s p 0))) ∧
  (∀ (s : State) (p : Polder), domOn s (.pld p) = true → keyFlow s p = false → cardBit s p 0 = true → cardBit s p 1 = true →
    let h := s.hst.pol[p]
    let wakes := fun (b : Nat) (t : State) => (cardBit s p b = false → t.pld = s.pld) ∧ (cardBit s p b = true → t.pld = (raisePend p 7 s).pld)
    (∀ (bits : BitVec 9) (gap : Nat), h.cardTx = [] →
      let inv := if h.awaitTs then inverseByte bits == 0x3F && !parityBad true bits else h.conv
      let v := if inv then inverseByte bits else directByte bits
      let bad := parityBad inv bits
      completes (.cardCharReceive p bits gap) s (fun t =>
        t.hst.pol[p].awaitTs = false ∧ t.hst.pol[p].cardNak = (bad && cardBit s p 2) ∧ t.hst.pol[p].conv = (if h.awaitTs then inv else h.conv) ∧
        (h.awaitTs = true → t.hst.pol[p].tsBad = (!inv && directByte bits != 0x3B)) ∧
        (bad = true → cardBit s p 2 = true → t.hst.pol[p].cardRx = h.cardRx ∧ counted (pHstCpParity p) s t) ∧
        (bad = false ∨ cardBit s p 2 = false →
          (32 ≤ h.cardRx.length → t.hst.pol[p].cardRx = h.cardRx ∧ t.hst.pol[p].cardOvr = true) ∧
          (h.cardRx.length < 32 → wakes 3 t ∧ t.hst.pol[p].cardOvr = false ∧ t.hst.pol[p].cardRx = h.cardRx ++ [BitVec.ofNat 32 (packFields
            [(0, 8, v.toNat), (8, 1, b2n bad), (9, 1, b2n h.cardOvr), (16, 16, min gap 65535)])])))) ∧
    (∀ err : Bool, h.cardTx ≠ [] → s.sky.tick < h.cardNext → completes (.cardCharSend p err) s (fun t => t = s)) ∧
    (∀ err : Bool, h.cardTx ≠ [] → h.cardNext ≤ s.sky.tick → completes (.cardCharSend p err) s (fun t =>
      let next := s.sky.tick + etuTicks s p (cardSpacing s p)
      (err = false ∨ cardBit s p 2 = false → t.hst.pol[p] = { h with cardTx := h.cardTx.drop 1, cardRetry := 0, cardNext := next } ∧ (h.cardTx.length = 1 → wakes 4 t)) ∧
      (err = true → cardBit s p 2 = true → h.cardRetry < winNat s p 0xC805 1 → t.hst.pol[p] = { h with
        cardRetry := h.cardRetry + 1, cardNext := s.sky.tick + etuTicks s p 13 }) ∧
      (err = true → cardBit s p 2 = true → winNat s p 0xC805 1 ≤ h.cardRetry → t.hst.pol[p] = { h with
        cardTx := [], cardRetry := 0, txFail := true, cardNext := next } ∧ wakes 4 t)))) ∧
  ∀ s : State, obsOn s = true →
    let used := fun (k : Fin 9) => (s.obs.share[k].packets.map fun x => packetSize x.type x.payload.length).sum + lineHeld s k
    let closed := fun (src : Fin 9) (type : Nat) (payload : List Byte) (t : State) =>
      let sh := s.obs.share[src]
      t.obs.share[src].seq = (sh.seq + 1) % 2 ^ 32 ∧
      (used src + packetSize type payload.length ≤ shareSize s src → t.obs.share[src].drops = 0 ∧
        t.obs.share[src].packets = sh.packets ++ [⟨type, min sh.drops 255, s.sky.tick % 2 ^ 32, sh.seq, payload⟩]) ∧
      (shareSize s src < used src + packetSize type payload.length → t.obs.share[src].packets = sh.packets ∧ t.obs.share[src].drops = sh.drops + 1)
    (s.sky.run = true → s.obs.anchorS ≠ some (stSec s) → completes .anchorPacket s (fun t => t.obs.anchorS = some (stSec s) ∧ closed 8 1 (anchorPayload s) t)) ∧
    (∀ p : Polder, s.obs.open_[p].entries ≠ [] → s.obs.open_[p].tick + 49152 ≤ s.sky.tick → completes (.tracePacketClose p) s (fun t =>
      t.obs.open_[p] = { s.obs.open_[p] with entries := [] } ∧ closed p.castSucc 3 (s.obs.open_[p].entries.flatMap fun e => leBytes 4 e.toNat) t)) ∧
    (s.sky.run = true → cfg s obsCfgDumpPeriod ≠ 0 → stSec s % cfg s obsCfgDumpPeriod = 0 → s.obs.dumpS ≠ some (stSec s) → completes .counterDump s (fun t =>
      t.obs.dumpS = some (stSec s) ∧ t.obs.anchorS = some (stSec s) ∧ counted cObsObsDumps s t ∧ t.obs.share[(8 : Fin 9)].seq =
        (s.obs.share[(8 : Fin 9)].seq + (if s.obs.anchorS = some (stSec s) then 8 else 9)) % 2 ^ 32)) ∧
    (∀ j : Nat, j < 8 → (dumpPayload s j).length = 2056 ∧ ∀ k, k < 256 → leNat (((dumpPayload s j).drop (8 + 8 * k)).take 8) = dumpEntry s (256 * j + k)) ∧
    (s.sky.tick < s.obs.lineEnd → completes .packetSend s (fun t => t = s)) ∧
    ∀ n, s.obs.lineEnd ≤ s.sky.tick → nextTurn s 9 s.obs.turn = some n → ∀ k r, s.obs.share[turnSrc n].packets = k :: r → completes .packetSend s (fun t =>
      t.obs.line = packetBytes s (turnSrc n) k ∧ t.obs.lineSrc = some (turnSrc n) ∧ t.obs.lineEnd = s.sky.tick + lineTicks s t.obs.line.length ∧ t.obs.turn = (n + 1) % 9 ∧ counted cObsObsPackets s t ∧
        t.obs.share = s.obs.share.set (turnSrc n) { s.obs.share[turnSrc n] with packets := r } ∧
        ∀ m, m < 9 → s.obs.share[turnSrc (s.obs.turn + m)].packets ≠ [] → (∀ i, i < m → s.obs.share[turnSrc (s.obs.turn + i)].packets = []) → n = (s.obs.turn + m) % 9)
end

