-- ==== Sys2Proof/Laws/Sparse.lean ====
section
/-!
SUPPORT. Sparse maps: what a read after a write gives, and that every operation keeps the canonical form.
-/

namespace Sys2Proof.Machine

theorem sget_of_swfFrom_lt {α : Type} [DecidableEq α] (d : Nat → α) :
    ∀ (l : List (Nat × α)) (lo k : Nat), swfFrom d lo l = true → k < lo → sget d l k = d k := by
  intro l
  induction l with
  | nil => intro lo k _ _; rfl
  | cons x r ih =>
    intro lo k h hk
    obtain ⟨j, v⟩ := x
    simp only [swfFrom, Bool.and_eq_true, decide_eq_true_eq] at h
    rw [sget, if_neg (by omega)]
    exact ih (j + 1) k h.2 (by omega)

theorem swfFrom_mono {α : Type} [DecidableEq α] (d : Nat → α) (l : List (Nat × α)) (lo lo' : Nat) (h : swfFrom d lo l = true)
    (hl : lo' ≤ lo) : swfFrom d lo' l = true := by
  cases l with
  | nil => rfl
  | cons x r =>
    obtain ⟨j, v⟩ := x
    simp only [swfFrom, Bool.and_eq_true, decide_eq_true_eq] at h ⊢
    exact ⟨⟨by omega, h.1.2⟩, h.2⟩

theorem swfFrom_sset {α : Type} [DecidableEq α] (d : Nat → α) :
    ∀ (l : List (Nat × α)) (lo k : Nat) (v : α), swfFrom d lo l = true → lo ≤ k → swfFrom d lo (sset d l k v) = true := by
  intro l
  induction l with
  | nil =>
    intro lo k v _ hk
    simp only [sset]
    split
    · rfl
    · simp [swfFrom, *]
  | cons x r ih =>
    intro lo k v h hk
    obtain ⟨j, w⟩ := x
    have h0 := h
    simp only [swfFrom, Bool.and_eq_true, decide_eq_true_eq] at h
    simp only [sset]
    split
    · split
      · exact h0
      · simp only [swfFrom, Bool.and_eq_true, decide_eq_true_eq]
        exact ⟨⟨hk, by assumption⟩, ⟨by omega, h.1.2⟩, h.2⟩
    · split
      · subst_vars
        split
        · exact swfFrom_mono d r _ lo h.2 (by omega)
        · simp only [swfFrom, Bool.and_eq_true, decide_eq_true_eq]
          exact ⟨⟨hk, by assumption⟩, h.2⟩
      · simp only [swfFrom, Bool.and_eq_true, decide_eq_true_eq]
        exact ⟨h.1, ih (j + 1) k v h.2 (by omega)⟩

/-- A write keeps the canonical form. -/
theorem swf_sset {α : Type} [DecidableEq α] (d : Nat → α) (l : List (Nat × α)) (k : Nat) (v : α) (h : swf d l = true) :
    swf d (sset d l k v) = true := swfFrom_sset d l 0 k v h (Nat.zero_le _)

/-- A read of a map whose first key is `k`. -/
theorem sget_cons {α : Type} (d : Nat → α) (k : Nat) (v : α) (l : List (Nat × α)) (j : Nat) :
    sget d ((k, v) :: l) j = if j = k then v else sget d l j := by
  rw [sget]
  by_cases e : j = k
  · rw [if_pos e.symm, if_pos e]
  · rw [if_neg (fun q => e q.symm), if_neg e]

theorem sget_ssetFrom {α : Type} [DecidableEq α] (d : Nat → α) :
    ∀ (l : List (Nat × α)) (lo k : Nat) (v : α) (j : Nat), swfFrom d lo l = true →
      sget d (sset d l k v) j = if j = k then v else sget d l j := by
  intro l
  induction l with
  | nil =>
    intro lo k v j _
    simp only [sset]
    split
    · rename_i hv
      split
      · rename_i hj
        rw [hj, hv, sget]
      · rfl
    · rw [sget_cons]
  | cons x r ih =>
    intro lo k v j h
    obtain ⟨i, w⟩ := x
    simp only [swfFrom, Bool.and_eq_true, decide_eq_true_eq] at h
    have hlt : ∀ q, q ≤ i → sget d r q = d q := fun q hq => sget_of_swfFrom_lt d r (i + 1) q h.2 (by omega)
    simp only [sset]
    split
    · rename_i hki
      split
      · rename_i hv
        split
        · rename_i hj
          subst hj
          rw [sget, if_neg (by omega), hlt _ (by omega), hv]
        · rfl
      · rw [sget_cons]
    · split
      · rename_i hnk hk
        subst hk
        split
        · rename_i hv
          split
          · rename_i hj
            subst hj
            rw [hlt _ (le_refl _), hv]
          · rename_i hj
            rw [sget_cons, if_neg hj]
        · rw [sget_cons, sget_cons]
          by_cases e : j = k
          · rw [if_pos e, if_pos e]
          · rw [if_neg e, if_neg e, if_neg e]
      · rename_i h1 h2
        simp only [sget]
        split
        · rename_i hij
          rw [if_neg (by omega)]
        · exact ih (i + 1) k v j h.2

/-- A read after a write: the written key gives the value, every other key what it gave. -/
theorem sget_sset {α : Type} [DecidableEq α] (d : Nat → α) (l : List (Nat × α)) (k : Nat) (v : α) (j : Nat) (h : swf d l = true) :
    sget d (sset d l k v) j = if j = k then v else sget d l j := sget_ssetFrom d l 0 k v j h

/-- Writing several bytes keeps the canonical form. -/
theorem swf_swrite (d : Nat → Byte) : ∀ (b : List Byte) (m : List Host.Cell) (a : Nat), swf d m = true → swf d (swrite d m a b) = true := by
  intro b
  induction b with
  | nil => intro m a h; exact h
  | cons x r ih => intro m a h; exact ih _ _ (swf_sset d m a x h)

/-- A byte read after several bytes were written upward from an address. -/
theorem sget_swrite (d : Nat → Byte) : ∀ (b : List Byte) (m : List Host.Cell) (a j : Nat), swf d m = true →
    sget d (swrite d m a b) j = if a ≤ j ∧ j < a + b.length then b.getD (j - a) 0 else sget d m j := by
  intro b
  induction b with
  | nil => intro m a j _; simp only [swrite, List.length_nil]; rw [if_neg (by omega)]
  | cons x r ih =>
    intro m a j h
    rw [swrite, ih _ _ _ (swf_sset d m a x h), sget_sset d m a x j h, List.length_cons]
    by_cases hj : j = a
    · subst hj
      rw [if_neg (by omega), if_pos rfl, if_pos (by omega)]
      simp
    · rw [if_neg hj]
      by_cases hr : a + 1 ≤ j ∧ j < a + 1 + r.length
      · rw [if_pos hr, if_pos (by omega)]
        obtain ⟨n, rfl⟩ : ∃ n, j = a + 1 + n := ⟨j - (a + 1), by omega⟩
        have e1 : a + 1 + n - (a + 1) = n := by omega
        have e2 : a + 1 + n - a = n + 1 := by omega
        rw [e1, e2, List.getD_cons_succ]
      · rw [if_neg hr, if_neg (by omega)]

/-- Dropping entries keeps the canonical form. -/
theorem swfFrom_filter {α : Type} [DecidableEq α] (d : Nat → α) (f : Nat × α → Bool) :
    ∀ (l : List (Nat × α)) (lo : Nat), swfFrom d lo l = true → swfFrom d lo (l.filter f) = true := by
  intro l
  induction l with
  | nil => intro lo _; rfl
  | cons x r ih =>
    intro lo h
    obtain ⟨j, v⟩ := x
    simp only [swfFrom, Bool.and_eq_true, decide_eq_true_eq] at h
    rw [List.filter_cons]
    split
    · simp only [swfFrom, Bool.and_eq_true, decide_eq_true_eq]
      exact ⟨h.1, ih _ h.2⟩
    · exact swfFrom_mono d _ _ lo (ih _ h.2) (by omega)

/-- Dropping entries keeps the canonical form. -/
theorem swf_filter {α : Type} [DecidableEq α] (d : Nat → α) (f : Nat × α → Bool) (l : List (Nat × α)) (h : swf d l = true) :
    swf d (l.filter f) = true := swfFrom_filter d f l 0 h

/-- Writing a list of cells keeps the canonical form. -/
theorem swf_foldl_sset (d : Nat → Byte) : ∀ (e m : List Host.Cell), swf d m = true →
    swf d (e.foldl (fun m x => sset d m x.1 x.2) m) = true := by
  intro e
  induction e with
  | nil => intro m h; exact h
  | cons x r ih => intro m h; exact ih _ (swf_sset d m x.1 x.2 h)

/-- What a list of cells leaves at a key: its last cell for the key, else what was there. -/
theorem sget_foldl_sset (d : Nat → Byte) : ∀ (e m : List Host.Cell) (k : Nat), swf d m = true →
    sget d (e.foldl (fun m x => sset d m x.1 x.2) m) k =
      match e.reverse.find? (fun x => x.1 == k) with | some x => x.2 | none => sget d m k := by
  intro e
  induction e with
  | nil => intro m k _; rfl
  | cons x r ih =>
    intro m k h
    rw [List.foldl_cons, ih _ _ (swf_sset d m x.1 x.2 h), List.reverse_cons, List.find?_append]
    cases hf : r.reverse.find? (fun x => x.1 == k) with
    | some y => simp
    | none =>
      simp only [Option.none_or, List.find?_cons, List.find?_nil]
      rw [sget_sset d m x.1 x.2 k h]
      by_cases hk : x.1 = k
      · simp [hk]
      · have : (x.1 == k) = false := by simp [hk]
        rw [this, if_neg (fun e => hk e.symm)]

end Sys2Proof.Machine
end

