-- ==== Sys2Proof/Laws/State.lean ====
section
/-!
SUPPORT. What each named update of the state leaves as it was, and what it writes: one lemma per field per update, each by definition.
-/

namespace Sys2Proof.Machine

@[simp] theorem setDom_spt (d : Domain) (x : DomPos) (s : State) : (setDom d x s).spt = s.spt := rfl
@[simp] theorem setDom_ary (d : Domain) (x : DomPos) (s : State) : (setDom d x s).ary = s.ary := rfl
@[simp] theorem setDom_acq (d : Domain) (x : DomPos) (s : State) : (setDom d x s).acq = s.acq := rfl
@[simp] theorem setDom_trk (d : Domain) (x : DomPos) (s : State) : (setDom d x s).trk = s.trk := rfl
@[simp] theorem setDom_msr (d : Domain) (x : DomPos) (s : State) : (setDom d x s).msr = s.msr := rfl
@[simp] theorem setDom_sol (d : Domain) (x : DomPos) (s : State) : (setDom d x s).sol = s.sol := rfl
@[simp] theorem setDom_snf (d : Domain) (x : DomPos) (s : State) : (setDom d x s).snf = s.snf := rfl
@[simp] theorem setDom_sky (d : Domain) (x : DomPos) (s : State) : (setDom d x s).sky = s.sky := rfl
@[simp] theorem setDom_lnk (d : Domain) (x : DomPos) (s : State) : (setDom d x s).lnk = s.lnk := rfl
@[simp] theorem setDom_rfc (d : Domain) (x : DomPos) (s : State) : (setDom d x s).rfc = s.rfc := rfl
@[simp] theorem setDom_aon (d : Domain) (x : DomPos) (s : State) : (setDom d x s).aon = s.aon := rfl
@[simp] theorem setDom_clk (d : Domain) (x : DomPos) (s : State) : (setDom d x s).clk = s.clk := rfl
@[simp] theorem setDom_boot (d : Domain) (x : DomPos) (s : State) : (setDom d x s).boot = s.boot := rfl
@[simp] theorem setDom_mode (d : Domain) (x : DomPos) (s : State) : (setDom d x s).mode = s.mode := rfl
@[simp] theorem setDom_hst (d : Domain) (x : DomPos) (s : State) : (setDom d x s).hst = s.hst := rfl
@[simp] theorem setDom_obs (d : Domain) (x : DomPos) (s : State) : (setDom d x s).obs = s.obs := rfl
@[simp] theorem setDom_pld (d : Domain) (x : DomPos) (s : State) : (setDom d x s).pld = s.pld := rfl
@[simp] theorem setDom_basin (d : Domain) (x : DomPos) (s : State) : (setDom d x s).basin = s.basin := rfl
@[simp] theorem setDom_ctr (d : Domain) (x : DomPos) (s : State) : (setDom d x s).ctr = s.ctr := rfl
@[simp] theorem setDom_fresh (d : Domain) (x : DomPos) (s : State) : (setDom d x s).fresh = s.fresh := rfl
@[simp] theorem setDom_pending (d : Domain) (x : DomPos) (s : State) : (setDom d x s).pending = s.pending := rfl

@[simp] theorem ctrAdd_spt (i n : Nat) (s : State) : (ctrAdd i n s).spt = s.spt := rfl
@[simp] theorem ctrAdd_ary (i n : Nat) (s : State) : (ctrAdd i n s).ary = s.ary := rfl
@[simp] theorem ctrAdd_acq (i n : Nat) (s : State) : (ctrAdd i n s).acq = s.acq := rfl
@[simp] theorem ctrAdd_trk (i n : Nat) (s : State) : (ctrAdd i n s).trk = s.trk := rfl
@[simp] theorem ctrAdd_msr (i n : Nat) (s : State) : (ctrAdd i n s).msr = s.msr := rfl
@[simp] theorem ctrAdd_sol (i n : Nat) (s : State) : (ctrAdd i n s).sol = s.sol := rfl
@[simp] theorem ctrAdd_snf (i n : Nat) (s : State) : (ctrAdd i n s).snf = s.snf := rfl
@[simp] theorem ctrAdd_sky (i n : Nat) (s : State) : (ctrAdd i n s).sky = s.sky := rfl
@[simp] theorem ctrAdd_lnk (i n : Nat) (s : State) : (ctrAdd i n s).lnk = s.lnk := rfl
@[simp] theorem ctrAdd_rfc (i n : Nat) (s : State) : (ctrAdd i n s).rfc = s.rfc := rfl
@[simp] theorem ctrAdd_aon (i n : Nat) (s : State) : (ctrAdd i n s).aon = s.aon := rfl
@[simp] theorem ctrAdd_pmu (i n : Nat) (s : State) : (ctrAdd i n s).pmu = s.pmu := rfl
@[simp] theorem ctrAdd_clk (i n : Nat) (s : State) : (ctrAdd i n s).clk = s.clk := rfl
@[simp] theorem ctrAdd_boot (i n : Nat) (s : State) : (ctrAdd i n s).boot = s.boot := rfl
@[simp] theorem ctrAdd_mode (i n : Nat) (s : State) : (ctrAdd i n s).mode = s.mode := rfl
@[simp] theorem ctrAdd_hst (i n : Nat) (s : State) : (ctrAdd i n s).hst = s.hst := rfl
@[simp] theorem ctrAdd_obs (i n : Nat) (s : State) : (ctrAdd i n s).obs = s.obs := rfl
@[simp] theorem ctrAdd_pld (i n : Nat) (s : State) : (ctrAdd i n s).pld = s.pld := rfl
@[simp] theorem ctrAdd_basin (i n : Nat) (s : State) : (ctrAdd i n s).basin = s.basin := rfl
@[simp] theorem ctrAdd_fresh (i n : Nat) (s : State) : (ctrAdd i n s).fresh = s.fresh := rfl
@[simp] theorem ctrAdd_pending (i n : Nat) (s : State) : (ctrAdd i n s).pending = s.pending := rfl

@[simp] theorem modP_spt (p : Polder) (f : PolderState → PolderState) (s : State) : (modP p f s).spt = s.spt := rfl
@[simp] theorem modP_ary (p : Polder) (f : PolderState → PolderState) (s : State) : (modP p f s).ary = s.ary := rfl
@[simp] theorem modP_acq (p : Polder) (f : PolderState → PolderState) (s : State) : (modP p f s).acq = s.acq := rfl
@[simp] theorem modP_trk (p : Polder) (f : PolderState → PolderState) (s : State) : (modP p f s).trk = s.trk := rfl
@[simp] theorem modP_msr (p : Polder) (f : PolderState → PolderState) (s : State) : (modP p f s).msr = s.msr := rfl
@[simp] theorem modP_sol (p : Polder) (f : PolderState → PolderState) (s : State) : (modP p f s).sol = s.sol := rfl
@[simp] theorem modP_snf (p : Polder) (f : PolderState → PolderState) (s : State) : (modP p f s).snf = s.snf := rfl
@[simp] theorem modP_sky (p : Polder) (f : PolderState → PolderState) (s : State) : (modP p f s).sky = s.sky := rfl
@[simp] theorem modP_lnk (p : Polder) (f : PolderState → PolderState) (s : State) : (modP p f s).lnk = s.lnk := rfl
@[simp] theorem modP_rfc (p : Polder) (f : PolderState → PolderState) (s : State) : (modP p f s).rfc = s.rfc := rfl
@[simp] theorem modP_aon (p : Polder) (f : PolderState → PolderState) (s : State) : (modP p f s).aon = s.aon := rfl
@[simp] theorem modP_pmu (p : Polder) (f : PolderState → PolderState) (s : State) : (modP p f s).pmu = s.pmu := rfl
@[simp] theorem modP_clk (p : Polder) (f : PolderState → PolderState) (s : State) : (modP p f s).clk = s.clk := rfl
@[simp] theorem modP_boot (p : Polder) (f : PolderState → PolderState) (s : State) : (modP p f s).boot = s.boot := rfl
@[simp] theorem modP_mode (p : Polder) (f : PolderState → PolderState) (s : State) : (modP p f s).mode = s.mode := rfl
@[simp] theorem modP_hst (p : Polder) (f : PolderState → PolderState) (s : State) : (modP p f s).hst = s.hst := rfl
@[simp] theorem modP_obs (p : Polder) (f : PolderState → PolderState) (s : State) : (modP p f s).obs = s.obs := rfl
@[simp] theorem modP_basin (p : Polder) (f : PolderState → PolderState) (s : State) : (modP p f s).basin = s.basin := rfl
@[simp] theorem modP_ctr (p : Polder) (f : PolderState → PolderState) (s : State) : (modP p f s).ctr = s.ctr := rfl
@[simp] theorem modP_fresh (p : Polder) (f : PolderState → PolderState) (s : State) : (modP p f s).fresh = s.fresh := rfl
@[simp] theorem modP_pending (p : Polder) (f : PolderState → PolderState) (s : State) : (modP p f s).pending = s.pending := rfl

@[simp] theorem modCore_spt (p : Polder) (f : Core → Core) (s : State) : (modCore p f s).spt = s.spt := rfl
@[simp] theorem modCore_ary (p : Polder) (f : Core → Core) (s : State) : (modCore p f s).ary = s.ary := rfl
@[simp] theorem modCore_acq (p : Polder) (f : Core → Core) (s : State) : (modCore p f s).acq = s.acq := rfl
@[simp] theorem modCore_trk (p : Polder) (f : Core → Core) (s : State) : (modCore p f s).trk = s.trk := rfl
@[simp] theorem modCore_msr (p : Polder) (f : Core → Core) (s : State) : (modCore p f s).msr = s.msr := rfl
@[simp] theorem modCore_sol (p : Polder) (f : Core → Core) (s : State) : (modCore p f s).sol = s.sol := rfl
@[simp] theorem modCore_snf (p : Polder) (f : Core → Core) (s : State) : (modCore p f s).snf = s.snf := rfl
@[simp] theorem modCore_sky (p : Polder) (f : Core → Core) (s : State) : (modCore p f s).sky = s.sky := rfl
@[simp] theorem modCore_lnk (p : Polder) (f : Core → Core) (s : State) : (modCore p f s).lnk = s.lnk := rfl
@[simp] theorem modCore_rfc (p : Polder) (f : Core → Core) (s : State) : (modCore p f s).rfc = s.rfc := rfl
@[simp] theorem modCore_aon (p : Polder) (f : Core → Core) (s : State) : (modCore p f s).aon = s.aon := rfl
@[simp] theorem modCore_pmu (p : Polder) (f : Core → Core) (s : State) : (modCore p f s).pmu = s.pmu := rfl
@[simp] theorem modCore_clk (p : Polder) (f : Core → Core) (s : State) : (modCore p f s).clk = s.clk := rfl
@[simp] theorem modCore_boot (p : Polder) (f : Core → Core) (s : State) : (modCore p f s).boot = s.boot := rfl
@[simp] theorem modCore_mode (p : Polder) (f : Core → Core) (s : State) : (modCore p f s).mode = s.mode := rfl
@[simp] theorem modCore_hst (p : Polder) (f : Core → Core) (s : State) : (modCore p f s).hst = s.hst := rfl
@[simp] theorem modCore_obs (p : Polder) (f : Core → Core) (s : State) : (modCore p f s).obs = s.obs := rfl
@[simp] theorem modCore_basin (p : Polder) (f : Core → Core) (s : State) : (modCore p f s).basin = s.basin := rfl
@[simp] theorem modCore_ctr (p : Polder) (f : Core → Core) (s : State) : (modCore p f s).ctr = s.ctr := rfl
@[simp] theorem modCore_fresh (p : Polder) (f : Core → Core) (s : State) : (modCore p f s).fresh = s.fresh := rfl
@[simp] theorem modCore_pending (p : Polder) (f : Core → Core) (s : State) : (modCore p f s).pending = s.pending := rfl

@[simp] theorem modCrypto_spt (p : Polder) (f : CryptoUnit → CryptoUnit) (s : State) : (modCrypto p f s).spt = s.spt := rfl
@[simp] theorem modCrypto_ary (p : Polder) (f : CryptoUnit → CryptoUnit) (s : State) : (modCrypto p f s).ary = s.ary := rfl
@[simp] theorem modCrypto_acq (p : Polder) (f : CryptoUnit → CryptoUnit) (s : State) : (modCrypto p f s).acq = s.acq := rfl
@[simp] theorem modCrypto_trk (p : Polder) (f : CryptoUnit → CryptoUnit) (s : State) : (modCrypto p f s).trk = s.trk := rfl
@[simp] theorem modCrypto_msr (p : Polder) (f : CryptoUnit → CryptoUnit) (s : State) : (modCrypto p f s).msr = s.msr := rfl
@[simp] theorem modCrypto_sol (p : Polder) (f : CryptoUnit → CryptoUnit) (s : State) : (modCrypto p f s).sol = s.sol := rfl
@[simp] theorem modCrypto_snf (p : Polder) (f : CryptoUnit → CryptoUnit) (s : State) : (modCrypto p f s).snf = s.snf := rfl
@[simp] theorem modCrypto_sky (p : Polder) (f : CryptoUnit → CryptoUnit) (s : State) : (modCrypto p f s).sky = s.sky := rfl
@[simp] theorem modCrypto_lnk (p : Polder) (f : CryptoUnit → CryptoUnit) (s : State) : (modCrypto p f s).lnk = s.lnk := rfl
@[simp] theorem modCrypto_rfc (p : Polder) (f : CryptoUnit → CryptoUnit) (s : State) : (modCrypto p f s).rfc = s.rfc := rfl
@[simp] theorem modCrypto_aon (p : Polder) (f : CryptoUnit → CryptoUnit) (s : State) : (modCrypto p f s).aon = s.aon := rfl
@[simp] theorem modCrypto_pmu (p : Polder) (f : CryptoUnit → CryptoUnit) (s : State) : (modCrypto p f s).pmu = s.pmu := rfl
@[simp] theorem modCrypto_clk (p : Polder) (f : CryptoUnit → CryptoUnit) (s : State) : (modCrypto p f s).clk = s.clk := rfl
@[simp] theorem modCrypto_boot (p : Polder) (f : CryptoUnit → CryptoUnit) (s : State) : (modCrypto p f s).boot = s.boot := rfl
@[simp] theorem modCrypto_mode (p : Polder) (f : CryptoUnit → CryptoUnit) (s : State) : (modCrypto p f s).mode = s.mode := rfl
@[simp] theorem modCrypto_hst (p : Polder) (f : CryptoUnit → CryptoUnit) (s : State) : (modCrypto p f s).hst = s.hst := rfl
@[simp] theorem modCrypto_obs (p : Polder) (f : CryptoUnit → CryptoUnit) (s : State) : (modCrypto p f s).obs = s.obs := rfl
@[simp] theorem modCrypto_basin (p : Polder) (f : CryptoUnit → CryptoUnit) (s : State) : (modCrypto p f s).basin = s.basin := rfl
@[simp] theorem modCrypto_ctr (p : Polder) (f : CryptoUnit → CryptoUnit) (s : State) : (modCrypto p f s).ctr = s.ctr := rfl
@[simp] theorem modCrypto_fresh (p : Polder) (f : CryptoUnit → CryptoUnit) (s : State) : (modCrypto p f s).fresh = s.fresh := rfl
@[simp] theorem modCrypto_pending (p : Polder) (f : CryptoUnit → CryptoUnit) (s : State) : (modCrypto p f s).pending = s.pending := rfl

@[simp] theorem modSluice_spt (p : Polder) (k : Fin 8) (f : Sluice → Sluice) (s : State) : (modSluice p k f s).spt = s.spt := rfl
@[simp] theorem modSluice_ary (p : Polder) (k : Fin 8) (f : Sluice → Sluice) (s : State) : (modSluice p k f s).ary = s.ary := rfl
@[simp] theorem modSluice_acq (p : Polder) (k : Fin 8) (f : Sluice → Sluice) (s : State) : (modSluice p k f s).acq = s.acq := rfl
@[simp] theorem modSluice_trk (p : Polder) (k : Fin 8) (f : Sluice → Sluice) (s : State) : (modSluice p k f s).trk = s.trk := rfl
@[simp] theorem modSluice_msr (p : Polder) (k : Fin 8) (f : Sluice → Sluice) (s : State) : (modSluice p k f s).msr = s.msr := rfl
@[simp] theorem modSluice_sol (p : Polder) (k : Fin 8) (f : Sluice → Sluice) (s : State) : (modSluice p k f s).sol = s.sol := rfl
@[simp] theorem modSluice_snf (p : Polder) (k : Fin 8) (f : Sluice → Sluice) (s : State) : (modSluice p k f s).snf = s.snf := rfl
@[simp] theorem modSluice_sky (p : Polder) (k : Fin 8) (f : Sluice → Sluice) (s : State) : (modSluice p k f s).sky = s.sky := rfl
@[simp] theorem modSluice_lnk (p : Polder) (k : Fin 8) (f : Sluice → Sluice) (s : State) : (modSluice p k f s).lnk = s.lnk := rfl
@[simp] theorem modSluice_rfc (p : Polder) (k : Fin 8) (f : Sluice → Sluice) (s : State) : (modSluice p k f s).rfc = s.rfc := rfl
@[simp] theorem modSluice_aon (p : Polder) (k : Fin 8) (f : Sluice → Sluice) (s : State) : (modSluice p k f s).aon = s.aon := rfl
@[simp] theorem modSluice_pmu (p : Polder) (k : Fin 8) (f : Sluice → Sluice) (s : State) : (modSluice p k f s).pmu = s.pmu := rfl
@[simp] theorem modSluice_clk (p : Polder) (k : Fin 8) (f : Sluice → Sluice) (s : State) : (modSluice p k f s).clk = s.clk := rfl
@[simp] theorem modSluice_boot (p : Polder) (k : Fin 8) (f : Sluice → Sluice) (s : State) : (modSluice p k f s).boot = s.boot := rfl
@[simp] theorem modSluice_mode (p : Polder) (k : Fin 8) (f : Sluice → Sluice) (s : State) : (modSluice p k f s).mode = s.mode := rfl
@[simp] theorem modSluice_hst (p : Polder) (k : Fin 8) (f : Sluice → Sluice) (s : State) : (modSluice p k f s).hst = s.hst := rfl
@[simp] theorem modSluice_obs (p : Polder) (k : Fin 8) (f : Sluice → Sluice) (s : State) : (modSluice p k f s).obs = s.obs := rfl
@[simp] theorem modSluice_basin (p : Polder) (k : Fin 8) (f : Sluice → Sluice) (s : State) : (modSluice p k f s).basin = s.basin := rfl
@[simp] theorem modSluice_ctr (p : Polder) (k : Fin 8) (f : Sluice → Sluice) (s : State) : (modSluice p k f s).ctr = s.ctr := rfl
@[simp] theorem modSluice_fresh (p : Polder) (k : Fin 8) (f : Sluice → Sluice) (s : State) : (modSluice p k f s).fresh = s.fresh := rfl
@[simp] theorem modSluice_pending (p : Polder) (k : Fin 8) (f : Sluice → Sluice) (s : State) : (modSluice p k f s).pending = s.pending := rfl

@[simp] theorem modH_spt (p : Polder) (f : PolderHost → PolderHost) (s : State) : (modH p f s).spt = s.spt := rfl
@[simp] theorem modH_ary (p : Polder) (f : PolderHost → PolderHost) (s : State) : (modH p f s).ary = s.ary := rfl
@[simp] theorem modH_acq (p : Polder) (f : PolderHost → PolderHost) (s : State) : (modH p f s).acq = s.acq := rfl
@[simp] theorem modH_trk (p : Polder) (f : PolderHost → PolderHost) (s : State) : (modH p f s).trk = s.trk := rfl
@[simp] theorem modH_msr (p : Polder) (f : PolderHost → PolderHost) (s : State) : (modH p f s).msr = s.msr := rfl
@[simp] theorem modH_sol (p : Polder) (f : PolderHost → PolderHost) (s : State) : (modH p f s).sol = s.sol := rfl
@[simp] theorem modH_snf (p : Polder) (f : PolderHost → PolderHost) (s : State) : (modH p f s).snf = s.snf := rfl
@[simp] theorem modH_sky (p : Polder) (f : PolderHost → PolderHost) (s : State) : (modH p f s).sky = s.sky := rfl
@[simp] theorem modH_lnk (p : Polder) (f : PolderHost → PolderHost) (s : State) : (modH p f s).lnk = s.lnk := rfl
@[simp] theorem modH_rfc (p : Polder) (f : PolderHost → PolderHost) (s : State) : (modH p f s).rfc = s.rfc := rfl
@[simp] theorem modH_aon (p : Polder) (f : PolderHost → PolderHost) (s : State) : (modH p f s).aon = s.aon := rfl
@[simp] theorem modH_pmu (p : Polder) (f : PolderHost → PolderHost) (s : State) : (modH p f s).pmu = s.pmu := rfl
@[simp] theorem modH_clk (p : Polder) (f : PolderHost → PolderHost) (s : State) : (modH p f s).clk = s.clk := rfl
@[simp] theorem modH_boot (p : Polder) (f : PolderHost → PolderHost) (s : State) : (modH p f s).boot = s.boot := rfl
@[simp] theorem modH_mode (p : Polder) (f : PolderHost → PolderHost) (s : State) : (modH p f s).mode = s.mode := rfl
@[simp] theorem modH_obs (p : Polder) (f : PolderHost → PolderHost) (s : State) : (modH p f s).obs = s.obs := rfl
@[simp] theorem modH_pld (p : Polder) (f : PolderHost → PolderHost) (s : State) : (modH p f s).pld = s.pld := rfl
@[simp] theorem modH_basin (p : Polder) (f : PolderHost → PolderHost) (s : State) : (modH p f s).basin = s.basin := rfl
@[simp] theorem modH_ctr (p : Polder) (f : PolderHost → PolderHost) (s : State) : (modH p f s).ctr = s.ctr := rfl
@[simp] theorem modH_fresh (p : Polder) (f : PolderHost → PolderHost) (s : State) : (modH p f s).fresh = s.fresh := rfl
@[simp] theorem modH_pending (p : Polder) (f : PolderHost → PolderHost) (s : State) : (modH p f s).pending = s.pending := rfl

@[simp] theorem modHst_spt (f : HostState → HostState) (s : State) : (modHst f s).spt = s.spt := rfl
@[simp] theorem modHst_ary (f : HostState → HostState) (s : State) : (modHst f s).ary = s.ary := rfl
@[simp] theorem modHst_acq (f : HostState → HostState) (s : State) : (modHst f s).acq = s.acq := rfl
@[simp] theorem modHst_trk (f : HostState → HostState) (s : State) : (modHst f s).trk = s.trk := rfl
@[simp] theorem modHst_msr (f : HostState → HostState) (s : State) : (modHst f s).msr = s.msr := rfl
@[simp] theorem modHst_sol (f : HostState → HostState) (s : State) : (modHst f s).sol = s.sol := rfl
@[simp] theorem modHst_snf (f : HostState → HostState) (s : State) : (modHst f s).snf = s.snf := rfl
@[simp] theorem modHst_sky (f : HostState → HostState) (s : State) : (modHst f s).sky = s.sky := rfl
@[simp] theorem modHst_lnk (f : HostState → HostState) (s : State) : (modHst f s).lnk = s.lnk := rfl
@[simp] theorem modHst_rfc (f : HostState → HostState) (s : State) : (modHst f s).rfc = s.rfc := rfl
@[simp] theorem modHst_aon (f : HostState → HostState) (s : State) : (modHst f s).aon = s.aon := rfl
@[simp] theorem modHst_pmu (f : HostState → HostState) (s : State) : (modHst f s).pmu = s.pmu := rfl
@[simp] theorem modHst_clk (f : HostState → HostState) (s : State) : (modHst f s).clk = s.clk := rfl
@[simp] theorem modHst_boot (f : HostState → HostState) (s : State) : (modHst f s).boot = s.boot := rfl
@[simp] theorem modHst_mode (f : HostState → HostState) (s : State) : (modHst f s).mode = s.mode := rfl
@[simp] theorem modHst_obs (f : HostState → HostState) (s : State) : (modHst f s).obs = s.obs := rfl
@[simp] theorem modHst_pld (f : HostState → HostState) (s : State) : (modHst f s).pld = s.pld := rfl
@[simp] theorem modHst_basin (f : HostState → HostState) (s : State) : (modHst f s).basin = s.basin := rfl
@[simp] theorem modHst_ctr (f : HostState → HostState) (s : State) : (modHst f s).ctr = s.ctr := rfl
@[simp] theorem modHst_fresh (f : HostState → HostState) (s : State) : (modHst f s).fresh = s.fresh := rfl
@[simp] theorem modHst_pending (f : HostState → HostState) (s : State) : (modHst f s).pending = s.pending := rfl

@[simp] theorem modObs_spt (f : ObsState → ObsState) (s : State) : (modObs f s).spt = s.spt := rfl
@[simp] theorem modObs_ary (f : ObsState → ObsState) (s : State) : (modObs f s).ary = s.ary := rfl
@[simp] theorem modObs_acq (f : ObsState → ObsState) (s : State) : (modObs f s).acq = s.acq := rfl
@[simp] theorem modObs_trk (f : ObsState → ObsState) (s : State) : (modObs f s).trk = s.trk := rfl
@[simp] theorem modObs_msr (f : ObsState → ObsState) (s : State) : (modObs f s).msr = s.msr := rfl
@[simp] theorem modObs_sol (f : ObsState → ObsState) (s : State) : (modObs f s).sol = s.sol := rfl
@[simp] theorem modObs_snf (f : ObsState → ObsState) (s : State) : (modObs f s).snf = s.snf := rfl
@[simp] theorem modObs_sky (f : ObsState → ObsState) (s : State) : (modObs f s).sky = s.sky := rfl
@[simp] theorem modObs_lnk (f : ObsState → ObsState) (s : State) : (modObs f s).lnk = s.lnk := rfl
@[simp] theorem modObs_rfc (f : ObsState → ObsState) (s : State) : (modObs f s).rfc = s.rfc := rfl
@[simp] theorem modObs_aon (f : ObsState → ObsState) (s : State) : (modObs f s).aon = s.aon := rfl
@[simp] theorem modObs_pmu (f : ObsState → ObsState) (s : State) : (modObs f s).pmu = s.pmu := rfl
@[simp] theorem modObs_clk (f : ObsState → ObsState) (s : State) : (modObs f s).clk = s.clk := rfl
@[simp] theorem modObs_boot (f : ObsState → ObsState) (s : State) : (modObs f s).boot = s.boot := rfl
@[simp] theorem modObs_mode (f : ObsState → ObsState) (s : State) : (modObs f s).mode = s.mode := rfl
@[simp] theorem modObs_hst (f : ObsState → ObsState) (s : State) : (modObs f s).hst = s.hst := rfl
@[simp] theorem modObs_pld (f : ObsState → ObsState) (s : State) : (modObs f s).pld = s.pld := rfl
@[simp] theorem modObs_basin (f : ObsState → ObsState) (s : State) : (modObs f s).basin = s.basin := rfl
@[simp] theorem modObs_ctr (f : ObsState → ObsState) (s : State) : (modObs f s).ctr = s.ctr := rfl
@[simp] theorem modObs_fresh (f : ObsState → ObsState) (s : State) : (modObs f s).fresh = s.fresh := rfl
@[simp] theorem modObs_pending (f : ObsState → ObsState) (s : State) : (modObs f s).pending = s.pending := rfl

@[simp] theorem winPut_spt (p : Polder) (a : Nat) (b : List Byte) (s : State) : (winPut p a b s).spt = s.spt := rfl
@[simp] theorem winPut_ary (p : Polder) (a : Nat) (b : List Byte) (s : State) : (winPut p a b s).ary = s.ary := rfl
@[simp] theorem winPut_acq (p : Polder) (a : Nat) (b : List Byte) (s : State) : (winPut p a b s).acq = s.acq := rfl
@[simp] theorem winPut_trk (p : Polder) (a : Nat) (b : List Byte) (s : State) : (winPut p a b s).trk = s.trk := rfl
@[simp] theorem winPut_msr (p : Polder) (a : Nat) (b : List Byte) (s : State) : (winPut p a b s).msr = s.msr := rfl
@[simp] theorem winPut_sol (p : Polder) (a : Nat) (b : List Byte) (s : State) : (winPut p a b s).sol = s.sol := rfl
@[simp] theorem winPut_snf (p : Polder) (a : Nat) (b : List Byte) (s : State) : (winPut p a b s).snf = s.snf := rfl
@[simp] theorem winPut_sky (p : Polder) (a : Nat) (b : List Byte) (s : State) : (winPut p a b s).sky = s.sky := rfl
@[simp] theorem winPut_lnk (p : Polder) (a : Nat) (b : List Byte) (s : State) : (winPut p a b s).lnk = s.lnk := rfl
@[simp] theorem winPut_rfc (p : Polder) (a : Nat) (b : List Byte) (s : State) : (winPut p a b s).rfc = s.rfc := rfl
@[simp] theorem winPut_aon (p : Polder) (a : Nat) (b : List Byte) (s : State) : (winPut p a b s).aon = s.aon := rfl
@[simp] theorem winPut_pmu (p : Polder) (a : Nat) (b : List Byte) (s : State) : (winPut p a b s).pmu = s.pmu := rfl
@[simp] theorem winPut_clk (p : Polder) (a : Nat) (b : List Byte) (s : State) : (winPut p a b s).clk = s.clk := rfl
@[simp] theorem winPut_boot (p : Polder) (a : Nat) (b : List Byte) (s : State) : (winPut p a b s).boot = s.boot := rfl
@[simp] theorem winPut_mode (p : Polder) (a : Nat) (b : List Byte) (s : State) : (winPut p a b s).mode = s.mode := rfl
@[simp] theorem winPut_hst (p : Polder) (a : Nat) (b : List Byte) (s : State) : (winPut p a b s).hst = s.hst := rfl
@[simp] theorem winPut_obs (p : Polder) (a : Nat) (b : List Byte) (s : State) : (winPut p a b s).obs = s.obs := rfl
@[simp] theorem winPut_basin (p : Polder) (a : Nat) (b : List Byte) (s : State) : (winPut p a b s).basin = s.basin := rfl
@[simp] theorem winPut_ctr (p : Polder) (a : Nat) (b : List Byte) (s : State) : (winPut p a b s).ctr = s.ctr := rfl
@[simp] theorem winPut_fresh (p : Polder) (a : Nat) (b : List Byte) (s : State) : (winPut p a b s).fresh = s.fresh := rfl
@[simp] theorem winPut_pending (p : Polder) (a : Nat) (b : List Byte) (s : State) : (winPut p a b s).pending = s.pending := rfl

@[simp] theorem winStore_spt (p : Polder) (a : Nat) (v : Byte) (s : State) : (winStore p a v s).spt = s.spt := rfl
@[simp] theorem winStore_ary (p : Polder) (a : Nat) (v : Byte) (s : State) : (winStore p a v s).ary = s.ary := rfl
@[simp] theorem winStore_acq (p : Polder) (a : Nat) (v : Byte) (s : State) : (winStore p a v s).acq = s.acq := rfl
@[simp] theorem winStore_trk (p : Polder) (a : Nat) (v : Byte) (s : State) : (winStore p a v s).trk = s.trk := rfl
@[simp] theorem winStore_msr (p : Polder) (a : Nat) (v : Byte) (s : State) : (winStore p a v s).msr = s.msr := rfl
@[simp] theorem winStore_sol (p : Polder) (a : Nat) (v : Byte) (s : State) : (winStore p a v s).sol = s.sol := rfl
@[simp] theorem winStore_snf (p : Polder) (a : Nat) (v : Byte) (s : State) : (winStore p a v s).snf = s.snf := rfl
@[simp] theorem winStore_sky (p : Polder) (a : Nat) (v : Byte) (s : State) : (winStore p a v s).sky = s.sky := rfl
@[simp] theorem winStore_lnk (p : Polder) (a : Nat) (v : Byte) (s : State) : (winStore p a v s).lnk = s.lnk := rfl
@[simp] theorem winStore_rfc (p : Polder) (a : Nat) (v : Byte) (s : State) : (winStore p a v s).rfc = s.rfc := rfl
@[simp] theorem winStore_aon (p : Polder) (a : Nat) (v : Byte) (s : State) : (winStore p a v s).aon = s.aon := rfl
@[simp] theorem winStore_pmu (p : Polder) (a : Nat) (v : Byte) (s : State) : (winStore p a v s).pmu = s.pmu := rfl
@[simp] theorem winStore_clk (p : Polder) (a : Nat) (v : Byte) (s : State) : (winStore p a v s).clk = s.clk := rfl
@[simp] theorem winStore_boot (p : Polder) (a : Nat) (v : Byte) (s : State) : (winStore p a v s).boot = s.boot := rfl
@[simp] theorem winStore_mode (p : Polder) (a : Nat) (v : Byte) (s : State) : (winStore p a v s).mode = s.mode := rfl
@[simp] theorem winStore_hst (p : Polder) (a : Nat) (v : Byte) (s : State) : (winStore p a v s).hst = s.hst := rfl
@[simp] theorem winStore_obs (p : Polder) (a : Nat) (v : Byte) (s : State) : (winStore p a v s).obs = s.obs := rfl
@[simp] theorem winStore_basin (p : Polder) (a : Nat) (v : Byte) (s : State) : (winStore p a v s).basin = s.basin := rfl
@[simp] theorem winStore_ctr (p : Polder) (a : Nat) (v : Byte) (s : State) : (winStore p a v s).ctr = s.ctr := rfl
@[simp] theorem winStore_fresh (p : Polder) (a : Nat) (v : Byte) (s : State) : (winStore p a v s).fresh = s.fresh := rfl
@[simp] theorem winStore_pending (p : Polder) (a : Nat) (v : Byte) (s : State) : (winStore p a v s).pending = s.pending := rfl

@[simp] theorem ramPut_spt (p : Polder) (a : Nat) (v : Byte) (s : State) : (ramPut p a v s).spt = s.spt := rfl
@[simp] theorem ramPut_ary (p : Polder) (a : Nat) (v : Byte) (s : State) : (ramPut p a v s).ary = s.ary := rfl
@[simp] theorem ramPut_acq (p : Polder) (a : Nat) (v : Byte) (s : State) : (ramPut p a v s).acq = s.acq := rfl
@[simp] theorem ramPut_trk (p : Polder) (a : Nat) (v : Byte) (s : State) : (ramPut p a v s).trk = s.trk := rfl
@[simp] theorem ramPut_msr (p : Polder) (a : Nat) (v : Byte) (s : State) : (ramPut p a v s).msr = s.msr := rfl
@[simp] theorem ramPut_sol (p : Polder) (a : Nat) (v : Byte) (s : State) : (ramPut p a v s).sol = s.sol := rfl
@[simp] theorem ramPut_snf (p : Polder) (a : Nat) (v : Byte) (s : State) : (ramPut p a v s).snf = s.snf := rfl
@[simp] theorem ramPut_sky (p : Polder) (a : Nat) (v : Byte) (s : State) : (ramPut p a v s).sky = s.sky := rfl
@[simp] theorem ramPut_lnk (p : Polder) (a : Nat) (v : Byte) (s : State) : (ramPut p a v s).lnk = s.lnk := rfl
@[simp] theorem ramPut_rfc (p : Polder) (a : Nat) (v : Byte) (s : State) : (ramPut p a v s).rfc = s.rfc := rfl
@[simp] theorem ramPut_aon (p : Polder) (a : Nat) (v : Byte) (s : State) : (ramPut p a v s).aon = s.aon := rfl
@[simp] theorem ramPut_pmu (p : Polder) (a : Nat) (v : Byte) (s : State) : (ramPut p a v s).pmu = s.pmu := rfl
@[simp] theorem ramPut_clk (p : Polder) (a : Nat) (v : Byte) (s : State) : (ramPut p a v s).clk = s.clk := rfl
@[simp] theorem ramPut_boot (p : Polder) (a : Nat) (v : Byte) (s : State) : (ramPut p a v s).boot = s.boot := rfl
@[simp] theorem ramPut_mode (p : Polder) (a : Nat) (v : Byte) (s : State) : (ramPut p a v s).mode = s.mode := rfl
@[simp] theorem ramPut_hst (p : Polder) (a : Nat) (v : Byte) (s : State) : (ramPut p a v s).hst = s.hst := rfl
@[simp] theorem ramPut_obs (p : Polder) (a : Nat) (v : Byte) (s : State) : (ramPut p a v s).obs = s.obs := rfl
@[simp] theorem ramPut_basin (p : Polder) (a : Nat) (v : Byte) (s : State) : (ramPut p a v s).basin = s.basin := rfl
@[simp] theorem ramPut_ctr (p : Polder) (a : Nat) (v : Byte) (s : State) : (ramPut p a v s).ctr = s.ctr := rfl
@[simp] theorem ramPut_fresh (p : Polder) (a : Nat) (v : Byte) (s : State) : (ramPut p a v s).fresh = s.fresh := rfl
@[simp] theorem ramPut_pending (p : Polder) (a : Nat) (v : Byte) (s : State) : (ramPut p a v s).pending = s.pending := rfl

@[simp] theorem countCycle_spt (p : Polder) (s : State) : (countCycle p s).spt = s.spt := rfl
@[simp] theorem countCycle_ary (p : Polder) (s : State) : (countCycle p s).ary = s.ary := rfl
@[simp] theorem countCycle_acq (p : Polder) (s : State) : (countCycle p s).acq = s.acq := rfl
@[simp] theorem countCycle_trk (p : Polder) (s : State) : (countCycle p s).trk = s.trk := rfl
@[simp] theorem countCycle_msr (p : Polder) (s : State) : (countCycle p s).msr = s.msr := rfl
@[simp] theorem countCycle_sol (p : Polder) (s : State) : (countCycle p s).sol = s.sol := rfl
@[simp] theorem countCycle_snf (p : Polder) (s : State) : (countCycle p s).snf = s.snf := rfl
@[simp] theorem countCycle_sky (p : Polder) (s : State) : (countCycle p s).sky = s.sky := rfl
@[simp] theorem countCycle_lnk (p : Polder) (s : State) : (countCycle p s).lnk = s.lnk := rfl
@[simp] theorem countCycle_rfc (p : Polder) (s : State) : (countCycle p s).rfc = s.rfc := rfl
@[simp] theorem countCycle_aon (p : Polder) (s : State) : (countCycle p s).aon = s.aon := rfl
@[simp] theorem countCycle_pmu (p : Polder) (s : State) : (countCycle p s).pmu = s.pmu := rfl
@[simp] theorem countCycle_clk (p : Polder) (s : State) : (countCycle p s).clk = s.clk := rfl
@[simp] theorem countCycle_boot (p : Polder) (s : State) : (countCycle p s).boot = s.boot := rfl
@[simp] theorem countCycle_mode (p : Polder) (s : State) : (countCycle p s).mode = s.mode := rfl
@[simp] theorem countCycle_hst (p : Polder) (s : State) : (countCycle p s).hst = s.hst := rfl
@[simp] theorem countCycle_obs (p : Polder) (s : State) : (countCycle p s).obs = s.obs := rfl
@[simp] theorem countCycle_basin (p : Polder) (s : State) : (countCycle p s).basin = s.basin := rfl
@[simp] theorem countCycle_ctr (p : Polder) (s : State) : (countCycle p s).ctr = s.ctr := rfl
@[simp] theorem countCycle_fresh (p : Polder) (s : State) : (countCycle p s).fresh = s.fresh := rfl
@[simp] theorem countCycle_pending (p : Polder) (s : State) : (countCycle p s).pending = s.pending := rfl

@[simp] theorem sbPush_spt (p : Polder) (e : List Host.Cell) (s : State) : (sbPush p e s).spt = s.spt := rfl
@[simp] theorem sbPush_ary (p : Polder) (e : List Host.Cell) (s : State) : (sbPush p e s).ary = s.ary := rfl
@[simp] theorem sbPush_acq (p : Polder) (e : List Host.Cell) (s : State) : (sbPush p e s).acq = s.acq := rfl
@[simp] theorem sbPush_trk (p : Polder) (e : List Host.Cell) (s : State) : (sbPush p e s).trk = s.trk := rfl
@[simp] theorem sbPush_msr (p : Polder) (e : List Host.Cell) (s : State) : (sbPush p e s).msr = s.msr := rfl
@[simp] theorem sbPush_sol (p : Polder) (e : List Host.Cell) (s : State) : (sbPush p e s).sol = s.sol := rfl
@[simp] theorem sbPush_snf (p : Polder) (e : List Host.Cell) (s : State) : (sbPush p e s).snf = s.snf := rfl
@[simp] theorem sbPush_sky (p : Polder) (e : List Host.Cell) (s : State) : (sbPush p e s).sky = s.sky := rfl
@[simp] theorem sbPush_lnk (p : Polder) (e : List Host.Cell) (s : State) : (sbPush p e s).lnk = s.lnk := rfl
@[simp] theorem sbPush_rfc (p : Polder) (e : List Host.Cell) (s : State) : (sbPush p e s).rfc = s.rfc := rfl
@[simp] theorem sbPush_aon (p : Polder) (e : List Host.Cell) (s : State) : (sbPush p e s).aon = s.aon := rfl
@[simp] theorem sbPush_pmu (p : Polder) (e : List Host.Cell) (s : State) : (sbPush p e s).pmu = s.pmu := rfl
@[simp] theorem sbPush_clk (p : Polder) (e : List Host.Cell) (s : State) : (sbPush p e s).clk = s.clk := rfl
@[simp] theorem sbPush_boot (p : Polder) (e : List Host.Cell) (s : State) : (sbPush p e s).boot = s.boot := rfl
@[simp] theorem sbPush_mode (p : Polder) (e : List Host.Cell) (s : State) : (sbPush p e s).mode = s.mode := rfl
@[simp] theorem sbPush_hst (p : Polder) (e : List Host.Cell) (s : State) : (sbPush p e s).hst = s.hst := rfl
@[simp] theorem sbPush_obs (p : Polder) (e : List Host.Cell) (s : State) : (sbPush p e s).obs = s.obs := rfl
@[simp] theorem sbPush_basin (p : Polder) (e : List Host.Cell) (s : State) : (sbPush p e s).basin = s.basin := rfl
@[simp] theorem sbPush_ctr (p : Polder) (e : List Host.Cell) (s : State) : (sbPush p e s).ctr = s.ctr := rfl
@[simp] theorem sbPush_fresh (p : Polder) (e : List Host.Cell) (s : State) : (sbPush p e s).fresh = s.fresh := rfl
@[simp] theorem sbPush_pending (p : Polder) (e : List Host.Cell) (s : State) : (sbPush p e s).pending = s.pending := rfl

@[simp] theorem raisePend_spt (p : Polder) (v : Nat) (s : State) : (raisePend p v s).spt = s.spt := rfl
@[simp] theorem raisePend_ary (p : Polder) (v : Nat) (s : State) : (raisePend p v s).ary = s.ary := rfl
@[simp] theorem raisePend_acq (p : Polder) (v : Nat) (s : State) : (raisePend p v s).acq = s.acq := rfl
@[simp] theorem raisePend_trk (p : Polder) (v : Nat) (s : State) : (raisePend p v s).trk = s.trk := rfl
@[simp] theorem raisePend_msr (p : Polder) (v : Nat) (s : State) : (raisePend p v s).msr = s.msr := rfl
@[simp] theorem raisePend_sol (p : Polder) (v : Nat) (s : State) : (raisePend p v s).sol = s.sol := rfl
@[simp] theorem raisePend_snf (p : Polder) (v : Nat) (s : State) : (raisePend p v s).snf = s.snf := rfl
@[simp] theorem raisePend_sky (p : Polder) (v : Nat) (s : State) : (raisePend p v s).sky = s.sky := rfl
@[simp] theorem raisePend_lnk (p : Polder) (v : Nat) (s : State) : (raisePend p v s).lnk = s.lnk := rfl
@[simp] theorem raisePend_rfc (p : Polder) (v : Nat) (s : State) : (raisePend p v s).rfc = s.rfc := rfl
@[simp] theorem raisePend_aon (p : Polder) (v : Nat) (s : State) : (raisePend p v s).aon = s.aon := rfl
@[simp] theorem raisePend_pmu (p : Polder) (v : Nat) (s : State) : (raisePend p v s).pmu = s.pmu := rfl
@[simp] theorem raisePend_clk (p : Polder) (v : Nat) (s : State) : (raisePend p v s).clk = s.clk := rfl
@[simp] theorem raisePend_boot (p : Polder) (v : Nat) (s : State) : (raisePend p v s).boot = s.boot := rfl
@[simp] theorem raisePend_mode (p : Polder) (v : Nat) (s : State) : (raisePend p v s).mode = s.mode := rfl
@[simp] theorem raisePend_hst (p : Polder) (v : Nat) (s : State) : (raisePend p v s).hst = s.hst := rfl
@[simp] theorem raisePend_obs (p : Polder) (v : Nat) (s : State) : (raisePend p v s).obs = s.obs := rfl
@[simp] theorem raisePend_basin (p : Polder) (v : Nat) (s : State) : (raisePend p v s).basin = s.basin := rfl
@[simp] theorem raisePend_ctr (p : Polder) (v : Nat) (s : State) : (raisePend p v s).ctr = s.ctr := rfl
@[simp] theorem raisePend_fresh (p : Polder) (v : Nat) (s : State) : (raisePend p v s).fresh = s.fresh := rfl
@[simp] theorem raisePend_pending (p : Polder) (v : Nat) (s : State) : (raisePend p v s).pending = s.pending := rfl

@[simp] theorem basinPut_spt (a : Nat) (b : List Byte) (s : State) : (basinPut a b s).spt = s.spt := rfl
@[simp] theorem basinPut_ary (a : Nat) (b : List Byte) (s : State) : (basinPut a b s).ary = s.ary := rfl
@[simp] theorem basinPut_acq (a : Nat) (b : List Byte) (s : State) : (basinPut a b s).acq = s.acq := rfl
@[simp] theorem basinPut_trk (a : Nat) (b : List Byte) (s : State) : (basinPut a b s).trk = s.trk := rfl
@[simp] theorem basinPut_msr (a : Nat) (b : List Byte) (s : State) : (basinPut a b s).msr = s.msr := rfl
@[simp] theorem basinPut_sol (a : Nat) (b : List Byte) (s : State) : (basinPut a b s).sol = s.sol := rfl
@[simp] theorem basinPut_snf (a : Nat) (b : List Byte) (s : State) : (basinPut a b s).snf = s.snf := rfl
@[simp] theorem basinPut_sky (a : Nat) (b : List Byte) (s : State) : (basinPut a b s).sky = s.sky := rfl
@[simp] theorem basinPut_lnk (a : Nat) (b : List Byte) (s : State) : (basinPut a b s).lnk = s.lnk := rfl
@[simp] theorem basinPut_rfc (a : Nat) (b : List Byte) (s : State) : (basinPut a b s).rfc = s.rfc := rfl
@[simp] theorem basinPut_aon (a : Nat) (b : List Byte) (s : State) : (basinPut a b s).aon = s.aon := rfl
@[simp] theorem basinPut_pmu (a : Nat) (b : List Byte) (s : State) : (basinPut a b s).pmu = s.pmu := rfl
@[simp] theorem basinPut_clk (a : Nat) (b : List Byte) (s : State) : (basinPut a b s).clk = s.clk := rfl
@[simp] theorem basinPut_boot (a : Nat) (b : List Byte) (s : State) : (basinPut a b s).boot = s.boot := rfl
@[simp] theorem basinPut_mode (a : Nat) (b : List Byte) (s : State) : (basinPut a b s).mode = s.mode := rfl
@[simp] theorem basinPut_hst (a : Nat) (b : List Byte) (s : State) : (basinPut a b s).hst = s.hst := rfl
@[simp] theorem basinPut_obs (a : Nat) (b : List Byte) (s : State) : (basinPut a b s).obs = s.obs := rfl
@[simp] theorem basinPut_pld (a : Nat) (b : List Byte) (s : State) : (basinPut a b s).pld = s.pld := rfl
@[simp] theorem basinPut_ctr (a : Nat) (b : List Byte) (s : State) : (basinPut a b s).ctr = s.ctr := rfl
@[simp] theorem basinPut_fresh (a : Nat) (b : List Byte) (s : State) : (basinPut a b s).fresh = s.fresh := rfl
@[simp] theorem basinPut_pending (a : Nat) (b : List Byte) (s : State) : (basinPut a b s).pending = s.pending := rfl

@[simp] theorem modPort_ary (p : Port) (f : PortState → PortState) (s : State) : (modPort p f s).ary = s.ary := rfl
@[simp] theorem modPort_acq (p : Port) (f : PortState → PortState) (s : State) : (modPort p f s).acq = s.acq := rfl
@[simp] theorem modPort_trk (p : Port) (f : PortState → PortState) (s : State) : (modPort p f s).trk = s.trk := rfl
@[simp] theorem modPort_msr (p : Port) (f : PortState → PortState) (s : State) : (modPort p f s).msr = s.msr := rfl
@[simp] theorem modPort_sol (p : Port) (f : PortState → PortState) (s : State) : (modPort p f s).sol = s.sol := rfl
@[simp] theorem modPort_snf (p : Port) (f : PortState → PortState) (s : State) : (modPort p f s).snf = s.snf := rfl
@[simp] theorem modPort_sky (p : Port) (f : PortState → PortState) (s : State) : (modPort p f s).sky = s.sky := rfl
@[simp] theorem modPort_lnk (p : Port) (f : PortState → PortState) (s : State) : (modPort p f s).lnk = s.lnk := rfl
@[simp] theorem modPort_rfc (p : Port) (f : PortState → PortState) (s : State) : (modPort p f s).rfc = s.rfc := rfl
@[simp] theorem modPort_aon (p : Port) (f : PortState → PortState) (s : State) : (modPort p f s).aon = s.aon := rfl
@[simp] theorem modPort_pmu (p : Port) (f : PortState → PortState) (s : State) : (modPort p f s).pmu = s.pmu := rfl
@[simp] theorem modPort_clk (p : Port) (f : PortState → PortState) (s : State) : (modPort p f s).clk = s.clk := rfl
@[simp] theorem modPort_boot (p : Port) (f : PortState → PortState) (s : State) : (modPort p f s).boot = s.boot := rfl
@[simp] theorem modPort_mode (p : Port) (f : PortState → PortState) (s : State) : (modPort p f s).mode = s.mode := rfl
@[simp] theorem modPort_hst (p : Port) (f : PortState → PortState) (s : State) : (modPort p f s).hst = s.hst := rfl
@[simp] theorem modPort_obs (p : Port) (f : PortState → PortState) (s : State) : (modPort p f s).obs = s.obs := rfl
@[simp] theorem modPort_pld (p : Port) (f : PortState → PortState) (s : State) : (modPort p f s).pld = s.pld := rfl
@[simp] theorem modPort_basin (p : Port) (f : PortState → PortState) (s : State) : (modPort p f s).basin = s.basin := rfl
@[simp] theorem modPort_ctr (p : Port) (f : PortState → PortState) (s : State) : (modPort p f s).ctr = s.ctr := rfl
@[simp] theorem modPort_fresh (p : Port) (f : PortState → PortState) (s : State) : (modPort p f s).fresh = s.fresh := rfl
@[simp] theorem modPort_pending (p : Port) (f : PortState → PortState) (s : State) : (modPort p f s).pending = s.pending := rfl

@[simp] theorem modLane_ary (p l : Port) (f : LaneState → LaneState) (s : State) : (modLane p l f s).ary = s.ary := rfl
@[simp] theorem modLane_acq (p l : Port) (f : LaneState → LaneState) (s : State) : (modLane p l f s).acq = s.acq := rfl
@[simp] theorem modLane_trk (p l : Port) (f : LaneState → LaneState) (s : State) : (modLane p l f s).trk = s.trk := rfl
@[simp] theorem modLane_msr (p l : Port) (f : LaneState → LaneState) (s : State) : (modLane p l f s).msr = s.msr := rfl
@[simp] theorem modLane_sol (p l : Port) (f : LaneState → LaneState) (s : State) : (modLane p l f s).sol = s.sol := rfl
@[simp] theorem modLane_snf (p l : Port) (f : LaneState → LaneState) (s : State) : (modLane p l f s).snf = s.snf := rfl
@[simp] theorem modLane_sky (p l : Port) (f : LaneState → LaneState) (s : State) : (modLane p l f s).sky = s.sky := rfl
@[simp] theorem modLane_lnk (p l : Port) (f : LaneState → LaneState) (s : State) : (modLane p l f s).lnk = s.lnk := rfl
@[simp] theorem modLane_rfc (p l : Port) (f : LaneState → LaneState) (s : State) : (modLane p l f s).rfc = s.rfc := rfl
@[simp] theorem modLane_aon (p l : Port) (f : LaneState → LaneState) (s : State) : (modLane p l f s).aon = s.aon := rfl
@[simp] theorem modLane_pmu (p l : Port) (f : LaneState → LaneState) (s : State) : (modLane p l f s).pmu = s.pmu := rfl
@[simp] theorem modLane_clk (p l : Port) (f : LaneState → LaneState) (s : State) : (modLane p l f s).clk = s.clk := rfl
@[simp] theorem modLane_boot (p l : Port) (f : LaneState → LaneState) (s : State) : (modLane p l f s).boot = s.boot := rfl
@[simp] theorem modLane_mode (p l : Port) (f : LaneState → LaneState) (s : State) : (modLane p l f s).mode = s.mode := rfl
@[simp] theorem modLane_hst (p l : Port) (f : LaneState → LaneState) (s : State) : (modLane p l f s).hst = s.hst := rfl
@[simp] theorem modLane_obs (p l : Port) (f : LaneState → LaneState) (s : State) : (modLane p l f s).obs = s.obs := rfl
@[simp] theorem modLane_pld (p l : Port) (f : LaneState → LaneState) (s : State) : (modLane p l f s).pld = s.pld := rfl
@[simp] theorem modLane_basin (p l : Port) (f : LaneState → LaneState) (s : State) : (modLane p l f s).basin = s.basin := rfl
@[simp] theorem modLane_ctr (p l : Port) (f : LaneState → LaneState) (s : State) : (modLane p l f s).ctr = s.ctr := rfl
@[simp] theorem modLane_fresh (p l : Port) (f : LaneState → LaneState) (s : State) : (modLane p l f s).fresh = s.fresh := rfl
@[simp] theorem modLane_pending (p l : Port) (f : LaneState → LaneState) (s : State) : (modLane p l f s).pending = s.pending := rfl

@[simp] theorem modBand_spt (b : Band) (f : BandState → BandState) (s : State) : (modBand b f s).spt = s.spt := rfl
@[simp] theorem modBand_acq (b : Band) (f : BandState → BandState) (s : State) : (modBand b f s).acq = s.acq := rfl
@[simp] theorem modBand_trk (b : Band) (f : BandState → BandState) (s : State) : (modBand b f s).trk = s.trk := rfl
@[simp] theorem modBand_msr (b : Band) (f : BandState → BandState) (s : State) : (modBand b f s).msr = s.msr := rfl
@[simp] theorem modBand_sol (b : Band) (f : BandState → BandState) (s : State) : (modBand b f s).sol = s.sol := rfl
@[simp] theorem modBand_snf (b : Band) (f : BandState → BandState) (s : State) : (modBand b f s).snf = s.snf := rfl
@[simp] theorem modBand_sky (b : Band) (f : BandState → BandState) (s : State) : (modBand b f s).sky = s.sky := rfl
@[simp] theorem modBand_lnk (b : Band) (f : BandState → BandState) (s : State) : (modBand b f s).lnk = s.lnk := rfl
@[simp] theorem modBand_rfc (b : Band) (f : BandState → BandState) (s : State) : (modBand b f s).rfc = s.rfc := rfl
@[simp] theorem modBand_aon (b : Band) (f : BandState → BandState) (s : State) : (modBand b f s).aon = s.aon := rfl
@[simp] theorem modBand_pmu (b : Band) (f : BandState → BandState) (s : State) : (modBand b f s).pmu = s.pmu := rfl
@[simp] theorem modBand_clk (b : Band) (f : BandState → BandState) (s : State) : (modBand b f s).clk = s.clk := rfl
@[simp] theorem modBand_boot (b : Band) (f : BandState → BandState) (s : State) : (modBand b f s).boot = s.boot := rfl
@[simp] theorem modBand_mode (b : Band) (f : BandState → BandState) (s : State) : (modBand b f s).mode = s.mode := rfl
@[simp] theorem modBand_hst (b : Band) (f : BandState → BandState) (s : State) : (modBand b f s).hst = s.hst := rfl
@[simp] theorem modBand_obs (b : Band) (f : BandState → BandState) (s : State) : (modBand b f s).obs = s.obs := rfl
@[simp] theorem modBand_pld (b : Band) (f : BandState → BandState) (s : State) : (modBand b f s).pld = s.pld := rfl
@[simp] theorem modBand_basin (b : Band) (f : BandState → BandState) (s : State) : (modBand b f s).basin = s.basin := rfl
@[simp] theorem modBand_ctr (b : Band) (f : BandState → BandState) (s : State) : (modBand b f s).ctr = s.ctr := rfl
@[simp] theorem modBand_fresh (b : Band) (f : BandState → BandState) (s : State) : (modBand b f s).fresh = s.fresh := rfl
@[simp] theorem modBand_pending (b : Band) (f : BandState → BandState) (s : State) : (modBand b f s).pending = s.pending := rfl

@[simp] theorem setLane_spt (n : Fin 16) (r : Option LaneRun) (s : State) : (setLane n r s).spt = s.spt := rfl
@[simp] theorem setLane_ary (n : Fin 16) (r : Option LaneRun) (s : State) : (setLane n r s).ary = s.ary := rfl
@[simp] theorem setLane_trk (n : Fin 16) (r : Option LaneRun) (s : State) : (setLane n r s).trk = s.trk := rfl
@[simp] theorem setLane_msr (n : Fin 16) (r : Option LaneRun) (s : State) : (setLane n r s).msr = s.msr := rfl
@[simp] theorem setLane_sol (n : Fin 16) (r : Option LaneRun) (s : State) : (setLane n r s).sol = s.sol := rfl
@[simp] theorem setLane_snf (n : Fin 16) (r : Option LaneRun) (s : State) : (setLane n r s).snf = s.snf := rfl
@[simp] theorem setLane_sky (n : Fin 16) (r : Option LaneRun) (s : State) : (setLane n r s).sky = s.sky := rfl
@[simp] theorem setLane_lnk (n : Fin 16) (r : Option LaneRun) (s : State) : (setLane n r s).lnk = s.lnk := rfl
@[simp] theorem setLane_rfc (n : Fin 16) (r : Option LaneRun) (s : State) : (setLane n r s).rfc = s.rfc := rfl
@[simp] theorem setLane_aon (n : Fin 16) (r : Option LaneRun) (s : State) : (setLane n r s).aon = s.aon := rfl
@[simp] theorem setLane_pmu (n : Fin 16) (r : Option LaneRun) (s : State) : (setLane n r s).pmu = s.pmu := rfl
@[simp] theorem setLane_clk (n : Fin 16) (r : Option LaneRun) (s : State) : (setLane n r s).clk = s.clk := rfl
@[simp] theorem setLane_boot (n : Fin 16) (r : Option LaneRun) (s : State) : (setLane n r s).boot = s.boot := rfl
@[simp] theorem setLane_mode (n : Fin 16) (r : Option LaneRun) (s : State) : (setLane n r s).mode = s.mode := rfl
@[simp] theorem setLane_hst (n : Fin 16) (r : Option LaneRun) (s : State) : (setLane n r s).hst = s.hst := rfl
@[simp] theorem setLane_obs (n : Fin 16) (r : Option LaneRun) (s : State) : (setLane n r s).obs = s.obs := rfl
@[simp] theorem setLane_pld (n : Fin 16) (r : Option LaneRun) (s : State) : (setLane n r s).pld = s.pld := rfl
@[simp] theorem setLane_basin (n : Fin 16) (r : Option LaneRun) (s : State) : (setLane n r s).basin = s.basin := rfl
@[simp] theorem setLane_ctr (n : Fin 16) (r : Option LaneRun) (s : State) : (setLane n r s).ctr = s.ctr := rfl
@[simp] theorem setLane_fresh (n : Fin 16) (r : Option LaneRun) (s : State) : (setLane n r s).fresh = s.fresh := rfl
@[simp] theorem setLane_pending (n : Fin 16) (r : Option LaneRun) (s : State) : (setLane n r s).pending = s.pending := rfl

@[simp] theorem chanSet_spt (k : Nat) (c : Chan) (s : State) : (chanSet k c s).spt = s.spt := rfl
@[simp] theorem chanSet_ary (k : Nat) (c : Chan) (s : State) : (chanSet k c s).ary = s.ary := rfl
@[simp] theorem chanSet_acq (k : Nat) (c : Chan) (s : State) : (chanSet k c s).acq = s.acq := rfl
@[simp] theorem chanSet_msr (k : Nat) (c : Chan) (s : State) : (chanSet k c s).msr = s.msr := rfl
@[simp] theorem chanSet_sol (k : Nat) (c : Chan) (s : State) : (chanSet k c s).sol = s.sol := rfl
@[simp] theorem chanSet_snf (k : Nat) (c : Chan) (s : State) : (chanSet k c s).snf = s.snf := rfl
@[simp] theorem chanSet_sky (k : Nat) (c : Chan) (s : State) : (chanSet k c s).sky = s.sky := rfl
@[simp] theorem chanSet_lnk (k : Nat) (c : Chan) (s : State) : (chanSet k c s).lnk = s.lnk := rfl
@[simp] theorem chanSet_rfc (k : Nat) (c : Chan) (s : State) : (chanSet k c s).rfc = s.rfc := rfl
@[simp] theorem chanSet_aon (k : Nat) (c : Chan) (s : State) : (chanSet k c s).aon = s.aon := rfl
@[simp] theorem chanSet_pmu (k : Nat) (c : Chan) (s : State) : (chanSet k c s).pmu = s.pmu := rfl
@[simp] theorem chanSet_clk (k : Nat) (c : Chan) (s : State) : (chanSet k c s).clk = s.clk := rfl
@[simp] theorem chanSet_boot (k : Nat) (c : Chan) (s : State) : (chanSet k c s).boot = s.boot := rfl
@[simp] theorem chanSet_mode (k : Nat) (c : Chan) (s : State) : (chanSet k c s).mode = s.mode := rfl
@[simp] theorem chanSet_hst (k : Nat) (c : Chan) (s : State) : (chanSet k c s).hst = s.hst := rfl
@[simp] theorem chanSet_obs (k : Nat) (c : Chan) (s : State) : (chanSet k c s).obs = s.obs := rfl
@[simp] theorem chanSet_pld (k : Nat) (c : Chan) (s : State) : (chanSet k c s).pld = s.pld := rfl
@[simp] theorem chanSet_basin (k : Nat) (c : Chan) (s : State) : (chanSet k c s).basin = s.basin := rfl
@[simp] theorem chanSet_ctr (k : Nat) (c : Chan) (s : State) : (chanSet k c s).ctr = s.ctr := rfl
@[simp] theorem chanSet_fresh (k : Nat) (c : Chan) (s : State) : (chanSet k c s).fresh = s.fresh := rfl
@[simp] theorem chanSet_pending (k : Nat) (c : Chan) (s : State) : (chanSet k c s).pending = s.pending := rfl

@[simp] theorem modShare_spt (p : Polder) (f : FarmShare → FarmShare) (s : State) : (modShare p f s).spt = s.spt := rfl
@[simp] theorem modShare_ary (p : Polder) (f : FarmShare → FarmShare) (s : State) : (modShare p f s).ary = s.ary := rfl
@[simp] theorem modShare_acq (p : Polder) (f : FarmShare → FarmShare) (s : State) : (modShare p f s).acq = s.acq := rfl
@[simp] theorem modShare_trk (p : Polder) (f : FarmShare → FarmShare) (s : State) : (modShare p f s).trk = s.trk := rfl
@[simp] theorem modShare_msr (p : Polder) (f : FarmShare → FarmShare) (s : State) : (modShare p f s).msr = s.msr := rfl
@[simp] theorem modShare_sol (p : Polder) (f : FarmShare → FarmShare) (s : State) : (modShare p f s).sol = s.sol := rfl
@[simp] theorem modShare_sky (p : Polder) (f : FarmShare → FarmShare) (s : State) : (modShare p f s).sky = s.sky := rfl
@[simp] theorem modShare_lnk (p : Polder) (f : FarmShare → FarmShare) (s : State) : (modShare p f s).lnk = s.lnk := rfl
@[simp] theorem modShare_rfc (p : Polder) (f : FarmShare → FarmShare) (s : State) : (modShare p f s).rfc = s.rfc := rfl
@[simp] theorem modShare_aon (p : Polder) (f : FarmShare → FarmShare) (s : State) : (modShare p f s).aon = s.aon := rfl
@[simp] theorem modShare_pmu (p : Polder) (f : FarmShare → FarmShare) (s : State) : (modShare p f s).pmu = s.pmu := rfl
@[simp] theorem modShare_clk (p : Polder) (f : FarmShare → FarmShare) (s : State) : (modShare p f s).clk = s.clk := rfl
@[simp] theorem modShare_boot (p : Polder) (f : FarmShare → FarmShare) (s : State) : (modShare p f s).boot = s.boot := rfl
@[simp] theorem modShare_mode (p : Polder) (f : FarmShare → FarmShare) (s : State) : (modShare p f s).mode = s.mode := rfl
@[simp] theorem modShare_hst (p : Polder) (f : FarmShare → FarmShare) (s : State) : (modShare p f s).hst = s.hst := rfl
@[simp] theorem modShare_obs (p : Polder) (f : FarmShare → FarmShare) (s : State) : (modShare p f s).obs = s.obs := rfl
@[simp] theorem modShare_pld (p : Polder) (f : FarmShare → FarmShare) (s : State) : (modShare p f s).pld = s.pld := rfl
@[simp] theorem modShare_basin (p : Polder) (f : FarmShare → FarmShare) (s : State) : (modShare p f s).basin = s.basin := rfl
@[simp] theorem modShare_ctr (p : Polder) (f : FarmShare → FarmShare) (s : State) : (modShare p f s).ctr = s.ctr := rfl
@[simp] theorem modShare_fresh (p : Polder) (f : FarmShare → FarmShare) (s : State) : (modShare p f s).fresh = s.fresh := rfl
@[simp] theorem modShare_pending (p : Polder) (f : FarmShare → FarmShare) (s : State) : (modShare p f s).pending = s.pending := rfl

@[simp] theorem modSched_spt (p : Polder) (f : SchedWindow → SchedWindow) (s : State) : (modSched p f s).spt = s.spt := rfl
@[simp] theorem modSched_ary (p : Polder) (f : SchedWindow → SchedWindow) (s : State) : (modSched p f s).ary = s.ary := rfl
@[simp] theorem modSched_acq (p : Polder) (f : SchedWindow → SchedWindow) (s : State) : (modSched p f s).acq = s.acq := rfl
@[simp] theorem modSched_trk (p : Polder) (f : SchedWindow → SchedWindow) (s : State) : (modSched p f s).trk = s.trk := rfl
@[simp] theorem modSched_msr (p : Polder) (f : SchedWindow → SchedWindow) (s : State) : (modSched p f s).msr = s.msr := rfl
@[simp] theorem modSched_sol (p : Polder) (f : SchedWindow → SchedWindow) (s : State) : (modSched p f s).sol = s.sol := rfl
@[simp] theorem modSched_snf (p : Polder) (f : SchedWindow → SchedWindow) (s : State) : (modSched p f s).snf = s.snf := rfl
@[simp] theorem modSched_lnk (p : Polder) (f : SchedWindow → SchedWindow) (s : State) : (modSched p f s).lnk = s.lnk := rfl
@[simp] theorem modSched_rfc (p : Polder) (f : SchedWindow → SchedWindow) (s : State) : (modSched p f s).rfc = s.rfc := rfl
@[simp] theorem modSched_aon (p : Polder) (f : SchedWindow → SchedWindow) (s : State) : (modSched p f s).aon = s.aon := rfl
@[simp] theorem modSched_pmu (p : Polder) (f : SchedWindow → SchedWindow) (s : State) : (modSched p f s).pmu = s.pmu := rfl
@[simp] theorem modSched_clk (p : Polder) (f : SchedWindow → SchedWindow) (s : State) : (modSched p f s).clk = s.clk := rfl
@[simp] theorem modSched_boot (p : Polder) (f : SchedWindow → SchedWindow) (s : State) : (modSched p f s).boot = s.boot := rfl
@[simp] theorem modSched_mode (p : Polder) (f : SchedWindow → SchedWindow) (s : State) : (modSched p f s).mode = s.mode := rfl
@[simp] theorem modSched_hst (p : Polder) (f : SchedWindow → SchedWindow) (s : State) : (modSched p f s).hst = s.hst := rfl
@[simp] theorem modSched_obs (p : Polder) (f : SchedWindow → SchedWindow) (s : State) : (modSched p f s).obs = s.obs := rfl
@[simp] theorem modSched_pld (p : Polder) (f : SchedWindow → SchedWindow) (s : State) : (modSched p f s).pld = s.pld := rfl
@[simp] theorem modSched_basin (p : Polder) (f : SchedWindow → SchedWindow) (s : State) : (modSched p f s).basin = s.basin := rfl
@[simp] theorem modSched_ctr (p : Polder) (f : SchedWindow → SchedWindow) (s : State) : (modSched p f s).ctr = s.ctr := rfl
@[simp] theorem modSched_fresh (p : Polder) (f : SchedWindow → SchedWindow) (s : State) : (modSched p f s).fresh = s.fresh := rfl
@[simp] theorem modSched_pending (p : Polder) (f : SchedWindow → SchedWindow) (s : State) : (modSched p f s).pending = s.pending := rfl

@[simp] theorem modTp_spt (n : Fin 2) (f : PulseState → PulseState) (s : State) : (modTp n f s).spt = s.spt := rfl
@[simp] theorem modTp_ary (n : Fin 2) (f : PulseState → PulseState) (s : State) : (modTp n f s).ary = s.ary := rfl
@[simp] theorem modTp_acq (n : Fin 2) (f : PulseState → PulseState) (s : State) : (modTp n f s).acq = s.acq := rfl
@[simp] theorem modTp_trk (n : Fin 2) (f : PulseState → PulseState) (s : State) : (modTp n f s).trk = s.trk := rfl
@[simp] theorem modTp_msr (n : Fin 2) (f : PulseState → PulseState) (s : State) : (modTp n f s).msr = s.msr := rfl
@[simp] theorem modTp_sol (n : Fin 2) (f : PulseState → PulseState) (s : State) : (modTp n f s).sol = s.sol := rfl
@[simp] theorem modTp_snf (n : Fin 2) (f : PulseState → PulseState) (s : State) : (modTp n f s).snf = s.snf := rfl
@[simp] theorem modTp_lnk (n : Fin 2) (f : PulseState → PulseState) (s : State) : (modTp n f s).lnk = s.lnk := rfl
@[simp] theorem modTp_rfc (n : Fin 2) (f : PulseState → PulseState) (s : State) : (modTp n f s).rfc = s.rfc := rfl
@[simp] theorem modTp_aon (n : Fin 2) (f : PulseState → PulseState) (s : State) : (modTp n f s).aon = s.aon := rfl
@[simp] theorem modTp_pmu (n : Fin 2) (f : PulseState → PulseState) (s : State) : (modTp n f s).pmu = s.pmu := rfl
@[simp] theorem modTp_clk (n : Fin 2) (f : PulseState → PulseState) (s : State) : (modTp n f s).clk = s.clk := rfl
@[simp] theorem modTp_boot (n : Fin 2) (f : PulseState → PulseState) (s : State) : (modTp n f s).boot = s.boot := rfl
@[simp] theorem modTp_mode (n : Fin 2) (f : PulseState → PulseState) (s : State) : (modTp n f s).mode = s.mode := rfl
@[simp] theorem modTp_hst (n : Fin 2) (f : PulseState → PulseState) (s : State) : (modTp n f s).hst = s.hst := rfl
@[simp] theorem modTp_obs (n : Fin 2) (f : PulseState → PulseState) (s : State) : (modTp n f s).obs = s.obs := rfl
@[simp] theorem modTp_pld (n : Fin 2) (f : PulseState → PulseState) (s : State) : (modTp n f s).pld = s.pld := rfl
@[simp] theorem modTp_basin (n : Fin 2) (f : PulseState → PulseState) (s : State) : (modTp n f s).basin = s.basin := rfl
@[simp] theorem modTp_ctr (n : Fin 2) (f : PulseState → PulseState) (s : State) : (modTp n f s).ctr = s.ctr := rfl
@[simp] theorem modTp_fresh (n : Fin 2) (f : PulseState → PulseState) (s : State) : (modTp n f s).fresh = s.fresh := rfl
@[simp] theorem modTp_pending (n : Fin 2) (f : PulseState → PulseState) (s : State) : (modTp n f s).pending = s.pending := rfl

@[simp] theorem modEvt_spt (n : Port) (f : EventState → EventState) (s : State) : (modEvt n f s).spt = s.spt := rfl
@[simp] theorem modEvt_ary (n : Port) (f : EventState → EventState) (s : State) : (modEvt n f s).ary = s.ary := rfl
@[simp] theorem modEvt_acq (n : Port) (f : EventState → EventState) (s : State) : (modEvt n f s).acq = s.acq := rfl
@[simp] theorem modEvt_trk (n : Port) (f : EventState → EventState) (s : State) : (modEvt n f s).trk = s.trk := rfl
@[simp] theorem modEvt_msr (n : Port) (f : EventState → EventState) (s : State) : (modEvt n f s).msr = s.msr := rfl
@[simp] theorem modEvt_sol (n : Port) (f : EventState → EventState) (s : State) : (modEvt n f s).sol = s.sol := rfl
@[simp] theorem modEvt_snf (n : Port) (f : EventState → EventState) (s : State) : (modEvt n f s).snf = s.snf := rfl
@[simp] theorem modEvt_lnk (n : Port) (f : EventState → EventState) (s : State) : (modEvt n f s).lnk = s.lnk := rfl
@[simp] theorem modEvt_rfc (n : Port) (f : EventState → EventState) (s : State) : (modEvt n f s).rfc = s.rfc := rfl
@[simp] theorem modEvt_aon (n : Port) (f : EventState → EventState) (s : State) : (modEvt n f s).aon = s.aon := rfl
@[simp] theorem modEvt_pmu (n : Port) (f : EventState → EventState) (s : State) : (modEvt n f s).pmu = s.pmu := rfl
@[simp] theorem modEvt_clk (n : Port) (f : EventState → EventState) (s : State) : (modEvt n f s).clk = s.clk := rfl
@[simp] theorem modEvt_boot (n : Port) (f : EventState → EventState) (s : State) : (modEvt n f s).boot = s.boot := rfl
@[simp] theorem modEvt_mode (n : Port) (f : EventState → EventState) (s : State) : (modEvt n f s).mode = s.mode := rfl
@[simp] theorem modEvt_hst (n : Port) (f : EventState → EventState) (s : State) : (modEvt n f s).hst = s.hst := rfl
@[simp] theorem modEvt_obs (n : Port) (f : EventState → EventState) (s : State) : (modEvt n f s).obs = s.obs := rfl
@[simp] theorem modEvt_pld (n : Port) (f : EventState → EventState) (s : State) : (modEvt n f s).pld = s.pld := rfl
@[simp] theorem modEvt_basin (n : Port) (f : EventState → EventState) (s : State) : (modEvt n f s).basin = s.basin := rfl
@[simp] theorem modEvt_ctr (n : Port) (f : EventState → EventState) (s : State) : (modEvt n f s).ctr = s.ctr := rfl
@[simp] theorem modEvt_fresh (n : Port) (f : EventState → EventState) (s : State) : (modEvt n f s).fresh = s.fresh := rfl
@[simp] theorem modEvt_pending (n : Port) (f : EventState → EventState) (s : State) : (modEvt n f s).pending = s.pending := rfl

@[simp] theorem ctxMod_spt (k : Nat) (f : Ctx → Ctx) (s : State) : (ctxMod k f s).spt = s.spt := rfl
@[simp] theorem ctxMod_ary (k : Nat) (f : Ctx → Ctx) (s : State) : (ctxMod k f s).ary = s.ary := rfl
@[simp] theorem ctxMod_acq (k : Nat) (f : Ctx → Ctx) (s : State) : (ctxMod k f s).acq = s.acq := rfl
@[simp] theorem ctxMod_trk (k : Nat) (f : Ctx → Ctx) (s : State) : (ctxMod k f s).trk = s.trk := rfl
@[simp] theorem ctxMod_msr (k : Nat) (f : Ctx → Ctx) (s : State) : (ctxMod k f s).msr = s.msr := rfl
@[simp] theorem ctxMod_sol (k : Nat) (f : Ctx → Ctx) (s : State) : (ctxMod k f s).sol = s.sol := rfl
@[simp] theorem ctxMod_snf (k : Nat) (f : Ctx → Ctx) (s : State) : (ctxMod k f s).snf = s.snf := rfl
@[simp] theorem ctxMod_sky (k : Nat) (f : Ctx → Ctx) (s : State) : (ctxMod k f s).sky = s.sky := rfl
@[simp] theorem ctxMod_rfc (k : Nat) (f : Ctx → Ctx) (s : State) : (ctxMod k f s).rfc = s.rfc := rfl
@[simp] theorem ctxMod_aon (k : Nat) (f : Ctx → Ctx) (s : State) : (ctxMod k f s).aon = s.aon := rfl
@[simp] theorem ctxMod_pmu (k : Nat) (f : Ctx → Ctx) (s : State) : (ctxMod k f s).pmu = s.pmu := rfl
@[simp] theorem ctxMod_clk (k : Nat) (f : Ctx → Ctx) (s : State) : (ctxMod k f s).clk = s.clk := rfl
@[simp] theorem ctxMod_boot (k : Nat) (f : Ctx → Ctx) (s : State) : (ctxMod k f s).boot = s.boot := rfl
@[simp] theorem ctxMod_mode (k : Nat) (f : Ctx → Ctx) (s : State) : (ctxMod k f s).mode = s.mode := rfl
@[simp] theorem ctxMod_hst (k : Nat) (f : Ctx → Ctx) (s : State) : (ctxMod k f s).hst = s.hst := rfl
@[simp] theorem ctxMod_obs (k : Nat) (f : Ctx → Ctx) (s : State) : (ctxMod k f s).obs = s.obs := rfl
@[simp] theorem ctxMod_pld (k : Nat) (f : Ctx → Ctx) (s : State) : (ctxMod k f s).pld = s.pld := rfl
@[simp] theorem ctxMod_basin (k : Nat) (f : Ctx → Ctx) (s : State) : (ctxMod k f s).basin = s.basin := rfl
@[simp] theorem ctxMod_ctr (k : Nat) (f : Ctx → Ctx) (s : State) : (ctxMod k f s).ctr = s.ctr := rfl
@[simp] theorem ctxMod_fresh (k : Nat) (f : Ctx → Ctx) (s : State) : (ctxMod k f s).fresh = s.fresh := rfl
@[simp] theorem ctxMod_pending (k : Nat) (f : Ctx → Ctx) (s : State) : (ctxMod k f s).pending = s.pending := rfl

@[simp] theorem setTxResult_spt (p : Polder) (v : Nat) (s : State) : (setTxResult p v s).spt = s.spt := rfl
@[simp] theorem setTxResult_ary (p : Polder) (v : Nat) (s : State) : (setTxResult p v s).ary = s.ary := rfl
@[simp] theorem setTxResult_acq (p : Polder) (v : Nat) (s : State) : (setTxResult p v s).acq = s.acq := rfl
@[simp] theorem setTxResult_trk (p : Polder) (v : Nat) (s : State) : (setTxResult p v s).trk = s.trk := rfl
@[simp] theorem setTxResult_msr (p : Polder) (v : Nat) (s : State) : (setTxResult p v s).msr = s.msr := rfl
@[simp] theorem setTxResult_sol (p : Polder) (v : Nat) (s : State) : (setTxResult p v s).sol = s.sol := rfl
@[simp] theorem setTxResult_snf (p : Polder) (v : Nat) (s : State) : (setTxResult p v s).snf = s.snf := rfl
@[simp] theorem setTxResult_sky (p : Polder) (v : Nat) (s : State) : (setTxResult p v s).sky = s.sky := rfl
@[simp] theorem setTxResult_rfc (p : Polder) (v : Nat) (s : State) : (setTxResult p v s).rfc = s.rfc := rfl
@[simp] theorem setTxResult_aon (p : Polder) (v : Nat) (s : State) : (setTxResult p v s).aon = s.aon := rfl
@[simp] theorem setTxResult_pmu (p : Polder) (v : Nat) (s : State) : (setTxResult p v s).pmu = s.pmu := rfl
@[simp] theorem setTxResult_clk (p : Polder) (v : Nat) (s : State) : (setTxResult p v s).clk = s.clk := rfl
@[simp] theorem setTxResult_boot (p : Polder) (v : Nat) (s : State) : (setTxResult p v s).boot = s.boot := rfl
@[simp] theorem setTxResult_mode (p : Polder) (v : Nat) (s : State) : (setTxResult p v s).mode = s.mode := rfl
@[simp] theorem setTxResult_hst (p : Polder) (v : Nat) (s : State) : (setTxResult p v s).hst = s.hst := rfl
@[simp] theorem setTxResult_obs (p : Polder) (v : Nat) (s : State) : (setTxResult p v s).obs = s.obs := rfl
@[simp] theorem setTxResult_pld (p : Polder) (v : Nat) (s : State) : (setTxResult p v s).pld = s.pld := rfl
@[simp] theorem setTxResult_basin (p : Polder) (v : Nat) (s : State) : (setTxResult p v s).basin = s.basin := rfl
@[simp] theorem setTxResult_ctr (p : Polder) (v : Nat) (s : State) : (setTxResult p v s).ctr = s.ctr := rfl
@[simp] theorem setTxResult_fresh (p : Polder) (v : Nat) (s : State) : (setTxResult p v s).fresh = s.fresh := rfl
@[simp] theorem setTxResult_pending (p : Polder) (v : Nat) (s : State) : (setTxResult p v s).pending = s.pending := rfl

@[simp] theorem setRosResult_spt (p : Polder) (v : Nat) (s : State) : (setRosResult p v s).spt = s.spt := rfl
@[simp] theorem setRosResult_ary (p : Polder) (v : Nat) (s : State) : (setRosResult p v s).ary = s.ary := rfl
@[simp] theorem setRosResult_acq (p : Polder) (v : Nat) (s : State) : (setRosResult p v s).acq = s.acq := rfl
@[simp] theorem setRosResult_trk (p : Polder) (v : Nat) (s : State) : (setRosResult p v s).trk = s.trk := rfl
@[simp] theorem setRosResult_msr (p : Polder) (v : Nat) (s : State) : (setRosResult p v s).msr = s.msr := rfl
@[simp] theorem setRosResult_sol (p : Polder) (v : Nat) (s : State) : (setRosResult p v s).sol = s.sol := rfl
@[simp] theorem setRosResult_snf (p : Polder) (v : Nat) (s : State) : (setRosResult p v s).snf = s.snf := rfl
@[simp] theorem setRosResult_sky (p : Polder) (v : Nat) (s : State) : (setRosResult p v s).sky = s.sky := rfl
@[simp] theorem setRosResult_rfc (p : Polder) (v : Nat) (s : State) : (setRosResult p v s).rfc = s.rfc := rfl
@[simp] theorem setRosResult_aon (p : Polder) (v : Nat) (s : State) : (setRosResult p v s).aon = s.aon := rfl
@[simp] theorem setRosResult_pmu (p : Polder) (v : Nat) (s : State) : (setRosResult p v s).pmu = s.pmu := rfl
@[simp] theorem setRosResult_clk (p : Polder) (v : Nat) (s : State) : (setRosResult p v s).clk = s.clk := rfl
@[simp] theorem setRosResult_boot (p : Polder) (v : Nat) (s : State) : (setRosResult p v s).boot = s.boot := rfl
@[simp] theorem setRosResult_mode (p : Polder) (v : Nat) (s : State) : (setRosResult p v s).mode = s.mode := rfl
@[simp] theorem setRosResult_hst (p : Polder) (v : Nat) (s : State) : (setRosResult p v s).hst = s.hst := rfl
@[simp] theorem setRosResult_obs (p : Polder) (v : Nat) (s : State) : (setRosResult p v s).obs = s.obs := rfl
@[simp] theorem setRosResult_pld (p : Polder) (v : Nat) (s : State) : (setRosResult p v s).pld = s.pld := rfl
@[simp] theorem setRosResult_basin (p : Polder) (v : Nat) (s : State) : (setRosResult p v s).basin = s.basin := rfl
@[simp] theorem setRosResult_ctr (p : Polder) (v : Nat) (s : State) : (setRosResult p v s).ctr = s.ctr := rfl
@[simp] theorem setRosResult_fresh (p : Polder) (v : Nat) (s : State) : (setRosResult p v s).fresh = s.fresh := rfl
@[simp] theorem setRosResult_pending (p : Polder) (v : Nat) (s : State) : (setRosResult p v s).pending = s.pending := rfl

@[simp] theorem setLock_spt (l : Pll) (v : Bool) (s : State) : (setLock l v s).spt = s.spt := rfl
@[simp] theorem setLock_ary (l : Pll) (v : Bool) (s : State) : (setLock l v s).ary = s.ary := rfl
@[simp] theorem setLock_acq (l : Pll) (v : Bool) (s : State) : (setLock l v s).acq = s.acq := rfl
@[simp] theorem setLock_trk (l : Pll) (v : Bool) (s : State) : (setLock l v s).trk = s.trk := rfl
@[simp] theorem setLock_msr (l : Pll) (v : Bool) (s : State) : (setLock l v s).msr = s.msr := rfl
@[simp] theorem setLock_sol (l : Pll) (v : Bool) (s : State) : (setLock l v s).sol = s.sol := rfl
@[simp] theorem setLock_snf (l : Pll) (v : Bool) (s : State) : (setLock l v s).snf = s.snf := rfl
@[simp] theorem setLock_sky (l : Pll) (v : Bool) (s : State) : (setLock l v s).sky = s.sky := rfl
@[simp] theorem setLock_lnk (l : Pll) (v : Bool) (s : State) : (setLock l v s).lnk = s.lnk := rfl
@[simp] theorem setLock_rfc (l : Pll) (v : Bool) (s : State) : (setLock l v s).rfc = s.rfc := rfl
@[simp] theorem setLock_aon (l : Pll) (v : Bool) (s : State) : (setLock l v s).aon = s.aon := rfl
@[simp] theorem setLock_pmu (l : Pll) (v : Bool) (s : State) : (setLock l v s).pmu = s.pmu := rfl
@[simp] theorem setLock_boot (l : Pll) (v : Bool) (s : State) : (setLock l v s).boot = s.boot := rfl
@[simp] theorem setLock_mode (l : Pll) (v : Bool) (s : State) : (setLock l v s).mode = s.mode := rfl
@[simp] theorem setLock_hst (l : Pll) (v : Bool) (s : State) : (setLock l v s).hst = s.hst := rfl
@[simp] theorem setLock_obs (l : Pll) (v : Bool) (s : State) : (setLock l v s).obs = s.obs := rfl
@[simp] theorem setLock_pld (l : Pll) (v : Bool) (s : State) : (setLock l v s).pld = s.pld := rfl
@[simp] theorem setLock_basin (l : Pll) (v : Bool) (s : State) : (setLock l v s).basin = s.basin := rfl
@[simp] theorem setLock_ctr (l : Pll) (v : Bool) (s : State) : (setLock l v s).ctr = s.ctr := rfl
@[simp] theorem setLock_fresh (l : Pll) (v : Bool) (s : State) : (setLock l v s).fresh = s.fresh := rfl
@[simp] theorem setLock_pending (l : Pll) (v : Bool) (s : State) : (setLock l v s).pending = s.pending := rfl

/-! ### What they write -/

@[simp] theorem modP_same (p : Polder) (f : PolderState → PolderState) (s : State) : (modP p f s).pld[p] = f s.pld[p] :=
  Vector.getElem_set_self p.isLt

theorem modP_other (p q : Polder) (f : PolderState → PolderState) (s : State) (h : q ≠ p) : (modP p f s).pld[q] = s.pld[q] :=
  Vector.getElem_set_ne p.isLt q.isLt (fun e => h (Fin.ext e.symm))

@[simp] theorem modCore_same (p : Polder) (f : Core → Core) (s : State) : (modCore p f s).pld[p].core = f s.pld[p].core := by
  rw [modCore, modP_same]

@[simp] theorem modCore_ram (p : Polder) (f : Core → Core) (s : State) : (modCore p f s).pld[p].ram = s.pld[p].ram := by
  rw [modCore, modP_same]

@[simp] theorem modCore_win (p : Polder) (f : Core → Core) (s : State) : (modCore p f s).pld[p].win = s.pld[p].win := by
  rw [modCore, modP_same]

theorem modCore_other (p q : Polder) (f : Core → Core) (s : State) (h : q ≠ p) : (modCore p f s).pld[q] = s.pld[q] := modP_other p q _ s h

@[simp] theorem modH_same (p : Polder) (f : PolderHost → PolderHost) (s : State) : (modH p f s).hst.pol[p] = f s.hst.pol[p] :=
  Vector.getElem_set_self p.isLt

theorem modH_other (p q : Polder) (f : PolderHost → PolderHost) (s : State) (h : q ≠ p) : (modH p f s).hst.pol[q] = s.hst.pol[q] :=
  Vector.getElem_set_ne p.isLt q.isLt (fun e => h (Fin.ext e.symm))

@[simp] theorem modPort_same (p : Port) (f : PortState → PortState) (s : State) : (modPort p f s).spt.port[p] = f s.spt.port[p] :=
  Vector.getElem_set_self p.isLt

@[simp] theorem modBand_same (b : Band) (f : BandState → BandState) (s : State) : (modBand b f s).ary.band[b] = f s.ary.band[b] :=
  Vector.getElem_set_self b.isLt

@[simp] theorem modShare_same (p : Polder) (f : FarmShare → FarmShare) (s : State) : (modShare p f s).snf.share[p] = f s.snf.share[p] :=
  Vector.getElem_set_self p.isLt

@[simp] theorem modSched_same (p : Polder) (f : SchedWindow → SchedWindow) (s : State) : (modSched p f s).sky.win[p] = f s.sky.win[p] :=
  Vector.getElem_set_self p.isLt

@[simp] theorem setDom_same (d : Domain) (x : DomPos) (s : State) : domAt (setDom d x s) d = x :=
  Vector.getElem_set_self (domIdx d).isLt


end Sys2Proof.Machine
end

