-- ==== Sys2Proof/Laws/Core.lean ====
section
/-!
SUPPORT. What the shared operations of a core's cycle do: the trace leaves everything but the culvert, a cycle drains the store buffer without changing what the
program reads, and an instruction that completes does what its `Writes` say.
-/

namespace Sys2Proof.Machine

/-! ### Outside the culvert -/

/-- Only the culvert and the counters differ. -/
def obsOnly (s t : State) : Prop := { t with obs := s.obs, ctr := s.ctr } = s

theorem obsOnly_refl (s : State) : obsOnly s s := rfl

theorem obsOnly_trans {s t u : State} (h : obsOnly s t) (k : obsOnly t u) : obsOnly s u := by
  unfold obsOnly at *
  rw [← h, ← k]

theorem obsOnly_ctrAdd (i n : Nat) (s : State) : obsOnly s (ctrAdd i n s) := rfl

theorem obsOnly_obsClose (src : Fin 9) (ty : Nat) (b : List Byte) (s : State) : obsOnly s (obsClose src ty b s) := by
  unfold obsClose
  split
  · rfl
  · dsimp only
    split <;> rfl

theorem obsOnly_closeTrace (p : Polder) (s : State) : obsOnly s (closeTrace p s) := by
  unfold closeTrace
  dsimp only
  split
  · rfl
  · exact obsOnly_trans (t := modObs _ s) rfl (obsOnly_obsClose _ _ _ _)

theorem obsOnly_traceEntry (p : Polder) (k d g : Nat) (l : BitVec 32) (s : State) : obsOnly s (traceEntry p k d g l s) := by
  unfold traceEntry
  dsimp only
  split
  · exact obsOnly_trans (t := modObs _ s) rfl (obsOnly_closeTrace p _)
  · rfl

theorem obsOnly_traceSync (p : Polder) (s : State) : obsOnly s (traceSync p s) := by
  unfold traceSync
  split
  · rfl
  · dsimp only
    split
    · exact obsOnly_traceEntry p _ _ _ _ s
    · rfl

theorem obsOnly_traceMark (p : Polder) (k g : Nat) (s : State) : obsOnly s (traceMark p k g s) := by
  unfold traceMark
  dsimp only
  split
  · exact obsOnly_traceSync p s
  · exact obsOnly_trans (obsOnly_traceSync p s) (obsOnly_traceEntry p _ _ _ _ _)

theorem traceSync_untraced {p : Polder} {s : State} (h : traced s p = false) : traceSync p s = s := by
  rw [traceSync, if_pos h]

theorem traceMark_untraced {p : Polder} {s : State} (k g : Nat) (h : traced s p = false) : traceMark p k g s = s := by
  unfold traceMark
  rw [traceSync_untraced h]
  exact if_pos h

theorem obsOnly_pld {s t : State} (h : obsOnly s t) : t.pld = s.pld := by
  have := congrArg State.pld h
  exact this

/-! ### The end of an instruction -/

theorem traced_modCore (p : Polder) (f : Core → Core) (s : State) : traced (modCore p f s) p = traced s p := by
  unfold traced
  congr 1
  unfold isDry modCore
  rw [modP_same]

/-- The registers of an instruction that commits, and that nothing else moves but its trace. -/
theorem commit_spec (p : Polder) (c0 : Core) (len : Nat) (w : Writes) (u : State) (h : coreLive u p = true) :
    (commit p c0 len w u).pld[p].core = applyWrites c0 len w u.pld[p].core ∧
      { (commit p c0 len w u).pld[p] with core := {} } = { u.pld[p] with core := {} } ∧ elsewhere p u (commit p c0 len w u) := by
  have key : obsOnly (modCore p (applyWrites c0 len w) u) (commit p c0 len w u) ∧
      (traced u p = false → commit p c0 len w u = modCore p (applyWrites c0 len w) u) := by
    unfold commit
    rw [h, if_neg (by decide)]
    dsimp only
    have ht := traced_modCore p (applyWrites c0 len w) u
    split
    · split
      · exact ⟨obsOnly_traceSync p _, fun e => traceSync_untraced (ht.trans e)⟩
      · exact ⟨obsOnly_traceMark p _ _ _, fun e => traceMark_untraced _ _ (ht.trans e)⟩
    · exact ⟨obsOnly_traceSync p _, fun e => traceSync_untraced (ht.trans e)⟩
  obtain ⟨ho, ht⟩ := key
  have hp := obsOnly_pld ho
  refine ⟨?_, ?_, ?_, ?_, ?_⟩
  · rw [hp]; exact modCore_same p _ u
  · rw [hp, modCore, modP_same]
  · unfold obsOnly at ho
    have := congrArg (fun (x : State) => { x with pld := u.pld, obs := u.obs, ctr := u.ctr }) ho
    exact this
  · intro q hq
    rw [hp]
    exact modCore_other p q _ u hq
  · intro e
    rw [ht e]
    exact ⟨rfl, rfl⟩

/-- An instruction that executes and whose accesses leave the core live ends as its `Writes` say. -/
theorem runOp_executes {s : State} {p : Polder} {op : OhmOp} {c0 : Core} {i : OhmInstr} {len : Nat}
    {body : Core → OhmInstr → State → Writes × State} (h : executes s p op c0 i len) :
    runOp p op body s = .next (commit p c0 len (body c0 i (begun p c0 s)).1 (body c0 i (begun p c0 s)).2) := by
  unfold runOp
  rw [h.1]
  simp only [h.2, if_true, begun]

/-- What cannot be repeated starts with no repeat. -/
theorem executes_once {s : State} {p : Polder} {op : OhmOp} {c0 : Core} {i : OhmInstr} {len : Nat} (h : executes s p op c0 i len)
    (ho : runsOnce op = true) : c0.rpt = none := by
  obtain ⟨hr, rfl⟩ := h
  unfold ready at hr
  dsimp only at hr
  split at hr
  · simp only [Option.some.injEq, Prod.mk.injEq] at hr
    obtain ⟨h1, h2⟩ := hr
    rw [h2] at h1
    rw [← h1]
    unfold startCore
    split
    · assumption
    · simp [Fetched.repeatable, ho]
  · cases hr

/-- A core that executes an instruction is running. -/
theorem executes_live {s : State} {p : Polder} {op : OhmOp} {c0 : Core} {i : OhmInstr} {len : Nat} (h : executes s p op c0 i len) :
    s.pld[p].core.phase = .running := by
  obtain ⟨hr, _⟩ := h
  unfold ready at hr
  dsimp only at hr
  split at hr
  · rename_i hc
    simp only [coreRunning, coreLive, Bool.and_eq_true, beq_iff_eq] at hc
    exact hc.1.1.2
  · cases hr

/-! ### Cycles -/

/-- What the store buffer makes of an address: its last byte for it, oldest entry first. -/
theorem sbPeek_eq (s : State) (p : Polder) (a : Nat) :
    sbPeek s p a = match s.pld[p].core.sb.flatten.reverse.find? (fun x => x.1 == a) with | some x => x.2 | none => sget (fun _ => 0) s.pld[p].ram a := rfl

/-- Only polder `p`'s cycle count, store buffer and RAM differ, and the RAM reads the same through the buffer. -/
def drained (p : Polder) (s t : State) : Prop :=
  { t with pld := s.pld } = s ∧ (∀ q : Polder, q ≠ p → t.pld[q] = s.pld[q]) ∧
    { t.pld[p] with core := {}, ram := [] } = { s.pld[p] with core := {}, ram := [] } ∧
    { t.pld[p].core with cycles := 0, sb := [] } = { s.pld[p].core with cycles := 0, sb := [] } ∧
    (Memory.wf (fun _ => 0) s.pld[p].ram = true → Memory.wf (fun _ => 0) t.pld[p].ram = true ∧ ∀ a, sbPeek t p a = sbPeek s p a)

theorem drained_refl (p : Polder) (s : State) : drained p s s := ⟨rfl, fun _ _ => rfl, rfl, rfl, fun h => ⟨h, fun _ => rfl⟩⟩

theorem drained_trans {p : Polder} {s t u : State} (h : drained p s t) (k : drained p t u) : drained p s u := by
  obtain ⟨a1, a2, a3, a4, a5⟩ := h
  obtain ⟨b1, b2, b3, b4, b5⟩ := k
  refine ⟨?_, fun q hq => (b2 q hq).trans (a2 q hq), b3.trans a3, b4.trans a4, fun hw => ?_⟩
  · have := congrArg (fun (x : State) => { x with pld := s.pld }) b1
    exact this.trans a1
  · obtain ⟨c1, c2⟩ := a5 hw
    obtain ⟨d1, d2⟩ := b5 c1
    exact ⟨d1, fun a => (d2 a).trans (c2 a)⟩

theorem drained_countCycle (p : Polder) (s : State) : drained p s (countCycle p s) := by
  refine ⟨rfl, fun q hq => modCore_other p q _ s hq, ?_, ?_, fun h => ⟨?_, fun a => ?_⟩⟩
  · unfold countCycle modCore; rw [modP_same]
  · unfold countCycle; rw [modCore_same]
  · unfold countCycle; rw [modCore_ram]; exact h
  · rw [sbPeek_eq, sbPeek_eq]; unfold countCycle; rw [modCore_same, modCore_ram]

theorem drained_drainOne (p : Polder) (s : State) : drained p s (drainOne p s) := by
  unfold drainOne
  split
  · exact drained_refl p s
  · rename_i e r he
    refine ⟨rfl, fun q hq => modP_other p q _ s hq, ?_, ?_, fun h => ⟨?_, fun a => ?_⟩⟩
    · rw [modP_same]
    · rw [modP_same]
    · rw [modP_same]; exact swf_foldl_sset _ e _ h
    · rw [sbPeek_eq, sbPeek_eq, modP_same, he]
      rw [sget_foldl_sset _ e _ a h, List.flatten_cons, List.reverse_append, List.find?_append]
      cases r.flatten.reverse.find? (fun x => x.1 == a) <;> rfl

theorem drained_coreCycle (p : Polder) (b f : Bool) (s : State) : drained p s (coreCycle p b f s) := by
  unfold coreCycle
  split
  · exact drained_countCycle p s
  · exact drained_trans (drained_drainOne p s) (drained_countCycle p _)

theorem drained_repeat (p : Polder) (f : State → State) (hf : ∀ s, drained p s (f s)) : ∀ (n : Nat) (s : State), drained p s (n.repeat f s) := by
  intro n
  induction n with
  | zero => intro s; exact drained_refl p s
  | succ n ih => intro s; exact drained_trans (ih s) (hf _)

theorem drained_idleCycles (p : Polder) (n : Nat) (s : State) : drained p s (idleCycles p n s) :=
  drained_repeat p _ (drained_coreCycle p false false) n s

theorem drained_drainAll (p : Polder) (s : State) : drained p s (drainAll p s) := drained_idleCycles p _ s

theorem drained_begun {p : Polder} {s t : State} (h : drained p s t) : t.pld[p].core.phase = s.pld[p].core.phase := by
  have := congrArg Core.phase h.2.2.2.1
  exact this

theorem coreLive_drained {p : Polder} {s t : State} (h : drained p s t) : coreLive t p = coreLive s p := by
  unfold coreLive
  rw [drained_begun h]

theorem coreLive_begun {s : State} {p : Polder} {op : OhmOp} {c0 : Core} {i : OhmInstr} {len : Nat} (h : executes s p op c0 i len) :
    coreLive (begun p c0 s) p = true := by
  unfold coreLive begun
  rw [modCore_same, executes_live h]
  rfl

end Sys2Proof.Machine
end

