-- ==== Sys2Proof/Laws/Memory.lean ====
section
/-!
SUPPORT. Every operation that writes a memory keeps the canonical form of all of them: the sample basin, the counters, the channels, the link contexts, and each
polder's RAM and windows. The machine after reset has it.
-/

namespace Sys2Proof.Machine

/-- The memories of two states are the same. -/
theorem memWf_same {s t : State} (h1 : t.basin = s.basin) (h2 : t.ctr = s.ctr) (h3 : t.trk.chan = s.trk.chan) (h4 : t.lnk.ctx = s.lnk.ctx) (h5 : t.pld = s.pld)
    (h : s.memWf) : t.memWf := by
  unfold State.memWf at *
  rw [h1, h2, h3, h4, h5]
  exact h

/-- A repeated operation. -/
theorem memWf_repeat (f : State → State) (n : Nat) (s : State) (h : s.memWf) (k : ∀ t, t.memWf → (f t).memWf) : (n.repeat f s).memWf := by
  induction n with
  | zero => exact h
  | succ n ih => exact k _ ih

theorem memWf_reset : State.reset.memWf := by
  refine ⟨rfl, rfl, rfl, rfl, fun p => ?_⟩
  show (Vector.replicate 8 ({} : PolderState))[p].memWf = true
  simp
  rfl

/-! ### One memory at a time -/

theorem memWf_ctrAdd (i n : Nat) (s : State) (h : s.memWf) : (ctrAdd i n s).memWf :=
  ⟨h.1, swf_sset _ _ _ _ h.2.1, h.2.2.1, h.2.2.2.1, h.2.2.2.2⟩

theorem memWf_basinPut (a : Nat) (x : List Byte) (s : State) (h : s.memWf) : (basinPut a x s).memWf :=
  ⟨swf_swrite _ _ _ _ (swf_swrite _ _ _ _ h.1), h.2.1, h.2.2.1, h.2.2.2.1, h.2.2.2.2⟩

theorem memWf_chanSet (k : Nat) (x : Chan) (s : State) (h : s.memWf) : (chanSet k x s).memWf :=
  ⟨h.1, h.2.1, swf_sset _ _ _ _ h.2.2.1, h.2.2.2.1, h.2.2.2.2⟩

theorem memWf_ctxMod (k : Nat) (f : Ctx → Ctx) (s : State) (h : s.memWf) : (ctxMod k f s).memWf :=
  ⟨h.1, h.2.1, h.2.2.1, swf_sset _ _ _ _ h.2.2.2.1, h.2.2.2.2⟩

/-- The two memories of a polder. -/
theorem polder_memWf {q : PolderState} : q.memWf = true ↔ Memory.wf (fun _ => 0) q.ram = true ∧ Memory.wf winDflt q.win = true := by
  unfold PolderState.memWf
  simp

/-- A change of one polder that keeps its own memories in form. -/
theorem memWf_modP (p : Polder) (f : PolderState → PolderState) (s : State) (h : s.memWf) (k : ∀ q, q.memWf = true → (f q).memWf = true) :
    (modP p f s).memWf := by
  obtain ⟨a, b, c, d, e⟩ := h
  refine ⟨a, b, c, d, fun q => ?_⟩
  by_cases hq : q = p
  · subst hq; rw [modP_same]; exact k _ (e q)
  · rw [modP_other p q _ _ hq]; exact e q

theorem memWf_modCore (p : Polder) (f : Core → Core) (s : State) (h : s.memWf) : (modCore p f s).memWf := memWf_modP p _ s h fun _ hq => hq

theorem memWf_ramPut (p : Polder) (a : Nat) (v : Byte) (s : State) (h : s.memWf) : (ramPut p a v s).memWf :=
  memWf_modP p _ s h fun _ hq => polder_memWf.2 ⟨swf_sset _ _ _ _ (polder_memWf.1 hq).1, (polder_memWf.1 hq).2⟩

theorem memWf_winPut (p : Polder) (a : Nat) (v : List Byte) (s : State) (h : s.memWf) : (winPut p a v s).memWf :=
  memWf_modP p _ s h fun _ hq => polder_memWf.2 ⟨(polder_memWf.1 hq).1, swf_swrite _ _ _ _ (polder_memWf.1 hq).2⟩

theorem memWf_winStore (p : Polder) (a : Nat) (v : Byte) (s : State) (h : s.memWf) : (winStore p a v s).memWf := memWf_winPut p a _ s h

/-! ### The store buffer and the program's image -/

theorem memWf_drainOne (p : Polder) (s : State) (h : s.memWf) : (drainOne p s).memWf := by
  unfold drainOne
  split
  · exact h
  · exact memWf_modP p _ s h fun _ hq => polder_memWf.2 ⟨swf_foldl_sset _ _ _ (polder_memWf.1 hq).1, (polder_memWf.1 hq).2⟩

theorem memWf_coreCycle (p : Polder) (busy fresh : Bool) (s : State) (h : s.memWf) : (coreCycle p busy fresh s).memWf := by
  unfold coreCycle countCycle
  refine memWf_modCore p _ _ ?_
  split
  · exact h
  · exact memWf_drainOne p s h

theorem memWf_idleCycles (p : Polder) (n : Nat) (s : State) (h : s.memWf) : (idleCycles p n s).memWf :=
  memWf_repeat _ n s h fun t ht => memWf_coreCycle p false false t ht

theorem memWf_drainAll (p : Polder) (s : State) (h : s.memWf) : (drainAll p s).memWf := memWf_idleCycles p _ s h

theorem memWf_sbPush (p : Polder) (cells : List Host.Cell) (s : State) (h : s.memWf) : (sbPush p cells s).memWf := memWf_modCore p _ s h

theorem memWf_loadRam (p : Polder) (s : State) (h : s.memWf) : (loadRam p s).memWf := by
  unfold loadRam
  split
  · split
    · refine memWf_modP p _ s h fun q hq => polder_memWf.2 ⟨?_, (polder_memWf.1 hq).2⟩
      rename_i l _
      have key : ∀ (l : List (Nat × Nat × List Byte)) (m : List Host.Cell), Memory.wf (fun _ => 0) m = true →
          Memory.wf (fun _ => 0) (l.foldl (fun m x => swrite (fun _ => 0) m x.1 x.2.2) m) = true := by
        intro l
        induction l with
        | nil => intro m hm; exact hm
        | cons x r ih => intro m hm; exact ih _ (swf_swrite _ _ _ _ hm)
      exact key l _ (polder_memWf.1 hq).1
    · exact h
  · exact h

end Sys2Proof.Machine
end

