-- ==== Sys2Proof/Laws/Ops.lean ====
section
/-!
SUPPORT. What each shared operation changes, said once: the counters, the culvert's packets, basin records, the basin, the
polders' side of things. An `_eta` lemma gives an operation as an update of the fields it owns; the fields' new values stay folded.
-/

namespace Sys2Proof.Machine

theorem ctrAdd_eta (i n : Nat) (s : State) : ctrAdd i n s = { s with ctr := (ctrAdd i n s).ctr } := rfl

theorem obsClose_eta (src : Fin 9) (ty : Nat) (b : List Byte) (s : State) :
    obsClose src ty b s = { s with obs := (obsClose src ty b s).obs, ctr := (obsClose src ty b s).ctr } := by
  unfold obsClose; dsimp only; split
  · rfl
  · split <;> rfl

theorem bump_eta (i : Nat) (s : State) : bump i s = { s with obs := (bump i s).obs, ctr := (bump i s).ctr } := by
  unfold bump; dsimp only; split
  · rw [obsClose_eta]; rfl
  · rfl

theorem bumpIf_eta (c : Bool) (i : Nat) (s : State) : bumpIf c i s = { s with obs := (bumpIf c i s).obs, ctr := (bumpIf c i s).ctr } := by
  unfold bumpIf; split
  · exact bump_eta i s
  · rfl

theorem basinPut_eta (a : Nat) (b : List Byte) (s : State) : basinPut a b s = { s with basin := (basinPut a b s).basin } := rfl

/-- The basin queue after a record (18_host_ports R447). -/
def afterRec (cls kind : Nat) (content : List Byte) (s : State) : OutQueue :=
  (pushRec 0 (cfg s hstSlotsOutqB) (leBytes 2 0x1202) cls (leBytes 2 kind ++ content) (stNow s) s.hst.outB).q

theorem recB_eta (cls kind : Nat) (content : List Byte) (s : State) :
    recB cls kind content s = { s with
      hst := { s.hst with outB := afterRec cls kind content s },
      obs := (recB cls kind content s).obs, ctr := (recB cls kind content s).ctr } := by
  have h : ∀ u : State, (if cfgB s obsCfgEvtBasin then obsClose 8 2 (leBytes 2 kind ++ content) u else u) =
      { u with obs := (if cfgB s obsCfgEvtBasin then obsClose 8 2 (leBytes 2 kind ++ content) u else u).obs,
               ctr := (if cfgB s obsCfgEvtBasin then obsClose 8 2 (leBytes 2 kind ++ content) u else u).ctr } := by
    intro u; split
    · exact obsClose_eta 8 2 _ u
    · rfl
  unfold recB; dsimp only
  refine (h _).trans ?_
  (repeat' split) <;> rfl

/-! ### Counters -/

/-- A write leaves every other key as it was, canonical or not. -/
theorem sget_sset_ne {α : Type} [DecidableEq α] (d : Nat → α) (k : Nat) (v : α) (j : Nat) (h : j ≠ k) :
    ∀ l : List (Nat × α), sget d (sset d l k v) j = sget d l j
  | [] => by
    simp only [sset]; split
    · rfl
    · rw [sget_cons, if_neg h]
  | (i, w) :: r => by
    have ih := sget_sset_ne d k v j h r
    simp only [sset]
    split
    · split
      · rfl
      · rw [sget_cons, if_neg h]
    · split
      · subst_vars
        split
        · rw [sget_cons, if_neg h]
        · rw [sget_cons, if_neg h, sget_cons, if_neg h]
      · rw [sget_cons, sget_cons, ih]

/-- A written value that is not the default is read back, canonical or not. -/
theorem sget_sset_self {α : Type} [DecidableEq α] (d : Nat → α) (k : Nat) (v : α) (h : v ≠ d k) :
    ∀ l : List (Nat × α), sget d (sset d l k v) k = v
  | [] => by rw [sset, if_neg h, sget_cons, if_pos rfl]
  | (i, w) :: r => by
    have ih := sget_sset_self d k v h r
    simp only [sset, if_neg h]
    split
    · rw [sget_cons, if_pos rfl]
    · split
      · rw [sget_cons, if_pos rfl]
      · rw [sget_cons, if_neg (by assumption), ih]

theorem ctrGet_ctrAdd_self (i n : Nat) (hn : 0 < n) (s : State) : ctrGet (ctrAdd i n s) i = min (ctrGet s i + n) (2 ^ 32 - 1) := by
  show sget _ (sset _ s.ctr i _) i = _
  rw [sget_sset_self _ _ _ (by unfold satInc; show min _ _ ≠ 0; omega)]; rfl

theorem ctrGet_ctrAdd_ne (i n j : Nat) (h : j ≠ i) (s : State) : ctrGet (ctrAdd i n s) j = ctrGet s j := sget_sset_ne _ _ _ _ h _

/-- Closing a packet counts at most a drop of the culvert, at 256 to 264. -/
theorem ctrGet_obsClose (src : Fin 9) (ty : Nat) (b : List Byte) (s : State) (j : Nat) (h : j < 256 ∨ 264 < j) :
    ctrGet (obsClose src ty b s) j = ctrGet s j := by
  unfold obsClose; dsimp only; split
  · rfl
  · split
    · rfl
    · rw [ctrGet_ctrAdd_ne]
      · rfl
      · have := src.isLt
        unfold cObsObsDropsC cObsObsDrops0
        split <;> omega

theorem ctrGet_bump_ne (i j : Nat) (hi : j ≠ i) (h : j < 256 ∨ 264 < j) (s : State) : ctrGet (bump i s) j = ctrGet s j := by
  unfold bump; dsimp only; split
  · rw [ctrGet_obsClose _ _ _ _ _ h, ctrGet_ctrAdd_ne _ _ _ hi]
  · exact ctrGet_ctrAdd_ne _ _ _ hi _

theorem ctrGet_bump_self (i : Nat) (s : State) : ctrGet (bump i s) i = min (ctrGet s i + 1) (2 ^ 32 - 1) := by
  unfold bump; dsimp only; split
  · rename_i h
    rw [ctrGet_obsClose _ _ _ _ _ (Or.inl h.1), ctrGet_ctrAdd_self _ _ (by omega)]
  · exact ctrGet_ctrAdd_self _ _ (by omega) _

/-- A basin record counts at most its queue's spills and folds and the culvert's drops. -/
theorem ctrGet_recB (cls kind : Nat) (content : List Byte) (s : State) (j : Nat) (h1 : j ≠ cHstOutSpillB) (h2 : j ≠ cHstC0FoldsB)
    (h : j < 256 ∨ 264 < j) : ctrGet (recB cls kind content s) j = ctrGet s j := by
  have e : ∀ (b : Bool) (u : State), ctrGet (if b then obsClose 8 2 (leBytes 2 kind ++ content) u else u) j = ctrGet u j := by
    intro b u; split
    · exact ctrGet_obsClose _ _ _ _ _ h
    · rfl
  unfold recB; dsimp only
  rw [e]
  split
  · split
    · rfl
    · rw [ctrGet_ctrAdd_ne _ _ _ h1]; rfl
  · split
    · rw [ctrGet_ctrAdd_ne _ _ _ h2]; rfl
    · rw [ctrGet_ctrAdd_ne _ _ _ h2, ctrGet_ctrAdd_ne _ _ _ h1]; rfl

end Sys2Proof.Machine
end

