-- ==== Sys2Proof/Machine/Phy.lean ====
section
/-!
DEFINITION. The chips of the tag link (10_tag_link R249, R250, R252, R258, R263): what `LRF_OUT` sends for the emission on air.
-/

namespace Sys2Proof.Machine

/-- A chip: −1 for true, +1 for false (10_tag_link R250). -/
abbrev Chip := Bool

/-- The 9-bit register that the sequence of a code starts from (10_tag_link R250). -/
def codeSeed (k : Nat) : BitVec 9 := BitVec.ofNat 9 (0x1FF - 29 * k)

/-- The generator's next register. -/
def codeShift (r : BitVec 9) : BitVec 9 := (r >>> 1) ||| (if r.getLsbD 0 != r.getLsbD 5 then 0x100 else 0)

/-- The first chips of the sequence from a register. -/
def codeChips : Nat → BitVec 9 → List Chip
  | 0, _ => []
  | n + 1, r => r.getLsbD 0 :: codeChips n (codeShift r)

/-- A symbol's chips: the sequence from its start, turned over for a bit of 1. -/
def symbolChips (k sf : Nat) (bit : Bool) : List Chip := (codeChips sf (codeSeed k)).map (· != bit)

/-- Bits of bytes, least significant first. -/
def sentBits (l : List Byte) : List Bool := l.flatMap fun b => (List.range 8).map b.getLsbD

/-- Bits of a 32-bit word, bit 31 first. -/
def wordBits (w : Nat) : List Bool := (List.range 32).map fun i => w.testBit (31 - i)

/-- SF, REP and PRE_SF of a channel (10_tag_link Table 10-1). -/
def chanSf (s : State) (ch : Nat) : Nat := 8 * 2 ^ cfgAt s lnkChanSf ch
@[inherit_doc chanSf] def chanRep (s : State) (ch : Nat) : Nat := 2 ^ cfgAt s lnkChanRep ch
@[inherit_doc chanSf] def chanPreSf (s : State) (ch : Nat) : Nat := 8 * 2 ^ cfgAt s lnkChanPreSf ch

/-- Chips of bits at T_bit: each bit as REP symbols of length SF. -/
def bitChips (s : State) (ch : Nat) (l : List Bool) : List Chip :=
  l.flatMap fun b => (List.replicate (chanRep s ch) (symbolChips (cfgAt s lnkChanCode ch) (chanSf s ch) b)).flatten

/-- Preamble and sync word at PRE_SF (10_tag_link R252). -/
def preambleChips (s : State) (ch : Nat) : List Chip :=
  (List.replicate 64 false ++ wordBits (cfgAt s lnkChanSync ch)).flatMap (symbolChips (cfgAt s lnkChanCode ch) (chanPreSf s ch))

/-- The chips of an emission: a frame or the beacon after preamble and sync (10_tag_link R252, R263); an acknowledgement after 16 bits of 0 and the
complement of SYNC, all at T_bit (10_tag_link R258; the word's bit 31 first, as in a frame: log entry 93). -/
def emissionChips (s : State) (e : Emission) : List Chip :=
  let ch := e.chan.val
  match e.kind with
  | .ack _ _ => bitChips s ch (List.replicate 16 false ++ (wordBits (cfgAt s lnkChanSync ch)).map (!·) ++ sentBits e.frame)
  | _ => preambleChips s ch ++ bitChips s ch (sentBits e.frame)

/-- What `LRF_OUT` sends: the chips of the emission on air, none while there is none. -/
def lrfOut (s : State) : List Chip :=
  match s.lnk.air with
  | some e => emissionChips s e
  | none => []

end Sys2Proof.Machine
end

