-- ==== Sys2Proof/Laws/Phy.lean ====
section
/-!
SUPPORT. Lengths of what the tag link sends in chips (10_tag_link R250, R252).
-/

namespace Sys2Proof.Machine

@[simp] theorem length_codeChips (n : Nat) (r : BitVec 9) : (codeChips n r).length = n := by
  induction n generalizing r with
  | zero => rfl
  | succ n ih => simp [codeChips, ih]

@[simp] theorem length_symbolChips (k sf : Nat) (b : Bool) : (symbolChips k sf b).length = sf := by simp [symbolChips]

@[simp] theorem length_wordBits (w : Nat) : (wordBits w).length = 32 := by simp [wordBits]

@[simp] theorem length_sentBits (l : List Byte) : (sentBits l).length = 8 * l.length := by
  induction l with
  | nil => rfl
  | cons b r ih => simp only [sentBits, List.flatMap_cons, List.length_append, List.length_map, List.length_range, List.length_cons] at ih ⊢; omega

@[simp] theorem length_bitChips (s : State) (ch : Nat) (l : List Bool) : (bitChips s ch l).length = l.length * (chanRep s ch * chanSf s ch) := by
  induction l with
  | nil => simp [bitChips]
  | cons b r ih =>
    simp only [bitChips, List.flatMap_cons, List.length_append, List.length_cons, Nat.succ_mul] at ih ⊢
    rw [ih]; simp [List.length_flatten, Nat.add_comm]

theorem length_flatMap_const {α β : Type} {f : α → List β} {n : Nat} (h : ∀ a, (f a).length = n) (l : List α) : (l.flatMap f).length = l.length * n := by
  induction l with
  | nil => simp
  | cons a r ih => rw [List.flatMap_cons, List.length_append, ih, h, List.length_cons, Nat.succ_mul, Nat.add_comm]

@[simp] theorem length_preambleChips (s : State) (ch : Nat) : (preambleChips s ch).length = 96 * chanPreSf s ch := by
  unfold preambleChips
  rw [length_flatMap_const (n := chanPreSf s ch) (fun b => length_symbolChips _ _ b), List.length_append, List.length_replicate, length_wordBits]

/-- A symbol of a 1 is the symbol of a 0 turned over. -/
theorem symbolChips_true (k sf : Nat) : symbolChips k sf true = (symbolChips k sf false).map (!·) := by simp [symbolChips]

/-- A launch and the beacon take 96 symbols of PRE_SF and REP symbols of SF for each bit of the frame. -/
theorem length_emissionChips (s : State) (e : Emission) (h : ∀ p ch, e.kind ≠ .ack p ch) :
    (emissionChips s e).length = 96 * chanPreSf s e.chan.val + 8 * e.frame.length * (chanRep s e.chan.val * chanSf s e.chan.val) := by
  unfold emissionChips
  split
  · exact absurd ‹_› (h _ _)
  · simp

end Sys2Proof.Machine
end

