-- ==== Sys2Proof/Tests/Slice0.lean ====
section
/-!
SUPPORT. Tests of the model: encodings that the manual writes out, single steps with results worked out from the manual's rules, a refusal
of each well-formedness check, and for each statement states and operands that meet its hypotheses (clause by clause, at the ends
of their ranges).
-/

set_option Elab.async false

namespace Sys2Proof.Tests

open Sys2Proof Sys2Proof.Machine

/-! ### Small states -/

/-- A device that runs from a counted tick, with these domains on and these parameter blocks, and nothing else. -/
def device (ds : List Domain) (bs : List ParamBlock) : State :=
  let s := State.reset
  ds.foldl (fun t d => setDom d .on t) { s with
    mode := { s.mode with life := .run }, sky := { s.sky with run := true }, boot := { s.boot with blocks := bs } }

/-- Change polder 0. -/
def pol0 (f : PolderState → PolderState) (s : State) : State := modP 0 f s

/-- Polder 0 of a device runs at 0x1000 with these program bytes there, S 0x7000, X 0x2000, Y 0x2100, A 0x42 and key flow over. -/
def program (bytes : List Byte) (s : State) : State :=
  pol0 (fun q => { q with
    key := .done
    ram := swrite (fun _ => 0) q.ram 0x1000 bytes
    core := { q.core with phase := .running, p := 0x1000, s := 0x7000, x := 0x2000, y := 0x2100, a := 0x42 } }) s

/-- The device of most core tests: polder 0 alone has power. -/
def ohm (bytes : List Byte) : State := program bytes (device [.pld 0] [])

/-- The core as `ready` shows it in such a test. -/
def ohmCore : Core := { phase := .running, p := 0x1000, s := 0x7000, x := 0x2000, y := 0x2100, a := 0x42 }

/-- The sky time is `q` seconds at tick 10¹⁰. -/
def clock (q : Rat) (s : State) : State := { s with sky := { s.sky with tick := 10000000000, seg := ⟨10000000000, q, 1 / 491520000⟩ } }

/-- A common parameter block. -/
def common (code words val : Nat) : ParamBlock := ⟨8, code, words, val⟩

/-- The basin queue is not empty, or is. -/
def withMode (f : ModeState → ModeState) (s : State) : State := { s with mode := f s.mode }


/-- The memories are canonical and no counter has counted. -/
def sound (s : State) : Bool :=
  Memory.wf basinDflt s.basin && s.ctr.isEmpty && swf (fun _ => ({} : Chan)) s.trk.chan && swf (fun _ => ({} : Ctx)) s.lnk.ctx && (List.finRange 8).all fun p => s.pld[p].memWf

theorem sound_meets {s : State} (h : sound s = true) : s.memWf ∧ s.ctrWf ∧ ∀ p : Polder, s.pld[p].memWf = true := by
  simp only [sound, Bool.and_eq_true, List.all_eq_true, List.isEmpty_iff] at h
  obtain ⟨⟨⟨⟨hb, hc⟩, ht⟩, hl⟩, hp⟩ := h
  refine ⟨⟨hb, by rw [hc]; rfl, ht, hl, fun p => hp p (List.mem_finRange p)⟩, fun i => ?_, fun p => hp p (List.mem_finRange p)⟩
  simp [ctrGet, hc, sget]

/-! ### Well-formed commands -/

/-- A dump of `n` taps with `f` flagged samples of 40. -/
def dump (n f : Nat) : DumpData := ⟨40, f, List.replicate n ⟨0, 0⟩, []⟩

/-- A navigation unit of `n` bits that says nothing. -/
def navUnitOf (n : Nat) : NavUnit := ⟨List.replicate n false, false, none, 0, {}⟩

/-- A coherent interval of 16 samples, `f` of them flagged, over `n` cells. -/
def interval (f n : Nat) : AcqInterval := ⟨16, f, List.replicate n ⟨0, 0⟩⟩

/-- Each check of `Instr.wf` refuses the term just outside it. -/
theorem test_wf_refuses :
    [Instr.headerRead true (List.replicate 127 0), .headerReread (List.replicate 129 0), .imageReadDone [1, 2, 3] false, .fallbackImageRead true [1], .vbatResume 1024,
      .nullWeightUpdate 0 3 2 [], .nullWeightUpdate 0 2 2 [[⟨0, 0⟩, ⟨0, 0⟩]], .acqStep 0 [interval 17 0], .acqVerify 0 [interval 0 2047], .trackDump 0 (dump 7 0), .trackDump 0 (dump 8 41),
      .navCheckUnit 0 (navUnitOf 1024), .extPpsEdge 8, .evtCapture 0 true 8,
      .frameReceive 0 (List.replicate 5136 0) 0, .tagAck 1024 0 0 150, .tagAckTimeout 1024, .retry 1024, .relaunch 0 1024, .noiseFloor [0], .basinLatch 0 0xDFFF, .basinLatch 0 0xF000,
      .getResponse 0 (List.replicate 65 0) 0x9000, .pmuSample 25 1024 400 0, .pmuSample 25 400 1024 0, .pmuSample 25 400 400 (-100001), .i2cWrite ⟨[], false⟩, .i2cRead 0].map Instr.wf =
      List.replicate 28 false := by decide +kernel

/-- It takes the term at its bound. -/
theorem test_wf_takes :
    [Instr.headerRead true (List.replicate 128 0), .headerRead false [], .headerReread (List.replicate 128 0), .imageReadDone [1, 2, 3, 4] false, .imageReadDone [1] true,
      .fallbackImageRead false [1], .vbatResume 1023, .nullWeightUpdate 0 2 2 [[⟨0, 0⟩]], .acqStep 0 [interval 16 2046], .acqVerify 0 [], .trackDump 0 (dump 8 40), .navCheckUnit 0 (navUnitOf 1023),
      .extPpsEdge 7, .evtCapture 0 true 7, .frameReceive 0 (List.replicate 5135 0) 0, .tagAck 1023 0 0 150,
      .noiseFloor (List.replicate 8 0), .basinLatch 0 0xEFFF, .getResponse 0 (List.replicate 64 0) 0x9000, .pmuSample 25 1023 1023 (-100000), .i2cWrite ⟨[0], false⟩, .i2cRead 1].map Instr.wf =
      List.replicate 22 true := by decide +kernel

/-! ### The standards' functions, by the standards' own examples (FIPS 180-4 "abc", FIPS 197 C.1, GCM test case 1, SP 800-38C example 1, FIPS 186-4 P-256) -/

theorem test_sha256 : beNat (sha256 [0x61, 0x62, 0x63]) = 0xba7816bf8f01cfea414140de5dae2223b00361a396177a9cb410ff61f20015ad := by decide +kernel

theorem test_aes : beNat (aesBlock (beBytes 16 0x000102030405060708090a0b0c0d0e0f) (beBytes 16 0x00112233445566778899aabbccddeeff)) = 0x69c4e0d86a7b0430d8cdb78070b4c55a := by
  decide +kernel

theorem test_gcm : beNat (gcmTag (beBytes 16 0) (beBytes 12 0) [] []) = 0x58e2fccefa7e3061367f1d57a4e7455a ∧
    beNat (gcmTag (beBytes 16 0) (beBytes 12 0) [] (gcmText (beBytes 16 0) (beBytes 12 0) (beBytes 16 0))) = 0xab6e47d42cec13bdf53a67b21257bddf := by decide +kernel

theorem test_ccm : beNat (ccmText (beBytes 16 0x404142434445464748494a4b4c4d4e4f) (beBytes 7 0x10111213141516) (beBytes 4 0x20212223)) = 0x7162015b ∧
    beNat (ccmTag 4 (beBytes 16 0x404142434445464748494a4b4c4d4e4f) (beBytes 7 0x10111213141516) (beBytes 8 0x0001020304050607) (beBytes 4 0x20212223)) = 0x4dac255d := by decide +kernel

/-- The state after one step that takes a command. -/
def after (c : Instr) (s : State) : State :=
  match step { s with pending := [c] } with
  | .next t => t
  | _ => s

/-! ### Ohmore: one step each, with results worked out from 14_ohmore_isa Tables 14-4 and 14-5 -/

/-- A, X, Y, S, P and F of polder 0. -/
def regs (s : State) : List Nat :=
  let c := s.pld[(0 : Polder)].core
  [c.a.toNat, c.x.toNat, c.y.toNat, c.s.toNat, c.p.toNat, c.f.toNat]

/-- Each program's command leaves these registers. -/
def gives (l : List (Instr × List Byte × List Nat)) : Bool := l.all fun x => regs (after x.1 (ohm x.2.1)) == x.2.2

theorem test_arithmetic : gives
    [(.add 0, [0x01, 0x3E], [0x80, 0x2000, 0x2100, 0x7000, 0x1002, 0xE0]), (.adc 0, [0x02, 0xBE], [0x00, 0x2000, 0x2100, 0x7000, 0x1002, 0x23]),
     (.sub 0, [0x03, 0x43], [0xFF, 0x2000, 0x2100, 0x7000, 0x1002, 0xA1]), (.sbc 0, [0x04, 0x42], [0x00, 0x2000, 0x2100, 0x7000, 0x1002, 0x02]),
     (.and 0, [0x05, 0x0F], [0x02, 0x2000, 0x2100, 0x7000, 0x1002, 0x00]), (.ora 0, [0x06, 0x81], [0xC3, 0x2000, 0x2100, 0x7000, 0x1002, 0x80]),
     (.eor 0, [0x07, 0x42], [0x00, 0x2000, 0x2100, 0x7000, 0x1002, 0x02]), (.cmp 0, [0x08, 0x80], [0x42, 0x2000, 0x2100, 0x7000, 0x1002, 0xC1]),
     (.addd 0, [0x09, 0x58], [0x00, 0x2000, 0x2100, 0x7000, 0x1002, 0x03]), (.subd 0, [0x0A, 0x43], [0x99, 0x2000, 0x2100, 0x7000, 0x1002, 0xA1]),
     (.daa 0, [0x49, 0x00], [0x42, 0x2000, 0x2100, 0x7000, 0x1002, 0x00]), (.adx 0, [0x0F, 0xFF], [0x42, 0x1FFF, 0x2100, 0x7000, 0x1002, 0x00]),
     (.ady 0, [0x2D, 0x01], [0x42, 0x2000, 0x2101, 0x7000, 0x1002, 0x00]), (.cpx 0, [0x8D, 0x01, 0x20], [0x42, 0x2000, 0x2100, 0x7000, 0x1003, 0x81]),
     (.cpy 0, [0x8E, 0x00, 0x21], [0x42, 0x2000, 0x2100, 0x7000, 0x1003, 0x02]), (.lds 0, [0xC3, 0x00, 0x60], [0x42, 0x2000, 0x2100, 0x6000, 0x1003, 0x00])]
    = true := by decide +kernel

theorem test_inherent : gives
    [(.inca 0, [0x40, 0], [0x43, 0x2000, 0x2100, 0x7000, 0x1002, 0x00]), (.deca 0, [0x41, 0], [0x41, 0x2000, 0x2100, 0x7000, 0x1002, 0x00]),
     (.asla 0, [0x42, 0], [0x84, 0x2000, 0x2100, 0x7000, 0x1002, 0xC0]), (.lsra 0, [0x43, 0], [0x21, 0x2000, 0x2100, 0x7000, 0x1002, 0x00]),
     (.rola 0, [0x44, 0], [0x84, 0x2000, 0x2100, 0x7000, 0x1002, 0xC0]), (.rora 0, [0x45, 0], [0x21, 0x2000, 0x2100, 0x7000, 0x1002, 0x00]),
     (.clra 0, [0x46, 0], [0x00, 0x2000, 0x2100, 0x7000, 0x1002, 0x02]), (.nega 0, [0x47, 0], [0xBE, 0x2000, 0x2100, 0x7000, 0x1002, 0xA1]),
     (.coma 0, [0x48, 0], [0xBD, 0x2000, 0x2100, 0x7000, 0x1002, 0x81]), (.clc 0, [0x4A, 0], [0x42, 0x2000, 0x2100, 0x7000, 0x1002, 0x00]),
     (.sec 0, [0x4B, 0], [0x42, 0x2000, 0x2100, 0x7000, 0x1002, 0x01]), (.di 0, [0x4C, 0], [0x42, 0x2000, 0x2100, 0x7000, 0x1002, 0x00]),
     (.ei 0, [0x4D, 0], [0x42, 0x2000, 0x2100, 0x7000, 0x1002, 0x10]), (.nop 0, [0x4E, 0], [0x42, 0x2000, 0x2100, 0x7000, 0x1002, 0x00]),
     (.wait 0, [0x4F, 0], [0x42, 0x2000, 0x2100, 0x7000, 0x1002, 0x00]), (.tax 0, [0x50, 0], [0x42, 0x0042, 0x2100, 0x7000, 0x1002, 0x00]),
     (.txa 0, [0x51, 0], [0x00, 0x2000, 0x2100, 0x7000, 0x1002, 0x02]), (.tay 0, [0x52, 0], [0x42, 0x2000, 0x0042, 0x7000, 0x1002, 0x00]),
     (.tya 0, [0x53, 0], [0x00, 0x2000, 0x2100, 0x7000, 0x1002, 0x02]), (.txy 0, [0x54, 0], [0x42, 0x2000, 0x2000, 0x7000, 0x1002, 0x00]),
     (.tyx 0, [0x55, 0], [0x42, 0x2100, 0x2100, 0x7000, 0x1002, 0x00]), (.tsx 0, [0x56, 0], [0x42, 0x7000, 0x2100, 0x7000, 0x1002, 0x00]),
     (.txs 0, [0x57, 0], [0x42, 0x2000, 0x2100, 0x2000, 0x1002, 0x00]), (.inx 0, [0x58, 0], [0x42, 0x2001, 0x2100, 0x7000, 0x1002, 0x00]),
     (.dex 0, [0x59, 0], [0x42, 0x1FFF, 0x2100, 0x7000, 0x1002, 0x00]), (.iny 0, [0x5A, 0], [0x42, 0x2000, 0x2101, 0x7000, 0x1002, 0x00]),
     (.dey 0, [0x5B, 0], [0x42, 0x2000, 0x20FF, 0x7000, 0x1002, 0x00])] = true := by decide +kernel

theorem test_control : gives
    [(.jmp 0, [0xC0, 0x34, 0x12], [0x42, 0x2000, 0x2100, 0x7000, 0x1234, 0]), (.jx 0, [0x5E, 0], [0x42, 0x2000, 0x2100, 0x7000, 0x2000, 0]),
     (.jmpi 0, [0xC1, 0x00, 0x10], [0x42, 0x2000, 0x2100, 0x7000, 0x00C1, 0]), (.bra 0, [0x70, 0xFE], [0x42, 0x2000, 0x2100, 0x7000, 0x1000, 0]),
     (.beq 0, [0x71, 0x10], [0x42, 0x2000, 0x2100, 0x7000, 0x1002, 0]), (.bne 0, [0x72, 0x10], [0x42, 0x2000, 0x2100, 0x7000, 0x1012, 0]),
     (.bcs 0, [0x73, 0x10], [0x42, 0x2000, 0x2100, 0x7000, 0x1002, 0]), (.bcc 0, [0x74, 0x10], [0x42, 0x2000, 0x2100, 0x7000, 0x1012, 0]),
     (.bmi 0, [0x75, 0x10], [0x42, 0x2000, 0x2100, 0x7000, 0x1002, 0]), (.bpl 0, [0x76, 0x10], [0x42, 0x2000, 0x2100, 0x7000, 0x1012, 0]),
     (.bvs 0, [0x77, 0x10], [0x42, 0x2000, 0x2100, 0x7000, 0x1002, 0]), (.bvc 0, [0x78, 0x10], [0x42, 0x2000, 0x2100, 0x7000, 0x1012, 0]),
     (.bhi 0, [0x79, 0x10], [0x42, 0x2000, 0x2100, 0x7000, 0x1012, 0]), (.bls 0, [0x7A, 0x10], [0x42, 0x2000, 0x2100, 0x7000, 0x1002, 0]),
     (.bge 0, [0x7B, 0x10], [0x42, 0x2000, 0x2100, 0x7000, 0x1012, 0]), (.blt 0, [0x7C, 0x10], [0x42, 0x2000, 0x2100, 0x7000, 0x1002, 0]),
     (.bgt 0, [0x7D, 0x10], [0x42, 0x2000, 0x2100, 0x7000, 0x1012, 0]), (.ble 0, [0x7E, 0x10], [0x42, 0x2000, 0x2100, 0x7000, 0x1002, 0]),
     (.dbnz 0, [0x6C, 0x10], [0x42, 0x1FFF, 0x2100, 0x7000, 0x1012, 0]), (.dbnz 0, [0xC2, 0x30, 0x10], [0x42, 0x2000, 0x2100, 0x7000, 0x1013, 0]),
     (.call 0, [0xE5, 0x00, 0x80], [0x42, 0x2000, 0x2100, 0x6FFA, 0x8000, 0]), (.ret 0, [0x68, 0], [0x42, 0x2000, 0x2100, 0x7003, 0x0000, 0]),
     (.rti 0, [0x69, 0], [0x00, 0x0000, 0x0000, 0x7009, 0x0000, 0])] = true := by decide +kernel

theorem test_memory_registers : gives
    [(.lda 0, [0x00, 0x04], [0x42, 0x2000, 0x2100, 0x7000, 0x1002, 0]), (.ldx 0, [0x0B, 0x40], [0x42, 0x2000, 0x2100, 0x7000, 0x1002, 0]),
     (.ldy 0, [0x0C, 0x40], [0x42, 0x2000, 0x2100, 0x7000, 0x1002, 0]), (.pla 0, [0x61, 0], [0x42, 0x2000, 0x2100, 0x7001, 0x1002, 0]),
     (.plf 0, [0x63, 0], [0x42, 0x2000, 0x2100, 0x7001, 0x1002, 0]), (.plx 0, [0x65, 0], [0x42, 0x2000, 0x2100, 0x7002, 0x1002, 0]),
     (.ply 0, [0x67, 0], [0x42, 0x2000, 0x2100, 0x7002, 0x1002, 0]), (.inc 0, [0x30, 0x30], [0x42, 0x2000, 0x2100, 0x7000, 0x1002, 0x00]),
     (.dec 0, [0x31, 0x30], [0x42, 0x2000, 0x2100, 0x7000, 0x1002, 0x80]), (.asl 0, [0x32, 0x30], [0x42, 0x2000, 0x2100, 0x7000, 0x1002, 0x02]),
     (.lsr 0, [0xB3, 0x00, 0x10], [0x42, 0x2000, 0x2100, 0x7000, 0x1003, 0x41]), (.rol 0, [0xB4, 0x00, 0x10], [0x42, 0x2000, 0x2100, 0x7000, 0x1003, 0x41]),
     (.ror 0, [0xB5, 0x00, 0x10], [0x42, 0x2000, 0x2100, 0x7000, 0x1003, 0x41]), (.clr 0, [0x36, 0x30], [0x42, 0x2000, 0x2100, 0x7000, 0x1002, 0x02]),
     (.mvi 0, [0x5C, 0], [0x42, 0x2001, 0x2101, 0x7000, 0x1002, 0]), (.mvd 0, [0x5D, 0], [0x42, 0x1FFF, 0x20FF, 0x7000, 0x1002, 0])] = true := by
  decide +kernel

/-- Each program's command leaves these bytes of RAM from an address on, as the program reads them. -/
def stores (l : List (Instr × List Byte × Nat × List Byte)) : Bool :=
  l.all fun x => (List.range x.2.2.2.length).map (fun k => sbPeek (after x.1 (ohm x.2.1)) 0 (x.2.2.1 + k)) == x.2.2.2

theorem test_stores : stores
    [(.sta 0, [0x1F, 0x30], 0x30, [0x42]), (.stx 0, [0x2B, 0x30], 0x30, [0x00, 0x20]), (.sty 0, [0xAC, 0xFF, 0x60], 0x60FF, [0x00, 0x21]),
     (.pha 0, [0x60, 0], 0x6FFF, [0x42]), (.phf 0, [0x62, 0], 0x6FFE, [0, 0, 0]), (.phx 0, [0x64, 0], 0x6FFE, [0x00, 0x20]),
     (.phy 0, [0x66, 0], 0x6FFE, [0x00, 0x21]), (.inc 0, [0x30, 0x30], 0x30, [1]), (.dec 0, [0x31, 0x30], 0x30, [0xFF]),
     (.asl 0, [0xB2, 0x01, 0x10], 0x1000, [0xB2, 0x02]), (.lsr 0, [0xB3, 0x00, 0x10], 0x1000, [0x59]), (.rol 0, [0xB4, 0x00, 0x10], 0x1000, [0x68]),
     (.ror 0, [0xB5, 0x00, 0x10], 0x1000, [0x5A]), (.clr 0, [0xB6, 0x00, 0x10], 0x1000, [0]), (.mvi 0, [0x5C, 0], 0x2100, [0]),
     (.dbnz 0, [0xC2, 0x30, 0x10], 0x30, [0xFF]), (.call 0, [0xE5, 0x00, 0x80], 0x6FFA, [0x05, 0x00, 0x20, 0x42, 0x03, 0x10])] = true := by
  decide +kernel

theorem test_load_lands_after_shadow :
    let t := after (.lda 0) (ohm [0x00, 0x04, 0x50, 0x00])
    regs t = [0x42, 0x2000, 0x2100, 0x7000, 0x1002, 0] ∧ regs (after (.tax 0) t) = [0x04, 0x42, 0x2100, 0x7000, 0x1004, 0] := by decide +kernel

theorem test_repeat : (after (.rpt 0) (ohm [0x6A, 0x03, 0x58, 0x00])).pld[(0 : Polder)].core.rpt = some ⟨false, 3, true⟩ ∧
    (after (.rpti 0) (ohm [0x6B, 0x00, 0x58, 0x00])).pld[(0 : Polder)].core.rpt = some ⟨true, 256, true⟩ := by decide +kernel
/-! ### Ohmore: the statements' hypotheses are met

An instruction of polder 0 at 0x1000 executes with the core that `ready` shows, and the core is live after the accesses that the statement names. -/

/-- The program executes the operation, and `post` holds of the core it sees, its instruction and the state in which it begins. -/
def meets (op : OhmOp) (bytes : List Byte) (post : Core → OhmInstr → State → Bool) : Bool :=
  match ready (ohm bytes) 0 with
  | some (c0, .ins i _) => decide (i.op = op) && post c0 i (begun 0 c0 (ohm bytes))
  | _ => false

theorem witness_executes : executes (ohm [0x00, 0x04]) 0 .lda ohmCore ⟨.lda, .imm8, 4⟩ 2 ∧ Memory.wf (fun _ => 0) (ohm [0x00, 0x04]).pld[(0 : Polder)].ram = true ∧
    coreLive (operand8 0 ohmCore ⟨.lda, .imm8, 4⟩ (begun 0 ohmCore (ohm [0x00, 0x04]))).2 0 = true :=
  ⟨⟨by decide +kernel, rfl⟩, by decide +kernel, by decide +kernel⟩

/-- OhmoreAccumulatorOps, OhmoreDecimal, OhmoreLoadsAndPulls: byte operands in every form. -/
theorem witness_OhmoreAccumulatorOps : ([(OhmOp.add, [0x01, 0xFF]), (.add, [0xA1, 0xFF, 0xBF]), (.adc, [0x12, 0xFF]), (.sub, [0x23, 0x10]), (.sbc, [0x84, 0x00, 0x30]),
    (.and, [0x95, 0, 0]), (.ora, [0xA6, 0, 0]), (.eor, [0x07, 0]), (.cmp, [0x08, 0x80]), (.addd, [0x09, 0x99]), (.subd, [0x0A, 0x01]), (.lda, [0x00, 0x04]),
    (.lda, [0x90, 0xFF, 0xFF])] : List (OhmOp × List Byte)).all (fun x => meets x.1 x.2 fun c0 i s => coreLive (operand8 0 c0 i s).2 0) = true := by decide +kernel

theorem witness_OhmoreDecimal : meets .daa [0x49, 0] (fun _ _ _ => true) = true ∧ meets .addd [0x19, 0x10] (fun c0 i s => coreLive (operand8 0 c0 i s).2 0) = true ∧
    meets .subd [0x2A, 0x10] (fun c0 i s => coreLive (operand8 0 c0 i s).2 0) = true := by decide +kernel

theorem witness_OhmoreInherentOps : Memory.wf (fun _ => 0) (ohm [0x40, 0]).pld[(0 : Polder)].ram = true ∧
    ([(OhmOp.inca, [0x40, 0]), (.deca, [0x41, 0]), (.asla, [0x42, 0]), (.lsra, [0x43, 0]), (.rola, [0x44, 0]), (.rora, [0x45, 0]), (.clra, [0x46, 0]),
      (.nega, [0x47, 0]), (.coma, [0x48, 0]), (.daa, [0x49, 0]), (.clc, [0x4A, 0]), (.sec, [0x4B, 0]), (.di, [0x4C, 0]), (.ei, [0x4D, 0]), (.nop, [0x4E, 0]),
      (.tax, [0x50, 0]), (.txa, [0x51, 0]), (.tay, [0x52, 0]), (.tya, [0x53, 0]), (.txy, [0x54, 0]), (.tyx, [0x55, 0]), (.tsx, [0x56, 0]), (.txs, [0x57, 0]),
      (.inx, [0x58, 0]), (.dex, [0x59, 0]), (.iny, [0x5A, 0]), (.dey, [0x5B, 0])] : List (OhmOp × List Byte)).all (fun x => meets x.1 x.2 fun _ _ _ => true) = true := by
  decide +kernel

theorem witness_OhmoreWordOps : ([(OhmOp.cpx, [0x8D, 1, 0x20]), (.cpx, [0x1D, 0xFF]), (.cpy, [0x9E, 0, 0]), (.cpy, [0x0E, 0x80])] : List (OhmOp × List Byte)).all
      (fun x => meets x.1 x.2 fun c0 i s => coreLive (operand16 0 c0 i s).2 0) = true ∧
    ([(OhmOp.adx, [0x0F, 0x80]), (.adx, [0x8F, 0, 0x80]), (.ady, [0x2D, 0x7F]), (.lds, [0xC3, 0xFF, 0xFF])] : List (OhmOp × List Byte)).all
      (fun x => meets x.1 x.2 fun _ _ _ => true) = true := by decide +kernel

theorem witness_OhmoreLoadsAndPulls :
    meets .lda [0x10, 0xFF] (fun c0 i s => coreLive (operand8 0 c0 i s).2 0) = true ∧
    ([(OhmOp.ldx, [0x0B, 0x80]), (.ldx, [0x9B, 0xFF, 0xFF]), (.ldy, [0x1C, 0xFF]), (.ldy, [0x8C, 0, 0])] : List (OhmOp × List Byte)).all
      (fun x => meets x.1 x.2 fun c0 i s => coreLive (operand16 0 c0 i s).2 0) = true ∧
    ([(OhmOp.pla, [0x61, 0]), (.plf, [0x63, 0])] : List (OhmOp × List Byte)).all
      (fun x => meets x.1 x.2 fun c0 _ s => coreLive (readMem 0 1 c0.s.toNat 1 s).2 0) = true ∧
    ([(OhmOp.plx, [0x65, 0]), (.ply, [0x67, 0])] : List (OhmOp × List Byte)).all
      (fun x => meets x.1 x.2 fun c0 _ s => coreLive (readMem 0 1 c0.s.toNat 2 s).2 0) = true := by decide +kernel

theorem witness_OhmoreStoresAndPushes :
    ([(OhmOp.sta, [0x1F, 0x30]), (.sta, [0xB7, 0xFF, 0x9E]), (.sta, [0xAF, 0, 0])] : List (OhmOp × List Byte)).all
      (fun x => meets x.1 x.2 fun c0 i s => coreLive (writeMem 0 (baseCycles i) (effAddr c0 i) [c0.a] s) 0) = true ∧
    meets .stx [0x2B, 0xFF] (fun c0 i s => coreLive (writeMem 0 (baseCycles i) (effAddr c0 i) [c0.x.setWidth 8, (c0.x >>> 8).setWidth 8] s) 0) = true ∧
    meets .sty [0xAC, 0, 0x60] (fun c0 i s => coreLive (writeMem 0 (baseCycles i) (effAddr c0 i) [c0.y.setWidth 8, (c0.y >>> 8).setWidth 8] s) 0) = true ∧
    ([(OhmOp.pha, [0x60, 0]), (.phf, [0x62, 0])] : List (OhmOp × List Byte)).all
      (fun x => meets x.1 x.2 fun c0 _ s => coreLive (writeMem 0 1 (c0.s - 1).toNat [if x.1 = .pha then c0.a else c0.f] s) 0) = true ∧
    ([(OhmOp.phx, [0x64, 0]), (.phy, [0x66, 0])] : List (OhmOp × List Byte)).all
      (fun x => meets x.1 x.2 fun c0 _ s =>
        let r := if x.1 = .phx then c0.x else c0.y
        coreLive (writeMem 0 1 (c0.s - 2).toNat [r.setWidth 8, (r >>> 8).setWidth 8] s) 0) = true := by decide +kernel

theorem witness_OhmoreReadModifyWrite :
    ([(OhmOp.inc, [0x30, 0x30]), (.dec, [0xB9, 0xFF, 0xDF]), (.asl, [0x3A, 0]), (.lsr, [0xB3, 0, 0x10]), (.rol, [0x34, 0xFF]), (.ror, [0x3D, 0])] :
      List (OhmOp × List Byte)).all (fun x => meets x.1 x.2 fun c0 i s =>
        let r := readMem 0 (baseCycles i) (effAddr c0 i) 1 s
        coreLive r.2 0 && ([(0 : Byte), 1, 0x80, 0xFF]).all fun v => coreLive (writeMem 0 1 (effAddr c0 i) [v] r.2) 0) = true ∧
    meets .clr [0x36, 0x30] (fun c0 i s => coreLive (writeMem 0 (baseCycles i + 1) (effAddr c0 i) [0] s) 0) = true ∧
    ([(OhmOp.mvi, [0x5C, 0]), (.mvd, [0x5D, 0])] : List (OhmOp × List Byte)).all (fun x => meets x.1 x.2 fun c0 _ s =>
      let v := readMem 0 1 c0.x.toNat 1 s
      isRam c0.x.toNat && coreLive v.2 0 && coreLive (writeMem 0 1 c0.y.toNat [v.1.headD 0] v.2) 0) = true := by decide +kernel

theorem witness_OhmoreBranches : ([(OhmOp.bra, [0x70, 0x80]), (.beq, [0x71, 0x7F]), (.bne, [0x72, 0]), (.bcs, [0x73, 0]), (.bcc, [0x74, 0]), (.bmi, [0x75, 0]),
    (.bpl, [0x76, 0]), (.bvs, [0x77, 0]), (.bvc, [0x78, 0]), (.bhi, [0x79, 0]), (.bls, [0x7A, 0]), (.bge, [0x7B, 0]), (.blt, [0x7C, 0]), (.bgt, [0x7D, 0]),
    (.ble, [0x7E, 0xFF])] : List (OhmOp × List Byte)).all (fun x => meets x.1 x.2 fun _ _ _ => true) = true := by decide +kernel

theorem witness_OhmoreJumpsAndCounts : meets .dbnz [0x6C, 0x80] (fun _ i _ => i.mode == .relX) = true ∧ meets .dbnz [0x6D, 0x7F] (fun _ i _ => i.mode == .relY) = true ∧
    meets .dbnz [0xC2, 0x30, 0x80] (fun _ i s =>
      let v := readMem 0 2 (i.arg % 256) 1 s
      i.mode == .relD && coreLive (idleCycles 0 1 (writeMem 0 1 (i.arg % 256) [v.1.headD 0 - 1] v.2)) 0) = true ∧
    meets .jmp [0xC0, 0, 0] (fun _ _ _ => true) = true ∧ meets .jx [0x5E, 0] (fun _ _ _ => true) = true ∧
    meets .jmpi [0xC1, 0xFF, 0xFF] (fun _ i s => coreLive (readMem 0 3 i.arg 2 s).2 0) = true := by decide +kernel

theorem witness_OhmoreCallsAndReturns :
    ([([0xE0, 0, 0x80], 0), ([0xE5, 0, 0x80], 5), ([0xEF, 0xFF, 0xFF], 15)] : List (List Byte × Fin 16)).all (fun x => meets .call x.1 fun c0 i s =>
      i.mode == .call x.2 && coreLive (writeMem 0 3 (c0.s - BitVec.ofNat 16 (frameBytes x.2.val)).toNat (frameOf c0 x.2) s) 0) = true ∧
    meets .ret [0x68, 0] (fun c0 _ s =>
      let v := readMem 0 3 c0.s.toNat (frameBytes (maskAt s 0 c0.s.toNat)) s
      coreLive v.2 0 && v.1.length == frameBytes (maskAt s 0 c0.s.toNat)) = true ∧
    meets .rti [0x69, 0] (fun c0 _ s => coreLive (rtiFrame 0 c0 s).2 0 && (rtiFrame 0 c0 s).1.length == 9) = true := by decide +kernel

/-- A core in WAIT with an event and I = 0, and one with request 14 pending. -/
def waitingCore (pend : Word) : State := pol0 (fun q => { q with core := { q.core with phase := .waiting, woken := true, pend := pend } }) (ohm [0x4F, 0])

theorem witness_OhmoreRepeatsAndWait : meets .rpt [0x6A, 0] (fun _ _ _ => true) = true ∧ meets .rpti [0x6B, 0xFF] (fun _ _ _ => true) = true ∧
    meets .wait [0x4F, 0] (fun _ _ _ => true) = true ∧ traced (ohm [0x4F, 0]) 0 = false ∧
    ((waitingCore 0x0040).mode.life = .run ∧ domOn (waitingCore 0x0040) (.pld 0) = true ∧ (waitingCore 0x0040).pld[(0 : Polder)].core.phase = .waiting ∧
      takable (waitingCore 0x0040).pld[(0 : Polder)].core = none ∧ (waitingCore 0x0040).pld[(0 : Polder)].core.woken = true ∧
      hasFlag (waitingCore 0x0040).pld[(0 : Polder)].core.f flagI = false) ∧
    takable (waitingCore 0x4040).pld[(0 : Polder)].core = some 14 := by decide +kernel

theorem witness_OhmoreDecodeOfEncode : (⟨.call, .call 15, 0xFFFF⟩ : OhmInstr).wf = true ∧ (⟨.lda, .imm8, 0⟩ : OhmInstr).wf = true ∧
    ohmDecodeBytes [0xEF, 0xFF, 0xFF] = some ⟨.call, .call 15, 0xFFFF⟩ ∧ ohmDecodeBytes [0x00, 0x00] = some ⟨.lda, .imm8, 0⟩ := by decide +kernel

/-- Polder 0 about to execute at an address. -/
def ohmAt (p : Word) (bytes : List Byte) : State := pol0 (fun q => { q with core := { q.core with p := p } }) (ohm bytes)

theorem witness_OhmoreFetches : (ohm [0x58, 0]).mode.life = .run ∧ (ohm [0x58, 0]).pld[(0 : Polder)].core.phase = .running ∧ domOn (ohm [0x58, 0]) (.pld 0) = true ∧
    (ohm [0x58, 0]).pld[(0 : Polder)].core.rpt = none ∧ requestDue (ohm [0x58, 0]).pld[(0 : Polder)].core = false ∧
    ohmDecode (ramByte (ohm [0x58, 0]) 0 0x1000) (ramByte (ohm [0x58, 0]) 0 0x1001) (ramByte (ohm [0x58, 0]) 0 0x1002) = some ⟨.inx, .inh, 0⟩ ∧
    ready (ohmAt 0xBFFF []) 0 = some ({ ohmCore with p := 0xBFFF }, .ins ⟨.lda, .imm8, 0⟩ 2) := by decide +kernel

theorem witness_OhmoreRamReads : Memory.wf (fun _ => 0) (ohm [1, 2]).pld[(0 : Polder)].ram = true ∧ (spanOf 0x1000 2).all isRam = true ∧ (spanOf 0xFFFF 2).all isRam = true ∧
    (spanOf 0xBFFF 1).all isRam = true ∧ (spanOf 0xF000 9).all isRam = true ∧ (spanOf 0xC000 1).all isRam = false ∧
    isRam (effAddr ohmCore ⟨.lda, .ax, 0xFFFF⟩ % 65536) = true ∧ isRam (effAddr ohmCore ⟨.lda, .ay, 0⟩ % 65536) = true ∧
    isRam (effAddr ohmCore ⟨.lda, .dp, 0xFF⟩ % 65536) = true := by decide +kernel

theorem witness_OhmoreRamWrites : Memory.wf (fun _ => 0) (ohm []).pld[(0 : Polder)].ram = true ∧ (ohm []).pld[(0 : Polder)].restartDue = false ∧
    ((spanOf 0xBFF7 9).all fun x => isRam x && !protectedAt (ohm []) 0 x) = true ∧ ((spanOf 0 9).all fun x => isRam x && !protectedAt (ohm []) 0 x) = true := by
  decide +kernel

/-- A core with interrupts enabled and requests pending. -/
def asked (pend : Word) : State := pol0 (fun q => { q with core := { q.core with f := 0x10, pend := pend } }) (ohm [0x4E, 0])

theorem witness_OhmoreInterruptEntry : ([((0x0040 : Word), 6), (0x2000, 13), (0x7FC0, 14)]).all (fun x =>
    Memory.wf (fun _ => 0) (asked x.1).pld[(0 : Polder)].ram && coreRunning (asked x.1) 0 && boundaryOk (asked x.1).pld[(0 : Polder)].core &&
      takable (asked x.1).pld[(0 : Polder)].core == some x.2 && !(asked x.1).pld[(0 : Polder)].restartDue && !traced (asked x.1) 0 &&
      (List.range 9).all fun k => isRam ((0x7000 : Word) - BitVec.ofNat 16 (k + 1)).toNat && !protectedAt (asked x.1) 0 ((0x7000 : Word) - BitVec.ofNat 16 (k + 1)).toNat) = true := by
  decide +kernel

theorem witness_OhmoreFetchVoid : ready (ohmAt 0xC000 []) 0 = some ({ ohmCore with p := 0xC000 }, .void) ∧ ready (ohmAt 0xEFFF []) 0 = some ({ ohmCore with p := 0xEFFF }, .void) ∧
    Memory.wf (fun _ => 0) (ohmAt 0xC000 []).pld[(0 : Polder)].ram = true := by decide +kernel

theorem witness_OhmoreReserved : ready (ohm [0x37, 0]) 0 = some (ohmCore, .reserved 2) ∧ ready (ohm [0xFF, 0, 0]) 0 = some (ohmCore, .reserved 3) ∧
    (ohm [0x37, 0]).pld[(0 : Polder)].core.phase = .running ∧ traced (ohm [0x37, 0]) 0 = false ∧
    Memory.wf (fun _ => 0) (ohm [0x37, 0]).pld[(0 : Polder)].ram = true := by decide +kernel

/-! ### The block's own statements: hypotheses -/

theorem witness_StepRunsFrontCommand : ({ State.reset with pending := [.coexReq, .bootRecord] } : State).pending = .coexReq :: [.bootRecord] ∧ State.reset.pending = [] := by
  decide +kernel

/-- A device with something in every memory. -/
def stored : State := { ohm [1, 2, 3] with basin := swrite basinDflt [] 0xE010 [0x35], ctr := [(3, 1)] }

theorem witness_MemoriesStayCanonical : (Memory.wf basinDflt stored.basin = true ∧ swf (fun _ => 0) stored.ctr = true ∧
    swf (fun _ => ({} : Chan)) stored.trk.chan = true ∧ swf (fun _ => ({} : Ctx)) stored.lnk.ctx = true ∧ ∀ p : Polder, stored.pld[p].memWf = true) ∧
    ∃ t, step { stored with pending := [.sta 0] } = .next t := ⟨by decide +kernel, _, rfl⟩

theorem witness_CommandsStayWithTheirPolder : actsFor (.sta 0) = some 0 ∧ (ohm [0x1F, 0x30]).pld[(0 : Polder)].key = .done ∧
    ∃ t, exec (.sta 0) (ohm [0x1F, 0x30]) = .next t := ⟨rfl, by decide +kernel, _, rfl⟩

/-- An idle device at tick 100 with a segment that awaits its anchor. -/
def awaiting (tick : Nat) (kclk : Bool) : State :=
  let s := device [.clk] []
  { s with sky := { s.sky with tick := 100, next := some ⟨tick, 1, 1 / 491520000⟩ }, clk := { s.clk with lock := s.clk.lock.set 1 kclk } }

theorem witness_IdleStepCounts : State.reset.pending = [] ∧ State.reset.sky.run = false ∧ (awaiting 101 true).pending = [] ∧ (awaiting 101 true).sky.run = true ∧
    kclkRuns (awaiting 101 true) = true ∧ kclkRuns (awaiting 200 false) = false ∧ (device [] []).sky.next = none ∧
    (match step (awaiting 101 true) with | .next t => t.sky.tick == 101 && t.sky.seg == ⟨101, 1, 1 / 491520000⟩ | _ => false) = true ∧
    (match step (awaiting 200 false) with | .next t => t.sky.next.isSome && t.sky.tick == 149 | _ => false) = true := by decide +kernel
/-! ### A signed image -/

/-- P-256 key of the tests, x then y. -/
def testKey : List Byte :=
  beBytes 32 0x9e5fc111f54d6a50f56afb63212a530395ce1671107e93617a65fbd12b4a3722 ++ beBytes 32 0xd93feddf67280b35be2fd880845cd88af3ae0e51a859d051ad8f775b1661ca43

/-- A signature, r then s. -/
def testSig (r s : Nat) : List Byte := beBytes 32 r ++ beBytes 32 s

/-- Segment key of polder 0. -/
def testSegKey : List Byte := leBytes 32 0x1234

/-- A parameter block as it stands in a segment (17_boot_image R421). -/
def blockBytes (b : ParamBlock) : List Byte := leBytes 2 b.code ++ leBytes 2 b.words ++ leBytes (4 * b.words) b.val

/-- Polder 0's blocks: PLD.SEG, and BOOT.RAM with the reset vector 0x1000. -/
def segBlocks : List Byte := blockBytes ⟨0, 0x1218, 1, 0xC0⟩ ++ blockBytes ⟨0, 0x1718, 2, 0x10000002FFFE⟩ ++ blockBytes ⟨0, 0x1818, 9, 1⟩

/-- Header of polder 0's segment before its tag (17_boot_image Table 17-6). -/
def segHead : List Byte := leBytes 4 0x47455350 ++ leBytes 4 0 ++ leBytes 4 (segBlocks.length + 64) ++ leBytes 4 0 ++ testKey ++ List.replicate 96 0x5A ++ leBytes 12 7 ++ leBytes 4 0

/-- Polder 0's segment with a signature. -/
def testSegment (sig : List Byte) : List Byte :=
  let c := gcmText testSegKey (leBytes 12 7) (segBlocks ++ sig)
  segHead ++ gcmTag testSegKey (leBytes 12 7) segHead c ++ c

/-- The common blocks: SPT.PORT with port 0 and SPT.LANE with lane 0 on band 1, their other fields at their defaults. -/
def commonBlocksBytes : List Byte :=
  blockBytes ⟨8, 0x0210, 8, ((List.range 4).map fun k => (2 ^ 64) ^ k * packFields [(0, 1, if k = 0 then 1 else 0), (4, 2, k), (6, 8, 16), (14, 8, 8), (22, 6, 4), (30, 6, 16), (36, 4, 7)]).sum⟩ ++
  blockBytes ⟨8, 0x0211, 16, ((List.range 16).map fun k => (2 ^ 32) ^ k * packFields [(0, 3, if k = 0 then 1 else 0), (3, 2, 2), (14, 7, 16), (21, 7, 40)]).sum⟩

/-- The image's header (17_boot_image Table 17-3). -/
def testHeader : List Byte := leBytes 128 (packFields [(0, 32, 0x4E52484A), (32, 16, 1), (48, 16, 128), (64, 32, 128 + 136 + commonBlocksBytes.length + 208 + segBlocks.length + 64),
  (104, 8, 0x0B), (112, 5, 8), (120, 2, 1), (160, 32, 128), (192, 32, 136 + commonBlocksBytes.length), (224, 32, 128 + 136 + commonBlocksBytes.length), (256, 32, 208 + segBlocks.length + 64)])

/-- The common segment with a signature. -/
def testCommon (sig : List Byte) : List Byte := leBytes 4 0x47455343 ++ leBytes 4 77 ++ testKey ++ sig ++ commonBlocksBytes

/-- The image, signed by the maker over the common part and by the owner over polder 0's blocks. -/
def testImage : List Byte :=
  testHeader ++
  testCommon (testSig 0x73344442d96ab8001c245316229cb9fc1fc36286bffd86fe73fdda7cc33fb37d
    0x5f74986258dfc3f92c86cae9b1ccccd06fe40ae071d663614cb6bcf5ebcacac2) ++
  testSegment (testSig 0x73344442d96ab8001c245316229cb9fc1fc36286bffd86fe73fdda7cc33fb37d
    0x7fe5c2b4194a22a872799d2f96134cf498f15ff069776c0563b6ae57a88aef4a)

/-- ROOT_HASH of the maker key. -/
def testOtp : Nat := leNat (sha256 testKey)

/-- A device in boot at a phase, with the OTP programmed and the image staged. -/
def booting (p : BootPhase) : State :=
  { State.reset with
    mode := { State.reset.mode with life := .boot, rstLow := false }
    boot := { State.reset.boot with phase := p, otp := testOtp, header := testHeader, image := testImage } }

/-- Rails up or down, in brownout or not, RESET_N low or high, in reset. -/
def supply (rails brown low : Bool) : State :=
  { State.reset with aon := { State.reset.aon with rails := rails, brownout := brown }, mode := { State.reset.mode with rstLow := low } }

theorem witness_PowerAndResets :
    ((supply false false true).aon.rails = false ∧ (supply false false true).aon.brownout = false ∧ (supply false false true).mode.life = .reset) ∧
    ((supply true false false).aon.rails = true ∧ (supply true false false).aon.brownout = false) ∧
    ((supply true true false).aon.brownout = true ∧ (supply true true false).aon.rails = true ∧ (supply true true false).mode.life = .reset ∧
      (supply true true false).mode.rstLow = false ∧ (supply true true true).mode.rstLow = true) ∧
    (let s := withMode (fun m => { m with life := .off }) (supply true false false)
     s.mode.life = .off ∧ s.aon.vres ≤ s.aon.vres ∧ s.aon.rails = true ∧ s.aon.brownout = false ∧ s.mode.rstLow = false) := by decide +kernel

theorem test_power_up_waits_for_reset : (after .vinThresholdRise State.reset).mode.life = .reset ∧
    (after (.resetNRelease true) (after .vinThresholdRise State.reset)).mode.life = .boot ∧
    domOn (after (.resetNRelease true) (after .vinThresholdRise State.reset)) .nvm = true := by decide +kernel

/-- A header whose entry 0 is the one-byte command 0x06, and with DQS capture. -/
def dqsHeader : List Byte := leBytes 128 (leNat testHeader + packFields [(96, 3, 6), (128, 1, 1), (129, 1, 1), (736, 64, 0x0601)])

theorem witness_BootFindsReferenceAndImage :
    (booting .reference).mode.life = .boot ∧ (booting .reference).boot.phase = .reference ∧ (booting .pllWait).boot.phase = .pllWait ∧
    lockABC (booting .pllWait) = false ∧ lockABC { booting .pllWait with clk := { State.reset.clk with lock := Vector.replicate 4 true } } = true ∧
    (booting .header).boot.phase = .header ∧ (booting .header).boot.due ≤ (booting .header).sky.tick ∧ headerFail (bytesAt testImage 0 128) = none ∧ headerFail (bytesAt [] 0 128) = some ⟨1, 0, 0xFFFF, 0⟩ ∧
    headerFail dqsHeader = none ∧ entryPhase dqsHeader 0 = .entries 0 ∧ (booting (.entries 3)).boot.phase = .entries (3 : Fin 4).val ∧
    (booting .reread).boot.phase = .reread ∧ ([] : List Byte) ≠ (booting .reread).boot.header ∧ (booting .image).boot.phase = .image ∧ hdr dqsHeader 129 1 = 1 ∧
    (booting .fallbackImage).boot.phase = .fallbackImage := by decide +kernel

theorem test_reference_count : ([(9999, 0), (14600, 0), (14601, 1), (19200, 1), (26100, 2), (32200, 2), (32201, 3)] : List (Nat × Nat)).all
    (fun x => (after (.referenceDetection x.1) (booting .reference)).clk.refFreq == x.2) = true := by decide +kernel

/-- The device with the common part verified, about to be configured. -/
def configurable : State := after .commonVerification (booting .verify)

theorem witness_BootVerifiesAndConfigures :
    (booting .verify).mode.life = .boot ∧ (booting .verify).boot.phase = .verify ∧ layoutFail testImage = none ∧
    commonFail { booting .verify with boot := { (booting .verify).boot with version := leAt testImage ((commonAt testImage).1 + 4) 4 } } testImage = none ∧
    layoutFail testHeader = some ⟨4, 0, 0xFFFF, 128⟩ ∧
    commonFail { booting .verify with boot := { (booting .verify).boot with otp := 0 } } testImage = some ⟨5, 0, 0xFFFF, 0xFFFFFFFF⟩ ∧
    configurable.mode.life = .boot ∧ configurable.boot.phase = .configure ∧ configurable.clk.relocking = false ∧ (segAt configurable.boot.image 7).2 = 0 ∧
    (let s := after .commonVerification { booting .verify with boot := { (booting .verify).boot with otp := 0 } }
     s.boot.fail = some ⟨5, 0, 0xFFFF, 0xFFFFFFFF⟩ ∧ s.mode.life = .safe ∧ s.boot.safeCopies < 3 ∧ s.boot.due ≤ s.sky.tick) ∧
    portEn configurable 0 = true ∧ (∀ r : Port, portEn configurable r = true → portAnt configurable r = portAnt configurable 0 → r = 0) := by decide +kernel

theorem test_boot_to_cold : configurable.boot.version = 77 ∧ configurable.boot.blocks.length = 2 ∧
    (let t := after .configurationStep configurable
     t.mode.life = .run ∧ t.mode.mode = .cold ∧ t.hst.rate = 12000000 ∧ t.pld[(0 : Polder)].key = .resetLow ∧ isDry t 7 = true) := by decide +kernel

/-- A device in a mode, at 7,200 s. -/
def inMode (m : Mode) (f : ModeState → ModeState) : State := clock 7200 (withMode (fun x => f { x with mode := m }) (device [.clk, .hst] []))

/-- Rule 0 is always to be THIN; rule 15 follows the level of event input 0. -/
def ruled : State := { inMode .full id with boot := { State.reset.boot with blocks := [common 0x0111 16 (packFields [(0, 4, 0), (24, 2, 1), (26, 1, 1), (480, 4, 4), (504, 2, 2), (506, 1, 1)])] } }

theorem witness_ModesFollowTheirRules :
    (ruled.mode.life = .run ∧ cfgAt ruled bootRulesValid 0 = 1 ∧ ruleHolds ruled 0 = true ∧ cfgAt ruled bootRulesValid 15 = 1 ∧ cfgAt ruled bootRulesValid 14 ≠ 1 ∧
      ruleSelect ruled = (0, .thin) ∧ cfgAt (inMode .full id) bootRulesValid 15 ≠ 1 ∧ ruleSelect (inMode .full id) = (15, .full)) ∧
    (ruled.mode.firstCheck = true ∧ (ruleSelect ruled).2 ≠ .full ∧ (ruleSelect (inMode .full id)).2 = .full) ∧
    (let s := withMode (fun m => { m with firstCheck := false, pendRule := 0, pendTarget := .thin, pendCount := 9 }) ruled
     s.mode.firstCheck = false ∧ checkPeriod s ≠ s.mode.checkAt ∧ (ruleSelect s) = (s.mode.pendRule, s.mode.pendTarget) ∧
       s.mode.pendCount + 1 = cfg s bootModesRuleDwell ∧ s.mode.target ≠ .thin) ∧
    slotAfter (28799 / 4) ≤ stNow (inMode .full fun m => { m with decided := some (.thin, 8, 28799 / 4) }) ∧
    ((inMode .full fun m => { m with unusableSince := some 7190, aligned := true }).mode.aligned = true ∧ (cfg (inMode .full id) bootModesHoldEnter : Rat) ≤ stNow (inMode .full id) - 7190) ∧
    (let s := inMode .holdover fun m => { m with usableSince := some 7170 }
     s.mode.mode = .holdover ∧ (cfg s bootModesHoldExit : Rat) ≤ stNow s - 7170 ∧ s.mode.fallback = false ∧ s.mode.rank3 = false ∧ s.mode.target ≠ .layup ∧
       s.rfc.quiet = false ∧ s.rfc.pin = false) ∧
    ((inMode .survey fun m => { m with surveyAt := 6900 }).mode.decided = none ∧ (10 * cfg (inMode .full id) bootModesSurveyMax : Rat) ≤ stNow (inMode .full id) - 6900) ∧
    (let s := inMode .layup id
     s.mode.fixStart = none ∧ s.mode.decided = none ∧ stSec s % cfg s bootModesLayupFix = 0 ∧ s.mode.entryAt < stSec s ∧ domOn s .clk = true ∧ lockABC s = false ∧
       s.clk.relocking = false) ∧
    ((inMode .layup fun m => { m with fixStart := some 7140 }).mode.fixOk = none ∧ (60 : Rat) ≤ stNow (inMode .layup id) - 7140) ∧
    (let s := inMode .layup fun m => { m with fixStart := some 7140, fixOk := some (28559 / 4) }
     let t := { s with msr := { s.msr with lastEpoch := some 7140 } }
     t.mode.fixOk = some (28559 / 4) ∧ t.msr.lastEpoch = some 7140 ∧ fixEpoch (28559 / 4) ≤ 7140 ∧ t.hst.outB.recs = [] ∧ t.mode.rank3 = false ∧ t.mode.target ≠ .layup ∧
       t.mode.entryAt < stSec t ∧ 7140 ≠ stSec t) := by decide +kernel

theorem test_transition_at_the_slot_boundary :
    (after .modeTransition (inMode .full fun m => { m with decided := some (.thin, 8, 7200) })).mode.mode = .full ∧
    (after .modeTransition (inMode .full fun m => { m with decided := some (.thin, 8, 28799 / 4) })).mode.mode = .thin := by decide +kernel

/-! ### Sample ports -/

/-- SPT.PORT with these enabled ports, antennas as the ports, other fields at their defaults; and SPT.LANE, lane k on band k + 1, with a gain mode. -/
def portBlocks (en : List Nat) (mode : Nat) : List ParamBlock :=
  [common 0x0210 8 (((List.range 4).map fun k => (2 ^ 64) ^ k * packFields [(0, 1, if en.contains k then 1 else 0), (4, 2, k), (6, 8, 16), (14, 8, 8), (22, 6, 4), (30, 6, 16), (36, 4, 7)]).sum),
   common 0x0211 16 (((List.range 16).map fun k => (2 ^ 32) ^ k * packFields [(0, 3, k % 4 + 1), (3, 2, mode), (5, 4, 2), (9, 4, 3), (13, 1, k / 12), (14, 7, 16), (21, 7, 40)]).sum)]

/-- Ports 0 and 3 run, at 10 s. -/
def ports (mode : Nat) (p : Port) (f : PortState → PortState) : State :=
  let s := clock 10 (device [.spt 0, .spt 3, .time] (portBlocks [0, 3] mode ++ [common 0x0213 4 (packFields [(0, 2, 3), (2, 1, 1), (4, 12, 5), (16, 16, 0xABCD), (32, 32, 0x12345678), (64, 2, 0)])]))
  { s with spt := { s.spt with port := s.spt.port.set p (f s.spt.port[p]) } }

/-- The same with a lane 0 of its own. -/
def lanes (mode : Nat) (f : LaneState → LaneState) : State := ports mode 0 fun q => { q with lane := q.lane.set (0 : Port) (f q.lane[(0 : Port)]) }

theorem witness_SamplePortsFrameAndGuard :
    (portOn (ports 0 0 id) 0 = true ∧ portOn (ports 0 0 id) 3 = true ∧ portOn (ports 0 0 id) 1 = false ∧ laneBand (ports 0 0 id) 0 3 = 4 ∧
      cfgBAt (ports 0 0 id) sptLaneBlank (laneIdx 0 0) = false ∧ (0xFF : Byte).toNat / 64 = 3 ∧ (0x3F : Byte).toNat / 64 ≠ 3 ∧
      (ports 0 0 fun q => { q with count := 1 }).spt.port[(0 : Port)].count % 4096 ≠ 0 ∧ (laneAt (ports 0 0 id) 0 0).loMute = false ∧
      (laneAt (ports 0 0 id) 0 0).notSamples = false ∧ (ports 0 0 id).spt.port[(0 : Port)].lost = false ∧ (ports 0 0 id).spt.port[(0 : Port)].gap = false ∧
      (ports 0 0 id).spt.port[(0 : Port)].blockMute = false) ∧
    (let s := ports 0 3 fun q => { q with synced := true, badFs := 2 }
     s.spt.port[(3 : Port)].lost = false ∧ s.spt.port[(3 : Port)].synced = true ∧ 2 ≤ s.spt.port[(3 : Port)].badFs) ∧
    (let s := ports 0 3 fun q => { q with lost := true, goodFs := 8 }
     s.spt.port[(3 : Port)].lost = true ∧ 8 ≤ s.spt.port[(3 : Port)].goodFs) ∧
    (let x := laneAt (lanes 0 fun x => { x with win := { x.win with words := 65536, valid := 32767 } }) 0 0
     65536 ≤ x.win.words ∧ 2 * x.win.valid < x.win.words) ∧
    (let x := laneAt (lanes 0 fun x => { x with win := { x.win with words := 65536, valid := 32768 }, failRun := 3 }) 0 0
     x.win.words ≤ 2 * x.win.valid ∧ guardFails x.win = true ∧ 3 ≤ x.failRun ∧ x.notSamples = false) ∧
    (let x := laneAt (lanes 0 fun x => { x with win := { x.win with words := 65536, valid := 65536, andBits := 0, orBits := 63, eq := 30000, signI := 30000, signQ := 30000 } }) 0 0
     x.win.words ≤ 2 * x.win.valid ∧ guardFails x.win = false) ∧
    (let s := { ports 0 0 id with spt := { (ports 0 0 id).spt with trigDue := [10000000000, 10000000001] } }
     triggerDue s = true ∧ anyPortOn s = true ∧ cfgBAt s sptPortAlign 0 = false) ∧
    (let s := { device [] [] with spt := { State.reset.spt with trigDue := [0] } }
     triggerDue s = true ∧ anyPortOn s = false) ∧
    (ports 0 0 id).mode.life = .run ∧ spiFree (ports 0 0 id) 3 1 = true ∧
      (ports 0 0 id).spt.feNext + spiSpan (ports 0 0 id) 3 (cfgAt (ports 0 0 id) sptPortSpiBits 3) ≤ (ports 0 0 id).sky.tick ∧
      feinitNext (ports 0 0 id) = some 0 ∧ cfgAt (ports 0 0 id) sptFeinitPort 0 = 3 := by decide +kernel

theorem test_frame_word :
    let t := after (.frameWord 0 true 0x00 0x3F 0x0A 0xC0) (ports 0 0 fun q => { q with count := 1 })
    (List.finRange 4).map (fun l => (laneAt t 0 l).out.map fun x => (x.i, x.q, x.flag)) = [[(1, 1, 0)], [(-7, -7, 0)], [(3, 5, 0)], [(0, 0, 2)]] := by decide +kernel

/-- Port 0 with a step of lane 0 asked for, GAIN_LAT before the millisecond 10 s. -/
def stepping : State :=
  let s := ports 0 0 fun q => { q with word0 := some 10000000032, lane := q.lane.set (0 : Port) { req := some (1, 9999999000) } }
  { s with sky := { s.sky with seg := ⟨10000000032, 10, 1 / 491520000⟩ } }

theorem witness_GainLoopsAndBlanking :
    (laneBand (lanes 0 id) 0 0 ≠ 0 ∧ (laneAt (lanes 0 id) 0 0).msTotal = 0) ∧
    (let x := laneAt (lanes 0 fun x => { x with msTotal := 100, msValid := 50, msThree := 21, hiRun := 3, gain := 1 }) 0 0
     0 < x.msTotal ∧ x.msTotal ≤ 2 * x.msValid ∧ x.req = none ∧ 40 * (2 * x.msValid) < 200 * x.msThree) ∧
    (cfgAt (lanes 0 id) sptLaneGainMode (laneIdx 0 0) = 0 ∧ cfgAt (lanes 1 id) sptLaneGainMode (laneIdx 0 0) = 1 ∧ (laneAt (lanes 1 id) 0 0).conflict = false) ∧
    (let s := lanes 1 fun x => { x with conflict := true, inside := some 9508480000, lastReturn := some 9950848000, gain := 2 }
     portOn s 0 = true ∧ (laneAt s 0 0).conflict = true ∧ (laneAt s 0 0).req = none ∧ 9508480000 + 491520000 ≤ s.sky.tick ∧ 9950848000 + 49152000 ≤ s.sky.tick ∧
       (laneAt s 0 0).gain = cfgAt s sptLaneFixIndex (laneIdx 0 0)) ∧
    (let s := lanes 0 fun x => { x with req := some (1, 9999016960) }
     stepPort s = some 0 ∧ s.sky.tick ≤ 9999016960 + 983040) ∧
    (let s := stepping
     stepPort s = some 0 ∧ stepBoundary s 0 = some 10000000032 ∧ s.spt.stepMs ≠ some (1000 * stAt s 10000000032).floor.toNat ∧
       spiFree s 0 ((List.finRange 4).filter fun l => (laneAt s 0 l).req.isSome).length = true) ∧
    (let s := lanes 0 fun x => { x with req := some (1, 9999016959) }
     portOn s 0 = true ∧ 9999016959 + 983040 < s.sky.tick ∧
       spiFree s 0 ((List.finRange 4).filter fun l => match (laneAt s 0 l).req with | some (_, t) => decide (t + 983040 < s.sky.tick) | none => false).length = true) ∧
    (State.reset.spt.bhTx = false ∧ laneBand (ports 0 0 id) 3 0 ≠ 0 ∧ cfgBAt (ports 0 0 id) sptLaneBlank (laneIdx 3 0) = true) ∧
    (let s := { ports 0 0 id with spt := { (ports 0 0 id).spt with tail := some 9999016960, bhTx := true } }
     s.spt.bhTx = true ∧ 9999016960 + cfg s sptCtrlBlankTail * 49152 / 1000 ≤ s.sky.tick) := by decide +kernel

/-! ### Array -/

/-- ARY.GEOM: antenna 3 stands 100 mm ahead of antenna 0, antenna 1 100 mm to the left. -/
def geomBlock : ParamBlock := common 0x0310 8 (packFields [(64, 16, 0), (80, 16, 100), (192, 16, 100)])

/-- Antennas of these ports run in FULL, at 10 s, with the array's state given. -/
def array (en : List Nat) (f : AryState → AryState) : State :=
  let s := clock 10 (withMode (fun m => { m with mode := .full }) (device ([.time] ++ (List.finRange 4).map Domain.spt) (portBlocks en 0 ++ [geomBlock])))
  { s with ary := f s.ary }

/-- The same with band B1 changed and a valid attitude. -/
def bandOne (f : BandState → BandState) : State :=
  let s := array [0, 3] fun a => { a with band := a.band.set (0 : Band) (f a.band[(0 : Band)]) }
  { s with sol := { s.sol with att := { s.sol.att with ok := true } } }

/-- GPS L1 C/A of a satellite. -/
def l1ca (sv : Nat) : SearchTarget := ⟨0, ⟨.gps, sv⟩, 0⟩

/-- The same with five satellites at 15°, in lock for 10 s on antennas 0 and 3. -/
def calReady : State :=
  let s := bandOne id
  { s with
    trk := { s.trk with chan := (List.range 10).map fun k => (768 + k, { st := .lock, target := some (l1ca (k / 2 + 1)), ant := if k % 2 = 0 then 0 else 3, lockTick := some 5084800000 }) }
    sol := { s.sol with view := (List.range 5).map fun k => ⟨⟨.gps, k + 1⟩, 15, 0, 0, 20000000, 0, true⟩ } }

theorem witness_ArrayNullsAndCalibrates :
    (activeAnts (array [0, 3] id) = [0, 3] ∧ activeAnts (array [0] id) = [0] ∧ 2 * 0 < 1 ∧ 1 ≤ 2 * 1 ∧ (bandOne id).ary.band[(0 : Band)].q = none ∧
      (bandOne fun b => { b with q := some 1, level := 1 }).ary.band[(0 : Band)].q = some 1 ∧
      (bandOne fun b => { b with next := some (10000000000, none) }).ary.band[(0 : Band)].next = some (((bandOne id).sky.tick : Int), none)) ∧
    ((bandOne fun b => { b with evals := 1000 }).ary.band[(0 : Band)].q = none ∧ (bandOne fun b => { b with evals := 1000 }).ary.band[(0 : Band)].evals = 1000) ∧
    (let x := (bandOne fun b => { b with upRun := b.upRun.set 2 20 }).ary.band[(0 : Band)]
     x.level < (2 : Fin 3).val + 1 ∧ cfg (bandOne id) aryCfgJamPersist ≤ x.upRun[(2 : Fin 3)]) ∧
    (let x := (bandOne fun b => { b with level := 3, downRun := b.downRun.set 0 1000 }).ary.band[(0 : Band)]
     (0 : Fin 3).val < x.level ∧ 10 * cfg (bandOne id) aryCfgJamClear ≤ x.downRun[(0 : Fin 3)]) ∧
    (levelDue (bandOne fun b => { b with upRun := b.upRun.set 2 20 }) 0 = some 3 ∧ levelDue (bandOne fun b => { b with level := 3, downRun := b.downRun.set 0 1000 }) 0 = some 0) ∧
    ((3 : Port) ≠ refAnt calReady ∧ stSec calReady % cfg calReady aryCalCalPeriod = 0 ∧ (calAt calReady 3 0).lastS ≠ some (stSec calReady) ∧
      cfgB calReady aryCalCalEn = true ∧ attValid calReady = true ∧ attValid (array [0, 3] id) = false ∧
      (((List.range 5).map fun k => (⟨l1ca (k + 1), ⟨1, 0⟩, 1⟩ : CalSignal)).filterMap (calUse calReady 3 0)).length = cfg calReady aryCalCalMinSat ∧
      (calAt { bandOne id with ary := { (bandOne id).ary with cal := (bandOne id).ary.cal.set 12 { first := false, conv := true } } } 3 0).first = false) ∧
    (antRank (array [0, 1, 3] id) = 2 ∧ antRank (array [0, 3] id) = 1 ∧ antRank (array [0] id) = 0) := by decide +kernel

/-- An array with the alarm, its runs and the last measurements given. -/
def spoofing (on : Bool) (dirty clean unavail : Nat) (ms : List AoaMeas) : State :=
  let s := array [0, 1, 3] fun a => { a with spoof := on, dirty := dirty, clean := clean, unavail := unavail, aoa := ms }
  { s with sol := { s.sol with timeValid := true } }

/-- Measurements of `n` satellites. -/
def aoas (n : Nat) : List AoaMeas := (List.range n).map fun k => ⟨⟨.gps, k + 1⟩, 0, true, ⟨1, 0, 0⟩, none⟩

theorem witness_SpoofingIsDecided :
    (cfgB (spoofing false 0 0 0 []) arySpoofSpoofEn = true ∧ 2 ≤ antRank (spoofing false 0 0 0 []) ∧
      cfg (spoofing false 0 0 0 []) arySpoofMinAoa ≤ ((validAoa (spoofing false 0 0 0 (aoas 4))).map (·.sat)).dedup.length) ∧
    ((spoofing false 3 0 0 []).ary.spoof = false ∧ cfg (spoofing false 3 0 0 []) arySpoofPersist ≤ (spoofing false 3 0 0 []).ary.dirty) ∧
    ((spoofing true 0 30 0 []).ary.spoof = true ∧ cfg (spoofing true 0 30 0 []) arySpoofClear ≤ (spoofing true 0 30 0 []).ary.clean) ∧
    ((spoofing true 0 0 300 []).ary.spoof = true ∧ 10 * cfg (spoofing true 0 0 300 []) arySpoofHold ≤ (spoofing true 0 0 300 []).ary.unavail) ∧
    (spoofing true 0 30 0 []).sol.timeValid = true := by decide +kernel

theorem test_spoof_runs :
    (after .spoofRaise (spoofing false 2 0 0 [])).ary.spoof = false ∧ (after .spoofRaise (spoofing false 3 0 0 [])).ary.spoof = true ∧
    (after .spoofClear (spoofing true 0 29 0 [])).ary.spoof = true ∧ (after .spoofClear (spoofing true 0 30 0 [])).ary.spoof = false := by decide +kernel

/-! ### Acquisition and tracking -/

/-- Antennas 0, 1 and 3 run in FULL with the acquisition engine and the tracking banks on, and these channels. -/
def tracking (chans : List (Nat × Chan)) : State :=
  let s := array [0, 1, 3] id
  let t := ([Domain.gfr, .msr, .sol, .hst] ++ (List.finRange 4).map Domain.trk).foldl (fun u d => setDom d .on u) s
  { t with trk := { t.trk with chan := chans } }

/-- A task and its run on a lane, for channel 7. -/
def run7 : LaneRun :=
  { task := ⟨l1ca 3, 4⟩, chan := 7, key := ⟨0, false, 2046, 0⟩, assist := none, deep := false, coh := 4, gridCoh := 4, nc := 2, k := 10, window := none, groups := 1, blocks := [0], step := 0,
    voids := 0, dwell := .live 9996067840, hit := none, passes := 0, restart := false }

/-- Lane 15 runs a task whose channel 7 is reserved. -/
def searching (f : LaneRun → LaneRun) (chans : List (Nat × Chan)) : State :=
  let s := tracking chans
  { s with acq := { s.acq with lane := s.acq.lane.set (15 : Fin 16) (some (f run7)) } }

/-- Channel 7 reserved. -/
def held7 : List (Nat × Chan) := [(7, { reserved := some (l1ca 3) })]

/-- The target of `run7` is tracked on another channel. -/
def held7and9 : List (Nat × Chan) := [(7, { reserved := some (l1ca 3) }), (9, { st := .track, target := some (l1ca 3) })]

theorem witness_AcquisitionSearchesAndHandsOver :
    (let s := { tracking [] with acq := { (tracking []).acq with queue := [⟨l1ca 3, 4⟩] } }
     lanesRun s = true ∧ (runs s).length < modeLanes s ∧ (nextTask s).map (fun x => (x.1.target, x.2)) = some (l1ca 3, 0) ∧ s.acq.lane[(0 : Fin 16)] = none ∧
       lanesRun (array [0] id) = false) ∧
    ((searching (fun r => { r with dwell := .replay 5 }) held7).acq.lane[(15 : Fin 16)] = some { run7 with dwell := .replay 5 }) ∧
    ((searching id held7).acq.lane[(15 : Fin 16)] = some run7 ∧ lanesRun (searching id held7) = true ∧ dwellReady (searching id held7) run7 = true ∧ run7.hit = none ∧
      (boundaryEnd 15 run7 (bump cAcqSteps (searching id held7))).isNone = true ∧ run7.step + 1 < gridSteps run7 ∧ 2 * 0 < run7.nc ∧ run7.nc ≤ 2 * 1 ∧
      (keptIvs (searching id held7) run7 [interval 17 0, interval 0 0]).length ≤ 1) ∧
    (trackedOn (searching id held7and9) (l1ca 3) false 7 = true ∧ tracked (searching id held7and9) (l1ca 3) 7 = true ∧ tracked (searching id held7) (l1ca 3) 7 = false) ∧
    (let r := { run7 with hit := some ⟨9, 4, 1, (0, 0)⟩, passes := 1, dwell := .live 0 }
     let s := searching (fun _ => r) held7
     lanesRun s = true ∧ r.passes < 2 ∧ dwellReady s r = true ∧ (boundaryEnd 15 r (bump cAcqSteps s)).isNone = true) ∧
    (chanGet (searching id held7) run7.chan.val).reserved = some run7.task.target := by decide +kernel

/-- A peak that reaches T is the first hit, one that does not is none. -/
theorem witness_AcquisitionSearchesAndHandsOver_hits :
    let s := searching id held7
    let hits (q : Rat) := (firstHit s run7 ([⟨0, q, 1, 4⟩].filter fun (p : Peak) => reachesT s run7.nc p.ratio)).1.map (·.ratio)
    hits 20 = some 20 ∧ hits 1 = none := by decide +kernel

/-- A channel that follows a signal. -/
def lockedChan : Chan :=
  { st := .lock, target := some (l1ca 3), combined := true, cn0 := some 50, sync := some 0, takes := none, codeRate := 1023000, last := 9990000000, dumpT := 1 / 1000, lockTick := some 5000000000 }

/-- Channel 5 as given, 10 s into the day, its tick 10¹⁰. -/
def chan5 (f : Chan → Chan) : State := tracking [(5, f lockedChan)]

theorem witness_ChannelsFollowTheirStates :
    chanRuns (chan5 id) 5 = true ∧ dumpEnd lockedChan ≤ ((chan5 id).sky.tick : Rat) ∧ (2 : Nat) < 2 * 2 ∧ 2 * 1 ≤ (2 : Nat) ∧
    (chanGet (chan5 fun c => { c with st := .pull }) 5).takes = none ∧
    5000000000 + 4915200 * cfg (chan5 fun c => { c with coast := some 5000000000 }) trkCfgCoast < (chan5 id).sky.tick ∧
    ((chanGet (chan5 fun c => { c with st := .pull, entered := 9016960000, task := some ⟨l1ca 3, 4⟩ }) 5).st = .pull ∧ 9016960000 + 983040000 ≤ (chan5 id).sky.tick) ∧
    (canLose lockedChan = true ∧ 5000000000 + 491520000 * cfg (chan5 id) trkCfgLossT ≤ (chan5 id).sky.tick) ∧
    (0 + 491520000 * cfg (chan5 id) acqCfgReacqS ≤ { chan5 id with sky := { (chan5 id).sky with tick := 10000000000000 } }.sky.tick) ∧
    (cfgBAt (chan5 id) trkSigWeakEn (chanSig lockedChan) = true ∧ syncOpen lockedChan = false ∧ lockedChan.weak = false) ∧
    (let c := { lockedChan with cnWin := (1, 0, 0, 0, 0), cnFrom := 9498480000 }
     canLose c = true ∧ 0 < c.cnWin.1 ∧ c.cnFrom + cnLength c / nominalRate ≤ c.last) ∧
    (Memory.wf basinDflt (chan5 id).basin = true ∧ swf (fun _ => 0) (chan5 id).ctr = true ∧ swf (fun _ => ({} : Chan)) (chan5 id).trk.chan = true ∧
      swf (fun _ => ({} : Ctx)) (chan5 id).lnk.ctx = true ∧ ∀ p : Polder, (chan5 id).pld[p].memWf = true) := by decide +kernel

theorem test_loss_needs_its_time :
    (chanGet (after (.lossTExpiry 5) (chan5 fun c => { c with lossSince := some 9999999999 })) 5).st = .lock ∧
    (chanGet (after (.lossTExpiry 5) (chan5 fun c => { c with lossSince := some 0 })) 5).st = .lost := by decide +kernel

/-- Channel 5 with a weak signal, a valid attitude, converged calibration and the satellite at 60°, and more channels. -/
def beams (f : Chan → Chan) (more : List (Nat × Chan)) : State :=
  let s := tracking ((5, f { lockedChan with cn0 := some 20 }) :: more)
  { s with
    sol := { s.sol with att := { s.sol.att with ok := true }, view := [⟨⟨.gps, 3⟩, 60, 0, 0, 20000000, 0, true⟩] }
    ary := { s.ary with cal := Vector.replicate 16 { conv := true } } }

theorem witness_ArrayAndBeamChannels :
    ((chanGet (chan5 id) 5).target = some (l1ca 3) ∧ spawns (chan5 id) 5 lockedChan = true ∧ lacking (chan5 id) (l1ca 3) = [0, 1, 3] ∧
      freeChan (chan5 id) .array (l1ca 3) = some 768 ∧ (∀ x ∈ busyChans (chan5 id), x.2.target = some (l1ca 3)) ∧ servedBefore (chan5 id) (l1ca 3) (l1ca 3) = false ∧
      lacking (tracking [(5, lockedChan), (768, { st := .track, target := some (l1ca 3), ant := 0 }), (769, { st := .track, target := some (l1ca 3), ant := 1 }),
        (770, { st := .track, target := some (l1ca 3), ant := 3 })]) (l1ca 3) = []) ∧
    (beamCandidate (beams id []) 5 (chanGet (beams id []) 5) = true ∧ freeChan (beams id []) .beam (l1ca 3) = some 1408) ∧
    (let s := beams id [(1408, { st := .track, target := some (l1ca 3), takes := some 5, takeAt := 9016960000 })]
     sound s = true ∧ (chanGet s 1408).target = some (l1ca 3) ∧ (chanGet s 1408).takes ≠ none ∧ (chanGet s 1408).takeAt + 983040000 ≤ s.sky.tick) ∧
    (let s := beams id [(1535, { st := .lock, target := some (l1ca 3), beam := false, beamOk := some 5084800000 })]
     chanRole s 1535 = .beam ∧ (chanGet s 1535).st ≠ .idle ∧ beamAllowed s (l1ca 3) = true ∧ 5084800000 + 4915200000 ≤ s.sky.tick) := by decide +kernel

/-! ### Measurements -/

/-- Bits of an LNAV subframe that begins with the preamble, two zeros before it, each word's parity worked out from the equations of IS-GPS-200; bit `flip` inverted. -/
def lnavBits (flip : Nat) : List Bool :=
  (List.range 302).map fun k => xor ((0x8bd0d197fcf2690afb2dde7e0964ad39d87301335fe7b98a0309bfdc75fe10829e7f42a10f1 : Nat).testBit (301 - k)) (k == flip)

/-- That subframe as a unit, with an issue of ephemeris, a leap-second count and its transmit time. -/
def navUnit (flip : Nat) (inverted : Option Bool) : NavUnit :=
  ⟨lnavBits flip, false, inverted, 0, { txTime := some 9, gpsTime := some 1411200009, issue := some (5, 0, 14400, [true]), health := [(none, false)], leap := some 18 }⟩

/-- MSR.EXPORT with RTCM_EN, and MSR.STATION at its defaults with a bias, with a source of the position. -/
def stationBlocks (src : Nat) : List ParamBlock :=
  [common 0x0612 2 (packFields [(1, 7, 20), (11, 1, 1), (13, 7, 20), (27, 1, 1), (32, 22, 1)]), common 0x0613 7 (packFields [(0, 12, 77), (12, 8, 10), (20, 1, src), (21, 1, 1)])]

/-- The same device with more parameter blocks. -/
def withBlocks (l : List ParamBlock) (s : State) : State := { s with boot := { s.boot with blocks := s.boot.blocks ++ l } }

theorem witness_MeasurementsAndNavigation :
    (epochDue (chan5 id) = some 10 ∧ (∃ x ∈ busyChans (chan5 id), followed x.2 = true ∧ bankOn (chan5 id) x.1 = true ∧ x.2.target ≠ none) ∧ sound (chan5 id) = true) ∧
    (let s := withBlocks (stationBlocks 0) (withMode (fun m => { m with usableSince := some 0 }) (chan5 id))
     inService s = true ∧ cfgB s msrExportRtcmEn = true ∧ cfg s msrStationStnPeriod ≠ 0 ∧ gnssUsable s = true ∧ stSec s % cfg s msrStationStnPeriod = 0 ∧ s.msr.stationS ≠ some (stSec s) ∧
       cfgB s msrStationArpSrc = false ∧ cfgB (withBlocks (stationBlocks 1) s) msrStationGloBiasEn = true) ∧
    (sound (chan5 id) = true ∧ isNavChan (chan5 id) 5 = true ∧ followed lockedChan = true ∧ domOn (chan5 id) .msr = true ∧ symbolsOnly (l1ca 3).sig = false) ∧
    ((chanGet (chan5 id) 5).target = some (l1ca 3) ∧ (chanInfo lockedChan).two = false ∧ lockedChan.half = none ∧ (chanInfo lockedChan).fromData = true) ∧
    ((checkUnit 0 (navUnit 400 (some true))).2 = List.replicate 10 0 ∧ (checkUnit 0 (navUnit 35 none)).2 = [0, 2, 0, 0, 0, 0, 0, 0, 0, 0] ∧
      timeFieldsServe (chan5 id) (l1ca 3) { lockedChan with level := 2 } = true ∧ timeFieldsServe (chan5 id) (l1ca 3) { lockedChan with level := 1 } = false) ∧
    (let s := withBlocks [common 0x0612 2 (packFields [(1, 7, 20), (11, 1, 1), (13, 7, 20), (27, 1, 1), (32, 22, 1)])] (chan5 fun c => { c with soft := List.replicate 50 127 })
     symbolsPerSecond (l1ca 3) ≤ (chanGet s 5).soft.length ∧ isNavChan s 5 = true ∧ domOn s .msr = true ∧ (cfg s msrExportSymExport).testBit (l1ca 3).sig = true) := by
  decide +kernel

/-- The epoch records of a ring. -/
def epochs (s : State) : List EpochRec := s.msr.ring.filterMap fun | .epoch r => some r | _ => none

theorem test_epoch_enters_ring :
    let r := epochs (after .measurementEpoch (chan5 id))
    r.map (·.t) = [10] ∧ r.map (·.seq) = [0] ∧ r.map (fun x => x.entries.map (·.chan)) = [[5]] ∧ r.map (fun x => x.entries.map (·.phValid)) = [[false]] := by
  decide +kernel

theorem test_nav_unit :
    let t := after (.navCheckUnit 5 (navUnit 400 (some true))) (chan5 fun c => { c with level := 2 })
    (chanGet t 5).half = some true ∧ (chanGet t 5).level = 3 ∧ t.msr.leap = some 18 ∧ t.msr.eph.map (·.issues) = [[⟨5, 0, 14400, [true]⟩]] ∧
    (after (.navCheckUnit 5 (navUnit 200 (some true))) (chan5 fun c => { c with level := 2 })).msr.leap = none := by decide +kernel

/-! ### Solver -/

/-- An entry of GPS satellite `n` on L1 C/A, good for every filter. -/
def entry (n : Nat) : MeasEntry :=
  { chan := n, target := l1ca n, role := .nav, ant := 0, level := 3, pr := 22000000, phase := 0, doppler := 0, cn0 := 45, lockMs := 10000, state := 4, prValid := true, phValid := true,
    dopValid := true, halfUnres := false, halfAdj := false, restart := false, coasting := false, wchg := false, mp := false, delta := 0, calConv := true, aided := false }

/-- Orbit and clock corrections of GPS satellite `n`, and a phase bias of its L1 C/A with an integer property. -/
def corrOf (n : Nat) : List CorrItem :=
  [⟨7, some ⟨.gps, n⟩, 0, 0, 10, [0, 0, 0, 0], none, false⟩, ⟨8, some ⟨.gps, n⟩, 0, 0, 10, [0], none, false⟩, ⟨3, some ⟨.gps, n⟩, 0, 0, 10, [0, 0, 1], none, false⟩]

/-- An epoch at 10 s with eight GPS satellites, their ephemerides and corrections, in a mode, with the solver's state given. -/
def epoch8 (m : Mode) (f : SolState → SolState) : State :=
  let s := tracking []
  { s with
    mode := { s.mode with mode := m }
    msr := { s.msr with
      lastRec := some ⟨10, 0, true, false, 1, true, 0, 0, [], (List.range 8).map fun k => entry (k + 1), 1 / 491520000⟩
      eph := (List.range 8).map fun k => ⟨⟨.gps, k + 1⟩, [⟨0, 0, 14400, []⟩], none, none, false, []⟩ }
    sol := f { s.sol with corr := (List.range 8).flatMap fun k => corrOf (k + 1) } }

/-- A position solution. -/
def solution : Solution := ⟨⟨520000000000, 5000000000, 10000⟩, 0, 0, 0, true, 100, 200, 10, 1, 1, 1, 1⟩

/-- A filter's numbers of an epoch without rows. -/
def filterMem : FilterMem := ⟨9, ⟨[], []⟩, [], ⟨[], []⟩⟩

/-- The eight satellites at 45°. -/
def views8 : List SatView := (List.range 8).map fun k => ⟨⟨.gps, k + 1⟩, 45, 0, 0, 20000000, 0, true⟩

/-- COLD with four good epochs behind it. -/
def cold4 : State := withMode (fun m => { m with coldRun := 4, coldLast := 9, aligned := false, target := .full, decided := none }) (epoch8 .cold id)

theorem witness_FiltersUpdate :
    (let s := epoch8 .full fun x => { x with view := views8 }
     filterDue s .standalone = some 10 ∧ (usedSats s false).length = 8 ∧ (usedSats s true).length = 8 ∧ timeVia s (usedSats s false) ≠ none ∧ timeVia s [] = none ∧
       filterDue (epoch8 .layup id) .standalone = none ∧
       filterDue (withMode (fun m => { m with fixStart := some 9 }) (epoch8 .layup id)) .standalone = some 10) ∧
    (filterDue cold4 .standalone = some 10 ∧ cold4.mode.mode = .cold ∧ (10 : Rat).den = 1 ∧ cold4.mode.decided = none ∧ cold4.mode.target ≠ .layup ∧ cold4.mode.aligned = false ∧
      cold4.ary.spoof = false ∧ cold4.mode.coldRun + 1 = 5 ∧ cold4.mode.coldLast + 1 = (10 : Rat).floor.toNat) ∧
    (let s := epoch8 .survey fun x => { x with precOn := true, precF := some filterMem, view := views8, done := x.done.set 3 (some 10) }
     filterDue s .precise = some 10 ∧ s.ary.spoof = false ∧ filterDue s .integrity = none ∧ (precPredict s 10).isSome = true ∧ (usedSats s true).length = 8 ∧
       (ambEligible s ⟨0, false, 0, ⟨.gps, 1⟩, none, 0, false⟩) = true ∧ s.mode.mode = .survey ∧ s.mode.decided = none ∧ s.sol.holdSince = none) ∧
    (let s := { epoch8 .full (fun x => { x with precOn := true }) with ary := { (epoch8 .full id).ary with spoof := true } }
     filterDue s .precise = some 10 ∧ s.ary.spoof = true ∧ filterDue s .integrity ≠ none ∧ (precPredict s 10).isNone = true) ∧
    (let s := epoch8 .full id
     filterDue s .attitude = some 10 ∧ sound s = true ∧ filterDue s .integrity = some 10) := by decide +kernel

/-- An epoch without a prediction is not taken, one that waits for integrity is not either. -/
theorem test_precise_waits :
    (after (.preciseUpdate () () ()) (epoch8 .survey fun x => { x with precOn := true, precF := some filterMem })).sol.done[1] = none ∧
    (after (.integrityEval () ()) (epoch8 .survey fun x => { x with precOn := true })).sol.done[3] = some 10 := by decide +kernel

/-- A subset without satellite `n`, its horizontal separation `d` against a sigma of 1. -/
def subset (n : Nat) (d : Rat) : Subset := ⟨[⟨.gps, n⟩], true, d, 1, 1, 0, 1, 1⟩

/-- The envelope of the tests: four orbit and clock corrections in compact form. -/
def envelope : Envelope :=
  ⟨9, 1, 10 * 4294967296,
   leBytes 12 (packFields [(0, 8, 9), (8, 2, 1), (16, 16, 72), (32, 64, 10 * 4294967296)]) ++ leBytes 8 (packFields [(0, 8, 1), (16, 8, 4), (32, 32, 10)]) ++
     (List.range 4).flatMap fun k => leBytes 16 (k + 1),
   testSig 0x73344442d96ab8001c245316229cb9fc1fc36286bffd86fe73fdda7cc33fb37d 0x8a9846a8668e382a96b47cc1ea62017c5d884a19945e242a7ec71f60975cb892⟩

/-- SOL.KEY with key 9, compact form, for these weeks. -/
def keyBlock (first last : Nat) : ParamBlock :=
  common 0x0711 18 (packFields [(0, 8, 9), (8, 2, 2), (16, 16, first), (32, 16, last), (64, 256, leNat (testKey.take 32)), (320, 256, leNat (testKey.drop 32))])

/-- Envelopes wait, or one is verified. -/
def enveloped (first last : Nat) (f : SolState → SolState) : State := withBlocks [keyBlock first last] (setDom .cry .on (epoch8 .full f))

theorem witness_IntegrityAndEnvelopes :
    (let s := epoch8 .full id
     (∀ x ∈ [subset 1 5], subsetFails s x = false) ∧ (∃ x ∈ [subset 1 5, subset 2 (51 / 10)], subsetFails s x = true) ∧ codeSats (rowsWithout [] filterMem.rows) = [] ∧
       cfg s solFdeExclMax = 2 ∧ (0 : Nat) ≠ cfg s solFdeExclMax ∧ sound s = true ∧ filterDue s .integrity = some 10 ∧
       s.sol.shown.2.2.2.2 = false ∧ pubType s = s.sol.shown.1 ∧ attValid s = s.sol.shown.2.2.2.1) ∧
    (let s := { epoch8 .full fun x => { x with precOn := true, holdSince := some (-50), prec := some ⟨10, solution, 4, true, []⟩ } with mode := (epoch8 .full id).mode }
     cfgB s solCfgTimeHold = true ∧ s.sol.hold = none ∧ s.sol.precOn = true ∧ 60 ≤ stNow s - (-50)) ∧
    (let s := epoch8 .full fun x => { x with excl := [(⟨.gps, 1⟩, -50), (⟨.gps, 1⟩, -49)] }
     (cfg s solFdeExclHold : Rat) ≤ stNow s - (-50) ∧ ¬ (cfg s solFdeExclHold : Rat) ≤ stNow s - (-49)) ∧
    (let s := { epoch8 .full id with sky := { (epoch8 .full id).sky with seg := ⟨10000000000, 131, 1 / 491520000⟩ } }
     s.sol.corr[0]? = some ⟨7, some ⟨.gps, 1⟩, 0, 0, 10, [0, 0, 0, 0], none, false⟩ ∧ corrLimit s 7 = some 120 ∧ ((120 : Nat) : Rat) < stNow s - (10 : Nat)) ∧
    (let s := enveloped 0 0 fun x => { x with env := [envelope] }
     s.sol.env = envelope :: [] ∧ s.sol.verify = none ∧ domOn s .cry = true ∧ domOn s .sol = true ∧ keyEntry s 9 1 = some 0 ∧ keyEntry s 9 0 = none ∧ keyEntry s 8 1 = none ∧
       cfgAt s solKeyFromWeek 0 ≤ gpsWeek s ∧ gpsWeek s ≤ cfgAt s solKeyUntilWeek 0 ∧ gpsWeek s < cfgAt (enveloped 1 1 id) solKeyFromWeek 0 ∧
       ¬ stOfWord envelope.issue < stNow s - cfg s solCfgAgeClk ∧ ¬ stNow s + 5 < stOfWord envelope.issue ∧ stNow s + 5 < stOfWord (16 * 4294967296) ∧
       s.sol.issues.find? (fun y => y.1 == 9) = none) ∧
    (let s := enveloped 0 0 fun x => { x with verify := some (envelope, 10), key := some 8 }
     s.sol.verify = some (envelope, 10) ∧ (10 : Rat) ≤ stNow s ∧ stNow s < (10 + 1 / 1000 : Rat) ∧ s.sol.key ≠ some 9 ∧ s.sol.key ≠ none ∧ 4 ≤ orbClkCount s (parseCompact 84 (envelope.signed.drop 12)).items.flatten ∧
       orbClkCount { s with msr := { s.msr with eph := [] } } (parseCompact 84 (envelope.signed.drop 12)).items.flatten < 4) := by decide +kernel

theorem witness_IntegrityAndEnvelopes_signature :
    ecdsaVerify (sha256 envelope.signed) testKey envelope.sig = true ∧ ecdsaVerify (sha256 envelope.signed) testKey (testSig 1 1) = false ∧
    (leBytes 32 (cfgAt (enveloped 0 0 id) solKeyKeyX 0) ++ leBytes 32 (cfgAt (enveloped 0 0 id) solKeyKeyY 0)) = testKey := by decide +kernel

/-- Readmission needs EXCL_HOLD of the same satellite. -/
theorem test_exclusion_expires :
    (after (.exclHoldExpiry ⟨.gps, 1⟩) (epoch8 .full fun x => { x with excl := [(⟨.gps, 1⟩, -50), (⟨.gps, 2⟩, -50), (⟨.gps, 1⟩, -49)] })).sol.excl =
      [(⟨.gps, 2⟩, -50), (⟨.gps, 1⟩, -49)] := by decide +kernel

/-! ### Outputs, farm and link -/

/-- Link and farm parameters: channels 0 and 1 and the last in use, channel 1 for alarms; slots 1 to 9 and contexts 0 to 3 polder 0's; a store of one snapshot, a
queue of four results, eight scheduler entries. -/
def linkBlocks : List ParamBlock :=
  [common 0x1010 2 (packFields [(0, 1, 1), (4, 8, 2), (12, 4, 10), (16, 8, 60), (24, 4, 2), (32, 8, 14)]),
   common 0x1011 32 (((List.range 8).map fun k => (2 ^ 128) ^ k * packFields [(0, 32, 868000000), (32, 32, 1), (64, 1, if k = 0 ∨ k = 1 ∨ k = 7 then 1 else 0), (81, 3, 2), (84, 1, 1)]).sum),
   common 0x1012 58 (((List.range 400).map fun k => 16 ^ k * (if 1 ≤ k ∧ k ≤ 9 then 0 else if k = 11 then 3 else 15)).sum + 2 ^ 1600 * packFields [(0, 10, 0), (10, 11, 4)]),
   common 0x0810 20 (((List.range 128).map fun k => 16 ^ k * (if k < 4 then 0 else 15)).sum + 2 ^ 512 * packFields [(0, 8, 1), (64, 6, 4)]),
   common 0x0913 9 (packFields [(0, 17, 8192), (32, 17, 8)])]

/-- A device in FULL, 10.0125 s of ST (slot 5 of 400, slot 1 of 128), polder 0 in service, with link, farm and scheduler on. -/
def linked (f : State → State) : State :=
  f (clock (801 / 80) (withMode (fun m => { m with mode := .full }) (program [] (device [.snf, .lnk, .time, .pld 0] linkBlocks))))

/-- The key of context 3. -/
def tagKey : List Byte := List.replicate 16 0x5A

/-- Context 3 as given. -/
def ctx3 (f : Ctx → Ctx) (s : State) : State := { s with lnk := { s.lnk with ctx := [(3, f { state := .active, key := tagKey, tagId := 77 })] } }

/-- The header of an uplink of context 3. -/
def upHead (type cls ask len fc : Nat) : Nat := packFields [(0, 4, type), (4, 2, cls), (6, 1, ask), (8, 10, 3), (18, 13, len), (32, 32, fc)]

/-- A reception of it on the air from slot 4 on. -/
def upRx (head : Nat) : Reception := ⟨head, 0, 10011 / 1000, 10012 / 1000, 10, -90, 1⟩

/-- A frame that awaits its acknowledgement, and one that carries a snapshot. -/
def dueAck (snap : Option (List Byte)) : PendingAck := ⟨0, 3, 7, 10012 / 1000, none, snap, upRx (upHead 2 1 1 5135 7)⟩

/-- A waiting snapshot of context 3, captured at 8 s and delivered before this tick. -/
def snapshot (cls : Nat) : Snapshot := ⟨3, cls, false, false, 8 * 4294967296, 10, 0, 868000000, -90, 7, false, 5, []⟩

/-- A farm result of a class. -/
def farmRes (cls : Nat) : FarmResult := ⟨cls, 3, packFields (farmHead (snapshot cls) 2), false, []⟩

/-- Polder 0's share of the farm. -/
def shared (f : FarmShare → FarmShare) : State := modShare 0 f (linked (ctx3 id))

theorem witness_OutputsAreRecorded :
    (let s := withBlocks [common 0x0710 4 (packFields [(0, 3, 4), (6, 7, 10), (13, 6, 25), (19, 6, 63), (26, 1, 1), (27, 4, 5), (32, 8, 120), (40, 8, 30)])] (epoch8 .full id)
     inService s = true ∧ cfgB s solCfgNmeaEn = true ∧ stSec s % cfg s solCfgNmeaDiv = 0 ∧ s.sol.nmeaS ≠ some (stSec s) ∧ s.sol.satS ≠ some (stSec s) ∧
       solSats s ≠ [] ∧ sound s = true) ∧
    (let s := setDom .snf .on (epoch8 .full id)
     (s.msr.lastRec.map fun r => (r.t, r.t.den)) = some (10, 1) ∧ histAt s 10 = none ∧ domOn s .snf = true) := by decide +kernel

theorem witness_FarmServesItsShares :
    (let due := fun (st : CtxState) (f : FarmShare → FarmShare) => (fun s : State => { s with lnk := { s.lnk with snapDue := s.lnk.snapDue.set (7 : LinkChan) (some (dueAck (some []))) } })
       (modShare 0 f (linked (ctx3 fun c => { c with state := st })))
     (due .active id).lnk.snapDue[(7 : LinkChan)] = some (dueAck (some [])) ∧ isDry (due .active id) 0 = false ∧ (ctxGet (due .retired id) 3).state = .retired ∧
       (ctxGet (due .active id) 3).state = .active ∧ (due .active id).snf.share[(0 : Polder)].store.length + 0 < cfgAt (due .active id) snfShareStore 0 ∧
       cfgAt (due .active id) snfShareStore 0 ≤ (due .active fun x => { x with store := [snapshot 1] }).snf.share[(0 : Polder)].store.length ∧
       (snapshotOf (due .active id) 7 (dueAck (some [])) []).cls = 1 ∧ (snapshot 0).cls < 1 ∧ 1 ≤ (snapshot 1).cls) ∧
    (let s := shared fun x => { x with store := [snapshot 1] }
     s.snf.job = none ∧ farmSlotNow s = (10, 1) ∧ s.snf.slot ≠ some (10, 1) ∧ s.sky.run = true ∧ s.mode.life = .run ∧ cfgAt s snfShareOwner 1 = 0 ∧ isDry s 0 = false ∧ coreRuns s 0 = true ∧
       winBit s 0 0xC604 1 = false ∧ farmMode s 10 = true ∧ (sortBy snapBefore (s.snf.share[(0 : Polder)].store.filter (farmEligible s))).head? = some (snapshot 1) ∧
       farmReject s (snapshot 1) = none ∧ creditOk s 0 4300 = false ∧ creditOk { s with pmu := { s.pmu with credit := s.pmu.credit.set 0 4300 } } 0 4300 = true ∧
       farmReject s { snapshot 1 with early := true } = some 6 ∧ winBit (winPut 0 0xC604 [2] s) 0 0xC604 1 = true ∧ s.pld[(0 : Polder)].memWf = true ∧ mayAccess s 0 ∧ domOn s .snf = true) ∧
    (let s := fun (f : FarmShare → FarmShare) => { shared f with snf := { (shared f).snf with job := some (0, farmRes 1, false) } }
     (s id).snf.job = some (0, farmRes 1, false) ∧ farmSlotOver (s id) = true ∧ farmSlotOver { s id with snf := { (s id).snf with slot := some (10, 1) } } = false ∧
       (s id).snf.share[(0 : Polder)].results.length < cfgAt (s id) snfShareResDepth 0 ∧
       cfgAt (s id) snfShareResDepth 0 ≤ (s fun x => { x with results := List.replicate 4 (farmRes 0) }).snf.share[(0 : Polder)].results.length ∧
       cfgAt (s id) snfShareResDepth 0 ≤ (s fun x => { x with results := [farmRes 1, farmRes 0, farmRes 3, farmRes 3] }).snf.share[(0 : Polder)].results.length) := by
  refine ⟨by decide +kernel, ?_, by decide +kernel⟩
  simp only [mayAccess]
  decide +kernel

theorem test_farm_takes_lowest_class :
    let s := shared fun x => { x with store := [snapshot 2, snapshot 1] }
    let t := after (.farmSlotStart () ()) { s with pmu := { s.pmu with credit := Vector.replicate 8 5000 } }
    t.snf.share[(0 : Polder)].store = [snapshot 2] ∧ t.pmu.credit[(0 : Polder)] = 700 := by decide +kernel

/-- A reception of this header is complete on channel 7. -/
def heard (head : Nat) (f : Ctx → Ctx) : State :=
  let s := linked (ctx3 f)
  { s with rfc := { s.rfc with seq := .rx }, lnk := { s.lnk with rx := s.lnk.rx.set (7 : LinkChan) (some (upRx head)) } }

/-- The MIC that an uplink of context 3 carries over this text. -/
def upMic (s : State) (head fc : Nat) (text : List Byte) : BitVec 64 := BitVec.ofNat 64 (leNat (linkMic s 8 0 3 fc tagKey (leBytes 8 head) text))

/-- What it carries of the text. -/
def upBody (s : State) (fc : Nat) (text : List Byte) : List Byte := ccmText tagKey (linkNonce s 0 3 fc) text

/-- The receiver at the sync word of an uplink whose first chip lies `pre` before it. -/
def listening (f : State → State) : State := f { linked (ctx3 id) with rfc := { (linked id).rfc with seq := .rx } }

/-- The sync frame of an uplink with this CRC error. -/
def syncFrame (head err : Nat) : SyncFrame := ⟨2, BitVec.ofNat 80 (head + 2 ^ 64 * ((crc16 (leBytes 8 head) + err) % 65536)), 10, -90⟩

theorem witness_UplinksReceivedAndAcknowledged :
    (let s := listening id
     linkRx s (stSec s) = true ∧ cfgBAt s lnkChanEn 7 = true ∧ cfgBAt s lnkChanEn 1 = true ∧ s.lnk.air = none ∧ s.lnk.rx[(7 : LinkChan)] = none ∧ s.rfc.seq = .rx ∧
       (syncFrame 0 0).syncErrs ≤ cfgAt s lnkChanSyncErr 7 ∧ 20 * (syncFrame 0 0).afc.natAbs * 1000000 ≤ 60 * cfgAt s lnkChanFreq 7 ∧
       metTransmission s (stNow s - preTime s 7) = false ∧ metTransmission { s with clk := { s.clk with lsynRxAt := 11 } } (stNow s - preTime s 7) = true ∧
       crc16 (leBytes 8 (upHead 1 0 1 4 7)) ≠ getBits (syncFrame (upHead 1 0 1 4 7) 1).header.toNat 64 16 ∧
       crc16 (leBytes 8 (upHead 1 0 1 4 7)) = getBits (syncFrame (upHead 1 0 1 4 7) 0).header.toNat 64 16 ∧ (syncFrame (upHead 1 0 1 4 7) 0).header.toNat % 2 ^ 64 = upHead 1 0 1 4 7 ∧
       badHeader s 7 (upHead 1 0 1 193 7) = true ∧ badHeader s 7 (upHead 1 0 1 192 7) = false ∧ badHeader s 7 (upHead 3 0 0 32 7) = false ∧ badHeader s 7 (upHead 2 2 1 5135 7) = false ∧
       ctxOwner s 4 = none ∧ ctxOwner s 3 = some 0 ∧ slotOwner s (slotAt (stNow s - preTime s 7)).2 = 0) ∧
    (let s := clock (40001 / 4000) (listening id)
     slotOwner s (slotAt (stNow s - preTime s 7)).2 ≠ 0) ∧
    (let s := clock (10026 / 1000) (listening id)
     (cfg s lnkCfgAlarmCh).testBit 1 = true ∧ alarmSlot (slotAt (stNow s - preTime s 1)).2 = true ∧ alarmSlot (slotAt (stNow (listening id) - preTime s 1)).2 = false ∧
       cfgBAt s lnkChanEn 1 = true ∧ alarmSlot (slotAt (stNow s)).2 = true ∧ linkRx s (stSec s) = true ∧ s.lnk.air = none) ∧
    (let s := clock (10028 / 1000) (heard (upHead 1 0 1 4 7) id)
     (cfg s lnkCfgAlarmCh).testBit 7 = false ∧ slotOwner s (slotAt (stNow s)).2 = 3) := by decide +kernel

/-- The hypotheses of a frame's end: a good MIC, and one that is wrong. -/
def endsGood (head fc len : Nat) (f : Ctx → Ctx) : Bool :=
       let s := heard head f
       let text := List.replicate len (0x33 : Byte)
       let body := upBody s fc text
       let mic := upMic s head fc text
       let sent := linkMic s 8 0 3 fc (ctxGet s 3).key (leBytes 8 head) (ccmText (ctxGet s 3).key (linkNonce s 0 3 fc) body)
       s.lnk.rx[(7 : LinkChan)] == some (upRx head) && reached s (upRx head).last && (ctxGet s 3).key != [] && body.length == getBits head 18 13 && sent == leBytes 8 mic.toNat && sent != leBytes 8 (mic + 1).toNat

theorem witness_UplinksReceivedAndAcknowledged_end :
    [endsGood (upHead 1 0 1 4 7) 7 4 (fun c => { c with lastFc := some 8 }), endsGood (upHead 1 0 1 4 7) 7 4 (fun c => { c with lastFc := some 7 }),
       endsGood (upHead 1 0 1 4 7) 7 4 (fun c => { c with state := .retired, liveAt := some 10 }), endsGood (upHead 2 1 0 4 7) 7 4 id,
       endsGood (upHead 3 0 0 0 0xFFFFFFFF) 0xFFFFFFFF 0 (fun c => { c with state := .silent })] = List.replicate 5 true := by decide +kernel

theorem witness_UplinksReceivedAndAcknowledged_ack :
    (let e : Emission := ⟨.ack 0 7, 7, 10012 / 1000, 1 / 1000, 40, some 40, true, []⟩
     let s := linked fun s => ctx3 id { s with lnk := { s.lnk with ackDue := s.lnk.ackDue.set (7 : LinkChan) (some (dueAck none)), prep := some e } }
     let endT := (dueAck none).last + 150 / 1000000 + ackTime s 7 + tTail
     s.lnk.ackDue[(7 : LinkChan)] = some (dueAck none) ∧ reached s ((dueAck none).last + 150 / 1000000) = true ∧ launchCandidates s = [] ∧ (∀ c : LinkChan, c ≠ 7 → s.lnk.rx[c] = none) ∧ (s.lnk.ctx.all fun x => x.2.queue.isEmpty) = true ∧
       inRun s 0 (dueAck none).last endT = true ∧ linkTx s (stSec s) = true ∧ inhibited s = false ∧ s.lnk.air = none ∧
       (s.lnk.prep.map fun e => (decide (e.kind = .ack 0 7), e.admitted)) = some (true, some 40)) := by decide +kernel

/-- A downlink of context 3. -/
def down (w : FrameWait) (ack : Bool) (retries : Nat) : Downlink := ⟨9, 7, ack, 1, 10, [1, 2, 3], 801 / 80, w, retries, retries, 6, 0, 0⟩

/-- A prepared emission. -/
def prepared (k : EmissionKind) : Emission := ⟨k, 7, 801 / 80, 1 / 1000, 40, some 40, true, []⟩

/-- Its launch entry. -/
def launchEntry : SchedEntry := ⟨801 * 4294967296 / 80, 0, 0, 1, 0, 3, 9, 0, 1, 0, false⟩

/-- Context 3 holds a downlink, with this prepared, this on air and this credit. -/
def launching (d : Downlink) (prep air : Option Emission) (credit : Int) : State :=
  linked fun s => ctx3 (fun c => { c with queue := [d] }) { s with
    lnk := { s.lnk with prep := prep, air := air, ackDue := s.lnk.ackDue.set (7 : LinkChan) (some (dueAck none)) }
    sky := { s.sky with entries := [launchEntry] }
    pmu := { s.pmu with credit := s.pmu.credit.set 0 credit } }

/-- The acknowledgement of a tag: its body and its MIC. -/
def ackMic (s : State) (body : BitVec 32) : BitVec 32 := BitVec.ofNat 32 (leNat (linkMic s 4 4 3 6 tagKey [] (leBytes 4 body.toNat)))

theorem witness_DownlinksLaunchAndClose :
    (let e := prepared (.launch 0 3 9)
     let s := launching (down .armed true 0) (some e) none 70
     (s.sky.entries.find? fun e => e.owner == 0 && e.kind == 0 && e.arg == 9) = some launchEntry ∧ reached s (stOfWord launchEntry.st) = true ∧
       ((ctxGet s launchEntry.op).queue.find? fun d => d.handle == 9) = some (down .armed true 0) ∧
       s.lnk.prep = some e ∧ e.admitted = some 40 ∧ linkTx s (stSec s) = true ∧ inhibited s = false ∧ s.lnk.air = none ∧
       creditOk s 0 (txCharge s 40 e.dur) = false ∧ creditOk (launching (down .armed true 0) (some e) none 150) 0 (txCharge s 40 e.dur) = true ∧
       (launching (down .armed true 0) none none 0).lnk.prep = none) ∧
    (let e := prepared (.launch 0 3 9)
     ctxOwner (launching (down .retry true 1) (some e) none 150) 3 = some 0 ∧ waitingDown (launching (down .retry true 1) (some e) none 150) 3 = some (down .retry true 1) ∧
       waitingDown (launching (down .held true 0) (some e) none 150) 3 = some (down .held true 0) ∧ e.decided = true ∧ prepDue (launching (down .retry true 1) (some e) none 150) e = true ∧
       creditOk (launching (down .retry true 1) (some e) none 150) 0 (txCharge (launching (down .retry true 1) (some e) none 150) 40 e.dur) = true) ∧
    (let s := fun (k : EmissionKind) (ack : Bool) => clock (8011 / 800) (launching (down .onAir ack 1) none (some (prepared k)) 1000)
     (s (.launch 0 3 9) true).lnk.air = some (prepared (.launch 0 3 9)) ∧
       reached (s (.launch 0 3 9) true) ((prepared (.launch 0 3 9)).t0 + (prepared (.launch 0 3 9)).dur) = true ∧ ((ctxGet (s (.launch 0 3 9) true) 3).queue.find? fun x => x.handle == 9) = some (down .onAir true 1) ∧
       ((ctxGet (s (.launch 0 3 9) false) 3).queue.find? fun x => x.handle == 9) = some (down .onAir false 1) ∧
       sound (s (.launch 0 3 9) false) = true ∧
       (s (.ack 0 7) true).lnk.ackDue[(7 : LinkChan)] = some (dueAck none)) ∧
    (let s := fun (n : Nat) => launching (down .ack true n) none none 0
     let body : BitVec 32 := BitVec.ofNat 32 (packFields [(0, 10, 3), (10, 16, 6)])
     sound (s 1) = true ∧ ctxOwner (s 1) 3 = some 0 ∧ ((ctxGet (s 1) 3).queue.find? fun d => d.wait == .ack) = some (down .ack true 1) ∧
       getBits body.toNat 0 10 = 3 ∧ getBits body.toNat 10 16 = (down .ack true 1).fc % 65536 ∧
       linkMic (s 1) 4 4 3 6 (ctxGet (s 1) 3).key [] (leBytes 4 body.toNat) = leBytes 4 (ackMic (s 1) body).toNat ∧
       linkMic (s 1) 4 4 3 6 (ctxGet (s 1) 3).key [] (leBytes 4 body.toNat) ≠ leBytes 4 (ackMic (s 1) body + 1).toNat ∧
       ackUntil (s 3) (down .ack true 3) ≤ stNow (s 3) ∧ ackUntil (s 4) (down .ack true 4) ≤ stNow (s 4) ∧ (down .ack true 3).retries ≤ (ctxGet (s 3) 3).retryMax ∧ (ctxGet (s 4) 3).retryMax < (down .ack true 4).retries) ∧
    (let e : Emission := { prepared .beacon with t0 := 10 }
     let s := fun (set : Nat) => { clock 10 (launching (down .held true 0) (some e) none 0) with rfc := { State.reset.rfc with set := set } }
     (s 2).lnk.prep = some e ∧ e.kind = .beacon ∧ prepDue (s 2) e = true ∧ e.admitted ≠ none ∧ beaconMode (s 2) = true ∧ inhibited (s 2) = false ∧ linkTx (s 2) (stSec (s 2)) = true ∧
       stSec (s 2) % beaconPeriod (s 2) = 0 ∧ (s 2).lnk.air = none ∧ beaconMode (withMode (fun m => { m with mode := .quiet }) (s 2)) = false) := by decide +kernel

/-- A submission stands in the window: context, channel, ACK_REQ, payload length and ST. -/
def submitting (ctx ch ask len : Nat) (st : Rat) (f : Ctx → Ctx) (g : State → State) : State :=
  winPut 0 0xC000 (leBytes 8 (stWord st) ++ leBytes 2 (packFields [(0, 10, ctx), (10, 3, ch), (13, 1, ask)]) ++ leBytes 1 len ++ leBytes 1 10) (g (linked (ctx3 f)))

/-- A roster command stands in the window. -/
def rostering (ctx code : Nat) : State :=
  winPut 0 0xC200 (leBytes 2 ctx ++ leBytes 1 (packFields [(0, 2, code), (2, 4, 15)])) (linked (ctx3 id))

theorem witness_LinkWindowCommands :
    (let s := submitting 3 7 1 192 (10 + 3 / 200) id id
     s.pld[(0 : Polder)].core.phase = .running ∧ s.pld[(0 : Polder)].restartDue = false ∧ domOn s .lnk = true ∧ ctxOf s 0 3 = true ∧ ctxOf s 0 4 = false ∧ cfgP s 0 pldSegBreachAct ≠ 2 ∧
       (ctxGet s 3).state = .active ∧ (ctxGet s 2).state ≠ .active ∧ 224 < queueSize { (ctxGet s 3) with queue := [down .held true 0] } + 16 + 192 ∧
       getBits (winNat s 0 0xC008 2) 0 10 = 3 ∧ winNat s 0 0xC00A 1 = 192 ∧ stNow s + 1 / 1000 ≤ stOfWord (winNat s 0 0xC000 8)) ∧
    (let s := submitting 3 7 1 4 (1000 / 99 - 1 / 11 + 3 / 1000) id id
     stOfWord (winNat s 0 0xC000 8) < stNow s + 1 / 1000) ∧
    (let s := submitting 3 7 1 4 (10 + 3 / 200) id id
     let span := launchSpan s 7 4 true (stOfWord (winNat s 0 0xC000 8))
     cfgBAt s lnkChanEn 7 = true ∧ cfgBAt s lnkChanEn 6 = false ∧ launchFits s 0 7 4 true (stOfWord (winNat s 0 0xC000 8)) = true ∧ served s 10 = true ∧
       overlapsLaunch s 0 span.1 span.2 = false ∧ (ownEntries s 0).length < schedQuota s 0 ∧
       schedQuota s 0 ≤ (ownEntries { s with sky := { s.sky with entries := List.replicate 8 launchEntry } } 0).length ∧ s.lnk.nextHandle[(0 : Polder)] < 65536 ∧
       s.pld[(0 : Polder)].memWf = true ∧ (ctxGet (submitting 3 7 1 4 (10 + 3 / 200) (fun c => { c with state := .silent }) id) 3).state = .silent) ∧
    (let s := fun (w : FrameWait) => winPut 0 0xC010 [9, 0] (launching (down w true 0) none none 0)
     findDown (s .held) 0 (winNat (s .held) 0 0xC010 2) = some (3, down .held true 0) ∧ findDown (s .onAir) 0 9 = some (3, down .onAir true 0) ∧
       findDown (s .armed) 0 9 = some (3, down .armed true 0) ∧ (down .armed true 0).st ≤ stNow (s .armed) ∧ sound (s .held) = true ∧ findDown (s .held) 0 8 = none) ∧
    (let k := fun (c : Nat) => getBits (winNat (rostering 3 c) 0 0xC202 1) 0 2
     getBits (winNat (rostering 3 0) 0 0xC200 2) 0 10 = 3 ∧ k 0 = 0 ∧ k 1 = 1 ∧ k 2 = 2 ∧ k 3 = 3 ∧ sound (rostering 3 0) = true) := by decide +kernel

theorem test_submit_results :
    (after (.txSubmit 0) (submitting 3 7 1 4 (10 + 3 / 200) id id)).lnk.txResult[(0 : Polder)] = 0 ∧
    (after (.txSubmit 0) (submitting 3 7 1 193 (10 + 3 / 200) id id)).lnk.txResult[(0 : Polder)] = 2 ∧
    (after (.txSubmit 0) (submitting 3 7 1 4 (10 + 1 / 40) id id)).lnk.txResult[(0 : Polder)] = 4 := by decide +kernel

/-! ### Radio control -/

/-- The guard area with profile 1 alone: 863 to 870 MHz, 14 dBm, listening at −80 dBm for 200 µs, acknowledgements exempt, a duty cycle of 100 %. -/
def guardOtp : Nat :=
  2 ^ 512 * packFields [(1, 1, 1), (128 + 0, 3, 0), (128 + 9, 1, 1), (256 + 0, 20, 863000), (256 + 20, 20, 870000), (256 + 84, 8, 56), (256 + 92, 8, 64), (256 + 100, 14, 10000),
    (256 + 114, 8, twos 8 (-80)), (256 + 122, 16, 200)]

/-- Profile 1 is the set, the synthesizer is locked and this emission is prepared. -/
def guarded (k : EmissionKind) (req : Int) (f : RfcState → RfcState) : State :=
  linked fun s => ctx3 id { s with
    boot := { s.boot with otp := guardOtp, blocks := s.boot.blocks ++ [common 0x1110 2 (packFields [(3, 3, 1), (6, 3, 2), (9, 3, 6), (32, 1, 1), (34, 1, 1)])] }
    clk := { s.clk with lsynTx := true }
    rfc := f { s.rfc with set := 2 }
    lnk := { s.lnk with prep := some { prepared k with req := req, admitted := none, decided := false } } }

theorem witness_GuardAdmitsEmissions :
    (let s := guarded (.launch 0 3 9) 60 id
     let e : Emission := { prepared (.launch 0 3 9) with req := 60, admitted := none, decided := false }
     s.lnk.prep = some e ∧ e.decided = false ∧ decisionDue s e = true ∧ guardTest s e (-80) = none ∧ guardTest s e (-79) = some .lbt ∧ clampPower s 7 60 = 56 ∧ clampPower s 7 56 = 56 ∧
       guardTest { s with clk := { s.clk with lsynTx := false } } e (-80) = some .unlocked ∧ guardTest { s with rfc := { s.rfc with set := 1 } } e (-80) = some .profile ∧
       guardTest s { e with dur := 361 } (-80) = some .duty ∧ guardTest { s with rfc := { s.rfc with pin := true } } e (-80) = some .quiet ∧
       guardTest { s with rfc := { s.rfc with alarmRx := s.rfc.alarmRx.set 7 true } } e (-80) = some .alarm ∧ guardTest { s with rfc := { s.rfc with pri := true } } e (-80) = some .pri ∧
       setProfiles s = [1] ∧ subOf s 1 7 = some 0) ∧
    (guardTest (guarded (.ack 0 7) 60 id) { prepared (.ack 0 7) with req := 60 } 0 = none ∧ guardTest (guarded .beacon 56 id) (prepared .beacon) (-80) = none) ∧
    (let s := linked fun s => ctx3 id { s with lnk := { s.lnk with ackDue := s.lnk.ackDue.set (7 : LinkChan) (some (dueAck none)) } }
     (firstAck s).map (·.1) = some 7 ∧ (firstAck s).isSome ∧ (nextEmission s).isSome ∧ linkRx s (stSec s) = true ∧ s.lnk.air = none ∧ firstAck (linked id) = none ∧
       (nextEmission (linked id)).isSome) ∧
    (let s := guarded (.launch 0 3 9) 60 id
     let e : Emission := { prepared (.launch 0 3 9) with req := 60, admitted := none, decided := false }
     cfgB s rfcCfgReqEn = true ∧ inhibited s = false ∧ setTransmits s = true ∧ s.lnk.prep.or (nextEmission s) = some e ∧ e.decided = false ∧
       reached s (e.t0 - (cfg s rfcCfgReqLead : Rat) / 1000000) = true ∧ profileOk s 1 0 7 e.t0 e.dur = true ∧ dutyOk s 1 0 7 e.dur = true ∧
       s.lnk.prep ≠ none ∧ s.lnk.dpdPending = false ∧
       { s with lnk := { s.lnk with dpdPending := true } }.lnk.dpdPending = true ∧ cfgBAt s lnkChanEn 7 = true ∧ cfgBAt s lnkChanEn 6 = false ∧ sound s = true) := by decide +kernel

theorem test_clamp : (after (.emissionDecision (-80) false) (guarded (.launch 0 3 9) 57 id)).ctr = [(pRfcPowerClamps 0, 1)] ∧
    (after (.emissionDecision (-80) false) (guarded (.launch 0 3 9) 56 id)).ctr = [] := by decide +kernel

theorem witness_QuietAndCoexistence :
    (let s := guarded (.launch 0 3 9) 60 id
     let u := { s with boot := { s.boot with blocks := linkBlocks }, lnk := { s.lnk with air := some (prepared (.launch 0 3 9)) } }
     cfgB s rfcCfgPriEn = true ∧ cfgB u rfcCfgPriEn = false ∧ linkRx s (stSec s) = true ∧ linkRx (withMode (fun m => { m with mode := .layup }) s) (stSec s) = false ∧
       s.rfc.quiet = false ∧ u.lnk.air = some (prepared (.launch 0 3 9)) ∧ s.lnk.air = none ∧ sound s = true) ∧
    (let s := guarded .beacon 60 fun r => { r with quiet := true, exitRun := some (-120), motion := [⟨0, true, 0, 0, 0, 5000⟩], setNext := some 4, lastQual := some (801 / 80 - 600), basis := 2 }
     s.rfc.quiet = true ∧ s.rfc.pin = false ∧ s.rfc.exitRun = some (-120) ∧ s.rfc.motion.head? = some ⟨0, true, 0, 0, 0, 5000⟩ ∧ 120 ≤ (0 : Rat) - (-120) ∧ s.rfc.setNext = some 4 ∧
       s.rfc.set ≠ 4 ∧ s.rfc.lastQual = some (801 / 80 - 600) ∧ 600 ≤ stNow s - (801 / 80 - 600) ∧ s.rfc.basis ≠ 3 ∧ s.rfc.set ≠ 1) := by decide +kernel

/-! ### Polders -/

/-- An operation in the window: CR_LEN, CR_AAD_LEN, TAG_LEN. -/
def cryptoWin (len aad tag : Nat) (f : CryptoUnit → CryptoUnit) : State :=
  winPut 0 0xC402 (leBytes 2 len ++ leBytes 1 aad ++ leBytes 1 (2 * tag)) (pol0 (fun q => { q with crypto := f q.crypto }) (linked fun s => setDom .cry .on (ctx3 id s)))

/-- A job. -/
def cryptoJob (op : Nat) (endAt : Option Rat) (gone : Bool) : CryptoJob :=
  ⟨op, false, true, 4, 0, 16, List.replicate 16 1, List.replicate 32 2, [], List.replicate 16 3, List.replicate 256 4, 10 + 1 / 32000 - 1 / 1000000, endAt, gone⟩

/-- Polder 0 runs this job, at the start of its slot 1. -/
def cryptoRuns (op : Nat) (endAt : Option Rat) (gone : Bool) : State :=
  clock (10 + 1 / 32000) (cryptoWin 4 0 2 fun u => { u with job := some (cryptoJob op endAt gone) })

theorem witness_CryptoEngineServes :
    (let s := cryptoWin 256 32 2 id
     mayAccess s 0 ∧ domOn s .cry = true ∧ winNat s 0 0xC402 2 = 256 ∧ winNat s 0 0xC404 1 = 32 ∧ getBits (winNat s 0 0xC405 1) 1 2 = 2 ∧ s.pld[(0 : Polder)].crypto.job = none ∧
       cryptoSlots s 0 = [1, 17] ∧ sound s = true ∧ winNat (cryptoWin 257 33 3 id) 0 0xC402 2 = 257 ∧ winNat (cryptoWin 257 33 3 id) 0 0xC404 1 = 33 ∧
       getBits (winNat (cryptoWin 257 33 3 id) 0 0xC405 1) 1 2 = 3 ∧ winNat (cryptoWin 0 0 0 id) 0 0xC402 2 = 0) ∧
    cryptoSlots { cryptoWin 0 0 0 id with boot := { State.reset.boot with blocks := [common 0x1210 4 (16 ^ 32 - 1)] } } 0 = [] ∧
    (let s := cryptoRuns 2 none false
     s.pld[(0 : Polder)].crypto.job = some (cryptoJob 2 none false) ∧ (cryptoJob 2 none false).endAt = none ∧ domOn s .cry = true ∧ 0 ≤ (cryptoJob 2 none false).at_ ∧
       cryptoOwner s (320001 % 32) = (0 : Polder).val ∧ (cryptoJob 2 none false).at_ + 1 / 1000000 ≤ ((320001 : Nat) : Rat) / 32000 ∧
       ((320001 : Nat) : Rat) / 32000 ≤ stNow s ∧ stNow (clock 10 s) < ((320001 : Nat) : Rat) / 32000) ∧
    (let s := cryptoRuns 2 (some 10) false
     s.pld[(0 : Polder)].crypto.job = some (cryptoJob 2 (some 10) false) ∧ (10 : Rat) + 1 / 1000000 ≤ stNow s ∧ winBit s 0 0xC405 0 = false ∧
       winBit (winPut 0 0xC405 [1] s) 0 0xC405 0 = true ∧ s.pld[(0 : Polder)].core.phase ≠ .off ∧ s.pld[(0 : Polder)].memWf = true ∧
       (cryptoOutcome (cryptoJob 2 (some 10) false) [] []).result = 3) ∧
    (cryptoRuns 7 (some 10) true).pld[(0 : Polder)].crypto.job = some (cryptoJob 7 (some 10) true) ∧
    (let j := { cryptoJob 2 none false with tag := jobGcmTag (cryptoJob 2 none false) [4, 4, 4, 4] }
     jobGcmTag j (j.buf.take j.len) = j.tag.take j.tagLen) ∧
    (let j := { cryptoJob 4 none false with tag := jobCcmTag (cryptoJob 4 none false) (bytesAt (ccmText (cryptoJob 4 none false).theKey (List.replicate 13 1) [4, 4, 4, 4]) 0 4) }
     jobCcmTag j (bytesAt (ccmText j.theKey (j.iv.take 13) (j.buf.take j.len)) 0 j.len) = j.tag.take j.tagLen) := by
  simp only [mayAccess]
  decide +kernel

/-- No own slot of the job begins before slot 320001. -/
theorem witness_CryptoEngineServes_first (h : Nat) (e : (cryptoJob 2 none false).at_ + 1 / 1000000 ≤ (h : Rat) / 32000) : 320001 ≤ h := by
  have e : (10 + 1 / 32000 - 1 / 1000000 : Rat) + 1 / 1000000 ≤ (h : Rat) / 32000 := e
  have e' : (320001 : Rat) ≤ h := by linarith
  exact_mod_cast e'

/-- Polder 0 as given, in the device of the link tests. -/
def polded (f : PolderState → PolderState) : State := pol0 f (linked (ctx3 id))

theorem witness_CoresWindowsAndBasinServe :
    (let s := polded fun q => { q with core := { q.core with phase := .off } }
     s.mode.life = .run ∧ isDry s 0 = false ∧ s.pld[(0 : Polder)].key = .done ∧ domOn s (.pld 0) = true ∧ s.pld[(0 : Polder)].core.phase = .off ∧
       (polded fun q => { q with core := { q.core with phase := .restarting } }).pld[(0 : Polder)].core.phase = .restarting) ∧
    (let s := polded id
     mayAccess s 0 ∧ structOf 0xE000 = some (0xE000, 8) ∧ (∀ l, s.pld[(0 : Polder)].latch ≠ some (0xE000, l)) ∧ structOf 0xE007 = some (0xE000, 8) ∧
       cfgP s 0 pldSegBreachAct ≠ 2 ∧ windowFate s 0 0xC420 (some 0xFF) = .dry ∧ windowFate s 0 0xC020 (some 0xFF) = .live ∧ s.pld[(0 : Polder)].memWf = true ∧ sound s = true) ∧
    (let s := polded fun q => { q with latch := some (0xE000, []), msBreaches := [⟨10011, 1, 1, 0xE000⟩] }
     (0xE007 : Word).toNat ≠ 0xE000 ∧ (∃ l, s.pld[(0 : Polder)].latch = some (0xE000, l)) ∧ s.pld[(0 : Polder)].msBreaches = ⟨10011, 1, 1, 0xE000⟩ :: [] ∧ 10011 ≠ stMs s) ∧
    (let s := { polded id with aon := { (polded id).aon with sense := [⟨0, 2, 50, 1000, 800, 0⟩] } }
     stSec s / 10 * 10 = 10 ∧ s.mode.life = .run ∧ s.sky.run = true ∧ s.pmu.senseS ≠ 10 ∧ ((10 : Nat) : Rat) + 2 / 1000 ≤ stNow s ∧
       (s.aon.sense.find? fun x => 10 * (x.win + 1) == 10) = some ⟨0, 2, 50, 1000, 800, 0⟩) := by
  refine ⟨by decide +kernel, ?_, ⟨by decide +kernel, ⟨[], by decide +kernel⟩, by decide +kernel, by decide +kernel⟩, by decide +kernel⟩
  refine ⟨by simp only [mayAccess]; decide +kernel, by decide +kernel, fun l => ?_, by decide +kernel, by decide +kernel, by decide +kernel, by decide +kernel, by decide +kernel, by decide +kernel⟩
  rw [show (polded id).pld[(0 : Polder)].latch = none by decide +kernel]
  exact fun h => nomatch h

theorem test_register_write :
    winByte (after (.registerWrite 0 0xC020 0xA5) (polded id)) 0 0xC020 = 0xA5 ∧ (after (.registerWrite 0 0xC420 0xA5) (polded id)).pld[(0 : Polder)].core.dry = true ∧
    (after (.registerWrite 0 0xE000 1) (polded id)).pld[(0 : Polder)].lastKind = 1 := by decide +kernel

/-- Area 7 of polder 0 is declared towards or from polder 1's area 0, with a period of 4 ms. -/
def sluiced (dirIn : Bool) (partner : Option (Fin 8)) (f : Sluice → Sluice) : State :=
  polded fun q => { q with sluice := q.sluice.set 7 (f { decl := some ⟨dirIn, 1, 0, 4, partner⟩ }) }

theorem witness_SluicesTransfer :
    (let s := sluiced false (some 0) fun x => { x with send := true, sendTick := 9999999999 }
     s.pld[(0 : Polder)].sluice[(7 : Fin 8)].decl = some ⟨false, 1, 0, 4, some 0⟩ ∧ s.mode.life = .run ∧ s.sky.run = true ∧ stMs s % 4 = 0 ∧
       s.pld[(0 : Polder)].sluice[(7 : Fin 8)].st ≠ stWord ((stMs s : Rat) / 1000) ∧ s.pld[(0 : Polder)].sluice[(7 : Fin 8)].send = true ∧ 9999999999 < s.sky.tick ∧
       s.sky.tick ≤ 10000000000 ∧ s.pld[(0 : Polder)].memWf = true ∧ mayAccess s 0 ∧ s.pld[(0 : Polder)].sluice[(6 : Fin 8)].decl = none ∧ cfgP s 0 pldSegBreachAct ≠ 2) ∧
    (sluiced true none id).pld[(0 : Polder)].sluice[(7 : Fin 8)].decl = some ⟨true, 1, 0, 4, none⟩ ∧
    (let s := sluiced true (some 0) fun x => { x with transit := some (List.replicate 64 7, 801 / 80 - 4 / 1000000), full := true }
     s.pld[(0 : Polder)].sluice[(7 : Fin 8)].transit = some (List.replicate 64 7, 801 / 80 - 4 / 1000000) ∧ (801 / 80 - 4 / 1000000 : Rat) + 4 / 1000000 ≤ stNow s ∧
       s.pld[(0 : Polder)].sluice[(7 : Fin 8)].full = true ∧ sluiceWake s 0 7 = false ∧ sluiceWake (winPut 0 (sluiceBase 7 + 0x40) [4] s) 0 7 = true ∧
       s.pld[(0 : Polder)].core.phase ≠ .off) := by
  simp only [mayAccess]
  decide +kernel

/-- A segment of polder 0 with these blocks. -/
def segmentOf (blocks sig : List Byte) : List Byte :=
  let head := leBytes 4 0x47455350 ++ leBytes 4 0 ++ leBytes 4 (blocks.length + 64) ++ leBytes 4 0 ++ testKey ++ List.replicate 96 0x5A ++ leBytes 12 7 ++ leBytes 4 0
  let c := gcmText testSegKey (leBytes 12 7) (blocks ++ sig)
  head ++ gcmTag testSegKey (leBytes 12 7) head c ++ c

/-- Polder 0's key flow at a point, over an image with this segment. -/
def keyed (seg : List Byte) (f : PolderState → PolderState) : State :=
  let n := 128 + 136 + commonBlocksBytes.length
  let image := leBytes 128 (packFields [(0, 32, 0x4E52484A), (192, 32, 136 + commonBlocksBytes.length), (160, 32, 128), (224, 32, n), (256, 32, seg.length)]) ++ testCommon (testSig 1 1) ++ seg
  let s := device [.pld 0] []
  pol0 f { s with boot := { s.boot with image := image } }

/-- The two blocks PLD.SEG and HST.KEY, without the required BOOT.RAM. -/
def bareBlocks : List Byte := blockBytes ⟨0, 0x1218, 1, 0xC0⟩ ++ blockBytes ⟨0, 0x1818, 9, 1⟩

/-- The hypotheses of the load: the tag, the signature and the plaintext of a segment under a key. -/
def loads (seg key : List Byte) : List Bool :=
  let s := clock 10 (keyed seg fun q => { q with key := .load, segKey := some key })
  let g := segOf s 0
  let text := segText key g
  [segTagOk key g, segSigned g text, plainOk s 0 (parseBlocks 0 (ctLen g) (text.take (ctLen g - 64)) 0),
    decide (loadSlotsEnd s 0 (openSlots g) ≤ stNow s) && decide (loadSlotsEnd s 0 (loadSlots g) ≤ stNow s) && isDry s 0 == false, s.pld[(0 : Polder)].key == .load, s.pld[(0 : Polder)].segKey == some key]

theorem witness_KeyFlowLoadsASegment :
    (let s := fun k => keyed testHeader fun q => { q with key := k }
     isDry (s .resetLow) 0 = false ∧ (s .resetLow).pld[(0 : Polder)].key = .resetLow ∧
       (let t := fun (n : Nat) => { s .resetLow with sky := { (s .resetLow).sky with tick := n } }
        (t 0).sky.tick < (t 0).pld[(0 : Polder)].keyTick + cardTicks (t 0) 0 400 ∧ (t 49152000).pld[(0 : Polder)].keyTick + cardTicks (t 49152000) 0 400 ≤ (t 49152000).sky.tick) ∧ (s .awaitAtr).pld[(0 : Polder)].key = .awaitAtr ∧ (s .unwrap).pld[(0 : Polder)].key = .unwrap ∧
       (s .getResponse).pld[(0 : Polder)].key = .getResponse ∧ (s .awaitAtr).pld[(0 : Polder)].keyTick + 589824000 ≤ (clock 10 (s .awaitAtr)).sky.tick ∧ (s .unwrap).pld[(0 : Polder)].keyTick + 589824000 ≤ (clock 10 (s .unwrap)).sky.tick ∧ ¬(s .unwrap).pld[(0 : Polder)].keyTick + 589824000 ≤ (s .unwrap).sky.tick ∧
       (let t := fun k => { s k with hst := { (s k).hst with pol := (s k).hst.pol.set 0 { (s k).hst.pol[(0 : Polder)] with awaitTs := true, cardClocks := 40000 } } }
        (t .awaitAtr).hst.pol[(0 : Polder)].awaitTs = true ∧ 40000 ≤ cardClocks (t .awaitAtr) 0 ∧ (t .awaitAtr).pld[(0 : Polder)].key = .awaitAtr ∧
          40000 ≤ cardClocks (t .unwrap) 0 ∧ (t .unwrap).pld[(0 : Polder)].key ≠ .awaitAtr)) ∧
    (let s := keyed (segmentOf segBlocks (testSig 1 1)) fun q => { q with key := .getResponse }
     ownerKey (segOf s 0) = testKey ∧ (testSegKey ++ sha256 testKey).length = 64 ∧ (testSegKey ++ sha256 testKey).drop 32 = sha256 (ownerKey (segOf s 0)) ∧
       (testSegKey ++ testSegKey).drop 32 ≠ sha256 (ownerKey (segOf s 0))) ∧
    (loads (segmentOf segBlocks (testSig 1 1)) testSegKey).take 2 = [true, false] ∧ (loads (segmentOf segBlocks (testSig 1 1)) (List.replicate 32 0)).head? = some false := by
  decide +kernel

theorem witness_KeyFlowLoadsASegment_good :
    loads (segmentOf segBlocks (testSig 0x73344442d96ab8001c245316229cb9fc1fc36286bffd86fe73fdda7cc33fb37d 0x7fe5c2b4194a22a872799d2f96134cf498f15ff069776c0563b6ae57a88aef4a)) testSegKey =
      [true, true, true, true, true, true] := by decide +kernel

theorem witness_KeyFlowLoadsASegment_incomplete :
    loads (segmentOf bareBlocks (testSig 0x73344442d96ab8001c245316229cb9fc1fc36286bffd86fe73fdda7cc33fb37d 0xdc332b54ef055281918054dfb3bf8d35e1c80a118f71742b17e9a27fd80056f8)) testSegKey = [true, true, false, true, true, true] := by
  decide +kernel

theorem test_key_flow :
    (after (.unwrap 0 0x6140) (keyed testHeader fun q => { q with key := .unwrap })).pld[(0 : Polder)].key = .getResponse ∧
    (after (.unwrap 0 0x6A80) (keyed testHeader fun q => { q with key := .unwrap })).pld[(0 : Polder)].dryCauses = [4] ∧
    (after (.unwrap 0 0x6140) (clock 10 (keyed testHeader fun q => { q with key := .unwrap }))).pld[(0 : Polder)].dryCauses = [5] := by decide +kernel

/-! ### Sky time -/

/-- Sky-time parameters: EXT in use, TP0 with a period of 1 s and no gate, TP1 with 1 ms and the aligned gate, both edges of EVT3 captured. -/
def skyBlocks (stepEn : Nat) : List ParamBlock :=
  [common 0x0910 4 (packFields [(0, 10, 100), (10, 1, stepEn), (11, 16, 1000), (28, 1, 1), (32, 8, 10), (40, 8, 20), (48, 16, 10), (64, 14, 100), (78, 8, 10), (102, 10, 50), (112, 7, 2)]),
   common 0x0911 4 (packFields [(0, 1, 1), (5, 2, 0), (7, 16, 10000), (59, 5, 10), (64, 1, 1), (66, 3, 3), (69, 2, 1), (71, 16, 10000), (123, 5, 10)]),
   common 0x0912 4 (packFields [(96, 1, 1), (97, 2, 2), (99, 16, 1000)])]

/-- An aligned device at 100.0125 s, its tick 10¹², with the time's state given. -/
def skied (f : SkyState → SkyState) : State :=
  linked fun s => ctx3 id { s with
    mode := { s.mode with aligned := true }
    boot := { s.boot with blocks := s.boot.blocks ++ skyBlocks 1 }
    clk := { s.clk with extPresent := true }
    sky := f { s.sky with tick := 1000000000000, seg := ⟨1000000000000, 8001 / 80, 1 / 491520000⟩, source := .gnss, target := .gnss } }

/-- GNSS is available, with this offset. -/
def byGnss (off : Rat) (k : SkyState) : SkyState :=
  { k with trustedSince := some 0, gnssFresh := true, trustedSol := some ⟨8001 / 80, 1000000000000, off, 0, 10, 1 / 491520000⟩ }

/-- EXT is available, with this phase. -/
def byExt (phase : Rat) (k : SkyState) : SkyState := { k with extSince := some 970508800000, extLast := some 999999999999, extPhase := [(phase, 8001 / 80)] }

/-- The oscillator model is available. -/
def byModel (k : SkyState) : SkyState := { k with model := List.replicate 360 (999999999999, 0) }

theorem witness_SkyTimeSteersAndSteps :
    ((skied fun k => { k with alignDecided := some 5, anchorAt := 1000000000000 }).sky.alignDecided = some 5 ∧ (skied fun k => { k with stepTo := some .ext }).sky.stepTo = some .ext ∧
      (skied fun k => { k with anchorAt := 1000000000000 }).sky.anchorAt ≤ (skied id).sky.tick ∧ (skied id).sky.tick < (skied fun k => { k with anchorAt := 1000000000001 }).sky.anchorAt) ∧
    (let s := skied fun k => { k with trustedSince := some 995084800000 }
     s.sky.trustedSince = some 995084800000 ∧ 995084800000 + 491520000 * cfg s skyCfgGnssReturn ≤ s.sky.tick) ∧
    (let s := skied (byGnss 0)
     s.sky.run = true ∧ s.mode.aligned = true ∧ s.sky.switching = false ∧ s.sky.source ≠ .free ∧ wantedSource s = s.sky.target ∧ s.sky.seg.tick = s.sky.tick ∧
       (let t := { s with sky := { s.sky with tick := 1000000000001 } }
        t.sky.seg.tick ≠ t.sky.tick)) ∧
    (wantedSource (skied id) = .free ∧ (skied id).sky.target ≠ .free) ∧
    (let s := skied (byExt 0)
     wantedSource s = .ext ∧ wantedSource s ≠ s.sky.target ∧ cfgB s skyCfgStepEn = true ∧ ¬ (cfg s skyCfgStepThr : Rat) / 1000000 < absQ (phaseAgainst s .ext) ∧
       (cfg s skyCfgStepThr : Rat) / 1000000 < absQ (phaseAgainst (skied (byExt (2 / 1000))) .ext)) ∧
    (let s := fun (q : Rat) => skied fun k => { byExt q k with target := .ext, switching := true }
     wantedSource (s 0) = (s 0).sky.target ∧ (s 0).sky.switching = true ∧ (s 0).sky.stepTo = none ∧
       absQ (phaseAgainst (s (2 / 1000000000)) .ext) ≤ (cfg (s 0) skyCfgSwDone : Rat) / 1000000000 ∧
       (cfg (s 0) skyCfgSwDone : Rat) / 1000000000 < absQ (phaseAgainst (s (3 / 1000000000)) .ext)) := by decide +kernel

theorem witness_ComparatorsVoteOnDrift :
    ((skied id).sky.run = true ∧ domOn (skied id) .time = true ∧ (skied id).sky.extLast = none ∧ 1000000000000 ≤ 999508430848 + 491569152 ∧
      (skied fun k => { k with extLast := some 999508430848 }).sky.extLast = some 999508430848 ∧ 999508430847 + 491569152 < (skied id).sky.tick) ∧
    (let s := fun (q : Rat) => skied fun k => byExt q (byGnss 0 k)
     cmpAvail (s 0) .gnss = true ∧ cmpAvail (s 0) .ext = true ∧ cmpAvail (s 0) .model = false ∧ disagree (s 0) .gnss .ext = false ∧ disagree (s (1 / 1000)) .gnss .ext = true) ∧
    (let s := skied fun k => byModel (byExt 0 (byGnss 0 k))
     cmpAvail s .gnss = true ∧ cmpAvail s .ext = true ∧ cmpAvail s .model = true ∧ ∀ c, c = Comparator.gnss ∨ c = .ext ∨ c = .model → cmpAvail s c = true) ∧
    (let s := skied fun k => { k with outlier := #v[3, 3, 3] }
     s.sky.disq[cmpIdx .model] = false ∧ 3 ≤ s.sky.outlier[cmpIdx .model] ∧ 3 ≤ s.sky.outlier[cmpIdx .gnss]) ∧
    (let s := skied fun k => { k with agree := #v[6, 6, 6], disq := #v[true, true, true] }
     s.sky.disq[cmpIdx .gnss] = true ∧ 6 ≤ s.sky.agree[cmpIdx .gnss]) ∧
    ((skied fun k => { k with pairBad := 3 }).sky.undecided = false ∧ 3 ≤ (skied fun k => { k with pairBad := 3 }).sky.pairBad ∧
      (skied fun k => { k with undecided := true, pairGood := 6 }).sky.undecided = true ∧ 6 ≤ (skied fun k => { k with undecided := true, pairGood := 6 }).sky.pairGood) := by
  refine ⟨by decide +kernel, by decide +kernel, ⟨by decide +kernel, by decide +kernel, by decide +kernel, ?_⟩, by decide +kernel, by decide +kernel, by decide +kernel⟩
  rintro c (rfl | rfl | rfl) <;> decide +kernel

theorem witness_PulsesAndEventsOnTime :
    (let s := skied id
     tpDriven s 0 = true ∧ 1 ≤ tpPeriod s 0 ∧ tpDriven s 1 = true ∧ tpPeriod s 1 < 1 ∧ tpGate s 0 = true ∧ tpGate s 1 = true ∧
       tpGate (withMode (fun m => { m with aligned := false }) s) 1 = false ∧
       tickOf s (tpEdgeNear s 0 (stNow s + 1 / 10) - 1 / 10) ≤ s.sky.tick ∧ tickOf s (tpEdgeNear s 1 (stNow s)) ≤ s.sky.tick ∧
       s.sky.tick < tickOf s 101 ∧ tickOf s 100 ≤ s.sky.tick ∧ tickOf s (99 + tpWidth s 0) ≤ s.sky.tick) ∧
    (let s := fun (b : Bool) => modTp 0 (fun q => { q with decided := some (101, b), active := true }) (skied id)
     (s true).sky.tp[(0 : Fin 2)].decided = some (101, true) ∧ (s false).sky.tp[(0 : Fin 2)].decided = some (101, false) ∧ (s true).sky.tp[(0 : Fin 2)].active = true) ∧
    (let s := fun (n : Nat) => skied fun k => { k with evt := k.evt.set (3 : Port) { last := some n } }
     cfgBAt (s 0) skyEvtEn 3 = true ∧ cfgBAt (s 0) skyEvtEn 2 = false ∧ cfgAt (s 0) skyEvtEdge 3 = 2 ∧ (s 0).mode.life = .run ∧ (s 0).sky.run = true ∧
       (s 999999508480).sky.evt[(3 : Port)].last = some 999999508480 ∧
       (((s 0).sky.tick : Nat) : Rat) - (999999508480 : Nat) ≤ (cfgAt (s 0) skyEvtHoldoff 3 : Rat) * 491520000 / 1000000 ∧
       (cfgAt (s 0) skyEvtHoldoff 3 : Rat) * 491520000 / 1000000 < (((s 0).sky.tick : Nat) : Rat) - (999999508479 : Nat)) := by decide +kernel

theorem test_pulse_and_event :
    (after (.timePulseEdge 1) (skied id)).sky.tp[(1 : Fin 2)].edge = some (8001 / 80 - 1 / 2000) ∧
    (after (.evtCapture 3 true 0) (skied id)).sky.evt[(3 : Port)].seq = 1 := by decide +kernel

/-- An entry that wakes polder 0. -/
def wakeEntry (st h : Nat) : SchedEntry := ⟨st, 0, 3, 2, 0, 0, 7, h, h, 0, false⟩

/-- Polder 0 arms at an ST with its entries given; its quota is eight. -/
def arming (st : Rat) (l : List SchedEntry) : State :=
  winPut 0 0xC708 (leBytes 8 (stWord st) ++ leBytes 4 7) (linked fun s => ctx3 id { s with sky := { s.sky with entries := l } })

theorem witness_SchedulerArmsAndFires :
    (let s := arming (801 / 80 + 1 / 1000) ((List.range 7).map (wakeEntry 0))
     mayAccess s 0 ∧ domOn s .time = true ∧ s.pld[(0 : Polder)].memWf = true ∧ stNow s + 1 / 100000 ≤ stOfWord (winNat s 0 0xC708 8) ∧ (ownEntries s 0).length < schedQuota s 0 ∧
       schedQuota s 0 ≤ 2 ^ 24 ∧ schedQuota s 0 ≤ (ownEntries (arming 11 ((List.range 8).map (wakeEntry 0))) 0).length ∧
       stOfWord (winNat (arming (801 / 80) []) 0 0xC708 8) < stNow s + 1 / 100000) ∧
    (let s := arming 11 [wakeEntry 0 0, wakeEntry (2 ^ 63) 1]
     s.mode.life = .run ∧ s.sky.run = true ∧ (ownEntries s 0).any (entryDue s) = true ∧ (ownEntries s 1).any (entryDue s) = false) := by
  simp only [mayAccess]
  decide +kernel

theorem test_scheduler :
    (let t := after (.schedArm 0) (arming 11 [wakeEntry 0 0, wakeEntry 0 2])
     t.sky.entries.map (·.handle) = [0, 2, 1] ∧ winNat t 0 0xC718 3 = 1) ∧
    (let t := after .schedulerFire (arming 11 [wakeEntry 0 0, wakeEntry (2 ^ 63) 1])
     t.sky.entries.map (·.handle) = [1] ∧ t.sky.win[(0 : Polder)].done.map (·.handle) = [0]) := by decide +kernel

/-! ### Power and clocks -/

/-- A device in a mode with a domain at a place. -/
def posed (m : Mode) (d : Domain) (x : DomPos) : State := setDom d x (withMode (fun y => { y with mode := m }) (linked (ctx3 id)))

/-- The same device with every domain on but this one. -/
def risen (m : Mode) (d : Domain) (x : DomPos) : State := setDom d x (allDomains.foldl (fun t e => setDom e .on t) (posed m d x))

/-- The tick is 10¹². -/
def late (s : State) : State := { s with sky := { s.sky with tick := 1000000000000, seg := ⟨1000000000000, 100, 1 / 491520000⟩ } }

theorem witness_PowerFollowsTheModes :
    (let s := posed .layup (.pld 0) .on
     domAt s (.pld 0) = .on ∧ domTarget s (.pld 0) = .retention ∧ stopOk s (.pld 0) = true ∧ coreLive s 0 = true ∧ Memory.wf (fun _ => 0) s.pld[(0 : Polder)].ram = true ∧
       stopOk (pol0 (fun q => { q with core := { q.core with load := some ⟨.a, 0⟩ } }) s) (.pld 0) = false) ∧
    (domAt (posed .layup (.pld 0) .stopped) (.pld 0) = .stopped ∧ domTarget (posed .layup (.pld 0) .stopped) (.pld 0) = .retention ∧
      domAt (posed .full .nvm .isolated) .nvm = .isolated ∧ domTarget (posed .full .nvm .isolated) .nvm = .off ∧ domAt (posed .layup (.pld 0) .isolated) (.pld 0) = .isolated ∧
      domAt (posed .layup (.pld 0) .saved) (.pld 0) = .saved ∧ domAt (posed .layup (.pld 0) .cutRetention) (.pld 0) = .cutRetention ∧
      domAt (posed .full (.trk 3) .cutOff) (.trk 3) = .cutOff ∧ domTarget (posed .full (.trk 3) .cutOff) (.trk 3) ≠ .cutOff ∧
      domAt (posed .full .nvm .retention) .nvm = .retention) ∧
    (domTarget (posed .full (.pld 0) .stopped) (.pld 0) = .on ∧ domAt (posed .full (.pld 0) .stopped) (.pld 0) = .stopped ∧ domAt (posed .full (.pld 0) .cutOff) (.pld 0) = .cutOff ∧
      domAt (posed .full (.pld 0) .retention) (.pld 0) = .retention ∧ domAt (posed .full (.pld 0) .off) (.pld 0) = .off ∧ domTarget (posed .full .hst .off) .hst = .on ∧
      domAt (posed .full .hst .off) .hst = .off ∧ railFree (risen .full .hst .off) .hst = true ∧ domTarget (risen .full .hst .off) .hst = .on ∧ domAt (risen .full .hst .off) .hst = .off ∧
      railFree (risen .full (.pld 0) .retention) (.pld 0) = true ∧ domTarget (risen .full (.pld 0) .retention) (.pld 0) = .on ∧
      domAt (risen .full (.pld 0) .retention) (.pld 0) = .retention ∧ railFree (posed .full .hst .off) .hst = false) ∧
    (let s := fun (b : Bool) => { posed .thin .gfr (if b then .on else .retention) with pmu := { (posed .thin .gfr (if b then .on else .retention)).pmu with duty := b } }
     (s true).mode.life = .run ∧ (s true).mode.mode = .thin ∧ (s true).pmu.duty = true ∧ domOn (s true) .gfr = true ∧ (dutyDomains (s true)).contains .gfr = true ∧
       (s false).pmu.duty = false ∧ inDuty (s false) = true ∧ inDuty (clock (21 / 2) (s true)) = false ∧ (clock (21 / 2) (s true)).pmu.duty = true ∧
       domAt (s false) .gfr = .retention ∧ domTarget (s true) .gfr = .on) ∧
    (let s := posed .full .hst .off
     s.mode.life = .run ∧ cfgB s hstCfgI2cEn = true ∧ (66 : BitVec 7).toNat = cfg s hstCfgI2cAddr ∧ domOn s .hst = false ∧ domOn (posed .full .hst .on) .hst = true ∧
       autobaud (withBlocks [common 0x1810 3 (packFields [(1, 1, 1), (3, 4, 8)])] s) = true) ∧
    (let s := { posed .layup .hst .on with pmu := { (posed .layup .hst .on).pmu with woken := true } }
     s.pmu.woken = true ∧ s.hst.lastTraffic + 4915200 * cfg s pmuCfgHostIdle ≤ s.sky.tick ∧ s.hst.outB.recs = [] ∧ s.mode.mode = .layup ∧
       ∀ p : Polder, (withMode (fun m => { m with mode := .full }) s).hst.pol[p].out.recs = []) ∧
    (let s := fun (bad : Nat) (b : Bool) => late { posed .full .hst .on with pmu := { (posed .full .hst .on).pmu with vinBadMs := bad, void := b, voidEnd := 970508800000 } }
     (s 1 false).mode.life = .run ∧ (s 1 false).pmu.voidVin = false ∧ (s 1 false).pmu.vinBadMs ≠ 0 ∧ (s 1 false).pmu.void = false ∧
       (s 0 true).pmu.void = true ∧ (s 0 true).pmu.voidThermal = false ∧ (s 0 true).pmu.voidEnd + 29491200000 ≤ (s 0 true).sky.tick ∧ sound (s 1 false) = true) := by
  decide +kernel

/-- A device on its battery, with the gauge's state and the mode's given. -/
def gauged (f : AonState → AonState) (g : ModeState → ModeState) : State :=
  let s := withBlocks [common 0x1511 5 (packFields [(0, 16, 100), (16, 7, 5), (23, 7, 30)])] (withMode g (posed .full .hst .on))
  { s with aon := f { s.aon with rails := true } }

/-- A device with its clocks as given. -/
def clocked (f : ClkState → ClkState) (g : State → State) : State :=
  let s := setDom .clk .on (withBlocks [common 0x1610 4 (packFields [(16, 1, 1), (18, 2, 1), (32, 22, 2000000), (64, 22, 200), (96, 22, 200)])] (withMode (fun m => { m with aligned := true })
    (posed .full .hst .on)))
  g { s with clk := f s.clk }

/-- These PLLs are locked. -/
def locks (a b c d : Bool) (k : ClkState) : ClkState := { k with lock := #v[a, b, c, d], started := true }

theorem witness_GovernorGaugeAndClocks_power :
    (let s := gauged id id
     s.aon.rails = true ∧ s.mode.life = .run ∧ s.mode.fallback = false ∧ s.mode.rank3 = false ∧ meanQ [319] < cfg s bootModesVoff ∧ cfg s bootModesVoff ≤ meanQ [320] ∧
       (cfg s bootModesVcut : Rat) ≤ meanQ [340] ∧ meanQ [339] < cfg s bootModesVcut ∧ (gauged id fun m => { m with rank3 := true }).mode.rank3 = true ∧
       (gauged id fun m => { m with life := .safe }).mode.life ≠ .run ∧ anyPortOn s = false ∧ anyPortOn (ports 0 0 id) = true ∧
       (100 ≤ tjMean { s with aon := { s.aon with tj := [100] } } 100) ∧ (105 ≤ tjMean { s with aon := { s.aon with tj := [105] } } 100)) ∧
    ((gauged (fun a => { a with govNext := some 1 }) id).aon.govNext = some 1 ∧ (gauged (fun a => { a with govNext := some 1 }) id).aon.govLevel < 1 ∧
      (gauged id id).aon.govAt ≤ (gauged id id).sky.tick ∧ (gauged id id).sky.tick < (gauged (fun a => { a with govNext := some 1, govAt := 10000000001 }) id).aon.govAt) ∧
    (let s := gauged (fun a => { a with vbat := [400], restMs := 1800000 }) id
     s.aon.vbat = 400 :: [] ∧ blockOf s 8 0x1511 ≠ none ∧ 60000 * cfg s pmuGaugeRestMin ≤ s.aon.restMs) ∧
    (let s := gauged id id
     s.mode.life = .run ∧ s.sky.run = true ∧ s.pmu.creditMs ≠ some (stMs s) ∧ ({ s with pmu := { s.pmu with accrues := s.pmu.accrues.set 0 true } }).pmu.accrues[(0 : Polder)] = true ∧ isDry s 0 = false) := by
  decide +kernel

theorem witness_GovernorGaugeAndClocks_clocks :
    (let s := clocked (locks false true true false) id
     s.clk.started = true ∧ s.mode.fallback = false ∧ domOn s .clk = true ∧ locked s .a = false ∧ locked s .d = false ∧ locked s .b = true ∧ s.clk.relocking = false ∧
       s.mode.life = .run ∧ anyPortOn { ports 0 0 id with clk := s.clk } = true ∧ clkService s = true ∧ s.clk.refFreq ≠ 4 ∧ locked (clocked (locks true true true true) id) .d = true) ∧
    (let s := clocked (fun k => { locks false true true false k with relocking := true, refChange := true }) id
     s.clk.relocking = true ∧ s.clk.refChange = true ∧ relockDone s = false ∧ relockDone (setLock .a true s) = true ∧
       s.clk.relockTick + 9830400 ≤ s.sky.tick ∧ (clocked (fun k => { k with relocking := true }) id).clk.refChange = false ∧
       (clocked (fun k => { k with relocking := true }) id).clk.relocking = true) ∧
    (let s := clocked (locks true true true true) fun s => { s with mode := { s.mode with life := .boot }, boot := { s.boot with phase := .pllWait } }
     clkService s = false ∧ locked s .a = true ∧ (clocked (fun k => { k with refFreq := 4 }) id).clk.refFreq = 4) ∧
    (let s := clocked (fun k => { locks true true true true k with extGood := 100, extPresent := true }) id
     locked s .b = true ∧ domOn s .clk = true ∧ s.mode.fallback = false ∧ s.clk.extAt + 4915200 ≤ s.sky.tick ∧ s.clk.extPresent = true) ∧
    (let s := ports 0 0 fun q => { q with synced := true }
     portOn s 0 = true ∧ s.spt.port[(0 : Port)].synced = true ∧ s.spt.port[(0 : Port)].lost = false) ∧
    (let s := clocked (fun k => { locks true true true true k with ckdRelock := some 9992872960, ckdFrom := 9993856000 }) id
     ckdMay s = true ∧ s.clk.ckdRelock = some 9992872960 ∧ ((9992872960 + 983040 : Nat) : Int) ≤ tickOf s (stSec s) ∧ (s.clk.ckdFrom : Int) ≤ tickOf s (stSec s) ∧
       s.clk.ckdRun ≠ ckdWanted s) := by decide +kernel

theorem test_battery_thresholds :
    (after (.pmuSample 25 319 400 0) (gauged id id)).mode.life = .off ∧ (after (.pmuSample 25 339 400 0) (gauged id id)).mode.rank3 = true ∧
    (after (.pmuSample 25 340 400 0) (gauged id id)).mode.rank3 = false ∧ (after (.pmuSample 105 400 400 0) (gauged id id)).aon.govLevel = 2 := by decide +kernel

/-! ### Host port, card ports, culvert -/

/-- HST.CFG with these modes, HST.SLOTS at its defaults, and polder 0's host key. -/
def hostBlocks (autobaud data9 : Nat) : List ParamBlock :=
  [common 0x1810 3 (packFields [(1, 1, autobaud), (2, 1, 1), (3, 4, 8 + data9), (12, 1, 1), (13, 7, 66), (20, 1, 1), (32, 25, 12000000), (64, 24, 9600)]),
   common 0x1811 7 (packFields ([(0, 12, 256), (112, 8, 192), (184, 8, 48)] ++ (List.range 8).flatMap fun k => [(12 + 12 * k, 12, if k = 7 then 0 else 96), (120 + 8 * k, 8, 48), (192 + 4 * k, 4, 2)])),
   ⟨0, 0x1818, 9, 1 + 2 ^ 32 * 0x1234⟩, ⟨7, 0x1818, 9, 1⟩,
   common 0x1910 4 (packFields ([(0, 1, 1), (5, 8, 10), (32, 8, 64)] ++ (List.range 8).map fun k => (40 + 8 * k, 8, 24)))]

/-- A device with its host port and its culvert on. -/
def hosted (autobaud : Nat) (f : HostState → HostState) : State :=
  modHst f (setDom .obs .on (setDom .hst .on (withBlocks (hostBlocks autobaud 0) (linked (ctx3 id)))))

/-- Characters without flags that arrive together. -/
def chars (b : List Byte) : List RxChar := b.map fun x => ⟨x.setWidth 16, 9999999000⟩

/-- A unit of the port's unit buffer. -/
def unitOf (polder cls frag : Nat) (seq : Nat) (slice : List Byte) : State := hosted 0 fun h => { h with unit := chars (unitBytes polder cls frag seq slice) }

/-- The frame of polder 0 that counter `n` and this text make. -/
def sealed (n : Nat) (text : List Byte) : List Byte :=
  let s := hosted 0 id
  let c := gcmText (hostKey s 0) (hostNonce s 1 0 n) text
  c ++ gcmTag (hostKey s 0) (hostNonce s 1 0 n) (unitHeader 0 1 0 text.length n) c

/-- A frame in INQ_B. -/
def framed (b : List Byte) (f : State → State) : State := f (hosted 0 fun h => { h with inqB := [(b, 10)] })

theorem witness_HostPortInAndOut_in :
    (let s := fun (n : Nat) => hosted 1 fun h => { h with rx := List.replicate n ⟨0, 0⟩ }
     (s 0).mode.life = .run ∧ domOn (s 0) .hst = true ∧ hostOnRef (s 0) = false ∧
       hostOnRef { s 0 with pmu := { (s 0).pmu with wokenClk := true } } = true ∧ measuredRate (s 0) [0, 128, 256, 384, 512] = some 3072000 ∧
       measuredRate (s 0) [0, 128, 256, 384] = none ∧ autobaud (s 0) = true ∧ (s 0).hst.baudOk = false ∧ autobaud (hosted 0 id) = false ∧ cfg (s 0) hstCfgMinBaud ≤ 12000000 ∧
       512 ≤ (s 512).hst.rx.length ∧ (s 511).hst.rx.length < 512 ∧ cfgB (s 0) hstCfgFlowEn = true) ∧
    ((hosted 0 fun h => { h with rx := chars [0xC1] }).hst.rx = [⟨0xC1, 9999999000⟩] ∧ (hosted 0 id).hst.rx = [] ∧
      2 ≤ (hosted 0 fun h => { h with unit := chars [0xC1, 0xE6] }).hst.unit.length) ∧
    (let fields := fun (s : State) => let b := s.hst.unit.map RxChar.byte; let h := leNat ((b.drop 2).take 4)
       ([getBits h 0 4, getBits h 6 2, getBits h 8 12, getBits h 20 12], bit8Ok s s.hst.unit && crc16 ((b.drop 2).take (4 + getBits h 8 12)) == leNat (b.drop (6 + getBits h 8 12)))
     fields (unitOf 8 1 0 5 [4, 0]) = ([8, 0, 2, 5], true) ∧ fields (unitOf 0 1 0 4095 (sealed 4095 [1, 2, 3])) = ([0, 0, 19, 4095], true) ∧ fields (unitOf 9 0 0 0 []) = ([9, 0, 0, 0], true) ∧
       (fields (unitOf 0 0 0 0 (List.replicate 497 0))).1 = [0, 0, 497, 0]) ∧
    (let s := unitOf 0 1 0 4095 (sealed 4095 [1, 2, 3])
     inRoom s 0 19 = true ∧ inRoom s 0 2065 = false ∧ inCounterOf s.hst.pol[(0 : Polder)].inCounter 4095 = some 4095 ∧ inCounterOf (some 4095) 4095 = none ∧
       inCounterOf (some 4095) 0 = some 4096 ∧ blockOf s 0 0x1818 ≠ none ∧
       gcmTag (hostKey s 0) (hostNonce s 1 0 4095) (unitHeader 0 1 0 3 4095) ((sealed 4095 [1, 2, 3]).take 3) = (sealed 4095 [1, 2, 3]).drop 3 ∧
       gcmTag (hostKey s 0) (hostNonce s 1 0 4096) (unitHeader 0 1 0 3 0) ((sealed 4095 [1, 2, 3]).take 3) ≠ (sealed 4095 [1, 2, 3]).drop 3) := by decide +kernel

theorem test_polder_frame : ((finishUnit (unitOf 0 1 0 4095 (sealed 4095 [1, 2, 3]))).hst.pol[(0 : Polder)].inq.map (·.data)) = [[1, 2, 3]] ∧
    (finishUnit (unitOf 0 2 0 4095 (sealed 4095 [1, 2, 3]))).ctr = [(pHstInAuth 0, 1)] := by decide +kernel

theorem witness_HostPortInAndOut_frames :
    ((framed [1, 0] id).hst.inqB = [([1, 0], 10)] ∧ (framed (2 :: List.replicate 12 0) id).hst.inqB.map (·.1.length) = [13] ∧ (framed [2] id).mode.aligned = false ∧
      (withMode (fun m => { m with aligned := true }) (framed [2] id)).mode.aligned = true ∧ cfgB (framed [2] id) hstCfgAssistEn = true ∧
      (framed (4 :: List.replicate 16 0) id).sol.lastPos = none ∧
      cfgB { framed [3] id with boot := { (framed [3] id).boot with blocks := [common 0x1810 3 0] } } hstCfgAssistEn = false) ∧
    (let d := leBytes 16 (packFields [(64, 5, 0), (69, 6, 3), (118, 10, 300)]) ++ packBits ((lnavBits 400).drop 2)
     let s := framed (3 :: d) id
     let sig := getBits (leNat (d.take 16)) 64 5
     16 ≤ d.length ∧ cfgB s hstCfgAssistEn = true ∧ symbolsOnly sig = false ∧ recheck sig (getBits (leNat (d.take 16)) 118 10) (d.drop 16) = true ∧
       (navUnit 400 none).content.issue = some (5, 0, 14400, [true]) ∧ getBits (leNat (d.take 16)) 69 6 = 3 ∧ ephOf s ⟨(sigInfo sig).const, 3⟩ = none) ∧
    (let s := hosted 0 fun h => { h with lastMs := some 10011 }
     s.mode.life = .run ∧ s.sky.run = true ∧ domOn s .hst = true ∧ hostOnRef s = false ∧ s.hst.lastMs ≠ some (stMs s) ∧ autobaud s = false ∧ cfgB s hstCfgFlowEn = true ∧ s.hst.bootRec ≠ some (stSec s) ∧ s.hst.bootRec = none ∧
       (8 ≤ slotBytes s 1) ∧ slotBytes s 8 = 0 ∧ stSec (clock 60 s) % 60 = 0) ∧
    (let s := fun (len cls : Nat) => winPut 0 0xD5E0 (leBytes 2 len ++ leBytes 1 cls) (hosted 0 id)
     winNat (s 480 2) 0 0xD5E0 2 = 480 ∧ winNat (s 480 2) 0 0xD5E2 1 = 2 ∧ winNat (s 240 0) 0 0xD5E0 2 = 240 ∧ cfgAt (s 0 0) hstSlotsSlot (0 : Polder).val ≠ 0 ∧
       cfgAt (s 0 0) hstSlotsSlot (7 : Polder).val = 0 ∧ mayAccess (s 0 0) 0 ∧ isDry (s 0 0) 0 = false ∧ (s 0 0).pld[(0 : Polder)].memWf = true) ∧
    (hosted 0 fun h => { h with i2cBlock := some [], i2cPtr := 23 }).hst.i2cBlock = some [] := by
  simp only [mayAccess]
  decide +kernel

/-- Polder 0's card port as given, its control byte stored. -/
def carded (v : Byte) (f : PolderHost → PolderHost) : State := winPut 0 0xC805 [3] (winPut 0 0xC800 [v] (modH 0 f (hosted 0 id)))

/-- The culvert as given. -/
def observed (f : ObsState → ObsState) : State := let s := clock 10 (hosted 0 id); { s with obs := f s.obs }

theorem witness_CardPortsAndCulvert :
    (mayAccess (carded 0 id) 0 ∧ domOn (carded 0 id) (.pld 0) = true ∧ cardBit (carded 0 id) 0 0 = false ∧ cardBit (carded 1 id) 0 0 = true ∧
      (carded 1 fun h => { h with cardTx := List.replicate 15 0 }).hst.pol[(0 : Polder)].cardTx.length < 16 ∧
      16 ≤ (carded 1 fun h => { h with cardTx := List.replicate 16 0 }).hst.pol[(0 : Polder)].cardTx.length ∧ (carded 0 id).pld[(0 : Polder)].memWf = true) ∧
    (let s := fun (f : PolderHost → PolderHost) => carded 0x1F f
     keyFlow (s id) 0 = false ∧ cardBit (s id) 0 0 = true ∧ cardBit (s id) 0 1 = true ∧ cardBit (s id) 0 2 = true ∧ cardBit (s id) 0 3 = true ∧ cardBit (carded 3 id) 0 2 = false ∧
       (s id).hst.pol[(0 : Polder)].cardTx = [] ∧ parityBad false 0x13B = false ∧ directByte 0x13B = 0x3B ∧ parityBad true 0x103 = false ∧ inverseByte 0x103 = 0x3F ∧ parityBad false 0x3B = true ∧
       32 ≤ (s fun h => { h with cardRx := List.replicate 32 0 }).hst.pol[(0 : Polder)].cardRx.length ∧
       (s fun h => { h with cardRx := List.replicate 31 0 }).hst.pol[(0 : Polder)].cardRx.length < 32 ∧ (s fun h => { h with cardTx := [7], cardRetry := 3 }).hst.pol[(0 : Polder)].cardTx ≠ [] ∧
       (s id).hst.pol[(0 : Polder)].cardNext ≤ (s id).sky.tick ∧ (s id).sky.tick < (s fun h => { h with cardTx := [7], cardNext := 10000000001 }).hst.pol[(0 : Polder)].cardNext ∧
       winNat (s id) 0 0xC805 1 ≤ 3 ∧ 2 < winNat (s id) 0 0xC805 1) ∧
    (let s := observed id
     obsOn s = true ∧ s.sky.run = true ∧ s.obs.anchorS ≠ some (stSec s) ∧ cfg s obsCfgDumpPeriod ≠ 0 ∧ stSec s % cfg s obsCfgDumpPeriod = 0 ∧ s.obs.dumpS ≠ some (stSec s) ∧
       0 + packetSize 1 (anchorPayload s).length ≤ shareSize s 8) ∧
    (let s := observed fun o => { o with open_ := o.open_.set 7 { entries := [1], tick := 9999950848 } }
     s.obs.open_[(7 : Polder)].entries ≠ [] ∧ s.obs.open_[(7 : Polder)].tick + 49152 ≤ s.sky.tick) ∧
    (let s := observed fun o => { o with turn := 8, share := (o.share.set 8 { packets := [⟨1, 0, 0, 0, []⟩] }).set 0 { packets := [⟨2, 0, 0, 0, List.replicate 24600 0⟩] } }
     s.obs.lineEnd ≤ s.sky.tick ∧ (observed id).sky.tick < (observed fun o => { o with lineEnd := 10000000001 }).obs.lineEnd ∧ nextTurn s 9 s.obs.turn = some 0 ∧ s.obs.share[turnSrc 0].packets = ⟨1, 0, 0, 0, []⟩ :: [] ∧ s.obs.share[turnSrc (8 + 0)].packets = [] ∧
       shareSize s 0 < (s.obs.share[(0 : Fin 9)].packets.map fun x => packetSize x.type x.payload.length).sum + packetSize 3 4) := by
  simp only [mayAccess]
  decide +kernel

theorem test_ts : (after (.cardCharReceive 0 0x103 0) (carded 0x1F fun h => { h with awaitTs := true })).hst.pol[(0 : Polder)].conv = true ∧
    (after (.cardCharReceive 0 0x13B 0) (carded 0x1F fun h => { h with awaitTs := true })).hst.pol[(0 : Polder)].cardRx = [0x3B] := by decide +kernel

/-! ### Chips and pads -/

/-- The generator of 10_tag_link R250 by hand: the register of code 0 is all ones, so nine ones leave before the first fed-back bit. -/
theorem test_codes : codeChips 14 (codeSeed 0) = [true, true, true, true, true, true, true, true, true, false, false, false, false, true] ∧
    codeChips 12 (codeSeed 1) = [false, true, false, false, false, true, true, true, true, true, false, true] ∧
    symbolChips 0 8 true = List.replicate 8 false := by decide

theorem test_pads : (let s := device [.spt 0] []
    padHold s .syncN = .driven ∧ padHold s .lpaEn = .floats ∧ padHold s (.tp 0) = .released ∧
      padHold { s with mode := { s.mode with life := .safe } } .lpaEn = .low ∧ padHold { s with mode := { s.mode with life := .boot } } (.tp 1) = .released) ∧
    padHold State.reset .huTx = .high := by decide +kernel

end Sys2Proof.Tests
end

section
/-!
SUPPORT. Frames: which parts of the state and which counters the shared operations leave as they were, said once for each operation and put together along a
command; and what the basin view shows after a structure is written.
-/

namespace Sys2Proof.Machine

/-! ### Parts that stay -/

theorem Part.same_trans {s t u : State} {x : Part} (h : x.same s t) (k : x.same t u) : x.same s u := by
  cases x <;> exact Eq.trans k h

theorem only_refl (l : List Part) (s : State) : only l s s := fun x => .inr (by cases x <;> rfl)

theorem only_trans {l : List Part} {s t u : State} (h : only l s t) (k : only l t u) : only l s u := fun x =>
  (h x).elim .inl fun a => (k x).imp_right (Part.same_trans a)

theorem only_mono {l m : List Part} {s t : State} (h : only l s t) (hs : l ⊆ m) : only m s t := fun x => (h x).imp_left (@hs x)

/-- A part that is not named is the same. -/
theorem only.kept {l : List Part} {s t : State} (h : only l s t) (x : Part) (hx : x ∉ l) : x.same s t := (h x).resolve_left hx

/-- What every turn of a fold relates, from the value before the turn to the one after it, the whole fold relates. -/
theorem foldl_relates {α β : Type} {R : β → β → Prop} {f : β → α → β} (hr : ∀ s, R s s) (ht : ∀ {s t u}, R s t → R t u → R s u)
    (hf : ∀ s a, R s (f s a)) (l : List α) (s : β) : R s (l.foldl f s) := by
  induction l generalizing s with
  | nil => exact hr s
  | cons a l ih => exact ht (hf s a) (ih _)

/-- Of a fold whose turns but those of `q` keep something, what it does to it is `q`'s one turn. -/
theorem foldl_keeps_around {α β γ : Type} {f : β → α → β} (g : β → γ) {q : α} (hf : ∀ s a, a ≠ q → g (f s a) = g s) {l : List α} (hq : q ∈ l)
    (hn : l.Nodup) (s : β) : ∃ u, g u = g s ∧ g (l.foldl f s) = g (f u q) := by
  have rest : ∀ (k : List α) (s : β), q ∉ k → g (k.foldl f s) = g s := by
    intro k
    induction k with
    | nil => exact fun _ _ => rfl
    | cons a k ih =>
      intro s hk
      obtain ⟨ha, hk⟩ := not_or.1 (mt List.mem_cons.2 hk)
      exact (ih _ hk).trans (hf s a (Ne.symm ha))
  obtain ⟨l₁, l₂, rfl⟩ := List.append_of_mem hq
  have h₁ : q ∉ l₁ := fun h => (List.nodup_append.1 hn).2.2 q h q List.mem_cons_self rfl
  have h₂ : q ∉ l₂ := (List.nodup_cons.1 (List.nodup_append.1 hn).2.1).1
  refine ⟨l₁.foldl f s, rest l₁ s h₁, ?_⟩
  rw [List.foldl_append, List.foldl_cons]
  exact rest l₂ _ h₂

theorem only_bump (i : Nat) (s : State) : only [.obs, .ctr] s (bump i s) := by
  rw [bump_eta]
  intro x
  cases x <;> simp [Part.same]

theorem only_bumpIf (c : Bool) (i : Nat) (s : State) : only [.obs, .ctr] s (bumpIf c i s) := by
  rw [bumpIf_eta]
  intro x
  cases x <;> simp [Part.same]

theorem only_recB (cls kind : Nat) (content : List Byte) (s : State) : only [.hst, .obs, .ctr] s (recB cls kind content s) := by
  rw [recB_eta]
  intro x
  cases x <;> simp [Part.same]

theorem only_basinPut (a : Nat) (b : List Byte) (s : State) : only [.basin] s (basinPut a b s) := by
  intro x
  cases x <;> simp [Part.same]

@[simp] theorem bump_lnk (i : Nat) (s : State) : (bump i s).lnk = s.lnk := (only_bump i s).kept .lnk (by decide)
@[simp] theorem bump_rfc (i : Nat) (s : State) : (bump i s).rfc = s.rfc := (only_bump i s).kept .rfc (by decide)
@[simp] theorem bump_aon (i : Nat) (s : State) : (bump i s).aon = s.aon := (only_bump i s).kept .aon (by decide)
@[simp] theorem bump_pmu (i : Nat) (s : State) : (bump i s).pmu = s.pmu := (only_bump i s).kept .pmu (by decide)
@[simp] theorem bump_clk (i : Nat) (s : State) : (bump i s).clk = s.clk := (only_bump i s).kept .clk (by decide)
@[simp] theorem bump_hst (i : Nat) (s : State) : (bump i s).hst = s.hst := (only_bump i s).kept .hst (by decide)
@[simp] theorem bump_basin (i : Nat) (s : State) : (bump i s).basin = s.basin := (only_bump i s).kept .basin (by decide)

/-! ### Configuration and sky time -/

theorem cfg_congr {s t : State} (h : t.boot = s.boot) : cfg t = cfg s := by
  funext f
  unfold cfg fldVal blockOf
  rw [h]

theorem cfgAt_congr {s t : State} (h : t.boot = s.boot) : cfgAt t = cfgAt s := by
  funext r k
  unfold cfgAt fldVal blockOf
  rw [h]

theorem stNow_congr {s t : State} (h : t.sky = s.sky) : stNow t = stNow s := by
  unfold stNow stAt
  rw [h]

/-! ### Counters -/

/-- A counter that no report touches: neither one of the basin queue's spills and folds nor one of the culvert's drops. -/
def reportFree (j : Nat) : Prop := j ≠ cHstOutSpillB ∧ j ≠ cHstC0FoldsB ∧ (j < 256 ∨ 264 < j)

theorem ctrGet_congr {s t : State} (h : t.ctr = s.ctr) (j : Nat) : ctrGet t j = ctrGet s j := by
  unfold ctrGet
  rw [h]

theorem reportFree_pol (p : Polder) (k : Nat) : reportFree (polCounter p k) := by
  unfold reportFree polCounter cHstOutSpillB cHstC0FoldsB
  omega

theorem ctrGet_recB_free {j : Nat} (h : reportFree j) (cls kind : Nat) (content : List Byte) (s : State) :
    ctrGet (recB cls kind content s) j = ctrGet s j := ctrGet_recB _ _ _ _ _ h.1 h.2.1 h.2.2

theorem ctrGet_bump_free {i j : Nat} (h : reportFree j) (hi : j ≠ i) (s : State) : ctrGet (bump i s) j = ctrGet s j :=
  ctrGet_bump_ne _ _ hi h.2.2 s

theorem ctrGet_bumpIf_free {i j : Nat} (h : reportFree j) (hi : j ≠ i) (c : Bool) (s : State) : ctrGet (bumpIf c i s) j = ctrGet s j := by
  unfold bumpIf
  split
  · exact ctrGet_bump_free h hi s
  · rfl

theorem counted_bump (i : Nat) (s : State) : counted i s (bump i s) := ctrGet_bump_self i s

/-- A count is still one after operations that leave the counter alone on either side of it. -/
theorem counted_of_same {i : Nat} {s u v t : State} (h : counted i u v) (hu : ctrGet u i = ctrGet s i) (ht : ctrGet t i = ctrGet v i) : counted i s t := by
  unfold counted at *
  rw [ht, h, hu]

/-! ### Records and the basin view -/

theorem upToReports_trans {s t u : State} (h : upToReports s t) (k : upToReports t u) : upToReports s u := by
  unfold upToReports at *
  rw [k, h]

theorem upToReports_bump (i : Nat) (s : State) : upToReports s (bump i s) := by
  unfold upToReports
  rw [bump_eta]

theorem upToReports_basinPut (a : Nat) (b : List Byte) (s : State) : upToReports s (basinPut a b s) := rfl

/-- A record as it enters the queue of a state that has the image, the time and the queue of `s`. -/
theorem recorded_recB {cls kind : Nat} {content : List Byte} {s u : State} (hb : u.boot = s.boot) (hs : u.sky = s.sky)
    (hq : u.hst.outB = s.hst.outB) : recorded cls kind content s (recB cls kind content u) := by
  unfold recorded
  rw [recB_eta]
  show afterRec cls kind content u = _
  unfold afterRec
  rw [cfg_congr hb, stNow_congr hs, hq]

@[simp] theorem length_leBytes (n v : Nat) : (leBytes n v).length = n := by
  induction n generalizing v with
  | zero => rfl
  | succ n ih => rw [leBytes, List.length_cons, ih]

theorem sread_swrite_same (d : Nat → Byte) (m : List Host.Cell) (a : Nat) (b : List Byte) (h : swf d m = true) :
    sread d (swrite d m a b) a b.length = b := by
  unfold sread
  refine List.ext_getElem (by simp) fun i h1 h2 => ?_
  rw [List.getElem_map, List.getElem_range, sget_swrite d b m a _ h, if_pos (by omega), Nat.add_sub_cancel_left, List.getD_eq_getElem _ _ h2]

theorem sread_swrite_apart (d : Nat → Byte) (m : List Host.Cell) (c a n : Nat) (b : List Byte) (h : swf d m = true)
    (ha : a + n ≤ c ∨ c + b.length ≤ a) : sread d (swrite d m c b) a n = sread d m a n := by
  unfold sread
  refine List.map_congr_left fun i hi => ?_
  have := List.mem_range.1 hi
  rw [sget_swrite d b m c _ h, if_neg (by omega)]

/-- A structure above the header reads as it was written: the header's own update lies below it (12_polders R319). -/
theorem shown_basinPut {a : Nat} {s : State} (b : List Byte) (h : Memory.wf basinDflt s.basin = true) (ha : 0xE008 ≤ a) : shown a b (basinPut a b s) := by
  unfold shown basinPut
  dsimp only
  rw [sread_swrite_apart _ _ _ _ _ _ (swf_swrite _ _ _ _ h) (.inr (by rw [length_leBytes]; omega)), sread_swrite_same _ _ _ _ h]

theorem shown_congr {s t : State} (h : t.basin = s.basin) (a : Nat) (b : List Byte) : shown a b t ↔ shown a b s := by
  unfold shown
  rw [h]

theorem wf_basinPut {s : State} (a : Nat) (b : List Byte) (h : Memory.wf basinDflt s.basin = true) : Memory.wf basinDflt (basinPut a b s).basin = true :=
  swf_swrite _ _ _ _ (swf_swrite _ _ _ _ h)

end Sys2Proof.Machine
end

section
/-!
SUPPORT. The link's side of a cut (10_tag_link R251, R271, 11_radio_control R293, R302): what the delivery of records and held launches touches, and what a cut of
the emission and of the receptions leaves.
-/

namespace Sys2Proof.Machine

/-- From `s` to `t` only what belongs to the polders moves: link contexts and queues, their side of the host port, their cores' pending bits and their
counters; no emission, no basin record, no common counter. -/
structure PolderSide (s t : State) : Prop where
  frame : only [.lnk, .hst, .obs, .pld, .ctr] s t
  air : t.lnk.air = s.lnk.air
  outB : t.hst.outB = s.hst.outB
  common : ∀ j < 256, ctrGet t j = ctrGet s j

namespace PolderSide

theorem refl (s : State) : PolderSide s s := ⟨only_refl _ s, rfl, rfl, fun _ _ => rfl⟩

theorem trans {s t u : State} (h : PolderSide s t) (k : PolderSide t u) : PolderSide s u :=
  ⟨only_trans h.frame k.frame, k.air.trans h.air, k.outB.trans h.outB, fun j hj => (k.common j hj).trans (h.common j hj)⟩

theorem bump_pol (p : Polder) (k : Nat) (s : State) : PolderSide s (bump (polCounter p k) s) where
  frame := only_mono (only_bump _ s) (by decide)
  air := congrArg (·.lnk.air) (bump_eta _ s)
  outB := congrArg (·.hst.outB) (bump_eta _ s)
  common j hj := ctrGet_bump_ne _ _ (by unfold polCounter; omega) (.inl hj) s

theorem ctrAdd_pol (p : Polder) (k n : Nat) (s : State) : PolderSide s (ctrAdd (polCounter p k) n s) where
  frame x := by cases x <;> simp [Part.same]
  air := rfl
  outB := rfl
  common j hj := ctrGet_ctrAdd_ne _ _ _ (by unfold polCounter; omega) s

theorem of_modP (p : Polder) (f : PolderState → PolderState) (s : State) : PolderSide s (modP p f s) where
  frame x := by cases x <;> simp [Part.same]
  air := rfl
  outB := rfl
  common _ _ := rfl

theorem of_modH (p : Polder) (f : PolderHost → PolderHost) (s : State) : PolderSide s (modH p f s) where
  frame x := by cases x <;> simp [Part.same]
  air := rfl
  outB := rfl
  common _ _ := rfl

/-- A change of the link that keeps the emission on air. -/
theorem of_lnk (l : LnkState) (s : State) (h : l.air = s.lnk.air) : PolderSide s { s with lnk := l } where
  frame x := by cases x <;> simp [Part.same]
  air := h
  outB := rfl
  common _ _ := rfl

theorem of_ctxMod (k : Nat) (f : Ctx → Ctx) (s : State) : PolderSide s (ctxMod k f s) := of_lnk _ s rfl

theorem of_modDown (ctx handle : Nat) (f : Downlink → Downlink) (s : State) : PolderSide s (modDown ctx handle f s) := of_ctxMod _ _ s

theorem of_holdDown (p : Polder) (ctx handle : Nat) (s : State) : PolderSide s (holdDown p ctx handle s) :=
  (of_modDown ctx handle _ s).trans (bump_pol p 23 _)

theorem of_recP (p : Polder) (cls src : Nat) (content : List Byte) (s : State) : PolderSide s (recP p cls src content s).2 := by
  unfold recP
  split
  · exact refl s
  · dsimp only
    have spills : ∀ (n k : Nat) (t : State), PolderSide t (if n = 0 then t else ctrAdd (polCounter p k) n t) := by
      intro n k t
      split
      · exact refl t
      · exact ctrAdd_pol p k n t
    exact (of_modH p _ s).trans ((spills _ 96 _).trans (spills _ 97 _))

theorem of_pushRx (p : Polder) (r : RxRecord) (s : State) : PolderSide s (pushRx p r s) := by
  unfold pushRx
  split
  · exact refl s
  · dsimp only
    have wake : ∀ (c : Bool) (t : State), PolderSide t (if c then raisePend p 11 t else t) := by
      intro c t
      split
      · unfold raisePend modCore
        exact of_modP p _ t
      · exact refl t
    refine trans ?_ (wake _ _)
    refine trans ?_ (foldl_relates refl trans (fun t _ => bump_pol p 22 t) _ _)
    exact (of_ctxMod _ _ s).trans (of_lnk _ _ rfl)

theorem of_deliver (a : PendingAck) (sent : Bool) (s : State) : PolderSide s (deliver a sent s) := by
  unfold deliver
  split
  · exact refl s
  · dsimp only
    split
    · exact (of_pushRx _ _ s).trans (of_recP _ _ _ _ _)
    · exact of_pushRx _ _ s

theorem of_closeAck (ch : Fin 8) (sent : Bool) (s : State) : PolderSide s (closeAck ch sent s) := by
  unfold closeAck
  split
  · exact refl s
  · dsimp only
    have h := (of_lnk { s.lnk with ackDue := s.lnk.ackDue.set ch none } s rfl).trans (of_deliver ‹_› sent _)
    split
    · exact h
    · exact h.trans (bump_pol _ 20 _)

theorem of_blankFor (slot : Nat) (s : State) : PolderSide s (blankFor slot s) := by
  unfold blankFor
  split
  · exact bump_pol _ 21 s
  · exact refl s

end PolderSide

/-- The path leaves the air before an emission is reported as cut: its duty is charged up to now and the sequencer returns to RX
(01_architecture R22, 11_radio_control R293). -/
def leaveAir (e : Emission) (s : State) : State :=
  pathToRx (chargeDuty e (clampQ 0 e.dur (stNow s - e.t0)) { s with lnk := { s.lnk with air := none } })

theorem only_leaveAir (e : Emission) (s : State) : only [.lnk, .rfc, .clk, .fresh] s (leaveAir e s) := by
  intro x
  cases x <;> simp [Part.same, leaveAir, pathToRx, chargeDuty, takeFree]

theorem cutAir_of_none {s : State} (h : s.lnk.air = none) : cutAir s = s := by
  unfold cutAir
  rw [h]

/-- A cut launch is held and keeps its retry. -/
theorem cutAir_of_launch {s : State} {e : Emission} {p : Polder} {ctx h : Nat} (ha : s.lnk.air = some e) (hk : e.kind = .launch p ctx h) :
    cutAir s = holdDown p ctx h (modDown ctx h (fun d => { d with retries := d.retries - 1 }) (leaveAir e s)) := by
  unfold cutAir
  rw [ha]
  dsimp only
  rw [hk]
  rfl

/-- After the path has left the air, only the polders' side of the cut is reported. -/
theorem cutAir_side {s : State} {e : Emission} (h : s.lnk.air = some e) : PolderSide (leaveAir e s) (cutAir s) := by
  unfold cutAir
  rw [h]
  dsimp only
  split
  · exact (PolderSide.of_modDown _ _ _ _).trans (PolderSide.of_holdDown _ _ _ _)
  · exact PolderSide.of_closeAck _ _ _
  · exact PolderSide.refl _

theorem only_cutAir (s : State) : only [.lnk, .rfc, .clk, .hst, .obs, .pld, .ctr, .fresh] s (cutAir s) := by
  cases h : s.lnk.air with
  | none => rw [cutAir_of_none h]; exact only_refl _ s
  | some e => exact only_trans (only_mono (only_leaveAir e s) (by decide)) (only_mono (cutAir_side h).frame (by decide))

theorem cutAir_air (s : State) : (cutAir s).lnk.air = none := by
  cases h : s.lnk.air with
  | none => rw [cutAir_of_none h, h]
  | some e => exact (cutAir_side h).air

theorem cutAir_outB (s : State) : (cutAir s).hst.outB = s.hst.outB := by
  cases h : s.lnk.air with
  | none => rw [cutAir_of_none h]
  | some e => exact (cutAir_side h).outB

theorem ctrGet_cutAir (s : State) (j : Nat) (hj : j < 256) : ctrGet (cutAir s) j = ctrGet s j := by
  cases h : s.lnk.air with
  | none => rw [cutAir_of_none h]
  | some e => exact (cutAir_side h).common j hj

/-- What a cut leaves of radio control: the duty account with the emission's use, the path in RX. -/
theorem cutAir_rfc {s : State} {e : Emission} (h : s.lnk.air = some e) :
    (cutAir s).rfc = { (chargeDuty e (clampQ 0 e.dur (stNow s - e.t0)) s).rfc with seq := .rx, req := false } :=
  (cutAir_side h).frame.kept .rfc (by decide)

/-- Quiet transit, the pin and the priority level are not the cut's. -/
theorem cutAir_levels (s : State) : (cutAir s).rfc.quiet = s.rfc.quiet ∧ (cutAir s).rfc.qCause = s.rfc.qCause ∧ (cutAir s).rfc.pin = s.rfc.pin ∧
    (cutAir s).rfc.pri = s.rfc.pri := by
  cases h : s.lnk.air with
  | none => rw [cutAir_of_none h]; exact ⟨rfl, rfl, rfl, rfl⟩
  | some e => rw [cutAir_rfc h]; exact ⟨rfl, rfl, rfl, rfl⟩

/-- A cut launch counts in TX_HELD of its polder (10_tag_link R271). -/
theorem counted_cutAir_held {s : State} {e : Emission} {p : Polder} {ctx h : Nat} (ha : s.lnk.air = some e) (hk : e.kind = .launch p ctx h) :
    counted (pLnkTxHeld p) s (cutAir s) := by
  rw [cutAir_of_launch ha hk]
  have same : (modDown ctx h (fun d => { d with wait := if d.wait = .retry then .retry else .held })
      (modDown ctx h (fun d => { d with retries := d.retries - 1 }) (leaveAir e s))).ctr = s.ctr :=
    (ctxMod_ctr _ _ _).trans ((ctxMod_ctr _ _ _).trans ((only_leaveAir e s).kept .ctr (by decide)))
  exact counted_of_same (counted_bump _ _) (ctrGet_congr same _) rfl

/-- Every reception is lost and no alarm is received any more; the counts of R251 are still to come. -/
def dropReceptions (s : State) : State :=
  { s with lnk := { s.lnk with rx := Vector.replicate 8 none }, rfc := { s.rfc with alarmRx := Vector.replicate 8 false } }

/-- One reception's turn in the count. -/
def countBlanked (t : State) (r : Option Reception) : State :=
  match r with
  | some r => blankFor (slotAt r.first).2 t
  | none => t

theorem blankReceptions_eq (s : State) : blankReceptions s = s.lnk.rx.toList.foldl countBlanked (dropReceptions s) := rfl

theorem countBlanked_side (t : State) (r : Option Reception) : PolderSide t (countBlanked t r) := by
  cases r with
  | none => exact .refl t
  | some r => exact .of_blankFor _ t

theorem countBlanked_lnk (t : State) (r : Option Reception) : (countBlanked t r).lnk = t.lnk := by
  cases r with
  | none => rfl
  | some r =>
    unfold countBlanked blankFor
    dsimp only
    split
    · exact congrArg (·.lnk) (bump_eta _ t)
    · rfl

theorem blankReceptions_side (s : State) : PolderSide (dropReceptions s) (blankReceptions s) := by
  rw [blankReceptions_eq]
  exact foldl_relates .refl .trans countBlanked_side _ _

theorem blankReceptions_rx (s : State) : (blankReceptions s).lnk.rx = Vector.replicate 8 none := by
  rw [blankReceptions_eq]
  exact congrArg LnkState.rx (foldl_relates (R := fun s t : State => t.lnk = s.lnk) (fun _ => rfl) (fun h k => k.trans h) countBlanked_lnk _ (dropReceptions s))

theorem blankReceptions_rfc (s : State) : (blankReceptions s).rfc = { s.rfc with alarmRx := Vector.replicate 8 false } :=
  (blankReceptions_side s).frame.kept .rfc (by decide)

end Sys2Proof.Machine
end

section
/-!
SUPPORT. The precedence of the operating modes (01_architecture R18, R23): the transition that stands once it has been applied, and what it depends on.
-/

namespace Sys2Proof.Machine

/-- The transition that stands when `w` is asked for: this one, decided now, else the one that keeps standing. -/
def decidedAs (w : Option (Mode × Nat)) (s : State) : Option (Mode × Nat × Rat) :=
  match w with
  | some (m, r) => some (m, r, stNow s)
  | none => if keepsDecision s = true then s.mode.decided else none

theorem applyPrecedence_eq (s : State) : applyPrecedence s = { s with mode := { s.mode with decided := decidedAs (wantedMode s) s } } := by
  unfold applyPrecedence decidedAs
  cases wantedMode s with
  | some w => rfl
  | none => dsimp only; split <;> rfl

/-- What asks for a mode: the mode state without the decision, rank 5, sky time and the image. -/
theorem wantedMode_congr {s t : State} (hm : t.mode = s.mode) (h5 : rank5 t = rank5 s) (hs : t.sky = s.sky) (hb : t.boot = s.boot) :
    wantedMode t = wantedMode s := by
  unfold wantedMode rank4 serviceMode rank6Holds holdoverEnds
  rw [hm, h5, stNow_congr hs, cfg_congr hb]

theorem wantedMode_applyPrecedence (s : State) : wantedMode (applyPrecedence s) = wantedMode s := by
  rw [applyPrecedence_eq]
  rfl

theorem keepsDecision_congr {s t : State} (hm : t.mode = s.mode) : keepsDecision t = keepsDecision s := by
  unfold keepsDecision rank4
  rw [hm]

theorem decidedAs_congr {s t : State} (w : Option (Mode × Nat)) (hm : t.mode = s.mode) (hs : t.sky = s.sky) : decidedAs w t = decidedAs w s := by
  unfold decidedAs
  rw [stNow_congr hs, keepsDecision_congr hm, hm]

end Sys2Proof.Machine
end

section
/-!
SUPPORT. The commands of the coexistence wires, of quiet transit and of the profile set (11_radio_control R288, R289, R297–R302), and the statement about them.
-/

namespace Sys2Proof.Machine

theorem only_publishRfc (s : State) : only [.basin] s (publishRfc s) := only_basinPut _ _ s

/-- RFC.STATUS is shown as it stands. -/
theorem shown_publishRfc {s : State} (h : Memory.wf basinDflt s.basin = true) : shown 0xE0C8 (leBytes 4 (rfcStatus (publishRfc s))) (publishRfc s) :=
  shown_basinPut _ h (by omega)

theorem rfcStatus_congr {s t : State} (hr : t.rfc = s.rfc) (hs : t.sky = s.sky) : rfcStatus t = rfcStatus s := by
  unfold rfcStatus holdLeft inhibited
  rw [hr, stNow_congr hs]

/-- While quiet transit is in force, RFC.STATUS does not tell the pin. -/
theorem rfcStatus_pin {s t : State} (hq : s.rfc.quiet = true) (hr : t.rfc = { s.rfc with pin := true }) (hs : t.sky = s.sky) :
    rfcStatus t = rfcStatus s := by
  unfold rfcStatus holdLeft inhibited
  rw [hr, stNow_congr hs, hq]
  rfl

/-! ### COEX_PRI -/

/-- The priority level as the pin has it. -/
def priLevel (v : Bool) (s : State) : State := { s with rfc := { s.rfc with pri := v } }

/-- What PRI's rise cuts: the emission on air and every reception. -/
def priCut (s : State) : State := blankReceptions (cutAir (bump cRfcPriCuts (priLevel true s)))

theorem exec_coexPriRise_enabled {s : State} (h : cfgB s rfcCfgPriEn = true) : exec .coexPriRise s =
    .next (publishRfc { priCut s with rfc := { (priCut s).rfc with seq := .off, req := false } }) := by
  show execCoexPriRise s = _
  unfold execCoexPriRise
  exact if_pos h

theorem exec_coexPriRise_disabled {s : State} (h : cfgB s rfcCfgPriEn = false) : exec .coexPriRise s =
    .next (publishRfc (priLevel true s)) := by
  show execCoexPriRise s = _
  unfold execCoexPriRise
  exact if_neg (by rw [h]; decide)

theorem priCut_basin (s : State) : (priCut s).basin = s.basin :=
  ((blankReceptions_side _).frame.kept .basin (by decide)).trans
    (((only_cutAir _).kept .basin (by decide)).trans ((only_bump cRfcPriCuts (priLevel true s)).kept .basin (by decide)))

theorem priCut_air (s : State) : (priCut s).lnk.air = none := (blankReceptions_side _).air.trans (cutAir_air _)

theorem priCut_rfc (s : State) : (priCut s).rfc =
    { (cutAir (bump cRfcPriCuts (priLevel true s))).rfc with alarmRx := Vector.replicate 8 false } := blankReceptions_rfc _

theorem priCut_pri (s : State) : (priCut s).rfc.pri = true := by
  obtain ⟨-, -, -, hp⟩ := cutAir_levels (bump cRfcPriCuts (priLevel true s))
  rw [priCut_rfc, hp, bump_rfc]
  rfl

/-- The use of the emission that PRI cuts is charged up to now. -/
theorem priCut_duty {s : State} {e : Emission} (h : s.lnk.air = some e) :
    (priCut s).rfc.duty = (chargeDuty e (clampQ 0 e.dur (stNow s - e.t0)) s).rfc.duty := by
  have cut := cutAir_rfc (s := bump cRfcPriCuts (priLevel true s)) (e := e) (by rw [bump_lnk]; exact h)
  have now : stNow (bump cRfcPriCuts (priLevel true s)) = stNow s := stNow_congr ((only_bump cRfcPriCuts (priLevel true s)).kept .sky (by decide))
  rw [priCut_rfc, cut, now]
  unfold chargeDuty
  rw [bump_rfc]
  rfl

theorem counted_priCut (s : State) : counted cRfcPriCuts s (priCut s) := by
  have cut := ctrGet_cutAir (bump cRfcPriCuts (priLevel true s)) cRfcPriCuts (by decide)
  exact counted_of_same (counted_bump _ (priLevel true s)) rfl (((blankReceptions_side _).common _ (by decide)).trans cut)

theorem exec_coexPriFall_returns {s : State} (h : cfgB s rfcCfgPriEn = true) (hl : linkRx s (stSec s) = true) : exec .coexPriFall s =
    .next (publishRfc (pathToRx (priLevel false s))) := by
  show execCoexPriFall s = _
  exact congrArg (fun u => (Host.Outcome.next (publishRfc u) : Result)) (if_pos ⟨h, hl⟩)

theorem exec_coexPriFall_stays {s : State} (h : cfgB s rfcCfgPriEn = false ∨ linkRx s (stSec s) = false) : exec .coexPriFall s =
    .next (publishRfc (priLevel false s)) := by
  show execCoexPriFall s = _
  exact congrArg (fun u => (Host.Outcome.next (publishRfc u) : Result)) (if_neg fun k => by rcases h with h | h <;> simp [h] at k)

/-- The synthesizer's way to its receive setting takes 8 µs to 30 µs (16_clocks R409). -/
theorem pathToRx_relocks (s : State) : stNow s + 8 / 1000000 ≤ (pathToRx s).clk.lsynRxAt ∧ (pathToRx s).clk.lsynRxAt ≤ stNow s + 30 / 1000000 := by
  have e : (pathToRx s).clk.lsynRxAt = stNow s + ((8000 + Config.freeNat s.fresh % 22001 : Nat) : Rat) / 1000000000 := rfl
  have hn : Config.freeNat s.fresh % 22001 ≤ 22000 := Nat.le_of_lt_succ (Nat.mod_lt _ (by decide))
  have hq : ((Config.freeNat s.fresh % 22001 : Nat) : Rat) ≤ 22000 := by exact_mod_cast hn
  have h0 : (0 : Rat) ≤ ((Config.freeNat s.fresh % 22001 : Nat) : Rat) := Nat.cast_nonneg _
  rw [e]
  push_cast at *
  constructor <;> linarith

/-! ### Quiet transit -/

/-- Quiet transit by the pin, whose level is taken at the end. -/
def quietBegun (s : State) : State := { s with rfc := { s.rfc with pin := false, quiet := true, qCause := 3 } }

/-- The entry to quiet transit, up to the cut. -/
def quietCut (s : State) : State := cutAir (bump cRfcQuietEntries (quietBegun s))

/-- The entry with its status published and its record. -/
def quietTold (s : State) : State := recB 0 0x0B02 (leBytes 4 (rfcStatus (publishRfc (quietCut s)))) (publishRfc (quietCut s))

/-- The level of the pin is high. -/
def pinHigh (s : State) : State := { s with rfc := { s.rfc with pin := true } }

/-- The rest of the entry: the precedence applies, the pin's level is taken and RFC.STATUS is published. -/
def quietDone (s : State) : State := publishRfc (pinHigh (applyPrecedence s))

theorem exec_quietPinRise_enters {s : State} (h : s.rfc.quiet = false) : exec .quietPinRise s = .next (quietDone (quietTold s)) := by
  show execQuietPinRise s = _
  unfold execQuietPinRise quietEnter
  rw [if_neg (by simp [h])]
  rfl

theorem exec_quietPinRise_quiet {s : State} (h : s.rfc.quiet = true) : exec .quietPinRise s = .next (publishRfc (pinHigh s)) := by
  show execQuietPinRise s = _
  unfold execQuietPinRise quietEnter
  rw [if_pos (by simp [inhibited, h])]
  rfl

theorem only_quietCut (s : State) : only [.lnk, .rfc, .clk, .hst, .obs, .pld, .ctr, .fresh] s (quietCut s) := by
  have begun : only [.rfc] s (quietBegun s) := by
    intro x
    cases x <;> simp [Part.same, quietBegun]
  exact only_trans (only_mono begun (by decide)) (only_trans (only_mono (only_bump _ _) (by decide)) (only_cutAir _))

theorem quietCut_rfc (s : State) : (quietCut s).rfc.quiet = true ∧ (quietCut s).rfc.qCause = 3 ∧ (quietCut s).rfc.pin = false := by
  obtain ⟨hq, hc, hp, -⟩ := cutAir_levels (bump cRfcQuietEntries (quietBegun s))
  rw [bump_rfc] at hq hc hp
  exact ⟨hq, hc, hp⟩

theorem quietCut_of_none {s : State} (h : s.lnk.air = none) : quietCut s = bump cRfcQuietEntries (quietBegun s) :=
  cutAir_of_none (by rw [bump_lnk]; exact h)

theorem quietCut_outB (s : State) : (quietCut s).hst.outB = s.hst.outB := by
  unfold quietCut
  rw [cutAir_outB, bump_hst]
  rfl

theorem counted_quietCut (s : State) : counted cRfcQuietEntries s (quietCut s) := by
  have cut := ctrGet_cutAir (bump cRfcQuietEntries (quietBegun s)) cRfcQuietEntries (by decide)
  exact counted_of_same (counted_bump _ (quietBegun s)) rfl cut

/-- A launch that quiet transit cuts is held (10_tag_link R271). -/
theorem counted_quietCut_held {s : State} {e : Emission} {p : Polder} {ctx h : Nat} (ha : s.lnk.air = some e) (hk : e.kind = .launch p ctx h) :
    counted (pLnkTxHeld p) s (quietCut s) := by
  have ne : pLnkTxHeld p ≠ cRfcQuietEntries := by unfold pLnkTxHeld polCounter cRfcQuietEntries; omega
  have cut : counted (pLnkTxHeld p) (bump cRfcQuietEntries (quietBegun s)) (quietCut s) := counted_cutAir_held (by rw [bump_lnk]; exact ha) hk
  exact counted_of_same cut (ctrGet_bump_free (reportFree_pol p 23) ne (quietBegun s)) rfl

theorem only_quietTold (s : State) : only [.basin, .hst, .obs, .ctr] (quietCut s) (quietTold s) :=
  only_trans (only_mono (only_publishRfc _) (by decide)) (only_mono (only_recB _ _ _ _) (by decide))

theorem only_quietDone (s : State) : only [.rfc, .mode, .basin] s (quietDone s) := by
  unfold quietDone pinHigh
  rw [applyPrecedence_eq]
  intro x
  cases x <;> simp [Part.same, publishRfc]

theorem quietDone_rfc (s : State) : (quietDone s).rfc = { s.rfc with pin := true } := by
  unfold quietDone
  rw [applyPrecedence_eq]
  rfl

theorem quietDone_mode (s : State) : (quietDone s).mode = (applyPrecedence s).mode := rfl

/-- What the record tells is RFC.STATUS as it stands in the end. -/
theorem rfcStatus_quietDone (s : State) : rfcStatus (quietDone (quietTold s)) = rfcStatus (publishRfc (quietCut s)) := by
  have told := only_quietTold s
  have hr : (quietTold s).rfc = (quietCut s).rfc := told.kept .rfc (by decide)
  have hs : (quietTold s).sky = (quietCut s).sky := told.kept .sky (by decide)
  refine rfcStatus_pin (s := publishRfc (quietCut s)) (quietCut_rfc s).1 ?_ (((only_quietDone _).kept .sky (by decide)).trans hs)
  rw [quietDone_rfc, hr]
  rfl

theorem recorded_quietTold (s : State) : recorded 0 0x0B02 (leBytes 4 (rfcStatus (quietDone (quietTold s)))) s (quietTold s) := by
  rw [rfcStatus_quietDone]
  have cut := only_quietCut s
  exact recorded_recB (s := s) (u := publishRfc (quietCut s)) (cut.kept .boot (by decide)) (cut.kept .sky (by decide)) (quietCut_outB s)

/-- The mode state under the precedence, as a later state that asks for the same mode shows it. -/
theorem precedence_mode {s u t : State} (hm : u.mode = s.mode) (hs : u.sky = s.sky) (hw : wantedMode t = wantedMode u) :
    (applyPrecedence u).mode = { s.mode with decided := decidedAs (wantedMode t) s } := by
  rw [applyPrecedence_eq, hw, decidedAs_congr _ hm hs, hm]

theorem wantedMode_quietDone {s : State} (hq : s.rfc.quiet = true) : wantedMode (quietDone s) = wantedMode s := by
  rw [← wantedMode_applyPrecedence s]
  refine wantedMode_congr rfl ?_ rfl rfl
  rw [applyPrecedence_eq]
  unfold rank5
  rw [quietDone_rfc, hq]
  rfl

/-- Quiet transit is left, and the last height becomes ground (11_radio_control R298). -/
def quietLeft (m : MotionSample) (s : State) : State := { s with rfc := { s.rfc with quiet := false, qCause := 0, ground := some m.hgt } }

theorem exec_quietTransitExit_leaves {s : State} {a : Rat} {m : MotionSample} (hq : s.rfc.quiet = true) (hp : s.rfc.pin = false)
    (ha : s.rfc.exitRun = some a) (hm : s.rfc.motion.head? = some m) (h : 120 ≤ m.st - a) :
    exec .quietTransitExit s = .next (applyPrecedence (publishRfc (quietLeft m s))) := by
  show execQuietTransitExit s = _
  unfold execQuietTransitExit
  rw [ha, hm]
  exact if_pos ⟨hq, hp, h⟩

/-! ### The profile set -/

theorem exec_profileSetChange_of_next {s : State} {n : Nat} (h : s.rfc.setNext = some n) : exec .profileSetChange s = .next (applySet n s) := by
  show execProfileSetChange s = _
  unfold execProfileSetChange
  rw [h]

/-- A set in force: reports apart, only the set and its decision differ. -/
theorem upToReports_applySet (n : Nat) (s : State) : upToReports { s with rfc := { s.rfc with set := n, setNext := none } } (applySet n s) := by
  unfold applySet
  dsimp only
  split
  · exact upToReports_basinPut _ _ _
  · exact upToReports_trans (upToReports_bump _ _) (upToReports_basinPut _ _ _)

theorem applySet_hst (n : Nat) (s : State) : (applySet n s).hst = s.hst := by
  unfold applySet
  dsimp only
  split
  · rfl
  · exact bump_hst cRfcProfileChanges _

theorem counted_applySet {n : Nat} {s : State} (h : n ≠ s.rfc.set) : counted cRfcProfileChanges s (applySet n s) := by
  unfold applySet
  dsimp only
  rw [if_neg h]
  exact counted_of_same (counted_bump _ { s with rfc := { s.rfc with set := n, setNext := none } }) rfl rfl

theorem shown_applySet {n : Nat} {s : State} (h : Memory.wf basinDflt s.basin = true) :
    shown 0xE0C8 (leBytes 4 (rfcStatus (applySet n s))) (applySet n s) := by
  unfold applySet
  refine shown_publishRfc ?_
  split
  · exact h
  · rw [bump_basin]; exact h

theorem ctrGet_applySet {j : Nat} (h : reportFree j) (hj : j ≠ cRfcProfileChanges) (n : Nat) (s : State) : ctrGet (applySet n s) j = ctrGet s j := by
  unfold applySet
  dsimp only
  split
  · rfl
  · exact ctrGet_bump_free h hj { s with rfc := { s.rfc with set := n, setNext := none } }

/-- 600 s without a qualifying solution: profile 0 alone is in force. -/
def holdExpired (s : State) : State := applySet 1 { s with rfc := { s.rfc with basis := 3 } }

theorem exec_profileHoldExpiry_expires {s : State} {q : Rat} (hq : s.rfc.lastQual = some q) (h : 600 ≤ stNow s - q) (hb : s.rfc.basis ≠ 3) :
    exec .profileHoldExpiry s = .next (if s.rfc.set = 1 then holdExpired s else bump cRfcHoldExpired (holdExpired s)) := by
  show execProfileHoldExpiry s = _
  unfold execProfileHoldExpiry
  rw [hq]
  dsimp only
  rw [if_pos ⟨h, hb⟩]
  rfl

end Sys2Proof.Machine
end

section
/-!
SUPPORT. The clauses of O48 that take more than the equation of their command: PRI's rise, the entry to quiet transit and its exit, and the lapse of a set.
-/

namespace Sys2Proof.Machine

/-- COEX_PRI's rise with PRI_EN (11_radio_control R302). -/
theorem coexPriRise_cuts {s : State} (h : cfgB s rfcCfgPriEn = true) : completes .coexPriRise s (fun t =>
    (s.memWf → shown 0xE0C8 (leBytes 4 (rfcStatus t)) t) ∧ counted cRfcPriCuts s t ∧ t.lnk.air = none ∧ t.lnk.rx = Vector.replicate 8 none ∧
      t.rfc.pri = true ∧ t.rfc.seq = .off ∧ t.rfc.req = false ∧ t.rfc.alarmRx = Vector.replicate 8 false ∧
      ∀ e, s.lnk.air = some e → t.rfc.duty = (chargeDuty e (clampQ 0 e.dur (stNow s - e.t0)) s).rfc.duty) := by
  refine ⟨_, exec_coexPriRise_enabled h, fun hw => ?_, ?_, priCut_air s, blankReceptions_rx _, priCut_pri s, rfl, rfl, ?_, ?_⟩
  · exact shown_publishRfc (by rw [show _ = s.basin from priCut_basin s]; exact hw.1)
  · exact counted_of_same (counted_priCut s) rfl rfl
  · exact congrArg RfcState.alarmRx (priCut_rfc s)
  · exact fun e he => priCut_duty he

/-- The QUIET pin's rise outside quiet transit (11_radio_control R299, 01_architecture R22). -/
theorem quietPinRise_enters {s : State} (h : s.rfc.quiet = false) : completes .quietPinRise s (fun t =>
    (s.memWf → shown 0xE0C8 (leBytes 4 (rfcStatus t)) t) ∧ t.mode = { s.mode with decided := decidedAs (wantedMode t) s } ∧
      t.rfc.quiet = true ∧ t.rfc.qCause = 3 ∧ t.rfc.pin = true ∧ t.lnk.air = none ∧ counted cRfcQuietEntries s t ∧
      recorded 0 0x0B02 (leBytes 4 (rfcStatus t)) s t ∧
      (∀ p ctx h e, s.lnk.air = some e → e.kind = .launch p ctx h → counted (pLnkTxHeld p) s t) ∧
      (s.lnk.air = none → t.rfc = { s.rfc with quiet := true, qCause := 3, pin := true })) := by
  have cut := only_quietCut s
  have told := only_quietTold s
  have hr : (quietTold s).rfc = (quietCut s).rfc := told.kept .rfc (by decide)
  have same : ∀ j, reportFree j → ctrGet (quietDone (quietTold s)) j = ctrGet (quietCut s) j := fun j hj =>
    (ctrGet_congr ((only_quietDone _).kept .ctr (by decide)) j).trans (ctrGet_recB_free hj _ _ _ _)
  obtain ⟨hq, hc, -⟩ := quietCut_rfc s
  refine ⟨_, exec_quietPinRise_enters h, fun hw => ?_, ?_, ?_, ?_, ?_, ?_, ?_, ?_, ?_, ?_⟩
  · refine shown_publishRfc ?_
    have hb : (pinHigh (applyPrecedence (quietTold s))).basin = (publishRfc (quietCut s)).basin := by
      rw [applyPrecedence_eq]
      exact (only_recB _ _ _ _).kept .basin (by decide)
    have hs : (quietCut s).basin = s.basin := cut.kept .basin (by decide)
    rw [hb]
    exact wf_basinPut _ _ (by rw [hs]; exact hw.1)
  · have hm : (quietTold s).mode = s.mode := (told.kept .mode (by decide)).trans (cut.kept .mode (by decide))
    have hs : (quietTold s).sky = s.sky := (told.kept .sky (by decide)).trans (cut.kept .sky (by decide))
    rw [quietDone_mode]
    exact precedence_mode hm hs (wantedMode_quietDone (by rw [hr, hq]))
  · rw [quietDone_rfc, hr]; exact hq
  · rw [quietDone_rfc, hr]; exact hc
  · rw [quietDone_rfc]
  · have hl : (quietTold s).lnk = (quietCut s).lnk := told.kept .lnk (by decide)
    have hd : (quietDone (quietTold s)).lnk = (quietTold s).lnk := (only_quietDone _).kept .lnk (by decide)
    rw [hd, hl]
    exact cutAir_air _
  · exact counted_of_same (counted_quietCut s) rfl (same _ (by unfold reportFree; decide))
  · have hd : (quietDone (quietTold s)).hst = (quietTold s).hst := (only_quietDone _).kept .hst (by decide)
    unfold recorded
    rw [hd]
    exact recorded_quietTold s
  · exact fun p ctx h e he hk => counted_of_same (counted_quietCut_held he hk) rfl (same _ (reportFree_pol p 23))
  · intro ha
    rw [quietDone_rfc, hr, quietCut_of_none ha, bump_rfc]
    rfl

/-- Quiet transit's exit (11_radio_control R298). -/
theorem quietTransitExit_leaves {s : State} {a : Rat} {m : MotionSample} (hq : s.rfc.quiet = true) (hp : s.rfc.pin = false)
    (ha : s.rfc.exitRun = some a) (hm : s.rfc.motion.head? = some m) (h : 120 ≤ m.st - a) : completes .quietTransitExit s (fun t =>
    (s.memWf → shown 0xE0C8 (leBytes 4 (rfcStatus t)) t) ∧ t.mode = { s.mode with decided := decidedAs (wantedMode t) s } ∧
      t = { s with rfc := { s.rfc with quiet := false, qCause := 0, ground := some m.hgt }, mode := t.mode, basin := t.basin }) := by
  refine ⟨_, exec_quietTransitExit_leaves hq hp ha hm h, fun hw => ?_, precedence_mode rfl rfl (wantedMode_applyPrecedence _), ?_⟩
  · rw [applyPrecedence_eq]
    exact shown_publishRfc (s := quietLeft m s) hw.1
  · rw [applyPrecedence_eq]
    rfl

/-- The end of a held set (11_radio_control R289). -/
theorem profileHoldExpiry_expires {s : State} {q : Rat} (hq : s.rfc.lastQual = some q) (h : 600 ≤ stNow s - q) (hb : s.rfc.basis ≠ 3) :
    completes .profileHoldExpiry s (fun t => (s.memWf → shown 0xE0C8 (leBytes 4 (rfcStatus t)) t) ∧
      upToReports { s with rfc := { s.rfc with set := 1, setNext := none, basis := 3 } } t ∧ t.hst = s.hst ∧
        (s.rfc.set ≠ 1 → counted cRfcProfileChanges s t ∧ counted cRfcHoldExpired s t)) := by
  have set := upToReports_applySet 1 { s with rfc := { s.rfc with basis := 3 } }
  refine ⟨_, exec_profileHoldExpiry_expires hq h hb, ?_⟩
  split
  · exact ⟨fun hw => shown_applySet hw.1, set, applySet_hst _ _, fun hn => absurd ‹_› hn⟩
  · have changed : counted cRfcProfileChanges s (holdExpired s) := counted_applySet (s := { s with rfc := { s.rfc with basis := 3 } }) (Ne.symm ‹_›)
    have free : reportFree cRfcProfileChanges ∧ reportFree cRfcHoldExpired := by unfold reportFree; decide
    have before : ctrGet (holdExpired s) cRfcHoldExpired = ctrGet s cRfcHoldExpired :=
      ctrGet_applySet free.2 (by decide) 1 { s with rfc := { s.rfc with basis := 3 } }
    refine ⟨fun hw => ?_, upToReports_trans set (upToReports_bump _ _), (bump_hst _ _).trans (applySet_hst _ _), fun _ => ⟨?_, ?_⟩⟩
    · rw [shown_congr (bump_basin _ _), rfcStatus_congr (bump_rfc _ _) ((only_bump _ _).kept .sky (by decide))]
      exact shown_applySet hw.1
    · exact counted_of_same changed rfl (ctrGet_bump_free free.1 (by decide) _)
    · exact counted_of_same (counted_bump _ _) before rfl

/-- Settles O48: clause by clause, from the equation of each command and what its parts keep. -/
theorem quietAndCoexistence : Obligations.QuietAndCoexistence := by
  intro s
  refine ⟨coexPriRise_cuts, fun h => ?_, fun h hl => ?_, fun h => ?_, quietPinRise_enters, fun h => ?_, ?_, fun a m hq hp ha hm h => ?_,
    fun n h => ?_, fun q hq h hb => ?_⟩
  · exact ⟨_, exec_coexPriRise_disabled h, fun hw => shown_publishRfc hw.1, rfl⟩
  · exact ⟨_, exec_coexPriFall_returns h hl, fun hw => shown_publishRfc hw.1, rfl, pathToRx_relocks _⟩
  · exact ⟨_, exec_coexPriFall_stays h, fun hw => shown_publishRfc hw.1, rfl⟩
  · exact ⟨_, exec_quietPinRise_quiet h, fun hw => shown_publishRfc hw.1, rfl⟩
  · exact ⟨_, rfl, fun hw => shown_publishRfc hw.1, rfl⟩
  · exact quietTransitExit_leaves hq hp ha hm h
  · exact ⟨_, exec_profileSetChange_of_next h, fun hw => shown_applySet hw.1, upToReports_applySet n s, applySet_hst n s, counted_applySet⟩
  · exact profileHoldExpiry_expires hq h hb

end Sys2Proof.Machine
end

section
/-!
SUPPORT. The clocks (16_clocks): what a report of CLK.STATUS leaves, and what the lock, the loss and the relock of PLLs, the window of EXT_10M and the restart of
the disciplined outputs do.
-/

namespace Sys2Proof.Machine

/-! ### CLK.STATUS -/

theorem only_clkEmit (s : State) : only [.clk, .hst, .obs, .ctr] s (clkEmit s) := by
  have noted : only [.clk] s { s with clk := { s.clk with emitted := some (clkStatus s) } } := by
    intro x
    cases x <;> simp [Part.same]
  exact only_trans (only_mono noted (by decide)) (only_mono (only_recB _ _ _ _) (by decide))

theorem only_clkRefresh (s : State) : only [.clk, .hst, .obs, .ctr] s (clkRefresh s) := by
  unfold clkRefresh
  split
  · exact only_refl _ s
  · split
    · exact only_refl _ s
    · exact only_clkEmit s

theorem clkEmit_clk (s : State) : (clkEmit s).clk = { s.clk with emitted := some (clkStatus s) } :=
  (only_recB 1 0x1001 (leBytes 8 (clkStatus s)) { s with clk := { s.clk with emitted := some (clkStatus s) } }).kept .clk (by decide)

/-- Of the clocks, a report moves only what was last told. -/
theorem clkRefresh_clk (s : State) : (clkRefresh s).clk = { s.clk with emitted := (clkRefresh s).clk.emitted } := by
  unfold clkRefresh
  split
  · rfl
  · split
    · rfl
    · rw [clkEmit_clk]

theorem ctrGet_clkEmit {j : Nat} (h : reportFree j) (s : State) : ctrGet (clkEmit s) j = ctrGet s j := ctrGet_recB_free h _ _ _ _

theorem ctrGet_clkRefresh {j : Nat} (h : reportFree j) (s : State) : ctrGet (clkRefresh s) j = ctrGet s j := by
  unfold clkRefresh
  split
  · rfl
  · split
    · rfl
    · exact ctrGet_clkEmit h s

theorem locked_congr {s t : State} (h : t.clk.lock = s.clk.lock) (l : Pll) : locked t l = locked s l := by
  unfold locked
  rw [h]

theorem locked_clkRefresh (s : State) (l : Pll) : locked (clkRefresh s) l = locked s l := locked_congr (by rw [clkRefresh_clk]) l

theorem pllIdx_inj {k l : Pll} (h : pllIdx k = pllIdx l) : k = l := by
  cases k <;> cases l <;> simp [pllIdx] at h ⊢

theorem locked_setLock (l k : Pll) (v : Bool) (s : State) : locked (setLock l v s) k = if k = l then v else locked s k := by
  unfold locked setLock
  split
  · subst_vars
    exact Vector.getElem_set_self _
  · exact Vector.getElem_set_ne (pllIdx l).isLt (pllIdx k).isLt fun e => ‹¬k = l› (pllIdx_inj (Fin.ext e.symm))

theorem relockDone_congr {s t : State} (hl : t.clk.lock = s.clk.lock) (hp : t.pmu = s.pmu) (hm : t.mode = s.mode) : relockDone t = relockDone s := by
  unfold relockDone lockABC
  rw [hp, hm, locked_congr hl, locked_congr hl, locked_congr hl]

/-! ### Lock -/

/-- A lock is declared: PLLB starts the tick counter, PLLA the CKO outputs, and PLLD's outputs wait for a whole second. -/
def lockTaken (l : Pll) (s : State) : State :=
  let t := setLock l true s
  let u := if l = .b then { t with sky := { t.sky with run := true } } else t
  if l = .a then ckoUpdate u else if l = .d then { u with clk := { u.clk with ckdFrom := max u.clk.ckdFrom s.sky.tick } } else u

/-- PLLA is back after a loss: a trigger is due (16_clocks R410). -/
def trigAfterLock (c : Prop) [Decidable c] (n : Nat) (s : State) : State := if c then { s with clk := { s.clk with trigAt := some n } } else s

/-- The relock ends with the last lock that it waits for. -/
def relockEnds (s : State) : State :=
  if s.clk.relocking = true ∧ relockDone s = true then { s with clk := { s.clk with relocking := false, refChange := false } } else s

/-- The state as the lock leaves it, before the report. -/
def pllLocked (l : Pll) (s : State) : State :=
  relockEnds (trigAfterLock (l = .a ∧ s.mode.life = .run ∧ s.clk.relocking = false ∧ anyPortOn s = true) s.sky.tick (lockTaken l s))

theorem exec_pllLock {s : State} {l : Pll} (hs : s.clk.started = true) (hf : s.mode.fallback = false) (hd : domOn s .clk = true) (hl : locked s l = false) :
    exec (.pllLock l) s = .next (clkRefresh (pllLocked l s)) := by
  show execPllLock l s = _
  unfold execPllLock
  exact if_neg (by simp [hs, hf, hd, hl])

theorem lockTaken_lock (l : Pll) (s : State) : (lockTaken l s).clk.lock = (setLock l true s).clk.lock := by cases l <;> rfl

theorem lockTaken_relock (l : Pll) (s : State) : (lockTaken l s).clk.relocking = s.clk.relocking ∧ (lockTaken l s).mode = s.mode := by
  cases l <;> exact ⟨rfl, rfl⟩

theorem lockTaken_sky (l : Pll) (s : State) : (lockTaken l s).sky = { s.sky with run := s.sky.run || decide (l = .b) } := by
  cases l <;> simp [lockTaken, ckoUpdate]

/-- PLLA's lock starts the outputs that are asked for (16_clocks R408). -/
theorem lockTaken_cko {s : State} (hr : s.mode.life = .run) (hf : s.mode.fallback = false) (hd : domOn s .clk = true) (n : Fin 4) :
    (lockTaken .a s).clk.ckoRun[n] = ckoWanted s n := by
  have hl : locked (setLock .a true s) .a = true := by rw [locked_setLock, if_pos rfl]
  have e : (lockTaken .a s).clk.ckoRun = Vector.ofFn fun n : Fin 4 =>
      (s.mode.life == .run && !s.mode.fallback && domOn s .clk && locked (setLock .a true s) .a) && ckoWanted s n := rfl
  rw [e, hr, hf, hd, hl]
  simp

theorem trigAfterLock_clk (c : Prop) [Decidable c] (n : Nat) (s : State) : trigAfterLock c n s =
    { s with clk := { s.clk with trigAt := if c then some n else s.clk.trigAt } } := by
  unfold trigAfterLock
  split <;> rfl

theorem relockEnds_eq (s : State) : relockEnds s = { s with clk := { s.clk with
    relocking := (relockEnds s).clk.relocking, refChange := (relockEnds s).clk.refChange } } := by
  unfold relockEnds
  split <;> rfl

theorem relockDone_relockEnds (s : State) : relockDone (relockEnds s) = relockDone s := by
  rw [relockEnds_eq]
  exact relockDone_congr rfl rfl rfl

theorem pllLocked_clk (l : Pll) (s : State) : (pllLocked l s).clk.lock = (setLock l true s).clk.lock ∧ (pllLocked l s).clk.ckoRun = (lockTaken l s).clk.ckoRun ∧
    (pllLocked l s).sky = (lockTaken l s).sky := by
  unfold pllLocked
  rw [relockEnds_eq, trigAfterLock_clk]
  exact ⟨lockTaken_lock l s, rfl, rfl⟩

/-- A relock ends exactly with the lock that completes it. -/
theorem pllLocked_relock {l : Pll} {s : State} (h : s.clk.relocking = true) :
    (relockDone (pllLocked l s) = true → (pllLocked l s).clk.relocking = false ∧ (pllLocked l s).clk.refChange = false) ∧
      (relockDone (pllLocked l s) = false → (pllLocked l s).clk.relocking = true) := by
  unfold pllLocked
  rw [relockDone_relockEnds]
  have still : (trigAfterLock (l = .a ∧ s.mode.life = .run ∧ s.clk.relocking = false ∧ anyPortOn s = true) s.sky.tick (lockTaken l s)).clk.relocking = true := by
    rw [trigAfterLock_clk]
    exact (lockTaken_relock l s).1.trans h
  unfold relockEnds
  constructor
  · intro hd
    rw [if_pos ⟨still, hd⟩]
    exact ⟨rfl, rfl⟩
  · intro hd
    rw [if_neg (by simp [hd])]
    exact still

theorem pllLocked_trig {s : State} (hr : s.mode.life = .run) (hn : s.clk.relocking = false) (hp : anyPortOn s = true) :
    (pllLocked .a s).clk.trigAt = some s.sky.tick := by
  unfold pllLocked
  rw [relockEnds_eq, trigAfterLock_clk]
  exact if_pos ⟨rfl, hr, hn, hp⟩

/-! ### Loss -/

theorem exec_pllLoss_early {s : State} {l : Pll} (hl : locked s l = true) (hc : clkService s = false) : exec (.pllLoss l) s = .next (setLock l false s) := by
  show execPllLoss l s = _
  unfold execPllLoss
  rw [if_neg (by simp [hl]), if_pos hc]

/-- The loss of each PLL in service (16_clocks R410 codes 2, 4 and 5). -/
def pllLost : Pll → State → State
  | .a, s => pllaLoss s
  | .b, s => clockFault 2 s
  | .c, s => clockFault 2 s
  | .d, s => clkRefresh (ckdStop (setLock .d false s))

theorem exec_pllLoss_service {s : State} {l : Pll} (hl : locked s l = true) (hc : clkService s = true) : exec (.pllLoss l) s = .next (pllLost l s) := by
  show execPllLoss l s = _
  unfold execPllLoss
  rw [if_neg (by simp [hl]), if_neg (by simp [hc])]
  cases l <;> rfl

/-- A trigger's restart gap is withdrawn at a port. -/
def gapEnds (p : Port) (s : State) : State := modPort p (fun q => { q with gap := false, word0 := if q.gap then none else q.word0 }) s

/-- A port falls into SYNC_LOST with PLLA, unless it is off, not yet in sync or lost already; a trigger's gap ends (16_clocks R410). -/
def portFalls (s : State) (p : Port) : State :=
  if portOn s p = false then s
  else
    let t := gapEnds p s
    if t.spt.port[p].lost = true ∨ t.spt.port[p].synced = false then t else loseSync p t

/-- PLLA is gone: the outputs stand and no trigger is due. -/
def pllaGone (s : State) : State :=
  let t := ckoUpdate (bump cClkPllaLosses (setLock .a false s))
  { t with clk := { t.clk with trigAt := none } }

theorem pllaLoss_eq (s : State) : pllaLoss s = clkRefresh ((List.finRange 4).foldl portFalls (pllaGone s)) := rfl

theorem only_sptRefresh (p : Port) (s : State) : only [.hst, .obs, .basin, .ctr] s (sptRefresh p s) := by
  unfold sptRefresh
  dsimp only
  split
  · exact only_refl _ s
  · exact only_trans (only_mono (only_basinPut _ _ _) (by decide)) (only_mono (only_recB _ _ _ _) (by decide))

theorem ctrGet_sptRefresh {j : Nat} (h : reportFree j) (p : Port) (s : State) : ctrGet (sptRefresh p s) j = ctrGet s j := by
  unfold sptRefresh
  dsimp only
  split
  · rfl
  · exact ctrGet_recB_free h _ _ _ _

theorem only_modPort (p : Port) (f : PortState → PortState) (s : State) : only [.spt] s (modPort p f s) := by
  intro x
  cases x <;> simp [Part.same]

theorem modPort_other (p q : Port) (f : PortState → PortState) (s : State) (h : q ≠ p) : (modPort p f s).spt.port[q] = s.spt.port[q] :=
  Vector.getElem_set_ne p.isLt q.isLt fun e => h (Fin.ext e.symm)

theorem only_loseSync (p : Port) (s : State) : only [.spt, .hst, .obs, .basin, .ctr] s (loseSync p s) :=
  only_trans (only_mono (only_modPort p _ s) (by decide))
    (only_trans (only_mono (only_bump _ _) (by decide)) (only_mono (only_sptRefresh p _) (by decide)))

theorem only_portFalls (s : State) (p : Port) : only [.spt, .hst, .obs, .basin, .ctr] s (portFalls s p) := by
  unfold portFalls
  split
  · exact only_refl _ s
  · dsimp only
    split
    · exact only_mono (only_modPort p _ s) (by decide)
    · exact only_trans (only_mono (only_modPort p _ s) (by decide)) (only_loseSync p _)

theorem loseSync_spt (p : Port) (s : State) : (loseSync p s).spt = (modPort p (fun q => { q with lost := true, goodFs := 0 }) s).spt :=
  ((only_sptRefresh p _).kept .spt (by decide)).trans ((only_bump _ _).kept .spt (by decide))

theorem loseSync_other (p q : Port) (s : State) (h : q ≠ p) : (loseSync p s).spt.port[q] = s.spt.port[q] :=
  (congrArg (fun x : SptState => x.port[q]) (loseSync_spt p s)).trans (modPort_other p q _ s h)

theorem loseSync_same (p : Port) (s : State) : (loseSync p s).spt.port[p].lost = true := by
  have e := congrArg (fun x : SptState => x.port[p]) (loseSync_spt p s)
  exact congrArg PortState.lost (e.trans (modPort_same p _ s))

/-- What a port shows of its loss: SYNC_LOST, whether it is in sync and runs, and its count. -/
def portView (p : Port) (s : State) : Bool × Bool × Bool × Nat := (s.spt.port[p].lost, s.spt.port[p].synced, portOn s p, ctrGet s (cSptSyncLoss p))

theorem portView_congr {s t : State} (p : Port) (h : t.spt.port[p] = s.spt.port[p]) (hb : t.boot = s.boot) (hp : t.pmu = s.pmu)
    (hc : ctrGet t (cSptSyncLoss p) = ctrGet s (cSptSyncLoss p)) : portView p t = portView p s := by
  unfold portView portOn portEn domOn domAt cfgBAt
  rw [h, cfgAt_congr hb, hp, hc]

theorem reportFree_syncLoss (p : Port) : reportFree (cSptSyncLoss p) := by
  unfold reportFree cSptSyncLoss cHstOutSpillB cHstC0FoldsB
  omega

theorem ctrGet_loseSync {j : Nat} (h : reportFree j) (p : Port) (hj : j ≠ cSptSyncLoss p) (s : State) : ctrGet (loseSync p s) j = ctrGet s j :=
  (ctrGet_sptRefresh h p _).trans (ctrGet_bump_free h hj (modPort p (fun q => { q with lost := true, goodFs := 0 }) s))

theorem counted_loseSync (p : Port) (s : State) : counted (cSptSyncLoss p) s (loseSync p s) :=
  counted_of_same (counted_bump (cSptSyncLoss p) (modPort p (fun q => { q with lost := true, goodFs := 0 }) s)) rfl
    (ctrGet_sptRefresh (reportFree_syncLoss p) p _)

theorem ctrGet_portFalls {j : Nat} (h : reportFree j) (s : State) (p : Port) (hj : j ≠ cSptSyncLoss p) : ctrGet (portFalls s p) j = ctrGet s j := by
  unfold portFalls
  split
  · rfl
  · dsimp only
    split
    · rfl
    · exact ctrGet_loseSync h p hj (gapEnds p s)

theorem portFalls_other (s : State) {p q : Port} (h : p ≠ q) : portView q (portFalls s p) = portView q s := by
  have count : cSptSyncLoss q ≠ cSptSyncLoss p := by
    unfold cSptSyncLoss
    have := Fin.val_ne_of_ne h
    omega
  have frame := only_portFalls s p
  refine portView_congr q ?_ (frame.kept .boot (by decide)) (frame.kept .pmu (by decide)) (ctrGet_portFalls (reportFree_syncLoss q) s p count)
  unfold portFalls
  split
  · rfl
  · dsimp only
    split
    · exact modPort_other p q _ s h.symm
    · exact (loseSync_other p q (gapEnds p s) h.symm).trans (modPort_other p q _ s h.symm)

/-- A running port in sync loses it. -/
theorem portFalls_self {s : State} {p : Port} (ho : portOn s p = true) (hs : s.spt.port[p].synced = true) (hl : s.spt.port[p].lost = false) :
    (portFalls s p).spt.port[p].lost = true ∧ counted (cSptSyncLoss p) s (portFalls s p) := by
  have gap : (gapEnds p s).spt.port[p].lost = false ∧ (gapEnds p s).spt.port[p].synced = true := by
    unfold gapEnds
    rw [modPort_same]
    exact ⟨hl, hs⟩
  have falls : portFalls s p = loseSync p (gapEnds p s) := by
    unfold portFalls
    exact (if_neg (by simp [ho])).trans (if_neg fun k => k.elim (fun k => Bool.noConfusion (gap.1.symm.trans k)) fun k => Bool.noConfusion (gap.2.symm.trans k))
  rw [falls]
  exact ⟨loseSync_same p _, counted_of_same (counted_loseSync p (gapEnds p s)) rfl rfl⟩

theorem only_pllaGone (s : State) : only [.clk, .obs, .ctr] s (pllaGone s) := by
  have told := only_bump cClkPllaLosses (setLock .a false s)
  refine only_trans (t := setLock .a false s) ?_ (only_trans (only_mono told (by decide)) ?_)
  · intro x
    cases x <;> simp [Part.same]
  · intro x
    cases x <;> simp [Part.same, pllaGone, ckoUpdate]

theorem pllaGone_clk (s : State) : locked (pllaGone s) .a = false ∧ (pllaGone s).clk.ckoRun = Vector.ofFn (fun _ => false) ∧ (pllaGone s).clk.trigAt = none := by
  have hl : locked (bump cClkPllaLosses (setLock .a false s)) .a = false := by
    rw [locked_congr (s := setLock .a false s) (by rw [bump_clk]), locked_setLock, if_pos rfl]
  refine ⟨hl, ?_, rfl⟩
  have e : (pllaGone s).clk.ckoRun = Vector.ofFn fun n : Fin 4 =>
      (let t := bump cClkPllaLosses (setLock .a false s)
       t.mode.life == .run && !t.mode.fallback && domOn t .clk && locked t .a && ckoWanted t n) := rfl
  rw [e]
  simp [hl]

theorem portView_pllaGone (p : Port) (s : State) : portView p (pllaGone s) = portView p s := by
  have gone := only_pllaGone s
  have hp : (pllaGone s).spt = s.spt := gone.kept .spt (by decide)
  refine portView_congr p (by rw [hp]) (gone.kept .boot (by decide)) (gone.kept .pmu (by decide)) ?_
  exact ctrGet_bump_free (reportFree_syncLoss p) (by unfold cSptSyncLoss cClkPllaLosses; omega) (setLock .a false s)

/-- PLLA's loss takes sync from every port that runs in sync (16_clocks R410 code 4). -/
theorem pllaLoss_ports {s : State} {p : Port} (ho : portOn s p = true) (hs : s.spt.port[p].synced = true) (hl : s.spt.port[p].lost = false) :
    (pllaLoss s).spt.port[p].lost = true ∧ counted (cSptSyncLoss p) s (pllaLoss s) := by
  rw [pllaLoss_eq]
  obtain ⟨u, hu, ht⟩ := foldl_keeps_around (portView p) (fun t q h => portFalls_other t h) (List.mem_finRange p) (List.nodup_finRange 4) (pllaGone s)
  generalize (List.finRange 4).foldl portFalls (pllaGone s) = t at ht
  rw [portView_pllaGone] at hu
  simp only [portView, Prod.mk.injEq] at hu ht
  obtain ⟨ul, us, uo, uc⟩ := hu
  obtain ⟨tl, -, -, tc⟩ := ht
  obtain ⟨fallen, count⟩ := portFalls_self (uo.trans ho) (us.trans hs) (ul.trans hl)
  have told : (clkRefresh t).spt = t.spt := (only_clkRefresh t).kept .spt (by decide)
  refine ⟨?_, counted_of_same count uc ((ctrGet_clkRefresh (reportFree_syncLoss p) t).trans tc)⟩
  exact (congrArg (fun x : SptState => x.port[p].lost) told).trans (tl.trans fallen)

theorem pllaLoss_clk (s : State) : locked (pllaLoss s) .a = false ∧ (pllaLoss s).clk.ckoRun = Vector.ofFn (fun _ => false) ∧ (pllaLoss s).clk.trigAt = none := by
  have ports : ((List.finRange 4).foldl portFalls (pllaGone s)).clk = (pllaGone s).clk :=
    (foldl_relates (only_refl _) only_trans only_portFalls _ _).kept .clk (by decide)
  obtain ⟨hl, hr, ht⟩ := pllaGone_clk s
  rw [pllaLoss_eq, locked_clkRefresh, locked_congr (congrArg ClkState.lock ports), clkRefresh_clk, ports]
  exact ⟨hl, hr, ht⟩

theorem counted_pllaLoss (s : State) : counted cClkPllaLosses s (pllaLoss s) := by
  have free : reportFree cClkPllaLosses := by unfold reportFree; decide
  have ports : ctrGet ((List.finRange 4).foldl portFalls (pllaGone s)) cClkPllaLosses = ctrGet (pllaGone s) cClkPllaLosses :=
    foldl_relates (R := fun s t : State => ctrGet t cClkPllaLosses = ctrGet s cClkPllaLosses) (fun _ => rfl) (fun h k => k.trans h)
      (fun t p => ctrGet_portFalls free t p (by unfold cSptSyncLoss cClkPllaLosses; omega)) _ _
  exact counted_of_same (counted_bump cClkPllaLosses (setLock .a false s)) rfl ((ctrGet_clkRefresh free _).trans ports)

/-! ### Faults -/

/-- A clock fault restarts the device with its code; AON alone stands, with the fault counted (16_clocks R410). -/
theorem clockFault_restarts (code : Nat) (s : State) : (clockFault code s).mode.life = .boot ∧ (clockFault code s).clk = { lastFault := code } ∧
    (clockFault code s).aon = { s.aon with sense := [], faultCause := 0, faultResets := min (s.aon.faultResets + 1) (2 ^ 32 - 1) } ∧
    domOn (clockFault code s) .clk = true ∧ domOn (clockFault code s) .nvm = true ∧ (clockFault code s).trk = {} ∧ (clockFault code s).sol = {} ∧
    (clockFault code s).sky = {} ∧ (clockFault code s).pld = State.reset.pld ∧ (clockFault code s).ctr = [] := by
  refine ⟨rfl, rfl, rfl, ?_, ?_, rfl, rfl, rfl, rfl, rfl⟩ <;> rfl

theorem exec_referenceLoss (s : State) : exec .referenceLoss s = .next (if clkService s = true ∧ s.clk.refFreq ≠ 4 then clockFault 1 s else s) := rfl

/-! ### The reference -/

theorem exec_relockTimeout_change {s : State} (hr : s.clk.relocking = true) (ht : s.clk.relockTick + 9830400 ≤ s.sky.tick) (hc : s.clk.refChange = true) :
    exec .relockTimeout s = .next (let t := relockAll (bump cClkRefSwitchFail s)
      clkRefresh { t with clk := { t.clk with refExt := false, refChange := false } }) := by
  show execRelockTimeout s = _
  unfold execRelockTimeout
  rw [if_neg (by simp [hr, since, msTicks, ht]), if_pos hc]

theorem exec_relockTimeout_fault {s : State} (hr : s.clk.relocking = true) (ht : s.clk.relockTick + 9830400 ≤ s.sky.tick) (hc : s.clk.refChange = false) :
    exec .relockTimeout s = .next (clockFault 3 s) := by
  show execRelockTimeout s = _
  unfold execRelockTimeout
  rw [if_neg (by simp [hr, since, msTicks, ht]), if_neg (by simp [hc])]

/-- A window of EXT_10M is good within two edges of 100,000 (16_clocks R398). -/
def goodWindow (n : Nat) : Bool := decide (99998 ≤ n) && decide (n ≤ 100002)

/-- The count of good windows after one more. -/
def extWindow (n : Nat) (s : State) : State :=
  let k := if goodWindow n then min 100 (s.clk.extGood + 1) else 0
  { s with clk := { s.clk with extGood := k, extPresent := k == 100, extAt := s.sky.tick } }

theorem exec_ext10mWindow {s : State} (n : Nat) (hl : locked s .b = true) (hd : domOn s .clk = true) (hf : s.mode.fallback = false)
    (ht : s.clk.extAt + 4915200 ≤ s.sky.tick) : exec (.ext10mWindow n) s =
    .next (clkRefresh (bumpIf (s.clk.extPresent && !goodWindow n) cClkExt10mLosses (extWindow n s))) := by
  show execExt10mWindow n s = _
  unfold execExt10mWindow
  rw [if_neg (by simp [hl, hd, hf, since, msTicks, ht])]
  rfl

/-- The disciplined outputs run as wanted again. -/
def ckdRestarted (s : State) : State := bump cClkCkdRestarts { s with clk := { s.clk with ckdRun := ckdWanted s, ckdRelock := none } }

theorem exec_ckdRestart {s : State} (hm : ckdMay s = true) (hr : ∀ a, s.clk.ckdRelock = some a → ((a + 983040 : Nat) : Int) ≤ tickOf s (stSec s))
    (hf : (s.clk.ckdFrom : Int) ≤ tickOf s (stSec s)) (hn : s.clk.ckdRun ≠ ckdWanted s) : exec .ckdRestart s = .next (clkEmit (ckdRestarted s)) := by
  show execCkdRestart s = _
  have due : (match s.clk.ckdRelock with | some a => decide (((a + msTicks 2 : Nat) : Int) ≤ tickOf s (stSec s)) | none => true) = true := by
    cases h : s.clk.ckdRelock with
    | none => rfl
    | some a => exact decide_eq_true (hr a h)
  have all : ∀ d : Bool, d = true → (ckdMay s && d && decide ((s.clk.ckdFrom : Int) ≤ tickOf s (stSec s)) && s.clk.ckdRun != ckdWanted s) = true := by
    intro d hd
    simp [hm, hd, hf, hn]
  exact if_pos (all _ due)

end Sys2Proof.Machine
end

section
/-!
SUPPORT. Power (15_power R384–R389): what a sample of the 1 ms grid leaves after the gauge, the governor and the voltage ranks have taken it, and the credits
that a millisecond brings.
-/

namespace Sys2Proof.Machine

/-! ### The active set (15_power R384, R385) -/

/-- The active set as ARY.STATUS numbers it. -/
def setMask (s : State) : BitVec 4 := BitVec.ofNat 4 (antBits fun a => (activeAnts s).contains a)

/-- A new active set takes over: averaging afresh, the channels of dropped antennas released (03_array R72, 05_tracking R121). -/
def setTaken (s : State) : State :=
  if s.ary.antSet = setMask s then s else
    let u := { s with ary := { s.ary with antSet := setMask s, band := s.ary.band.map fun x => { x with cov := [], next := some (nextStreamMs s, none) } } }
    ((busyChans u).filter fun x => !isNavChan u x.1 && !(activeAnts u).contains x.2.ant).foldl (fun v x => releaseChan x.1 v) u

/-- The governor's episode begins or ends (03_array R73). -/
def reducedTold (s : State) : State :=
  if govReduced s = s.ary.reduced then s else
    let u := { s with ary := { s.ary with reduced := govReduced s } }
    if govReduced s then recB 1 0x0307 (leBytes 4 (aryStatus u)) (bump cAryAntConflicts u) else u

theorem activeRefresh_eq (s : State) : activeRefresh s =
    if s.ary.antSet = setMask s ∧ s.ary.reduced = govReduced (setTaken s) then reducedTold (setTaken s) else publishAry (reducedTold (setTaken s)) := rfl

/-- From `s` to `t` the active set has moved: the array, the channels and the reports of both. -/
structure SetSide (s t : State) : Prop where
  frame : only [.ary, .trk, .hst, .obs, .basin, .ctr] s t
  free : ∀ j, reportFree j → j ≠ cAryAntConflicts → j ≠ cTrkLockLosses → ctrGet t j = ctrGet s j

namespace SetSide

theorem refl (s : State) : SetSide s s := ⟨only_refl _ s, fun _ _ _ _ => rfl⟩

theorem trans {s t u : State} (h : SetSide s t) (k : SetSide t u) : SetSide s u :=
  ⟨only_trans h.frame k.frame, fun j hj h1 h2 => (k.free j hj h1 h2).trans (h.free j hj h1 h2)⟩

theorem of_ary (a : AryState) (s : State) : SetSide s { s with ary := a } where
  frame x := by cases x <;> simp [Part.same]
  free _ _ _ _ := rfl

theorem of_chanSet (k : Nat) (c : Chan) (s : State) : SetSide s (chanSet k c s) where
  frame x := by cases x <;> simp [Part.same]
  free _ _ _ _ := rfl

theorem of_lockLoss (c : Bool) (s : State) : SetSide s (bumpIf c cTrkLockLosses s) where
  frame := only_mono (only_bumpIf _ _ s) (by decide)
  free _ hj _ h2 := ctrGet_bumpIf_free hj h2 c s

theorem of_conflict (s : State) : SetSide s (bump cAryAntConflicts s) where
  frame := only_mono (only_bump _ s) (by decide)
  free _ hj h1 _ := ctrGet_bump_free hj h1 s

theorem of_recB (cls kind : Nat) (content : List Byte) (s : State) : SetSide s (recB cls kind content s) where
  frame := only_mono (only_recB _ _ _ s) (by decide)
  free _ hj _ _ := ctrGet_recB_free hj _ _ _ s

theorem of_basinPut (a : Nat) (b : List Byte) (s : State) : SetSide s (basinPut a b s) where
  frame := only_mono (only_basinPut _ _ s) (by decide)
  free _ _ _ _ := rfl

theorem of_publishAry (s : State) : SetSide s (publishAry s) := by
  unfold publishAry
  exact (of_basinPut _ _ s).trans (of_basinPut _ _ _)

theorem of_idleChan (k : Nat) (c : Bool) (s : State) : SetSide s (chanSet k {} (bumpIf c cTrkLockLosses s)) :=
  (of_lockLoss c s).trans (of_chanSet k {} _)

theorem of_releaseChan (k : Nat) (s : State) : SetSide s (releaseChan k s) := by
  unfold releaseChan
  dsimp only
  split
  · exact of_idleChan k _ s
  · split
    · refine trans ?_ (foldl_relates refl trans (fun t (x : Nat × Chan) => of_idleChan x.1 _ t) _ _)
      exact of_idleChan k _ s
    · exact of_idleChan k _ s

theorem of_setTaken (s : State) : SetSide s (setTaken s) := by
  unfold setTaken
  split
  · exact refl s
  · refine trans ?_ (foldl_relates refl trans (fun t (x : Nat × Chan) => of_releaseChan x.1 t) _ _)
    exact of_ary _ s

theorem of_reducedTold (s : State) : SetSide s (reducedTold s) := by
  unfold reducedTold
  split
  · exact refl s
  · dsimp only
    split
    · refine trans ?_ (of_recB _ _ _ _)
      refine trans ?_ (of_conflict _)
      exact of_ary _ s
    · exact of_ary _ s

theorem of_activeRefresh (s : State) : SetSide s (activeRefresh s) := by
  have told := (of_setTaken s).trans (of_reducedTold _)
  rw [activeRefresh_eq]
  split
  · exact told
  · exact told.trans (of_publishAry _)

end SetSide

/-- From `s` to `t` a sample's or a level's reports have gone out: with the active set, the guarantee's cause and PMU.STATUS. -/
structure PowerSide (s t : State) : Prop where
  frame : only [.ary, .trk, .pmu, .hst, .obs, .basin, .ctr] s t
  supply : t.pmu.vinBadMs = s.pmu.vinBadMs ∧ t.pmu.dom = s.pmu.dom
  free : ∀ j, reportFree j → j ≠ cAryAntConflicts → j ≠ cTrkLockLosses → j ≠ cPmuGaugeDisagreeEpisodes → ctrGet t j = ctrGet s j

namespace PowerSide

theorem refl (s : State) : PowerSide s s := ⟨only_refl _ s, ⟨rfl, rfl⟩, fun _ _ _ _ _ => rfl⟩

theorem trans {s t u : State} (h : PowerSide s t) (k : PowerSide t u) : PowerSide s u :=
  ⟨only_trans h.frame k.frame, ⟨k.supply.1.trans h.supply.1, k.supply.2.trans h.supply.2⟩,
    fun j hj h1 h2 h3 => (k.free j hj h1 h2 h3).trans (h.free j hj h1 h2 h3)⟩

theorem of_pmu (p : PmuState) (s : State) (h : p.vinBadMs = s.pmu.vinBadMs ∧ p.dom = s.pmu.dom) : PowerSide s { s with pmu := p } where
  frame x := by cases x <;> simp [Part.same]
  supply := h
  free _ _ _ _ _ := rfl

theorem of_set {s t : State} (h : SetSide s t) : PowerSide s t where
  frame := only_mono h.frame (by decide)
  supply := by rw [show t.pmu = s.pmu from h.frame.kept .pmu (by decide)]; exact ⟨rfl, rfl⟩
  free j hj h1 h2 _ := h.free j hj h1 h2

theorem of_basinPut (a : Nat) (b : List Byte) (s : State) : PowerSide s (basinPut a b s) := of_set (.of_basinPut a b s)

theorem of_disagree (s : State) : PowerSide s (bump cPmuGaugeDisagreeEpisodes s) where
  frame := only_mono (only_bump _ s) (by decide)
  supply := by rw [bump_pmu]; exact ⟨rfl, rfl⟩
  free _ hj _ _ h3 := ctrGet_bump_free hj h3 s

theorem of_recPmu (s : State) : PowerSide s (recPmu s) := by
  unfold recPmu
  refine trans ?_ (of_set (.of_recB _ _ _ _))
  exact of_pmu _ s ⟨rfl, rfl⟩

theorem of_notePmu (s : State) : PowerSide s (notePmu s) := by
  unfold notePmu
  split
  · exact of_recPmu s
  · exact refl s

theorem of_voidArise (bit : Nat) (s : State) : PowerSide s (voidArise bit s) := by
  unfold voidArise
  split
  · refine trans ?_ (of_basinPut _ _ _)
    exact of_pmu _ s ⟨rfl, rfl⟩
  · refine trans ?_ (of_set (.of_recB _ _ _ _))
    refine trans ?_ (of_basinPut _ _ _)
    exact of_pmu _ s ⟨rfl, rfl⟩

theorem of_voidThermalSet (v : Bool) (s : State) : PowerSide s (voidThermalSet v s) := by
  unfold voidThermalSet
  split
  · exact refl s
  · split
    · refine trans ?_ (of_voidArise 1 _)
      exact of_pmu _ s ⟨rfl, rfl⟩
    · exact of_pmu _ s ⟨rfl, rfl⟩

theorem of_refreshSet (s : State) : PowerSide s (refreshSet s) := (of_set (.of_activeRefresh s)).trans (of_voidThermalSet _ _)

end PowerSide

theorem recPmu_statusTick (s : State) : (recPmu s).pmu.statusTick = some s.sky.tick := by
  unfold recPmu
  rw [recB_eta]

/-! ### The governor -/

/-- A level in AON. -/
def levelTaken (l : Nat) (s : State) : State := { s with aon := { s.aon with govLevel := l, govNext := none, coolMs := 0 } }

/-- The entry counter of a level. -/
def levelCounter (l : Nat) : Nat := if l = 1 then cPmuGovL1Entries else cPmuGovL2Entries

/-- The level counted where it is higher. -/
def levelCounted (l : Nat) (s : State) : State :=
  if s.aon.govLevel < l then bump (levelCounter l) (levelTaken l s) else levelTaken l s

theorem setGov_eq (l : Nat) (s : State) : setGov l s =
    if s.mode.life = .run then recPmu (refreshSet (levelCounted l s)) else levelCounted l s := rfl

theorem only_levelCounted (l : Nat) (s : State) : only [.obs, .ctr] (levelTaken l s) (levelCounted l s) := by
  unfold levelCounted
  split
  · exact only_bump _ _
  · exact only_refl _ _

/-- After a level has been taken and counted, only the reports follow. -/
theorem setGov_side (l : Nat) (s : State) : PowerSide (levelCounted l s) (setGov l s) := by
  rw [setGov_eq]
  split
  · exact (PowerSide.of_refreshSet _).trans (PowerSide.of_recPmu _)
  · exact .refl _

theorem only_setGov (l : Nat) (s : State) : only [.ary, .trk, .pmu, .hst, .obs, .basin, .ctr] (levelTaken l s) (setGov l s) :=
  only_trans (only_mono (only_levelCounted l s) (by decide)) (setGov_side l s).frame

theorem levelCounter_free (l : Nat) : reportFree (levelCounter l) ∧ levelCounter l ≠ cAryAntConflicts ∧ levelCounter l ≠ cTrkLockLosses ∧
    levelCounter l ≠ cPmuGaugeDisagreeEpisodes := by
  unfold levelCounter reportFree
  split <;> decide

theorem counted_setGov {l : Nat} {s : State} (h : s.aon.govLevel < l) : counted (levelCounter l) s (setGov l s) := by
  have count : counted (levelCounter l) s (levelCounted l s) := by
    unfold levelCounted
    rw [if_pos h]
    exact counted_of_same (counted_bump _ (levelTaken l s)) rfl rfl
  obtain ⟨hf, h1, h2, h3⟩ := levelCounter_free l
  exact counted_of_same count rfl ((setGov_side l s).free _ hf h1 h2 h3)

theorem exec_governorLevelChange_early {s : State} {l : Nat} (h : s.aon.govNext = some l) (ht : s.sky.tick < s.aon.govAt) :
    exec .governorLevelChange s = .next s := by
  show execGovernorLevelChange s = _
  unfold execGovernorLevelChange
  rw [h]
  exact congrArg _ (if_pos ht)

theorem exec_governorLevelChange_due {s : State} {l : Nat} (h : s.aon.govNext = some l) (ht : s.aon.govAt ≤ s.sky.tick) :
    exec .governorLevelChange s = .next (setGov l s) := by
  show execGovernorLevelChange s = _
  unfold execGovernorLevelChange
  rw [h]
  exact congrArg _ (if_neg (by omega))

theorem setGov_aon (l : Nat) (s : State) : (setGov l s).aon = { s.aon with govLevel := l, govNext := none, coolMs := 0 } :=
  (only_setGov l s).kept .aon (by decide)

theorem setGov_statusTick {l : Nat} {s : State} (h : s.mode.life = .run) : (setGov l s).pmu.statusTick = some s.sky.tick := by
  have tick : (refreshSet (levelCounted l s)).sky = s.sky :=
    ((PowerSide.of_refreshSet _).frame.kept .sky (by decide)).trans ((only_levelCounted l s).kept .sky (by decide))
  rw [setGov_eq, if_pos h, recPmu_statusTick, tick]

/-- The time at or below the return threshold after a sample (15_power R384), from a level, the time before and the mean of a second. -/
def coolFrom (l cool : Nat) (mean : Rat) : Nat := if l = 0 then 0 else if mean ≤ (if l = 1 then 97 else 102) then cool + 1 else 0

/-- The level that the mean of 100 ms and the time at the return threshold call for. -/
def calledFrom (l cool : Nat) (hot : Rat) : Nat :=
  if l < 2 ∧ 105 ≤ hot then 2 else if l = 0 ∧ 100 ≤ hot then 1 else if 0 < l ∧ 10000 ≤ cool then l - 1 else l

/-- That time after a sample. -/
def coolAfter (s : State) : Nat := coolFrom s.aon.govLevel s.aon.coolMs (tjMean s 1000)

/-- The level that a sample calls for. -/
def govCalled (s : State) : Nat := calledFrom s.aon.govLevel (coolAfter s) (tjMean s 100)

theorem govSample_same {s : State} (h : govCalled s = s.aon.govLevel) : govSample s = { s with aon := { s.aon with coolMs := coolAfter s } } := if_pos h

/-- With a port running, another level waits for the next stream millisecond. -/
theorem govSample_waits {s : State} (h : govCalled s ≠ s.aon.govLevel) (hp : anyPortOn s = true) : govSample s = { s with aon := { s.aon with
    coolMs := coolAfter s, govNext := some (govCalled s),
    govAt := if s.aon.govNext = some (govCalled s) then s.aon.govAt else (nextStreamMs s).toNat } } := by
  refine (if_neg h).trans ((if_pos hp).trans ?_)
  by_cases hn : s.aon.govNext = some (govCalled s)
  · refine (if_pos hn).trans ?_
    rw [if_pos hn, ← hn]
    rfl
  · refine (if_neg hn).trans ?_
    rw [if_neg hn]
    rfl

/-- Without one it takes effect at once. -/
theorem govSample_now {s : State} (h : govCalled s ≠ s.aon.govLevel) (hp : anyPortOn s = false) :
    govSample s = setGov (govCalled s) { s with aon := { s.aon with coolMs := coolAfter s } } := (if_neg h).trans (if_neg (by simp [hp]))

/-! ### The gauge -/

/-- From `s` to `t` a contradiction of the gauge may have been reported, beside a sample's other reports. -/
structure GaugeSide (s t : State) : Prop where
  frame : only [.ary, .trk, .aon, .pmu, .hst, .obs, .basin, .ctr] s t
  aon : t.aon = { s.aon with disagree := t.aon.disagree, sense := t.aon.sense }
  supply : t.pmu.vinBadMs = s.pmu.vinBadMs ∧ t.pmu.dom = s.pmu.dom
  free : ∀ j, reportFree j → j ≠ cAryAntConflicts → j ≠ cTrkLockLosses → j ≠ cPmuGaugeDisagreeEpisodes → ctrGet t j = ctrGet s j

namespace GaugeSide

theorem of_power {s t : State} (h : PowerSide s t) : GaugeSide s t where
  frame := only_mono h.frame (by decide)
  aon := by rw [show t.aon = s.aon from h.frame.kept .aon (by decide)]
  supply := h.supply
  free := h.free

theorem refl (s : State) : GaugeSide s s := of_power (.refl s)

theorem trans {s t u : State} (h : GaugeSide s t) (k : GaugeSide t u) : GaugeSide s u where
  frame := only_trans h.frame k.frame
  aon := by rw [k.aon, h.aon]
  supply := ⟨k.supply.1.trans h.supply.1, k.supply.2.trans h.supply.2⟩
  free j hj h1 h2 h3 := (k.free j hj h1 h2 h3).trans (h.free j hj h1 h2 h3)

theorem of_aon (a : AonState) (s : State) (h : a = { s.aon with disagree := a.disagree, sense := a.sense }) : GaugeSide s { s with aon := a } where
  frame x := by cases x <;> simp [Part.same]
  aon := h
  supply := ⟨rfl, rfl⟩
  free _ _ _ _ _ := rfl

theorem of_setDisagree (s : State) : GaugeSide s (setDisagree s) := by
  unfold setDisagree
  split
  · exact refl s
  · refine trans ?_ (of_power (.of_notePmu _))
    refine trans ?_ (of_power (.of_disagree _))
    exact of_aon _ s rfl

end GaugeSide

/-- The count and the rest time at a sample. -/
def gaugeCounted (s : State) : State :=
  { s with aon := { s.aon with
    count := s.aon.count + s.aon.current
    restMs := if s.aon.current.natAbs < 10 * cfg s pmuGaugeRestI then s.aon.restMs + 1 else 0 } }

theorem gaugeSample_side (s : State) : GaugeSide (gaugeCounted s) (gaugeSample s) := by
  unfold gaugeSample
  dsimp only
  split
  · exact .of_setDisagree (gaugeCounted s)
  · exact .refl (gaugeCounted s)

theorem exec_gaugeAnchor_rested {s : State} {v : Nat} {r : List Nat} (hv : s.aon.vbat = v :: r) (hb : blockOf s 8 0x1511 ≠ none)
    (hr : 60000 * cfg s pmuGaugeRestMin ≤ s.aon.restMs) : exec .gaugeAnchor s =
    .next (let t := bump cPmuAnchors { s with aon := { s.aon with
        count := (ocvPercent s v / 100 * cfg s pmuGaugeCapacity * 36000000).floor, anchored := true, disagree := false, restMs := 0 } }
      if s.aon.anchored = true ∧ s.aon.disagree = false then t else notePmu t) := by
  show execGaugeAnchor s = _
  unfold execGaugeAnchor
  rw [hv]
  exact if_neg (by simp [hb]; omega)

/-! ### The voltage ranks -/

/-- Rank 3 as the battery calls for it. -/
def rank3Set (v : Bool) (s : State) : State := { s with mode := { s.mode with rank3 := v } }

/-- A battery below VCUT contradicts a gauge that tells 20 % or more (15_power R388). -/
def cutContradiction (s : State) : State := match socNow s with | some q => if 20 ≤ q then setDisagree s else s | none => s

theorem cutContradiction_side (s : State) : GaugeSide s (cutContradiction s) := by
  unfold cutContradiction
  split
  · split
    · exact .of_setDisagree s
    · exact .refl s
  · exact .refl s

/-- The ranks in operation above VOFF. -/
def cutRanks (s : State) : State :=
  if s.mode.rank3 then (if (cfg s bootModesVres : Rat) ≤ vbatMean s then applyPrecedence (rank3Set false s) else s)
  else if vbatMean s < cfg s bootModesVcut then applyPrecedence (cutContradiction (rank3Set true s))
  else s

theorem voltageRanks_eq (s : State) : voltageRanks s =
    if s.mode.life ≠ .run then s else if vbatMean s < cfg s bootModesVoff then goOff s else if s.mode.fallback then s else cutRanks s := rfl

theorem voltageRanks_off {s : State} (hr : s.mode.life = .run) (hv : vbatMean s < cfg s bootModesVoff) : voltageRanks s = goOff s := by
  rw [voltageRanks_eq, if_neg (by simp [hr]), if_pos hv]

theorem voltageRanks_run {s : State} (hr : s.mode.life = .run) (hv : (cfg s bootModesVoff : Rat) ≤ vbatMean s) (hf : s.mode.fallback = false) :
    voltageRanks s = cutRanks s := by
  rw [voltageRanks_eq, if_neg (by simp [hr]), if_neg (not_lt.2 hv), if_neg (by simp [hf])]

/-- From `s` to `t` only ranks, a contradiction and reports have moved: the governor, the gauge's count and the life stand. -/
structure SampleTail (s t : State) : Prop where
  aon : t.aon = { s.aon with disagree := t.aon.disagree, sense := t.aon.sense }
  supply : t.pmu.vinBadMs = s.pmu.vinBadMs ∧ t.pmu.dom = s.pmu.dom
  life : t.mode.life = s.mode.life
  free : ∀ j, reportFree j → j ≠ cAryAntConflicts → j ≠ cTrkLockLosses → j ≠ cPmuGaugeDisagreeEpisodes → ctrGet t j = ctrGet s j

namespace SampleTail

theorem of_gauge {s t : State} (h : GaugeSide s t) : SampleTail s t :=
  ⟨h.aon, h.supply, congrArg ModeState.life (h.frame.kept .mode (by decide)), h.free⟩

theorem refl (s : State) : SampleTail s s := of_gauge (.refl s)

theorem trans {s t u : State} (h : SampleTail s t) (k : SampleTail t u) : SampleTail s u where
  aon := by rw [k.aon, h.aon]
  supply := ⟨k.supply.1.trans h.supply.1, k.supply.2.trans h.supply.2⟩
  life := k.life.trans h.life
  free j hj h1 h2 h3 := (k.free j hj h1 h2 h3).trans (h.free j hj h1 h2 h3)

theorem of_mode (m : ModeState) (s : State) (h : m.life = s.mode.life) : SampleTail s { s with mode := m } :=
  ⟨rfl, ⟨rfl, rfl⟩, h, fun _ _ _ _ _ => rfl⟩

theorem of_applyPrecedence (s : State) : SampleTail s (applyPrecedence s) := by
  rw [applyPrecedence_eq]
  exact of_mode _ s rfl

theorem of_cutRanks (s : State) : SampleTail s (cutRanks s) := by
  have set : ∀ v, SampleTail s (rank3Set v s) := fun v => of_mode _ s rfl
  unfold cutRanks
  split
  · split
    · exact (set false).trans (of_applyPrecedence _)
    · exact refl s
  · split
    · exact ((set true).trans (of_gauge (cutContradiction_side _))).trans (of_applyPrecedence _)
    · exact refl s

/-- Unless the battery is below VOFF in operation. -/
theorem of_voltageRanks {s : State} (h : s.mode.life ≠ .run ∨ (cfg s bootModesVoff : Rat) ≤ vbatMean s) : SampleTail s (voltageRanks s) := by
  rw [voltageRanks_eq]
  split
  · exact refl s
  · rename_i hr
    rw [if_neg (not_lt.2 (h.resolve_left hr))]
    split
    · exact refl s
    · exact of_cutRanks s

end SampleTail

/-- The mode state when rank 3 has moved and the precedence has been applied. -/
def rankedMode (v : Bool) (s : State) : ModeState := { s.mode with rank3 := v, decided := decidedAs (wantedMode (rank3Set v s)) (rank3Set v s) }

theorem rankedMode_congr {s t : State} (v : Bool) (hm : t.mode = s.mode) (hr : t.rfc = s.rfc) (hs : t.sky = s.sky) (hb : t.boot = s.boot) :
    rankedMode v t = rankedMode v s := by
  have mode : (rank3Set v t).mode = (rank3Set v s).mode := by
    unfold rank3Set
    rw [hm]
  have five : rank5 (rank3Set v t) = rank5 (rank3Set v s) := by
    unfold rank5 rank3Set
    rw [hr]
  unfold rankedMode
  rw [wantedMode_congr mode five hs hb, decidedAs_congr _ mode hs, hm]

theorem cutRanks_mode (s : State) :
    (s.mode.rank3 = true → vbatMean s < cfg s bootModesVres → (cutRanks s).mode = s.mode) ∧
    (s.mode.rank3 = true → (cfg s bootModesVres : Rat) ≤ vbatMean s → (cutRanks s).mode = rankedMode false s) ∧
    (s.mode.rank3 = false → (cfg s bootModesVcut : Rat) ≤ vbatMean s → (cutRanks s).mode = s.mode) ∧
    (s.mode.rank3 = false → vbatMean s < cfg s bootModesVcut → (cutRanks s).mode = rankedMode true s) := by
  unfold cutRanks
  refine ⟨fun h hv => ?_, fun h hv => ?_, fun h hv => ?_, fun h hv => ?_⟩
  · rw [if_pos h, if_neg (not_le.2 hv)]
  · rw [if_pos h, if_pos hv, applyPrecedence_eq]
    rfl
  · rw [if_neg (by simp [h]), if_neg (not_lt.2 hv)]
  · have frame := (cutContradiction_side (rank3Set true s)).frame
    have mode : (cutContradiction (rank3Set true s)).mode = (rank3Set true s).mode := frame.kept .mode (by decide)
    have five : rank5 (cutContradiction (rank3Set true s)) = rank5 (rank3Set true s) := by
      unfold rank5
      rw [show (cutContradiction (rank3Set true s)).rfc = (rank3Set true s).rfc from frame.kept .rfc (by decide)]
    have sky : (cutContradiction (rank3Set true s)).sky = (rank3Set true s).sky := frame.kept .sky (by decide)
    rw [if_neg (by simp [h]), if_pos hv, applyPrecedence_eq, wantedMode_congr mode five sky (frame.kept .boot (by decide)), decidedAs_congr _ mode sky, mode]
    rfl

/-! ### The sample -/

/-- A sample as it comes in (15_power R386). -/
def sampleIn (tj : Int) (vbat vin : Nat) (current : Int) (s : State) : State := { s with
  aon := { s.aon with tj := (tj :: s.aon.tj).take 1000, vbat := (vbat :: s.aon.vbat).take 1000, vin := vin, current := current }
  pmu := { s.pmu with vinBadMs := if 300 ≤ vin ∧ vin ≤ 550 then 0 else s.pmu.vinBadMs + 1 } }

/-- The sample with its supply judged (12_polders R327). -/
def sampleTaken (tj : Int) (vbat vin : Nat) (current : Int) (s : State) : State :=
  if 300 ≤ vin ∧ vin ≤ 550 then voidVinEnd (sampleIn tj vbat vin current s) else sampleIn tj vbat vin current s

/-- The sample with the gauge's part done. -/
def sampleGauged (tj : Int) (vbat vin : Nat) (current : Int) (s : State) : State := gaugeSample (sampleTaken tj vbat vin current s)

/-- The sample with the governor's part done and its window added (12_polders R321). -/
def sampleGoverned (tj : Int) (vbat vin : Nat) (current : Int) (s : State) : State :=
  let t := govSample (sampleGauged tj vbat vin current s)
  if t.mode.life = .run ∧ t.sky.run = true then
    { t with aon := { t.aon with sense := senseAdd ((stNow t / 10).floor.toNat) tj vin vbat t.aon.govLevel t.aon.sense } } else t

/-- The sample with the ranks, and PMU.STATUS where it is due. -/
def sampleDone (s : State) : State := if statusDue (voltageRanks s) then recPmu (voltageRanks s) else voltageRanks s

theorem exec_pmuSample {s : State} (tj : Int) (vbat vin : Nat) (current : Int) (h : s.aon.rails = true) :
    exec (.pmuSample tj vbat vin current) s = .next (sampleDone (sampleGoverned tj vbat vin current s)) := by
  show execPmuSample tj vbat vin current s = _
  exact if_neg (by simp [h])

/-- The supply is back: of power management its cause alone moves. -/
theorem voidVinEnd_side (s : State) : only [.pmu] s (voidVinEnd s) ∧ (voidVinEnd s).pmu.vinBadMs = s.pmu.vinBadMs ∧ (voidVinEnd s).pmu.dom = s.pmu.dom := by
  unfold voidVinEnd
  split
  · refine ⟨?_, rfl, rfl⟩
    intro x
    cases x <;> simp [Part.same]
  · exact ⟨only_refl _ s, rfl, rfl⟩

section
variable (tj : Int) (vbat vin : Nat) (current : Int) (s : State)

/-- After a sample has come in, only the supply's cause may end. -/
theorem sampleTaken_side : only [.pmu] (sampleIn tj vbat vin current s) (sampleTaken tj vbat vin current s) ∧
    (sampleTaken tj vbat vin current s).pmu.vinBadMs = (if 300 ≤ vin ∧ vin ≤ 550 then 0 else s.pmu.vinBadMs + 1) ∧
    (sampleTaken tj vbat vin current s).pmu.dom = s.pmu.dom := by
  unfold sampleTaken
  split
  · obtain ⟨frame, hv, hd⟩ := voidVinEnd_side (sampleIn tj vbat vin current s)
    exact ⟨frame, hv.trans (if_pos ‹_›), hd⟩
  · exact ⟨only_refl _ _, if_neg ‹_›, rfl⟩

theorem sampleTaken_aon : (sampleTaken tj vbat vin current s).aon =
    { s.aon with tj := (tj :: s.aon.tj).take 1000, vbat := (vbat :: s.aon.vbat).take 1000, vin := vin, current := current } :=
  (sampleTaken_side tj vbat vin current s).1.kept .aon (by decide)

theorem only_sampleTaken : only [.aon, .pmu] s (sampleTaken tj vbat vin current s) := by
  have frame : only [.aon, .pmu] s (sampleIn tj vbat vin current s) := by
    intro x
    cases x <;> simp [Part.same, sampleIn]
  exact only_trans frame (only_mono (sampleTaken_side tj vbat vin current s).1 (by decide))

theorem only_sampleGauged : only [.ary, .trk, .aon, .pmu, .hst, .obs, .basin, .ctr] s (sampleGauged tj vbat vin current s) := by
  refine only_trans (only_mono (only_sampleTaken tj vbat vin current s) (by decide)) (only_trans ?_ (gaugeSample_side _).frame)
  intro x
  cases x <;> simp [Part.same, gaugeCounted]

/-- What the gauge leaves in AON: the sample, the count and the rest time; a contradiction apart. -/
theorem sampleGauged_aon : (sampleGauged tj vbat vin current s).aon = { s.aon with
    tj := (tj :: s.aon.tj).take 1000, vbat := (vbat :: s.aon.vbat).take 1000, vin := vin, current := current
    count := s.aon.count + current
    restMs := if current.natAbs < 10 * cfg s pmuGaugeRestI then s.aon.restMs + 1 else 0
    disagree := (sampleGauged tj vbat vin current s).aon.disagree, sense := (sampleGauged tj vbat vin current s).aon.sense } := by
  have boot : (sampleTaken tj vbat vin current s).boot = s.boot := (only_sampleTaken tj vbat vin current s).kept .boot (by decide)
  have side := (gaugeSample_side (sampleTaken tj vbat vin current s)).aon
  unfold gaugeCounted at side
  rw [cfg_congr boot, sampleTaken_aon] at side
  exact side

theorem sampleGauged_supply : (sampleGauged tj vbat vin current s).pmu.vinBadMs = (if 300 ≤ vin ∧ vin ≤ 550 then 0 else s.pmu.vinBadMs + 1) ∧
    (sampleGauged tj vbat vin current s).pmu.dom = s.pmu.dom := by
  obtain ⟨hv, hd⟩ := (gaugeSample_side (sampleTaken tj vbat vin current s)).supply
  obtain ⟨-, kv, kd⟩ := sampleTaken_side tj vbat vin current s
  exact ⟨hv.trans kv, hd.trans kd⟩

theorem ctrGet_sampleGauged {j : Nat} (hj : reportFree j) (h1 : j ≠ cAryAntConflicts) (h2 : j ≠ cTrkLockLosses) (h3 : j ≠ cPmuGaugeDisagreeEpisodes) :
    ctrGet (sampleGauged tj vbat vin current s) j = ctrGet s j :=
  ((gaugeSample_side (sampleTaken tj vbat vin current s)).free j hj h1 h2 h3).trans
    (ctrGet_congr ((only_sampleTaken tj vbat vin current s).kept .ctr (by decide)) j)

end

theorem anyPortOn_congr {s t : State} (hp : t.spt = s.spt) (hb : t.boot = s.boot) (hd : t.pmu.dom = s.pmu.dom) : anyPortOn t = anyPortOn s := by
  have one : portOn t = portOn s := by
    funext p
    unfold portOn portEn domOn domAt cfgBAt
    rw [hp, cfgAt_congr hb, hd]
  unfold anyPortOn
  rw [one]

theorem nextStreamMs_congr {s t : State} (hp : t.spt = s.spt) (hb : t.boot = s.boot) (hs : t.sky = s.sky) : nextStreamMs t = nextStreamMs s := by
  have parts : ∀ u : State, nextStreamMs u = nextStreamMs { State.reset with spt := u.spt, boot := u.boot, sky := u.sky } := fun _ => rfl
  rw [parts t, parts s, hp, hb, hs]

/-- The governor moves only its own fields of AON. -/
theorem govSample_aon (s : State) : (govSample s).aon = { s.aon with
    govLevel := (govSample s).aon.govLevel, govNext := (govSample s).aon.govNext, govAt := (govSample s).aon.govAt, coolMs := (govSample s).aon.coolMs } := by
  by_cases h : govCalled s = s.aon.govLevel
  · rw [govSample_same h]
  · by_cases hp : anyPortOn s = true
    · rw [govSample_waits h hp]
    · rw [govSample_now h (by simpa using hp), setGov_aon]

theorem setGov_supply (l : Nat) (s : State) : (setGov l s).pmu.vinBadMs = s.pmu.vinBadMs ∧ (setGov l s).pmu.dom = s.pmu.dom := by
  obtain ⟨hv, hd⟩ := (setGov_side l s).supply
  have hp : (levelCounted l s).pmu = s.pmu := (only_levelCounted l s).kept .pmu (by decide)
  exact ⟨hv.trans (congrArg _ hp), hd.trans (congrArg _ hp)⟩

theorem only_govSample (s : State) : only [.ary, .trk, .aon, .pmu, .hst, .obs, .basin, .ctr] s (govSample s) := by
  have cool : ∀ a : AonState, only [.aon] s { s with aon := a } := fun a x => by cases x <;> simp [Part.same]
  by_cases h : govCalled s = s.aon.govLevel
  · rw [govSample_same h]
    exact only_mono (cool _) (by decide)
  · by_cases hp : anyPortOn s = true
    · rw [govSample_waits h hp]
      exact only_mono (cool _) (by decide)
    · rw [govSample_now h (by simpa using hp)]
      exact only_trans (only_mono (cool _) (by decide)) (only_mono (only_setGov _ _) (by decide))

theorem govSample_supply (s : State) : (govSample s).pmu.vinBadMs = s.pmu.vinBadMs := by
  by_cases h : govCalled s = s.aon.govLevel
  · rw [govSample_same h]
  · by_cases hp : anyPortOn s = true
    · rw [govSample_waits h hp]
    · rw [govSample_now h (by simpa using hp)]
      exact (setGov_supply _ _).1

end Sys2Proof.Machine
end

section
/-!
SUPPORT. A sample as a whole (15_power R384–R388): what it leaves above VOFF, and what the governor makes of it; then freeboard.
-/

namespace Sys2Proof.Machine

section
variable (tj : Int) (vbat vin : Nat) (current : Int) (s : State)

theorem sampleGoverned_side : GaugeSide (govSample (sampleGauged tj vbat vin current s)) (sampleGoverned tj vbat vin current s) := by
  unfold sampleGoverned
  dsimp only
  split
  · exact .of_aon _ _ rfl
  · exact .refl _

theorem only_sampleGoverned : only [.ary, .trk, .aon, .pmu, .hst, .obs, .basin, .ctr] s (sampleGoverned tj vbat vin current s) :=
  only_trans (only_sampleGauged tj vbat vin current s) (only_trans (only_govSample _) (sampleGoverned_side tj vbat vin current s).frame)

/-- The mean that the ranks take is that of the newest thousand samples, this one among them. -/
theorem vbatMean_sampleGoverned : vbatMean (sampleGoverned tj vbat vin current s) = meanOf (((vbat :: s.aon.vbat).take 1000).map Int.ofNat) 1000 := by
  unfold vbatMean
  rw [(sampleGoverned_side tj vbat vin current s).aon, govSample_aon, sampleGauged_aon]

end

theorem tjMean_congr {s t : State} (h : t.aon.tj = s.aon.tj) (n : Nat) : tjMean t n = tjMean s n := by
  unfold tjMean
  rw [h]

/-- Below VOFF the device is off and keeps AON alone (01_architecture R18 rank 2). -/
theorem sampleDone_off {s : State} (hr : s.mode.life = .run) (hv : vbatMean s < cfg s bootModesVoff) : sampleDone s = goOff s := by
  unfold sampleDone
  rw [voltageRanks_off hr hv]
  exact if_neg (by simp [statusDue, goOff])

theorem sampleDone_side (s : State) : PowerSide (voltageRanks s) (sampleDone s) := by
  unfold sampleDone
  split
  · exact .of_recPmu _
  · exact .refl _

theorem sampleDone_tail {s : State} (h : s.mode.life ≠ .run ∨ (cfg s bootModesVoff : Rat) ≤ vbatMean s) : SampleTail s (sampleDone s) :=
  (SampleTail.of_voltageRanks h).trans (.of_gauge (.of_power (sampleDone_side s)))

section
variable {tj : Int} {vbat vin : Nat} {current : Int} {s t : State}

/-- What a sample leaves in AON, the governor's fields, the contradiction and the sample sums apart. -/
theorem sampled_aon (h : SampleTail (govSample (sampleGauged tj vbat vin current s)) t) : t.aon = { s.aon with
    tj := (tj :: s.aon.tj).take 1000, vbat := (vbat :: s.aon.vbat).take 1000, vin := vin, current := current
    count := s.aon.count + current
    restMs := if current.natAbs < 10 * cfg s pmuGaugeRestI then s.aon.restMs + 1 else 0
    govLevel := t.aon.govLevel, govNext := t.aon.govNext, govAt := t.aon.govAt, coolMs := t.aon.coolMs
    disagree := t.aon.disagree, sense := t.aon.sense } := by
  rw [h.aon, govSample_aon, sampleGauged_aon]

/-- The governor judges the sample by the means that stand after it. -/
theorem sampled_called (h : SampleTail (govSample (sampleGauged tj vbat vin current s)) t) :
    coolAfter (sampleGauged tj vbat vin current s) = coolFrom s.aon.govLevel s.aon.coolMs (tjMean t 1000) ∧
    govCalled (sampleGauged tj vbat vin current s) =
      calledFrom s.aon.govLevel (coolFrom s.aon.govLevel s.aon.coolMs (tjMean t 1000)) (tjMean t 100) := by
  have mean : ∀ n, tjMean (sampleGauged tj vbat vin current s) n = tjMean t n := tjMean_congr (by rw [sampled_aon h, sampleGauged_aon])
  have cool : coolAfter (sampleGauged tj vbat vin current s) = coolFrom s.aon.govLevel s.aon.coolMs (tjMean t 1000) := by
    unfold coolAfter
    rw [mean, sampleGauged_aon]
  refine ⟨cool, ?_⟩
  unfold govCalled
  rw [cool, mean, sampleGauged_aon]

/-- The governor at a sample (15_power R384): no change, a level for the next stream millisecond, or one at once. -/
theorem sampled_governor (h : SampleTail (govSample (sampleGauged tj vbat vin current s)) t) {w cool : Nat}
    (hc : coolAfter (sampleGauged tj vbat vin current s) = cool) (hw : govCalled (sampleGauged tj vbat vin current s) = w) :
    (w = s.aon.govLevel → t.aon.govLevel = s.aon.govLevel ∧ t.aon.coolMs = cool) ∧
    (w ≠ s.aon.govLevel → anyPortOn s = true → t.aon.govLevel = s.aon.govLevel ∧ t.aon.govNext = some w ∧
      t.aon.govAt = (if s.aon.govNext = some w then s.aon.govAt else (nextStreamMs s).toNat)) ∧
    (w ≠ s.aon.govLevel → anyPortOn s = false → t.aon.govLevel = w ∧ t.aon.govNext = none ∧ t.aon.coolMs = 0 ∧
      (s.aon.govLevel < w → counted (if w = 1 then cPmuGovL1Entries else cPmuGovL2Entries) s t)) := by
  have frame := only_sampleGauged tj vbat vin current s
  have spt : (sampleGauged tj vbat vin current s).spt = s.spt := frame.kept .spt (by decide)
  have boot : (sampleGauged tj vbat vin current s).boot = s.boot := frame.kept .boot (by decide)
  have sky : (sampleGauged tj vbat vin current s).sky = s.sky := frame.kept .sky (by decide)
  have ports : anyPortOn (sampleGauged tj vbat vin current s) = anyPortOn s := anyPortOn_congr spt boot (sampleGauged_supply tj vbat vin current s).2
  have level : (sampleGauged tj vbat vin current s).aon.govLevel = s.aon.govLevel := by rw [sampleGauged_aon]
  refine ⟨fun k => ?_, fun k hp => ?_, fun k hp => ?_⟩
  · have same := govSample_same (hw.trans (k.trans level.symm))
    rw [h.aon, same, hc]
    exact ⟨level, rfl⟩
  · have waits := govSample_waits (fun e => k (hw.symm.trans (e.trans level))) (ports.trans hp)
    have next : (sampleGauged tj vbat vin current s).aon.govNext = s.aon.govNext ∧ (sampleGauged tj vbat vin current s).aon.govAt = s.aon.govAt := by
      rw [sampleGauged_aon]
      exact ⟨rfl, rfl⟩
    rw [h.aon, waits, hw, next.1, next.2, nextStreamMs_congr spt boot sky]
    exact ⟨level, rfl, rfl⟩
  · have now := govSample_now (fun e => k (hw.symm.trans (e.trans level))) (ports.trans hp)
    rw [hw] at now
    rw [h.aon, now, setGov_aon]
    refine ⟨rfl, rfl, rfl, fun hl => ?_⟩
    obtain ⟨hf, h1, h2, h3⟩ := levelCounter_free w
    have count := counted_setGov (l := w) (s := { sampleGauged tj vbat vin current s with
      aon := { (sampleGauged tj vbat vin current s).aon with coolMs := coolAfter (sampleGauged tj vbat vin current s) } }) (by rw [level]; exact hl)
    rw [← now] at count
    exact counted_of_same count (ctrGet_sampleGauged tj vbat vin current s hf h1 h2 h3) (h.free _ hf h1 h2 h3)

end

/-! ### Freeboard (15_power R389) -/

/-- One polder's credit after a millisecond. -/
def accrue (s : State) (v : Vector Int 8) (p : Polder) : Vector Int 8 :=
  if s.pmu.accrues[p] && !isDry s p then v.set p (min (10000 * (cfgAt s pmuCfgBudget p.val : Int)) (v[p] + (cfgAt s pmuCfgBudget p.val : Int))) else v

/-- The credits after a millisecond. -/
def credited (s : State) : State :=
  { s with pmu := { s.pmu with credit := (List.finRange 8).foldl (accrue s) s.pmu.credit, creditMs := some (stMs s) } }

/-- A negative credit counts. -/
def countNegative (v : Vector Int 8) (t : State) (p : Polder) : State := bumpIf (decide (v[p] < 0)) (pPmuFbNegativeMs p) t

theorem exec_freeboardAccrual {s : State} (hr : s.mode.life = .run) (hs : s.sky.run = true) (hm : s.pmu.creditMs ≠ some (stMs s)) :
    exec .freeboardAccrual s = .next ((List.finRange 8).foldl (countNegative (credited s).pmu.credit) (credited s)) := by
  show execFreeboardAccrual s = _
  exact if_neg (by simp [hr, hs, hm])

theorem accrue_other (s : State) (v : Vector Int 8) {p q : Polder} (h : p ≠ q) : (accrue s v p)[q] = v[q] := by
  unfold accrue
  split
  · exact Vector.getElem_set_ne p.isLt q.isLt fun e => h (Fin.ext e)
  · rfl

/-- Each polder's credit takes its own budget once. -/
theorem credited_credit (s : State) (p : Polder) : (credited s).pmu.credit[p] = if s.pmu.accrues[p] = true ∧ isDry s p = false then
    min (10000 * (cfgAt s pmuCfgBudget p.val : Int)) (s.pmu.credit[p] + cfgAt s pmuCfgBudget p.val) else s.pmu.credit[p] := by
  obtain ⟨v, hv, ht⟩ := foldl_keeps_around (f := accrue s) (fun v : Vector Int 8 => v[p]) (fun v _ h => accrue_other s v h) (List.mem_finRange p)
    (List.nodup_finRange 8) s.pmu.credit
  refine ht.trans ?_
  unfold accrue
  by_cases h : s.pmu.accrues[p] = true ∧ isDry s p = false
  · rw [if_pos h, if_pos (by simp [h.1, h.2])]
    exact (Vector.getElem_set_self p.isLt).trans (by rw [hv])
  · rw [if_neg h, if_neg (by simpa using h)]
    exact hv

theorem pPmuFbNegativeMs_inj {p q : Polder} (h : pPmuFbNegativeMs p = pPmuFbNegativeMs q) : p = q := by
  unfold pPmuFbNegativeMs polCounter at h
  exact Fin.ext (by omega)

theorem only_countNegatives (v : Vector Int 8) (s : State) : only [.obs, .ctr] s ((List.finRange 8).foldl (countNegative v) s) :=
  foldl_relates (only_refl _) only_trans (fun t _ => only_bumpIf _ _ t) _ _

theorem counted_negative {v : Vector Int 8} {p : Polder} (h : v[p] < 0) (s : State) :
    counted (pPmuFbNegativeMs p) s ((List.finRange 8).foldl (countNegative v) s) := by
  obtain ⟨u, hu, ht⟩ := foldl_keeps_around (f := countNegative v) (fun t : State => ctrGet t (pPmuFbNegativeMs p))
    (fun t q hq => ctrGet_bumpIf_free (reportFree_pol p 81) (fun e => hq (pPmuFbNegativeMs_inj e).symm) _ t) (List.mem_finRange p) (List.nodup_finRange 8) s
  have one : countNegative v u p = bump (pPmuFbNegativeMs p) u := by
    unfold countNegative bumpIf
    rw [if_pos (decide_eq_true h)]
  rw [one] at ht
  exact counted_of_same (counted_bump _ u) hu ht

end Sys2Proof.Machine
end

section
/-!
SUPPORT. The clauses of O58 that take more than the equation of their command: the sample, the gauge, freeboard, the locks and losses of PLLs, the window of
EXT_10M and the restart of the disciplined outputs.
-/

namespace Sys2Proof.Machine

section
variable {tj : Int} {vbat vin : Nat} {current : Int} {s t : State}

/-- The mode state after a sample above VOFF: rank 3 follows VCUT and VRES (01_architecture R18, R19). -/
theorem sampleDone_mode (hr : s.mode.life = .run) (hf : s.mode.fallback = false)
    (hv : (cfg s bootModesVoff : Rat) ≤ vbatMean (sampleGoverned tj vbat vin current s)) :
    let v := vbatMean (sampleGoverned tj vbat vin current s)
    let m := (sampleDone (sampleGoverned tj vbat vin current s)).mode
    (s.mode.rank3 = true → v < cfg s bootModesVres → m = s.mode) ∧ (s.mode.rank3 = true → (cfg s bootModesVres : Rat) ≤ v → m = rankedMode false s) ∧
    (s.mode.rank3 = false → (cfg s bootModesVcut : Rat) ≤ v → m = s.mode) ∧ (s.mode.rank3 = false → v < cfg s bootModesVcut → m = rankedMode true s) := by
  intro v m
  have frame := only_sampleGoverned tj vbat vin current s
  have mode : (sampleGoverned tj vbat vin current s).mode = s.mode := frame.kept .mode (by decide)
  have boot : (sampleGoverned tj vbat vin current s).boot = s.boot := frame.kept .boot (by decide)
  have ranked : ∀ b, rankedMode b (sampleGoverned tj vbat vin current s) = rankedMode b s := fun b =>
    rankedMode_congr b mode (frame.kept .rfc (by decide)) (frame.kept .sky (by decide)) boot
  have done : m = (cutRanks (sampleGoverned tj vbat vin current s)).mode := by
    rw [← voltageRanks_run (by rw [mode]; exact hr) (by rw [cfg_congr boot]; exact hv) (by rw [mode]; exact hf)]
    exact (sampleDone_side _).frame.kept .mode (by decide)
  have cut := cutRanks_mode (sampleGoverned tj vbat vin current s)
  rw [ranked, ranked, cfg_congr boot, mode, ← done] at cut
  exact cut

/-- A sample below VOFF in operation (01_architecture R18 rank 2). -/
theorem pmuSample_off (h : s.aon.rails = true) (hr : s.mode.life = .run)
    (hv : meanOf (((vbat :: s.aon.vbat).take 1000).map Int.ofNat) 1000 < cfg s bootModesVoff) :
    completes (.pmuSample tj vbat vin current) s (fun t => t.mode.life = .off ∧ t.ctr = [] ∧ t.trk = {}) := by
  have frame := only_sampleGoverned tj vbat vin current s
  have mode : (sampleGoverned tj vbat vin current s).mode = s.mode := frame.kept .mode (by decide)
  have boot : (sampleGoverned tj vbat vin current s).boot = s.boot := frame.kept .boot (by decide)
  refine ⟨_, exec_pmuSample tj vbat vin current h, ?_⟩
  rw [sampleDone_off (by rw [mode]; exact hr) (by rw [vbatMean_sampleGoverned, cfg_congr boot]; exact hv)]
  exact ⟨rfl, rfl, rfl⟩

/-- The tail of a sample that does not end in Off. -/
theorem sampleDone_ran (h : s.mode.life ≠ .run ∨ (cfg s bootModesVoff : Rat) ≤ vbatMean (sampleGoverned tj vbat vin current s)) :
    SampleTail (govSample (sampleGauged tj vbat vin current s)) (sampleDone (sampleGoverned tj vbat vin current s)) := by
  have frame := only_sampleGoverned tj vbat vin current s
  have mode : (sampleGoverned tj vbat vin current s).mode = s.mode := frame.kept .mode (by decide)
  have boot : (sampleGoverned tj vbat vin current s).boot = s.boot := frame.kept .boot (by decide)
  exact (SampleTail.of_gauge (sampleGoverned_side tj vbat vin current s)).trans (sampleDone_tail (by rw [mode, cfg_congr boot]; exact h))

/-- The life and the count of bad supply after such a sample. -/
theorem sampled_supply (h : SampleTail (govSample (sampleGauged tj vbat vin current s)) t) :
    t.pmu.vinBadMs = (if 300 ≤ vin ∧ vin ≤ 550 then 0 else s.pmu.vinBadMs + 1) ∧ t.mode.life = s.mode.life := by
  have mode : (govSample (sampleGauged tj vbat vin current s)).mode = s.mode :=
    (only_trans (only_sampleGauged tj vbat vin current s) (only_govSample _)).kept .mode (by decide)
  exact ⟨(h.supply.1.trans (govSample_supply _)).trans (sampleGauged_supply tj vbat vin current s).1, h.life.trans (congrArg _ mode)⟩

end

/-! ### The governor, the gauge and freeboard -/

/-- The governor's level at its boundary (15_power R384). -/
theorem governorLevelChange_takes {s : State} {l : Nat} (h : s.aon.govNext = some l) (ht : s.aon.govAt ≤ s.sky.tick) : completes .governorLevelChange s (fun t =>
    t.aon = { s.aon with govLevel := l, govNext := none, coolMs := 0 } ∧
      (s.aon.govLevel < l → counted (levelCounter l) s t) ∧ (s.mode.life = .run → t.pmu.statusTick = some s.sky.tick)) :=
  ⟨_, exec_governorLevelChange_due h ht, setGov_aon l s, counted_setGov, setGov_statusTick⟩

/-- The anchor of a gauge at rest (15_power R387). -/
theorem gaugeAnchor_anchors {s : State} {v : Nat} {r : List Nat} (hv : s.aon.vbat = v :: r) (hb : blockOf s 8 0x1511 ≠ none)
    (hr : 60000 * cfg s pmuGaugeRestMin ≤ s.aon.restMs) : completes .gaugeAnchor s (fun t =>
      t.aon = { s.aon with
        count := (ocvPercent s v / 100 * cfg s pmuGaugeCapacity * 36000000).floor
        anchored := true
        disagree := false
        restMs := 0 } ∧ counted cPmuAnchors s t) := by
  refine ⟨_, exec_gaugeAnchor_rested hv hb hr, ?_⟩
  have count := counted_bump cPmuAnchors { s with aon := { s.aon with
    count := (ocvPercent s v / 100 * cfg s pmuGaugeCapacity * 36000000).floor, anchored := true, disagree := false, restMs := 0 } }
  dsimp only
  split
  · exact ⟨bump_aon _ _, count⟩
  · refine ⟨((PowerSide.of_notePmu _).frame.kept .aon (by decide)).trans (bump_aon _ _), ?_⟩
    exact counted_of_same count rfl ((PowerSide.of_notePmu _).free _ (by unfold reportFree; decide) (by decide) (by decide) (by decide))

/-- A millisecond's budget for every polder that accrues (15_power R389). -/
theorem freeboardAccrual_credits {s : State} (hr : s.mode.life = .run) (hs : s.sky.run = true) (hm : s.pmu.creditMs ≠ some (stMs s)) :
    completes .freeboardAccrual s (fun t => t.pmu = (credited s).pmu ∧ ∀ p : Polder, t.pmu.credit[p] < 0 → counted (pPmuFbNegativeMs p) s t) := by
  have pmu := (only_countNegatives (credited s).pmu.credit (credited s)).kept .pmu (by decide)
  refine ⟨_, exec_freeboardAccrual hr hs hm, pmu, fun p hp => ?_⟩
  have neg : (credited s).pmu.credit[p] < 0 := by rwa [← show _ = (credited s).pmu from pmu]
  exact counted_of_same (counted_negative neg (credited s)) rfl rfl

/-! ### The PLLs -/

/-- A PLL's lock (16_clocks R401, R402, R410). -/
theorem pllLock_declares {s : State} {l : Pll} (hs : s.clk.started = true) (hf : s.mode.fallback = false) (hd : domOn s .clk = true) (hl : locked s l = false) :
    completes (.pllLock l) s (fun t =>
      (∀ k, locked t k = (locked s k || decide (k = l))) ∧ t.sky = { s.sky with run := s.sky.run || decide (l = .b) } ∧
      (s.clk.relocking = true → relockDone t = true → t.clk.relocking = false ∧ t.clk.refChange = false) ∧
      (s.clk.relocking = true → relockDone t = false → t.clk.relocking = true) ∧
      (l = .a → s.mode.life = .run → ∀ n : Fin 4, t.clk.ckoRun[n] = ckoWanted s n) ∧
      (l = .a → s.mode.life = .run → s.clk.relocking = false → anyPortOn s = true → t.clk.trigAt = some s.sky.tick)) := by
  obtain ⟨lock, runs, sky⟩ := pllLocked_clk l s
  have told := only_clkRefresh (pllLocked l s)
  have done : relockDone (clkRefresh (pllLocked l s)) = relockDone (pllLocked l s) :=
    relockDone_congr (by rw [clkRefresh_clk]) (told.kept .pmu (by decide)) (told.kept .mode (by decide))
  refine ⟨_, exec_pllLock hs hf hd hl, fun k => ?_, ?_, fun h => ?_, fun h => ?_, ?_, ?_⟩
  · rw [locked_clkRefresh, locked_congr lock, locked_setLock]
    by_cases hk : k = l <;> simp [hk]
  · exact (told.kept .sky (by decide)).trans (sky.trans (lockTaken_sky l s))
  · rw [done, clkRefresh_clk]
    exact (pllLocked_relock h).1
  · rw [done, clkRefresh_clk]
    exact (pllLocked_relock h).2
  · rintro rfl hr n
    rw [clkRefresh_clk, ← lockTaken_cko hr hf hd n, ← runs]
  · rintro rfl hr hn hp
    rw [clkRefresh_clk]
    exact pllLocked_trig hr hn hp

/-- PLLA's loss in service stops the outputs and takes sync from the ports (16_clocks R410 code 4). -/
theorem pllaLoss_stops {s : State} (hl : locked s .a = true) (hc : clkService s = true) : completes (.pllLoss .a) s (fun t =>
    locked t .a = false ∧ counted cClkPllaLosses s t ∧ t.clk.ckoRun = Vector.ofFn (fun _ => false) ∧ t.clk.trigAt = none ∧
      ∀ p : Port, portOn s p = true → s.spt.port[p].synced = true → s.spt.port[p].lost = false → t.spt.port[p].lost = true ∧ counted (cSptSyncLoss p) s t) := by
  obtain ⟨lock, runs, trig⟩ := pllaLoss_clk s
  have exec_a : exec (.pllLoss .a) s = .next (pllaLoss s) := exec_pllLoss_service hl hc
  exact ⟨_, exec_a, lock, counted_pllaLoss s, runs, trig, fun p ho hs hq => pllaLoss_ports ho hs hq⟩

/-- PLLD's loss stops the disciplined outputs (16_clocks R410 code 5). -/
theorem plldLoss_stops (s : State) : locked (pllLost .d s) .d = false ∧ (pllLost .d s).clk.ckdRun = Vector.replicate 2 false ∧
    (pllLost .d s).sky = s.sky ∧ (pllLost .d s).spt = s.spt := by
  have told := only_clkRefresh (ckdStop (setLock .d false s))
  refine ⟨?_, ?_, told.kept .sky (by decide), told.kept .spt (by decide)⟩
  · show locked (clkRefresh _) .d = false
    have lock : (ckdStop (setLock .d false s)).clk.lock = (setLock .d false s).clk.lock := rfl
    rw [locked_clkRefresh, locked_congr lock, locked_setLock, if_pos rfl]
  · show (clkRefresh _).clk.ckdRun = _
    rw [clkRefresh_clk]
    rfl

/-! ### The reference and the disciplined outputs -/

/-- A window of EXT_10M (16_clocks R398). -/
theorem ext10mWindow_judges {s : State} (n : Nat) (hl : locked s .b = true) (hd : domOn s .clk = true) (hf : s.mode.fallback = false)
    (ht : s.clk.extAt + 4915200 ≤ s.sky.tick) : completes (.ext10mWindow n) s (fun t =>
      t.clk.extAt = s.sky.tick ∧ t.clk.extGood = (if 99998 ≤ n ∧ n ≤ 100002 then min 100 (s.clk.extGood + 1) else 0) ∧ t.clk.extPresent = decide (t.clk.extGood = 100) ∧
        (s.clk.extPresent = true → n < 99998 ∨ 100002 < n → counted cClkExt10mLosses s t)) := by
  have clk : (bumpIf (s.clk.extPresent && !goodWindow n) cClkExt10mLosses (extWindow n s)).clk = (extWindow n s).clk :=
    (only_bumpIf _ _ _).kept .clk (by decide)
  refine ⟨_, exec_ext10mWindow n hl hd hf ht, ?_⟩
  dsimp only
  rw [clkRefresh_clk, clk]
  refine ⟨rfl, ?_, rfl, fun hp hn => ?_⟩
  · simp [extWindow, goodWindow]
  · have bad : (s.clk.extPresent && !goodWindow n) = true := by
      simp only [hp, goodWindow, Bool.true_and, Bool.not_eq_true', Bool.and_eq_false_iff, decide_eq_false_iff_not]
      omega
    rw [bad]
    exact counted_of_same (counted_bump cClkExt10mLosses (extWindow n s)) rfl (ctrGet_clkRefresh (by unfold reportFree; decide) _)

/-- The restart of the disciplined outputs (16_clocks R405). -/
theorem ckdRestart_runs {s : State} (hm : ckdMay s = true) (hr : ∀ a, s.clk.ckdRelock = some a → ((a + 983040 : Nat) : Int) ≤ tickOf s (stSec s))
    (hf : (s.clk.ckdFrom : Int) ≤ tickOf s (stSec s)) (hn : s.clk.ckdRun ≠ ckdWanted s) : completes .ckdRestart s (fun t =>
      t.clk.ckdRun = ckdWanted s ∧ t.clk.ckdRelock = none ∧ counted cClkCkdRestarts s t ∧ recorded 1 0x1001 (leBytes 8 (clkStatus t)) s t) := by
  have count := only_bump cClkCkdRestarts { s with clk := { s.clk with ckdRun := ckdWanted s, ckdRelock := none } }
  have told := only_clkEmit (ckdRestarted s)
  have clk : (ckdRestarted s).clk = { s.clk with ckdRun := ckdWanted s, ckdRelock := none } := count.kept .clk (by decide)
  have status : clkStatus (clkEmit (ckdRestarted s)) = clkStatus (ckdRestarted s) := by
    unfold clkStatus
    rw [clkEmit_clk, show _ = (ckdRestarted s).mode from told.kept .mode (by decide), show _ = (ckdRestarted s).aon from told.kept .aon (by decide)]
  refine ⟨_, exec_ckdRestart hm hr hf hn, ?_, ?_, ?_, ?_⟩
  · rw [clkEmit_clk, clk]
  · rw [clkEmit_clk, clk]
  · exact counted_of_same (counted_bump cClkCkdRestarts { s with clk := { s.clk with ckdRun := ckdWanted s, ckdRelock := none } }) rfl
      (ctrGet_clkEmit (j := cClkCkdRestarts) (by unfold reportFree; decide) (ckdRestarted s))
  · rw [status]
    exact recorded_recB (count.kept .boot (by decide)) (count.kept .sky (by decide)) (congrArg HostState.outB (count.kept .hst (by decide)))

/-- A change of the reference that does not lock in time goes back to REFIN (16_clocks R397). -/
theorem relockTimeout_returns {s : State} (hr : s.clk.relocking = true) (ht : s.clk.relockTick + 9830400 ≤ s.sky.tick) (hc : s.clk.refChange = true) :
    completes .relockTimeout s (fun t => t.clk.refExt = false ∧ t.clk.refChange = false ∧ t.clk.relocking = true ∧ t.clk.relockTick = s.sky.tick ∧
      (∀ l, locked t l = false) ∧ t.clk.ckdRun = Vector.replicate 2 false ∧ counted cClkRefSwitchFail s t) := by
  have sky : (bump cClkRefSwitchFail s).sky = s.sky := (only_bump _ s).kept .sky (by decide)
  refine ⟨_, exec_relockTimeout_change hr ht hc, ?_⟩
  dsimp only
  refine ⟨?_, ?_, ?_, ?_, fun l => ?_, ?_, counted_of_same (counted_bump _ s) rfl (ctrGet_clkRefresh (by unfold reportFree; decide) _)⟩
  · rw [clkRefresh_clk]
  · rw [clkRefresh_clk]
  · rw [clkRefresh_clk]; rfl
  · rw [clkRefresh_clk]; exact congrArg SkyState.tick sky
  · rw [locked_clkRefresh]
    exact Vector.getElem_replicate ..
  · rw [clkRefresh_clk]; rfl

/-- Settles O58: clause by clause, from the equation of each command and what its parts keep. -/
theorem governorGaugeAndClocks : Obligations.GovernorGaugeAndClocks := by
  intro s ranked
  refine ⟨fun tj vbat vin current hrails => ?_, fun l h ht => ⟨_, exec_governorLevelChange_early h ht, rfl⟩, fun l h ht => governorLevelChange_takes h ht,
    fun v r hv hb hr => gaugeAnchor_anchors hv hb hr, fun hr hs hm => ?_, fun l hs hf hd hl => pllLock_declares hs hf hd hl,
    fun l hl => ⟨fun hc => ⟨_, exec_pllLoss_early hl hc, rfl⟩, fun hc => ⟨?_, ?_, ?_⟩⟩, fun hc hf => ?_, fun h => ?_,
    fun n hl hd hf ht => ext10mWindow_judges n hl hd hf ht, fun hm hr hf hn => ckdRestart_runs hm hr hf hn,
    fun hr ht => ⟨fun hc => relockTimeout_returns hr ht hc, fun hc => ⟨_, exec_relockTimeout_fault hr ht hc, clockFault_restarts 3 s⟩⟩⟩
  · intro v
    have mean : v = vbatMean (sampleGoverned tj vbat vin current s) := by
      rw [vbatMean_sampleGoverned]
      simp [v, meanOf]
    clear_value v
    subst mean
    refine ⟨fun hr hv => ?_, fun h => ?_⟩
    · rw [vbatMean_sampleGoverned] at hv
      exact pmuSample_off hrails hr hv
    · have tail := sampleDone_ran h
      obtain ⟨hc, hw⟩ := sampled_called tail
      obtain ⟨supply, life⟩ := sampled_supply tail
      obtain ⟨same, waits, now⟩ := sampled_governor tail hc hw
      have aon := sampled_aon tail
      refine ⟨_, exec_pmuSample tj vbat vin current hrails, by rw [aon], by rw [aon], by rw [aon], by rw [aon], by rw [aon], by rw [aon], supply, life,
        same, waits, now, fun hr hf => ?_⟩
      exact sampleDone_mode hr hf (h.resolve_left (by simp [hr]))
  · obtain ⟨t, he, pmu, neg⟩ := freeboardAccrual_credits hr hs hm
    refine ⟨t, he, by rw [pmu]; rfl, by rw [pmu]; rfl, fun p => ⟨?_, neg p⟩⟩
    rw [pmu]
    exact credited_credit s p
  · rintro rfl
    exact pllaLoss_stops hl hc
  · rintro (rfl | rfl)
    · exact ⟨_, exec_pllLoss_service hl hc, clockFault_restarts 2 s⟩
    · exact ⟨_, exec_pllLoss_service hl hc, clockFault_restarts 2 s⟩
  · rintro rfl
    exact ⟨_, exec_pllLoss_service hl hc, plldLoss_stops s⟩
  · refine ⟨_, exec_referenceLoss s, ?_⟩
    rw [if_pos ⟨hc, hf⟩]
    exact clockFault_restarts 1 s
  · refine ⟨_, exec_referenceLoss s, if_neg ?_⟩
    rintro ⟨hc, hf⟩
    simp [hc, hf] at h

end Sys2Proof.Machine
end

section
/-!
SUPPORT. The frame calculus: what it is for an operation to write some parts of the state only, and the rules by which a claim about what differs goes back
through a chain of operations, one at a time, to the state the chain began in.
-/

namespace Sys2Proof.Machine

/-- What a polder's program can reach: its own state and, through its windows, the subsystems behind them (12_polders R306, 13_ohmore_model R334). -/
abbrev windowParts : List Part := [.snf, .sky, .lnk, .pmu, .hst, .obs, .pld, .ctr]

/-- What a reset of the device clears (15_power R372). -/
abbrev deviceParts : List Part :=
  [.spt, .ary, .acq, .trk, .msr, .sol, .snf, .sky, .lnk, .rfc, .aon, .pmu, .clk, .boot, .mode, .hst, .obs, .pld, .basin, .ctr]

/-- `t` differs from `s` within the parts `l` only. -/
def Within (l : List Part) (s t : State) : Prop := only l s t

/-- A command answers a next state, which differs within the parts `l` only. -/
def Runs (l : List Part) (s : State) (r : Result) : Prop := ∃ t, r = .next t ∧ Within l s t

/-- Both branches of a choice. -/
def Branch (c P Q : Prop) : Prop := (c → P) ∧ (¬ c → Q)

/-- An operation writes the parts `L` only: where these may differ, a claim about the state after it is one about the state before it. -/
abbrev Touches (L : List Part) (f : State → State) : Prop := ∀ {l : List Part}, L ⊆ l → ∀ {s u : State}, Within l s (f u) ↔ Within l s u

section
variable {l : List Part} {s t u : State} {c P Q P' Q' : Prop}

/-! The simplifier leaves the states of such a claim alone: nothing but the rules below rewrites it, each taking the outermost operation away. -/

@[congr] theorem within_congr : Within l s u = Within l s u := rfl
@[congr] theorem runs_congr {r : Result} : Runs l s r = Runs l s r := rfl

/-- Nor does it look at what decides a choice. -/
@[congr] theorem branch_congr (hp : P = P') (hq : Q = Q') : Branch c P Q = Branch c P' Q' := by rw [hp, hq]

@[simp] theorem branch_true : Branch c True True := ⟨fun _ => trivial, fun _ => trivial⟩

@[simp] theorem within_refl : Within l s s := only_refl l s

theorem Within.trans (h : Within l s t) (k : Within l t u) : Within l s u := only_trans h k

theorem Part.same_symm {x : Part} (h : x.same s t) : x.same t s := by cases x <;> exact Eq.symm h

theorem Within.symm (h : Within l s t) : Within l t s := fun x => (h x).imp_right Part.same_symm

theorem within_step (h : Within l t u) : Within l s u ↔ Within l s t := ⟨fun k => k.trans h.symm, fun k => k.trans h⟩

theorem Touches.of {L : List Part} {f : State → State} (hf : ∀ u, Within L u (f u)) : Touches L f := fun h _ u =>
  within_step (only_mono (hf u) h)

theorem Touches.mono {L M : List Part} {f : State → State} (hf : Touches L f) (h : L ⊆ M) : Touches M f := fun hm => hf (List.Subset.trans h hm)

theorem Touches.only {L : List Part} {f : State → State} (hf : Touches L f) (s : State) : Machine.only L s (f s) := (hf (List.Subset.refl L)).2 within_refl

@[simp] theorem within_ite [Decidable c] : Within l s (if c then t else u) ↔ Branch c (Within l s t) (Within l s u) := by
  unfold Branch; split <;> simp [*]

@[simp] theorem runs_ite [Decidable c] {r q : Result} : Runs l s (if c then r else q) ↔ Branch c (Runs l s r) (Runs l s q) := by
  unfold Branch; split <;> simp [*]

@[simp] theorem runs_next : Runs l s (.next t) ↔ Within l s t := by
  constructor
  · rintro ⟨v, hv, h⟩
    cases hv
    exact h
  · exact fun h => ⟨t, rfl, h⟩

@[simp] theorem within_foldl {α : Type} {f : State → α → State} (hf : ∀ t a, Within l t (f t a)) (xs : List α) : Within l s (xs.foldl f u) ↔ Within l s u :=
  within_step (foldl_relates (fun _ => within_refl) .trans hf xs u)

@[simp] theorem within_repeat {f : State → State} (hf : ∀ t, Within l t (f t)) (n : Nat) : Within l s (n.repeat f u) ↔ Within l s u := by
  induction n with
  | zero => exact Iff.rfl
  | succ n ih => exact (within_step (hf _)).trans ih

/-- A state written out is the last state but for the parts that differ. -/
@[simp] theorem within_mk {spt ary acq trk msr sol snf sky lnk rfc aon pmu clk boot mode hst obs pld basin ctr fresh}
    (h : (.spt ∈ l ∨ spt = u.spt) ∧ (.ary ∈ l ∨ ary = u.ary) ∧ (.acq ∈ l ∨ acq = u.acq) ∧ (.trk ∈ l ∨ trk = u.trk) ∧ (.msr ∈ l ∨ msr = u.msr) ∧
     (.sol ∈ l ∨ sol = u.sol) ∧ (.snf ∈ l ∨ snf = u.snf) ∧ (.sky ∈ l ∨ sky = u.sky) ∧ (.lnk ∈ l ∨ lnk = u.lnk) ∧ (.rfc ∈ l ∨ rfc = u.rfc) ∧
     (.aon ∈ l ∨ aon = u.aon) ∧ (.pmu ∈ l ∨ pmu = u.pmu) ∧ (.clk ∈ l ∨ clk = u.clk) ∧ (.boot ∈ l ∨ boot = u.boot) ∧ (.mode ∈ l ∨ mode = u.mode) ∧
     (.hst ∈ l ∨ hst = u.hst) ∧ (.obs ∈ l ∨ obs = u.obs) ∧ (.pld ∈ l ∨ pld = u.pld) ∧ (.basin ∈ l ∨ basin = u.basin) ∧ (.ctr ∈ l ∨ ctr = u.ctr) ∧
     (.fresh ∈ l ∨ fresh = u.fresh)) :
    Within l s ⟨spt, ary, acq, trk, msr, sol, snf, sky, lnk, rfc, aon, pmu, clk, boot, mode, hst, obs, pld, basin, ctr, fresh, u.pending⟩ ↔ Within l s u :=
  within_step fun x => by cases x <;> simp_all [Part.same]
end

end Sys2Proof.Machine
end

section
/-!
SUPPORT. Frames of the shared operations, the pads and the basin's structures: the parts that each operation and each command writes.
-/

namespace Sys2Proof.Machine

variable {l : List Part} {s t u : State}

@[simp] theorem touches_setDom (d x) : Touches [.pmu] (setDom d x) := Touches.of fun u => by unfold setDom; simp
@[simp] theorem touches_ctrAdd (i n) : Touches [.ctr] (ctrAdd i n) := Touches.of fun u => by unfold ctrAdd; simp
@[simp] theorem touches_obsClose (src type payload) : Touches [.obs, .ctr] (obsClose src type payload) := Touches.of fun u => by unfold obsClose; simp
@[simp] theorem touches_bump (i) : Touches [.obs, .ctr] (bump i) := Touches.of fun u => by unfold bump; simp
@[simp] theorem touches_bumpIf (c i) : Touches [.obs, .ctr] (bumpIf c i) := Touches.of fun u => by unfold bumpIf; simp
@[simp] theorem touches_takeFree : Touches [.fresh] (fun s => (takeFree s).2) := Touches.of fun u => by unfold takeFree; simp
@[simp] theorem touches_takeRandom (n) : Touches [.fresh] (fun s => (takeRandom n s).2) := Touches.of fun u => by unfold takeRandom; simp
@[simp] theorem touches_recB (cls kind content) : Touches [.hst, .obs, .ctr] (recB cls kind content) := Touches.of fun u => by unfold recB; simp
@[simp] theorem touches_modP (p f) : Touches [.pld] (modP p f) := Touches.of fun u => by unfold modP; simp
@[simp] theorem touches_modCore (p f) : Touches [.pld] (modCore p f) := Touches.of fun u => by unfold modCore; simp
@[simp] theorem touches_modH (p f) : Touches [.hst] (modH p f) := Touches.of fun u => by unfold modH; simp

@[simp] theorem touches_recP (p cls src content) : Touches [.hst, .ctr] (fun s => (recP p cls src content s).2) :=
  Touches.of fun u => by unfold recP; split <;> simp

@[simp] theorem touches_raisePend (p v) : Touches [.pld] (raisePend p v) := Touches.of fun u => by unfold raisePend; simp
@[simp] theorem touches_basinPut (base bytes) : Touches [.basin] (basinPut base bytes) := Touches.of fun u => by unfold basinPut; simp
@[simp] theorem touches_setLock (l v) : Touches [.clk] (setLock l v) := Touches.of fun u => by unfold setLock; simp
@[simp] theorem touches_ckoUpdate : Touches [.clk] ckoUpdate := Touches.of fun u => by unfold ckoUpdate; simp
@[simp] theorem touches_publishMode : Touches [.basin] publishMode := Touches.of fun u => by unfold publishMode; simp
@[simp] theorem touches_publishSky : Touches [.basin] publishSky := Touches.of fun u => by unfold publishSky; simp
@[simp] theorem touches_offerSeed (value unc) : Touches [.sky, .obs, .basin, .ctr] (offerSeed value unc) := Touches.of fun u => by unfold offerSeed; simp
@[simp] theorem touches_recSky (kind) : Touches [.hst, .obs, .basin, .ctr] (recSky kind) := Touches.of fun u => by unfold recSky; simp
@[simp] theorem touches_clkEmit : Touches [.clk, .hst, .obs, .ctr] clkEmit := Touches.of fun u => by unfold clkEmit; simp
@[simp] theorem touches_clkRefresh : Touches [.clk, .hst, .obs, .ctr] clkRefresh := Touches.of fun u => by unfold clkRefresh; split <;> simp
@[simp] theorem touches_recPmu : Touches [.pmu, .hst, .obs, .ctr] recPmu := Touches.of fun u => by unfold recPmu; simp
@[simp] theorem touches_ckdStop : Touches [.clk] ckdStop := Touches.of fun u => by unfold ckdStop; simp
@[simp] theorem touches_ckdCheck : Touches [.clk, .hst, .obs, .ctr] ckdCheck := Touches.of fun u => by unfold ckdCheck; simp
@[simp] theorem touches_ckdAnchor (factor) : Touches [.clk, .obs, .ctr] (ckdAnchor factor) := Touches.of fun u => by unfold ckdAnchor; simp
@[simp] theorem touches_ckdStepStop : Touches [.clk] ckdStepStop := Touches.of fun u => by unfold ckdStepStop; simp

end Sys2Proof.Machine
end

section
/-!
SUPPORT. Frames of the sample ports and the windows of a program (02_sample_ports, 12_polders): the parts that each operation and each command writes.
-/

namespace Sys2Proof.Machine

variable {l : List Part} {s t u : State}

@[simp] theorem touches_modPort (p f) : Touches [.spt] (modPort p f) := Touches.of fun u => by unfold modPort; simp
@[simp] theorem touches_modLane (p l f) : Touches [.spt] (modLane p l f) := Touches.of fun u => by unfold modLane; simp
@[simp] theorem touches_calInit (p) : Touches [.ary] (calInit p) := Touches.of fun u => by unfold calInit; simp
@[simp] theorem touches_sptRefresh (p) : Touches [.hst, .obs, .basin, .ctr] (sptRefresh p) := Touches.of fun u => by unfold sptRefresh; simp
@[simp] theorem touches_anchorPort (p stamp) : Touches [.spt, .ary] (anchorPort p stamp) := Touches.of fun u => by unfold anchorPort; simp
@[simp] theorem touches_triggerPorts : Touches [.spt, .ary, .hst, .obs, .basin, .ctr] triggerPorts := Touches.of fun u => by unfold triggerPorts; simp
@[simp] theorem touches_takeTriggers : Touches [.spt, .clk] takeTriggers := Touches.of fun u => by unfold takeTriggers; simp

@[simp] theorem touches_stampBlock (p) : Touches [.spt, .ary, .obs, .ctr] (stampBlock p) :=
  Touches.of fun u => by unfold stampBlock; dsimp only; (repeat' split) <;> simp

@[simp] theorem touches_markerEffect (p l type data) : Touches [.spt, .ary, .obs, .ctr] (markerEffect p l type data) :=
  Touches.of fun u => by unfold markerEffect; dsimp only; (repeat' split) <;> simp

@[simp] theorem touches_marker (p l type data tick) : Touches [.spt, .ary, .hst, .obs, .ctr] (marker p l type data tick) :=
  Touches.of fun u => by unfold marker; simp

@[simp] theorem touches_laneWord (p w n) : Touches [.spt, .ary, .hst, .obs, .ctr] (laneWord p w n) := Touches.of fun u => by
  unfold laneWord
  dsimp only
  split
  · simp
  · split
    · split <;> simp
    · simp

@[simp] theorem touches_combineBands (p inst) : Touches [.ary] (combineBands p inst) := Touches.of fun u => by unfold combineBands; simp
@[simp] theorem touches_beginSequence (p) : Touches [.spt, .obs, .ctr] (beginSequence p) := Touches.of fun u => by unfold beginSequence; simp
@[simp] theorem touches_loseSync (p) : Touches [.spt, .hst, .obs, .basin, .ctr] (loseSync p) := Touches.of fun u => by unfold loseSync; simp
@[simp] theorem touches_spiSend (p words) : Touches [.spt] (spiSend p words) := Touches.of fun u => by unfold spiSend; simp
@[simp] theorem touches_askStep (p l i) : Touches [.spt] (askStep p l i) := Touches.of fun u => by unfold askStep; simp
@[simp] theorem touches_agcStep (p l) : Touches [.spt] (agcStep p l) := Touches.of fun u => by unfold agcStep; simp
@[simp] theorem touches_beginEpisode (p l) : Touches [.spt, .hst, .obs, .ctr] (beginEpisode p l) := Touches.of fun u => by unfold beginEpisode; simp
@[simp] theorem touches_landStep (p first l) : Touches [.spt, .obs, .ctr] (landStep p first l) := Touches.of fun u => by unfold landStep; split <;> simp

@[simp] theorem touches_sendSteps (p first ls) : Touches [.spt, .hst, .obs, .basin, .ctr] (sendSteps p first ls) :=
  Touches.of fun u => by unfold sendSteps; simp

@[simp] theorem touches_blankLast (p l) : Touches [.spt] (blankLast p l) := Touches.of fun u => by unfold blankLast; simp
@[simp] theorem touches_refreshViews : Touches [.sol] refreshViews := Touches.of fun u => by unfold refreshViews; split <;> simp
@[simp] theorem touches_winPut (p a bytes) : Touches [.pld] (winPut p a bytes) := Touches.of fun u => by unfold winPut; simp
@[simp] theorem touches_winStore (p a v) : Touches [.pld] (winStore p a v) := Touches.of fun u => by unfold winStore; simp

/-! ### The commands -/

theorem runs_execSamplePortTrigger (s) : Runs [.spt, .ary, .clk, .hst, .obs, .basin, .ctr] s (execSamplePortTrigger s) := by unfold execSamplePortTrigger; simp

theorem runs_execFrameWord (p fsOk w0 w1 w2 w3 s) : Runs [.spt, .ary, .hst, .obs, .basin, .ctr] s (execFrameWord p fsOk w0 w1 w2 w3 s) := by
  unfold execFrameWord
  simp

theorem runs_execSyncLost (p s) : Runs [.spt, .hst, .obs, .basin, .ctr] s (execSyncLost p s) := by unfold execSyncLost; simp
theorem runs_execSyncRegain (p s) : Runs [.spt, .ary, .hst, .obs, .basin, .ctr] s (execSyncRegain p s) := by unfold execSyncRegain; simp
theorem runs_execGuardWindow (p l s) : Runs [.spt, .hst, .obs, .basin, .ctr] s (execGuardWindow p l s) := by unfold execGuardWindow; simp

theorem runs_execFeinitEntry (rx s) : Runs [.spt, .clk, .hst, .obs, .basin, .ctr] s (execFeinitEntry rx s) := by
  unfold execFeinitEntry
  dsimp only
  (repeat' split) <;> simp

theorem runs_execGainLoopMs (p l s) : Runs [.spt, .hst, .obs, .basin, .ctr] s (execGainLoopMs p l s) := by unfold execGainLoopMs; simp
theorem runs_execFixedReturnStep (p l s) : Runs [.spt, .hst, .obs, .basin, .ctr] s (execFixedReturnStep p l s) := by unfold execFixedReturnStep; simp
theorem runs_execGainStep (p s) : Runs [.spt, .hst, .obs, .basin, .ctr] s (execGainStep p s) := by unfold execGainStep; split <;> simp
theorem runs_execGainUnaligned (p s) : Runs [.spt, .hst, .obs, .basin, .ctr] s (execGainUnaligned p s) := by unfold execGainUnaligned; simp

theorem runs_execBhTxRise (s) : Runs [.spt, .obs, .ctr] s (execBhTxRise s) := by
  unfold execBhTxRise
  have blanked : ∀ t p, Within [.spt, .obs, .ctr] t ((List.finRange 4).foldl (fun t l => blankLast p l t) t) := fun t p => by simp
  dsimp only
  simp [blanked]

theorem runs_execBhTxFall (s) : Runs [.spt] s (execBhTxFall s) := by unfold execBhTxFall; simp
theorem runs_execBlankTailEnd (s) : Runs [.spt] s (execBlankTailEnd s) := by unfold execBlankTailEnd; split <;> simp

end Sys2Proof.Machine
end

section
/-!
SUPPORT. Frames of sky time, the scheduler and the decisions on modes (09_sky_time, 01_architecture): the parts that each operation and each command writes.
-/

namespace Sys2Proof.Machine

variable {l : List Part} {s t u : State}

@[simp] theorem touches_wakeHost : Touches [.pmu, .hst] wakeHost := Touches.of fun u => by unfold wakeHost; simp
@[simp] theorem touches_modSched (p f) : Touches [.sky] (modSched p f) := Touches.of fun u => by unfold modSched; simp
@[simp] theorem touches_pushCompletion (p c) : Touches [.sky, .obs, .pld, .ctr] (pushCompletion p c) := Touches.of fun u => by unfold pushCompletion; simp
@[simp] theorem touches_schedFree (p) : Touches [.sky] (schedFree p) := Touches.of fun u => by unfold schedFree; simp
@[simp] theorem touches_shiftElapsed (d) : Touches [.sol, .sky, .rfc, .mode] (shiftElapsed d) := Touches.of fun u => by unfold shiftElapsed; simp
@[simp] theorem touches_shiftLink (d) : Touches [.lnk, .rfc, .clk, .boot, .hst, .pld] (shiftLink d) := Touches.of fun u => by unfold shiftLink; simp
@[simp] theorem touches_shiftClocks (q) : Touches [.sol] (shiftClocks q) := Touches.of fun u => by unfold shiftClocks; simp

@[simp] theorem touches_shiftRefs (step seed) : Touches [.sol, .sky, .lnk, .rfc, .clk, .boot, .mode, .hst, .pld] (shiftRefs step seed) :=
  Touches.of fun u => by unfold shiftRefs; simp

@[simp] theorem touches_stepEntries : Touches [.sky, .lnk, .ctr] stepEntries := Touches.of fun u => by unfold stepEntries; simp

@[simp] theorem touches_firstAlignment : Touches [.acq, .trk, .sol, .sky, .lnk, .rfc, .clk, .boot, .mode, .hst, .obs, .pld, .basin, .ctr] firstAlignment :=
  Touches.of fun u => by unfold firstAlignment; split <;> simp

@[simp] theorem touches_permittedStep : Touches [.sol, .sky, .lnk, .rfc, .clk, .boot, .mode, .hst, .obs, .pld, .basin, .ctr] permittedStep :=
  Touches.of fun u => by unfold permittedStep; split <;> simp

@[simp] theorem touches_ordinaryUpdate : Touches [.sky, .clk, .hst, .obs, .basin, .ctr] ordinaryUpdate := Touches.of fun u => by unfold ordinaryUpdate; simp
@[simp] theorem touches_slewToward : Touches [.sky] slewToward := Touches.of fun u => by unfold slewToward; simp
@[simp] theorem touches_takeUp (x) : Touches [.sky, .hst, .obs, .basin, .ctr] (takeUp x) := Touches.of fun u => by unfold takeUp; simp
@[simp] theorem touches_takeFreeRun : Touches [.sky, .clk, .hst, .obs, .basin, .ctr] takeFreeRun := Touches.of fun u => by unfold takeFreeRun; simp
@[simp] theorem touches_abandonSwitch : Touches [.hst, .obs, .basin, .ctr] abandonSwitch := Touches.of fun u => by unfold abandonSwitch; simp
@[simp] theorem touches_switchBoundary : Touches [.sky, .clk, .hst, .obs, .basin, .ctr] switchBoundary := Touches.of fun u => by unfold switchBoundary; simp
@[simp] theorem touches_setTrusted (v) : Touches [.sky] (setTrusted v) := Touches.of fun u => by unfold setTrusted; simp
@[simp] theorem touches_modTp (n f) : Touches [.sky] (modTp n f) := Touches.of fun u => by unfold modTp; simp
@[simp] theorem touches_modEvt (n f) : Touches [.sky] (modEvt n f) := Touches.of fun u => by unfold modEvt; simp

theorem within_armEntry {p : Polder} {kind inst cls op arg st k : Nat} (he : armEntry p kind inst cls op arg st u = some (k, t)) (h : [.sky] ⊆ l) :
    Within l s t ↔ Within l s u := by
  unfold armEntry at he
  dsimp only at he
  split at he
  · cases he
  · cases he
    exact within_step (only_mono (by simp : Within [.sky] u _) h)

@[simp] theorem touches_setSchedResult (p v) : Touches [.sky] (setSchedResult p v) := Touches.of fun u => by unfold setSchedResult; simp

@[simp] theorem touches_schedArm (p) : Touches [.sky, .obs, .pld, .ctr] (schedArm p) := Touches.of fun u => by
  unfold schedArm
  dsimp only
  split
  · simp
  · split
    · simp
    · simp [within_armEntry ‹_›]

@[simp] theorem touches_schedCancel (p) : Touches [.sky] (schedCancel p) := Touches.of fun u => by unfold schedCancel; simp
@[simp] theorem touches_schedPop (p) : Touches [.sky] (schedPop p) := Touches.of fun u => by unfold schedPop; simp
@[simp] theorem touches_nowLatch (p) : Touches [.sky] (nowLatch p) := Touches.of fun u => by unfold nowLatch; simp
@[simp] theorem touches_fireWake (p) : Touches [.sky, .obs, .pld, .ctr] (fun s => fireWake s p) := Touches.of fun u => by unfold fireWake; split <;> simp
@[simp] theorem touches_deviceReset : Touches deviceParts deviceReset := Touches.of fun u => by unfold deviceReset; simp
@[simp] theorem touches_startBoot : Touches [.aon, .pmu, .clk, .mode] startBoot := Touches.of fun u => by unfold startBoot; simp
@[simp] theorem touches_clockFault (code) : Touches deviceParts (clockFault code) := Touches.of fun u => by unfold clockFault; simp
@[simp] theorem touches_goOff : Touches deviceParts goOff := Touches.of fun u => by unfold goOff; simp
@[simp] theorem touches_decideTo (m rank) : Touches [.mode] (decideTo m rank) := Touches.of fun u => by unfold decideTo; simp
@[simp] theorem touches_applyPrecedence : Touches [.mode] applyPrecedence := Touches.of fun u => by unfold applyPrecedence; split <;> simp
@[simp] theorem touches_enterMode (m rank) : Touches [.mode, .hst, .obs, .basin, .ctr] (enterMode m rank) := Touches.of fun u => by unfold enterMode; simp
@[simp] theorem touches_trackUsable (usable) : Touches [.mode] (trackUsable usable) := Touches.of fun u => by unfold trackUsable; simp
@[simp] theorem touches_charge (p uj) : Touches [.pmu] (charge p uj) := Touches.of fun u => by unfold charge; simp

/-! ### The commands -/

theorem runs_execFirstAlignment (s) :
    Runs [.acq, .trk, .sol, .sky, .lnk, .rfc, .clk, .boot, .mode, .hst, .obs, .pld, .basin, .ctr] s (execFirstAlignment s) := by
  unfold execFirstAlignment
  simp

theorem runs_execPermittedStep (s) : Runs [.sol, .sky, .lnk, .rfc, .clk, .boot, .mode, .hst, .obs, .pld, .basin, .ctr] s (execPermittedStep s) := by
  unfold execPermittedStep
  simp

theorem runs_execOrdinaryUpdate (s) : Runs [.sky, .clk, .hst, .obs, .basin, .ctr] s (execOrdinaryUpdate s) := by unfold execOrdinaryUpdate; simp
theorem runs_execSwitchBoundary (s) : Runs [.sky, .clk, .hst, .obs, .basin, .ctr] s (execSwitchBoundary s) := by unfold execSwitchBoundary; simp
theorem runs_execGnssReturn (s) : Runs [.sky, .basin] s (execGnssReturn s) := by unfold execGnssReturn; split <;> simp
theorem runs_execExtPpsEdge (bin s) : Runs [.sky] s (execExtPpsEdge bin s) := by unfold execExtPpsEdge; simp
theorem runs_execExtPpsMissing (s) : Runs [.sky, .basin] s (execExtPpsMissing s) := by unfold execExtPpsMissing; split <;> simp
theorem runs_execDriftVoteWindow (s) : Runs [.sky] s (execDriftVoteWindow s) := by unfold execDriftVoteWindow; simp
theorem runs_execDisqualification (c s) : Runs [.sky, .hst, .obs, .basin, .ctr] s (execDisqualification c s) := by unfold execDisqualification; simp
theorem runs_execUndecided (s) : Runs [.sky, .hst, .obs, .basin, .ctr] s (execUndecided s) := by unfold execUndecided; simp
theorem runs_execRequalification (c s) : Runs [.sky, .hst, .obs, .basin, .ctr] s (execRequalification c s) := by unfold execRequalification; simp
theorem runs_execTpDecision (n s) : Runs [.sky, .hst, .obs, .ctr] s (execTpDecision n s) := by unfold execTpDecision; simp
theorem runs_execTimePulseEdge (n s) : Runs [.sky, .obs, .ctr] s (execTimePulseEdge n s) := by unfold execTimePulseEdge; dsimp only; (repeat' split) <;> simp
theorem runs_execTpInactiveEdge (n s) : Runs [.sky] s (execTpInactiveEdge n s) := by unfold execTpInactiveEdge; simp

theorem runs_execEvtCapture (pin rising bin s) : Runs [.sky, .pmu, .mode, .hst, .obs, .ctr] s (execEvtCapture pin rising bin s) := by
  unfold execEvtCapture
  simp

theorem runs_execSchedulerFire (s) : Runs [.sky, .obs, .pld, .ctr] s (execSchedulerFire s) := by unfold execSchedulerFire; simp
theorem runs_execFreeboardAccrual (s) : Runs [.pmu, .obs, .ctr] s (execFreeboardAccrual s) := by unfold execFreeboardAccrual; simp

end Sys2Proof.Machine
end

section
/-!
SUPPORT. Frames of tracking, the array and acquisition (03_array, 04_acquisition, 05_tracking): the parts that each operation and each command writes.
-/

namespace Sys2Proof.Machine

variable {l : List Part} {s t u : State}

@[simp] theorem touches_chanSet (k c) : Touches [.trk] (chanSet k c) := Touches.of fun u => by unfold chanSet; simp
@[simp] theorem touches_chanMod (k f) : Touches [.trk] (chanMod k f) := Touches.of fun u => by unfold chanMod; simp
@[simp] theorem touches_enqueueTask (t) : Touches [.acq] (enqueueTask t) := Touches.of fun u => by unfold enqueueTask; simp
@[simp] theorem touches_releaseChan (k) : Touches [.trk, .obs, .ctr] (releaseChan k) := Touches.of fun u => by unfold releaseChan; dsimp only; split <;> simp
@[simp] theorem touches_loseChan (k) : Touches [.trk, .obs, .ctr] (loseChan k) := Touches.of fun u => by unfold loseChan; simp

@[simp] theorem touches_replicaStep (k old new) : Touches [.trk, .obs, .ctr] (replicaStep k old new) :=
  Touches.of fun u => by unfold replicaStep; dsimp only; (repeat' split) <;> simp

@[simp] theorem touches_completeTakeover (k) : Touches [.trk, .obs, .ctr] (completeTakeover k) :=
  Touches.of fun u => by unfold completeTakeover; dsimp only; split <;> simp

@[simp] theorem touches_toState (x k) : Touches [.trk, .obs, .ctr] (toState x k) := Touches.of fun u => by unfold toState; split <;> simp

@[simp] theorem touches_dumpTransition (k) : Touches [.trk, .obs, .ctr] (dumpTransition k) :=
  Touches.of fun u => by unfold dumpTransition; dsimp only; (repeat' split) <;> simp

@[simp] theorem touches_fullDump (k d) : Touches [.trk, .obs, .ctr] (fullDump k d) := Touches.of fun u => by unfold fullDump; simp
@[simp] theorem touches_hollowDump (k) : Touches [.trk, .obs, .ctr] (hollowDump k) := Touches.of fun u => by unfold hollowDump; simp
@[simp] theorem touches_spawnOne (c g a) : Touches [.trk, .obs, .ctr] (fun s => spawnOne c g s a) := Touches.of fun u => by unfold spawnOne; split <;> simp
@[simp] theorem touches_dropTakeover (k) : Touches [.trk] (dropTakeover k) := Touches.of fun u => by unfold dropTakeover; simp

@[simp] theorem touches_beamCheck (b at_ x) : Touches [.trk, .obs, .ctr] (fun s => beamCheck b at_ s x) :=
  Touches.of fun u => by unfold beamCheck; split <;> simp

@[simp] theorem touches_beamChecks (b at_) : Touches [.trk, .obs, .ctr] (beamChecks b at_) := Touches.of fun u => by unfold beamChecks; simp
@[simp] theorem touches_shrinkBank : Touches [.trk, .obs, .ctr] shrinkBank := Touches.of fun u => by unfold shrinkBank; simp
@[simp] theorem touches_publishAry : Touches [.basin] publishAry := Touches.of fun u => by unfold publishAry; simp
@[simp] theorem touches_modBand (b f) : Touches [.ary] (modBand b f) := Touches.of fun u => by unfold modBand; simp

@[simp] theorem touches_commitWeights (b) : Touches [.ary, .trk, .obs, .ctr] (commitWeights b) :=
  Touches.of fun u => by unfold commitWeights; dsimp only; split <;> simp

@[simp] theorem touches_evaluateBand (b cov) : Touches [.ary] (evaluateBand b cov) := Touches.of fun u => by unfold evaluateBand; simp
@[simp] theorem touches_countDelay (out) : Touches [.ary, .obs, .ctr] (countDelay out) := Touches.of fun u => by unfold countDelay; simp
@[simp] theorem touches_calStep (a b l) : Touches [.ary, .msr, .obs, .ctr] (calStep a b l) := Touches.of fun u => by unfold calStep; simp
@[simp] theorem touches_closePeriod (a b) : Touches [.ary] (closePeriod a b) := Touches.of fun u => by unfold closePeriod; simp

@[simp] theorem touches_setSpoof (on kind) : Touches [.ary, .sky, .mode, .hst, .obs, .basin, .ctr] (setSpoof on kind) :=
  Touches.of fun u => by unfold setSpoof; simp

@[simp] theorem touches_activeRefresh : Touches [.ary, .trk, .hst, .obs, .basin, .ctr] activeRefresh := Touches.of fun u => by unfold activeRefresh; simp
@[simp] theorem touches_setLane (n r) : Touches [.acq] (setLane n r) := Touches.of fun u => by unfold setLane; simp
@[simp] theorem touches_unreserve (t k) : Touches [.trk] (unreserve t k) := Touches.of fun u => by unfold unreserve; simp
@[simp] theorem touches_endLane (n r) : Touches [.acq, .trk] (endLane n r) := Touches.of fun u => by unfold endLane; simp
@[simp] theorem touches_headTask (t) : Touches [.acq] (headTask t) := Touches.of fun u => by unfold headTask; simp
@[simp] theorem touches_bandGrid (t c) : Touches [.fresh] (fun s => (bandGrid s t c).2) := Touches.of fun u => by unfold bandGrid; simp
@[simp] theorem touches_gridOf (t) : Touches [.fresh] (fun s => (gridOf s t).2) := Touches.of fun u => by unfold gridOf; split <;> simp

@[simp] theorem touches_takeDwell (n r fresh) : Touches [.acq, .obs, .ctr] (takeDwell n r fresh) :=
  Touches.of fun u => by unfold takeDwell; dsimp only; (repeat' split) <;> simp

@[simp] theorem touches_beginRun (n t k deep) : Touches [.acq, .obs, .ctr, .fresh] (beginRun n t k deep) := Touches.of fun u => by unfold beginRun; simp
@[simp] theorem touches_offerTask (t) : Touches [.acq] (fun s => offerTask s t) := Touches.of fun u => by unfold offerTask; (repeat' split) <;> simp
@[simp] theorem touches_startTask (n x k) : Touches [.acq, .trk, .obs, .ctr, .fresh] (startTask n x k) := Touches.of fun u => by unfold startTask; simp

@[simp] theorem touches_advance (n r) : Touches [.acq, .trk, .obs, .ctr, .fresh] (advance n r) :=
  Touches.of fun u => by unfold advance; dsimp only; (repeat' split) <;> simp

theorem within_boundaryEnd {n : Fin 16} {r : LaneRun} (he : boundaryEnd n r u = some t) (h : [.acq, .trk, .obs, .ctr, .fresh] ⊆ l) : Within l s t ↔ Within l s u := by
  refine within_step (only_mono (?_ : Within _ u t) h)
  unfold boundaryEnd at he
  dsimp only at he
  (repeat' split at he) <;> cases he <;> simp

@[simp] theorem within_voidStep {n r} {skip : State → State} (h : [.acq, .obs, .ctr] ⊆ l) (hs : ∀ t, Within l t (skip t)) :
    Within l s (voidStep n r skip u) ↔ Within l s u := by
  refine within_step ?_
  simp only [List.cons_subset, List.nil_subset, and_true] at h
  unfold voidStep
  have hu : Within l u (bump cAcqVoidSteps u) := by simp [h]
  simp [h, hu.trans (hs _)]

@[simp] theorem touches_takeHit (n r p) : Touches [.acq, .obs, .ctr] (takeHit n r p) := Touches.of fun u => by unfold takeHit; simp
@[simp] theorem touches_rebaseLane (n t) : Touches [.acq] (rebaseLane n t) := Touches.of fun u => by unfold rebaseLane; split <;> simp

/-! ### The commands -/

theorem runs_execTrackDump (ch d s) : Runs [.trk, .obs, .ctr] s (execTrackDump ch d s) := by unfold execTrackDump; simp
theorem runs_execCoastExpiry (ch s) : Runs [.trk, .obs, .ctr] s (execCoastExpiry ch s) := by unfold execCoastExpiry; split <;> simp
theorem runs_execPullFail (ch s) : Runs [.acq, .trk, .obs, .ctr] s (execPullFail ch s) := by unfold execPullFail; dsimp only; (repeat' split) <;> simp
theorem runs_execLossTExpiry (ch s) : Runs [.trk, .obs, .ctr] s (execLossTExpiry ch s) := by unfold execLossTExpiry; dsimp only; split <;> simp
theorem runs_execReacqExpiry (ch s) : Runs [.trk, .obs, .ctr] s (execReacqExpiry ch s) := by unfold execReacqExpiry; simp
theorem runs_execWeakSwitch (ch s) : Runs [.trk] s (execWeakSwitch ch s) := by unfold execWeakSwitch; simp
theorem runs_execFreqRecovery (ch s) : Runs [.trk, .obs, .ctr] s (execFreqRecovery ch s) := by unfold execFreqRecovery; dsimp only; split <;> simp
theorem runs_execCn0Update (ch s) : Runs [.trk, .obs, .ctr] s (execCn0Update ch s) := by unfold execCn0Update; simp
theorem runs_execArraySpawn (ch s) : Runs [.trk, .obs, .ctr] s (execArraySpawn ch s) := by unfold execArraySpawn; dsimp only; split <;> simp
theorem runs_execBeamTakeover (ch s) : Runs [.trk] s (execBeamTakeover ch s) := by unfold execBeamTakeover; dsimp only; (repeat' split) <;> simp
theorem runs_execBeamTimeout (ch s) : Runs [.trk] s (execBeamTimeout ch s) := by unfold execBeamTimeout; dsimp only; split <;> simp
theorem runs_execBeamReturn (ch s) : Runs [.trk, .obs, .ctr] s (execBeamReturn ch s) := by unfold execBeamReturn; dsimp only; split <;> simp

theorem runs_execNullWeightUpdate (b valid total cov s) : Runs [.ary, .trk, .obs, .basin, .ctr] s (execNullWeightUpdate b valid total cov s) := by
  unfold execNullWeightUpdate
  simp

theorem runs_execQuietReferenceInit (b s) : Runs [.ary] s (execQuietReferenceInit b s) := by unfold execQuietReferenceInit; simp
theorem runs_execJamLevelChange (b s) : Runs [.ary, .hst, .obs, .basin, .ctr] s (execJamLevelChange b s) := by unfold execJamLevelChange; split <;> simp
theorem runs_execCalUpdate (a b sigs s) : Runs [.ary, .msr, .hst, .obs, .basin, .ctr] s (execCalUpdate a b sigs s) := by unfold execCalUpdate; simp
theorem runs_execAoaMeasure (sigs s) : Runs [.ary, .obs, .ctr] s (execAoaMeasure sigs s) := by unfold execAoaMeasure; simp
theorem runs_execSpoofEval (preds s) : Runs [.ary, .obs, .basin, .ctr] s (execSpoofEval preds s) := by unfold execSpoofEval; simp
theorem runs_execSpoofRaise (s) : Runs [.ary, .sky, .mode, .hst, .obs, .basin, .ctr] s (execSpoofRaise s) := by unfold execSpoofRaise; simp
theorem runs_execSpoofClear (s) : Runs [.ary, .sky, .mode, .hst, .obs, .basin, .ctr] s (execSpoofClear s) := by unfold execSpoofClear; simp

theorem runs_execSpoofReleaseUnverified (s) : Runs [.ary, .sky, .mode, .hst, .obs, .basin, .ctr] s (execSpoofReleaseUnverified s) := by
  unfold execSpoofReleaseUnverified
  simp

theorem runs_execAcqTaskStart (offers s) : Runs [.acq, .trk, .sol, .obs, .ctr, .fresh] s (execAcqTaskStart offers s) := by
  unfold execAcqTaskStart
  dsimp only
  (repeat' split) <;> simp

theorem runs_execAcqRecordComplete (n s) : Runs [.acq] s (execAcqRecordComplete n s) := by unfold execAcqRecordComplete; dsimp only; (repeat' split) <;> simp

theorem runs_execAcqStep (n ivs s) : Runs [.acq, .trk, .obs, .ctr, .fresh] s (execAcqStep n ivs s) := by
  unfold execAcqStep
  split
  · simp
  · split
    · simp
    · dsimp only
      split
      · simp [within_boundaryEnd ‹_›]
      · split
        · simp
        · split <;> simp

theorem runs_execAcqVerify (n ivs s) : Runs [.acq, .trk, .obs, .ctr, .fresh] s (execAcqVerify n ivs s) := by
  unfold execAcqVerify
  split
  · simp
  · split
    · simp
    · split
      · simp
      · dsimp only
        split
        · simp [within_boundaryEnd ‹_›]
        · simp

theorem runs_execHandover (n s) : Runs [.acq, .trk, .obs, .ctr] s (execHandover n s) := by unfold execHandover; dsimp only; (repeat' split) <;> simp

end Sys2Proof.Machine
end

section
/-!
SUPPORT. Frames of card ports, radio control and the tag link (10_tag_link, 11_radio_control, 18_host_ports): the parts that each operation and each command writes.
-/

namespace Sys2Proof.Machine

variable {l : List Part} {s t u : State}

@[simp] theorem touches_cardRelease (p) : Touches [.hst] (cardRelease p) := Touches.of fun u => by unfold cardRelease; simp
@[simp] theorem touches_cardControl (p v) : Touches [.hst, .pld] (cardControl p v) := Touches.of fun u => by unfold cardControl; simp
@[simp] theorem touches_cardPush (p v pe gap) : Touches [.hst, .pld] (cardPush p v pe gap) := Touches.of fun u => by unfold cardPush; simp
@[simp] theorem touches_cardSend (p v) : Touches [.hst, .ctr] (cardSend p v) := Touches.of fun u => by unfold cardSend; simp
@[simp] theorem touches_cardPop (p) : Touches [.hst] (cardPop p) := Touches.of fun u => by unfold cardPop; simp
@[simp] theorem touches_cardReset (p) : Touches [.hst] (cardReset p) := Touches.of fun u => by unfold cardReset; simp
@[simp] theorem touches_guardBoot : Touches [.rfc, .hst, .obs, .ctr] guardBoot := Touches.of fun u => by unfold guardBoot; simp
@[simp] theorem touches_publishRfc : Touches [.basin] publishRfc := Touches.of fun u => by unfold publishRfc; simp
@[simp] theorem touches_applySet (n) : Touches [.rfc, .obs, .basin, .ctr] (applySet n) := Touches.of fun u => by unfold applySet; simp
@[simp] theorem touches_chargeDuty (e use) : Touches [.rfc] (chargeDuty e use) := Touches.of fun u => by unfold chargeDuty; simp
@[simp] theorem touches_pathToRx : Touches [.rfc, .clk, .fresh] pathToRx := Touches.of fun u => by unfold pathToRx; simp

@[simp] theorem touches_countRefusal (k r) : Touches [.obs, .ctr] (countRefusal k r) :=
  Touches.of fun u => by unfold countRefusal; dsimp only; (repeat' split) <;> simp

@[simp] theorem touches_ctxMod (k f) : Touches [.lnk] (ctxMod k f) := Touches.of fun u => by unfold ctxMod; simp
@[simp] theorem touches_pushRx (p r) : Touches [.lnk, .obs, .pld, .ctr] (pushRx p r) := Touches.of fun u => by unfold pushRx; simp
@[simp] theorem touches_dropDown (ctx handle) : Touches [.lnk] (dropDown ctx handle) := Touches.of fun u => by unfold dropDown; simp
@[simp] theorem touches_modDown (ctx handle f) : Touches [.lnk] (modDown ctx handle f) := Touches.of fun u => by unfold modDown; simp
@[simp] theorem touches_dropEntry (p handle) : Touches [.sky] (dropEntry p handle) := Touches.of fun u => by unfold dropEntry; simp

@[simp] theorem touches_finishDown (p ctx d outcome) : Touches [.sky, .lnk, .obs, .pld, .ctr] (finishDown p ctx d outcome) :=
  Touches.of fun u => by unfold finishDown; simp

@[simp] theorem touches_discardQueue (p ctx) : Touches [.sky, .lnk, .obs, .pld, .ctr] (discardQueue p ctx) := Touches.of fun u => by unfold discardQueue; simp
@[simp] theorem touches_holdDown (p ctx handle) : Touches [.lnk, .obs, .ctr] (holdDown p ctx handle) := Touches.of fun u => by unfold holdDown; simp
@[simp] theorem touches_deliver (a sent) : Touches [.lnk, .hst, .obs, .pld, .ctr] (deliver a sent) := Touches.of fun u => by unfold deliver; split <;> simp
@[simp] theorem touches_closeAck (ch sent) : Touches [.lnk, .hst, .obs, .pld, .ctr] (closeAck ch sent) := Touches.of fun u => by unfold closeAck; split <;> simp
@[simp] theorem touches_blankFor (slot) : Touches [.obs, .ctr] (blankFor slot) := Touches.of fun u => by unfold blankFor; split <;> simp

@[simp] theorem touches_countBlanked (r) : Touches [.obs, .ctr] (fun t => countBlanked t r) := Touches.of fun u => by
  unfold countBlanked; split <;> simp

@[simp] theorem touches_dropReceptions : Touches [.lnk, .rfc] dropReceptions := Touches.of fun u => by unfold dropReceptions; simp

@[simp] theorem touches_blankReceptions : Touches [.lnk, .rfc, .obs, .ctr] blankReceptions := Touches.of fun u => by
  rw [blankReceptions_eq, within_foldl] <;> simp

@[simp] theorem touches_goOnAir (e) : Touches [.lnk, .rfc, .obs, .ctr] (goOnAir e) := Touches.of fun u => by unfold goOnAir; simp

@[simp] theorem touches_cutAir : Touches [.lnk, .rfc, .clk, .hst, .obs, .pld, .ctr, .fresh] cutAir :=
  Touches.of fun u => by unfold cutAir; dsimp only; (repeat' split) <;> simp

@[simp] theorem touches_launchDown (p ctx handle) : Touches [.lnk, .rfc, .pmu, .obs, .ctr] (launchDown p ctx handle) :=
  Touches.of fun u => by unfold launchDown; dsimp only; (repeat' split) <;> simp

@[simp] theorem touches_launchWaiting (ctx w) : Touches [.lnk, .rfc, .pmu, .obs, .ctr] (launchWaiting ctx w) :=
  Touches.of fun u => by unfold launchWaiting; split <;> simp

@[simp] theorem touches_noteUplink (ctx r) : Touches [.lnk] (noteUplink ctx r) := Touches.of fun u => by unfold noteUplink; simp

@[simp] theorem touches_noteRetired (p ctx r ch fc) : Touches [.lnk, .obs, .pld, .ctr] (noteRetired p ctx r ch fc) :=
  Touches.of fun u => by unfold noteRetired; simp

@[simp] theorem touches_pushAlarmAck (ctx fc) : Touches [.lnk, .obs, .ctr] (pushAlarmAck ctx fc) := Touches.of fun u => by unfold pushAlarmAck; simp
@[simp] theorem touches_reactivate (ctx last) : Touches [.lnk] (reactivate ctx last) := Touches.of fun u => by unfold reactivate; simp

@[simp] theorem touches_acceptFrame (ch a ackReq) : Touches [.lnk, .hst, .obs, .pld, .ctr] (acceptFrame ch a ackReq) :=
  Touches.of fun u => by unfold acceptFrame; simp

@[simp] theorem touches_setTxResult (p v) : Touches [.lnk] (setTxResult p v) := Touches.of fun u => by unfold setTxResult; simp

@[simp] theorem touches_txSubmit (p) : Touches [.sky, .lnk, .obs, .pld, .ctr] (txSubmit p) := Touches.of fun u => by
  unfold txSubmit
  dsimp only
  iterate 4 (split; · simp)
  split
  · simp
  · simp [within_armEntry ‹_›]

@[simp] theorem touches_txCancel (p) : Touches [.sky, .lnk, .obs, .pld, .ctr] (txCancel p) := Touches.of fun u => by unfold txCancel; split <;> simp
@[simp] theorem touches_setRosResult (p v) : Touches [.lnk] (setRosResult p v) := Touches.of fun u => by unfold setRosResult; simp
@[simp] theorem touches_orphanSnaps (p ctx) : Touches [.snf, .ctr] (orphanSnaps p ctx) := Touches.of fun u => by unfold orphanSnaps; simp

@[simp] theorem touches_loadState (p ctx code retry) : Touches [.snf, .sky, .lnk, .obs, .pld, .ctr] (loadState p ctx code retry) :=
  Touches.of fun u => by unfold loadState; simp

@[simp] theorem touches_rosterLoad (p withKey) : Touches [.snf, .sky, .lnk, .obs, .pld, .ctr] (rosterLoad p withKey) :=
  Touches.of fun u => by unfold rosterLoad; simp

@[simp] theorem touches_rxPop (p) : Touches [.lnk] (rxPop p) := Touches.of fun u => by unfold rxPop; simp
@[simp] theorem touches_publishLink : Touches [.basin] publishLink := Touches.of fun u => by unfold publishLink; simp

@[simp] theorem touches_quietEnter (cause) : Touches [.lnk, .rfc, .clk, .mode, .hst, .obs, .pld, .basin, .ctr, .fresh] (quietEnter cause) :=
  Touches.of fun u => by unfold quietEnter; simp

@[simp] theorem touches_groundStep (m) : Touches [.rfc] (groundStep m) := Touches.of fun u => by unfold groundStep; simp
@[simp] theorem touches_runStep (g m) : Touches [.rfc] (runStep g m) := Touches.of fun u => by unfold runStep; simp
@[simp] theorem touches_exitStep (m) : Touches [.rfc] (exitStep m) := Touches.of fun u => by unfold exitStep; simp
@[simp] theorem touches_selectStep (g st) : Touches [.rfc] (selectStep g st) := Touches.of fun u => by unfold selectStep; simp

@[simp] theorem touches_guardSolution (g st) : Touches [.lnk, .rfc, .clk, .mode, .hst, .obs, .pld, .basin, .ctr, .fresh] (guardSolution g st) :=
  Touches.of fun u => by unfold guardSolution; dsimp only; (repeat' split) <;> simp

/-! ### The commands -/

theorem runs_execCardCharReceive (p bits gap s) : Runs [.hst, .pld, .ctr] s (execCardCharReceive p bits gap s) := by unfold execCardCharReceive; simp
theorem runs_execCardCharSend (p err s) : Runs [.hst, .pld] s (execCardCharSend p err s) := by unfold execCardCharSend; simp
theorem runs_execProfileSetChange (s) : Runs [.rfc, .obs, .basin, .ctr] s (execProfileSetChange s) := by unfold execProfileSetChange; split <;> simp
theorem runs_execProfileHoldExpiry (s) : Runs [.rfc, .obs, .basin, .ctr] s (execProfileHoldExpiry s) := by unfold execProfileHoldExpiry; split <;> simp

theorem runs_execEmissionDecision (lbt gnt s) : Runs [.lnk, .rfc, .obs, .ctr] s (execEmissionDecision lbt gnt s) := by
  unfold execEmissionDecision
  dsimp only
  (repeat' split) <;> simp

theorem runs_execLaunch (p handle s) : Runs [.sky, .lnk, .rfc, .pmu, .obs, .pld, .ctr] s (execLaunch p handle s) := by unfold execLaunch; split <;> simp
theorem runs_execRetry (ctx s) : Runs [.lnk, .rfc, .pmu, .obs, .ctr] s (execRetry ctx s) := by unfold execRetry; simp
theorem runs_execRelaunch (p ctx s) : Runs [.lnk, .rfc, .pmu, .obs, .ctr] s (execRelaunch p ctx s) := by unfold execRelaunch; simp
theorem runs_execLsynRetune (locked s) : Runs [.lnk, .clk] s (execLsynRetune locked s) := by unfold execLsynRetune; dsimp only; (repeat' split) <;> simp
theorem runs_execCoexReq (s) : Runs [.rfc] s (execCoexReq s) := by unfold execCoexReq; split <;> simp

theorem runs_execEmissionEnd (s) : Runs [.sky, .lnk, .rfc, .pmu, .clk, .hst, .obs, .pld, .ctr, .fresh] s (execEmissionEnd s) := by
  unfold execEmissionEnd
  dsimp only
  (repeat' split) <;> simp

theorem runs_execGatewayAck (ch s) : Runs [.lnk, .rfc, .hst, .obs, .pld, .ctr] s (execGatewayAck ch s) := by
  unfold execGatewayAck
  dsimp only
  (repeat' split) <;> simp

theorem runs_execTagAck (ctx body mic us s) : Runs [.sky, .lnk, .obs, .pld, .ctr] s (execTagAck ctx body mic us s) := by unfold execTagAck; split <;> simp
theorem runs_execTagAckTimeout (ctx s) : Runs [.sky, .lnk, .obs, .pld, .ctr] s (execTagAckTimeout ctx s) := by unfold execTagAckTimeout; split <;> simp
theorem runs_execPreambleDetection (ch s) : Runs [.rfc] s (execPreambleDetection ch s) := by unfold execPreambleDetection; simp

theorem runs_execFrameSyncDetect (ch f s) : Runs [.lnk, .rfc, .obs, .ctr] s (execFrameSyncDetect ch f s) := by
  unfold execFrameSyncDetect
  dsimp only
  (repeat' split) <;> simp

theorem runs_execRxCut (ch s) : Runs [.lnk, .obs, .ctr] s (execRxCut ch s) := by unfold execRxCut; split <;> simp

theorem runs_execFrameReceive (ch body mic s) : Runs [.lnk, .rfc, .hst, .obs, .pld, .ctr] s (execFrameReceive ch body mic s) := by
  unfold execFrameReceive
  split <;> simp

theorem runs_execBeaconLaunch (s) : Runs [.lnk, .rfc, .obs, .ctr] s (execBeaconLaunch s) := by unfold execBeaconLaunch; dsimp only; split <;> simp
theorem runs_execDpdUpdate (s) : Runs [.lnk] s (execDpdUpdate s) := by unfold execDpdUpdate; simp
theorem runs_execNoiseFloor (levels s) : Runs [.lnk, .basin] s (execNoiseFloor levels s) := by unfold execNoiseFloor; simp

theorem runs_execQuietPinRise (s) : Runs [.lnk, .rfc, .clk, .mode, .hst, .obs, .pld, .basin, .ctr, .fresh] s (execQuietPinRise s) := by
  unfold execQuietPinRise
  simp

theorem runs_execQuietPinFall (s) : Runs [.rfc, .basin] s (execQuietPinFall s) := by unfold execQuietPinFall; simp
theorem runs_execQuietTransitExit (s) : Runs [.rfc, .mode, .basin] s (execQuietTransitExit s) := by unfold execQuietTransitExit; split <;> simp
theorem runs_execCoexPriRise (s) : Runs [.lnk, .rfc, .clk, .hst, .obs, .pld, .basin, .ctr, .fresh] s (execCoexPriRise s) := by unfold execCoexPriRise; simp
theorem runs_execCoexPriFall (s) : Runs [.rfc, .clk, .basin, .fresh] s (execCoexPriFall s) := by unfold execCoexPriFall; simp

end Sys2Proof.Machine
end

section
/-!
SUPPORT. Frames of measurements, the solver and the snapshot farm (06_measurements, 07_solver, 08_snapshot_farm): the parts that each operation and each command writes.
-/

namespace Sys2Proof.Machine

variable {l : List Part} {s t u : State}

@[simp] theorem touches_exportHrs (r) : Touches [.hst, .obs, .ctr] (exportHrs r) := Touches.of fun u => by unfold exportHrs; simp
@[simp] theorem touches_exportRtcm (r) : Touches [.msr, .hst, .obs, .ctr] (exportRtcm r) := Touches.of fun u => by unfold exportRtcm; simp
@[simp] theorem touches_ringPut (x) : Touches [.msr, .obs, .ctr] (ringPut x) := Touches.of fun u => by unfold ringPut; simp
@[simp] theorem touches_modEph (v f) : Touches [.msr] (modEph v f) := Touches.of fun u => by unfold modEph; simp
@[simp] theorem touches_storeUnit (g c) : Touches [.msr] (storeUnit g c) := Touches.of fun u => by unfold storeUnit; split <;> simp
@[simp] theorem touches_keepBits (g u bits) : Touches [.msr] (keepBits g u bits) := Touches.of fun u => by unfold keepBits; simp
@[simp] theorem touches_polarityStep (k inverted) : Touches [.trk, .obs, .ctr] (polarityStep k inverted) := Touches.of fun u => by unfold polarityStep; simp
@[simp] theorem touches_timeStep (k g tt) : Touches [.trk, .obs, .ctr] (timeStep k g tt) := Touches.of fun u => by unfold timeStep; simp

@[simp] theorem touches_seedFromUnit (k g gps) : Touches [.sky, .obs, .basin, .ctr] (seedFromUnit k g gps) :=
  Touches.of fun u => by unfold seedFromUnit; split <;> simp

@[simp] theorem touches_countResults (l) : Touches [.obs, .ctr] (countResults l) := Touches.of fun u => by unfold countResults; simp
@[simp] theorem touches_writeNav (x kind b) : Touches [.msr, .hst, .obs, .ctr] (writeNav x kind b) := Touches.of fun u => by unfold writeNav; simp
@[simp] theorem touches_envelopeArrive (b) : Touches [.sol, .obs, .ctr] (envelopeArrive b) := Touches.of fun u => by unfold envelopeArrive; simp
@[simp] theorem touches_holdItem (c) : Touches [.sol, .obs, .ctr] (fun s => holdItem s c) := Touches.of fun u => by unfold holdItem; simp
@[simp] theorem touches_holdMessage (l) : Touches [.sol, .obs, .ctr] (fun s => holdMessage s l) := Touches.of fun u => by unfold holdMessage; simp
@[simp] theorem touches_applyItems (key items) : Touches [.sol, .obs, .ctr] (applyItems key items) := Touches.of fun u => by unfold applyItems; split <;> simp
@[simp] theorem touches_writeSol : Touches [.sol, .hst, .obs, .basin, .ctr] writeSol := Touches.of fun u => by unfold writeSol; simp

@[simp] theorem touches_publishSol : Touches [.sol, .lnk, .rfc, .clk, .mode, .hst, .obs, .pld, .basin, .ctr, .fresh] publishSol :=
  Touches.of fun u => by unfold publishSol; split <;> simp

@[simp] theorem touches_markDone (f te) : Touches [.sol] (markDone f te) := Touches.of fun u => by unfold markDone; simp
@[simp] theorem touches_consumeRing (te) : Touches [.msr] (consumeRing te) := Touches.of fun u => by unfold consumeRing; simp

@[simp] theorem touches_timeStepSol (te m stdOk used) : Touches [.sol, .sky, .mode] (timeStepSol te m stdOk used) :=
  Touches.of fun u => by unfold timeStepSol; split <;> simp

@[simp] theorem touches_coldEpoch (te) : Touches [.sky, .mode] (coldEpoch te) := Touches.of fun u => by unfold coldEpoch; simp

@[simp] theorem touches_standaloneStep (te) : Touches [.msr, .sol, .sky, .lnk, .rfc, .clk, .mode, .hst, .obs, .pld, .basin, .ctr, .fresh] (standaloneStep te) :=
  Touches.of fun u => by unfold standaloneStep; simp

@[simp] theorem touches_preciseStep (te o) : Touches [.sol, .lnk, .rfc, .clk, .mode, .hst, .obs, .pld, .basin, .ctr, .fresh] (preciseStep te o) :=
  Touches.of fun u => by unfold preciseStep; simp

@[simp] theorem touches_modShare (p f) : Touches [.snf] (modShare p f) := Touches.of fun u => by unfold modShare; simp

@[simp] theorem touches_storeSnapshot (p q) : Touches [.snf, .ctr] (storeSnapshot p q) :=
  Touches.of fun u => by unfold storeSnapshot; dsimp only; (repeat' split) <;> simp

@[simp] theorem touches_farmSlot (p sec) : Touches [.snf, .pmu, .ctr] (farmSlot p sec) :=
  Touches.of fun u => by unfold farmSlot; dsimp only; (repeat' split) <;> simp

@[simp] theorem touches_queueResult (p r) : Touches [.snf, .pld, .ctr] (queueResult p r) :=
  Touches.of fun u => by unfold queueResult; dsimp only; (repeat' split) <;> simp

@[simp] theorem touches_snfPop (p) : Touches [.snf] (snfPop p) := Touches.of fun u => by unfold snfPop; simp

/-! ### The commands -/

theorem runs_execMeasurementEpoch (s) : Runs [.trk, .msr, .sol, .sky, .hst, .obs, .basin, .ctr] s (execMeasurementEpoch s) := by
  unfold execMeasurementEpoch
  split <;> simp

theorem runs_execStationMessages (s) : Runs [.msr, .hst, .obs, .ctr] s (execStationMessages s) := by
  unfold execStationMessages
  dsimp only
  (repeat' split) <;> simp

theorem runs_execNavCheckUnit (ch u s) : Runs [.trk, .msr, .sky, .hst, .obs, .basin, .ctr] s (execNavCheckUnit ch u s) := by
  unfold execNavCheckUnit
  dsimp only
  (repeat' split) <;> simp

theorem runs_execSymbolRecord (ch s) : Runs [.trk, .msr, .hst, .obs, .ctr] s (execSymbolRecord ch s) := by unfold execSymbolRecord; dsimp only; split <;> simp

theorem runs_execEnvelopeVerifyStart (s) : Runs [.sol, .obs, .ctr] s (execEnvelopeVerifyStart s) := by
  unfold execEnvelopeVerifyStart
  dsimp only
  (repeat' split) <;> simp

theorem runs_execEnvelopeVerdict (s) : Runs [.sol, .obs, .ctr] s (execEnvelopeVerdict s) := by unfold execEnvelopeVerdict; split <;> simp
theorem runs_execNmeaOutput (s) : Runs [.sol, .hst, .obs, .ctr] s (execNmeaOutput s) := by unfold execNmeaOutput; dsimp only; (repeat' split) <;> simp
theorem runs_execSolSatRecord (s) : Runs [.sol, .hst, .obs, .ctr] s (execSolSatRecord s) := by unfold execSolSatRecord; simp
theorem runs_execStatusPublish (s) : Runs [.basin] s (execStatusPublish s) := by unfold execStatusPublish; simp

theorem runs_execStandaloneUpdate (sol clk s) :
    Runs [.msr, .sol, .sky, .lnk, .rfc, .clk, .mode, .hst, .obs, .pld, .basin, .ctr, .fresh] s (execStandaloneUpdate sol clk s) := by
  unfold execStandaloneUpdate
  split <;> simp

theorem runs_execPreciseUpdate (sol ambs ils s) :
    Runs [.sol, .lnk, .rfc, .clk, .mode, .hst, .obs, .pld, .basin, .ctr, .fresh] s (execPreciseUpdate sol ambs ils s) := by
  unfold execPreciseUpdate
  dsimp only
  (repeat' split) <;> simp

theorem runs_execPositionHold (s) : Runs [.sol] s (execPositionHold s) := by unfold execPositionHold; split <;> simp
theorem runs_execAttitudeUpdate (sol s) : Runs [.sol, .hst, .obs, .basin, .ctr] s (execAttitudeUpdate sol s) := by unfold execAttitudeUpdate; split <;> simp

theorem runs_execIntegrityEval (std prec s) : Runs [.sol, .sky, .mode, .hst, .obs, .basin, .ctr] s (execIntegrityEval std prec s) := by
  unfold execIntegrityEval
  split <;> simp

theorem runs_execSolSkip (f s) : Runs [.sol, .obs, .ctr] s (execSolSkip f s) := by unfold execSolSkip; split <;> simp
theorem runs_execExclHoldExpiry (v s) : Runs [.sol] s (execExclHoldExpiry v s) := by unfold execExclHoldExpiry; simp
theorem runs_execCorrectionExpiry (item s) : Runs [.sol] s (execCorrectionExpiry item s) := by unfold execCorrectionExpiry; split <;> simp
theorem runs_execHistoryEntry (s) : Runs [.snf] s (execHistoryEntry s) := by unfold execHistoryEntry; split <;> simp

theorem runs_execSnapshotDelivery (ch s) : Runs [.snf, .lnk, .ctr] s (execSnapshotDelivery ch s) := by
  unfold execSnapshotDelivery
  dsimp only
  (repeat' split) <;> simp

theorem runs_execFarmSlotStart (dets solves s) : Runs [.snf, .pmu, .ctr] s (execFarmSlotStart dets solves s) := by
  unfold execFarmSlotStart
  dsimp only
  (repeat' split) <;> simp

theorem runs_execFarmResult (s) : Runs [.snf, .pld, .ctr] s (execFarmResult s) := by unfold execFarmResult; split <;> simp

end Sys2Proof.Machine
end

section
/-!
SUPPORT. Frames of the culvert and the host port (18_host_ports, 19_observation): the parts that each operation and each command writes.
-/

namespace Sys2Proof.Machine

variable {l : List Part} {s t u : State}

@[simp] theorem touches_modObs (f) : Touches [.obs] (modObs f) := Touches.of fun u => by unfold modObs; simp
@[simp] theorem touches_closeAnchor : Touches [.obs, .ctr] closeAnchor := Touches.of fun u => by unfold closeAnchor; simp
@[simp] theorem touches_closeTrace (p) : Touches [.obs, .ctr] (closeTrace p) := Touches.of fun u => by unfold closeTrace; simp

@[simp] theorem touches_traceEntry (p kind delta target last) : Touches [.obs, .ctr] (traceEntry p kind delta target last) :=
  Touches.of fun u => by unfold traceEntry; simp

@[simp] theorem touches_traceSync (p) : Touches [.obs, .ctr] (traceSync p) := Touches.of fun u => by unfold traceSync; simp
@[simp] theorem touches_traceMark (p kind target) : Touches [.obs, .ctr] (traceMark p kind target) := Touches.of fun u => by unfold traceMark; simp
@[simp] theorem touches_traceRestart (p target) : Touches [.obs, .ctr] (traceRestart p target) := Touches.of fun u => by unfold traceRestart; simp
@[simp] theorem touches_modHst (f) : Touches [.hst] (modHst f) := Touches.of fun u => by unfold modHst; simp
@[simp] theorem touches_updateRts : Touches [.hst] updateRts := Touches.of fun u => by unfold updateRts; simp
@[simp] theorem touches_baudRestart : Touches [.hst] baudRestart := Touches.of fun u => by unfold baudRestart; simp
@[simp] theorem touches_dropUnit : Touches [.hst, .obs, .ctr] dropUnit := Touches.of fun u => by unfold dropUnit; simp

@[simp] theorem touches_polderFrame (p cls seq slice tick) : Touches [.hst, .pld, .ctr] (polderFrame p cls seq slice tick) :=
  Touches.of fun u => by unfold polderFrame; dsimp only; (repeat' split) <;> simp

@[simp] theorem touches_basinFrame (slice tick) : Touches [.hst, .obs, .ctr] (basinFrame slice tick) :=
  Touches.of fun u => by unfold basinFrame; (repeat' split) <;> simp

@[simp] theorem touches_finishUnit : Touches [.hst, .obs, .pld, .ctr] finishUnit :=
  Touches.of fun u => by unfold finishUnit; dsimp only; (repeat' split) <;> simp

@[simp] theorem touches_feedChar (c) : Touches [.hst, .obs, .pld, .ctr] (fun s => feedChar s c) := Touches.of fun u => by unfold feedChar; simp
@[simp] theorem touches_parseQueue : Touches [.hst, .obs, .pld, .ctr] parseQueue := Touches.of fun u => by unfold parseQueue; simp

theorem within_takeBasinFrame {type : Nat} {b : List Byte} {q : Rat} (he : takeBasinFrame u type = some (b, q, t)) (h : [.hst] ⊆ l) : Within l s t ↔ Within l s u := by
  unfold takeBasinFrame at he
  split at he
  · split at he
    · cases he
      exact touches_modHst _ h
    · cases he
  · cases he

@[simp] theorem touches_assistUnit (v c) : Touches [.msr] (assistUnit v c) := Touches.of fun u => by unfold assistUnit; split <;> simp
@[simp] theorem touches_setSlotRecs (k l) : Touches [.hst] (setSlotRecs k l) := Touches.of fun u => by unfold setSlotRecs; dsimp only; split <;> simp
@[simp] theorem touches_fillOne : Touches [.hst] fillOne := Touches.of fun u => by unfold fillOne; simp

@[simp] theorem touches_fillDue (n) : Touches [.hst, .obs, .ctr] (fillDue n) := by
  induction n with
  | zero => exact Touches.of fun u => within_refl
  | succ n ih => exact Touches.of fun u => by unfold fillDue; simp [ih]

@[simp] theorem touches_fillRest (n) : Touches [.hst, .obs, .ctr] (fillRest n) := by
  induction n with
  | zero => exact Touches.of fun u => within_refl
  | succ n ih => exact Touches.of fun u => by unfold fillRest; simp [ih]

@[simp] theorem touches_outSubmit (p) : Touches [.hst, .ctr] (outSubmit p) := Touches.of fun u => by unfold outSubmit; simp
@[simp] theorem touches_inPop (p) : Touches [.hst] (inPop p) := Touches.of fun u => by unfold inPop; simp
@[simp] theorem touches_hostDiscard (p) : Touches [.hst] (hostDiscard p) := Touches.of fun u => by unfold hostDiscard; simp

/-! ### The commands -/

theorem runs_execAnchorPacket (s) : Runs [.obs, .ctr] s (execAnchorPacket s) := by unfold execAnchorPacket; simp
theorem runs_execTracePacketClose (p s) : Runs [.obs, .ctr] s (execTracePacketClose p s) := by unfold execTracePacketClose; simp
theorem runs_execCounterDump (s) : Runs [.obs, .ctr] s (execCounterDump s) := by unfold execCounterDump; simp
theorem runs_execPacketSend (s) : Runs [.obs, .ctr] s (execPacketSend s) := by unfold execPacketSend; dsimp only; (repeat' split) <;> simp

theorem runs_execUartCharReceive (data pe fe brk noise s) : Runs [.hst, .obs, .ctr] s (execUartCharReceive data pe fe brk noise s) := by
  unfold execUartCharReceive
  dsimp only
  (repeat' split) <;> simp

theorem runs_execHuCtsNFall (s) : Runs [.hst] s (execHuCtsNFall s) := by unfold execHuCtsNFall; simp
theorem runs_execInboundUnit (s) : Runs [.hst, .obs, .pld, .ctr] s (execInboundUnit s) := by unfold execInboundUnit; simp

theorem runs_execInboundGapTimeout (s) : Runs [.hst, .obs, .pld, .ctr] s (execInboundGapTimeout s) := by
  unfold execInboundGapTimeout
  dsimp only
  (repeat' split) <;> simp

theorem runs_execCorrectionFrame (s) : Runs [.sol, .hst, .obs, .ctr] s (execCorrectionFrame s) := by
  unfold execCorrectionFrame
  split
  · simp [within_takeBasinFrame ‹_›]
  · simp

theorem runs_execTimeAssistance (s) : Runs [.sky, .hst, .obs, .basin, .ctr] s (execTimeAssistance s) := by
  unfold execTimeAssistance
  split
  · simp
  · simp [within_takeBasinFrame ‹_›]

theorem runs_execNavAssistance (content s) : Runs [.msr, .hst, .obs, .ctr] s (execNavAssistance content s) := by
  unfold execNavAssistance
  split
  · simp
  · simp [within_takeBasinFrame ‹_›]

theorem runs_execPositionAssistance ( s) : Runs [.acq, .hst, .obs, .ctr] s (execPositionAssistance s) := by
  unfold execPositionAssistance
  split
  · simp
  · simp [within_takeBasinFrame ‹_›]

theorem runs_execHostCycle (held s) : Runs [.hst, .obs, .ctr] s (execHostCycle held s) := by unfold execHostCycle; simp
theorem runs_execBootRecord (s) : Runs [.hst, .obs, .ctr] s (execBootRecord s) := by unfold execBootRecord; simp
theorem runs_execI2cWrite (bytes s) : Runs [.hst] s (execI2cWrite bytes s) := by unfold execI2cWrite; split <;> simp
theorem runs_execI2cRead (n s) : Runs [.hst] s (execI2cRead n s) := by unfold execI2cRead; split <;> simp

end Sys2Proof.Machine
end

section
/-!
SUPPORT. Frames of polders, their bus and their cores (12_polders, 13_ohmore_model, 14_ohmore_isa): the parts that each operation and each command writes.
-/

namespace Sys2Proof.Machine

variable {l : List Part} {s t u : State}

@[simp] theorem touches_ramPut (p a v) : Touches [.pld] (ramPut p a v) := Touches.of fun u => by unfold ramPut; simp
@[simp] theorem touches_breach (p kind addr) : Touches [.obs, .pld, .ctr] (breach p kind addr) := Touches.of fun u => by unfold breach; simp
@[simp] theorem touches_dropWork (p) : Touches [.snf, .sky, .lnk, .hst, .pld, .ctr] (dropWork p) := Touches.of fun u => by unfold dropWork; simp
@[simp] theorem touches_matchSluices : Touches [.pld] matchSluices := Touches.of fun u => by unfold matchSluices; simp
@[simp] theorem touches_settleSluices (p) : Touches [.obs, .pld, .ctr] (settleSluices p) := Touches.of fun u => by unfold settleSluices; simp
@[simp] theorem touches_goDry (p cause) : Touches windowParts (goDry p cause) := Touches.of fun u => by unfold goDry; simp
@[simp] theorem touches_restart (p) : Touches windowParts (restart p) := Touches.of fun u => by unfold restart; simp
@[simp] theorem touches_modCrypto (p f) : Touches [.pld] (modCrypto p f) := Touches.of fun u => by unfold modCrypto; simp
@[simp] theorem touches_setCrResult (p v) : Touches [.pld] (setCrResult p v) := Touches.of fun u => by unfold setCrResult; simp
@[simp] theorem touches_cryptoSubmit (p v) : Touches [.pld] (cryptoSubmit p v) := Touches.of fun u => by unfold cryptoSubmit; simp

@[simp] theorem touches_basinRead (p a) : Touches [.pld] (fun s => (basinRead p a s).2) :=
  Touches.of fun u => by unfold basinRead; dsimp only; (repeat' split) <;> simp

@[simp] theorem touches_modSluice (p k f) : Touches [.pld] (modSluice p k f) := Touches.of fun u => by unfold modSluice; simp
@[simp] theorem touches_sluiceControl (p k v) : Touches [.pld] (sluiceControl p k v) := Touches.of fun u => by unfold sluiceControl; dsimp only; split <;> simp
@[simp] theorem touches_publishFlags : Touches [.basin] publishFlags := Touches.of fun u => by unfold publishFlags; simp
@[simp] theorem touches_voidArise (bit) : Touches [.pmu, .hst, .obs, .basin, .ctr] (voidArise bit) := Touches.of fun u => by unfold voidArise; simp
@[simp] theorem touches_voidThermalSet (v) : Touches [.pmu, .hst, .obs, .basin, .ctr] (voidThermalSet v) := Touches.of fun u => by unfold voidThermalSet; simp
@[simp] theorem touches_voidVinEnd : Touches [.pmu] voidVinEnd := Touches.of fun u => by unfold voidVinEnd; simp
@[simp] theorem touches_readOne (p a) : Touches [.sky, .obs, .pld, .ctr] (fun s => (readOne p a s).2) := Touches.of fun u => by unfold readOne; split <;> simp

@[simp] theorem touches_windowWrite (p a v) : Touches [.snf, .sky, .lnk, .hst, .obs, .pld, .ctr] (windowWrite p a v) :=
  Touches.of fun u => by unfold windowWrite; simp

@[simp] theorem touches_writeOne (p a v) : Touches [.snf, .sky, .lnk, .hst, .obs, .pld, .ctr] (writeOne p a v) :=
  Touches.of fun u => by unfold writeOne; split <;> simp

@[simp] theorem touches_noteDry (p a) : Touches [.pld, .ctr] (noteDry p a) := Touches.of fun u => by unfold noteDry; simp
@[simp] theorem touches_endAccess (p) : Touches windowParts (endAccess p) := Touches.of fun u => by unfold endAccess; simp
@[simp] theorem touches_programWrite (p a v) : Touches windowParts (programWrite p a v) := Touches.of fun u => by unfold programWrite; simp
@[simp] theorem touches_programRead (p a) : Touches windowParts (programRead p a) := Touches.of fun u => by unfold programRead; simp
@[simp] theorem touches_drainOne (p) : Touches [.pld] (drainOne p) := Touches.of fun u => by unfold drainOne; split <;> simp
@[simp] theorem touches_countCycle (p) : Touches [.pld] (countCycle p) := Touches.of fun u => by unfold countCycle; simp
@[simp] theorem touches_coreCycle (p busy fresh) : Touches [.pld] (coreCycle p busy fresh) := Touches.of fun u => by unfold coreCycle; simp
@[simp] theorem touches_idleCycles (p n) : Touches [.pld] (idleCycles p n) := Touches.of fun u => by unfold idleCycles; simp
@[simp] theorem touches_drainAll (p) : Touches [.pld] (drainAll p) := Touches.of fun u => by unfold drainAll; simp

@[simp] theorem touches_readBytes (p as) : Touches windowParts (fun s => (readBytes p as s).2.2) := by
  induction as with
  | nil => exact Touches.of fun u => within_refl
  | cons a as ih => exact Touches.of fun u => by unfold readBytes; dsimp only; simp [ih]

@[simp] theorem touches_readMem (p base a n) : Touches windowParts (fun s => (readMem p base a n s).2) :=
  Touches.of fun u => by unfold readMem; dsimp only; (repeat' split) <;> simp

@[simp] theorem touches_writeBytes (p cells) : Touches windowParts (fun s => (writeBytes p cells s).2) := by
  induction cells with
  | nil => exact Touches.of fun u => within_refl
  | cons x r ih => exact Touches.of fun u => by unfold writeBytes; split <;> simp [ih]

@[simp] theorem touches_wardenRam (p cells) : Touches [.obs, .pld, .ctr] (fun s => (wardenRam p cells s).2) := Touches.of fun u => by unfold wardenRam; simp
@[simp] theorem touches_sbPush (p e) : Touches [.pld] (sbPush p e) := Touches.of fun u => by unfold sbPush; simp
@[simp] theorem touches_storeRam (p base cells) : Touches [.obs, .pld, .ctr] (storeRam p base cells) := Touches.of fun u => by unfold storeRam; simp
@[simp] theorem touches_writeMem (p base a bytes) : Touches windowParts (writeMem p base a bytes) := Touches.of fun u => by unfold writeMem; simp

@[simp] theorem touches_commit (p c0 len w) : Touches [.obs, .pld, .ctr] (commit p c0 len w) :=
  Touches.of fun u => by unfold commit; dsimp only; (repeat' split) <;> simp

@[simp] theorem touches_operand8 (p c i) : Touches windowParts (fun s => (operand8 p c i s).2) := Touches.of fun u => by unfold operand8; split <;> simp
@[simp] theorem touches_operand16 (p c i) : Touches windowParts (fun s => (operand16 p c i s).2) := Touches.of fun u => by unfold operand16; split <;> simp

@[simp] theorem touches_pushBytes (p base c bytes) : Touches windowParts (fun s => (pushBytes p base c bytes s).2) :=
  Touches.of fun u => by unfold pushBytes; simp

@[simp] theorem touches_branchIf (p c i taken w) : Touches [.pld] (fun s => (branchIf p c i taken w s).2) :=
  Touches.of fun u => by unfold branchIf; dsimp only; split <;> simp

@[simp] theorem touches_accOp (p f c i) : Touches windowParts (fun s => (accOp p f c i s).2) := Touches.of fun u => by unfold accOp; simp
@[simp] theorem touches_inhOp (p f c) : Touches [.pld] (fun s => (inhOp p f c s).2) := Touches.of fun u => by unfold inhOp; simp
@[simp] theorem touches_rmwOp (p f c i) : Touches windowParts (fun s => (rmwOp p f c i s).2) := Touches.of fun u => by unfold rmwOp; simp

@[simp] theorem touches_pushOne (p b) : Touches windowParts (fun s => pushOne p s b) := Touches.of fun u => by
  unfold pushOne
  dsimp only
  split <;> simp

@[simp] theorem touches_vectorTo (p v) : Touches [.obs, .pld, .ctr] (vectorTo p v) := Touches.of fun u => by
  unfold vectorTo
  dsimp only
  split <;> simp

@[simp] theorem touches_takeRequest (p v) : Touches windowParts (takeRequest p v) := Touches.of fun u => by unfold takeRequest; simp
@[simp] theorem touches_freeBelow (n) : Touches [.fresh] (fun s => (freeBelow n s).2) := Touches.of fun u => by unfold freeBelow; simp

@[simp] theorem touches_freeCells (lim n) : Touches [.fresh] (fun s => (freeCells lim n s).2) := by
  induction n with
  | zero => exact Touches.of fun u => within_refl
  | succ n ih => exact Touches.of fun u => by unfold freeCells; dsimp only; simp [ih]

@[simp] theorem touches_freeWrites : Touches [.fresh] (fun s => (freeWrites s).2) := Touches.of fun u => by unfold freeWrites; simp

theorem runs_runOp {L : List Part} (p op) {body : Core → OhmInstr → State → Sys2Proof.Machine.Writes × State} (h : [.obs, .pld, .ctr] ⊆ L)
    (hb : ∀ c i t, Within L t (body c i t).2) (s : State) : Runs L s (runOp p op body s) := by
  simp only [List.cons_subset, List.nil_subset, and_true] at h
  have hs : ∀ c i f, Within L s (body c i (modCore p f s)).2 := fun c i f => (by simp [h] : Within L s (modCore p f s)).trans (hb c i _)
  unfold runOp
  split
  · simp [h, hs]
  · simp

theorem runs_accOp (p op f) (s) : Runs windowParts s (runOp p op (accOp p f) s) := runs_runOp _ _ (by simp) (fun _ _ _ => by simp) s

theorem runs_rmwOp (p op f) (s) : Runs windowParts s (runOp p op (rmwOp p f) s) := runs_runOp _ _ (by simp) (fun _ _ _ => by simp) s

theorem runs_inhOp (p op) (f : Core → Byte → Byte → Byte × FlagSet) (s) : Runs [.obs, .pld, .ctr] s (runOp p op (fun c _ => inhOp p (f c) c) s) :=
  runs_runOp _ _ (by simp) (fun _ _ _ => by simp) s

theorem runs_branchIf (p op) (taken : Core → Bool) (s) :
    Runs [.obs, .pld, .ctr] s (runOp p op (fun c i t => branchIf p c i (taken c) {} (idleCycles p 1 t)) s) :=
  runs_runOp _ _ (by simp) (fun _ _ _ => by simp) s

theorem runs_programWrite (p a v) (s) : Runs windowParts s (.next (programWrite p a v s)) := by simp

theorem runs_programRead (p a) (s) : Runs windowParts s (.next (programRead p a s)) := by simp

/-! ### The commands -/

theorem runs_execBreachRecord (p s) : Runs [.hst, .pld, .ctr] s (execBreachRecord p s) := by unfold execBreachRecord; split <;> simp
theorem runs_execCoreStart (p s) : Runs [.pmu, .pld] s (execCoreStart p s) := by unfold execCoreStart; simp
theorem runs_execCryptoOpStart (p s) : Runs [.pld] s (execCryptoOpStart p s) := by unfold execCryptoOpStart; split <;> simp
theorem runs_execCryptoDone (p s) : Runs [.pld, .ctr, .fresh] s (execCryptoDone p s) := by unfold execCryptoDone; dsimp only; (repeat' split) <;> simp
theorem runs_execBasinSense (s) : Runs [.pmu, .basin] s (execBasinSense s) := by unfold execBasinSense; simp
theorem runs_execSluiceTransfer (p k s) : Runs [.pld] s (execSluiceTransfer p k s) := by unfold execSluiceTransfer; dsimp only; (repeat' split) <;> simp
theorem runs_execSluiceDeliver (p k s) : Runs [.pld, .ctr] s (execSluiceDeliver p k s) := by unfold execSluiceDeliver; dsimp only; split <;> simp
theorem runs_execVinOutOfRange (s) : Runs [.pmu, .hst, .obs, .basin, .ctr] s (execVinOutOfRange s) := by unfold execVinOutOfRange; simp
theorem runs_execGuaranteeVoidClear (s) : Runs [.pmu, .hst, .obs, .basin, .ctr] s (execGuaranteeVoidClear s) := by unfold execGuaranteeVoidClear; simp
theorem runs_execBasinLatch (p addr s) : Runs windowParts s (execBasinLatch p addr s) := by unfold execBasinLatch; simp
theorem runs_execPendClear (p mask s) : Runs windowParts s (execPendClear p mask s) := by unfold execPendClear; simp
theorem runs_execRegisterWrite (p addr v s) : Runs windowParts s (execRegisterWrite p addr v s) := by unfold execRegisterWrite; simp
theorem runs_execInterruptEntry (p s) : Runs windowParts s (execInterruptEntry p s) := by unfold execInterruptEntry; dsimp only; (repeat' split) <;> simp
theorem runs_execWaitWake (p s) : Runs windowParts s (execWaitWake p s) := by unfold execWaitWake; dsimp only; (repeat' split) <;> simp
theorem runs_execFetchVoid (p s) : Runs [.obs, .pld, .ctr] s (execFetchVoid p s) := by unfold execFetchVoid; split <;> simp
theorem runs_execReservedOp (p s) : Runs [.obs, .pld, .ctr, .fresh] s (execReservedOp p s) := by unfold execReservedOp; split <;> simp

end Sys2Proof.Machine
end

section
/-!
SUPPORT. Frames of clocks, modes, power and boot (01_architecture, 15_power, 16_clocks, 17_boot_image): the parts that each operation and each command writes.
-/

namespace Sys2Proof.Machine

variable {l : List Part} {s t u : State}

@[simp] theorem touches_pllaLoss : Touches [.spt, .clk, .hst, .obs, .basin, .ctr] pllaLoss := Touches.of fun u => by unfold pllaLoss; simp
@[simp] theorem touches_relockAll : Touches [.clk] relockAll := Touches.of fun u => by unfold relockAll; simp
@[simp] theorem touches_changeReference : Touches [.clk, .obs, .ctr] changeReference := Touches.of fun u => by unfold changeReference; simp
@[simp] theorem touches_bootIfFree : Touches [.aon, .pmu, .clk, .mode] bootIfFree := Touches.of fun u => by unfold bootIfFree; simp
@[simp] theorem touches_ruleCheck : Touches [.mode, .basin] ruleCheck := Touches.of fun u => by unfold ruleCheck; simp
@[simp] theorem touches_refreshSet : Touches [.ary, .trk, .pmu, .hst, .obs, .basin, .ctr] refreshSet := Touches.of fun u => by unfold refreshSet; simp
@[simp] theorem touches_filtersFor (m) : Touches [.sol] (filtersFor m) := Touches.of fun u => by unfold filtersFor; simp
@[simp] theorem touches_endFix (ok) : Touches [.mode] (endFix ok) := Touches.of fun u => by unfold endFix; simp
@[simp] theorem touches_dropSteps (p) : Touches [.spt, .obs, .ctr] (dropSteps p) := Touches.of fun u => by unfold dropSteps; simp
@[simp] theorem touches_onStop (d) : Touches [.spt, .pmu, .clk, .obs, .pld, .ctr] (onStop d) := Touches.of fun u => by unfold onStop; split <;> simp
@[simp] theorem touches_onSave (d) : Touches [.pld] (onSave d) := Touches.of fun u => by unfold onSave; split <;> simp
@[simp] theorem touches_onOff (d) : Touches [.spt, .trk, .clk, .hst, .obs, .basin, .ctr] (onOff d) := Touches.of fun u => by unfold onOff; split <;> simp

@[simp] theorem touches_portsChanged (d) : Touches [.ary, .trk, .pmu, .hst, .obs, .basin, .ctr] (portsChanged d) :=
  Touches.of fun u => by unfold portsChanged; split <;> simp

@[simp] theorem touches_resumeCore (p) : Touches [.pld] (resumeCore p) := Touches.of fun u => by unfold resumeCore; simp
@[simp] theorem touches_onUp (d) : Touches [.spt, .trk, .clk, .pld] (onUp d) := Touches.of fun u => by unfold onUp; split <;> simp

@[simp] theorem touches_powerUp (d) : Touches [.spt, .trk, .pmu, .clk, .pld] (powerUp d) :=
  Touches.of fun u => by unfold powerUp; dsimp only; (repeat' split) <;> simp

@[simp] theorem touches_setAgain (d v) : Touches [.pmu] (setAgain d v) := Touches.of fun u => by unfold setAgain; simp
@[simp] theorem touches_notePmu : Touches [.pmu, .hst, .obs, .ctr] notePmu := Touches.of fun u => by unfold notePmu; simp
@[simp] theorem touches_setGov (l) : Touches [.ary, .trk, .aon, .pmu, .hst, .obs, .basin, .ctr] (setGov l) := Touches.of fun u => by unfold setGov; simp
@[simp] theorem touches_govSample : Touches [.ary, .trk, .aon, .pmu, .hst, .obs, .basin, .ctr] govSample := Touches.of fun u => by unfold govSample; simp
@[simp] theorem touches_setDisagree : Touches [.aon, .pmu, .hst, .obs, .ctr] setDisagree := Touches.of fun u => by unfold setDisagree; simp
@[simp] theorem touches_gaugeSample : Touches [.aon, .pmu, .hst, .obs, .ctr] gaugeSample := Touches.of fun u => by unfold gaugeSample; simp
@[simp] theorem touches_voltageRanks : Touches deviceParts voltageRanks := Touches.of fun u => by unfold voltageRanks; dsimp only; (repeat' split) <;> simp
@[simp] theorem touches_enterSafe (f) : Touches [.boot, .mode] (enterSafe f) := Touches.of fun u => by unfold enterSafe; simp
@[simp] theorem touches_allOff : Touches [.pmu] allOff := Touches.of fun u => by unfold allOff; simp
@[simp] theorem touches_toPhase (p) : Touches [.boot] (toPhase p) := Touches.of fun u => by unfold toPhase; simp
@[simp] theorem touches_fallbackPath : Touches [.sky, .clk, .boot, .mode] fallbackPath := Touches.of fun u => by unfold fallbackPath; simp
@[simp] theorem touches_flashSend (l wait) : Touches [.boot] (flashSend l wait) := Touches.of fun u => by unfold flashSend; simp
@[simp] theorem touches_imageIn (l) : Touches [.pmu, .boot] (imageIn l) := Touches.of fun u => by unfold imageIn; simp
@[simp] theorem touches_beginPolder (p) : Touches windowParts (beginPolder p) := Touches.of fun u => by unfold beginPolder; simp
@[simp] theorem touches_powerCold : Touches [.pmu] powerCold := Touches.of fun u => by unfold powerCold; simp
@[simp] theorem touches_applyBlocks : Touches [.spt, .aon, .clk, .hst] applyBlocks := Touches.of fun u => by unfold applyBlocks; simp
@[simp] theorem touches_measurePipe : Touches [.lnk, .fresh] measurePipe := Touches.of fun u => by unfold measurePipe; simp
@[simp] theorem touches_drawMark : Touches [.boot, .fresh] drawMark := Touches.of fun u => by unfold drawMark; simp
@[simp] theorem touches_firstTrigger : Touches [.spt] firstTrigger := Touches.of fun u => by unfold firstTrigger; simp
@[simp] theorem touches_firstCkd : Touches [.clk] firstCkd := Touches.of fun u => by unfold firstCkd; simp
@[simp] theorem touches_calBoot : Touches [.ary] calBoot := Touches.of fun u => by unfold calBoot; simp
@[simp] theorem touches_setKey (p k) : Touches [.pld] (setKey p k) := Touches.of fun u => by unfold setKey; simp
@[simp] theorem touches_loadRam (p) : Touches [.pld] (loadRam p) := Touches.of fun u => by unfold loadRam; (repeat' split) <;> simp
@[simp] theorem touches_loadRoster (p) : Touches [.lnk] (loadRoster p) := Touches.of fun u => by unfold loadRoster; simp
@[simp] theorem touches_loadSluices (p) : Touches [.pld] (loadSluices p) := Touches.of fun u => by unfold loadSluices; simp
@[simp] theorem touches_loadPlain (p l) : Touches [.lnk, .boot, .obs, .pld, .ctr] (loadPlain p l) := Touches.of fun u => by unfold loadPlain; simp

/-! ### The commands -/

theorem runs_execCkdRestart (s) : Runs [.clk, .hst, .obs, .ctr] s (execCkdRestart s) := by unfold execCkdRestart; simp
theorem runs_execPllLock (l s) : Runs [.sky, .clk, .hst, .obs, .ctr] s (execPllLock l s) := by unfold execPllLock; dsimp only; (repeat' split) <;> simp
theorem runs_execPllLoss (l s) : Runs deviceParts s (execPllLoss l s) := by unfold execPllLoss; (repeat' split) <;> simp
theorem runs_execReferenceLoss (s) : Runs deviceParts s (execReferenceLoss s) := by unfold execReferenceLoss; simp
theorem runs_execRelockTimeout (s) : Runs deviceParts s (execRelockTimeout s) := by unfold execRelockTimeout; simp
theorem runs_execExt10mWindow (edges s) : Runs [.clk, .hst, .obs, .ctr] s (execExt10mWindow edges s) := by unfold execExt10mWindow; simp
theorem runs_execVinThresholdRise (s) : Runs [.aon, .pmu, .clk, .mode] s (execVinThresholdRise s) := by unfold execVinThresholdRise; simp
theorem runs_execBrownout (s) : Runs deviceParts s (execBrownout s) := by unfold execBrownout; simp
theorem runs_execBrownoutRecovery (s) : Runs [.aon, .pmu, .clk, .mode] s (execBrownoutRecovery s) := by unfold execBrownoutRecovery; simp
theorem runs_execVinLoss (s) : Runs deviceParts s (execVinLoss s) := by unfold execVinLoss; simp

theorem runs_execResetNAssert (ns s) :
    Runs [.spt, .ary, .acq, .trk, .msr, .sol, .snf, .sky, .lnk, .rfc, .aon, .pmu, .clk, .boot, .mode, .hst, .obs, .pld, .basin, .ctr, .fresh] s (execResetNAssert ns s) := by
  unfold execResetNAssert
  simp

theorem runs_execResetNRelease (testN s) : Runs [.aon, .pmu, .clk, .mode] s (execResetNRelease testN s) := by unfold execResetNRelease; simp
theorem runs_execVbatResume (vbat s) : Runs [.aon, .pmu, .clk, .mode] s (execVbatResume vbat s) := by unfold execVbatResume; simp
theorem runs_execModeRuleCheck (s) : Runs [.mode, .basin] s (execModeRuleCheck s) := by unfold execModeRuleCheck; simp

theorem runs_execModeTransition (s) : Runs [.ary, .trk, .sol, .pmu, .mode, .hst, .obs, .basin, .ctr] s (execModeTransition s) := by
  unfold execModeTransition
  split <;> simp

theorem runs_execHoldEnter (s) : Runs [.mode] s (execHoldEnter s) := by unfold execHoldEnter; simp
theorem runs_execHoldExit (s) : Runs [.mode] s (execHoldExit s) := by unfold execHoldExit; simp
theorem runs_execSurveyMax (s) : Runs [.mode] s (execSurveyMax s) := by unfold execSurveyMax; simp
theorem runs_execLayupFixStart (s) : Runs [.clk, .mode, .obs, .ctr] s (execLayupFixStart s) := by unfold execLayupFixStart; simp
theorem runs_execLayupFixTimeout (s) : Runs [.mode] s (execLayupFixTimeout s) := by unfold execLayupFixTimeout; split <;> simp
theorem runs_execLayupFixEnd (s) : Runs [.mode] s (execLayupFixEnd s) := by unfold execLayupFixEnd; simp

theorem runs_execDomainDown (d s) : Runs [.spt, .ary, .trk, .pmu, .clk, .hst, .obs, .pld, .basin, .ctr] s (execDomainDown d s) := by
  unfold execDomainDown
  dsimp only
  (repeat' split) <;> simp

theorem runs_execDomainUp (d s) : Runs [.spt, .ary, .trk, .pmu, .clk, .hst, .obs, .pld, .basin, .ctr] s (execDomainUp d s) := by
  unfold execDomainUp
  dsimp only
  (repeat' split) <;> simp

theorem runs_execThinWindowOpen (s) : Runs [.spt, .trk, .pmu, .clk, .pld] s (execThinWindowOpen s) := by unfold execThinWindowOpen; simp
theorem runs_execThinWindowClose (s) : Runs [.spt, .pmu, .clk, .obs, .pld, .ctr] s (execThinWindowClose s) := by unfold execThinWindowClose; simp
theorem runs_execI2cAddressMatch (addr read s) : Runs [.pmu, .hst, .obs, .ctr] s (execI2cAddressMatch addr read s) := by unfold execI2cAddressMatch; simp
theorem runs_execUartBreakWake (s) : Runs [.pmu, .hst, .obs, .ctr] s (execUartBreakWake s) := by unfold execUartBreakWake; simp
theorem runs_execHostIdle (s) : Runs [.pmu] s (execHostIdle s) := by unfold execHostIdle; simp

theorem runs_execGovernorLevelChange (s) : Runs [.ary, .trk, .aon, .pmu, .hst, .obs, .basin, .ctr] s (execGovernorLevelChange s) := by
  unfold execGovernorLevelChange
  split <;> simp

theorem runs_execGaugeAnchor (s) : Runs [.aon, .pmu, .hst, .obs, .ctr] s (execGaugeAnchor s) := by unfold execGaugeAnchor; split <;> simp

theorem runs_execPmuSample (tj vbat vin current s) : Runs deviceParts s (execPmuSample tj vbat vin current s) := by
  unfold execPmuSample
  dsimp only
  (repeat' split) <;> simp

theorem runs_execSafeRecord (s) : Runs [.pmu, .boot, .hst] s (execSafeRecord s) := by unfold execSafeRecord; split <;> simp
theorem runs_execReferenceDetection (edges s) : Runs [.sky, .clk, .boot, .mode] s (execReferenceDetection edges s) := by unfold execReferenceDetection; simp
theorem runs_execBootPllLock (s) : Runs [.boot] s (execBootPllLock s) := by unfold execBootPllLock; simp
theorem runs_execTBootwaitExpiry (s) : Runs [.sky, .clk, .boot, .mode] s (execTBootwaitExpiry s) := by unfold execTBootwaitExpiry; simp

theorem runs_execHeaderRead (answers bytes s) : Runs [.boot, .mode] s (execHeaderRead answers bytes s) := by
  unfold execHeaderRead
  dsimp only
  (repeat' split) <;> simp

theorem runs_execEntrySend (k s) : Runs [.boot] s (execEntrySend k s) := by unfold execEntrySend; simp
theorem runs_execHeaderReread (bytes s) : Runs [.boot, .mode] s (execHeaderReread bytes s) := by unfold execHeaderReread; simp
theorem runs_execImageReadDone (bytes dqsStall s) : Runs [.pmu, .boot, .mode] s (execImageReadDone bytes dqsStall s) := by unfold execImageReadDone; simp

theorem runs_execFallbackImageRead (answers bytes s) : Runs [.pmu, .boot, .mode] s (execFallbackImageRead answers bytes s) := by
  unfold execFallbackImageRead
  dsimp only
  (repeat' split) <;> simp

theorem runs_execCommonVerification (s) : Runs [.clk, .boot, .mode, .obs, .ctr] s (execCommonVerification s) := by
  unfold execCommonVerification
  dsimp only
  (repeat' split) <;> simp

theorem runs_execConfigurationStep (s) :
    Runs [.spt, .ary, .trk, .snf, .sky, .lnk, .rfc, .aon, .pmu, .clk, .boot, .mode, .hst, .obs, .pld, .basin, .ctr, .fresh] s (execConfigurationStep s) := by
  unfold execConfigurationStep
  simp

theorem runs_execSeReset (p s) : Runs [.hst, .pld] s (execSeReset p s) := by unfold execSeReset; simp
theorem runs_execAtrTimeout (p s) : Runs windowParts s (execAtrTimeout p s) := by unfold execAtrTimeout; simp
theorem runs_execUnwrap (p sw s) : Runs windowParts s (execUnwrap p sw s) := by unfold execUnwrap; simp
theorem runs_execGetResponse (p resp sw s) : Runs windowParts s (execGetResponse p resp sw s) := by unfold execGetResponse; simp
theorem runs_execSeSilent (p s) : Runs windowParts s (execSeSilent p s) := by unfold execSeSilent; simp

theorem runs_execSegmentLoad (p s) : Runs [.snf, .sky, .lnk, .pmu, .boot, .hst, .obs, .pld, .ctr] s (execSegmentLoad p s) := by
  unfold execSegmentLoad
  split <;> simp

end Sys2Proof.Machine
end

section
/-!
SUPPORT. Frames of the core's jumps, frames and moves (14_ohmore_isa): the parts that each operation and each command writes.
-/

namespace Sys2Proof.Machine

variable {l : List Part} {s t u : State}

@[simp] theorem touches_dbnzReg (p c i r w) : Touches [.pld] (fun s => (dbnzReg p c i r w s).2) := Touches.of fun u => by unfold dbnzReg; simp
@[simp] theorem touches_dbnzByte (p c i) : Touches windowParts (fun s => (dbnzByte p c i s).2) := Touches.of fun u => by unfold dbnzByte; simp
@[simp] theorem touches_rtiFrame (p c) : Touches windowParts (fun s => (rtiFrame p c s).2) := Touches.of fun u => by unfold rtiFrame; dsimp only; split <;> simp

@[simp] theorem touches_startRepeat (p interruptible c i) : Touches [.pld] (fun s => (startRepeat p interruptible c i s).2) :=
  Touches.of fun u => by unfold startRepeat; simp

@[simp] theorem touches_waitStop (p) : Touches [.pld, .ctr] (waitStop p) := Touches.of fun u => by unfold waitStop; simp
@[simp] theorem touches_moveByte (p d c) : Touches windowParts (fun s => (moveByte p d c s).2) := Touches.of fun u => by unfold moveByte; simp

/-! ### The commands -/

theorem runs_execWait (p s) : Runs [.obs, .pld, .ctr] s (execWait p s) := by
  obtain ⟨t, ht, h⟩ := runs_runOp (L := [.obs, .pld, .ctr]) p .wait (body := fun _ _ t => ({}, idleCycles p 1 (drainAll p t))) (by simp) (fun _ _ _ => by simp) s
  unfold execWait
  rw [ht]
  split
  · rename_i hn _
    cases hn
    simp [h]
  · simp [h]

end Sys2Proof.Machine
end

section
/-!
SUPPORT. Every command completes, and writes no part but those that its family owns: the frames of the commands put together along the table of the commands.
-/

namespace Sys2Proof.Machine

/-- Every command in every state answers a next state, which differs within the command's footprint only. -/
theorem exec_runs (c : Instr) (s : State) : Runs (footprint c) s (exec c s) := by
  cases c with
  | vinThresholdRise => exact runs_execVinThresholdRise s
  | brownout => exact runs_execBrownout s
  | vinLoss => exact runs_execVinLoss s
  | resetNAssert ns => exact runs_execResetNAssert ns s
  | resetNRelease testN => exact runs_execResetNRelease testN s
  | referenceDetection edges => exact runs_execReferenceDetection edges s
  | bootPllLock => exact runs_execBootPllLock s
  | tBootwaitExpiry => exact runs_execTBootwaitExpiry s
  | headerRead answers bytes => exact runs_execHeaderRead answers bytes s
  | entrySend k => exact runs_execEntrySend k s
  | headerReread bytes => exact runs_execHeaderReread bytes s
  | imageReadDone bytes dqsStall => exact runs_execImageReadDone bytes dqsStall s
  | fallbackImageRead answers bytes => exact runs_execFallbackImageRead answers bytes s
  | commonVerification => exact runs_execCommonVerification s
  | configurationStep => exact runs_execConfigurationStep s
  | safeRecord => exact runs_execSafeRecord s
  | modeRuleCheck => exact runs_execModeRuleCheck s
  | modeTransition => exact runs_execModeTransition s
  | holdEnter => exact runs_execHoldEnter s
  | holdExit => exact runs_execHoldExit s
  | surveyMax => exact runs_execSurveyMax s
  | vbatResume vbat => exact runs_execVbatResume vbat s
  | layupFixStart => exact runs_execLayupFixStart s
  | layupFixTimeout => exact runs_execLayupFixTimeout s
  | layupFixEnd => exact runs_execLayupFixEnd s
  | frameWord port fsOk w0 w1 w2 w3 => exact runs_execFrameWord port fsOk w0 w1 w2 w3 s
  | syncLost port => exact runs_execSyncLost port s
  | syncRegain port => exact runs_execSyncRegain port s
  | guardWindow port lane => exact runs_execGuardWindow port lane s
  | samplePortTrigger => exact runs_execSamplePortTrigger s
  | feinitEntry rx => exact runs_execFeinitEntry rx s
  | gainLoopMs port lane => exact runs_execGainLoopMs port lane s
  | fixedReturnStep port lane => exact runs_execFixedReturnStep port lane s
  | gainStep port => exact runs_execGainStep port s
  | gainUnaligned port => exact runs_execGainUnaligned port s
  | bhTxRise => exact runs_execBhTxRise s
  | bhTxFall => exact runs_execBhTxFall s
  | blankTailEnd => exact runs_execBlankTailEnd s
  | nullWeightUpdate band valid total cov => exact runs_execNullWeightUpdate band valid total cov s
  | quietReferenceInit band => exact runs_execQuietReferenceInit band s
  | jamLevelChange band => exact runs_execJamLevelChange band s
  | calUpdate ant band sigs => exact runs_execCalUpdate ant band sigs s
  | aoaMeasure sigs => exact runs_execAoaMeasure sigs s
  | spoofEval preds => exact runs_execSpoofEval preds s
  | spoofRaise => exact runs_execSpoofRaise s
  | spoofClear => exact runs_execSpoofClear s
  | spoofReleaseUnverified => exact runs_execSpoofReleaseUnverified s
  | acqTaskStart offers => exact runs_execAcqTaskStart offers s
  | acqRecordComplete lane => exact runs_execAcqRecordComplete lane s
  | acqStep lane ivs => exact runs_execAcqStep lane ivs s
  | acqVerify lane ivs => exact runs_execAcqVerify lane ivs s
  | handover lane => exact runs_execHandover lane s
  | trackDump ch d => exact runs_execTrackDump ch d s
  | coastExpiry ch => exact runs_execCoastExpiry ch s
  | pullFail ch => exact runs_execPullFail ch s
  | lossTExpiry ch => exact runs_execLossTExpiry ch s
  | reacqExpiry ch => exact runs_execReacqExpiry ch s
  | weakSwitch ch => exact runs_execWeakSwitch ch s
  | freqRecovery ch => exact runs_execFreqRecovery ch s
  | cn0Update ch => exact runs_execCn0Update ch s
  | arraySpawn ch => exact runs_execArraySpawn ch s
  | beamTakeover ch => exact runs_execBeamTakeover ch s
  | beamTimeout ch => exact runs_execBeamTimeout ch s
  | beamReturn ch => exact runs_execBeamReturn ch s
  | measurementEpoch => exact runs_execMeasurementEpoch s
  | stationMessages => exact runs_execStationMessages s
  | navCheckUnit ch u => exact runs_execNavCheckUnit ch u s
  | symbolRecord ch => exact runs_execSymbolRecord ch s
  | standaloneUpdate sol clk => exact runs_execStandaloneUpdate sol clk s
  | preciseUpdate sol ambs ils => exact runs_execPreciseUpdate sol ambs ils s
  | attitudeUpdate sol => exact runs_execAttitudeUpdate sol s
  | integrityEval std prec => exact runs_execIntegrityEval std prec s
  | solSkip f => exact runs_execSolSkip f s
  | positionHold => exact runs_execPositionHold s
  | exclHoldExpiry sat => exact runs_execExclHoldExpiry sat s
  | correctionExpiry item => exact runs_execCorrectionExpiry item s
  | envelopeVerifyStart => exact runs_execEnvelopeVerifyStart s
  | envelopeVerdict => exact runs_execEnvelopeVerdict s
  | nmeaOutput => exact runs_execNmeaOutput s
  | solSatRecord => exact runs_execSolSatRecord s
  | statusPublish => exact runs_execStatusPublish s
  | historyEntry => exact runs_execHistoryEntry s
  | snapshotDelivery chan => exact runs_execSnapshotDelivery chan s
  | farmSlotStart dets solves => exact runs_execFarmSlotStart dets solves s
  | farmResult => exact runs_execFarmResult s
  | snfPop p => exact (runs_programWrite .. : Runs _ s (execSnfPop p s))
  | snfHold p v => exact (runs_programWrite .. : Runs _ s (execSnfHold p v s))
  | snfWakeEn p v => exact (runs_programWrite .. : Runs _ s (execSnfWakeEn p v s))
  | ordinaryUpdate => exact runs_execOrdinaryUpdate s
  | switchBoundary => exact runs_execSwitchBoundary s
  | firstAlignment => exact runs_execFirstAlignment s
  | permittedStep => exact runs_execPermittedStep s
  | gnssReturn => exact runs_execGnssReturn s
  | extPpsEdge bin => exact runs_execExtPpsEdge bin s
  | extPpsMissing => exact runs_execExtPpsMissing s
  | driftVoteWindow => exact runs_execDriftVoteWindow s
  | disqualification c => exact runs_execDisqualification c s
  | undecided => exact runs_execUndecided s
  | requalification c => exact runs_execRequalification c s
  | tpDecision tp => exact runs_execTpDecision tp s
  | timePulseEdge tp => exact runs_execTimePulseEdge tp s
  | tpInactiveEdge tp => exact runs_execTpInactiveEdge tp s
  | evtCapture pin rising bin => exact runs_execEvtCapture pin rising bin s
  | schedulerFire => exact runs_execSchedulerFire s
  | schedArm p => exact (runs_programWrite .. : Runs _ s (execSchedArm p s))
  | schedCancel p => exact (runs_programWrite .. : Runs _ s (execSchedCancel p s))
  | schedPop p => exact (runs_programWrite .. : Runs _ s (execSchedPop p s))
  | schedWakeEn p v => exact (runs_programWrite .. : Runs _ s (execSchedWakeEn p v s))
  | nowLatch p => exact (runs_programRead .. : Runs _ s (execNowLatch p s))
  | frameSyncDetect chan f => exact runs_execFrameSyncDetect chan f s
  | frameReceive chan body mic => exact runs_execFrameReceive chan body mic s
  | rxCut chan => exact runs_execRxCut chan s
  | gatewayAck chan => exact runs_execGatewayAck chan s
  | tagAck ctx body mic us => exact runs_execTagAck ctx body mic us s
  | tagAckTimeout ctx => exact runs_execTagAckTimeout ctx s
  | retry ctx => exact runs_execRetry ctx s
  | beaconLaunch => exact runs_execBeaconLaunch s
  | txSubmit p => exact (runs_programWrite .. : Runs _ s (execTxSubmit p s))
  | txCancel p => exact (runs_programWrite .. : Runs _ s (execTxCancel p s))
  | launch p handle => exact runs_execLaunch p handle s
  | relaunch p ctx => exact runs_execRelaunch p ctx s
  | rosterLoadState p => exact (runs_programWrite .. : Runs _ s (execRosterLoadState p s))
  | rosterLoadKey p => exact (runs_programWrite .. : Runs _ s (execRosterLoadKey p s))
  | rxPop p => exact (runs_programWrite .. : Runs _ s (execRxPop p s))
  | rxWake p v => exact (runs_programWrite .. : Runs _ s (execRxWake p v s))
  | dpdUpdate => exact runs_execDpdUpdate s
  | noiseFloor levels => exact runs_execNoiseFloor levels s
  | lsynRetune locked => exact runs_execLsynRetune locked s
  | emissionDecision lbt gnt => exact runs_execEmissionDecision lbt gnt s
  | emissionEnd => exact runs_execEmissionEnd s
  | coexReq => exact runs_execCoexReq s
  | coexPriRise => exact runs_execCoexPriRise s
  | coexPriFall => exact runs_execCoexPriFall s
  | quietPinRise => exact runs_execQuietPinRise s
  | quietPinFall => exact runs_execQuietPinFall s
  | quietTransitExit => exact runs_execQuietTransitExit s
  | profileSetChange => exact runs_execProfileSetChange s
  | profileHoldExpiry => exact runs_execProfileHoldExpiry s
  | cryptoGcmEncrypt p key256 => exact (runs_programWrite .. : Runs _ s (execCryptoGcmEncrypt p key256 s))
  | cryptoGcmDecrypt p key256 => exact (runs_programWrite .. : Runs _ s (execCryptoGcmDecrypt p key256 s))
  | cryptoCcmEncrypt p key256 => exact (runs_programWrite .. : Runs _ s (execCryptoCcmEncrypt p key256 s))
  | cryptoCcmDecrypt p key256 => exact (runs_programWrite .. : Runs _ s (execCryptoCcmDecrypt p key256 s))
  | cryptoSha256 p final => exact (runs_programWrite .. : Runs _ s (execCryptoSha256 p final s))
  | cryptoEcdsaVerify p => exact (runs_programWrite .. : Runs _ s (execCryptoEcdsaVerify p s))
  | cryptoTrng p => exact (runs_programWrite .. : Runs _ s (execCryptoTrng p s))
  | cryptoOpStart p => exact runs_execCryptoOpStart p s
  | cryptoDone p => exact runs_execCryptoDone p s
  | breachRecord p => exact runs_execBreachRecord p s
  | coreStart p => exact runs_execCoreStart p s
  | basinLatch p addr => exact runs_execBasinLatch p addr s
  | basinSense => exact runs_execBasinSense s
  | sluiceTransfer p k => exact runs_execSluiceTransfer p k s
  | sluiceDeliver p k => exact runs_execSluiceDeliver p k s
  | sluiceSend p k => exact (runs_programWrite .. : Runs _ s (execSluiceSend p k s))
  | sluicePop p k => exact (runs_programWrite .. : Runs _ s (execSluicePop p k s))
  | sluiceWakeEn p k v => exact (runs_programWrite .. : Runs _ s (execSluiceWakeEn p k v s))
  | seReset p => exact runs_execSeReset p s
  | atrTimeout p => exact runs_execAtrTimeout p s
  | unwrap p sw => exact runs_execUnwrap p sw s
  | getResponse p resp sw => exact runs_execGetResponse p resp sw s
  | seSilent p => exact runs_execSeSilent p s
  | segmentLoad p => exact runs_execSegmentLoad p s
  | vinOutOfRange => exact runs_execVinOutOfRange s
  | guaranteeVoidClear => exact runs_execGuaranteeVoidClear s
  | interruptEntry p => exact runs_execInterruptEntry p s
  | waitWake p => exact runs_execWaitWake p s
  | pendClear p mask => exact runs_execPendClear p mask s
  | dryClear p => exact (runs_programWrite .. : Runs _ s (execDryClear p s))
  | restartedClear p => exact (runs_programWrite .. : Runs _ s (execRestartedClear p s))
  | registerWrite p addr v => exact runs_execRegisterWrite p addr v s
  | lda p => exact (runs_runOp _ _ (by simp) (fun _ _ _ => by dsimp only; simp) s : Runs windowParts s (execLda p s))
  | sta p => exact (runs_runOp _ _ (by simp) (fun _ _ _ => by dsimp only; simp) s : Runs windowParts s (execSta p s))
  | add p => exact (runs_accOp .. : Runs _ s (execAdd p s))
  | adc p => exact (runs_accOp .. : Runs _ s (execAdc p s))
  | sub p => exact (runs_accOp .. : Runs _ s (execSub p s))
  | sbc p => exact (runs_accOp .. : Runs _ s (execSbc p s))
  | and p => exact (runs_accOp .. : Runs _ s (execAnd p s))
  | ora p => exact (runs_accOp .. : Runs _ s (execOra p s))
  | eor p => exact (runs_accOp .. : Runs _ s (execEor p s))
  | cmp p => exact (runs_accOp .. : Runs _ s (execCmp p s))
  | addd p => exact (runs_accOp .. : Runs _ s (execAddd p s))
  | subd p => exact (runs_accOp .. : Runs _ s (execSubd p s))
  | daa p => exact (runs_inhOp .. : Runs _ s (execDaa p s))
  | ldx p => exact (runs_runOp _ _ (by simp) (fun _ _ _ => by dsimp only; simp) s : Runs windowParts s (execLdx p s))
  | ldy p => exact (runs_runOp _ _ (by simp) (fun _ _ _ => by dsimp only; simp) s : Runs windowParts s (execLdy p s))
  | stx p => exact (runs_runOp _ _ (by simp) (fun _ _ _ => by dsimp only; simp) s : Runs windowParts s (execStx p s))
  | sty p => exact (runs_runOp _ _ (by simp) (fun _ _ _ => by dsimp only; simp) s : Runs windowParts s (execSty p s))
  | cpx p => exact (runs_runOp _ _ (by simp) (fun _ _ _ => by dsimp only; simp) s : Runs windowParts s (execCpx p s))
  | cpy p => exact (runs_runOp _ _ (by simp) (fun _ _ _ => by dsimp only; simp) s : Runs windowParts s (execCpy p s))
  | adx p => exact (runs_runOp _ _ (by simp) (fun _ _ _ => by dsimp only; simp) s : Runs [.obs, .pld, .ctr] s (execAdx p s))
  | ady p => exact (runs_runOp _ _ (by simp) (fun _ _ _ => by dsimp only; simp) s : Runs [.obs, .pld, .ctr] s (execAdy p s))
  | inc p => exact (runs_rmwOp .. : Runs _ s (execInc p s))
  | dec p => exact (runs_rmwOp .. : Runs _ s (execDec p s))
  | asl p => exact (runs_rmwOp .. : Runs _ s (execAsl p s))
  | lsr p => exact (runs_rmwOp .. : Runs _ s (execLsr p s))
  | rol p => exact (runs_rmwOp .. : Runs _ s (execRol p s))
  | ror p => exact (runs_rmwOp .. : Runs _ s (execRor p s))
  | clr p => exact (runs_runOp _ _ (by simp) (fun _ _ _ => by dsimp only; simp) s : Runs windowParts s (execClr p s))
  | inca p => exact (runs_inhOp .. : Runs _ s (execInca p s))
  | deca p => exact (runs_inhOp .. : Runs _ s (execDeca p s))
  | asla p => exact (runs_inhOp .. : Runs _ s (execAsla p s))
  | lsra p => exact (runs_inhOp .. : Runs _ s (execLsra p s))
  | rola p => exact (runs_inhOp .. : Runs _ s (execRola p s))
  | rora p => exact (runs_inhOp .. : Runs _ s (execRora p s))
  | clra p => exact (runs_inhOp .. : Runs _ s (execClra p s))
  | nega p => exact (runs_inhOp .. : Runs _ s (execNega p s))
  | coma p => exact (runs_inhOp .. : Runs _ s (execComa p s))
  | clc p => exact (runs_runOp _ _ (by simp) (fun _ _ _ => by dsimp only; simp) s : Runs [.obs, .pld, .ctr] s (execClc p s))
  | sec p => exact (runs_runOp _ _ (by simp) (fun _ _ _ => by dsimp only; simp) s : Runs [.obs, .pld, .ctr] s (execSec p s))
  | di p => exact (runs_runOp _ _ (by simp) (fun _ _ _ => by dsimp only; simp) s : Runs [.obs, .pld, .ctr] s (execDi p s))
  | ei p => exact (runs_runOp _ _ (by simp) (fun _ _ _ => by dsimp only; simp) s : Runs [.obs, .pld, .ctr] s (execEi p s))
  | nop p => exact (runs_runOp _ _ (by simp) (fun _ _ _ => by dsimp only; simp) s : Runs [.obs, .pld, .ctr] s (execNop p s))
  | wait p => exact runs_execWait p s
  | tax p => exact (runs_runOp _ _ (by simp) (fun _ _ _ => by dsimp only; simp) s : Runs [.obs, .pld, .ctr] s (execTax p s))
  | tay p => exact (runs_runOp _ _ (by simp) (fun _ _ _ => by dsimp only; simp) s : Runs [.obs, .pld, .ctr] s (execTay p s))
  | txa p => exact (runs_runOp _ _ (by simp) (fun _ _ _ => by dsimp only; simp) s : Runs [.obs, .pld, .ctr] s (execTxa p s))
  | tya p => exact (runs_runOp _ _ (by simp) (fun _ _ _ => by dsimp only; simp) s : Runs [.obs, .pld, .ctr] s (execTya p s))
  | txy p => exact (runs_runOp _ _ (by simp) (fun _ _ _ => by dsimp only; simp) s : Runs [.obs, .pld, .ctr] s (execTxy p s))
  | tyx p => exact (runs_runOp _ _ (by simp) (fun _ _ _ => by dsimp only; simp) s : Runs [.obs, .pld, .ctr] s (execTyx p s))
  | tsx p => exact (runs_runOp _ _ (by simp) (fun _ _ _ => by dsimp only; simp) s : Runs [.obs, .pld, .ctr] s (execTsx p s))
  | txs p => exact (runs_runOp _ _ (by simp) (fun _ _ _ => by dsimp only; simp) s : Runs [.obs, .pld, .ctr] s (execTxs p s))
  | inx p => exact (runs_runOp _ _ (by simp) (fun _ _ _ => by dsimp only; simp) s : Runs [.obs, .pld, .ctr] s (execInx p s))
  | dex p => exact (runs_runOp _ _ (by simp) (fun _ _ _ => by dsimp only; simp) s : Runs [.obs, .pld, .ctr] s (execDex p s))
  | iny p => exact (runs_runOp _ _ (by simp) (fun _ _ _ => by dsimp only; simp) s : Runs [.obs, .pld, .ctr] s (execIny p s))
  | dey p => exact (runs_runOp _ _ (by simp) (fun _ _ _ => by dsimp only; simp) s : Runs [.obs, .pld, .ctr] s (execDey p s))
  | mvi p => exact (runs_runOp _ _ (by simp) (fun _ _ _ => by simp) s : Runs windowParts s (execMvi p s))
  | mvd p => exact (runs_runOp _ _ (by simp) (fun _ _ _ => by simp) s : Runs windowParts s (execMvd p s))
  | jx p => exact (runs_runOp _ _ (by simp) (fun _ _ _ => by dsimp only; simp) s : Runs [.obs, .pld, .ctr] s (execJx p s))
  | pha p => exact (runs_runOp _ _ (by simp) (fun _ _ _ => by dsimp only; simp) s : Runs windowParts s (execPha p s))
  | phf p => exact (runs_runOp _ _ (by simp) (fun _ _ _ => by dsimp only; simp) s : Runs windowParts s (execPhf p s))
  | pla p => exact (runs_runOp _ _ (by simp) (fun _ _ _ => by dsimp only; simp) s : Runs windowParts s (execPla p s))
  | plf p => exact (runs_runOp _ _ (by simp) (fun _ _ _ => by dsimp only; simp) s : Runs windowParts s (execPlf p s))
  | phx p => exact (runs_runOp _ _ (by simp) (fun _ _ _ => by dsimp only; simp) s : Runs windowParts s (execPhx p s))
  | phy p => exact (runs_runOp _ _ (by simp) (fun _ _ _ => by dsimp only; simp) s : Runs windowParts s (execPhy p s))
  | plx p => exact (runs_runOp _ _ (by simp) (fun _ _ _ => by dsimp only; simp) s : Runs windowParts s (execPlx p s))
  | ply p => exact (runs_runOp _ _ (by simp) (fun _ _ _ => by dsimp only; simp) s : Runs windowParts s (execPly p s))
  | ret p => exact (runs_runOp _ _ (by simp) (fun _ _ _ => by dsimp only; simp) s : Runs windowParts s (execRet p s))
  | rti p => exact (runs_runOp _ _ (by simp) (fun _ _ _ => by dsimp only; simp) s : Runs windowParts s (execRti p s))
  | rpt p => exact (runs_runOp _ _ (by simp) (fun _ _ _ => by simp) s : Runs [.obs, .pld, .ctr] s (execRpt p s))
  | rpti p => exact (runs_runOp _ _ (by simp) (fun _ _ _ => by simp) s : Runs [.obs, .pld, .ctr] s (execRpti p s))
  | dbnz p => exact (runs_runOp _ _ (by simp) (fun _ _ _ => by split <;> simp) s : Runs windowParts s (execDbnz p s))
  | bra p => exact (runs_branchIf .. : Runs _ s (execBra p s))
  | beq p => exact (runs_branchIf .. : Runs _ s (execBeq p s))
  | bne p => exact (runs_branchIf .. : Runs _ s (execBne p s))
  | bcs p => exact (runs_branchIf .. : Runs _ s (execBcs p s))
  | bcc p => exact (runs_branchIf .. : Runs _ s (execBcc p s))
  | bmi p => exact (runs_branchIf .. : Runs _ s (execBmi p s))
  | bpl p => exact (runs_branchIf .. : Runs _ s (execBpl p s))
  | bvs p => exact (runs_branchIf .. : Runs _ s (execBvs p s))
  | bvc p => exact (runs_branchIf .. : Runs _ s (execBvc p s))
  | bhi p => exact (runs_branchIf .. : Runs _ s (execBhi p s))
  | bls p => exact (runs_branchIf .. : Runs _ s (execBls p s))
  | bge p => exact (runs_branchIf .. : Runs _ s (execBge p s))
  | blt p => exact (runs_branchIf .. : Runs _ s (execBlt p s))
  | bgt p => exact (runs_branchIf .. : Runs _ s (execBgt p s))
  | ble p => exact (runs_branchIf .. : Runs _ s (execBle p s))
  | jmp p => exact (runs_runOp _ _ (by simp) (fun _ _ _ => by dsimp only; simp) s : Runs [.obs, .pld, .ctr] s (execJmp p s))
  | jmpi p => exact (runs_runOp _ _ (by simp) (fun _ _ _ => by dsimp only; simp) s : Runs windowParts s (execJmpi p s))
  | lds p => exact (runs_runOp _ _ (by simp) (fun _ _ _ => by dsimp only; simp) s : Runs [.obs, .pld, .ctr] s (execLds p s))
  | call p => exact (runs_runOp _ _ (by simp) (fun _ _ _ => by split <;> simp) s : Runs windowParts s (execCall p s))
  | reservedOp p => exact runs_execReservedOp p s
  | fetchVoid p => exact runs_execFetchVoid p s
  | domainDown d => exact runs_execDomainDown d s
  | domainUp d => exact runs_execDomainUp d s
  | thinWindowOpen => exact runs_execThinWindowOpen s
  | thinWindowClose => exact runs_execThinWindowClose s
  | pmuSample tj vbat vin current => exact runs_execPmuSample tj vbat vin current s
  | governorLevelChange => exact runs_execGovernorLevelChange s
  | gaugeAnchor => exact runs_execGaugeAnchor s
  | freeboardAccrual => exact runs_execFreeboardAccrual s
  | i2cAddressMatch addr read => exact runs_execI2cAddressMatch addr read s
  | uartBreakWake => exact runs_execUartBreakWake s
  | hostIdle => exact runs_execHostIdle s
  | pllLock l => exact runs_execPllLock l s
  | pllLoss l => exact runs_execPllLoss l s
  | referenceLoss => exact runs_execReferenceLoss s
  | ext10mWindow edges => exact runs_execExt10mWindow edges s
  | ckdRestart => exact runs_execCkdRestart s
  | uartCharReceive data pe fe brk noise => exact runs_execUartCharReceive data pe fe brk noise s
  | hostCycle busy => exact runs_execHostCycle busy s
  | bootRecord => exact runs_execBootRecord s
  | inboundUnit => exact runs_execInboundUnit s
  | correctionFrame => exact runs_execCorrectionFrame s
  | timeAssistance => exact runs_execTimeAssistance s
  | navAssistance content => exact runs_execNavAssistance content s
  | positionAssistance => exact runs_execPositionAssistance s
  | outSubmit p => exact (runs_programWrite .. : Runs _ s (execOutSubmit p s))
  | inPop p => exact (runs_programWrite .. : Runs _ s (execInPop p s))
  | inWake p v => exact (runs_programWrite .. : Runs _ s (execInWake p v s))
  | i2cWrite bytes => exact runs_execI2cWrite bytes s
  | i2cRead n => exact runs_execI2cRead n s
  | cardReset p v => exact (runs_programWrite .. : Runs _ s (execCardReset p v s))
  | cardClkEn p v => exact (runs_programWrite .. : Runs _ s (execCardClkEn p v s))
  | cardCharReceive p bits gap => exact runs_execCardCharReceive p bits gap s
  | cardCharSend p err => exact runs_execCardCharSend p err s
  | txData p v => exact (runs_programWrite .. : Runs _ s (execTxData p v s))
  | cardRxPop p => exact (runs_programWrite .. : Runs _ s (execCardRxPop p s))
  | cardRxWake p v => exact (runs_programWrite .. : Runs _ s (execCardRxWake p v s))
  | cardTxWake p v => exact (runs_programWrite .. : Runs _ s (execCardTxWake p v s))
  | txFailClear p => exact (runs_programWrite .. : Runs _ s (execTxFailClear p s))
  | cryptoWakeEn p v => exact (runs_programWrite .. : Runs _ s (execCryptoWakeEn p v s))
  | anchorPacket => exact runs_execAnchorPacket s
  | tracePacketClose p => exact runs_execTracePacketClose p s
  | counterDump => exact runs_execCounterDump s
  | packetSend => exact runs_execPacketSend s
  | relockTimeout => exact runs_execRelockTimeout s
  | inboundGapTimeout => exact runs_execInboundGapTimeout s
  | huCtsNFall => exact runs_execHuCtsNFall s
  | preambleDetection chan => exact runs_execPreambleDetection chan s
  | brownoutRecovery => exact runs_execBrownoutRecovery s

theorem pending_not_mem_footprint (c : Instr) : Part.pending ∉ footprint c := by
  cases c <;> simp [footprint]

/-- Settles O2: the frames of the commands, one by one; the queue is in no footprint. -/
theorem everyCommandCompletes : Obligations.EveryCommandCompletes := by
  intro c s
  obtain ⟨t, ht, frame⟩ := exec_runs c s
  refine ⟨⟨t, ht⟩, fun v hv => ?_⟩
  obtain rfl : t = v := by simpa [ht] using hv
  exact ⟨frame, only.kept frame .pending (pending_not_mem_footprint c)⟩

end Sys2Proof.Machine
end

section
/-!
SUPPORT. The machine right after reset.
-/
namespace Sys2Proof.Machine

theorem reset_polder (p : Polder) : State.reset.pld[p] = {} := Vector.getElem_replicate ..

theorem reset_polderHost (p : Polder) : State.reset.hst.pol[p] = {} := Vector.getElem_replicate ..

theorem domIdx_eq_zero {d : Domain} : 0 = (domIdx d).val ↔ d = .aon := by
  cases d <;> simp [domIdx] <;> omega

/-- No domain but the always-on one has power (15_power R374). -/
theorem domAt_reset (d : Domain) : domAt State.reset d = if d = .aon then .on else .off := by
  show ((Vector.replicate 29 DomPos.off).set 0 DomPos.on)[(domIdx d).val] = _
  rw [Vector.getElem_set, Vector.getElem_replicate]
  exact if_congr domIdx_eq_zero rfl rfl

theorem ctrGet_reset (i : Nat) : ctrGet State.reset i = 0 := rfl

/-- Settles O6: each value is a default of the state's fields; the basin bytes are the view's defaults. -/
theorem resetState : Obligations.ResetState := by
  refine ⟨rfl, ctrGet_reset, rfl, rfl, rfl, fun p => ?_, rfl, rfl, fun p => ?_, domAt_reset, rfl, rfl, rfl, rfl, memWf_reset, fun i => ?_, ?_, ?_, ?_⟩
  · rw [reset_polderHost]
  · rw [reset_polder]
    exact ⟨rfl, rfl⟩
  · rw [ctrGet_reset]
    omega
  · decide
  · decide
  · decide

end Sys2Proof.Machine
end

section
/-!
SUPPORT. Ports and lanes (02_sample_ports): what a change of one leaves of the others, and on what the conditions of the ports' commands depend.
-/

namespace Sys2Proof.Machine

theorem Touches.kept {L : List Part} {f : State → State} (hf : Touches L f) (x : Part) (hx : x ∉ L) (s : State) : x.same s (f s) := (hf.only s).kept x hx

section
variable {p q l k : Port} {s t : State}

theorem modPort_modPort (f g : PortState → PortState) (s : State) : modPort p f (modPort p g s) = modPort p (fun x => f (g x)) s := by
  simp [modPort]

theorem modLane_modLane (f g : LaneState → LaneState) (s : State) : modLane p l f (modLane p l g s) = modLane p l (fun x => f (g x)) s := by
  simp [modLane, modPort]

theorem modLane_port_other (f : LaneState → LaneState) (s : State) (h : q ≠ p) : (modLane p l f s).spt.port[q] = s.spt.port[q] := modPort_other p q _ s h

@[simp] theorem modLane_port (f : LaneState → LaneState) (s : State) :
    (modLane p l f s).spt.port[p] = { s.spt.port[p] with lane := s.spt.port[p].lane.set l (f (laneAt s p l)) } := modPort_same p _ s

theorem laneAt_congr (h : t.spt.port[p] = s.spt.port[p]) (l : Port) : laneAt t p l = laneAt s p l := by
  unfold laneAt
  rw [h]

@[simp] theorem laneAt_modPort (f : PortState → PortState) (s : State) : laneAt (modPort p f s) p l = (f s.spt.port[p]).lane[l] := by
  unfold laneAt
  rw [modPort_same]

@[simp] theorem laneAt_modLane (f : LaneState → LaneState) (s : State) : laneAt (modLane p l f s) p l = f (laneAt s p l) := by
  rw [laneAt, modLane_port]
  exact Vector.getElem_set_self l.isLt

theorem laneAt_modLane_other (f : LaneState → LaneState) (s : State) (h : k ≠ l) : laneAt (modLane p l f s) p k = laneAt s p k := by
  rw [laneAt, modLane_port]
  exact Vector.getElem_set_ne l.isLt k.isLt fun e => h (Fin.ext e.symm)

theorem modLane_congr {f g : LaneState → LaneState} (h : f (laneAt s p l) = g (laneAt s p l)) : modLane p l f s = modLane p l g s := by
  unfold laneAt at h
  simp only [modLane, modPort, h]

theorem cfgBAt_congr (h : t.boot = s.boot) : cfgBAt t = cfgBAt s := by
  funext r k
  unfold cfgBAt
  rw [cfgAt_congr h]

theorem portOn_congr (hb : t.boot = s.boot) (hd : t.pmu = s.pmu) (hf : t.spt.port[p].initFail = s.spt.port[p].initFail) : portOn t p = portOn s p := by
  unfold portOn portEn domOn domAt
  rw [cfgBAt_congr hb, hd, hf]

theorem laneBand_congr (hb : t.boot = s.boot) : laneBand t = laneBand s := by
  funext p l
  unfold laneBand blockOf
  rw [cfgAt_congr hb, hb]

theorem samplePeriod_congr (hb : t.boot = s.boot) : samplePeriod t = samplePeriod s := by
  funext p
  unfold samplePeriod
  rw [cfgAt_congr hb]

theorem receiverOn_congr (hb : t.boot = s.boot) (hd : t.pmu = s.pmu) (hf : t.spt.port[p].initFail = s.spt.port[p].initFail) :
    receiverOn t p = receiverOn s p := by
  funext l
  unfold receiverOn
  rw [portOn_congr hb hd hf, laneBand_congr hb]

theorem receiverOn_of_running (ho : portOn s p = true) (hb : laneBand s p l ≠ 0) : receiverOn s p l = true := by simp [receiverOn, ho, hb]

@[simp] theorem bump_spt (i : Nat) (s : State) : (bump i s).spt = s.spt := (only_bump i s).kept .spt (by decide)

@[simp] theorem bumpIf_spt (c : Bool) (i : Nat) (s : State) : (bumpIf c i s).spt = s.spt := (only_bumpIf c i s).kept .spt (by decide)

@[simp] theorem recB_spt (cls kind : Nat) (content : List Byte) (s : State) : (recB cls kind content s).spt = s.spt :=
  (only_recB cls kind content s).kept .spt (by decide)

@[simp] theorem sptRefresh_spt (p : Port) (s : State) : (sptRefresh p s).spt = s.spt := (only_sptRefresh p s).kept .spt (by decide)

@[simp] theorem calInit_spt (p : Port) (s : State) : (calInit p s).spt = s.spt := rfl

theorem upToReports_recB (cls kind : Nat) (content : List Byte) (s : State) : upToReports s (recB cls kind content s) := by
  unfold upToReports
  rw [recB_eta]

theorem upToReports_sptRefresh (p : Port) (s : State) : upToReports s (sptRefresh p s) := by
  unfold sptRefresh
  dsimp only
  split
  · rfl
  · exact upToReports_trans (upToReports_basinPut _ _ s) (upToReports_recB _ _ _ _)

/-- The counters of the ports are common ones. -/
theorem reportFree_of_lt {j : Nat} (h : j < 48) : reportFree j := by
  unfold reportFree cHstOutSpillB cHstC0FoldsB
  omega

end

end Sys2Proof.Machine
end

section
/-!
SUPPORT. A frame word (02_sample_ports R28–R31, R39–R41): the word of a lane moves that lane and the port's marker count only and leaves one sample; the other lanes, the
other ports and the count of frame syncs stay.
-/

namespace Sys2Proof.Machine

/-- From `s` to `t` the ports move in lane `l` of port `p` and in that port's marker count only. -/
structure LaneSide (p l : Port) (s t : State) : Prop where
  frame : only [.spt, .ary, .hst, .obs, .ctr] s t
  others : ∀ q, q ≠ p → t.spt.port[q] = s.spt.port[q]
  lanes : ∀ k, k ≠ l → laneAt t p k = laneAt s p k
  port : t.spt.port[p] = { s.spt.port[p] with lane := t.spt.port[p].lane, marks := t.spt.port[p].marks }

/-- The same, with the samples that left the lane as they were: what a marker does. -/
structure MarkerSide (p l : Port) (s t : State) : Prop extends LaneSide p l s t where
  out : (laneAt t p l).out = (laneAt s p l).out

variable {p l : Port} {s t u : State}

theorem LaneSide.trans (h : LaneSide p l s t) (k : LaneSide p l t u) : LaneSide p l s u where
  frame := only_trans h.frame k.frame
  others q hq := (k.others q hq).trans (h.others q hq)
  lanes j hj := (k.lanes j hj).trans (h.lanes j hj)
  port := by rw [k.port, h.port]

theorem LaneSide.of_modLane (f : LaneState → LaneState) (s : State) : LaneSide p l s (modLane p l f s) where
  frame := only_mono (only_modPort p _ s) (by decide)
  others q hq := modLane_port_other f s hq
  lanes k hk := laneAt_modLane_other f s hk
  port := by rw [modLane_port]

namespace MarkerSide

theorem trans (h : MarkerSide p l s t) (k : MarkerSide p l t u) : MarkerSide p l s u := ⟨h.toLaneSide.trans k.toLaneSide, k.out.trans h.out⟩

theorem of_ite {c : Prop} [Decidable c] (h : MarkerSide p l s t) (k : MarkerSide p l s u) : MarkerSide p l s (if c then t else u) := by
  split
  · exact h
  · exact k

theorem of_spt (f : only [.ary, .hst, .obs, .ctr] s t) : MarkerSide p l s t :=
  have h : t.spt = s.spt := f.kept .spt (by decide)
  ⟨⟨only_mono f (by decide), fun q _ => by rw [h], fun k _ => laneAt_congr (by rw [h]) k, by rw [h]⟩, congrArg LaneState.out (laneAt_congr (by rw [h]) l)⟩

theorem refl (s : State) : MarkerSide p l s s := of_spt (only_refl _ s)

theorem of_modLane {f : LaneState → LaneState} (hf : ∀ x, (f x).out = x.out) : MarkerSide p l s (modLane p l f s) :=
  ⟨.of_modLane f s, by rw [laneAt_modLane, hf]⟩

theorem of_marks (m : Nat × Nat) (s : State) : MarkerSide p l s (modPort p (fun q => { q with marks := m }) s) where
  frame := only_mono (only_modPort p _ s) (by decide)
  others q hq := modPort_other p q _ s hq
  lanes k _ := laneAt_modPort _ s
  port := by rw [modPort_same]
  out := by rw [laneAt_modPort]; rfl

theorem of_bump (i : Nat) (s : State) : MarkerSide p l s (bump i s) := of_spt (only_mono (only_bump i s) (by decide))

theorem of_bumpIf (c : Bool) (i : Nat) (s : State) : MarkerSide p l s (bumpIf c i s) := of_spt (only_mono (only_bumpIf c i s) (by decide))

theorem of_recB (cls kind : Nat) (content : List Byte) (s : State) : MarkerSide p l s (recB cls kind content s) :=
  of_spt (only_mono (only_recB cls kind content s) (by decide))

theorem of_ary (a : AryState) (s : State) : MarkerSide p l s { s with ary := a } := of_spt fun x => by cases x <;> simp [Part.same]

theorem of_markerEffect (type data : Nat) (s : State) : MarkerSide p l s (markerEffect p l type data s) := by
  unfold markerEffect
  split
  · exact of_modLane fun _ => by rfl
  · split
    · exact of_modLane fun _ => by rfl
    · split
      · split
        · exact of_ary _ s
        · exact of_ary _ s
        · exact of_ary _ s
        · exact of_ary _ s
        · exact refl s
      · split
        · exact of_bumpIf _ _ s
        · exact refl s

theorem of_marker (type data tick : Nat) (s : State) : MarkerSide p l s (marker p l type data tick s) := by
  unfold marker
  dsimp only
  split
  · exact (of_bump _ s).trans (of_bump _ _)
  · exact (((of_bump _ s).trans (of_marks _ _)).trans (of_ite (of_bump _ _) (of_recB _ _ _ _))).trans (of_markerEffect type data _)

end MarkerSide

/-- The flag of the sample that a lane's word gives: 1 blanked, 2 muted or not samples (02_sample_ports R28–R31, R41, R48). -/
def wordFlag (s : State) (p l : Port) (v : Nat) : Nat :=
  let x := laneAt s p l
  let q := s.spt.port[p]
  if cfgBAt s sptLaneBlank (laneIdx p l) && blankedAt s (wordInstant s p) (samplePeriod s p) then 1
  else if v / 64 == 3 || x.loMute || q.lost || q.gap || q.blockMute || x.notSamples then 2 else 0

/-- The sample that a lane's word gives. -/
def wordSample (s : State) (p l : Port) (v : Nat) : StreamSample :=
  let flag := wordFlag s p l v
  ⟨wordInstant s p, if flag = 0 then level3 (v % 64 / 8) else 0, if flag = 0 then level3 (v % 64 % 8) else 0, flag⟩

/-- A powered lane's word leaves its sample; its guard window, its gain loop and a marker do the rest. -/
theorem laneWord_sample (h : receiverOn s p l = true) (w : Byte) : ∃ y : LaneState,
    MarkerSide p l (modLane p l (fun _ => { y with out := (wordSample s p l w.toNat :: y.out).take 9 }) s) (laneWord p w l s) := by
  unfold laneWord
  dsimp only
  rw [h, if_neg (by decide)]
  refine ⟨_, .of_ite ?_ (.trans (.trans (.of_bumpIf _ _ _) (.of_modLane fun _ => by rfl)) (.of_bumpIf _ _ _))⟩
  generalize (laneAt s p l).run = run
  have hmore (r : List Nat) (u : State) : MarkerSide p l u (modLane p l (fun z => { z with
      run := r ++ [w.toNat % 64], runTick := if r.isEmpty then (wordInstant s p).toNat else z.runTick }) u) := .of_modLane fun _ => by rfl
  rcases run with _ | ⟨a, _ | ⟨b, _ | ⟨c, _ | ⟨d, r⟩⟩⟩⟩
  · exact .trans (.of_bumpIf _ _ _) (hmore [] _)
  · exact .trans (.of_bumpIf _ _ _) (hmore [a] _)
  · exact .trans (.of_bumpIf _ _ _) (hmore [a, b] _)
  · exact .trans (.trans (.of_bumpIf _ _ _) (.of_modLane fun _ => by rfl)) (.of_marker _ _ _ _)
  · exact .trans (.of_bumpIf _ _ _) (hmore (a :: b :: c :: d :: r) _)

theorem laneWord_side (w : Byte) : LaneSide p l s (laneWord p w l s) := by
  cases h : receiverOn s p l with
  | false =>
    unfold laneWord
    rw [h]
    exact (MarkerSide.refl s).toLaneSide
  | true =>
    obtain ⟨y, hy⟩ := laneWord_sample h w
    exact (LaneSide.of_modLane _ s).trans hy.toLaneSide

theorem laneWord_head (h : receiverOn s p l = true) (w : Byte) : (laneAt (laneWord p w l s) p l).out.head? = some (wordSample s p l w.toNat) := by
  obtain ⟨y, hy⟩ := laneWord_sample h w
  rw [hy.out, laneAt_modLane]
  rfl

end Sys2Proof.Machine
end

section
/-!
SUPPORT. The four words of a frame word, and where its block stands (02_sample_ports R29, R33–R38).
-/

namespace Sys2Proof.Machine

/-- What the word of a lane depends on but for the blanking intervals. -/
def laneView (p l : Port) (s : State) : LaneState × PortState × BootState × PmuState × SkyState :=
  (laneAt s p l, { s.spt.port[p] with lane := .replicate 4 {}, marks := (0, 0) }, s.boot, s.pmu, s.sky)

/-- What the placing of a word in its sequence leaves of a port. -/
def syncView (q : PortState) : Bool × Nat × Nat × Bool × Bool × Vector (Bool × Bool) 4 :=
  (q.synced, q.badFs, q.goodFs, q.lost, q.initFail, q.lane.map fun x => (x.loMute, x.notSamples))

/-- From `s` to `t` port `p` is placed in its sequence: its sync counts, its loss and the muting of its lanes stay, and the other ports. -/
structure Placed (p : Port) (s t : State) : Prop where
  frame : only [.spt, .ary, .hst, .obs, .ctr] s t
  others : ∀ q, q ≠ p → t.spt.port[q] = s.spt.port[q]
  view : syncView t.spt.port[p] = syncView s.spt.port[p]

/-- The four lanes' words in turn. -/
def laneWords (p : Port) (w : Vector Byte 4) (s : State) : State := (List.finRange 4).foldl (fun t l => laneWord p w[l] l t) s

/-- The frame sync counted, the sequence begun and the block stamped where the word asks for it. -/
def placeWord (p : Port) (ok : Bool) (s : State) : State :=
  let s1 := modPort p (countFs ok) s
  let s2 := if s1.spt.port[p].gap && newSequence s1 p then beginSequence p s1 else s1
  if s2.spt.port[p].lost || s2.spt.port[p].gap || s2.spt.port[p].count % 4096 != 0 then s2 else stampBlock p s2

variable {p q l k : Port} {s t u : State} {ok : Bool} {w : Vector Byte 4} {v : Nat}

theorem LaneSide.view (h : LaneSide p k s t) (hl : l ≠ k) : laneView p l t = laneView p l s := by
  unfold laneView
  rw [h.lanes l hl, h.port, h.frame.kept .boot (by decide), h.frame.kept .pmu (by decide), h.frame.kept .sky (by decide)]

theorem wordInstant_congr (h : laneView p l t = laneView p l s) : wordInstant t p = wordInstant s p := by
  simp only [laneView, Prod.mk.injEq, PortState.mk.injEq] at h
  unfold wordInstant
  simp only [h, samplePeriod_congr h.2.2.1, cfgAt_congr h.2.2.1]

theorem wordFlag_of_not_blanked (hb : cfgBAt s sptLaneBlank (laneIdx p l) = false) : wordFlag s p l v =
    if v / 64 == 3 || (laneAt s p l).loMute || s.spt.port[p].lost || s.spt.port[p].gap || s.spt.port[p].blockMute || (laneAt s p l).notSamples then 2 else 0 := by
  simp [wordFlag, hb]

theorem wordSample_congr (h : laneView p l t = laneView p l s) (hb : cfgBAt s sptLaneBlank (laneIdx p l) = false) :
    wordSample t p l v = wordSample s p l v := by
  have hi := wordInstant_congr h
  simp only [laneView, Prod.mk.injEq, PortState.mk.injEq] at h
  have ht : cfgBAt t sptLaneBlank (laneIdx p l) = false := by rw [cfgBAt_congr h.2.2.1, hb]
  have hf : wordFlag t p l v = wordFlag s p l v := by
    rw [wordFlag_of_not_blanked ht, wordFlag_of_not_blanked hb]
    simp only [h]
  unfold wordSample
  rw [hi, hf]

theorem receiverOn_of_view (h : laneView p l t = laneView p l s) : receiverOn t p l = receiverOn s p l := by
  simp only [laneView, Prod.mk.injEq, PortState.mk.injEq] at h
  rw [receiverOn_congr h.2.2.1 h.2.2.2.1 (by simp only [h])]

theorem laneWords_eq : laneWords p w s = laneWord p w[3] 3 (laneWord p w[2] 2 (laneWord p w[1] 1 (laneWord p w[0] 0 s))) := by
  have h4 : List.finRange 4 = [0, 1, 2, 3] := by decide
  unfold laneWords
  rw [h4]
  rfl

/-- After the four words a powered lane's newest sample is that of its own word. -/
theorem laneWords_head (h : receiverOn s p l = true) (hb : cfgBAt s sptLaneBlank (laneIdx p l) = false) :
    (laneAt (laneWords p w s) p l).out.head? = some (wordSample s p l w[l].toNat) := by
  obtain ⟨u, hu, he⟩ := foldl_keeps_around (f := fun t k => laneWord p w[k] k t) (laneView p l)
    (fun t k hk => (laneWord_side w[k]).view hk.symm) (List.mem_finRange l) (List.nodup_finRange 4) s
  have hown := laneWord_head (s := u) ((receiverOn_of_view hu).trans h) w[l]
  rw [wordSample_congr hu hb] at hown
  rw [← hown]
  exact congrArg (fun x => x.1.out.head?) he

theorem laneWords_keeps {α : Type} (g : State → α) (hg : ∀ l s t, LaneSide p l s t → g t = g s) (s : State) : g (laneWords p w s) = g s :=
  foldl_relates (R := fun s t => g t = g s) (fun _ => rfl) (fun h k => k.trans h) (fun s l => hg l s _ (laneWord_side w[l])) _ s

namespace Placed

theorem trans (h : Placed p s t) (k : Placed p t u) : Placed p s u :=
  ⟨only_trans h.frame k.frame, fun q hq => (k.others q hq).trans (h.others q hq), k.view.trans h.view⟩

theorem of_modPort {f : PortState → PortState} (hf : ∀ q, syncView (f q) = syncView q) (s : State) : Placed p s (modPort p f s) :=
  ⟨only_mono (only_modPort p f s) (by decide), fun q hq => modPort_other p q f s hq, by rw [modPort_same, hf]⟩

theorem of_spt (f : only [.ary, .hst, .obs, .ctr] s t) : Placed p s t :=
  have h : t.spt = s.spt := f.kept .spt (by decide)
  ⟨only_mono f (by decide), fun q _ => by rw [h], by rw [h]⟩

theorem refl (s : State) : Placed p s s := of_spt (only_refl _ s)

theorem of_ite {c : Prop} [Decidable c] (h : Placed p s t) (k : Placed p s u) : Placed p s (if c then t else u) := by
  split
  · exact h
  · exact k

theorem of_bump (i : Nat) (s : State) : Placed p s (bump i s) := of_spt (only_mono (only_bump i s) (by decide))

theorem of_calInit (s : State) : Placed p s (calInit p s) := of_spt fun x => by cases x <;> simp [Part.same, calInit]

theorem of_anchorPort (n : Nat) (s : State) : Placed p s (anchorPort p n s) := by
  unfold anchorPort
  exact .trans (.trans (.of_modPort (fun _ => by rfl) s) (.of_modPort (fun _ => by rfl) _)) (.of_calInit _)

theorem of_beginSequence (s : State) : Placed p s (beginSequence p s) :=
  (of_modPort (fun q => by simp [syncView, Vector.map_map, Function.comp_def]) s).trans
    (foldl_relates refl trans (fun t _ => of_bump _ t) _ _)

theorem of_stampBlock (s : State) : Placed p s (stampBlock p s) := by
  have hclear : Placed p s (modPort p (fun q => { q with blockMute := false }) s) := .of_modPort (fun _ => by rfl) s
  unfold stampBlock
  dsimp only
  split
  · refine .trans hclear (.of_ite (.of_modPort (fun _ => by rfl) _) (.trans ?_ (.of_anchorPort _ _)))
    exact .of_modPort (fun _ => by rfl) _
  · split
    · exact .trans hclear (.of_anchorPort _ _)
    · refine .trans hclear (.of_ite (.of_modPort (fun _ => by rfl) _) (.trans (.trans ?_ (.of_anchorPort _ _)) (.of_bump _ _)))
      exact .of_modPort (fun _ => by rfl) _

end Placed

theorem placeWord_placed : Placed p (modPort p (countFs ok) s) (placeWord p ok s) := by
  have hbegun : Placed p (modPort p (countFs ok) s) (if (modPort p (countFs ok) s).spt.port[p].gap && newSequence (modPort p (countFs ok) s) p then
      beginSequence p (modPort p (countFs ok) s) else modPort p (countFs ok) s) := .of_ite (.of_beginSequence _) (.refl _)
  exact .of_ite hbegun (hbegun.trans (.of_stampBlock _))

theorem placeWord_of_clean (hl : s.spt.port[p].lost = false) (hg : s.spt.port[p].gap = false) (hc : s.spt.port[p].count % 4096 ≠ 0) :
    placeWord p ok s = modPort p (countFs ok) s := by
  have hp := modPort_same p (countFs ok) s
  have hl' : (modPort p (countFs ok) s).spt.port[p].lost = false := by rw [hp]; exact hl
  have hg' : (modPort p (countFs ok) s).spt.port[p].gap = false := by rw [hp]; exact hg
  have hc' : (modPort p (countFs ok) s).spt.port[p].count % 4096 ≠ 0 := by rw [hp]; exact hc
  simp only [placeWord, hg', hl', Bool.false_and, Bool.false_or, bne_iff_ne.2 hc', if_true, Bool.false_eq_true, if_false]

theorem combineBands_only (inst : Int) (s : State) : only [.ary] s (combineBands p inst s) :=
  foldl_relates (only_refl _) only_trans (fun t b => by
    dsimp only
    split
    · exact fun x => by cases x <;> simp [Part.same]
    · exact only_refl _ t) _ s

theorem execFrameWord_eq (h : portOn s p = true) : execFrameWord p ok w[0] w[1] w[2] w[3] s = .next (sptRefresh p
    (modPort p (fun q => { q with lastFs := some s.sky.tick, count := if q.lost || q.gap then q.count else q.count + 1 })
      (combineBands p (wordInstant (placeWord p ok s) p) (laneWords p w (placeWord p ok s))))) := by
  unfold execFrameWord
  rw [h, if_neg (by decide), laneWords_eq]
  rfl

end Sys2Proof.Machine
end

section
/-!
SUPPORT. A whole frame word (02_sample_ports R28–R31, R33–R41): what stands after it.
-/

namespace Sys2Proof.Machine

/-- The state after a frame word of a running port. -/
def wordDone (p : Port) (ok : Bool) (w : Vector Byte 4) (s : State) : State :=
  sptRefresh p (modPort p (fun q => { q with lastFs := some s.sky.tick, count := if q.lost || q.gap then q.count else q.count + 1 })
    (combineBands p (wordInstant (placeWord p ok s) p) (laneWords p w (placeWord p ok s))))

variable {p q l : Port} {s : State} {ok : Bool} {w : Vector Byte 4} {v : Nat}

theorem placeWord_sky : (placeWord p ok s).sky = s.sky :=
  (placeWord_placed.frame.kept .sky (by decide)).trans ((only_modPort p _ s).kept .sky (by decide))

theorem placeWord_boot : (placeWord p ok s).boot = s.boot :=
  (placeWord_placed.frame.kept .boot (by decide)).trans ((only_modPort p _ s).kept .boot (by decide))

theorem placeWord_pmu : (placeWord p ok s).pmu = s.pmu :=
  (placeWord_placed.frame.kept .pmu (by decide)).trans ((only_modPort p _ s).kept .pmu (by decide))

theorem placeWord_port : syncView (placeWord p ok s).spt.port[p] = syncView (countFs ok s.spt.port[p]) := by
  rw [placeWord_placed.view, modPort_same]

theorem placeWord_lane (l : Port) :
    (laneAt (placeWord p ok s) p l).loMute = (laneAt s p l).loMute ∧ (laneAt (placeWord p ok s) p l).notSamples = (laneAt s p l).notSamples := by
  have h := congrArg (fun x => x.2.2.2.2.2[l]) (placeWord_port (p := p) (ok := ok) (s := s))
  simpa [syncView, countFs, laneAt] using h

theorem placeWord_lost : (placeWord p ok s).spt.port[p].lost = s.spt.port[p].lost := congrArg (fun x => x.2.2.2.1) placeWord_port

theorem placeWord_receiverOn : receiverOn (placeWord p ok s) p l = receiverOn s p l :=
  congrFun (receiverOn_congr placeWord_boot placeWord_pmu (congrArg (fun x => x.2.2.2.2.1) placeWord_port)) l

theorem modPort_spt (p : Port) (f : PortState → PortState) (s : State) :
    (modPort p f s).spt = { s.spt with port := s.spt.port.set p (f s.spt.port[p]) } := rfl

theorem combineBands_spt (inst : Int) (s : State) : (combineBands p inst s).spt = s.spt := (combineBands_only inst s).kept .spt (by decide)

theorem wordDone_spt : (wordDone p ok w s).spt = (modPort p (fun q => { q with
    lastFs := some s.sky.tick, count := if q.lost || q.gap then q.count else q.count + 1 }) (laneWords p w (placeWord p ok s))).spt := by
  simp only [wordDone, sptRefresh_spt, modPort_spt, combineBands_spt]

theorem wordDone_port : (wordDone p ok w s).spt.port[p] = { (laneWords p w (placeWord p ok s)).spt.port[p] with
    lastFs := some s.sky.tick
    count := if (laneWords p w (placeWord p ok s)).spt.port[p].lost || (laneWords p w (placeWord p ok s)).spt.port[p].gap then
      (laneWords p w (placeWord p ok s)).spt.port[p].count else (laneWords p w (placeWord p ok s)).spt.port[p].count + 1 } := by
  rw [wordDone_spt, modPort_same]

theorem wordDone_other (h : q ≠ p) : (wordDone p ok w s).spt.port[q] = s.spt.port[q] := by
  rw [wordDone_spt, modPort_other _ _ _ _ h, laneWords_keeps (fun t => t.spt.port[q]) fun l s t side => side.others q h, placeWord_placed.others q h,
    modPort_other _ _ _ _ h]

theorem wordDone_same : (wordDone p ok w s).spt.port[p].lastFs = some s.sky.tick ∧
    (wordDone p ok w s).spt.port[p].synced = (s.spt.port[p].synced || ok) ∧
    (wordDone p ok w s).spt.port[p].badFs = (if ok then 0 else min 2 (s.spt.port[p].badFs + 1)) ∧
    (wordDone p ok w s).spt.port[p].goodFs = (if ok then min 8 (s.spt.port[p].goodFs + 1) else 0) := by
  have hwords := laneWords_keeps (p := p) (w := w) (fun t => (t.spt.port[p].synced, t.spt.port[p].badFs, t.spt.port[p].goodFs))
    (fun l s t side => by rw [side.port]) (placeWord p ok s)
  have hplace := placeWord_port (p := p) (ok := ok) (s := s)
  simp only [syncView, countFs, Prod.mk.injEq] at hplace hwords
  rw [wordDone_port]
  generalize laneWords p w (placeWord p ok s) = u at hwords
  exact ⟨rfl, hwords.1.trans hplace.1, hwords.2.1.trans hplace.2.1, hwords.2.2.trans hplace.2.2.1⟩

theorem wordDone_head (h : receiverOn s p l = true) (hb : cfgBAt s sptLaneBlank (laneIdx p l) = false) :
    (laneAt (wordDone p ok w s) p l).out.head? = some (wordSample (placeWord p ok s) p l w[l].toNat) := by
  have hl : laneAt (wordDone p ok w s) p l = laneAt (laneWords p w (placeWord p ok s)) p l := by
    unfold laneAt
    rw [wordDone_port]
  rw [hl]
  exact laneWords_head (placeWord_receiverOn.trans h) (by rw [cfgBAt_congr placeWord_boot, hb])

theorem wordInstant_countFs : wordInstant (modPort p (countFs ok) s) p = wordInstant s p := by
  unfold wordInstant
  dsimp only
  rw [modPort_same]
  rfl

theorem wordSample_muted (hb : cfgBAt s sptLaneBlank (laneIdx p l) = false)
    (h : v / 64 = 3 ∨ (laneAt s p l).loMute = true ∨ (laneAt s p l).notSamples = true ∨ s.spt.port[p].lost = true) :
    wordSample s p l v = ⟨wordInstant s p, 0, 0, 2⟩ := by
  have hf : wordFlag s p l v = 2 := by
    rw [wordFlag_of_not_blanked hb]
    rcases h with h | h | h | h <;> simp only [h, beq_self_eq_true, Bool.true_or, Bool.or_true, if_true]
  simp [wordSample, hf]

theorem wordSample_clean (hb : cfgBAt s sptLaneBlank (laneIdx p l) = false) (hv : v / 64 ≠ 3) (hm : (laneAt s p l).loMute = false)
    (hn : (laneAt s p l).notSamples = false) (hl : s.spt.port[p].lost = false) (hg : s.spt.port[p].gap = false) (hk : s.spt.port[p].blockMute = false) :
    wordSample s p l v = ⟨wordInstant s p, level3 (v / 8 % 8), level3 (v % 8), 0⟩ := by
  have hf : wordFlag s p l v = 0 := by
    rw [wordFlag_of_not_blanked hb]
    simp only [beq_eq_false_iff_ne.2 hv, hm, hn, hl, hg, hk, Bool.or_false, Bool.false_eq_true, if_false]
  have h1 : v % 64 / 8 = v / 8 % 8 := by omega
  have h2 : v % 64 % 8 = v % 8 := by omega
  simp [wordSample, hf, h1, h2]

theorem wordDone_head_muted (h : receiverOn s p l = true) (hb : cfgBAt s sptLaneBlank (laneIdx p l) = false)
    (hm : w[l].toNat / 64 = 3 ∨ (laneAt s p l).loMute = true ∨ (laneAt s p l).notSamples = true ∨ s.spt.port[p].lost = true) :
    ∃ at_, (laneAt (wordDone p ok w s) p l).out.head? = some ⟨at_, 0, 0, 2⟩ := by
  obtain ⟨hlo, hns⟩ := placeWord_lane (p := p) (ok := ok) (s := s) l
  refine ⟨_, (wordDone_head h hb).trans (congrArg some (wordSample_muted (by rw [cfgBAt_congr placeWord_boot, hb]) ?_))⟩
  rwa [hlo, hns, placeWord_lost]

theorem wordDone_head_clean (h : receiverOn s p l = true) (hb : cfgBAt s sptLaneBlank (laneIdx p l) = false) (hv : w[l].toNat / 64 ≠ 3)
    (hm : (laneAt s p l).loMute = false) (hn : (laneAt s p l).notSamples = false) (hl : s.spt.port[p].lost = false) (hg : s.spt.port[p].gap = false)
    (hk : s.spt.port[p].blockMute = false) (hc : s.spt.port[p].count % 4096 ≠ 0) :
    (laneAt (wordDone p ok w s) p l).out.head? = some ⟨wordInstant s p, level3 (w[l].toNat / 8 % 8), level3 (w[l].toNat % 8), 0⟩ := by
  rw [wordDone_head h hb, placeWord_of_clean hl hg hc, wordSample_clean (s := modPort p (countFs ok) s) hb hv]
  · rw [wordInstant_countFs]
  · rw [laneAt_modPort]; exact hm
  · rw [laneAt_modPort]; exact hn
  all_goals rw [modPort_same]
  · exact hl
  · exact hg
  · exact hk

/-- A frame word completes with its count of frame syncs and one sample a lane (02_sample_ports R28–R31, R41). -/
theorem execFrameWord_completes (h : portOn s p = true) : exec (.frameWord p ok w[0] w[1] w[2] w[3]) s = .next (wordDone p ok w s) := execFrameWord_eq h

end Sys2Proof.Machine
end

section
/-!
SUPPORT. Sync lost and regained, and the guard window (02_sample_ports R29, R41, 03_array R64).
-/

namespace Sys2Proof.Machine

/-- A port that has regained its sync, before its calibration begins afresh. -/
def portRegained (q : PortState) : PortState :=
  { q with
    lost := false, alignTs := true, word0 := none, stamp := none, count := 0, blockMute := false, residual := 0
    lane := q.lane.map fun x => { x with loMute := false } }

/-- A port's sync regained. -/
def syncRegained (p : Port) (s : State) : State := sptRefresh p (calInit p (modPort p portRegained s))

variable {p q l : Port} {s t : State}

theorem loseSync_upToReports (p : Port) (s : State) : upToReports (modPort p (fun q => { q with lost := true, goodFs := 0 }) s) (loseSync p s) :=
  upToReports_trans (upToReports_bump _ _) (upToReports_sptRefresh _ _)

theorem exec_syncLost (ho : portOn s p = true) (hl : s.spt.port[p].lost = false) (hs : s.spt.port[p].synced = true) (hb : 2 ≤ s.spt.port[p].badFs) :
    exec (.syncLost p) s = .next (loseSync p s) := congrArg _ (if_pos ⟨ho, hl, hs, hb⟩)

theorem exec_syncRegain (ho : portOn s p = true) (hl : s.spt.port[p].lost = true) (hg : 8 ≤ s.spt.port[p].goodFs) :
    exec (.syncRegain p) s = .next (syncRegained p s) := congrArg _ (if_pos ⟨ho, hl, hg⟩)

theorem syncRegained_spt : (syncRegained p s).spt = (modPort p portRegained s).spt := by
  unfold syncRegained
  rw [sptRefresh_spt, calInit_spt]

theorem syncRegained_same : (syncRegained p s).spt.port[p] = portRegained s.spt.port[p] := by rw [syncRegained_spt, modPort_same]

theorem syncRegained_other (h : q ≠ p) : (syncRegained p s).spt.port[q] = s.spt.port[q] := by rw [syncRegained_spt, modPort_other _ _ _ _ h]

theorem syncRegained_lane (l : Port) : laneAt (syncRegained p s) p l = { laneAt s p l with loMute := false } := by
  unfold laneAt
  rw [syncRegained_same]
  exact Vector.getElem_map ..

theorem calIdx_ne {a : Port} {b c : Band} (h : b ≠ c) : (calIdx a c).val ≠ (calIdx a b).val := by
  have hv := Fin.val_ne_of_ne h
  simp only [calIdx]
  omega

/-- The calibration of each band of the port's antenna begins at its cable delay and the port's residual. -/
theorem calInit_cal (p : Port) (s : State) (b : Band) : (calInit p s).ary.cal[calIdx (portAnt s p) b] =
    { tau := (s.spt.port[p].residual : Rat) * 1000 / (49152 / 100) +
        ((cfgAt s aryGeomCabDly (portAnt s p).val : Rat) - (cfgAt s aryGeomCabDly (refAnt s).val : Rat)) / 100 } := by
  obtain ⟨u, -, he⟩ := foldl_keeps_around (f := fun (v : Vector CalState 16) (c : Band) => v.set (calIdx (portAnt s p) c)
      { tau := (s.spt.port[p].residual : Rat) * 1000 / (49152 / 100) +
        ((cfgAt s aryGeomCabDly (portAnt s p).val : Rat) - (cfgAt s aryGeomCabDly (refAnt s).val : Rat)) / 100 })
    (fun v => v[calIdx (portAnt s p) b]) (fun v c hc => Vector.getElem_set_ne _ _ (calIdx_ne hc.symm)) (List.mem_finRange b) (List.nodup_finRange 4) s.ary.cal
  exact he.trans (Vector.getElem_set_self _)

theorem syncRegained_cal (b : Band) : (syncRegained p s).ary.cal[calIdx (portAnt s p) b] =
    { tau := ((cfgAt s aryGeomCabDly (portAnt s p).val : Rat) - (cfgAt s aryGeomCabDly (refAnt s).val : Rat)) / 100 } := by
  have hary : (syncRegained p s).ary = (calInit p (modPort p portRegained s)).ary := (only_sptRefresh p _).kept .ary (by decide)
  have h := calInit_cal p (modPort p portRegained s) b
  rw [modPort_same] at h
  rw [hary]
  refine h.trans (congrArg (fun x : Rat => ({ tau := x } : CalState)) ?_)
  show ((0 : Int) : Rat) * 1000 / (49152 / 100) + _ = _
  rw [Int.cast_zero, zero_mul, zero_div, zero_add]
  rfl

/-- A lane after a guard window that it failed. -/
def guardFailed (x : LaneState) : LaneState :=
  { x with win := {}, failRun := min (x.failRun + 1) 4, passRun := 0, notSamples := x.notSamples || decide (3 ≤ x.failRun) }

/-- A lane after a guard window that it passed. -/
def guardPassed (x : LaneState) : LaneState :=
  { x with win := {}, passRun := min (x.passRun + 1) 16, failRun := 0, notSamples := x.notSamples && decide (x.passRun < 15) }

section
variable (ho : portOn s p = true) (hw : 65536 ≤ (laneAt s p l).win.words)
include ho hw

theorem guardWindow_open : ¬(portOn s p = false ∨ (laneAt s p l).win.words < 65536) := by
  rw [ho]
  simpa using hw

theorem exec_guardWindow_few (hv : 2 * (laneAt s p l).win.valid < (laneAt s p l).win.words) :
    exec (.guardWindow p l) s = .next (modLane p l (fun x => { x with win := {} }) s) :=
  congrArg _ ((if_neg (guardWindow_open ho hw)).trans (if_pos hv))

theorem exec_guardWindow_fails (hv : (laneAt s p l).win.words ≤ 2 * (laneAt s p l).win.valid) (hf : guardFails (laneAt s p l).win = true) :
    exec (.guardWindow p l) s = .next (sptRefresh p (bumpIf (decide (3 ≤ (laneAt s p l).failRun) && !(laneAt s p l).notSamples) (cSptGuardTrips p)
      (modLane p l guardFailed s))) := by
  refine congrArg _ ((if_neg (guardWindow_open ho hw)).trans ((if_neg (Nat.not_lt.2 hv)).trans ((if_pos hf).trans ?_)))
  have htrip : decide (4 ≤ (laneAt s p l).failRun + 1) = decide (3 ≤ (laneAt s p l).failRun) := decide_eq_decide.2 (by omega)
  simp only [modLane_modLane, htrip]
  congr 2
  exact modLane_congr (by cases h : (laneAt s p l).notSamples <;> simp [guardFailed, h])

theorem exec_guardWindow_passes (hv : (laneAt s p l).win.words ≤ 2 * (laneAt s p l).win.valid) (hf : guardFails (laneAt s p l).win = false) :
    exec (.guardWindow p l) s = .next (sptRefresh p (modLane p l guardPassed s)) := by
  refine congrArg _ ((if_neg (guardWindow_open ho hw)).trans ((if_neg (Nat.not_lt.2 hv)).trans ((if_neg (by simp [hf])).trans ?_)))
  have hrun : decide ((laneAt s p l).passRun + 1 < 16) = decide ((laneAt s p l).passRun < 15) := decide_eq_decide.2 (by omega)
  simp only [modLane_modLane, hrun]
  rfl

end

theorem upToReports_bumpIf (c : Bool) (i : Nat) (s : State) : upToReports s (bumpIf c i s) := by
  unfold bumpIf
  split
  · exact upToReports_bump i s
  · rfl

theorem guardTrips_counted (hr : 3 ≤ (laneAt s p l).failRun) (hn : (laneAt s p l).notSamples = false) (h : t.ctr = s.ctr) :
    counted (cSptGuardTrips p) s (sptRefresh p (bumpIf (decide (3 ≤ (laneAt s p l).failRun) && !(laneAt s p l).notSamples) (cSptGuardTrips p) t)) := by
  have hfree : reportFree (cSptGuardTrips p) := reportFree_of_lt (by unfold cSptGuardTrips; omega)
  rw [hn, decide_eq_true hr]
  exact counted_of_same (counted_bump _ t) (ctrGet_congr h _) (ctrGet_sptRefresh hfree _ _)

end Sys2Proof.Machine
end

section
/-!
SUPPORT. Start triggers (02_sample_ports R32–R36): one turn for a running port, and the suppressed ones.
-/

namespace Sys2Proof.Machine

/-- A running port's fields after a start trigger at an edge. -/
def portTriggered (s : State) (edge : Nat) (p : Port) (q : PortState) : PortState :=
  { q with
    gap := true, fallback := false, alignTs := cfgBAt s sptPortAlign p.val, blockMute := false, count := 0, stamp := none, residual := 0
    word0 := if cfgBAt s sptPortAlign p.val then none else some ((edge : Int) + 8 * ((cfgAt s sptPortFeLat p.val : Int) - cfgAt s sptPortFePipe p.val))
    lane := q.lane.map fun x => { x with loMute := false } }

/-- A start trigger's turn for a port. -/
def triggerPort (edge : Nat) (s : State) (p : Port) : State :=
  if portOn s p = false then s else sptRefresh p (calInit p (modPort p (portTriggered s edge p) s))

/-- What a port's turn of a trigger depends on. -/
def triggerView (p : Port) (s : State) : PortState × BootState × PmuState := (s.spt.port[p], s.boot, s.pmu)

variable {p q l : Port} {s t u : State} {edge n i : Nat}

theorem triggerPorts_eq (s : State) : triggerPorts s =
    (List.finRange 4).foldl (triggerPort (sclkEdge s.sky.tick)) { s with spt := { s.spt with trig := some (sclkEdge s.sky.tick) } } := rfl

theorem triggerPort_spt : (triggerPort edge s p).spt = if portOn s p = false then s.spt else (modPort p (portTriggered s edge p) s).spt := by
  unfold triggerPort
  split
  · rfl
  · rw [sptRefresh_spt, calInit_spt]

theorem triggerPort_only : only [.spt, .ary, .hst, .obs, .basin, .ctr] s (triggerPort edge s p) := by
  unfold triggerPort
  split
  · exact only_refl _ s
  · exact only_trans (only_mono (only_modPort p _ s) (by decide)) (only_trans
      (only_mono (Touches.only (touches_calInit p) _) (by decide)) (only_mono (only_sptRefresh p _) (by decide)))

theorem triggerPort_other (h : q ≠ p) : (triggerPort edge s q).spt.port[p] = s.spt.port[p] := by
  rw [triggerPort_spt]
  split
  · rfl
  · exact modPort_other _ _ _ _ h.symm

theorem triggerPort_same : (triggerPort edge s p).spt.port[p] = if portOn s p = false then s.spt.port[p] else portTriggered s edge p s.spt.port[p] := by
  rw [triggerPort_spt]
  split
  · rfl
  · exact modPort_same ..

theorem triggerPort_view (h : q ≠ p) : triggerView p (triggerPort edge s q) = triggerView p s := by
  unfold triggerView
  rw [triggerPort_other h, triggerPort_only.kept .boot (by decide), triggerPort_only.kept .pmu (by decide)]

theorem portOn_of_view (h : triggerView p t = triggerView p s) : portOn t p = portOn s p := by
  simp only [triggerView, Prod.mk.injEq] at h
  obtain ⟨hp, hb, hd⟩ := h
  exact portOn_congr hb hd (by rw [hp])

theorem portTriggered_congr (hb : t.boot = s.boot) : portTriggered t = portTriggered s := by
  funext edge p q
  simp only [portTriggered, cfgBAt_congr hb, cfgAt_congr hb]

/-- Of a trigger's turns a port meets its own. -/
theorem triggerTurns_port (edge : Nat) (s : State) (p : Port) : ((List.finRange 4).foldl (triggerPort edge) s).spt.port[p] =
    if portOn s p = false then s.spt.port[p] else portTriggered s edge p s.spt.port[p] := by
  obtain ⟨u, hu, he⟩ := foldl_keeps_around (f := triggerPort edge) (triggerView p) (fun t q hq => triggerPort_view hq) (List.mem_finRange p)
    (List.nodup_finRange 4) s
  have hon : portOn u p = portOn s p := portOn_of_view hu
  simp only [triggerView, Prod.mk.injEq] at hu he
  rw [he.1, triggerPort_same, hon, hu.1, portTriggered_congr hu.2.1]

theorem triggerPorts_port (s : State) (p : Port) : (triggerPorts s).spt.port[p] =
    if portOn s p = false then s.spt.port[p] else portTriggered s (sclkEdge s.sky.tick) p s.spt.port[p] :=
  triggerTurns_port (sclkEdge s.sky.tick) { s with spt := { s.spt with trig := some (sclkEdge s.sky.tick) } } p

theorem triggerPorts_trig (s : State) : (triggerPorts s).spt.trig = some (sclkEdge s.sky.tick) ∧ (triggerPorts s).spt.trigDue = s.spt.trigDue := by
  have hkeep := foldl_relates (R := fun s t : State => t.spt.trig = s.spt.trig ∧ t.spt.trigDue = s.spt.trigDue) (f := triggerPort (sclkEdge s.sky.tick))
    (fun _ => ⟨rfl, rfl⟩) (fun h k => ⟨k.1.trans h.1, k.2.trans h.2⟩) (fun t p => by
      rw [triggerPort_spt]
      split <;> exact ⟨rfl, rfl⟩) (List.finRange 4) { s with spt := { s.spt with trig := some (sclkEdge s.sky.tick) } }
  exact hkeep

theorem triggerPorts_clk (s : State) : (triggerPorts s).clk = s.clk := (Touches.only touches_triggerPorts s).kept .clk (by decide)

theorem exec_samplePortTrigger_on (h : triggerDue s = true) (ho : anyPortOn s = true) : exec .samplePortTrigger s = .next (triggerPorts (takeTriggers s)) :=
  congrArg _ ((if_neg (by simp [h])).trans (if_pos ho))

theorem exec_samplePortTrigger_off (h : triggerDue s = true) (ho : anyPortOn s = false) : exec .samplePortTrigger s = .next
    ((List.range ((portTriggers s).length + b2n (relockTrigger s))).foldl (fun t _ => bump cSkySuppressedActions t) (takeTriggers s)) :=
  congrArg _ ((if_neg (by simp [h])).trans (if_neg (by simp [ho])))

theorem ctrGet_bumps {α : Type} (i : Nat) (xs : List α) (s : State) (h : ctrGet s i ≤ 2 ^ 32 - 1) :
    raised i xs.length s (xs.foldl (fun t _ => bump i t) s) := by
  induction xs generalizing s with
  | nil => exact (Nat.min_eq_left h).symm
  | cons x xs ih =>
    have hx := ctrGet_bump_self i s
    have hxs := ih (bump i s) (by omega)
    unfold raised at hxs ⊢
    rw [List.foldl_cons, hxs, hx, List.length_cons]
    omega

/-- Counts in turn raise a counter by as many. -/
theorem raised_bumps {α : Type} (i : Nat) {xs : List α} (hx : xs ≠ []) (s : State) : raised i xs.length s (xs.foldl (fun t _ => bump i t) s) := by
  obtain ⟨x, xs, rfl⟩ := List.exists_cons_of_ne_nil hx
  have hb := ctrGet_bump_self i s
  have hxs := ctrGet_bumps i xs (bump i s) (by omega)
  unfold raised at hxs ⊢
  rw [List.foldl_cons, hxs, hb, List.length_cons]
  omega

theorem upToReports_bumps (i : Nat) {α : Type} (xs : List α) (s : State) : upToReports s (xs.foldl (fun t _ => bump i t) s) :=
  foldl_relates (R := upToReports) (fun _ => rfl) upToReports_trans (fun t _ => upToReports_bump i t) xs s

theorem triggerDue_count (h : triggerDue s = true) : 0 < (portTriggers s).length + (if relockTrigger s then 1 else 0) := by
  unfold triggerDue at h
  cases hr : relockTrigger s with
  | true => exact Nat.succ_pos _
  | false =>
    have hne : portTriggers s ≠ [] := by simpa [hr] using h
    have := List.length_pos_iff.2 hne
    omega

theorem b2n_eq (c : Bool) : b2n c = if c then 1 else 0 := by cases c <;> rfl

theorem suppressedTriggers (h : triggerDue s = true) (ho : anyPortOn s = false) : ∃ t, exec .samplePortTrigger s = .next t ∧
    upToReports (takeTriggers s) t ∧ raised cSkySuppressedActions ((portTriggers s).length + (if relockTrigger s then 1 else 0)) s t := by
  have hpos := triggerDue_count h
  refine ⟨_, exec_samplePortTrigger_off h ho, upToReports_bumps _ _ _, ?_⟩
  rw [b2n_eq]
  have hn := raised_bumps cSkySuppressedActions (xs := List.range ((portTriggers s).length + if relockTrigger s then 1 else 0))
    (by simpa [List.range_eq_nil] using hpos.ne') (takeTriggers s)
  rwa [List.length_range] at hn

/-- The first SCLK edge at or after a tick (02_sample_ports R32). -/
theorem sclkEdge_spec (t : Nat) : t ≤ sclkEdge t ∧ sclkEdge t < t + 8 ∧ (sclkEdge t - Config.sclkPhase : Int) % 8 = 0 := by
  unfold sclkEdge
  generalize Config.sclkPhase = c
  omega

end Sys2Proof.Machine
end

section
/-!
SUPPORT. An entry of the init script (02_sample_ports R42, R43).
-/

namespace Sys2Proof.Machine

/-- The port of a script entry. -/
def feinitPort (s : State) (k : Nat) : Port := ⟨cfgAt s sptFeinitPort k % 4, Nat.mod_lt _ (by decide)⟩

/-- Ticks that the script waits after an entry. -/
def feinitWait (s : State) (k : Nat) : Nat := ceilDiv (cfgAt s sptFeinitDelay k * 49152) 100

/-- The bits received are not those that a read entry expects. -/
def feinitBad (s : State) (rx : BitVec 32) (k : Nat) : Bool :=
  cfgBAt s sptFeinitRead k && decide (rx.toNat % 2 ^ min 16 (cfgAt s sptPortSpiBits (feinitPort s k).val) ≠
    cfgAt s sptFeinitExpect k % 2 ^ min 16 (cfgAt s sptPortSpiBits (feinitPort s k).val))

/-- An entry sent, and the script's place after it. -/
def feinitSent (s : State) (k : Nat) : State :=
  let t := spiSend (feinitPort s k) [cfgAt s sptFeinitWord k] s
  { t with spt := { t.spt with feinit := k + 1, feNext := s.sky.tick + feinitWait s k } }

/-- What the bits received do to the port. -/
def feinitJudged (rx : BitVec 32) (s : State) (k : Nat) : State :=
  if feinitBad s rx k then
    recB 1 0x0202 (leBytes 1 (feinitPort s k).val ++ leBytes 2 (rx.toNat % 2 ^ min 16 (cfgAt s sptPortSpiBits (feinitPort s k).val)))
      (clkRefresh (ckoUpdate (modPort (feinitPort s k) (fun q => { q with initFail := true }) (feinitSent s k))))
  else feinitSent s k

/-- After the last entry the loader's trigger is scheduled. -/
def feinitScheduled (at_ : Nat) (t : State) : State :=
  if (feinitNext t).isNone then { t with spt := { t.spt with trigDue := t.spt.trigDue ++ [at_] } } else t

/-- The state after the script's entry `k`. -/
def feinitDone (rx : BitVec 32) (s : State) (k : Nat) : State :=
  sptRefresh (feinitPort s k) (feinitScheduled (s.sky.tick + feinitWait s k + msTicks 1) (feinitJudged rx s k))

variable {s t : State} {q : Port} {k at_ : Nat} {rx : BitVec 32}

theorem exec_feinitEntry (hl : s.mode.life = .boot ∨ s.mode.life = .run) (hk : feinitNext s = some k) (hf : spiFree s (feinitPort s k) 1 = true)
    (ht : s.spt.feNext + spiSpan s (feinitPort s k) (cfgAt s sptPortSpiBits (feinitPort s k).val) ≤ s.sky.tick) :
    exec (.feinitEntry rx) s = .next (feinitDone rx s k) := by
  have hlife : ¬(s.mode.life ≠ .boot ∧ s.mode.life ≠ .run) := by tauto
  have hwait : ¬(spiFree s (feinitPort s k) 1 = false ∨
      s.sky.tick < s.spt.feNext + spiSpan s (feinitPort s k) (cfgAt s sptPortSpiBits (feinitPort s k).val)) := by
    rw [hf]
    simpa using ht
  show execFeinitEntry rx s = _
  unfold execFeinitEntry
  rw [if_neg hlife, hk]
  exact if_neg hwait

/-- The next entry is one of a port that has not failed. -/
theorem feinitNext_some (h : feinitNext s = some k) : s.spt.port[feinitPort s k].initFail = false := by
  have hk := List.find?_some h
  split at hk
  next p hp =>
    have hv : p.val = cfgAt s sptFeinitPort k := by simpa using List.find?_some hp
    have hport : feinitPort s k = p := Fin.ext ((congrArg (· % 4) hv.symm).trans (Nat.mod_eq_of_lt p.isLt))
    subst hport
    simpa using hk
  next => exact absurd hk (by decide)

theorem feinitNext_congr (hb : t.boot = s.boot) (hf : t.spt.feinit = s.spt.feinit) (hp : t.spt.port = s.spt.port) : feinitNext t = feinitNext s := by
  unfold feinitNext feinitCount blockOf
  rw [cfgAt_congr hb, hb, hf, hp]

theorem feinitSent_spi (s : State) (k : Nat) : (feinitSent s k).spt.spi = some ⟨feinitPort s k, cfgAt s sptPortSpiMode (feinitPort s k).val,
    spiBits s (feinitPort s k) (cfgAt s sptFeinitWord k), s.sky.tick - spiSpan s (feinitPort s k) (cfgAt s sptPortSpiBits (feinitPort s k).val),
    s.sky.tick⟩ := by
  have hlen : (spiBits s (feinitPort s k) (cfgAt s sptFeinitWord k)).length = cfgAt s sptPortSpiBits (feinitPort s k).val := by simp [spiBits]
  simp only [feinitSent, spiSend, List.flatMap_singleton, hlen]

theorem feinitJudged_spt : (feinitJudged rx s k).spt =
    if feinitBad s rx k then (modPort (feinitPort s k) (fun q => { q with initFail := true }) (feinitSent s k)).spt else (feinitSent s k).spt := by
  unfold feinitJudged
  split
  · rw [recB_spt, (only_clkRefresh _).kept .spt (by decide)]
    rfl
  · rfl

theorem feinitJudged_rest : (feinitJudged rx s k).spt =
    { s.spt with feinit := k + 1, feNext := s.sky.tick + feinitWait s k, spi := (feinitSent s k).spt.spi, port := (feinitJudged rx s k).spt.port } := by
  rw [feinitJudged_spt]
  split <;> rfl

theorem feinitJudged_same (h : feinitNext s = some k) : (feinitJudged rx s k).spt.port[feinitPort s k].initFail = feinitBad s rx k := by
  rw [feinitJudged_spt]
  cases hb : feinitBad s rx k with
  | true =>
    rw [if_pos rfl, modPort_same]
  | false =>
    rw [if_neg (by decide)]
    show s.spt.port[feinitPort s k].initFail = false
    exact feinitNext_some h

theorem feinitJudged_other (h : q ≠ feinitPort s k) : (feinitJudged rx s k).spt.port[q] = s.spt.port[q] := by
  rw [feinitJudged_spt]
  split
  · exact modPort_other _ _ _ _ h
  · rfl

theorem feinitScheduled_spt (at_ : Nat) (t : State) : (feinitScheduled at_ t).spt =
    { t.spt with trigDue := t.spt.trigDue ++ if feinitNext t = none then [at_] else [] } := by
  unfold feinitScheduled
  cases feinitNext t with
  | none => rfl
  | some k => simp

theorem feinitDone_spt : (feinitDone rx s k).spt = (feinitScheduled (s.sky.tick + feinitWait s k + msTicks 1) (feinitJudged rx s k)).spt := sptRefresh_spt ..

theorem feinitScheduled_only (at_ : Nat) (t : State) : only [.spt] t (feinitScheduled at_ t) := by
  unfold feinitScheduled
  split
  · exact fun x => by cases x <;> simp [Part.same]
  · exact only_refl _ t

theorem feinitNext_done : feinitNext (feinitDone rx s k) = feinitNext (feinitJudged rx s k) := by
  refine feinitNext_congr ?_ ?_ ?_
  · exact ((only_sptRefresh _ _).kept .boot (by decide)).trans ((feinitScheduled_only _ _).kept .boot (by decide))
  · rw [feinitDone_spt, feinitScheduled_spt]
  · rw [feinitDone_spt, feinitScheduled_spt]

end Sys2Proof.Machine
end

section
/-!
OBLIGATION O32 (02_sample_ports): the clauses of a running port's commands put together.
-/

namespace Sys2Proof.Machine

variable {p l : Port} {s : State}

theorem guardWindow_clauses (ho : portOn s p = true) (hw : 65536 ≤ (laneAt s p l).win.words) :
    let x := laneAt s p l
    (2 * x.win.valid < x.win.words → completes (.guardWindow p l) s (fun t => t = modLane p l (fun x => { x with win := {} }) s)) ∧
    (x.win.words ≤ 2 * x.win.valid → guardFails x.win = true → completes (.guardWindow p l) s (fun t =>
      upToReports (modLane p l guardFailed s) t ∧ (3 ≤ x.failRun → x.notSamples = false → counted (cSptGuardTrips p) s t))) ∧
    (x.win.words ≤ 2 * x.win.valid → guardFails x.win = false →
      completes (.guardWindow p l) s (fun t => upToReports (modLane p l guardPassed s) t)) :=
  ⟨fun hv => ⟨_, exec_guardWindow_few ho hw hv, rfl⟩,
    fun hv hf => ⟨_, exec_guardWindow_fails ho hw hv hf, upToReports_trans (upToReports_bumpIf _ _ _) (upToReports_sptRefresh _ _),
      fun hr hn => guardTrips_counted hr hn rfl⟩,
    fun hv hf => ⟨_, exec_guardWindow_passes ho hw hv hf, upToReports_sptRefresh _ _⟩⟩

/-- A due trigger restarts every running port (02_sample_ports R32, R35). -/
theorem triggerPorts_restarts (s : State) (p : Port) :
    (portOn s p = false → (triggerPorts (takeTriggers s)).spt.port[p] = s.spt.port[p]) ∧
    (portOn s p = true → (triggerPorts (takeTriggers s)).spt.port[p] = portTriggered s (sclkEdge s.sky.tick) p s.spt.port[p]) := by
  have h := triggerPorts_port (takeTriggers s) p
  exact ⟨fun ho => h.trans (if_pos ho), fun ho => h.trans (if_neg (by rw [show portOn (takeTriggers s) p = true from ho]; decide))⟩

theorem portTriggered_loMute {edge : Nat} {t : State} (h : t.spt.port[p] = portTriggered s edge p s.spt.port[p]) (l : Port) : (laneAt t p l).loMute = false := by
  unfold laneAt
  rw [h]
  exact congrArg LaneState.loMute (Vector.getElem_map ..)

/-- Settles O32, clause by clause: each command's outcome is a named state, whose parts the lemmas above give. -/
theorem samplePortsFrameAndGuard : Obligations.SamplePortsFrameAndGuard := by
  refine ⟨fun s p ok w ho => ⟨_, execFrameWord_completes ho, ?_⟩, fun s p ho => ⟨fun hl hs hb => ⟨_, exec_syncLost ho hl hs hb, ?_⟩,
    fun hl hg => ⟨_, exec_syncRegain ho hl hg, ?_⟩, fun l hw => guardWindow_clauses ho hw⟩, fun s hd => ⟨suppressedTriggers hd, fun ho =>
      ⟨_, exec_samplePortTrigger_on hd ho, ?_⟩⟩, sclkEdge_spec, fun s rx k hl hk hf ht => ⟨_, exec_feinitEntry hl hk hf ht, ?_⟩⟩
  · obtain ⟨hlast, hsync, hbad, hgood⟩ := wordDone_same (p := p) (ok := ok) (w := w) (s := s)
    refine ⟨hlast, hsync, hbad, hgood, fun q hq => wordDone_other hq, fun l hl hb => ⟨fun hm => ?_, fun hv hm hn hx hg hk hc => ?_⟩⟩
    · exact wordDone_head_muted (receiverOn_of_running ho hl) hb hm
    · exact wordDone_head_clean (receiverOn_of_running ho hl) hb hv hm hn hx hg hk hc
  · exact ⟨loseSync_upToReports p s, counted_loseSync p s⟩
  · have hp := syncRegained_same (p := p) (s := s)
    refine ⟨by rw [hp]; rfl, by rw [hp]; rfl, by rw [hp]; rfl, by rw [hp]; rfl, by rw [hp]; rfl, fun l => ?_, fun q hq => syncRegained_other hq,
      syncRegained_cal⟩
    rw [syncRegained_lane]
    exact ⟨rfl, rfl⟩
  · obtain ⟨htrig, hdue⟩ := triggerPorts_trig (takeTriggers s)
    refine ⟨htrig, hdue, triggerPorts_clk _, fun p => ?_⟩
    obtain ⟨hoff, hon⟩ := triggerPorts_restarts s p
    refine ⟨hoff, fun hp => ?_⟩
    have hport := hon hp
    refine ⟨?_, ?_, ?_, ?_, portTriggered_loMute hport⟩
    all_goals rw [hport]; rfl
  · dsimp only
    rw [feinitNext_done, feinitDone_spt, feinitScheduled_spt]
    refine ⟨?_, ?_, ?_, feinitJudged_same hk, ?_, fun q hq => feinitJudged_other hq⟩
    · rw [feinitJudged_rest]
    · rw [feinitJudged_rest]
      rfl
    · rw [feinitJudged_rest]
      exact feinitSent_spi s k
    · rw [feinitJudged_rest]
      rfl

end Sys2Proof.Machine
end

section
/-!
SUPPORT. The gain loop of a lane (02_sample_ports R46, R47): its millisecond, the step that AGC asks for, and the return of a fixed lane.
-/

namespace Sys2Proof.Machine

/-- The step that a lane's runs ask for, with the tick of asking (02_sample_ports R46). -/
def agcWish (s : State) (p l : Port) : Option (Nat × Nat) :=
  let x := laneAt s p l
  if 4 ≤ x.hiRun ∧ 0 < x.gain then some (x.gain - 1, s.sky.tick)
  else if 4 ≤ x.loRun ∧ x.gain < cfgAt s sptLaneGainMax (laneIdx p l) then some (x.gain + 1, s.sky.tick)
  else none

/-- The greatest share of magnitude 3, in 0.5 %, that a lane's loop bears. -/
def loopHi (s : State) (n : Nat) : Nat := if cfgAt s sptLaneGainMode n = 0 then cfgAt s sptLanePHi n else 80

/-- The least share of magnitude 3, in 0.5 %, that a lane's loop bears. -/
def loopLo (s : State) (n : Nat) : Nat := if cfgAt s sptLaneGainMode n = 0 then cfgAt s sptLanePLo n else 4

/-- A lane after the evaluation of its millisecond, before what the loop then asks for. -/
def loopLane (s : State) (n : Nat) (x : LaneState) : LaneState :=
  let isOver := decide (80 * (2 * x.msValid) < 200 * x.msThree)
  let isUnder := decide (200 * x.msThree < 4 * (2 * x.msValid))
  { x with
    msTotal := 0, msValid := 0, msThree := 0, overload := isOver, underload := isUnder
    hiRun := if loopHi s n * (2 * x.msValid) < 200 * x.msThree then min 4 (x.hiRun + 1) else 0
    loRun := if 200 * x.msThree < loopLo s n * (2 * x.msValid) then min 64 (x.loRun + 1) else 0
    inside := if isOver || isUnder then none else some (x.inside.getD s.sky.tick)
    lastReturn := if isOver || isUnder then none else x.lastReturn }

/-- What a lane's loop asks for after a millisecond's evaluation, by GAIN_MODE. -/
def loopActs (p l : Port) (mode : Nat) (s : State) : State :=
  if mode = 0 then agcStep p l s
  else if mode = 1 then
    if (laneAt s p l).conflict then agcStep p l s
    else if 4 ≤ (laneAt s p l).hiRun ∨ 64 ≤ (laneAt s p l).loRun then agcStep p l (beginEpisode p l s)
    else s
  else s

variable {p l : Port} {s t : State} {mode i : Nat}

theorem askStep_lane (i : Nat) (s : State) :
    laneAt (askStep p l i s) p l = { laneAt s p l with req := (laneAt s p l).req.or (some (i, s.sky.tick)) } := by
  unfold askStep
  rw [laneAt_modLane]
  cases h : (laneAt s p l).req with
  | none => rfl
  | some r =>
    refine (if_pos rfl).trans ?_
    rw [Option.some_or, ← h]

theorem agcStep_lane (s : State) : laneAt (agcStep p l s) p l = { laneAt s p l with req := (laneAt s p l).req.or (agcWish s p l) } := by
  unfold agcStep agcWish
  dsimp only
  split
  · exact askStep_lane _ s
  · split
    · exact askStep_lane _ s
    · rw [Option.or_none]

theorem beginEpisode_lane (s : State) :
    laneAt (beginEpisode p l s) p l = { laneAt s p l with conflict := true, inside := none, lastReturn := none } :=
  (laneAt_congr (congrArg (fun x : SptState => x.port[p]) ((recB_spt ..).trans (bump_spt ..))) l).trans (laneAt_modLane _ s)

theorem beginEpisode_counted (s : State) : counted (cSptGainConflicts p) s (beginEpisode p l s) := by
  have hfree : reportFree (cSptGainConflicts p) := reportFree_of_lt (by unfold cSptGainConflicts; omega)
  exact (ctrGet_recB_free hfree _ _ _ _).trans (counted_bump _ _)

/-- What a loop asks for leaves the lane's gain, its flags and its runs. -/
theorem loopActs_lane (mode : Nat) (s : State) : let y := laneAt (loopActs p l mode s) p l
    y = { laneAt s p l with req := y.req, conflict := y.conflict, inside := y.inside, lastReturn := y.lastReturn } := by
  dsimp only
  unfold loopActs
  split
  · rw [agcStep_lane]
  · split
    · split
      · rw [agcStep_lane]
      · split
        · rw [agcStep_lane, beginEpisode_lane]
        · rfl
    · rfl

theorem loopActs_agc (s : State) : laneAt (loopActs p l 0 s) p l = { laneAt s p l with req := (laneAt s p l).req.or (agcWish s p l) } := agcStep_lane s

theorem loopActs_episode (h : (laneAt s p l).conflict = false) :
    (laneAt (loopActs p l 1 s) p l).conflict = decide (4 ≤ (laneAt s p l).hiRun ∨ 64 ≤ (laneAt s p l).loRun) ∧
    ((laneAt (loopActs p l 1 s) p l).conflict = true → counted (cSptGainConflicts p) s (loopActs p l 1 s)) := by
  unfold loopActs
  rw [if_neg (by decide), if_pos rfl, h, if_neg (by decide)]
  split
  next hc =>
    rw [agcStep_lane, beginEpisode_lane, decide_eq_true hc]
    exact ⟨rfl, fun _ => counted_of_same (beginEpisode_counted s) rfl
      (ctrGet_congr ((Touches.only (touches_agcStep p l) _).kept .ctr (by decide)) _)⟩
  next hc =>
    rw [h, decide_eq_false hc]
    exact ⟨rfl, fun he => absurd he (by decide)⟩

section
variable (ho : portOn s p = true) (hb : laneBand s p l ≠ 0)
include ho hb

theorem gainLoop_open : ¬(portOn s p = false ∨ laneBand s p l = 0) := by
  rw [ho]
  simpa using hb

theorem exec_gainLoopMs_few (h : (laneAt s p l).msTotal = 0 ∨ 2 * (laneAt s p l).msValid < (laneAt s p l).msTotal) :
    exec (.gainLoopMs p l) s = .next (modLane p l (fun x => { x with msTotal := 0, msValid := 0, msThree := 0 }) s) :=
  (if_neg (gainLoop_open ho hb)).trans (if_pos h)

theorem exec_gainLoopMs (ht : 0 < (laneAt s p l).msTotal) (hv : (laneAt s p l).msTotal ≤ 2 * (laneAt s p l).msValid) :
    exec (.gainLoopMs p l) s = .next (sptRefresh p (loopActs p l (cfgAt s sptLaneGainMode (laneIdx p l)) (modLane p l (loopLane s (laneIdx p l)) s))) := by
  have hfew : ¬((laneAt s p l).msTotal = 0 ∨ 2 * (laneAt s p l).msValid < (laneAt s p l).msTotal) := by omega
  refine (if_neg (gainLoop_open ho hb)).trans ((if_neg hfew).trans
    (congrArg (fun u => Host.Outcome.next (sptRefresh p (loopActs p l (cfgAt s sptLaneGainMode (laneIdx p l)) u))) ?_))
  refine (modLane_modLane _ _ s).trans (modLane_congr ?_)
  simp [loopLane, loopHi, loopLo]

end

/-- The state after a lane's evaluated millisecond. -/
def loopDone (p l : Port) (s : State) : State :=
  sptRefresh p (loopActs p l (cfgAt s sptLaneGainMode (laneIdx p l)) (modLane p l (loopLane s (laneIdx p l)) s))

theorem loopDone_lane_acts : laneAt (loopDone p l s) p l =
    laneAt (loopActs p l (cfgAt s sptLaneGainMode (laneIdx p l)) (modLane p l (loopLane s (laneIdx p l)) s)) p l :=
  laneAt_congr (congrArg (fun x : SptState => x.port[p]) (sptRefresh_spt ..)) l

theorem loopDone_lane : let y := laneAt (loopDone p l s) p l
    y = { loopLane s (laneIdx p l) (laneAt s p l) with req := y.req, conflict := y.conflict, inside := y.inside, lastReturn := y.lastReturn } := by
  have h := loopActs_lane (p := p) (l := l) (cfgAt s sptLaneGainMode (laneIdx p l)) (modLane p l (loopLane s (laneIdx p l)) s)
  rw [← loopDone_lane_acts, laneAt_modLane] at h
  exact h

/-- Under AGC a lane with no step waiting asks for what its new runs ask for (02_sample_ports R46). -/
theorem loopDone_req (hm : cfgAt s sptLaneGainMode (laneIdx p l) = 0) (hr : (laneAt s p l).req = none) :
    let y := laneAt (loopDone p l s) p l
    y.req = if 4 ≤ y.hiRun ∧ 0 < (laneAt s p l).gain then some ((laneAt s p l).gain - 1, s.sky.tick)
      else if 4 ≤ y.loRun ∧ (laneAt s p l).gain < cfgAt s sptLaneGainMax (laneIdx p l) then some ((laneAt s p l).gain + 1, s.sky.tick) else none := by
  have hreq : (loopLane s (laneIdx p l) (laneAt s p l)).req = none := hr
  dsimp only
  rw [loopDone_lane_acts, hm, loopActs_agc, laneAt_modLane, hreq, Option.none_or]
  unfold agcWish
  rw [laneAt_modLane]
  rfl

/-- A fixed lane at its limits begins an episode, which counts (02_sample_ports R47). -/
theorem loopDone_conflict (hm : cfgAt s sptLaneGainMode (laneIdx p l) = 1) (hc : (laneAt s p l).conflict = false) :
    let y := laneAt (loopDone p l s) p l
    y.conflict = decide (4 ≤ y.hiRun ∨ 64 ≤ y.loRun) ∧ (y.conflict = true → counted (cSptGainConflicts p) s (loopDone p l s)) := by
  have hy := loopDone_lane (p := p) (l := l) (s := s)
  dsimp only at hy ⊢
  have hhi := congrArg LaneState.hiRun hy
  have hlo := congrArg LaneState.loRun hy
  have he := loopActs_episode (p := p) (l := l) (s := modLane p l (loopLane s (laneIdx p l)) s) (by rw [laneAt_modLane]; exact hc)
  rw [← hm, ← loopDone_lane_acts, laneAt_modLane] at he
  rw [hhi, hlo]
  have hfree : reportFree (cSptGainConflicts p) := reportFree_of_lt (by unfold cSptGainConflicts; omega)
  exact ⟨he.1, fun h => (ctrGet_sptRefresh hfree _ _).trans (he.2 h)⟩

section
variable {a : Nat} (ho : portOn s p = true) (hc : (laneAt s p l).conflict = true) (hr : (laneAt s p l).req = none) (hi : (laneAt s p l).inside = some a)
  (ha : a + 491520000 ≤ s.sky.tick) (hb : ∀ b, (laneAt s p l).lastReturn = some b → b + 49152000 ≤ s.sky.tick)
include ho hc hr hi ha hb

/-- A lane 1 s inside its envelope, and 100 ms past its last return, takes its turn (02_sample_ports R47). -/
theorem exec_fixedReturnStep : exec (.fixedReturnStep p l) s = .next (
    if (laneAt s p l).gain = cfgAt s sptLaneFixIndex (laneIdx p l) then sptRefresh p (modLane p l (fun x => { x with conflict := false }) s)
    else modLane p l (fun x => { x with lastReturn := some s.sky.tick })
      (askStep p l (if (laneAt s p l).gain < cfgAt s sptLaneFixIndex (laneIdx p l) then (laneAt s p l).gain + 1 else (laneAt s p l).gain - 1) s)) := by
  have hinside : since s a (secTicks 1) = true := decide_eq_true ha
  show execFixedReturnStep p l s = _
  unfold execFixedReturnStep
  dsimp only
  rw [ho, hc, hr, hi]
  cases hl : (laneAt s p l).lastReturn with
  | none => simp [hinside]
  | some b =>
    have hlast : since s b (msTicks 100) = true := decide_eq_true (hb b hl)
    simp [hinside, hlast]

theorem exec_fixedReturnStep_at (hg : (laneAt s p l).gain = cfgAt s sptLaneFixIndex (laneIdx p l)) :
    exec (.fixedReturnStep p l) s = .next (sptRefresh p (modLane p l (fun x => { x with conflict := false }) s)) := by
  rw [exec_fixedReturnStep ho hc hr hi ha hb, if_pos hg]

theorem exec_fixedReturnStep_off (hg : (laneAt s p l).gain ≠ cfgAt s sptLaneFixIndex (laneIdx p l)) :
    exec (.fixedReturnStep p l) s = .next (modLane p l (fun x => { x with
      lastReturn := some s.sky.tick
      req := some (if x.gain < cfgAt s sptLaneFixIndex (laneIdx p l) then x.gain + 1 else x.gain - 1, s.sky.tick) }) s) := by
  rw [exec_fixedReturnStep ho hc hr hi ha hb, if_neg hg, askStep, modLane_modLane]
  refine congrArg _ (modLane_congr ?_)
  rw [hr]
  rfl

end

end Sys2Proof.Machine
end

section
/-!
SUPPORT. Gain steps (02_sample_ports R44, R45): whose turn it is, and what the steps of one transfer leave.
-/

namespace Sys2Proof.Machine

/-- A step to index `i` has landed on a lane, its first sample at an instant. -/
structure StepLanded (first : Int) (i : Nat) (x y : LaneState) : Prop where
  gain : y.gain = i
  prevGain : y.prevGain = x.gain
  req : y.req = none
  stepAt : y.stepAt = some first.toNat
  hiRun : y.hiRun = 0
  loRun : y.loRun = 0

/-- The lanes of a port whose steps found no boundary within 2 ms. -/
def lateLanes (s : State) (p : Port) : List Port :=
  (List.finRange 4).filter fun l => match (laneAt s p l).req with | some (_, t) => decide (t + 983040 < s.sky.tick) | none => false

variable {p q l k : Port} {s t : State} {i u m : Nat} {first : Int} {ls : List Port}

theorem foldl_keeps_of_not_mem {α β γ : Type} {f : β → α → β} (g : β → γ) {q : α} (hf : ∀ s a, a ≠ q → g (f s a) = g s) {xs : List α} (hq : q ∉ xs)
    (s : β) : g (xs.foldl f s) = g s :=
  List.foldlRecOn xs f (motive := fun t => g t = g s) rfl fun t ht a ha => (hf t a (ne_of_mem_of_not_mem ha hq)).trans ht

theorem landStep_none (h : (laneAt s p l).req = none) : landStep p first l s = s := by
  unfold landStep
  rw [h]

theorem landStep_lands (h : (laneAt s p l).req = some (i, u)) : StepLanded first i (laneAt s p l) (laneAt (landStep p first l s) p l) := by
  unfold landStep
  rw [h]
  dsimp only
  rw [laneAt_congr (congrArg (fun x : SptState => x.port[p]) (bump_spt ..)), laneAt_modLane]
  exact ⟨rfl, rfl, rfl, rfl, rfl, rfl⟩

theorem landStep_lane_other (h : k ≠ l) : laneAt (landStep p first k s) p l = laneAt s p l := by
  unfold landStep
  split
  · rfl
  · exact (laneAt_congr (congrArg (fun x : SptState => x.port[p]) (bump_spt ..)) l).trans (laneAt_modLane_other _ s h.symm)

theorem landStep_port_other (h : q ≠ p) : (landStep p first l s).spt.port[q] = s.spt.port[q] := by
  unfold landStep
  split
  · rfl
  · exact (congrArg (fun x : SptState => x.port[q]) (bump_spt ..)).trans (modLane_port_other _ s h)

theorem landStep_stepMs : (landStep p first l s).spt.stepMs = s.spt.stepMs := by
  unfold landStep
  split
  · rfl
  · exact (congrArg SptState.stepMs (bump_spt ..)).trans rfl

theorem landStep_ctr {j : Nat} (h : reportFree j) (hj : j ≠ cSptGainSteps p) : ctrGet (landStep p first l s) j = ctrGet s j := by
  unfold landStep
  split
  · rfl
  · exact ctrGet_bump_free h hj _

/-- The steps of one transfer in turn, from the state in which it was sent. -/
theorem sendSteps_spt (first : Int) (ls : List Port) (s : State) : ∃ x, (sendSteps p first ls s).spt =
    (ls.foldl (fun t l => landStep p first l t) { s with spt := { s.spt with spi := x } }).spt := ⟨_, sptRefresh_spt ..⟩

theorem sendSteps_lane (first : Int) (ls : List Port) (s : State) (l : Port) : ∃ x, laneAt (sendSteps p first ls s) p l =
    laneAt (ls.foldl (fun t l => landStep p first l t) { s with spt := { s.spt with spi := x } }) p l := by
  obtain ⟨x, hx⟩ := sendSteps_spt (p := p) first ls s
  exact ⟨x, laneAt_congr (congrArg (fun x : SptState => x.port[p]) hx) l⟩

theorem sendSteps_lands (hl : l ∈ ls) (hn : ls.Nodup) (h : (laneAt s p l).req = some (i, u)) :
    StepLanded first i (laneAt s p l) (laneAt (sendSteps p first ls s) p l) := by
  obtain ⟨x, hx⟩ := sendSteps_lane (p := p) first ls s l
  obtain ⟨v, hv, he⟩ := foldl_keeps_around (f := fun t l => landStep p first l t) (fun t => laneAt t p l) (fun t k hk => landStep_lane_other hk) hl hn
    { s with spt := { s.spt with spi := x } }
  have hvs : laneAt v p l = laneAt s p l := hv
  rw [hx, he, ← hvs]
  exact landStep_lands (by rw [hvs]; exact h)

theorem sendSteps_lane_other (hl : l ∉ ls) : laneAt (sendSteps p first ls s) p l = laneAt s p l := by
  obtain ⟨x, hx⟩ := sendSteps_lane (p := p) first ls s l
  exact hx.trans (foldl_keeps_of_not_mem (fun t => laneAt t p l) (fun t k hk => landStep_lane_other hk) hl _)

theorem sendSteps_rest (first : Int) (ls : List Port) (s : State) :
    (∀ q, q ≠ p → (sendSteps p first ls s).spt.port[q] = s.spt.port[q]) ∧ (sendSteps p first ls s).spt.stepMs = s.spt.stepMs := by
  obtain ⟨x, hx⟩ := sendSteps_spt (p := p) first ls s
  rw [hx]
  exact foldl_relates (R := fun s t : State => (∀ q, q ≠ p → t.spt.port[q] = s.spt.port[q]) ∧ t.spt.stepMs = s.spt.stepMs)
    (fun _ => ⟨fun _ _ => rfl, rfl⟩) (fun h k => ⟨fun q hq => (k.1 q hq).trans (h.1 q hq), k.2.trans h.2⟩)
    (fun t l => ⟨fun q hq => landStep_port_other hq, landStep_stepMs⟩) ls { s with spt := { s.spt with spi := x } }

theorem sendSteps_ctr {j : Nat} (h : reportFree j) (hj : j ≠ cSptGainSteps p) (first : Int) (ls : List Port) (s : State) :
    ctrGet (sendSteps p first ls s) j = ctrGet s j := by
  unfold sendSteps
  rw [ctrGet_sptRefresh h]
  exact foldl_relates (R := fun s t : State => ctrGet t j = ctrGet s j) (fun _ => rfl) (fun h k => k.trans h) (fun t l => landStep_ctr h hj) ls _

/-! ### Whose turn it is -/

/-- The oldest request of each running port that has one. -/
def oldestRequests (s : State) : List (Nat × Port) :=
  (List.finRange 4).filterMap fun p => if portOn s p then (requestTicks s p).min?.map fun t => (t, p) else none

theorem mem_oldestRequests : (m, p) ∈ oldestRequests s ↔ portOn s p = true ∧ (requestTicks s p).min? = some m := by
  unfold oldestRequests
  constructor
  · intro h
    obtain ⟨q, -, hq⟩ := List.mem_filterMap.1 h
    split at hq
    next ho =>
      obtain ⟨n, hn, he⟩ := Option.map_eq_some_iff.1 hq
      obtain ⟨rfl, rfl⟩ := Prod.mk.inj he
      exact ⟨ho, hn⟩
    next => cases hq
  · rintro ⟨ho, hm⟩
    exact List.mem_filterMap.2 ⟨p, List.mem_finRange p, by rw [if_pos ho, hm]; rfl⟩

theorem stepPort_some (h : stepPort s = some p) : ∃ m, (m, p) ∈ oldestRequests s ∧ ∀ e ∈ oldestRequests s, m ≤ e.1 := by
  unfold stepPort at h
  dsimp only at h
  split at h
  next => cases h
  next m hm =>
    obtain ⟨⟨n, q⟩, hq, rfl⟩ := Option.map_eq_some_iff.1 h
    have hn : n = m := by simpa using List.find?_some hq
    subst hn
    exact ⟨n, List.mem_of_find?_eq_some hq, fun e he => (List.min?_eq_some_iff.1 hm).2 _ (List.mem_map_of_mem he)⟩

/-- The port whose turn it is runs and has a request as old as any (02_sample_ports R45). -/
theorem stepPort_oldest (h : stepPort s = some p) : portOn s p = true ∧
    ∀ q : Port, portOn s q = true → ∀ u ∈ requestTicks s q, ∃ v ∈ requestTicks s p, v ≤ u := by
  obtain ⟨m, hm, hle⟩ := stepPort_some h
  obtain ⟨ho, hmin⟩ := mem_oldestRequests.1 hm
  refine ⟨ho, fun q hq u hu => ⟨m, List.min?_mem hmin, ?_⟩⟩
  obtain ⟨n, hn⟩ := Option.isSome_iff_exists.1 (List.isSome_min?_of_mem hu)
  exact (hle _ (mem_oldestRequests.2 ⟨hq, hn⟩)).trans ((List.min?_eq_some_iff.1 hn).2 u hu)

/-! ### The two ways a step lands -/

theorem exec_gainStep {b : Int} (hp : stepPort s = some p) (hb : stepBoundary s p = some b)
    (hm : s.spt.stepMs ≠ some (1000 * stAt s b.toNat).floor.toNat)
    (hf : spiFree s p ((List.finRange 4).filter fun l => (laneAt s p l).req.isSome).length = true) : exec (.gainStep p) s = .next
      (sendSteps p b ((List.finRange 4).filter fun l => (laneAt s p l).req.isSome)
        { s with spt := { s.spt with stepMs := some (1000 * stAt s b.toNat).floor.toNat } }) := by
  show execGainStep p s = _
  unfold execGainStep
  rw [hb]
  exact congrArg _ (if_pos ⟨hp, hm, hf⟩)

theorem mem_lateLanes (h : (laneAt s p l).req = some (i, u)) : l ∈ lateLanes s p ↔ u + 983040 < s.sky.tick := by
  simp [lateLanes, h]

theorem exec_gainUnaligned (ho : portOn s p = true) (hl : l ∈ lateLanes s p) (hf : spiFree s p (lateLanes s p).length = true) :
    exec (.gainUnaligned p) s = .next (sendSteps p ((instantAfter s p ((s.sky.tick : Int) + 8 * cfgAt s sptPortGainLat p.val)).getD
        ((s.sky.tick : Int) + 8 * cfgAt s sptPortGainLat p.val)) (lateLanes s p)
      ((lateLanes s p).foldl (fun t _ => bump (cSptGainUnaligned p) t) s)) := by
  have hopen : ¬(portOn s p = false ∨ lateLanes s p = [] ∨ spiFree s p (lateLanes s p).length = false) := by
    rw [ho, hf]
    simpa using List.ne_nil_of_mem hl
  exact congrArg _ (if_neg hopen)

theorem bumps_spt {α : Type} (i : Nat) (xs : List α) (s : State) : (xs.foldl (fun t _ => bump i t) s).spt = s.spt :=
  foldl_relates (R := fun s t : State => t.spt = s.spt) (fun _ => rfl) (fun h k => k.trans h) (fun t _ => bump_spt i t) xs s

/-- The steps without a boundary count as many as they are (02_sample_ports R45). -/
theorem gainUnaligned_counts (hl : l ∈ lateLanes s p) (first : Int) : raised (cSptGainUnaligned p) (lateLanes s p).length s
    (sendSteps p first (lateLanes s p) ((lateLanes s p).foldl (fun t _ => bump (cSptGainUnaligned p) t) s)) := by
  have hfree : reportFree (cSptGainUnaligned p) := reportFree_of_lt (by unfold cSptGainUnaligned; omega)
  have hne : cSptGainUnaligned p ≠ cSptGainSteps p := by unfold cSptGainUnaligned cSptGainSteps; omega
  exact (sendSteps_ctr hfree hne _ _ _).trans (raised_bumps _ (List.ne_nil_of_mem hl) s)

end Sys2Proof.Machine
end

section
/-!
SUPPORT. Coexistence blanking (02_sample_ports R48): what the rising edge of BH_TX leaves of the lanes and the counters.
-/

namespace Sys2Proof.Machine

/-- From `s` to `t` the ports move in their lanes only. -/
structure LanesSide (s t : State) : Prop where
  eta : t = { s with spt := { s.spt with port := t.spt.port } }
  port : ∀ p : Port, t.spt.port[p] = { s.spt.port[p] with lane := t.spt.port[p].lane }

/-- The sample under way flagged blanked on the lanes of a port. -/
def blankPort (s : State) (p : Port) : State := (List.finRange 4).foldl (fun t l => blankLast p l t) s

/-- The sample under way flagged blanked on every lane. -/
def blankAll (s : State) : State := (List.finRange 4).foldl blankPort s

/-- The edge counts for a running port with a blanked lane. -/
def countBlanking (s : State) (p : Port) : State :=
  bumpIf (portOn s p && (List.finRange 4).any fun l => laneBand s p l != 0 && cfgBAt s sptLaneBlank (laneIdx p l)) (cSptBlankEvents p) s

/-- The state in which blanking has begun and no sample is flagged yet. -/
def blankBegun (s : State) : State :=
  let opens := s.spt.blank.any fun b => b.2.isNone
  let kept := s.spt.blank.filter fun b => match b.2 with | some e => decide (s.sky.tick ≤ e + 4096) | none => true
  { s with spt := { s.spt with bhTx := true, tail := none, blank := if opens then kept else (s.sky.tick, none) :: kept } }

/-- What the flagging of a lane's sample depends on. -/
def blankView (p l : Port) (s : State) : LaneState × Bool × BootState × PmuState × SkyState := (laneAt s p l, s.spt.port[p].initFail, s.boot, s.pmu, s.sky)

variable {p q l k : Port} {s t u : State}

theorem exec_bhTxRise (h : s.spt.bhTx = false) : exec .bhTxRise s = .next ((List.finRange 4).foldl countBlanking (blankAll (blankBegun s))) :=
  if_neg (by simp [h])

namespace LanesSide

theorem refl (s : State) : LanesSide s s := ⟨rfl, fun _ => rfl⟩

theorem trans (h : LanesSide s t) (k : LanesSide t u) : LanesSide s u where
  eta := k.eta.trans (congrArg (fun x : State => { x with spt := { x.spt with port := u.spt.port } }) h.eta)
  port p := by rw [k.port, h.port]

theorem of_modLane (f : LaneState → LaneState) (s : State) : LanesSide s (modLane p l f s) where
  eta := rfl
  port q := by
    by_cases hq : q = p
    · subst hq
      rw [modLane_port]
    · rw [modLane_port_other f s hq]

theorem of_blankLast (s : State) : LanesSide s (blankLast p l s) := by
  unfold blankLast
  split
  · exact refl s
  · exact of_modLane _ s

theorem of_blankPort (s : State) : LanesSide s (blankPort s p) := foldl_relates refl trans (fun t _ => of_blankLast t) _ s

theorem of_blankAll (s : State) : LanesSide s (blankAll s) := foldl_relates refl trans (fun t _ => of_blankPort t) _ s

/-- The rest of what a lane's flagging depends on stays where the lane does. -/
theorem view (h : LanesSide s t) (hl : laneAt t p l = laneAt s p l) : blankView p l t = blankView p l s := by
  unfold blankView
  rw [hl, h.port p, congrArg State.boot h.eta, congrArg State.pmu h.eta, congrArg State.sky h.eta]

end LanesSide

theorem edgeBlanked_congr (h : blankView p l t = blankView p l s) : edgeBlanked t p l = edgeBlanked s p l := by
  simp only [blankView, Prod.mk.injEq] at h
  obtain ⟨hl, hf, hb, hd, hs⟩ := h
  unfold edgeBlanked
  rw [receiverOn_congr hb hd hf, cfgBAt_congr hb, samplePeriod_congr hb, hl, hs]

theorem blankLast_lane (s : State) : laneAt (blankLast p l s) p l = { laneAt s p l with out := edgeBlanked s p l } := by
  unfold blankLast edgeBlanked
  split
  next h =>
    rw [if_neg (by simpa using h)]
  next h =>
    rw [laneAt_modLane, if_pos (by simpa using h)]

theorem blankLast_lane_other (h : k ≠ l) : laneAt (blankLast p k s) p l = laneAt s p l := by
  unfold blankLast
  split
  · rfl
  · exact laneAt_modLane_other _ s h.symm

theorem blankLast_port_other (h : q ≠ p) : (blankLast q l s).spt.port[p] = s.spt.port[p] := by
  unfold blankLast
  split
  · rfl
  · exact modLane_port_other _ s h.symm

theorem blankPort_lane (s : State) (p l : Port) : laneAt (blankPort s p) p l = { laneAt s p l with out := edgeBlanked s p l } := by
  obtain ⟨u, hu, he⟩ := foldl_keeps_around (f := fun t k => blankLast p k t) (blankView p l)
    (fun t k hk => (LanesSide.of_blankLast t).view (blankLast_lane_other hk)) (List.mem_finRange l) (List.nodup_finRange 4) s
  have hl : laneAt u p l = laneAt s p l := congrArg Prod.fst hu
  have hout := blankLast_lane (p := p) (l := l) u
  rw [edgeBlanked_congr hu, hl] at hout
  exact (congrArg Prod.fst he).trans hout

theorem blankPort_other (h : q ≠ p) (s : State) : (blankPort s q).spt.port[p] = s.spt.port[p] :=
  foldl_relates (R := fun s t : State => t.spt.port[p] = s.spt.port[p]) (fun _ => rfl) (fun h k => k.trans h) (fun t _ => blankLast_port_other h) _ s

/-- Each lane's sample under way is flagged by its own turn. -/
theorem blankAll_lane (s : State) (p l : Port) : laneAt (blankAll s) p l = { laneAt s p l with out := edgeBlanked s p l } := by
  obtain ⟨u, hu, he⟩ := foldl_keeps_around (f := blankPort) (blankView p l)
    (fun t q hq => (LanesSide.of_blankPort t).view (laneAt_congr (blankPort_other hq t) l)) (List.mem_finRange p) (List.nodup_finRange 4) s
  have hl : laneAt u p l = laneAt s p l := congrArg Prod.fst hu
  have hout := blankPort_lane u p l
  rw [edgeBlanked_congr hu, hl] at hout
  simp only [blankView, Prod.mk.injEq] at he
  exact he.1.trans hout

theorem countBlanking_only (s : State) (p : Port) : only [.obs, .ctr] s (countBlanking s p) := only_bumpIf _ _ s

theorem countBlankings_eta (s : State) : (List.finRange 4).foldl countBlanking s =
    { s with obs := ((List.finRange 4).foldl countBlanking s).obs, ctr := ((List.finRange 4).foldl countBlanking s).ctr } :=
  foldl_relates (R := fun s t : State => t = { s with obs := t.obs, ctr := t.ctr }) (fun _ => rfl)
    (fun {_ _ u} h k => k.trans (congrArg (fun x : State => { x with obs := u.obs, ctr := u.ctr }) h)) (fun t _ => bumpIf_eta _ _ t) _ s

theorem countBlanking_other (h : q ≠ p) (s : State) : ctrGet (countBlanking s q) (cSptBlankEvents p) = ctrGet s (cSptBlankEvents p) := by
  have hne : cSptBlankEvents p ≠ cSptBlankEvents q := by
    have := Fin.val_ne_of_ne h
    unfold cSptBlankEvents
    omega
  exact ctrGet_bumpIf_free (reportFree_of_lt (by unfold cSptBlankEvents; omega)) hne _ s

theorem countBlanking_counted (ho : portOn s p = true) (hb : laneBand s p l ≠ 0) (hc : cfgBAt s sptLaneBlank (laneIdx p l) = true) :
    counted (cSptBlankEvents p) s (countBlanking s p) := by
  have hany : ((List.finRange 4).any fun l => laneBand s p l != 0 && cfgBAt s sptLaneBlank (laneIdx p l)) = true :=
    List.any_eq_true.2 ⟨l, List.mem_finRange l, by simp [hb, hc]⟩
  unfold countBlanking
  rw [ho, hany]
  exact counted_bump _ s

/-- The edge counts once for each running port with a blanked lane. -/
theorem countBlankings_counted (ho : portOn s p = true) (hb : laneBand s p l ≠ 0) (hc : cfgBAt s sptLaneBlank (laneIdx p l) = true) :
    counted (cSptBlankEvents p) s ((List.finRange 4).foldl countBlanking s) := by
  obtain ⟨u, hu, he⟩ := foldl_keeps_around (f := countBlanking) (fun t => (ctrGet t (cSptBlankEvents p), t.spt, t.boot, t.pmu))
    (fun t q hq => by
      rw [countBlanking_other hq, (countBlanking_only t q).kept .spt (by decide), (countBlanking_only t q).kept .boot (by decide),
        (countBlanking_only t q).kept .pmu (by decide)]) (List.mem_finRange p) (List.nodup_finRange 4) s
  simp only [Prod.mk.injEq] at hu
  obtain ⟨hctr, hspt, hboot, hpmu⟩ := hu
  refine counted_of_same (countBlanking_counted (s := u) (l := l) ?_ ?_ ?_) hctr (congrArg Prod.fst he)
  · rw [portOn_congr hboot hpmu (by rw [hspt]), ho]
  · rw [laneBand_congr hboot]; exact hb
  · rw [cfgBAt_congr hboot, hc]

theorem blankBegun_head (h : ∀ b ∈ s.spt.blank, b.2 ≠ none) : (blankBegun s).spt.blank.head? = some (s.sky.tick, none) := by
  have hopen : (s.spt.blank.any fun b => b.2.isNone) = false := List.any_eq_false.2 fun b hb => by simpa using h b hb
  unfold blankBegun
  rw [hopen]
  rfl

theorem blankBegun_keeps {b : Nat × Option Nat} (hb : b ∈ s.spt.blank) (hn : b.2 = none) : b ∈ (blankBegun s).spt.blank := by
  have hkept : b ∈ s.spt.blank.filter fun b => match b.2 with | some e => decide (s.sky.tick ≤ e + 4096) | none => true :=
    List.mem_filter.2 ⟨hb, by rw [hn]⟩
  unfold blankBegun
  dsimp only
  split
  · exact hkept
  · exact List.mem_cons_of_mem _ hkept

end Sys2Proof.Machine
end

section
/-!
OBLIGATION O33 (02_sample_ports): the gain loops, the landing of their steps and the blanking put together.
-/

namespace Sys2Proof.Machine

variable {p l : Port} {s : State}

/-- The state after the rising edge of BH_TX. -/
def blankRisen (s : State) : State := (List.finRange 4).foldl countBlanking (blankAll (blankBegun s))

theorem blankRisen_ports (s : State) : (blankRisen s).spt = (blankAll (blankBegun s)).spt := by
  unfold blankRisen
  rw [countBlankings_eta]

theorem blankRisen_blank (s : State) : (blankRisen s).spt.blank = (blankBegun s).spt.blank := by
  rw [blankRisen_ports, (LanesSide.of_blankAll (blankBegun s)).eta]

theorem blankRisen_eta (s : State) : blankRisen s = { s with
    spt := { s.spt with bhTx := true, tail := none, blank := (blankRisen s).spt.blank, port := (blankRisen s).spt.port }
    obs := (blankRisen s).obs
    ctr := (blankRisen s).ctr } := by
  have hside := (LanesSide.of_blankAll (blankBegun s)).eta
  rw [blankRisen_blank, blankRisen_ports]
  exact (countBlankings_eta _).trans (congrArg (fun x : State => { x with obs := (blankRisen s).obs, ctr := (blankRisen s).ctr }) hside)

theorem blankRisen_port (s : State) (p : Port) : (blankRisen s).spt.port[p] = { s.spt.port[p] with lane := (blankRisen s).spt.port[p].lane } := by
  rw [blankRisen_ports]
  exact (LanesSide.of_blankAll (blankBegun s)).port p

theorem blankRisen_lane (s : State) (p l : Port) : laneAt (blankRisen s) p l = { laneAt s p l with out := edgeBlanked s p l } :=
  (laneAt_congr (congrArg (fun x : SptState => x.port[p]) (blankRisen_ports s)) l).trans (blankAll_lane (blankBegun s) p l)

theorem blankRisen_counted (ho : portOn s p = true) (hb : laneBand s p l ≠ 0) (hc : cfgBAt s sptLaneBlank (laneIdx p l) = true) :
    counted (cSptBlankEvents p) s (blankRisen s) := by
  have hside := LanesSide.of_blankAll (blankBegun s)
  have hboot : (blankAll (blankBegun s)).boot = s.boot := by rw [hside.eta]; rfl
  have hpmu : (blankAll (blankBegun s)).pmu = s.pmu := by rw [hside.eta]; rfl
  have hctr : (blankAll (blankBegun s)).ctr = s.ctr := by rw [hside.eta]; rfl
  have hfail : (blankAll (blankBegun s)).spt.port[p].initFail = s.spt.port[p].initFail := by rw [hside.port p]; rfl
  refine counted_of_same (countBlankings_counted (s := blankAll (blankBegun s)) (l := l) ?_ ?_ ?_) (ctrGet_congr hctr _) (by rw [blankRisen])
  · rw [portOn_congr hboot hpmu hfail, ho]
  · rw [laneBand_congr hboot]; exact hb
  · rw [cfgBAt_congr hboot, hc]

theorem exec_bhTxFall (h : s.spt.bhTx = true) :
    exec .bhTxFall s = .next { s with spt := { s.spt with bhTx := false, tail := some s.sky.tick } } := congrArg Host.Outcome.next (if_pos h)

theorem exec_blankTailEnd {u : Nat} (hu : s.spt.tail = some u) (he : u + cfg s sptCtrlBlankTail * 49152 / 1000 ≤ s.sky.tick) :
    exec .blankTailEnd s = .next { s with spt := { s.spt with
      tail := none, blank := s.spt.blank.map fun b => if b.2.isNone then (b.1, some (u + cfg s sptCtrlBlankTail * 49152 / 1000)) else b } } := by
  show execBlankTailEnd s = _
  unfold execBlankTailEnd
  rw [hu]
  exact congrArg _ (if_neg (Nat.not_lt.2 he))

/-- The lanes of a port with a step waiting. -/
def waitingLanes (s : State) (p : Port) : List Port := (List.finRange 4).filter fun l => (laneAt s p l).req.isSome

/-- The state after the steps of a port have landed at a boundary. -/
def stepsLanded (s : State) (p : Port) (b : Int) : State :=
  sendSteps p b (waitingLanes s p) { s with spt := { s.spt with stepMs := some (1000 * stAt s b.toNat).floor.toNat } }

theorem stepsLanded_waiting {b : Int} {i u : Nat} (h : (laneAt s p l).req = some (i, u)) :
    StepLanded b i (laneAt s p l) (laneAt (stepsLanded s p b) p l) :=
  sendSteps_lands (s := { s with spt := { s.spt with stepMs := some (1000 * stAt s b.toNat).floor.toNat } })
    (List.mem_filter.2 ⟨List.mem_finRange l, by rw [h]; rfl⟩) ((List.nodup_finRange 4).filter _) h

theorem stepsLanded_other {b : Int} (h : (laneAt s p l).req = none) : laneAt (stepsLanded s p b) p l = laneAt s p l :=
  sendSteps_lane_other fun hl => by simpa [h] using (List.mem_filter.1 hl).2

/-- The state after the late steps of a port have been sent. -/
def lateSent (s : State) (p : Port) : State :=
  sendSteps p ((instantAfter s p ((s.sky.tick : Int) + 8 * cfgAt s sptPortGainLat p.val)).getD ((s.sky.tick : Int) + 8 * cfgAt s sptPortGainLat p.val))
    (lateLanes s p) ((lateLanes s p).foldl (fun t _ => bump (cSptGainUnaligned p) t) s)

theorem lateSent_late {i u : Nat} (h : (laneAt s p l).req = some (i, u)) (hu : u + 983040 < s.sky.tick) :
    (laneAt (lateSent s p) p l).gain = i ∧ (laneAt (lateSent s p) p l).req = none := by
  have hland := sendSteps_lands (p := p) (l := l) (i := i) (u := u) (ls := lateLanes s p)
    (first := (instantAfter s p ((s.sky.tick : Int) + 8 * cfgAt s sptPortGainLat p.val)).getD ((s.sky.tick : Int) + 8 * cfgAt s sptPortGainLat p.val))
    (s := (lateLanes s p).foldl (fun t _ => bump (cSptGainUnaligned p) t) s) ((mem_lateLanes h).2 hu) ((List.nodup_finRange 4).filter _)
    (by rw [laneAt_congr (congrArg (fun x : SptState => x.port[p]) (bumps_spt ..)), h])
  exact ⟨hland.gain, hland.req⟩

theorem lateSent_early {i u : Nat} (h : (laneAt s p l).req = some (i, u)) (hu : s.sky.tick ≤ u + 983040) :
    laneAt (lateSent s p) p l = laneAt s p l :=
  (sendSteps_lane_other fun hl => absurd ((mem_lateLanes h).1 hl) (by omega)).trans
    (laneAt_congr (congrArg (fun x : SptState => x.port[p]) (bumps_spt ..)) l)

theorem lateSent_counts (hl : l ∈ lateLanes s p) (hc : ctrGet s (cSptGainUnaligned p) < 2 ^ 32 - 1) :
    ctrGet s (cSptGainUnaligned p) < ctrGet (lateSent s p) (cSptGainUnaligned p) := by
  have hr : ctrGet (lateSent s p) (cSptGainUnaligned p) = min (ctrGet s (cSptGainUnaligned p) + (lateLanes s p).length) (2 ^ 32 - 1) := gainUnaligned_counts hl _
  have hpos := List.length_pos_of_mem hl
  omega

/-- Settles O33, clause by clause: each command's outcome is a named state, whose parts the lemmas above give. -/
theorem gainLoopsAndBlanking : Obligations.GainLoopsAndBlanking := by
  refine ⟨fun s p l ho hb => ⟨fun h => ⟨_, exec_gainLoopMs_few ho hb h, rfl⟩, fun ht hv => ⟨loopDone p l s, exec_gainLoopMs ho hb ht hv, ?_⟩⟩,
    fun s p l a ho hc hr hi ha hb => ⟨fun hg => ⟨_, exec_fixedReturnStep_at ho hc hr hi ha hb hg, upToReports_sptRefresh _ _⟩,
      fun hg => ⟨_, exec_fixedReturnStep_off ho hc hr hi ha hb hg, rfl⟩⟩,
    fun s p b hp => ⟨(stepPort_oldest hp).1, (stepPort_oldest hp).2, fun hb hm hf => ⟨stepsLanded s p b, exec_gainStep hp hb hm hf, ?_⟩⟩,
    fun s p l0 i0 u0 ho hr hu hf => ?_,
    fun s h => ⟨blankRisen s, exec_bhTxRise h, blankRisen_eta s, blankRisen_port s, blankRisen_lane s, ?_, ?_, fun p l => blankRisen_counted⟩,
    fun s h => ⟨_, exec_bhTxFall h, rfl⟩, fun s u hu he => ⟨_, exec_blankTailEnd hu he, rfl⟩⟩
  · have hy := loopDone_lane (p := p) (l := l) (s := s)
    dsimp only at hy
    exact ⟨congrArg LaneState.msTotal hy, congrArg LaneState.msValid hy, congrArg LaneState.msThree hy, (congrArg LaneState.gain hy).trans rfl,
      congrArg LaneState.overload hy, congrArg LaneState.underload hy, congrArg LaneState.hiRun hy, congrArg LaneState.loRun hy,
      loopDone_req, loopDone_conflict⟩
  · obtain ⟨hother, hms⟩ := sendSteps_rest (p := p) b (waitingLanes s p)
      { s with spt := { s.spt with stepMs := some (1000 * stAt s b.toNat).floor.toNat } }
    refine ⟨hother, hms, fun l => ⟨stepsLanded_other, fun i u hr => ?_⟩⟩
    have hland := stepsLanded_waiting (b := b) hr
    exact ⟨hland.gain, hland.prevGain, hland.req, hland.stepAt, hland.hiRun, hland.loRun⟩
  · have hl0 : l0 ∈ lateLanes s p := (mem_lateLanes hr).2 hu
    exact ⟨lateSent s p, exec_gainUnaligned ho hl0 hf, lateSent_counts hl0, fun l i u h => ⟨lateSent_late h, lateSent_early h⟩⟩
  · rw [blankRisen_blank]
    exact blankBegun_head
  · rw [blankRisen_blank]
    exact fun b => blankBegun_keeps

end Sys2Proof.Machine
end

section
/-!
SUPPORT. An evaluation of the spoofing tests (03_array R69, R70): its outcome and the runs that it moves.
-/

namespace Sys2Proof.Machine

/-- S1 or S2 holds (03_array R69). -/
def spoofHolds (s : State) : Bool := (largestS1 s).isSome || (attValid s && decide (cfg s arySpoofDisagreeCount ≤ (s2Sats s).length))

/-- Satellites with a valid measurement. -/
def aoaSatCount (s : State) : Nat := ((validAoa s).map (·.sat)).dedup.length

/-- The outcome of an evaluation: 1 dirty, 0 clean, 2 unavailable (03_array R70). -/
def spoofOutcome (s : State) : Nat :=
  if cfgB s arySpoofSpoofEn = false then 2 else if spoofHolds s then 1
  else if (2 ≤ antRank s ∨ attValid s = true) ∧ cfg s arySpoofMinAoa ≤ aoaSatCount s then 0 else 2

/-- The array after an evaluation with an outcome. -/
def spoofJudgedAs (outcome : Nat) (s : State) : AryState :=
  { s.ary with
    outcome, attUsed := attValid s, aoaSats := aoaSatCount s
    suspects := max (match largestS1 s with | some x => x.2 | none => 0) (s2Sats s).length
    cluster := (largestS1 s).map (·.1.dir)
    dirty := if outcome = 1 then s.ary.dirty + 1 else if outcome = 0 then 0 else s.ary.dirty
    clean := if outcome = 0 then s.ary.clean + 1 else if outcome = 1 then 0 else s.ary.clean
    unavail := if outcome = 2 ∧ s.ary.spoof then s.ary.unavail + 1 else 0 }

/-- The state after an evaluation with an outcome: a dirty one counts. -/
def spoofEvaluated (outcome : Nat) (s : State) : State :=
  publishAry (bumpIf (decide (outcome = 1)) cArySpoofDirty { s with ary := spoofJudgedAs outcome s })

theorem exec_spoofEval (s : State) : exec (.spoofEval ()) s = .next (spoofEvaluated (spoofOutcome s) s) := by
  have could : ((decide (2 ≤ antRank s) || attValid s) = true ∧ cfg s arySpoofMinAoa ≤ aoaSatCount s) ↔
      ((2 ≤ antRank s ∨ attValid s = true) ∧ cfg s arySpoofMinAoa ≤ aoaSatCount s) := by rw [Bool.or_eq_true, decide_eq_true_iff]
  have outcome : spoofOutcome s = if cfgB s arySpoofSpoofEn = false then 2 else if spoofHolds s then 1
      else if (decide (2 ≤ antRank s) || attValid s) = true ∧ cfg s arySpoofMinAoa ≤ aoaSatCount s then 0 else 2 := by
    simp only [spoofOutcome, could]
  rw [outcome]
  rfl

theorem upToReports_publishAry (s : State) : upToReports s (publishAry s) := by
  unfold publishAry
  exact upToReports_trans (upToReports_basinPut _ _ s) (upToReports_basinPut _ _ _)

theorem only_publishAry (s : State) : only [.basin] s (publishAry s) := Touches.only touches_publishAry s

theorem publishAry_ctr (s : State) : (publishAry s).ctr = s.ctr := (only_publishAry s).kept .ctr (by decide)

theorem spoofEvaluated_ary (outcome : Nat) (s : State) : (spoofEvaluated outcome s).ary = spoofJudgedAs outcome s :=
  ((only_publishAry _).kept .ary (by decide)).trans ((only_bumpIf _ _ _).kept .ary (by decide))

theorem spoofEvaluated_upToReports (outcome : Nat) (s : State) :
    upToReports { s with ary := spoofJudgedAs outcome s } (spoofEvaluated outcome s) :=
  upToReports_trans (upToReports_bumpIf _ _ _) (upToReports_publishAry _)

theorem spoofEvaluated_counted (s : State) : counted cArySpoofDirty s (spoofEvaluated 1 s) :=
  counted_of_same (counted_bump cArySpoofDirty { s with ary := spoofJudgedAs 1 s }) rfl (ctrGet_congr (publishAry_ctr _) _)

theorem spoofJudgedAs_dirty (s : State) :
    (spoofJudgedAs 1 s).dirty = s.ary.dirty + 1 ∧ (spoofJudgedAs 1 s).clean = 0 ∧ (spoofJudgedAs 1 s).unavail = 0 := ⟨rfl, rfl, rfl⟩

theorem spoofJudgedAs_clean (s : State) :
    (spoofJudgedAs 0 s).dirty = 0 ∧ (spoofJudgedAs 0 s).clean = s.ary.clean + 1 ∧ (spoofJudgedAs 0 s).unavail = 0 := ⟨rfl, rfl, rfl⟩

theorem spoofJudgedAs_unavailable (s : State) : (spoofJudgedAs 2 s).dirty = s.ary.dirty ∧ (spoofJudgedAs 2 s).clean = s.ary.clean ∧
    (spoofJudgedAs 2 s).unavail = if s.ary.spoof then s.ary.unavail + 1 else 0 := by
  refine ⟨rfl, rfl, ?_⟩
  simp [spoofJudgedAs]

end Sys2Proof.Machine
end

section
/-!
SUPPORT. The spoofing alarm raised or released (03_array R71, 01_architecture R18, 09_sky_time R222, R226): the array, the mode state, sky time and the record.
-/

namespace Sys2Proof.Machine

variable {on : Bool} {kind : Nat} {s u : State}

/-- A raise withdraws a first alignment that has been decided (09_sky_time R222). -/
def alignWithdrawn (on : Bool) (s : State) : State :=
  if on && s.sky.alignDecided.isSome then
    { s with sky := { s.sky with alignDecided := none }, mode := { s.mode with decided := none, coldRun := 0 } }
  else s

/-- GNSS time is trusted and GNSS usable, or neither is (01_architecture R18, 09_sky_time R226). -/
def gnssTurned (v : Bool) (s : State) : State := setTrusted v (trackUsable v s)

/-- The alarm switched, its runs restarted. -/
def alarmSwitched (on : Bool) (s : State) : State := { s with ary := { s.ary with spoof := on, dirty := 0, clean := 0, unavail := 0 } }

/-- The state with the alarm raised or released, before it is reported. -/
def alarmTurned (on : Bool) (s : State) : State := gnssTurned (!on && s.sol.timeValid) (alignWithdrawn on (alarmSwitched on s))

theorem alignWithdrawn_sky (on : Bool) (s : State) :
    (alignWithdrawn on s).sky = { s.sky with alignDecided := if on then none else s.sky.alignDecided } := by
  unfold alignWithdrawn
  cases on with
  | false => rfl
  | true =>
    dsimp only
    rcases h : s.sky.alignDecided with _ | x
    · exact congrArg (fun d => { s.sky with alignDecided := d }) h
    · rfl

theorem alignWithdrawn_mode (on : Bool) (s : State) : (alignWithdrawn on s).mode =
    { s.mode with decided := (alignWithdrawn on s).mode.decided, coldRun := (alignWithdrawn on s).mode.coldRun } := by
  unfold alignWithdrawn
  split <;> rfl

theorem only_alignWithdrawn (on : Bool) (s : State) : only [.sky, .mode] s (alignWithdrawn on s) :=
  Touches.only (Touches.of fun u => by unfold alignWithdrawn; simp) s

theorem only_gnssTurned (v : Bool) (s : State) : only [.sky, .mode] s (gnssTurned v s) :=
  only_trans (only_mono (Touches.only (touches_trackUsable v) s) (by decide)) (only_mono (Touches.only (touches_setTrusted v) _) (by decide))

theorem gnssTurned_lost_sky (s : State) :
    (gnssTurned false s).sky = { s.sky with trustedSince := none, gnssReturned := false, gnssFresh := false } := rfl

theorem gnssTurned_back_sky (s : State) :
    (gnssTurned true s).sky = { s.sky with trustedSince := some (s.sky.trustedSince.getD s.sky.tick) } := by
  show { s.sky with trustedSince := (match s.sky.trustedSince with | some t => some t | none => some s.sky.tick) } = _
  cases s.sky.trustedSince <;> rfl

theorem gnssTurned_lost_mode (s : State) :
    (gnssTurned false s).mode = { s.mode with usableSince := none, unusableSince := some (s.mode.unusableSince.getD (stNow s)) } := rfl

theorem gnssTurned_back_mode (s : State) :
    (gnssTurned true s).mode = { s.mode with usableSince := some (s.mode.usableSince.getD (stNow s)), unusableSince := none } := rfl

/-- ST needs the segment in force and the tick alone (09_sky_time R219). -/
theorem stNow_of_segment (hseg : u.sky.seg = s.sky.seg) (htick : u.sky.tick = s.sky.tick) : stNow u = stNow s := by
  unfold stNow stAt
  rw [hseg, htick]

/-- A record needs the image, the time and the queue of `s` alone. -/
theorem recorded_recB_of_stNow {content : List Byte} {cls : Nat} (hb : u.boot = s.boot) (ht : stNow u = stNow s) (hq : u.hst = s.hst) :
    recorded cls kind content s (recB cls kind content u) := by
  unfold recorded
  rw [recB_eta, ← cfg_congr hb, ← ht, ← hq]
  rfl

theorem spoofBytes_congr (h : u.ary = s.ary) : spoofBytes u = spoofBytes s := by
  unfold spoofBytes
  rw [h]

theorem setSpoof_eq (on : Bool) (kind : Nat) (s : State) :
    setSpoof on kind s = publishAry (recB 0 kind (spoofBytes (alarmTurned on s)) (alarmTurned on s)) := by
  unfold setSpoof alarmTurned alignWithdrawn gnssTurned alarmSwitched
  split <;> simp only [*] <;> rfl

theorem only_alarmTurned (on : Bool) (s : State) : only [.ary, .sky, .mode] s (alarmTurned on s) := by
  refine only_trans (t := alarmSwitched on s) ?_
    (only_mono (only_trans (only_alignWithdrawn on _) (only_gnssTurned _ _)) (by decide))
  intro x
  cases x <;> simp [Part.same, alarmSwitched]

theorem only_setSpoof (on : Bool) (kind : Nat) (s : State) : only [.hst, .obs, .basin, .ctr] (alarmTurned on s) (setSpoof on kind s) := by
  rw [setSpoof_eq]
  exact only_trans (only_mono (only_recB _ _ _ _) (by decide)) (only_mono (only_publishAry _) (by decide))

theorem alarmTurned_ary (on : Bool) (s : State) :
    (alarmTurned on s).ary = { s.ary with spoof := on, dirty := 0, clean := 0, unavail := 0 } :=
  (only_trans (only_alignWithdrawn on _) (only_gnssTurned _ _)).kept .ary (by decide)

theorem alarmTurned_lost (h : on = true ∨ s.sol.timeValid = false) :
    alarmTurned on s = gnssTurned false (alignWithdrawn on (alarmSwitched on s)) := by
  have hv : (!on && s.sol.timeValid) = false := by rcases h with rfl | h <;> simp [*]
  rw [alarmTurned, hv]

theorem alarmTurned_back (hon : on = false) (h : s.sol.timeValid = true) : alarmTurned on s = gnssTurned true (alarmSwitched false s) := by
  rw [alarmTurned, hon, h]
  rfl

theorem alarmTurned_sky_lost (h : on = true ∨ s.sol.timeValid = false) : (alarmTurned on s).sky =
    { s.sky with
      alignDecided := if on then none else s.sky.alignDecided, trustedSince := none, gnssReturned := false, gnssFresh := false } := by
  rw [alarmTurned_lost h, gnssTurned_lost_sky, alignWithdrawn_sky]
  rfl

theorem alarmTurned_sky_back (hon : on = false) (h : s.sol.timeValid = true) : (alarmTurned on s).sky =
    { s.sky with trustedSince := some (s.sky.trustedSince.getD s.sky.tick) } := by
  rw [alarmTurned_back hon h]
  exact gnssTurned_back_sky _

theorem alarmTurned_mode_lost (h : on = true ∨ s.sol.timeValid = false) : (alarmTurned on s).mode =
    { s.mode with
      decided := (alarmTurned on s).mode.decided, coldRun := (alarmTurned on s).mode.coldRun
      usableSince := none, unusableSince := some (s.mode.unusableSince.getD (stNow s)) } := by
  have hnow (u : State) : stNow (alignWithdrawn on u) = stNow u := stNow_of_segment (by rw [alignWithdrawn_sky]) (by rw [alignWithdrawn_sky])
  rw [alarmTurned_lost h, gnssTurned_lost_mode, alignWithdrawn_mode, hnow]
  rfl

theorem alarmTurned_mode_back (hon : on = false) (h : s.sol.timeValid = true) : (alarmTurned on s).mode =
    { s.mode with usableSince := some (s.mode.usableSince.getD (stNow s)), unusableSince := none } := by
  rw [alarmTurned_back hon h]
  exact gnssTurned_back_mode _

/-- The mapping of ST, the schedule and the mode stay. -/
theorem alarmTurned_keeps (on : Bool) (s : State) : (alarmTurned on s).sky.entries = s.sky.entries ∧ (alarmTurned on s).sky.seg = s.sky.seg ∧
    (alarmTurned on s).sky.tick = s.sky.tick ∧ (alarmTurned on s).mode.mode = s.mode.mode := by
  by_cases h : on = true ∨ s.sol.timeValid = false
  · rw [alarmTurned_sky_lost h, alarmTurned_mode_lost h]
    exact ⟨rfl, rfl, rfl, rfl⟩
  · obtain ⟨hon, hv⟩ := not_or.1 h
    rw [Bool.not_eq_true] at hon
    rw [Bool.not_eq_false] at hv
    rw [alarmTurned_sky_back hon hv, alarmTurned_mode_back hon hv]
    exact ⟨rfl, rfl, rfl, rfl⟩

theorem stNow_alarmTurned (on : Bool) (s : State) : stNow (alarmTurned on s) = stNow s := by
  obtain ⟨-, hseg, htick, -⟩ := alarmTurned_keeps on s
  exact stNow_of_segment hseg htick

theorem setSpoof_recorded (on : Bool) (kind : Nat) (s : State) : recorded 0 kind (spoofBytes (alarmTurned on s)) s (setSpoof on kind s) := by
  have hturn := only_alarmTurned on s
  rw [setSpoof_eq]
  exact Eq.trans (congrArg HostState.outB ((only_publishAry _).kept .hst (by decide)))
    (recorded_recB_of_stNow (hturn.kept .boot (by decide)) (stNow_alarmTurned on s) (hturn.kept .hst (by decide)))

theorem ctrGet_setSpoof {j : Nat} (hj : reportFree j) (on : Bool) (kind : Nat) (s : State) : ctrGet (setSpoof on kind s) j = ctrGet s j := by
  rw [setSpoof_eq, ctrGet_congr (publishAry_ctr _), ctrGet_recB_free hj]
  exact ctrGet_congr ((only_alarmTurned on s).kept .ctr (by decide)) j

theorem counted_setSpoof {i : Nat} (hi : reportFree i) (on : Bool) (kind : Nat) (s : State) : counted i s (bump i (setSpoof on kind s)) :=
  counted_of_same (counted_bump i _) (ctrGet_setSpoof hi on kind s) rfl

/-- From `s` to `t` GNSS time is no longer trusted and GNSS has turned unusable (01_architecture R18, 09_sky_time R226). -/
def GnssLost (s t : State) : Prop :=
  t.sky.trustedSince = none ∧ t.sky.gnssReturned = false ∧ t.sky.gnssFresh = false ∧ t.mode.usableSince = none ∧
    t.mode.unusableSince = some (s.mode.unusableSince.getD (stNow s))

/-- From `s` to `t` GNSS time is trusted and GNSS usable again. -/
def GnssBack (s t : State) : Prop :=
  t.sky.trustedSince = some (s.sky.trustedSince.getD s.sky.tick) ∧ t.mode.unusableSince = none ∧
    t.mode.usableSince = some (s.mode.usableSince.getD (stNow s))

/-- From `s` to `t` the alarm is raised or released with its record, and GNSS time with it (03_array R71). -/
def AlarmMoved (on : Bool) (kind : Nat) (s t : State) : Prop :=
  t.ary = { s.ary with spoof := on, dirty := 0, clean := 0, unavail := 0 } ∧ recorded 0 kind (spoofBytes t) s t ∧
    t.sky.entries = s.sky.entries ∧ t.sky.seg = s.sky.seg ∧ t.mode.mode = s.mode.mode ∧
    (on = true ∨ s.sol.timeValid = false → GnssLost s t) ∧ (on = false → s.sol.timeValid = true → GnssBack s t)

/-- A count that follows the alarm's change touches nothing of it. -/
theorem alarmMoved_of_setSpoof {t : State} (h : only [.obs, .ctr] (setSpoof on kind s) t) : AlarmMoved on kind s t := by
  have hturn : only [.hst, .obs, .basin, .ctr] (alarmTurned on s) t := only_trans (only_setSpoof on kind s) (only_mono h (by decide))
  have hary : t.ary = (alarmTurned on s).ary := hturn.kept .ary (by decide)
  have hsky : t.sky = (alarmTurned on s).sky := hturn.kept .sky (by decide)
  have hmode : t.mode = (alarmTurned on s).mode := hturn.kept .mode (by decide)
  have hhst : t.hst = (setSpoof on kind s).hst := h.kept .hst (by decide)
  obtain ⟨hentries, hseg, -, hm⟩ := alarmTurned_keeps on s
  refine ⟨hary.trans (alarmTurned_ary on s), ?_, hsky ▸ hentries, hsky ▸ hseg, hmode ▸ hm, fun hlost => ?_, fun hon hv => ?_⟩
  · rw [spoofBytes_congr hary]
    exact (congrArg HostState.outB hhst).trans (setSpoof_recorded on kind s)
  · unfold GnssLost
    rw [hsky, hmode, alarmTurned_sky_lost hlost, alarmTurned_mode_lost hlost]
    exact ⟨rfl, rfl, rfl, rfl, rfl⟩
  · unfold GnssBack
    rw [hsky, hmode, alarmTurned_sky_back hon hv, alarmTurned_mode_back hon hv]
    exact ⟨rfl, rfl, rfl⟩

theorem raised_alignDecided {t : State} (h : only [.obs, .ctr] (setSpoof true kind s) t) : t.sky.alignDecided = none := by
  have hsky : t.sky = (alarmTurned true s).sky := (only_trans (only_setSpoof true kind s) (only_mono h (by decide))).kept .sky (by decide)
  rw [hsky, alarmTurned_sky_lost (.inl rfl)]
  rfl

theorem exec_spoofRaise (hs : s.ary.spoof = false) (hd : cfg s arySpoofPersist ≤ s.ary.dirty) :
    exec .spoofRaise s = .next (bump cArySpoofRaises (setSpoof true 0x0304 s)) := congrArg _ (if_pos ⟨hs, hd⟩)

theorem exec_spoofClear (hs : s.ary.spoof = true) (hc : cfg s arySpoofClear ≤ s.ary.clean) :
    exec .spoofClear s = .next (setSpoof false 0x0305 s) := congrArg _ (if_pos ⟨hs, hc⟩)

theorem exec_spoofReleaseUnverified (hs : s.ary.spoof = true) (hu : 10 * cfg s arySpoofHold ≤ s.ary.unavail) :
    exec .spoofReleaseUnverified s = .next (bump cArySpoofUnverified (setSpoof false 0x0306 s)) := congrArg _ (if_pos ⟨hs, hu⟩)

end Sys2Proof.Machine
end

section
/-!
OBLIGATION O35 (03_array): the evaluation and the alarm put together.
-/

namespace Sys2Proof.Machine

/-- An evaluation by its outcome: what it writes, and the runs that it moves. -/
theorem spoofEval_decides (s : State) : completes (.spoofEval ()) s fun t =>
    upToReports { s with ary := t.ary } t ∧ t.ary = spoofJudgedAs (spoofOutcome s) s ∧ (spoofOutcome s = 1 → counted cArySpoofDirty s t) := by
  refine ⟨_, exec_spoofEval s, ?_, spoofEvaluated_ary _ s, fun h => ?_⟩
  · rw [spoofEvaluated_ary]
    exact spoofEvaluated_upToReports _ s
  · rw [h]
    exact spoofEvaluated_counted s

/-- Settles O35: an evaluation by its outcome; each turn of the alarm by what it moves, which a count that follows leaves alone. -/
theorem spoofingIsDecided : Obligations.SpoofingIsDecided := by
  intro s
  refine ⟨?_, fun hs hd => ⟨_, exec_spoofRaise hs hd, alarmMoved_of_setSpoof (only_bump _ _), raised_alignDecided (only_bump _ _), ?_⟩,
    fun hs hc => ⟨_, exec_spoofClear hs hc, alarmMoved_of_setSpoof (only_refl _ _)⟩,
    fun hs hu => ⟨_, exec_spoofReleaseUnverified hs hu, alarmMoved_of_setSpoof (only_bump _ _), ?_⟩⟩
  · obtain ⟨t, ht, hrest, hary, hcount⟩ := spoofEval_decides s
    refine ⟨t, ht, hrest, ?_⟩
    rw [hary]
    refine ⟨rfl, rfl, fun (h : spoofOutcome s = 1) => ?_, fun (h : spoofOutcome s = 0) => ?_, fun (h : spoofOutcome s = 2) => ?_⟩
    · obtain ⟨hdirty, hclean, hunavail⟩ := spoofJudgedAs_dirty s
      rw [h]
      exact ⟨hdirty, hclean, hunavail, hcount h⟩
    · rw [h]
      exact spoofJudgedAs_clean s
    · rw [h]
      exact spoofJudgedAs_unavailable s
  · exact counted_setSpoof ⟨by decide, by decide, by decide⟩ true _ s
  · exact counted_setSpoof ⟨by decide, by decide, by decide⟩ false _ s

end Sys2Proof.Machine
end

section
/-!
SUPPORT. What the acquisition engine's shared operations write: a lane's run, its dwell, a task's end and the next step (04_acquisition R79, R91).
-/

namespace Sys2Proof.Machine

variable {n : Fin 16} {r : LaneRun} {s t u : State} {i j k : Nat}

/-! ### Lanes and channels -/

@[simp] theorem setLane_lane_self (n : Fin 16) (x : Option LaneRun) (s : State) : (setLane n x s).acq.lane[n] = x := Vector.getElem_set_self n.isLt

theorem setLane_lane_ne {m : Fin 16} (h : m ≠ n) (x : Option LaneRun) (s : State) : (setLane n x s).acq.lane[m] = s.acq.lane[m] :=
  Vector.getElem_set_ne n.isLt m.isLt (fun e => h (Fin.ext e.symm))

theorem chanGet_congr (h : t.trk = s.trk) (k : Nat) : chanGet t k = chanGet s k := by
  unfold chanGet
  rw [h]

theorem chanGet_chanSet_ne (h : j ≠ k) (c : Chan) (s : State) : chanGet (chanSet k c s) j = chanGet s j := sget_sset_ne _ _ _ _ h _

/-- A written channel that is not idle and unreserved is read back, canonical or not. -/
theorem chanGet_chanSet_self (k : Nat) {c : Chan} (h : c ≠ {}) (s : State) : chanGet (chanSet k c s) k = c := sget_sset_self _ _ _ h _

theorem endLane_lane (n : Fin 16) (r : LaneRun) (s : State) : (endLane n r s).acq.lane[n] = none := setLane_lane_self n none _

theorem endLane_ctr (n : Fin 16) (r : LaneRun) (s : State) : (endLane n r s).ctr = s.ctr := (Touches.only (touches_endLane n r) s).kept .ctr (by decide)

theorem bump_acq (i : Nat) (s : State) : (bump i s).acq = s.acq := (only_bump i s).kept .acq (by decide)

theorem bump_trk (i : Nat) (s : State) : (bump i s).trk = s.trk := (only_bump i s).kept .trk (by decide)

/-! ### A run takes a dwell -/

/-- The counters that no search moves but by name: not that of live dwells, which any new dwell may move, and none of the culvert's or the basin queue's. -/
abbrev searchFree (j : Nat) : Prop := j < 256 ∧ j ≠ cHstOutSpillB ∧ j ≠ cHstC0FoldsB ∧ j ≠ cAcqLiveFallback

theorem searchFree.reportFree : searchFree j → reportFree j := fun ⟨hlt, hspill, hfolds, _⟩ => ⟨hspill, hfolds, .inl hlt⟩

theorem searchFree.ne_liveFallback : searchFree j → j ≠ cAcqLiveFallback := fun ⟨_, _, _, hlive⟩ => hlive

theorem ctrGet_bump_of_searchFree (hj : searchFree j) (hi : j ≠ i) (s : State) : ctrGet (bump i s) j = ctrGet s j :=
  ctrGet_bump_free hj.reportFree hi s

/-- From `s` to `t` lane `n` takes the run `r` on some dwell: the other lanes, the queue and the channels stay, and no counter but that of live dwells moves. -/
structure TakesDwell (n : Fin 16) (r : LaneRun) (s t : State) : Prop where
  /-- The lane's run. -/
  lane : ∃ d, t.acq.lane[n] = some { r with dwell := d }
  /-- Other lanes. -/
  others : ∀ m : Fin 16, m ≠ n → t.acq.lane[m] = s.acq.lane[m]
  /-- Waiting tasks. -/
  queue : t.acq.queue = s.acq.queue
  /-- Channels. -/
  trk : t.trk = s.trk
  /-- Counters. -/
  counts : ∀ {j}, searchFree j → ctrGet t j = ctrGet s j

/-- What a dwell is taken after may differ from an earlier state outside the engine, the channels and the counters. -/
theorem TakesDwell.after (h : TakesDwell n r u t) (hacq : u.acq = s.acq) (htrk : u.trk = s.trk) (hctr : u.ctr = s.ctr) : TakesDwell n r s t where
  lane := h.lane
  others m hm := (h.others m hm).trans (by rw [hacq])
  queue := h.queue.trans (by rw [hacq])
  trk := h.trk.trans htrk
  counts hj := (h.counts hj).trans (ctrGet_congr hctr _)

theorem setLane_takesDwell (d : DwellFrom) (pool : List PoolRecord) (s : State) :
    TakesDwell n r s (setLane n (some { r with dwell := d }) { s with acq := { s.acq with pool := pool } }) where
  lane := ⟨d, setLane_lane_self n _ _⟩
  others _ hm := setLane_lane_ne hm _ _
  queue := rfl
  trk := rfl
  counts _ := rfl

/-- A pool that has no room leaves the dwell to the live stream, which is counted (04_acquisition R79). -/
theorem TakesDwell.liveFallback (h : TakesDwell n r s t) : TakesDwell n r s (bump cAcqLiveFallback t) where
  lane := by rw [bump_acq]; exact h.lane
  others := by rw [bump_acq]; exact h.others
  queue := by rw [bump_acq]; exact h.queue
  trk := (bump_trk _ _).trans h.trk
  counts hj := (ctrGet_bump_of_searchFree hj hj.ne_liveFallback t).trans (h.counts hj)

theorem takeDwell_takesDwell (n : Fin 16) (r : LaneRun) (fresh : Bool) (s : State) : TakesDwell n r s (takeDwell n r fresh s) := by
  unfold takeDwell
  dsimp only
  split
  · exact setLane_takesDwell _ s.acq.pool s
  · split
    · exact setLane_takesDwell _ _ s
    · split
      · exact setLane_takesDwell _ _ s
      · exact (setLane_takesDwell _ _ s).liveFallback

/-- A run as a task begins it in a tier: at the first step of its grid, with nothing found (04_acquisition R91). -/
structure Begun (t : AcqTask) (k : TrkChan) (deep : Bool) (r : LaneRun) : Prop where
  /-- Task. -/
  task : r.task = t
  /-- Channel. -/
  chan : r.chan = k
  /-- Tier. -/
  deep : r.deep = deep
  /-- Step. -/
  step : r.step = 0
  /-- Hit. -/
  hit : r.hit = none
  /-- Restart. -/
  restart : r.restart = false

theorem beginRun_begun (n : Fin 16) (x : AcqTask) (k : TrkChan) (deep : Bool) (s : State) :
    ∃ r, Begun x k deep r ∧ TakesDwell n r s (beginRun n x k deep s) := by
  have hgrid := Touches.only (touches_gridOf x) s
  exact ⟨_, ⟨rfl, rfl, rfl, rfl, rfl, rfl⟩, (takeDwell_takesDwell n _ false _).after (hgrid.kept .acq (by decide)) (hgrid.kept .trk (by decide))
    (hgrid.kept .ctr (by decide))⟩

theorem ctrGet_beginRun (hj : searchFree j) (x : AcqTask) (k : TrkChan) (deep : Bool) : ctrGet (beginRun n x k deep s) j = ctrGet s j := by
  obtain ⟨_, _, h⟩ := beginRun_begun n x k deep s
  exact h.counts hj

/-! ### The next step -/

/-- The run at the next step of its grid (04_acquisition R81, R84). -/
def nextStepRun (s : State) (r : LaneRun) : LaneRun :=
  { r with step := r.step + 1, voids := 0, hit := none, passes := 0, coh := cohInForce s r.task.target r.deep }

theorem advance_takesDwell (h : r.step + 1 < gridSteps r) (s : State) : TakesDwell n (nextStepRun s r) s (advance n r s) := by
  rw [show advance n r s = _ from if_pos h]
  split
  · exact takeDwell_takesDwell n _ false s
  · split
    · exact setLane_takesDwell r.dwell s.acq.pool s
    · exact takeDwell_takesDwell n _ false s

/-- However a run goes on, in its grid, in the next tier or with its task back in the queue, no counter but that of live dwells moves. -/
theorem ctrGet_advance (hj : searchFree j) (n : Fin 16) (r : LaneRun) (s : State) : ctrGet (advance n r s) j = ctrGet s j := by
  by_cases h : r.step + 1 < gridSteps r
  · exact (advance_takesDwell h s).counts hj
  · rw [show advance n r s = _ from if_neg h]
    split
    · exact ctrGet_beginRun hj _ _ _
    · exact ctrGet_congr (endLane_ctr n r s) j

/-! ### What a hit carries -/

theorem rebase_hit {h : AcqHit} (hh : r.hit = some h) (t : Nat) :
    rebase r t = { r with hit := some { h with cell := roundEven (2 * carryCode r h.bin ((h.cell : Rat) / 2) t (dwellTick r)) } } := by
  unfold rebase
  rw [hh]

theorem rebaseLane_lane (h : s.acq.lane[n] = some r) (t : Nat) : (rebaseLane n t s).acq.lane[n] = some (rebase r t) := by
  unfold rebaseLane
  rw [h]
  exact setLane_lane_self n _ s

theorem rebaseLane_ctr (n : Fin 16) (t : Nat) (s : State) : (rebaseLane n t s).ctr = s.ctr := (Touches.only (touches_rebaseLane n t) s).kept .ctr (by decide)

/-! ### Counting changes nothing that a step reads -/

theorem cohInForce_congr (h : upToReports s u) : cohInForce u = cohInForce s := by
  rw [h]
  rfl

theorem firstHit_congr (h : upToReports s u) : firstHit u = firstHit s := by
  have hx : xcorr u = xcorr s := by
    rw [h]
    rfl
  funext r l
  induction l with
  | nil => rfl
  | cons p l ih => rw [firstHit, firstHit, hx, ih]

theorem trackedOn_congr (h : upToReports s u) : trackedOn u = trackedOn s := by
  rw [h]
  rfl

end Sys2Proof.Machine
end

section
/-!
SUPPORT. A task takes a lane, and a record of the pool is complete (04_acquisition R79, R91, R92).
-/

namespace Sys2Proof.Machine

variable {n : Fin 16} {x : AcqTask} {k : Nat} {s t u : State}

/-- The state of the engine once the offers have been taken in (04_acquisition R91). -/
def offersTaken (offers : List SearchTarget) (s : State) : State := offers.foldl offerTask (refreshViews s)

theorem exec_acqTaskStart_full {offers : List SearchTarget}
    (h : lanesRun (offersTaken offers s) = false ∨ modeLanes (offersTaken offers s) ≤ (runs (offersTaken offers s)).length) :
    exec (.acqTaskStart offers) s = .next (offersTaken offers s) := if_pos h

/-- The lowest free lane. -/
theorem find_freeLane (hn : s.acq.lane[n] = none) (hlow : ∀ m : Fin 16, m < n → s.acq.lane[m] ≠ none) :
    (List.finRange 16).find? (fun m => (s.acq.lane[m]).isNone) = some n := by
  refine List.find?_eq_some_iff_getElem.2 ⟨by rw [hn]; rfl, n, by simp, by simp, fun j hj => ?_⟩
  have := hlow ⟨j, hj.trans n.isLt⟩ hj
  simpa [Option.isSome_iff_ne_none] using this

theorem exec_acqTaskStart_starts {offers : List SearchTarget} (hrun : lanesRun (offersTaken offers s) = true)
    (hroom : (runs (offersTaken offers s)).length < modeLanes (offersTaken offers s)) (hx : nextTask (offersTaken offers s) = some (x, k))
    (hn : (offersTaken offers s).acq.lane[n] = none) (hlow : ∀ m : Fin 16, m < n → (offersTaken offers s).acq.lane[m] ≠ none) :
    exec (.acqTaskStart offers) s = .next (startTask n x k (offersTaken offers s)) := by
  unfold offersTaken at *
  show execAcqTaskStart offers s = _
  unfold execAcqTaskStart
  dsimp only
  rw [if_neg (by simp [hrun, hroom]), hx, find_freeLane hn hlow]

/-- A task leaves the queue for a lane, with its channel reserved, and begins its search in the first tier that it has. -/
theorem startTask_starts (hk : k < 1536) (n : Fin 16) (x : AcqTask) (u : State) :
    ∃ r, Begun x ⟨k, hk⟩ (decide (tierNc u x.target.sig false = 0)) r ∧ (∃ d, (startTask n x k u).acq.lane[n] = some { r with dwell := d }) ∧
      (startTask n x k u).acq.queue = u.acq.queue.filter (fun y => y.target != x.target) ∧
      chanGet (startTask n x k u) k = { chanGet u k with reserved := some x.target } ∧
      ∀ m : Fin 16, m ≠ n → (startTask n x k u).acq.lane[m] = u.acq.lane[m] := by
  obtain ⟨r, hr, h⟩ : ∃ r, Begun x _ _ r ∧ TakesDwell n r _ (startTask n x k u) := beginRun_begun n x _ _ _
  have hchan : (⟨k % 1536, Nat.mod_lt _ (by decide)⟩ : TrkChan) = ⟨k, hk⟩ := Fin.ext (Nat.mod_eq_of_lt hk)
  rw [hchan] at hr
  refine ⟨r, hr, h.lane, h.queue, ?_, h.others⟩
  rw [chanGet_congr h.trk]
  exact chanGet_chanSet_self k (fun e => Option.some_ne_none _ (congrArg Chan.reserved e)) _

theorem exec_acqRecordComplete {r : LaneRun} {tk : Nat} (hl : s.acq.lane[n] = some r) (hd : r.dwell = .replay tk) :
    exec (.acqRecordComplete n) s = .next { s with acq := { s.acq with
      pool := s.acq.pool.map fun p => if p.key = r.key ∧ p.tick = tk ∧ tk + recordTicks p ≤ s.sky.tick then { p with full := true } else p } } := by
  show execAcqRecordComplete n s = _
  unfold execAcqRecordComplete
  rw [hl]
  dsimp only
  rw [hd]

end Sys2Proof.Machine
end

section
/-!
SUPPORT. A step of a search (04_acquisition R76, R80, R84, R87, R88, R92): what ends its task at the boundary, and how it goes on.
-/

namespace Sys2Proof.Machine

variable {n : Fin 16} {r : LaneRun} {ivs : List AcqInterval} {s t u : State}

/-! ### The step boundary -/

theorem boundaryEnd_of_tracked (h : trackedOn s r.task.target r.key.combined r.chan.val = true) :
    boundaryEnd n r s = some (bumpIf r.hit.isSome cAcqDupHits (endLane n r s)) := if_pos h

/-- A task that nothing but its restart ends begins afresh (04_acquisition Table 04-4). -/
theorem boundaryEnd_of_restart (hr : r.restart = true) (h : boundaryEnd n { r with restart := false } s = none) :
    boundaryEnd n r s = some (bump cAcqRestarts (beginRun n r.task r.chan (firstTier s r.task.target) s)) := by
  unfold boundaryEnd at h ⊢
  dsimp only at h ⊢
  split at h
  · cases h
  · rename_i htracked
    split at h
    · cases h
    · rename_i hmode
      split at h
      · cases h
      · rename_i hchan
        rw [if_neg htracked, if_neg hmode, if_neg hchan, if_pos hr]

/-! ### The command -/

/-- The hits of a step's dwell, the largest ratio first (04_acquisition R76, R87). -/
def stepHits (s : State) (r : LaneRun) (ivs : List AcqInterval) : List Peak :=
  sortBy (fun (a b : Peak) => decide (b.ratio < a.ratio))
    (((stepGroups r).zipIdx.map (groupPeak (keptIvs s r ivs) (groupSize r.groups))).filter fun p => reachesT s r.nc p.ratio)

/-- Cross-correlations are counted (04_acquisition R88). -/
def xcorrRejected (k : Nat) (s : State) : State := (List.range k).foldl (fun v _ => bump cAcqXcorrReject v) s

/-- What a step that counts leads to, by the peak that hits and the peaks rejected before it: a verification, or the next step. -/
def stepDecided (n : Fin 16) (r : LaneRun) (x : Option Peak × Nat) (s : State) : State :=
  match x.1 with
  | some p => rebaseLane n (dwellTick r) (takeHit n r p (xcorrRejected x.2 s))
  | none => advance n r (xcorrRejected x.2 s)

/-- The run of a void step that is repeated (04_acquisition R80, R84). -/
def repeatedRun (s : State) (r : LaneRun) : LaneRun := { r with voids := r.voids + 1, coh := cohInForce s r.task.target r.deep }

/-- The run of a step that hit, its hit not verified yet (04_acquisition R84, R89). -/
def foundRun (s : State) (r : LaneRun) (p : Peak) : LaneRun :=
  { r with hit := some ⟨p.ratio, p.cell, p.bin, (0, 0)⟩, passes := 0, voids := 0, coh := cohInForce s r.task.target r.deep }

section
variable (hl : s.acq.lane[n] = some r) (hrun : lanesRun s = true) (hh : r.hit = none) (hd : dwellReady s r = true)
include hl hrun hh hd

theorem exec_acqStep_ends (hb : boundaryEnd n r (bump cAcqSteps s) = some u) : exec (.acqStep n ivs) s = .next u := by
  show execAcqStep n ivs s = _
  unfold execAcqStep
  rw [hl]
  dsimp only
  rw [if_neg (by simp [hrun, hh, hd]), hb]

theorem exec_acqStep_decides (hb : boundaryEnd n r (bump cAcqSteps s) = none) :
    exec (.acqStep n ivs) s = .next (if 2 * (keptIvs s r ivs).length < r.nc then voidStep n r (advance n r) (bump cAcqSteps s)
      else stepDecided n r (firstHit s r (stepHits s r ivs)) (bump cAcqSteps s)) := by
  show execAcqStep n ivs s = _
  unfold execAcqStep
  rw [hl]
  dsimp only
  rw [if_neg (by simp [hrun, hh, hd]), hb, firstHit_congr (upToReports_bump cAcqSteps s)]
  dsimp only
  split <;> rfl

end

/-! ### What a step leaves -/

theorem voidStep_repeats (h : r.voids < 3) (skip : State → State) (u : State) :
    TakesDwell n (repeatedRun u r) (bump cAcqVoidSteps u) (voidStep n r skip u) := by
  rw [show voidStep n r skip u = _ from if_pos h]
  exact takeDwell_takesDwell n _ true _

/-- A repeated step and its void are counted. -/
theorem voidStep_counted (h : r.voids < 3) (skip : State → State) (s : State) :
    counted cAcqSteps s (voidStep n r skip (bump cAcqSteps s)) ∧ counted cAcqVoidSteps s (voidStep n r skip (bump cAcqSteps s)) := by
  have hd : TakesDwell n _ _ (voidStep n r skip (bump cAcqSteps s)) := voidStep_repeats h skip _
  refine ⟨counted_of_same (counted_bump cAcqSteps s) rfl ?_, counted_of_same (counted_bump cAcqVoidSteps _) ?_ (hd.counts (by decide))⟩
  · exact (hd.counts (by decide)).trans (ctrGet_bump_of_searchFree (by decide) (by decide) _)
  · exact ctrGet_bump_of_searchFree (by decide) (by decide) s

theorem upToReports_xcorrRejected (k : Nat) (s : State) : upToReports s (xcorrRejected k s) := upToReports_bumps _ _ s

theorem ctrGet_xcorrRejected {j : Nat} (hj : searchFree j) (hne : j ≠ cAcqXcorrReject) (k : Nat) (s : State) : ctrGet (xcorrRejected k s) j = ctrGet s j :=
  foldl_relates (R := fun s t : State => ctrGet t j = ctrGet s j) (fun _ => rfl) (fun h k => k.trans h)
    (fun t _ => ctrGet_bump_of_searchFree hj hne t) _ s

theorem takeHit_lane (n : Fin 16) (r : LaneRun) (p : Peak) (s : State) :
    ∃ d, (takeHit n r p s).acq.lane[n] = some { foundRun s r p with dwell := d } := by
  obtain ⟨d, hlane⟩ := (takeDwell_takesDwell n (foundRun s r p) true s).lane
  exact ⟨d, (congrArg (fun a : AcqState => a.lane[n]) (bump_acq cAcqHits _)).trans hlane⟩

theorem takeHit_counted (n : Fin 16) (r : LaneRun) (p : Peak) (s : State) : counted cAcqHits s (takeHit n r p s) :=
  counted_of_same (counted_bump cAcqHits _) ((takeDwell_takesDwell n (foundRun s r p) true s).counts (by decide)) rfl

theorem ctrGet_takeHit {j : Nat} (hj : searchFree j) (hne : j ≠ cAcqHits) (n : Fin 16) (r : LaneRun) (p : Peak) (s : State) :
    ctrGet (takeHit n r p s) j = ctrGet s j :=
  (ctrGet_bump_of_searchFree hj hne _).trans ((takeDwell_takesDwell n (foundRun s r p) true s).counts hj)

/-- A hit is carried to the dwell that verifies it (04_acquisition R89). -/
theorem stepDecided_hit_lane (p : Peak) (k : Nat) (u : State) :
    ∃ d, (stepDecided n r (some p, k) u).acq.lane[n] = some (rebase { foundRun u r p with dwell := d } (dwellTick r)) := by
  have hcoh : foundRun (xcorrRejected k u) r p = foundRun u r p := by
    unfold foundRun
    rw [cohInForce_congr (upToReports_xcorrRejected k u)]
  obtain ⟨d, hlane⟩ := hcoh ▸ takeHit_lane n r p (xcorrRejected k u)
  exact ⟨d, rebaseLane_lane hlane _⟩

theorem stepDecided_hit_counted (p : Peak) (k : Nat) (s : State) :
    counted cAcqSteps s (stepDecided n r (some p, k) (bump cAcqSteps s)) ∧ counted cAcqHits s (stepDecided n r (some p, k) (bump cAcqSteps s)) := by
  have hlast (i : Nat) : ctrGet (stepDecided n r (some p, k) (bump cAcqSteps s)) i = ctrGet (takeHit n r p (xcorrRejected k (bump cAcqSteps s))) i :=
    ctrGet_congr (rebaseLane_ctr n (dwellTick r) _) i
  constructor
  · refine counted_of_same (counted_bump cAcqSteps s) rfl ?_
    rw [hlast, ctrGet_takeHit (by decide) (by decide), ctrGet_xcorrRejected (by decide) (by decide)]
  · refine counted_of_same (takeHit_counted n r p _) ?_ (hlast _)
    rw [ctrGet_xcorrRejected (by decide) (by decide), ctrGet_bump_of_searchFree (by decide) (by decide)]

theorem stepDecided_miss_lane (h : r.step + 1 < gridSteps r) (k : Nat) (u : State) :
    ∃ d, (stepDecided n r (none, k) u).acq.lane[n] = some { nextStepRun u r with dwell := d } := by
  have hcoh : nextStepRun (xcorrRejected k u) r = nextStepRun u r := by
    unfold nextStepRun
    rw [cohInForce_congr (upToReports_xcorrRejected k u)]
  exact hcoh ▸ (advance_takesDwell h (xcorrRejected k u)).lane

theorem stepDecided_miss_counted (k : Nat) (s : State) : counted cAcqSteps s (stepDecided n r (none, k) (bump cAcqSteps s)) :=
  counted_of_same (counted_bump cAcqSteps s) rfl ((ctrGet_advance (by decide) n r _).trans (ctrGet_xcorrRejected (by decide) (by decide) k _))

end Sys2Proof.Machine
end

section
/-!
SUPPORT. A hit is verified and handed over to its channel (04_acquisition R89, R90, 05_tracking R104).
-/

namespace Sys2Proof.Machine

variable {n : Fin 16} {r : LaneRun} {h : AcqHit} {ivs : List AcqInterval} {s : State}

/-! ### The verification -/

/-- A false hit is counted, and the search goes on after the step that hit. -/
def verifyFailed (n : Fin 16) (r : LaneRun) (s : State) : State := bump cAcqFalseHits (advance n r s)

/-- The run after a verification that passed, with what it refined: code and frequency offsets `fine`. -/
def verifiedRun (r : LaneRun) (h : AcqHit) (fine : Rat × Rat) : LaneRun := { r with hit := some { h with fine := fine }, passes := r.passes + 1, voids := 0 }

/-- The first verification that passes is followed by another with fresh data, the second stands. -/
def verifyPassed (n : Fin 16) (r : LaneRun) (h : AcqHit) (fine : Rat × Rat) (s : State) : State :=
  if r.passes + 1 < 2 then
    rebaseLane n (dwellTick r) (takeDwell n { verifiedRun r h fine with coh := cohInForce s r.task.target r.deep } true s)
  else setLane n (some (verifiedRun r h fine)) s

theorem exec_acqVerify_decides (hl : s.acq.lane[n] = some r) (hrun : lanesRun s = true) (hh : r.hit = some h) (hp : r.passes < 2)
    (hd : dwellReady s r = true) (hb : boundaryEnd n r (bump cAcqSteps s) = none) :
    exec (.acqVerify n ivs) s = .next (
      if 2 * (keptIvs s r ivs).length < stepNc s r then rebaseLane n (dwellTick r) (voidStep n r (verifyFailed n r) (bump cAcqSteps s))
      else if reachesT s (stepNc s r) (verifyPeak (keptIvs s r ivs)).1 = false then verifyFailed n r (bump cAcqSteps s)
      else verifyPassed n r h (verifyPeak (keptIvs s r ivs)).2 (bump cAcqSteps s)) := by
  show execAcqVerify n ivs s = _
  unfold execAcqVerify
  rw [hl]
  dsimp only
  rw [if_neg (by simp [hrun, hp, hd]), hh]
  dsimp only
  rw [hb]
  dsimp only
  unfold verifyPassed
  rw [cohInForce_congr (upToReports_bump cAcqSteps s)]
  split
  · rfl
  · split
    · rfl
    · rfl

/-- A hit that is carried keeps all but its cell. -/
theorem rebaseLane_lane_of_hit (hl : s.acq.lane[n] = some r) (hh : r.hit = some h) (t : Nat) :
    ∃ c, (rebaseLane n t s).acq.lane[n] = some { r with hit := some { h with cell := c } } :=
  ⟨_, (rebaseLane_lane hl t).trans (congrArg some (rebase_hit hh t))⟩

/-- The verification that is repeated keeps its hit, carried to the new dwell (04_acquisition R80, R89). -/
theorem verifyVoid_lane (hh : r.hit = some h) (hv : r.voids < 3) (skip : State → State) (t : Nat) (s : State) :
    ∃ d c, (rebaseLane n t (voidStep n r skip s)).acq.lane[n] = some { repeatedRun s r with dwell := d, hit := some { h with cell := c } } := by
  obtain ⟨d, hlane⟩ := (voidStep_repeats (n := n) hv skip s).lane
  exact ⟨d, rebaseLane_lane_of_hit hlane hh t⟩

theorem verifyVoid_counted (hv : r.voids < 3) (skip : State → State) (t : Nat) (s : State) :
    counted cAcqSteps s (rebaseLane n t (voidStep n r skip (bump cAcqSteps s))) ∧
      counted cAcqVoidSteps s (rebaseLane n t (voidStep n r skip (bump cAcqSteps s))) := by
  have hlast := ctrGet_congr (rebaseLane_ctr n t (voidStep n r skip (bump cAcqSteps s)))
  obtain ⟨hsteps, hvoids⟩ := voidStep_counted (n := n) hv skip s
  exact ⟨counted_of_same hsteps rfl (hlast _), counted_of_same hvoids rfl (hlast _)⟩

/-- The second verification leaves cell and dwell as they are for the handover. -/
theorem verifyPassed_lane (fine : Rat × Rat) (s : State) : ∃ d c coh,
    (verifyPassed n r h fine s).acq.lane[n] = some { verifiedRun r { h with cell := c } fine with coh := coh, dwell := d } ∧
      (r.passes = 1 → c = h.cell ∧ d = r.dwell) := by
  unfold verifyPassed
  split
  case isTrue hlt =>
    obtain ⟨d, hlane⟩ := (takeDwell_takesDwell n { verifiedRun r h fine with coh := cohInForce s r.task.target r.deep } true s).lane
    obtain ⟨c, hc⟩ := rebaseLane_lane_of_hit hlane rfl (dwellTick r)
    exact ⟨d, c, _, hc, fun hp => by omega⟩
  case isFalse => exact ⟨r.dwell, h.cell, r.coh, setLane_lane_self n _ s, fun _ => ⟨rfl, rfl⟩⟩

theorem ctrGet_verifyPassed {j : Nat} (hj : searchFree j) (fine : Rat × Rat) (s : State) : ctrGet (verifyPassed n r h fine s) j = ctrGet s j := by
  unfold verifyPassed
  split
  · exact (ctrGet_congr (rebaseLane_ctr n _ _) j).trans ((takeDwell_takesDwell n _ true s).counts hj)
  · rfl

theorem verifyFailed_counted (n : Fin 16) (r : LaneRun) (s : State) :
    counted cAcqSteps s (verifyFailed n r (bump cAcqSteps s)) ∧ counted cAcqFalseHits s (verifyFailed n r (bump cAcqSteps s)) := by
  constructor
  · exact counted_of_same (counted_bump cAcqSteps s) rfl ((ctrGet_bump_of_searchFree (by decide) (by decide) _).trans (ctrGet_advance (by decide) n r _))
  · exact counted_of_same (counted_bump cAcqFalseHits _) ((ctrGet_advance (by decide) n r _).trans (ctrGet_bump_of_searchFree (by decide) (by decide) s)) rfl

/-! ### The handover -/

/-- The frequency of a verified hit, as an offset from the carrier (04_acquisition R89). -/
def refinedFreq (r : LaneRun) (h : AcqHit) : Rat := r.key.centre + ((h.bin : Rat) + h.fine.2) * spacing r

/-- The channel that takes a verified hit over, its code phase carried to the tick of the handover (04_acquisition R90). -/
def pulledChan (s : State) (r : LaneRun) (h : AcqHit) : Chan :=
  let g := targetInfo r.task.target
  { st := .pull, target := some r.task.target, combined := r.key.combined, entered := s.sky.tick, last := s.sky.tick, coh := r.coh,
    vel := Config.twoPi * refinedFreq r h, fNco := refinedFreq r h, codeRate := (g.chipHz : Rat) * (1 + refinedFreq r h / carrierOf r.task.target),
    tx := chipsOf r.task.target
      (carryCode r ((h.bin : Rat) + h.fine.2) (((h.cell : Rat) + h.fine.1) / 2) (dwellTick r) s.sky.tick / g.chipHz) / g.chipHz,
    task := some r.task }

/-- The lane is free and its channel pulls in. -/
def handedOver (n : Fin 16) (r : LaneRun) (h : AcqHit) (s : State) : State := setLane n none (chanSet r.chan.val (pulledChan s r h) s)

section
variable (hl : s.acq.lane[n] = some r) (hh : r.hit = some h) (hp : 2 ≤ r.passes)
include hl hh hp

theorem exec_handover_duplicate (ht : tracked s r.task.target r.chan.val = true) :
    exec (.handover n) s = .next (bump cAcqDupHits (endLane n r s)) := by
  show execHandover n s = _
  unfold execHandover
  rw [hl]
  dsimp only
  rw [hh]
  dsimp only
  rw [if_neg (Nat.not_lt.2 hp), if_pos ht]

theorem exec_handover_pulls (ht : tracked s r.task.target r.chan.val = false) (hr : (chanGet s r.chan.val).reserved = some r.task.target) :
    exec (.handover n) s = .next (bump cAcqHandovers (handedOver n r h s)) := by
  show execHandover n s = _
  unfold execHandover
  rw [hl]
  dsimp only
  rw [hh]
  dsimp only
  rw [if_neg (Nat.not_lt.2 hp), if_neg (by simp [ht]), if_neg (not_not.2 hr)]
  rfl

end

theorem pulledChan_ne_default (s : State) (r : LaneRun) (h : AcqHit) : pulledChan s r h ≠ {} := fun e => ChanState.noConfusion (congrArg Chan.st e)

theorem chanGet_handedOver_self : chanGet (handedOver n r h s) r.chan.val = pulledChan s r h :=
  chanGet_chanSet_self _ (pulledChan_ne_default s r h) s

theorem chanGet_handedOver_ne {j : Nat} (hj : j ≠ r.chan.val) : chanGet (handedOver n r h s) j = chanGet s j := chanGet_chanSet_ne hj _ s

end Sys2Proof.Machine
end

section
/-!
OBLIGATION O36 (04_acquisition): the start of a task, its steps, the verifications and the handover put together.
-/

namespace Sys2Proof.Machine

variable {n : SearchLane} {r : LaneRun} {ivs : List AcqInterval} {s : State}

theorem acqTaskStart_starts {offers : List SearchTarget} {x : AcqTask} {k : Nat} {n : Fin 16} (hrun : lanesRun (offersTaken offers s) = true)
    (hroom : (runs (offersTaken offers s)).length < modeLanes (offersTaken offers s)) (hx : nextTask (offersTaken offers s) = some (x, k)) (hk : k < 1536)
    (hn : (offersTaken offers s).acq.lane[n] = none) (hlow : ∀ m : Fin 16, m < n → (offersTaken offers s).acq.lane[m] ≠ none) :
    completes (.acqTaskStart offers) s fun t =>
      t.acq.queue = (offersTaken offers s).acq.queue.filter (fun y => y.target != x.target) ∧
      chanGet t k = { chanGet (offersTaken offers s) k with reserved := some x.target } ∧
      (∀ m : Fin 16, m ≠ n → t.acq.lane[m] = (offersTaken offers s).acq.lane[m]) ∧
      ∃ r, t.acq.lane[n] = some r ∧ r.task = x ∧ r.chan.val = k ∧ r.step = 0 ∧ r.hit = none ∧ r.restart = false ∧
        r.deep = decide (tierNc (offersTaken offers s) x.target.sig false = 0) := by
  obtain ⟨r, hr, ⟨d, hlane⟩, hqueue, hchan, hothers⟩ := startTask_starts hk n x (offersTaken offers s)
  exact ⟨_, exec_acqTaskStart_starts hrun hroom hx hn hlow, hqueue, hchan, hothers, _, hlane, hr.task, congrArg Fin.val hr.chan, hr.step, hr.hit,
    hr.restart, hr.deep⟩

section
variable (hl : s.acq.lane[n] = some r) (hrun : lanesRun s = true) (hh : r.hit = none) (hd : dwellReady s r = true)
include hl hrun hh hd

/-- A step of a signal that another channel tracks by now ends the search (04_acquisition R92). -/
theorem acqStep_tracked (ht : trackedOn s r.task.target r.key.combined r.chan.val = true) :
    completes (.acqStep n ivs) s fun t => t.acq.lane[n] = none ∧ counted cAcqSteps s t := by
  rw [← trackedOn_congr (upToReports_bump cAcqSteps s)] at ht
  have hb : boundaryEnd n r (bump cAcqSteps s) = some (endLane n r (bump cAcqSteps s)) := by
    rw [boundaryEnd_of_tracked ht, hh]
    rfl
  exact ⟨_, exec_acqStep_ends hl hrun hh hd hb, endLane_lane n r _, counted_of_same (counted_bump cAcqSteps s) rfl (ctrGet_congr (endLane_ctr n r _) _)⟩

theorem acqStep_restarts (hb : boundaryEnd n { r with restart := false } (bump cAcqSteps s) = none) (hr : r.restart = true) :
    completes (.acqStep n ivs) s fun t => counted cAcqSteps s t ∧ counted cAcqRestarts s t ∧
      ∃ r', t.acq.lane[n] = some r' ∧ r'.task = r.task ∧ r'.chan = r.chan ∧ r'.step = 0 ∧ r'.hit = none ∧ r'.restart = false := by
  have hend := boundaryEnd_of_restart hr hb
  obtain ⟨r', hbegun, htakes⟩ := beginRun_begun n r.task r.chan (firstTier (bump cAcqSteps s) r.task.target) (bump cAcqSteps s)
  obtain ⟨d, hlane⟩ := htakes.lane
  refine ⟨_, exec_acqStep_ends hl hrun hh hd hend, ?_, ?_, { r' with dwell := d }, ?_, hbegun.task, hbegun.chan, hbegun.step, hbegun.hit, hbegun.restart⟩
  · exact counted_of_same (counted_bump cAcqSteps s) rfl ((ctrGet_bump_of_searchFree (by decide) (by decide) _).trans (htakes.counts (by decide)))
  · exact counted_of_same (counted_bump cAcqRestarts _) ((htakes.counts (by decide)).trans (ctrGet_bump_of_searchFree (by decide) (by decide) s)) rfl
  · rw [bump_acq]
    exact hlane

theorem acqStep_void (hb : boundaryEnd n r (bump cAcqSteps s) = none) (hv : 2 * (keptIvs s r ivs).length < r.nc) (hvoids : r.voids < 3) :
    completes (.acqStep n ivs) s fun t => counted cAcqSteps s t ∧ counted cAcqVoidSteps s t ∧
      ∃ r', t.acq.lane[n] = some r' ∧ r' = { r with voids := r.voids + 1, coh := cohInForce s r.task.target r.deep, dwell := r'.dwell } := by
  have hexec := exec_acqStep_decides (ivs := ivs) hl hrun hh hd hb
  rw [if_pos hv] at hexec
  obtain ⟨d, hlane⟩ := (voidStep_repeats (n := n) hvoids (advance n r) (bump cAcqSteps s)).lane
  unfold repeatedRun at hlane
  rw [cohInForce_congr (upToReports_bump cAcqSteps s)] at hlane
  obtain ⟨hsteps, hcount⟩ := voidStep_counted (n := n) hvoids (advance n r) s
  exact ⟨_, hexec, hsteps, hcount, _, hlane, rfl⟩

theorem acqStep_hit {p : Peak} (hb : boundaryEnd n r (bump cAcqSteps s) = none) (hv : r.nc ≤ 2 * (keptIvs s r ivs).length)
    (hp : (firstHit s r (stepHits s r ivs)).1 = some p) :
    completes (.acqStep n ivs) s fun t => counted cAcqSteps s t ∧ counted cAcqHits s t ∧
      ∃ r', t.acq.lane[n] = some r' ∧ r' = { r with
        hit := some ⟨p.ratio, roundEven (2 * carryCode r p.bin ((p.cell : Rat) / 2) (dwellTick r) (dwellTick r')), p.bin, (0, 0)⟩,
        passes := 0, voids := 0, coh := cohInForce s r.task.target r.deep, dwell := r'.dwell } := by
  have hexec := exec_acqStep_decides (ivs := ivs) hl hrun hh hd hb
  rw [if_neg (Nat.not_lt.2 hv), show firstHit s r (stepHits s r ivs) = (some p, _) from Prod.ext hp rfl] at hexec
  obtain ⟨d, hlane⟩ := stepDecided_hit_lane (n := n) (r := r) p (firstHit s r (stepHits s r ivs)).2 (bump cAcqSteps s)
  unfold foundRun at hlane
  rw [cohInForce_congr (upToReports_bump cAcqSteps s)] at hlane
  obtain ⟨hsteps, hcount⟩ := stepDecided_hit_counted (n := n) (r := r) p (firstHit s r (stepHits s r ivs)).2 s
  exact ⟨_, hexec, hsteps, hcount, _, hlane, rfl⟩

theorem acqStep_miss (hb : boundaryEnd n r (bump cAcqSteps s) = none) (hv : r.nc ≤ 2 * (keptIvs s r ivs).length)
    (hp : (firstHit s r (stepHits s r ivs)).1 = none) (hmore : r.step + 1 < gridSteps r) :
    completes (.acqStep n ivs) s fun t => counted cAcqSteps s t ∧
      ∃ r', t.acq.lane[n] = some r' ∧ r' = { r with
        step := r.step + 1, voids := 0, hit := none, passes := 0, coh := cohInForce s r.task.target r.deep, dwell := r'.dwell } := by
  have hexec := exec_acqStep_decides (ivs := ivs) hl hrun hh hd hb
  rw [if_neg (Nat.not_lt.2 hv), show firstHit s r (stepHits s r ivs) = (none, _) from Prod.ext hp rfl] at hexec
  obtain ⟨d, hlane⟩ := stepDecided_miss_lane (n := n) hmore (firstHit s r (stepHits s r ivs)).2 (bump cAcqSteps s)
  unfold nextStepRun at hlane
  rw [cohInForce_congr (upToReports_bump cAcqSteps s)] at hlane
  exact ⟨_, hexec, stepDecided_miss_counted _ s, _, hlane, rfl⟩

end

section
variable {h : AcqHit} (hl : s.acq.lane[n] = some r) (hrun : lanesRun s = true) (hh : r.hit = some h) (hp : r.passes < 2)
  (hd : dwellReady s r = true) (hb : boundaryEnd n r (bump cAcqSteps s) = none)
include hl hrun hh hp hd hb

theorem acqVerify_void (hv : 2 * (keptIvs s r ivs).length < stepNc s r) (hvoids : r.voids < 3) :
    completes (.acqVerify n ivs) s fun t => counted cAcqSteps s t ∧ counted cAcqVoidSteps s t ∧
      ∃ r' h', t.acq.lane[n] = some r' ∧ r'.hit = some h' ∧ h'.bin = h.bin ∧ r'.voids = r.voids + 1 ∧ r'.passes = r.passes ∧ r'.step = r.step := by
  have hexec := exec_acqVerify_decides (ivs := ivs) hl hrun hh hp hd hb
  rw [if_pos hv] at hexec
  obtain ⟨d, c, hlane⟩ := verifyVoid_lane (n := n) hh hvoids (verifyFailed n r) (dwellTick r) (bump cAcqSteps s)
  obtain ⟨hsteps, hcount⟩ := verifyVoid_counted (n := n) hvoids (verifyFailed n r) (dwellTick r) s
  exact ⟨_, hexec, hsteps, hcount, _, _, hlane, rfl, rfl, rfl, rfl, rfl⟩

theorem acqVerify_passes (hv : stepNc s r ≤ 2 * (keptIvs s r ivs).length)
    (hr : reachesT s (stepNc s r) (verifyPeak (keptIvs s r ivs)).1 = true) :
    completes (.acqVerify n ivs) s fun t => counted cAcqSteps s t ∧
      ∃ r' h', t.acq.lane[n] = some r' ∧ r'.hit = some h' ∧ h'.bin = h.bin ∧ h'.fine = (verifyPeak (keptIvs s r ivs)).2 ∧
        r'.passes = r.passes + 1 ∧ r'.voids = 0 ∧ r'.step = r.step ∧ (r.passes = 1 → h'.cell = h.cell ∧ r'.dwell = r.dwell) := by
  have hexec := exec_acqVerify_decides (ivs := ivs) hl hrun hh hp hd hb
  rw [if_neg (Nat.not_lt.2 hv), if_neg (by simp [hr])] at hexec
  obtain ⟨d, c, coh, hlane, hkept⟩ := verifyPassed_lane (n := n) (r := r) (h := h) (verifyPeak (keptIvs s r ivs)).2 (bump cAcqSteps s)
  exact ⟨_, hexec, counted_of_same (counted_bump cAcqSteps s) rfl (ctrGet_verifyPassed (by decide) _ _), _, _, hlane, rfl, rfl, rfl, rfl, rfl, rfl, hkept⟩

theorem acqVerify_fails (hv : stepNc s r ≤ 2 * (keptIvs s r ivs).length)
    (hr : reachesT s (stepNc s r) (verifyPeak (keptIvs s r ivs)).1 = false) :
    completes (.acqVerify n ivs) s fun t => counted cAcqSteps s t ∧ counted cAcqFalseHits s t := by
  have hexec := exec_acqVerify_decides (ivs := ivs) hl hrun hh hp hd hb
  rw [if_neg (Nat.not_lt.2 hv), if_pos hr] at hexec
  exact ⟨_, hexec, verifyFailed_counted n r s⟩

end

theorem handover_duplicate {h : AcqHit} (hl : s.acq.lane[n] = some r) (hh : r.hit = some h) (hp : 2 ≤ r.passes)
    (ht : tracked s r.task.target r.chan.val = true) :
    completes (.handover n) s fun t => t.acq.lane[n] = none ∧ counted cAcqDupHits s t := by
  refine ⟨_, exec_handover_duplicate hl hh hp ht, ?_, counted_of_same (counted_bump cAcqDupHits _) (ctrGet_congr (endLane_ctr n r s) _) rfl⟩
  rw [bump_acq]
  exact endLane_lane n r s

theorem handover_pulls {h : AcqHit} (hl : s.acq.lane[n] = some r) (hh : r.hit = some h) (hp : 2 ≤ r.passes)
    (ht : tracked s r.task.target r.chan.val = false) (hr : (chanGet s r.chan.val).reserved = some r.task.target) :
    completes (.handover n) s fun t => t.acq = { s.acq with lane := s.acq.lane.set n none } ∧ counted cAcqHandovers s t ∧
      (∀ j, j ≠ r.chan.val → chanGet t j = chanGet s j) ∧ chanGet t r.chan.val = pulledChan s r h := by
  refine ⟨_, exec_handover_pulls hl hh hp ht hr, bump_acq _ _, counted_of_same (counted_bump cAcqHandovers (handedOver n r h s)) rfl rfl,
    fun j hj => ?_, ?_⟩
  · rw [chanGet_congr (bump_trk _ _), chanGet_handedOver_ne hj]
  · rw [chanGet_congr (bump_trk _ _), chanGet_handedOver_self]

/-- Settles O36: clause by clause, each command by the way that its task goes on. -/
theorem acquisitionSearchesAndHandsOver : Obligations.AcquisitionSearchesAndHandsOver := by
  refine ⟨fun s offers => ⟨?_, ?_⟩, ?_,
    fun s n r ivs hl hrun hh hd => ⟨acqStep_tracked hl hrun hh hd, fun hb => ⟨acqStep_restarts hl hrun hh hd hb, fun hr => ?_⟩⟩,
    fun s n r h ivs hl hrun hh hp hd hb => ⟨?_, ?_, ?_⟩, fun s n r h hl hh hp => ⟨handover_duplicate hl hh hp, fun ht hr => ?_⟩⟩
  · exact fun hfull => ⟨_, exec_acqTaskStart_full hfull, rfl⟩
  · exact fun x k n hrun hroom hx hk hn hlow => acqTaskStart_starts hrun hroom hx hk hn hlow
  · exact fun s n r tk hl hd => ⟨_, exec_acqRecordComplete hl hd, rfl⟩
  · rw [show { r with restart := false } = r by rw [← hr]] at hb
    exact ⟨acqStep_void hl hrun hh hd hb, fun hv => ⟨fun p => acqStep_hit hl hrun hh hd hb hv, acqStep_miss hl hrun hh hd hb hv⟩⟩
  · exact acqVerify_void hl hrun hh hp hd hb
  · exact acqVerify_passes hl hrun hh hp hd hb
  · exact acqVerify_fails hl hrun hh hp hd hb
  · obtain ⟨t, hexec, hacq, hcount, hrest, hchan⟩ := handover_pulls hl hh hp ht hr
    refine ⟨t, hexec, ?_⟩
    dsimp only
    rw [hchan]
    exact ⟨hacq, hcount, hrest, rfl, rfl, rfl, rfl, rfl, rfl, rfl, rfl⟩

end Sys2Proof.Machine
end

section
/-!
SUPPORT. What the tracking bank's operations write: the channel they name, and no other (05_tracking R104, R117, R121).
-/

namespace Sys2Proof.Machine

variable {s t u : State} {c : Chan} {j k : Nat}

/-! ### One channel -/

@[simp] theorem bumpIf_trk (b : Bool) (i : Nat) (s : State) : (bumpIf b i s).trk = s.trk := (only_bumpIf b i s).kept .trk (by decide)

theorem ctrGet_chanSet (k : Nat) (c : Chan) (s : State) (i : Nat) : ctrGet (chanSet k c s) i = ctrGet s i := rfl

theorem counted_bump_chanSet (i k : Nat) (c : Chan) (s : State) : counted i s (bump i (chanSet k c s)) := by
  have h := counted_bump i (chanSet k c s)
  rwa [counted, ctrGet_chanSet] at h

/-- From `s` to `t` channel `k` becomes `c`, and every other channel stays. -/
structure Becomes (k : Nat) (c : Chan) (s t : State) : Prop where
  /-- The channel. -/
  self : chanGet t k = c
  /-- Other channels. -/
  rest : ∀ j, j ≠ k → chanGet t j = chanGet s j

/-- A channel that is not IDLE differs from the default, so that a write of it is read back. -/
theorem ne_default_of_st (h : c.st ≠ .idle) : c ≠ {} := fun e => h (congrArg Chan.st e)

theorem becomes_chanSet (h : c.st ≠ .idle) (s : State) : Becomes k c s (chanSet k c s) :=
  ⟨chanGet_chanSet_self k (ne_default_of_st h) s, fun _ hj => chanGet_chanSet_ne hj c s⟩

/-- The numbered array of channels is canonical. -/
abbrev chansWf (s : State) : Prop := swf (fun _ => ({} : Chan)) s.trk.chan = true

theorem State.memWf.chans (h : s.memWf) : chansWf s := by
  obtain ⟨-, -, hchan, -, -⟩ := h
  exact hchan

/-- In the canonical form an idle channel is read back too. -/
theorem becomes_idle (h : chansWf s) (k : Nat) : Becomes k {} s (chanSet k {} s) where
  self := (sget_sset _ _ _ _ _ h).trans (if_pos rfl)
  rest _ hj := chanGet_chanSet_ne hj {} s

/-- Counting before and after a write changes no channel. -/
theorem Becomes.around (h : Becomes k c s t) {s' t' : State} (hs : s.trk = s'.trk) (ht : t'.trk = t.trk) : Becomes k c s' t' where
  self := (chanGet_congr ht k).trans h.self
  rest j hj := (chanGet_congr ht j).trans ((h.rest j hj).trans (chanGet_congr hs j))

/-! ### A channel is lost -/

/-- A channel as it is lost (05_tracking R104, R117, 04_acquisition R85). -/
def asLost (s : State) (c : Chan) : Chan :=
  { c with
    st := .lost, entered := s.sky.tick, weak := false, weakTo := none, coast := none, hollow := 0,
    lostView := c.target.bind fun g => (viewOf s g.sat).map fun v => (v.dop, v.range) }

theorem loseChan_eq (k : Nat) (s : State) :
    loseChan k s = chanSet k (asLost s (chanGet s k)) (bump cTrkLost (bumpIf ((chanGet s k).st == .lock) cTrkLockLosses s)) := by
  unfold loseChan asLost
  dsimp only
  split <;> simp only [*, Option.bind_some, Option.bind_none]

theorem loseChan_becomes (k : Nat) (s : State) : Becomes k (asLost s (chanGet s k)) s (loseChan k s) := by
  rw [loseChan_eq]
  exact (becomes_chanSet ChanState.noConfusion _).around (by simp [bump_trk]) rfl

theorem loseChan_counted (k : Nat) (s : State) : counted cTrkLost s (loseChan k s) := by
  rw [loseChan_eq]
  exact counted_of_same (counted_bump cTrkLost _) (ctrGet_bumpIf_free ⟨by decide, by decide, by decide⟩ (by decide) _ s) rfl

/-! ### A channel is released -/

/-- Channel `k`, once idle, stays so from `s` to `t`, and the channels stay canonical. -/
def StaysIdle (k : Nat) (s t : State) : Prop := chansWf s → chanGet s k = {} → chansWf t ∧ chanGet t k = {}

/-- A channel goes IDLE, its lock counted (05_tracking R121). -/
def idled (b : Bool) (j : Nat) (s : State) : State := chanSet j {} (bumpIf b cTrkLockLosses s)

theorem chansWf_idled (h : chansWf s) (b : Bool) (j : Nat) : chansWf (idled b j s) := by
  rw [show chansWf (idled b j s) ↔ swf _ (sset _ (bumpIf b cTrkLockLosses s).trk.chan j {}) = true from Iff.rfl, bumpIf_trk]
  exact swf_sset _ _ _ _ h

theorem idled_becomes (h : chansWf s) (b : Bool) (j : Nat) : Becomes j {} s (idled b j s) :=
  (becomes_idle (by rwa [chansWf, bumpIf_trk]) j).around (bumpIf_trk b _ s) rfl

theorem idled_staysIdle (k : Nat) (b : Bool) (j : Nat) (s : State) : StaysIdle k s (idled b j s) := fun hw hk => by
  refine ⟨chansWf_idled hw b j, ?_⟩
  by_cases e : k = j
  · exact e ▸ (idled_becomes hw b j).self
  · exact ((idled_becomes hw b j).rest k e).trans hk

/-- The array channels of a signal go with its navigation channel, which stays idle (05_tracking R121). -/
theorem releaseChan_idle (h : chansWf s) (k : Nat) : chanGet (releaseChan k s) k = {} := by
  have hself : chanGet (idled ((chanGet s k).st == .lock) k s) k = {} := (idled_becomes h _ k).self
  have hfold (l : List (Nat × Chan)) : StaysIdle k (idled ((chanGet s k).st == .lock) k s)
      (l.foldl (fun u x => idled (x.2.st == .lock) x.1 u) (idled ((chanGet s k).st == .lock) k s)) :=
    foldl_relates (fun _ hw hk => ⟨hw, hk⟩) (fun ha hb hw hk => hb (ha hw hk).1 (ha hw hk).2) (fun u x => idled_staysIdle k _ x.1 u) l _
  unfold releaseChan
  dsimp only
  split
  · exact hself
  · split
    · exact (hfold _ (chansWf_idled h _ k) hself).2
    · exact hself

end Sys2Proof.Machine
end

section
/-!
SUPPORT. The end of a dump (05_tracking R99, R104, R106, R108): what a full dump leaves of a channel through all of its steps, and the transition it decides.
-/

namespace Sys2Proof.Machine

variable {s t u : State} {c x : Chan} {j k : Nat}

/-! ### Transitions -/

/-- A channel that takes over none as it enters another state at a dump boundary (05_tracking Table 05-4, R104). -/
def entering (s : State) (x : ChanState) (c : Chan) : Chan :=
  let c' := { c with st := x, entered := s.sky.tick, weak := false, weakTo := none }
  match x with
  | .track =>
    if c.st = .pull then { c' with
      bumpWin := [], cnWin := (0, 0, 0, 0, 0), cnFrom := c.last, level := max c.level 1, dumpNo := 0, signs := [], dks := [], won := none }
    else { c' with bumpWin := [] }
  | .lock => restartLock s c'
  | _ => c'

theorem entering_st (s : State) (x : ChanState) (c : Chan) : (entering s x c).st = x := by
  unfold entering
  dsimp only
  split
  · split <;> rfl
  · rfl
  · rfl

theorem entering_track (h : c.st ≠ .pull) (s : State) :
    entering s .track c = { c with st := .track, entered := s.sky.tick, weak := false, weakTo := none, bumpWin := [] } := if_neg h

theorem entering_track_prev (s : State) (c : Chan) : (entering s .track c).prev = c.prev := by
  unfold entering
  dsimp only
  split <;> rfl

theorem completeTakeover_of_none (h : (chanGet s k).takes = none) : completeTakeover k s = s := by
  unfold completeTakeover
  dsimp only
  rw [h]

theorem toState_becomes {x : ChanState} (hx : x ≠ .idle) (hc : x = .lock → (chanGet s k).takes = none) :
    Becomes k (entering s x (chanGet s k)) s (toState x k s) := by
  have hset (c : Chan) (hst : c.st = x) : Becomes k c s (chanSet k c (bumpIf ((chanGet s k).st == .lock) cTrkLockLosses s)) :=
    (becomes_chanSet (hst ▸ hx) _).around (bumpIf_trk _ _ s) rfl
  have h := hset (entering s x (chanGet s k)) (entering_st s x _)
  cases x with
  | lock =>
    have htakes : (chanGet (chanSet k (entering s .lock (chanGet s k)) (bumpIf ((chanGet s k).st == .lock) cTrkLockLosses s)) k).takes = none := by
      rw [h.self]
      exact hc rfl
    rw [show toState .lock k s = completeTakeover k (chanSet k (entering s .lock (chanGet s k)) _) from rfl, completeTakeover_of_none htakes]
    exact h
  | track => exact h
  | idle | pull | freq | lost => exact h

/-- What R104 lets a full dump decide: nothing, the loss of the channel, or another state. -/
theorem dumpTransition_cases (k : Nat) (s : State) :
    dumpTransition k s = s ∨ dumpTransition k s = loseChan k s ∨ ∃ x, x ≠ .idle ∧ dumpTransition k s = toState x k s := by
  unfold dumpTransition
  dsimp only
  split
  · split
    · exact .inr (.inr ⟨.track, by decide, rfl⟩)
    · exact .inl rfl
  · exact .inl rfl
  · exact .inl rfl
  · split
    · exact .inr (.inl rfl)
    · split
      · exact .inl rfl
      · split
        · exact .inr (.inr ⟨.lock, by decide, rfl⟩)
        · split
          · split
            · split
              · exact .inr (.inr ⟨.freq, by decide, rfl⟩)
              · exact .inr (.inr ⟨.track, by decide, rfl⟩)
            · exact .inr (.inr ⟨.track, by decide, rfl⟩)
          · exact .inl rfl

/-- The pull-in is over: 20 dumps whose errors are small (05_tracking R104). -/
abbrev pulledIn (w : List (Rat × Rat)) : Prop := w.length = 20 ∧ meanQ (w.map (·.1)) ≤ 10 ∧ meanQ (w.map (·.2)) ≤ 1 / 10

theorem dumpTransition_pull (h : (chanGet s k).st = .pull) :
    (pulledIn (chanGet s k).pullWin → dumpTransition k s = toState .track k s) ∧ (¬ pulledIn (chanGet s k).pullWin → dumpTransition k s = s) := by
  unfold dumpTransition pulledIn
  dsimp only
  rw [h]
  exact ⟨fun hw => if_pos hw, fun hw => if_neg hw⟩

/-! ### What a dump's steps leave -/

/-- What a full dump settles of a channel before anything that depends on its state: coasting over, its end, the loops. -/
structure LoopPart where
  /-- Consecutive hollow dumps. -/
  hollow : Nat
  /-- Coasting. -/
  coast : Option Nat
  /-- End of the last dump. -/
  last : Rat
  /-- Carrier NCO. -/
  fNco : Rat
  /-- Code NCO. -/
  codeRate : Rat
  /-- Loop filter. -/
  acc : Rat
  /-- Loop filter. -/
  vel : Rat

/-- That part of a channel. -/
def loopPart (c : Chan) : LoopPart := ⟨c.hollow, c.coast, c.last, c.fNco, c.codeRate, c.acc, c.vel⟩

/-- From `c` to `x` a channel keeps the loops, its state, its errors in PULL, its count of code periods and what it takes over. -/
structure KeepsLoops (c x : Chan) : Prop where
  /-- Loops. -/
  loops : loopPart x = loopPart c
  /-- State. -/
  st : x.st = c.st
  /-- Errors in PULL. -/
  pullWin : x.pullWin = c.pullWin
  /-- Code periods. -/
  dumpNo : x.dumpNo = c.dumpNo
  /-- Takeover. -/
  takes : x.takes = c.takes
  /-- Prompt in PULL. -/
  prev : c.st = .pull → x.prev = c.prev

namespace KeepsLoops

theorem refl (c : Chan) : KeepsLoops c c := ⟨rfl, rfl, rfl, rfl, rfl, fun _ => rfl⟩

theorem trans {y : Chan} (h : KeepsLoops c x) (h' : KeepsLoops x y) : KeepsLoops c y :=
  ⟨h'.loops.trans h.loops, h'.st.trans h.st, h'.pullWin.trans h.pullWin, h'.dumpNo.trans h.dumpNo, h'.takes.trans h.takes,
    fun hc => (h'.prev (h.st.trans hc)).trans (h.prev hc)⟩

theorem of_cnStep (s : State) (k : Nat) (d : DumpData) (a b : Rat) (c : Chan) : KeepsLoops c (cnStep s k d a b c) := by
  unfold cnStep
  split
  · exact refl c
  · exact ⟨rfl, rfl, rfl, rfl, rfl, fun _ => rfl⟩

theorem of_restartLock (s : State) (c : Chan) : KeepsLoops c (restartLock s c) := ⟨rfl, rfl, rfl, rfl, rfl, fun _ => rfl⟩

theorem of_weakStep (c : Chan) : KeepsLoops c (weakStep c) := by
  unfold weakStep
  dsimp only
  split
  · split
    · exact ⟨rfl, rfl, rfl, rfl, rfl, fun _ => rfl⟩
    · exact refl c
  · exact refl c

/-- Synchronisation touches no loop; in PULL there is none. -/
theorem of_synchronise (h : c.st ≠ .pull) (rot : Nat) : KeepsLoops c (synchronise rot c) := ⟨rfl, rfl, rfl, rfl, rfl, fun hc => absurd hc h⟩

theorem of_clearDks (c : Chan) : KeepsLoops c { c with dks := [] } := ⟨rfl, rfl, rfl, rfl, rfl, fun _ => rfl⟩

theorem of_secondaryStep (h : c.st ≠ .pull) (g : SearchTarget) : KeepsLoops c (secondaryStep g c) := by
  unfold secondaryStep
  dsimp only
  split
  · exact refl c
  · split
    · exact ⟨rfl, rfl, rfl, rfl, rfl, fun _ => rfl⟩
    · split
      · exact of_synchronise h _
      · exact ⟨rfl, rfl, rfl, rfl, rfl, fun _ => rfl⟩

theorem of_overlayStep (h : c.st ≠ .pull) (s : State) (g : SearchTarget) : KeepsLoops c (overlayStep s g c) := by
  unfold overlayStep
  dsimp only
  split
  · split
    · exact refl c
    · split
      · exact of_synchronise h _
      · exact of_clearDks c
  · split
    · exact refl c
    · split
      · exact of_synchronise h _
      · exact of_clearDks c

theorem of_clStep (h : c.st ≠ .pull) (s : State) (d : DumpData) : KeepsLoops c (clStep s d c) := by
  have clear (q : Option Cplx) (l m : List Rat) : KeepsLoops c { c with clPrev := q, dks := l, clMags := m } := ⟨rfl, rfl, rfl, rfl, rfl, fun _ => rfl⟩
  unfold clStep
  dsimp only
  split
  · exact clear _ _ _
  · split
    · exact clear _ _ _
    · split
      · exact of_synchronise h _
      · exact clear _ _ _
  · exact clear _ _ _
  · split
    · exact clear _ _ _
    · split
      · exact of_synchronise h _
      · exact clear _ _ _

theorem of_syncStep (s : State) (d : DumpData) (q : Option Cplx) (c : Chan) : KeepsLoops c (syncStep s d q c) := by
  unfold syncStep
  dsimp only
  split
  · exact refl c
  · rename_i hopen
    have h : c.st ≠ .pull := fun e => hopen (.inl (by rw [e]; decide))
    have dks (l : List Rat) : KeepsLoops c { c with dks := l } := ⟨rfl, rfl, rfl, rfl, rfl, fun _ => rfl⟩
    split
    · exact refl c
    · split
      · split
        · exact of_synchronise h _
        · exact refl c
      · split
        · exact of_clStep h s d
        · split
          · exact (dks _).trans (of_overlayStep (by exact h) s _)
          · exact (dks _).trans (of_secondaryStep (by exact h) _)

end KeepsLoops

/-! ### A full dump -/

theorem entering_loopPart (s : State) (x : ChanState) (c : Chan) : loopPart (entering s x c) = loopPart c := by
  unfold entering
  dsimp only
  split
  · split <;> rfl
  · rfl
  · rfl

/-- Only the entry to TRACK from PULL starts the count of code periods afresh. -/
theorem entering_dumpNo (x : ChanState) (h : c.st ≠ .pull) : (entering s x c).dumpNo = c.dumpNo := by
  unfold entering
  dsimp only
  rw [if_neg h]
  split <;> rfl

/-- The channel once its loops have been updated, before its windows, synchronisation and state are looked at (05_tracking R99, R106, R108). -/
structure Updated (s : State) (c : Chan) (d : DumpData) (x : Chan) : Prop where
  /-- Loops. -/
  loops : loopPart x =
    let l := (loopUpdate s c (carrierPrompt s c d) d (dumpSpan c)).1
    ⟨0, none, dumpEnd c, l.fNco, l.codeRate, l.acc, l.vel⟩
  /-- State. -/
  st : x.st = c.st
  /-- Errors in PULL. -/
  pullWin : c.st = .pull → x.pullWin = ((loopUpdate s c (carrierPrompt s c d) d (dumpSpan c)).2 :: c.pullWin).take 20
  /-- Code periods. -/
  dumpNo : x.dumpNo = c.dumpNo + (roundEven (dumpCode c / (chanInfo c).period)).toNat
  /-- Takeover. -/
  takes : x.takes = c.takes
  /-- Prompt in PULL. -/
  prev : c.st = .pull → x.prev = some (carrierPrompt s c d)

theorem Updated.keep {d : DumpData} {y : Chan} (h : Updated s c d x) (h' : KeepsLoops x y) : Updated s c d y where
  loops := h'.loops.trans h.loops
  st := h'.st.trans h.st
  pullWin hc := h'.pullWin.trans (h.pullWin hc)
  dumpNo := h'.dumpNo.trans h.dumpNo
  takes := h'.takes.trans h.takes
  prev hc := (h'.prev (h.st.trans hc)).trans (h.prev hc)

/-- A full dump counts its slips and jumps, and decides the transition from a channel that its steps have updated. -/
theorem fullDump_updates (k : Nat) (d : DumpData) (s : State) : ∃ x slip jump, Updated s (chanGet s k) d x ∧
    fullDump k d s = dumpTransition k (bumpIf slip cTrkSlips (bumpIf jump cTrkBumpJumps (chanSet k x s))) := by
  unfold fullDump
  extract_lets c t span p diff off slip ran primary before window pliTerm
  rcases hl : loopUpdate s c p d span with ⟨l, ef, ec⟩
  dsimp -zeta only
  extract_lets c1 c2 c3 shift c4 c5 c6
  refine ⟨c6, slip, shift.isSome, ?_, rfl⟩
  have h2 : Updated s c d c2 := by
    refine ⟨?_, rfl, fun hc => ?_, rfl, rfl, fun _ => ?_⟩
    · rw [hl]
      rfl
    · rw [hl]
      exact if_pos hc
    · exact (congrArg (fun y : Chan × Rat × Rat => y.1.prev) hl).symm
  have h3 : Updated s c d c3 := h2.keep (.of_cnStep _ _ _ _ _ _)
  have h4 : Updated s c d c4 := by
    unfold c4
    generalize shift = o
    cases o with
    | some x => exact h3.keep ⟨rfl, rfl, rfl, rfl, rfl, fun _ => rfl⟩
    | none => exact h3
  have h5 : Updated s c d c5 := by
    unfold c5
    split
    · exact h4.keep (.of_restartLock s c4)
    · exact h4
  refine .keep ?_ (.of_weakStep _)
  split
  · exact h5.keep (.of_syncStep _ _ _ _)
  · exact h5

/-- What the loops settled and, outside PULL, the count of code periods pass the transition unchanged. -/
theorem dumpTransition_keeps (hh : (chanGet s k).hollow = 0) (hc : (chanGet s k).coast = none) (ht : (chanGet s k).takes = none) :
    ∃ y, Becomes k y s (dumpTransition k s) ∧ loopPart y = loopPart (chanGet s k) ∧ ((chanGet s k).st ≠ .pull → y.dumpNo = (chanGet s k).dumpNo) := by
  obtain h | h | ⟨x, hx, h⟩ := dumpTransition_cases k s
  · rw [h]
    exact ⟨_, ⟨rfl, fun _ _ => rfl⟩, rfl, fun _ => rfl⟩
  · rw [h]
    refine ⟨_, loseChan_becomes k s, ?_, fun _ => rfl⟩
    unfold loopPart
    rw [hh, hc]
    rfl
  · rw [h]
    exact ⟨_, toState_becomes hx fun _ => ht, entering_loopPart s x _, entering_dumpNo x⟩

/-- A channel whose pull-in is over enters TRACK with its prompt, one in the midst of it stays in PULL (05_tracking R104). -/
theorem dumpTransition_of_pull (hp : (chanGet s k).st = .pull) (ht : (chanGet s k).takes = none) :
    (chanGet (dumpTransition k s) k).prev = (chanGet s k).prev ∧
      (chanGet (dumpTransition k s) k).st = if pulledIn (chanGet s k).pullWin then .track else .pull := by
  obtain ⟨hyes, hno⟩ := dumpTransition_pull hp
  by_cases hw : pulledIn (chanGet s k).pullWin
  · rw [hyes hw, if_pos hw, (toState_becomes (by decide) fun _ => ht).self]
    exact ⟨entering_track_prev s _, entering_st s .track _⟩
  · rw [hno hw, if_neg hw]
    exact ⟨rfl, hp⟩

/-! ### The command -/

/-- A channel after a hollow dump (05_tracking R99). -/
def coasting (c : Chan) : Chan :=
  { runOn c with hollow := c.hollow + 1, coast := some (c.coast.getD c.last.floor.toNat), dks := [], won := none, clPrev := none }

theorem hollowDump_eq (k : Nat) (s : State) : hollowDump k s = bump cTrkHollowDumps (chanSet k (coasting (chanGet s k)) s) := rfl

theorem chanRuns_st (h : chanRuns s k = true) : (chanGet s k).st ≠ .idle := by
  unfold chanRuns at h
  dsimp only at h
  intro e
  rw [e] at h
  simp at h

section
variable {ch : TrkChan} {d : DumpData} (hrun : chanRuns s ch.val = true) (hend : dumpEnd (chanGet s ch.val) ≤ (s.sky.tick : Rat))
include hrun hend

theorem exec_trackDump : exec (.trackDump ch d) s =
    .next (if d.samples < 2 * d.flagged ∨ d.samples = 0 then hollowDump ch.val s else fullDump ch.val d s) :=
  if_neg (by simp [hrun, hend])

/-- A hollow dump: the channel coasts at its last rates (05_tracking R99, log entry 75). -/
theorem trackDump_hollow (hd : d.samples < 2 * d.flagged ∨ d.samples = 0) : completes (.trackDump ch d) s fun t =>
    counted cTrkHollowDumps s t ∧ Becomes ch.val (coasting (chanGet s ch.val)) s t := by
  have hst : (coasting (chanGet s ch.val)).st ≠ .idle := chanRuns_st hrun
  have hexec := exec_trackDump (d := d) hrun hend
  rw [if_pos hd, hollowDump_eq] at hexec
  exact ⟨_, hexec, counted_bump_chanSet _ _ _ s, (becomes_chanSet hst s).around rfl (bump_trk _ _)⟩

/-- A full dump of a channel that takes over no other: the loops go on, coasting is over, and the pull-in may be (05_tracking R104, R106, R108). -/
theorem trackDump_full (hs : 0 < d.samples) (hd : 2 * d.flagged ≤ d.samples) (ht : (chanGet s ch.val).takes = none) :
    completes (.trackDump ch d) s fun t =>
      let c := chanGet s ch.val
      let p := carrierPrompt s c d
      let l := loopUpdate s c p d (dumpSpan c)
      let x := chanGet t ch.val
      (∀ j, j ≠ ch.val → chanGet t j = chanGet s j) ∧ loopPart x = ⟨0, none, dumpEnd c, l.1.fNco, l.1.codeRate, l.1.acc, l.1.vel⟩ ∧
      (c.st ≠ .pull → x.dumpNo = c.dumpNo + (roundEven (dumpCode c / (chanInfo c).period)).toNat) ∧
      (c.st = .pull → x.prev = some p ∧ x.st = if pulledIn ((l.2 :: c.pullWin).take 20) then .track else .pull) := by
  obtain ⟨y, slip, jump, hy, hfull⟩ := fullDump_updates ch.val d s
  obtain ⟨u, hu⟩ : ∃ u, u = bumpIf slip cTrkSlips (bumpIf jump cTrkBumpJumps (chanSet ch.val y s)) := ⟨_, rfl⟩
  have hset : Becomes ch.val y s u := hu ▸ (becomes_chanSet (hy.st.trans_ne (chanRuns_st hrun)) s).around rfl (by simp)
  obtain ⟨z, hz, hloops, hno⟩ := dumpTransition_keeps (s := u) (k := ch.val) (hset.self ▸ congrArg LoopPart.hollow hy.loops)
    (hset.self ▸ congrArg LoopPart.coast hy.loops) (hset.self ▸ hy.takes.trans ht)
  have hpull := dumpTransition_of_pull (s := u) (k := ch.val)
  rw [hset.self] at hloops hno hpull
  refine ⟨dumpTransition ch.val u, ?_, fun j hj => (hz.rest j hj).trans (hset.rest j hj), ?_, fun hst => ?_, fun hst => ?_⟩
  · rw [exec_trackDump hrun hend, if_neg (by omega), hfull, hu]
  · rw [hz.self, hloops, hy.loops]
  · rw [hz.self, hno (hy.st.trans_ne hst), hy.dumpNo]
  · obtain ⟨hprev, hstate⟩ := hpull (hy.st.trans hst) (hy.takes.trans ht)
    rw [hprev, hstate, hy.prev hst, hy.pullWin hst]
    exact ⟨rfl, rfl⟩

end

end Sys2Proof.Machine
end

section
/-!
SUPPORT. The timers of a channel and its C/N0 window (05_tracking R99, R103, R104, R105, R115).
-/

namespace Sys2Proof.Machine

variable {s : State} {c : Chan} {ch : TrkChan} {u : Nat}

/-! ### Timers -/

theorem since_eq_true {t n : Nat} (h : t + n ≤ s.sky.tick) : since s t n = true := decide_eq_true h

theorem canLose_st (h : canLose c = true) : c.st ≠ .idle := by
  intro e
  unfold canLose at h
  rw [e] at h
  simp at h

/-- COAST passes: the channel is lost (05_tracking R99). -/
theorem exec_coastExpiry (hrun : chanRuns s ch.val = true) (hl : canLose (chanGet s ch.val) = true) (hc : (chanGet s ch.val).coast = some u)
    (hu : u + 4915200 * cfg s trkCfgCoast < s.sky.tick) : exec (.coastExpiry ch) s = .next (loseChan ch.val s) := by
  have hlate : u + msTicks (10 * cfg s trkCfgCoast) < s.sky.tick := by
    unfold msTicks
    omega
  show execCoastExpiry ch s = _
  unfold execCoastExpiry
  rw [hc]
  exact congrArg Host.Outcome.next (if_pos ⟨hrun, hl, hlate⟩)

/-- LOSS_T passes below LOSS_CN0: the channel is lost (05_tracking R104). -/
theorem exec_lossTExpiry (hl : canLose (chanGet s ch.val) = true) (hc : (chanGet s ch.val).lossSince = some u)
    (hu : u + 491520000 * cfg s trkCfgLossT ≤ s.sky.tick) : exec (.lossTExpiry ch) s = .next (loseChan ch.val s) := by
  show execLossTExpiry ch s = _
  unfold execLossTExpiry
  dsimp only
  rw [hc]
  exact congrArg Host.Outcome.next (if_pos ⟨hl, since_eq_true (by unfold secTicks; omega)⟩)

theorem completes_of_loseChan {e : Instr} (h : exec e s = .next (loseChan ch.val s)) : completes e s fun t =>
    chanGet t ch.val = asLost s (chanGet s ch.val) ∧ counted cTrkLost s t ∧ ∀ j, j ≠ ch.val → chanGet t j = chanGet s j := by
  obtain ⟨hself, hrest⟩ := loseChan_becomes ch.val s
  exact ⟨_, h, hself, loseChan_counted ch.val s, hrest⟩

/-- The task of a pull-in that fails goes back to the end of its class (05_tracking R104, 04_acquisition R91). -/
def requeued (c : Chan) (s : State) : State := match c.task with | some x => enqueueTask x s | none => s

theorem exec_pullFail (hc : (chanGet s ch.val).st = .pull) (hu : (chanGet s ch.val).entered + 983040000 ≤ s.sky.tick) :
    exec (.pullFail ch) s = .next (requeued (chanGet s ch.val) (releaseChan ch.val (bump cTrkPullFail s))) := by
  show execPullFail ch s = _
  unfold execPullFail
  dsimp only
  rw [if_neg (by simp [hc, since_eq_true (n := secTicks 2) hu])]
  rfl

theorem only_requeued (c : Chan) (s : State) : only [.acq] s (requeued c s) := by
  unfold requeued
  split
  · exact Touches.only (touches_enqueueTask _) s
  · exact only_refl _ s

theorem requeued_acq (c : Chan) (s : State) : (c.task = none → (requeued c s).acq = s.acq) ∧
    ∀ x, c.task = some x → (requeued c s).acq = { s.acq with
      queue := (s.acq.queue.filter fun y => decide (y.cls ≤ x.cls)) ++ [x] ++ (s.acq.queue.filter fun y => decide (x.cls < y.cls)) } := by
  unfold requeued
  constructor
  · intro h
    rw [h]
  · intro x h
    rw [h]
    rfl

theorem pullFail_releases (hw : s.memWf) (hc : (chanGet s ch.val).st = .pull) (hu : (chanGet s ch.val).entered + 983040000 ≤ s.sky.tick) :
    completes (.pullFail ch) s fun t => chanGet t ch.val = {} ∧ counted cTrkPullFail s t ∧
      ((chanGet s ch.val).task = none → t.acq = s.acq) ∧ ∀ x, (chanGet s ch.val).task = some x → t.acq = { s.acq with
        queue := (s.acq.queue.filter fun y => decide (y.cls ≤ x.cls)) ++ [x] ++ (s.acq.queue.filter fun y => decide (x.cls < y.cls)) } := by
  have hwf : chansWf (bump cTrkPullFail s) := by
    rw [chansWf, bump_trk]
    exact hw.chans
  have hside := SetSide.of_releaseChan ch.val (bump cTrkPullFail s)
  have hacq : (releaseChan ch.val (bump cTrkPullFail s)).acq = s.acq := (hside.frame.kept .acq (by decide)).trans (bump_acq _ s)
  have honly := only_requeued (chanGet s ch.val) (releaseChan ch.val (bump cTrkPullFail s))
  refine ⟨_, exec_pullFail hc hu, ?_, ?_, hacq ▸ requeued_acq _ _⟩
  · rw [chanGet_congr (honly.kept .trk (by decide)), releaseChan_idle hwf]
  · exact counted_of_same (counted_bump cTrkPullFail s) rfl ((ctrGet_congr (honly.kept .ctr (by decide)) _).trans
      (hside.free _ ⟨by decide, by decide, by decide⟩ (by decide) (by decide)))

/-- A LOST channel past REACQ_S goes IDLE (05_tracking R104). -/
theorem reacqExpiry_releases (hw : s.memWf) (hc : (chanGet s ch.val).st = .lost)
    (hu : (chanGet s ch.val).entered + 491520000 * cfg s acqCfgReacqS ≤ s.sky.tick) : completes (.reacqExpiry ch) s fun t => chanGet t ch.val = {} := by
  have hlate : since s (chanGet s ch.val).entered (secTicks (cfg s acqCfgReacqS)) = true := since_eq_true (by unfold secTicks; omega)
  exact ⟨_, congrArg Host.Outcome.next (if_pos ⟨hc, .inl hlate⟩), releaseChan_idle hw.chans ch.val⟩

section
variable (hc : (chanGet s ch.val).st = .lock) (hsync : syncOpen (chanGet s ch.val) = false) (hen : cfgBAt s trkSigWeakEn (chanSig (chanGet s ch.val)) = true)
include hc hsync hen

/-- Two seconds of weakness call for the weak settings (05_tracking R105). -/
theorem exec_weakSwitch_on (hw : (chanGet s ch.val).weak = false) (hs : (chanGet s ch.val).weakSince = some u) (hu : u + 983040000 ≤ s.sky.tick) :
    exec (.weakSwitch ch) s = .next (chanSet ch.val { chanGet s ch.val with weakTo := some true } s) := by
  show execWeakSwitch ch s = _
  unfold execWeakSwitch
  dsimp only
  rw [if_neg (by simp [hc, hsync, hen]), hs]
  exact if_pos ⟨hw, since_eq_true (n := secTicks 2) hu⟩

/-- Two seconds of strength call for the others (05_tracking R105). -/
theorem exec_weakSwitch_off (hw : (chanGet s ch.val).weak = true) (hs : (chanGet s ch.val).strongSince = some u) (hu : u + 983040000 ≤ s.sky.tick) :
    exec (.weakSwitch ch) s = .next (chanSet ch.val { chanGet s ch.val with weakTo := some false } s) := by
  show execWeakSwitch ch s = _
  unfold execWeakSwitch
  dsimp only
  rw [if_neg (by simp [hc, hsync, hen]), if_neg (by simp [hw]), hs]
  exact if_pos ⟨hw, since_eq_true (n := secTicks 2) hu⟩

end

/-- A channel in FREQ enters TRACK after 2 s of strength (05_tracking R104). -/
theorem freqRecovery_becomes (hc : (chanGet s ch.val).st = .freq) (hs : (chanGet s ch.val).strongSince = some u) (hu : u + 983040000 ≤ s.sky.tick) :
    completes (.freqRecovery ch) s (Becomes ch.val { chanGet s ch.val with
      st := .track, entered := s.sky.tick, weak := false, weakTo := none, bumpWin := [] } s) := by
  refine ⟨toState .track ch.val s, ?_, ?_⟩
  · show execFreqRecovery ch s = _
    unfold execFreqRecovery
    dsimp only
    rw [hs]
    exact congrArg Host.Outcome.next (if_pos ⟨hc, since_eq_true (n := secTicks 2) hu⟩)
  · rw [← entering_track (by rw [hc]; decide)]
    exact toState_becomes (by decide) (fun e => ChanState.noConfusion e)

/-! ### C/N0 -/

/-- The C/N0 that a window of dumps gives, in dB-Hz (05_tracking R115). -/
def cnValue (c : Chan) : Rat :=
  let n : Rat := (c.cnWin.1 : Rat)
  let p2 := c.cnWin.2.1 / n
  let n2 := c.cnWin.2.2.1 / n
  let lin := quot (p2 - n2) (n2 * c.dumpT) / (chanInfo c).share
  if p2 ≤ n2 then 0 else 10 * Config.log10 lin

/-- Its Δ of the multipath metric (05_tracking R103). -/
def cnDelta (s : State) (c : Chan) : Rat :=
  if tapMm s (chanSig c) == 0 then 0 else quot c.cnWin.2.2.2.2 c.cnWin.2.2.2.1 - idealRho s (chanSig c)

/-- Multipath is suspected (05_tracking R103). -/
def cnSuspect (s : State) (c : Chan) : Bool :=
  !(tapMm s (chanSig c) == 0) && decide ((cfg s trkCfgMpThr : Rat) / 100 < absQ (cnDelta s c)) && decide (35 ≤ cnValue c)

/-- The channel that a full window leaves: its C/N0, the timers that this moves and a window that starts afresh (05_tracking R103, R104, R105, R115). -/
def measured (s : State) (c : Chan) : Chan :=
  { c with
    cn0 := some (cnValue c), delta := cnDelta s c, mp := cnSuspect s c, cnWin := (0, 0, 0, 0, 0), cnFrom := c.last,
    weakSince := timer s (decide (cnValue c < (cfg s trkCfgWeakCn0 : Rat))) c.weakSince,
    strongSince := timer s (decide ((cfg s trkCfgWeakCn0 : Rat) + (cfg s trkCfgWeakHyst : Rat) ≤ cnValue c)) c.strongSince,
    lossSince := timer s (decide (cnValue c < (cfg s trkCfgLossCn0 : Rat))) c.lossSince }

/-- No more signal than noise counts as 0 dB-Hz (05_tracking R115). -/
theorem cnValue_of_noise (h : c.cnWin.2.1 ≤ c.cnWin.2.2.1) : cnValue c = 0 :=
  if_pos (div_le_div_of_nonneg_right h (Nat.cast_nonneg _))

theorem cnValue_of_suspect : cnSuspect s c = true → 35 ≤ cnValue c ∧ (cfg s trkCfgMpThr : Rat) / 100 < absQ (cnDelta s c) := by
  intro h
  simp only [cnSuspect, Bool.and_eq_true, decide_eq_true_eq] at h
  obtain ⟨⟨-, hdelta⟩, hvalue⟩ := h
  exact ⟨hvalue, hdelta⟩

theorem timer_eq (p : Prop) [Decidable p] (o : Option Nat) : timer s (decide p) o = if p then some (o.getD s.sky.tick) else none := by
  simp [timer]

section
variable (hl : canLose (chanGet s ch.val) = true) (hn : 0 < (chanGet s ch.val).cnWin.1)
  (hw : (chanGet s ch.val).cnFrom + cnLength (chanGet s ch.val) / nominalRate ≤ (chanGet s ch.val).last)
include hl hn hw

theorem exec_cn0Update : exec (.cn0Update ch) s =
    .next (bumpIf (cnSuspect s (chanGet s ch.val) && !(chanGet s ch.val).mp) cTrkMpFlags (chanSet ch.val (measured s (chanGet s ch.val)) s)) :=
  if_neg (by simp [hl, hn.ne', hw])

theorem cn0Update_measures : completes (.cn0Update ch) s fun t => Becomes ch.val (measured s (chanGet s ch.val)) s t ∧
    ((chanGet s ch.val).mp = false → cnSuspect s (chanGet s ch.val) = true → counted cTrkMpFlags s t) := by
  have hst : (measured s (chanGet s ch.val)).st ≠ .idle := canLose_st hl
  refine ⟨_, exec_cn0Update hl hn hw, (becomes_chanSet hst s).around rfl (bumpIf_trk _ _ _), fun hmp hsus => ?_⟩
  rw [hmp, hsus]
  exact counted_bump_chanSet _ _ _ s

end

end Sys2Proof.Machine
end

section
/-!
OBLIGATION O37 (05_tracking): the dumps, the timers and the C/N0 window of a channel put together.
-/

namespace Sys2Proof.Machine

/-- Settles O37: each command by the channel that it leaves. -/
theorem channelsFollowTheirStates : Obligations.ChannelsFollowTheirStates := by
  refine fun s ch => ⟨fun d hrun hend => ⟨fun hd => ?_, fun hs hd ht => ?_⟩,
    fun u hrun hl hc hu => completes_of_loseChan (exec_coastExpiry hrun hl hc hu), pullFail_releases,
    fun u hl hc hu => completes_of_loseChan (exec_lossTExpiry hl hc hu), reacqExpiry_releases,
    fun hc hsync hen => ⟨fun u hw hs hu => ⟨_, exec_weakSwitch_on hc hsync hen hw hs hu, rfl⟩,
      fun u hw hs hu => ⟨_, exec_weakSwitch_off hc hsync hen hw hs hu, rfl⟩⟩,
    fun u hc hs hu => ?_, fun hl hn hw => ?_⟩
  · obtain ⟨t, hexec, hcount, hself, hrest⟩ := trackDump_hollow hrun hend hd
    refine ⟨t, hexec, hcount, hrest, ?_⟩
    dsimp only
    rw [hself]
    exact ⟨rfl, rfl, rfl, rfl, rfl, rfl, rfl, rfl⟩
  · obtain ⟨t, hexec, hrest, hloops, hno, hpull⟩ := trackDump_full hrun hend hs hd ht
    exact ⟨t, hexec, hrest, congrArg LoopPart.hollow hloops, congrArg LoopPart.coast hloops, congrArg LoopPart.last hloops,
      congrArg LoopPart.fNco hloops, congrArg LoopPart.codeRate hloops, congrArg LoopPart.acc hloops, congrArg LoopPart.vel hloops, hno, hpull⟩
  · obtain ⟨t, hexec, hself, hrest⟩ := freqRecovery_becomes hc hs hu
    exact ⟨t, hexec, hrest, hself⟩
  · obtain ⟨t, hexec, ⟨hself, hrest⟩, hcount⟩ := cn0Update_measures hl hn hw
    refine ⟨t, hexec, hrest, cnValue (chanGet s ch.val), ?_⟩
    rw [hself]
    exact ⟨rfl, cnValue_of_noise, cnValue_of_suspect, timer_eq _ _, timer_eq _ _, timer_eq _ _, hcount⟩

end Sys2Proof.Machine
end

section
/-!
SUPPORT. Array channels (05_tracking R121): what a spawn writes, and that a channel that is not free stays.
-/

namespace Sys2Proof.Machine

variable {s t u : State} {c : Chan} {g : SearchTarget} {j k : Nat}

/-- Channels that are not free are the same in `t` as in `s`. -/
def KeepsTaken (s t : State) : Prop := ∀ j, chanFree s j = false → chanGet t j = chanGet s j

theorem chanFree_congr (h : chanGet t j = chanGet s j) : chanFree t j = chanFree s j := by
  unfold chanFree
  rw [h]

theorem chanFree_of_st (h : (chanGet s j).st ≠ .idle) : chanFree s j = false := by simp [chanFree, h]

theorem KeepsTaken.refl (s : State) : KeepsTaken s s := fun _ _ => rfl

theorem KeepsTaken.trans (h : KeepsTaken s t) (h' : KeepsTaken t u) : KeepsTaken s u := fun j hj =>
  (h' j ((chanFree_congr (h j hj)).trans hj)).trans (h j hj)

theorem free_of_freeChan {role : ChanRole} (h : freeChan s role g = some k) : chanFree s k = true := by
  have hk := List.find?_some h
  rw [Bool.and_eq_true] at hk
  obtain ⟨-, hfree⟩ := hk
  exact hfree

/-- A write of a free channel keeps those that are not. -/
theorem Becomes.keepsTaken (h : Becomes k c s t) (hk : chanFree s k = true) : KeepsTaken s t := fun j hj => by
  refine h.rest j fun e => ?_
  rw [e, hk] at hj
  exact Bool.noConfusion hj

/-- The geometric delay of an antenna in s, none without a valid attitude (05_tracking R121). -/
def spawnShift (s : State) (g : SearchTarget) (a : Port) : Rat :=
  if attValid s then
    match viewOf s g.sat with
    | some v => vDot (antVec s a) (toBody s.sol.att (enuOf v.az v.elev)) / 1000 / lightSpeed
    | none => 0
  else 0

/-- The array channel of an antenna as it begins, with the replica of its navigation channel (05_tracking R121). -/
def spawned (s : State) (c : Chan) (g : SearchTarget) (a : Port) : Chan :=
  { c with
    st := .track, reserved := none, ant := a, combined := false, entered := s.sky.tick, bumpWin := [], weak := false, weakTo := none,
    tx := c.tx + spawnShift s g a, wchg := false, beam := false, beamOk := none, takes := none, task := none }

theorem spawnOne_becomes (hk : freeChan s .array g = some k) (c : Chan) (a : Port) : Becomes k (spawned s c g a) s (spawnOne c g s a) := by
  have hspawn : spawnOne c g s a = bump cTrkArraySpawns (chanSet k (spawned s c g a) s) := by
    unfold spawnOne
    rw [hk]
    rfl
  rw [hspawn]
  exact (becomes_chanSet ChanState.noConfusion s).around rfl (bump_trk _ _)

theorem spawnOne_keepsTaken (c : Chan) (g : SearchTarget) (s : State) (a : Port) : KeepsTaken s (spawnOne c g s a) := by
  cases hk : freeChan s .array g with
  | some k => exact (spawnOne_becomes hk c a).keepsTaken (free_of_freeChan hk)
  | none =>
    unfold spawnOne
    rw [hk]
    exact .refl s

theorem spawnAll_keepsTaken (c : Chan) (g : SearchTarget) (l : List Port) (s : State) : KeepsTaken s (l.foldl (spawnOne c g) s) :=
  foldl_relates .refl .trans (spawnOne_keepsTaken c g) l s

/-- The first antenna has the lowest free channel, and the antennas after it leave that alone. -/
theorem spawnAll_first (hk : freeChan s .array g = some k) (c : Chan) (a : Port) (l : List Port) :
    chanGet ((a :: l).foldl (spawnOne c g) s) k = spawned s c g a := by
  have h := (spawnOne_becomes hk c a).self
  have htaken : chanFree (spawnOne c g s a) k = false := chanFree_of_st (by rw [h]; exact ChanState.noConfusion)
  rw [List.foldl_cons, spawnAll_keepsTaken c g l _ k htaken, h]

/-- No signal that goes before `g` still lacks an array channel it could have (05_tracking R121). -/
def nothingBefore (s : State) (g : SearchTarget) : Prop :=
  ∀ x ∈ busyChans s, ∀ h, x.2.target = some h → spawns s x.1 x.2 = true → servedBefore s h g = true → lacking s h = [] ∨ freeChan s .array h = none

theorem exec_arraySpawn {ch : TrkChan} (hg : (chanGet s ch.val).target = some g) (hs : spawns s ch.val (chanGet s ch.val) = true)
    (hb : nothingBefore s g) : exec (.arraySpawn ch) s = .next ((lacking s g).foldl (spawnOne (chanGet s ch.val) g) s) := by
  show execArraySpawn ch s = _
  unfold execArraySpawn
  dsimp only
  rw [hg]
  refine if_neg ?_
  rintro (h | h)
  · rw [hs] at h
    exact Bool.noConfusion h
  · obtain ⟨x, hx, hw⟩ := List.any_eq_true.1 h
    split at hw
    · rename_i h hh
      simp only [Bool.and_eq_true] at hw
      obtain ⟨⟨⟨hsp, hbefore⟩, hlack⟩, hfree⟩ := hw
      obtain hnone | hnone := hb x hx h hh hsp hbefore
      · simp [hnone] at hlack
      · simp [hnone] at hfree
    · exact Bool.noConfusion hw

end Sys2Proof.Machine
end

section
/-!
SUPPORT. Beam channels (05_tracking R125, R127): a takeover begins, gives up and holds its signal back, and a channel on C returns to beam weights.
-/

namespace Sys2Proof.Machine

variable {s : State} {ch : TrkChan} {g : SearchTarget} {k : Nat}

/-- The beam channel as its takeover of channel `ch` begins (05_tracking R127). -/
def takingOver (s : State) (ch : TrkChan) (g : SearchTarget) : Chan :=
  let c := chanGet s ch.val
  let step := match stepAttitude s with | some att => weightArg s s.ary.band[(targetInfo g).band].weights g att | none => 0
  { c with
    st := .track, target := some g, reserved := none, combined := false, entered := s.sky.tick, bumpWin := [], weak := false, weakTo := none,
    cycles := c.cycles - step, beam := true, beamOk := some s.sky.tick, beamW := beamWeights s g, takes := some ch, takeAt := s.sky.tick, task := none }

theorem exec_beamTakeover (hg : (chanGet s ch.val).target = some g) (hc : beamCandidate s ch.val (chanGet s ch.val) = true)
    (hl : ∀ x ∈ busyChans s, beamCandidate s x.1 x.2 = true → (chanGet s ch.val).cn0.getD 0 ≤ x.2.cn0.getD 0) (hk : freeChan s .beam g = some k) :
    exec (.beamTakeover ch) s = .next (chanSet k (takingOver s ch g) s) := by
  have hlow : ((busyChans s).any fun x => beamCandidate s x.1 x.2 && decide (x.2.cn0.getD 0 < (chanGet s ch.val).cn0.getD 0)) = false := by
    refine List.any_eq_false.2 fun x hx h => ?_
    rw [Bool.and_eq_true, decide_eq_true_eq] at h
    obtain ⟨hcand, hlt⟩ := h
    exact absurd hlt (not_lt.2 (hl x hx hcand))
  show execBeamTakeover ch s = _
  unfold execBeamTakeover
  dsimp only
  rw [hg]
  dsimp only
  rw [if_neg (by simp [hc, hlow]), hk]
  rfl

/-- A signal is held back from beam channels until a tick (05_tracking R127). -/
def heldBack (g : SearchTarget) (tick : Nat) (s : State) : State :=
  { s with trk := { s.trk with beamHold := (g, tick) :: s.trk.beamHold.filter (fun h => h.1 != g && decide (s.sky.tick < h.2)) } }

theorem exec_beamTimeout (hg : (chanGet s ch.val).target = some g) (ht : (chanGet s ch.val).takes ≠ none)
    (hu : (chanGet s ch.val).takeAt + 983040000 ≤ s.sky.tick) :
    exec (.beamTimeout ch) s = .next (heldBack g (s.sky.tick + 29491200000) (chanSet ch.val {} s)) := by
  obtain ⟨n, hn⟩ := Option.ne_none_iff_exists'.1 ht
  show execBeamTimeout ch s = _
  unfold execBeamTimeout
  dsimp only
  rw [hn, hg]
  exact if_pos (since_eq_true (n := secTicks 2) hu)

theorem beamTimeout_drops (hw : s.memWf) (hg : (chanGet s ch.val).target = some g) (ht : (chanGet s ch.val).takes ≠ none)
    (hu : (chanGet s ch.val).takeAt + 983040000 ≤ s.sky.tick) : completes (.beamTimeout ch) s fun t =>
      Becomes ch.val {} s t ∧ (g, s.sky.tick + 29491200000) ∈ t.trk.beamHold := by
  obtain ⟨hself, hrest⟩ := becomes_idle hw.chans ch.val
  exact ⟨_, exec_beamTimeout hg ht hu, ⟨hself, hrest⟩, List.mem_cons_self⟩

/-- A step of the replica touches the carrier phase or the mark of the next latch only (05_tracking R109). -/
theorem replicaStep_becomes (h : (chanGet s k).st ≠ .idle) (old new : Option (List Cplx)) :
    ∃ q w, Becomes k { chanGet s k with cycles := q, wchg := w } s (replicaStep k old new s) := by
  have hset (q : Rat) (w : Bool) : Becomes k { chanGet s k with cycles := q, wchg := w } s (chanSet k { chanGet s k with cycles := q, wchg := w } s) :=
    becomes_chanSet (by exact h) s
  have hmark : Becomes k { chanGet s k with wchg := true } s (bump cTrkWeightUncorrected (chanSet k { chanGet s k with wchg := true } s)) :=
    (hset _ _).around rfl (bump_trk _ _)
  unfold replicaStep
  dsimp only
  split
  · exact ⟨_, _, rfl, fun _ _ => rfl⟩
  · split
    · split
      · exact ⟨_, _, hset _ _⟩
      · exact ⟨_, _, hmark⟩
    · exact ⟨_, _, hmark⟩

/-- A beam channel with its beam weights (05_tracking R125, R126). -/
def weighted (s : State) (g : SearchTarget) (c : Chan) : Chan := { c with beam := true, beamW := beamWeights s g }

theorem beamReturn_returns {u : Nat} (hg : (chanGet s ch.val).target = some g) (hr : chanRole s ch.val = .beam) (hc : (chanGet s ch.val).st ≠ .idle)
    (hb : (chanGet s ch.val).beam = false) (ha : beamAllowed s g = true) (hok : (chanGet s ch.val).beamOk = some u) (hu : u + 4915200000 ≤ s.sky.tick) :
    completes (.beamReturn ch) s fun t => (chanGet t ch.val).beam = true ∧ (chanGet t ch.val).st = (chanGet s ch.val).st ∧
      ∀ j, j ≠ ch.val → chanGet t j = chanGet s j := by
  obtain ⟨hself, hrest⟩ := becomes_chanSet (k := ch.val) (c := weighted s g (chanGet s ch.val)) hc s
  obtain ⟨q, w, hstep, hkeep⟩ := replicaStep_becomes (by rw [hself]; exact hc) s.ary.band[(targetInfo g).band].weights (beamWeights s g)
  rw [hself] at hstep
  refine ⟨_, ?_, by rw [hstep, weighted], by rw [hstep, weighted], fun j hj => (hkeep j hj).trans (hrest j hj)⟩
  show execBeamReturn ch s = _
  unfold execBeamReturn
  dsimp only
  rw [hok, hg]
  exact if_pos ⟨hr, hc, hb, ha, since_eq_true (n := secTicks 10) hu⟩

end Sys2Proof.Machine
end

section
/-!
OBLIGATION O38 (05_tracking): array and beam channels put together.
-/

namespace Sys2Proof.Machine

/-- Settles O38: a spawn by its first antenna and what it keeps, a beam channel by the write that each command makes. -/
theorem arrayAndBeamChannels : Obligations.ArrayAndBeamChannels := by
  refine fun s ch g hg => ⟨fun hs hb => ⟨fun hlack => ?_, fun a l k hlack hk => ?_⟩, fun hc hl k hk => ?_, fun hw ht hu => ?_,
    fun u hr hc hb ha hok hu => beamReturn_returns hg hr hc hb ha hok hu⟩
  · have hexec := exec_arraySpawn hg hs hb
    rw [hlack] at hexec
    exact ⟨s, hexec, rfl⟩
  · have hexec := exec_arraySpawn hg hs hb
    rw [hlack] at hexec
    refine ⟨_, hexec, ?_⟩
    dsimp only
    rw [spawnAll_first hk]
    refine ⟨rfl, rfl, hg, rfl, rfl, rfl, fun hatt => ?_, spawnAll_keepsTaken _ g _ s⟩
    simp [spawned, spawnShift, hatt]
  · obtain ⟨hself, hrest⟩ : Becomes k (takingOver s ch g) s (chanSet k (takingOver s ch g) s) := becomes_chanSet ChanState.noConfusion s
    refine ⟨_, exec_beamTakeover hg hc hl hk, hrest, ?_⟩
    rw [hself]
    exact ⟨rfl, rfl, rfl, rfl, rfl, rfl, rfl⟩
  · obtain ⟨t, hexec, ⟨hself, hrest⟩, hheld⟩ := beamTimeout_drops hw hg ht hu
    exact ⟨t, hexec, hself, hrest, hheld⟩

end Sys2Proof.Machine
end

section
/-!
SUPPORT. What measurements share (06_measurements R148, R149): a record enters the ring, records go to the host in turn, and counters that these leave alone.
-/

namespace Sys2Proof.Machine

variable {s t u : State} {j k : Nat}

/-- A state in which channels, the culvert and counters alone differ is an update of these. -/
theorem eq_of_only_channels (h : only [.trk, .obs, .ctr] s t) : t = { s with trk := t.trk, obs := t.obs, ctr := t.ctr } := by
  have e : ∀ x : Part, x ∉ [Part.trk, .obs, .ctr] → x.same s t := h.kept
  cases s; cases t
  simp only [State.mk.injEq, true_and]
  exact ⟨e .spt (by decide), e .ary (by decide), e .acq (by decide), e .msr (by decide), e .sol (by decide), e .snf (by decide), e .sky (by decide),
    e .lnk (by decide), e .rfc (by decide), e .aon (by decide), e .pmu (by decide), e .clk (by decide), e .boot (by decide), e .mode (by decide),
    e .hst (by decide), e .pld (by decide), e .basin (by decide), e .fresh (by decide), e .pending (by decide)⟩

/-! ### Records in turn -/

/-- A basin record of a class, a KIND and its content. -/
def recOne (s : State) (x : Nat × Nat × List Byte) : State := recB x.1 x.2.1 x.2.2 s

/-- Basin records in turn. -/
def recAll (l : List (Nat × Nat × List Byte)) (s : State) : State := l.foldl recOne s

theorem upToReports_recOne (s : State) (x : Nat × Nat × List Byte) : upToReports s (recOne s x) := upToReports_recB x.1 x.2.1 x.2.2 s

theorem upToReports_recAll (l : List (Nat × Nat × List Byte)) (s : State) : upToReports s (recAll l s) :=
  foldl_relates (R := upToReports) (f := recOne) (fun _ => rfl) upToReports_trans upToReports_recOne l s

theorem recorded_recOne (s : State) (x : Nat × Nat × List Byte) : recorded x.1 x.2.1 x.2.2 s (recOne s x) := recorded_recB rfl rfl rfl

/-- Each record enters the queue that the one before left. -/
theorem recordedAll_recAll (l : List (Nat × Nat × List Byte)) (s : State) : recordedAll l s (recAll l s) := by
  induction l generalizing s with
  | nil => rfl
  | cons x l ih =>
    have hkeep : only [.hst, .obs, .ctr] s (recOne s x) := only_recB x.1 x.2.1 x.2.2 s
    have hx := recorded_recOne s x
    have hl := ih (recOne s x)
    unfold recordedAll at hl ⊢
    unfold recorded at hx
    rw [hx, cfg_congr (hkeep.kept .boot (by decide)), stNow_congr (hkeep.kept .sky (by decide))] at hl
    exact hl

/-! ### The ring -/

theorem ringPut_msr (x : RingRec) (s : State) : (ringPut x s).msr = { s.msr with
    ring := (if x.isEpoch = true ∧ 16 ≤ ((unconsumed s x.st).filter RingRec.isEpoch).length then dropEpoch (unconsumed s x.st)
      else unconsumed s x.st) ++ [x] } := by
  unfold ringPut
  dsimp only
  rw [(only_bumpIf _ _ _).kept .msr (by decide)]
  simp only [Bool.and_eq_true, decide_eq_true_eq]

theorem ctrGet_ringPut (h : reportFree j) (hj : j ≠ cMsrRingOverrun) (x : RingRec) (s : State) : ctrGet (ringPut x s) j = ctrGet s j :=
  ctrGet_bumpIf_free h hj _ _

theorem ringPut_counted {x : RingRec} (hx : x.isEpoch = true) (hf : 16 ≤ ((unconsumed s x.st).filter RingRec.isEpoch).length) :
    counted cMsrRingOverrun s (ringPut x s) := by
  unfold ringPut
  dsimp only
  rw [hx, decide_eq_true hf]
  exact counted_bump cMsrRingOverrun { s with msr := _ }

theorem writeNav_unexported (h : cfgB u msrExportNavExport = false) (x : RingRec) (kind : Nat) (b : List Byte) :
    writeNav x kind b u = ringPut x u := if_neg (by simp [h])

theorem writeNav_exported (h : cfgB u msrExportNavExport = true) (x : RingRec) (kind : Nat) (b : List Byte) :
    writeNav x kind b u = recB 2 kind b (ringPut x u) := if_pos h

/-- A navigation or symbol record is the newest of the ring, and nothing else of the unit changes. -/
theorem writeNav_msr {x : RingRec} (hx : x.isEpoch = false) (kind : Nat) (b : List Byte) (s : State) :
    (writeNav x kind b s).msr = { s.msr with ring := unconsumed s x.st ++ [x] } := by
  have h := ringPut_msr x s
  rw [hx] at h
  cases he : cfgB s msrExportNavExport with
  | false =>
    rw [writeNav_unexported he]
    exact h
  | true =>
    rw [writeNav_exported he, (only_recB _ _ _ _).kept .msr (by decide)]
    exact h

theorem ctrGet_writeNav (h : reportFree j) (hj : j ≠ cMsrRingOverrun) (x : RingRec) (kind : Nat) (b : List Byte) (s : State) :
    ctrGet (writeNav x kind b s) j = ctrGet s j := by
  cases he : cfgB s msrExportNavExport with
  | false => rw [writeNav_unexported he, ctrGet_ringPut h hj]
  | true => rw [writeNav_exported he, ctrGet_recB_free h, ctrGet_ringPut h hj]

theorem writeNav_trk (x : RingRec) (kind : Nat) (b : List Byte) (s : State) : (writeNav x kind b s).trk = s.trk :=
  Touches.kept (touches_writeNav x kind b) .trk (by decide) s

theorem writeNav_sky (x : RingRec) (kind : Nat) (b : List Byte) (s : State) : (writeNav x kind b s).sky = s.sky :=
  Touches.kept (touches_writeNav x kind b) .sky (by decide) s

/-- Without NAV_EXPORT the host port stays. -/
theorem writeNav_hst (h : cfgB u msrExportNavExport = false) (x : RingRec) (kind : Nat) (b : List Byte) : (writeNav x kind b u).hst = u.hst := by
  rw [writeNav_unexported h]
  exact Touches.kept (touches_ringPut x) .hst (by decide) u

/-- With NAV_EXPORT the host gets a copy. -/
theorem writeNav_recorded (hb : u.boot = s.boot) (ht : stNow u = stNow s) (hq : u.hst = s.hst) (h : cfgB u msrExportNavExport = true) (x : RingRec)
    (kind : Nat) (b : List Byte) : recorded 2 kind b s (writeNav x kind b u) := by
  have hring := Touches.only (touches_ringPut x) u
  rw [writeNav_exported h]
  exact recorded_recB_of_stNow ((hring.kept .boot (by decide)).trans hb) ((stNow_congr (hring.kept .sky (by decide))).trans ht)
    ((hring.kept .hst (by decide)).trans hq)

theorem cfgB_congr (h : t.boot = s.boot) : cfgB t = cfgB s := by
  funext f
  unfold cfgB
  rw [cfg_congr h]

end Sys2Proof.Machine
end

section
/-!
SUPPORT. Station messages (06_measurements R151, R152): which records a second of them makes, in their order.
-/

namespace Sys2Proof.Machine

variable {s : State}

/-- 1006 with the antenna reference point in 0.1 mm (06_measurements R151). -/
def pointRecord (s : State) (x y z : Int) : Nat × Nat × List Byte :=
  (2, 0x0605, leBytes 2 (cfg s msrStationStnId) ++ leBytes 5 (twos 38 x) ++ leBytes 5 (twos 38 y) ++ leBytes 5 (twos 38 z) ++ leBytes 2 0)

/-- The configured point, or the basin position where there is a valid one (06_measurements R151). -/
def stationPoint (s : State) : Option (Int × Int × Int) :=
  if cfgB s msrStationArpSrc then refEcef s else some (cfgI s msrStationArpX, cfgI s msrStationArpY, cfgI s msrStationArpZ)

/-- 1006, where there is a point. -/
def pointRecords (s : State) : List (Nat × Nat × List Byte) :=
  match stationPoint s with | some q => [pointRecord s q.1 q.2.1 q.2.2] | none => []

theorem pointRecords_eq (s : State) : pointRecords s =
    if cfgB s msrStationArpSrc = false then [pointRecord s (cfgI s msrStationArpX) (cfgI s msrStationArpY) (cfgI s msrStationArpZ)]
    else match refEcef s with | some q => [pointRecord s q.1 q.2.1 q.2.2] | none => [] := by
  unfold pointRecords stationPoint
  cases cfgB s msrStationArpSrc <;> rfl

/-- The descriptors of MSR.STATION, one after the other (06_measurements R151). -/
def stationText (s : State) : List Byte :=
  match blockOf s 8 0x0613 with | some b => leBytes (4 * (b.words - 7)) (b.val / 2 ^ 224) | none => []

/-- A string with its length before it. -/
def leadingString (l : List Byte) : List Byte := l.take ((l.headD 0).toNat + 1)

/-- 1033 with the antenna's and the receiver's descriptor (06_measurements R151). -/
def descriptorRecord (s : State) : Nat × Nat × List Byte :=
  (2, 0x0606, leBytes 2 (cfg s msrStationStnId) ++ leadingString (stationText s) ++ [0] ++
    leadingString ((stationText s).drop (leadingString (stationText s)).length) ++ [2, 0x42, 0x30] ++ [0])

/-- 1230 with the biases of L1 C/A and L2 C/A (06_measurements R151). -/
def biasRecord (s : State) : Nat × Nat × List Byte :=
  (2, 0x0607, leBytes 2 (cfg s msrStationStnId) ++ [0x0A] ++ leBytes 2 (twos 16 (cfgI s msrStationGloL1Bias)) ++
    leBytes 2 (twos 16 (cfgI s msrStationGloL2Bias)))

/-- 1230, where GLO_BIAS_EN asks for it. -/
def biasRecords (s : State) : List (Nat × Nat × List Byte) := if cfgB s msrStationGloBiasEn = true then [biasRecord s] else []

/-- The station messages of a second in their order. -/
def stationRecords (s : State) : List (Nat × Nat × List Byte) := pointRecords s ++ [descriptorRecord s] ++ biasRecords s

/-- The second of station messages is marked as done. -/
def stationMarked (s : State) : State := { s with msr := { s.msr with stationS := some (stSec s) } }

/-- 1006 goes out, where there is a point. -/
def pointSent (s u : State) : State := match stationPoint s with | some (x, y, z) => recOne u (pointRecord s x y z) | none => u

/-- 1230 goes out, where GLO_BIAS_EN asks for it. -/
def biasSent (s u : State) : State := if cfgB s msrStationGloBiasEn then recOne u (biasRecord s) else u

theorem recAll_pointRecords (s u : State) : recAll (pointRecords s) u = pointSent s u := by
  unfold pointRecords pointSent
  cases stationPoint s <;> rfl

theorem recAll_biasRecords (s u : State) : recAll (biasRecords s) u = biasSent s u := by
  unfold biasRecords biasSent
  split <;> rfl

theorem recAll_append (l m : List (Nat × Nat × List Byte)) (s : State) : recAll (l ++ m) s = recAll m (recAll l s) := List.foldl_append

theorem recAll_stationRecords (s u : State) : recAll (stationRecords s) u = biasSent s (recOne (pointSent s u) (descriptorRecord s)) := by
  rw [stationRecords, recAll_append, recAll_append, recAll_pointRecords, recAll_biasRecords]
  rfl

theorem exec_stationMessages (hs : inService s = true) (he : cfgB s msrExportRtcmEn = true) (hp : cfg s msrStationStnPeriod ≠ 0)
    (hu : gnssUsable s = true) (hm : stSec s % cfg s msrStationStnPeriod = 0) (hn : s.msr.stationS ≠ some (stSec s)) :
    exec .stationMessages s = .next (recAll (stationRecords s) (stationMarked s)) := by
  rw [recAll_stationRecords]
  show execStationMessages s = _
  unfold execStationMessages
  rw [if_neg (by simp [hs, he, hp, hu, hm, hn])]
  rfl

/-- The station messages go out in their order, and the second is marked (06_measurements R151). -/
theorem stationMessages_records (hs : inService s = true) (he : cfgB s msrExportRtcmEn = true) (hp : cfg s msrStationStnPeriod ≠ 0)
    (hu : gnssUsable s = true) (hm : stSec s % cfg s msrStationStnPeriod = 0) (hn : s.msr.stationS ≠ some (stSec s)) :
    completes .stationMessages s fun t => upToReports (stationMarked s) t ∧ recordedAll (stationRecords s) s t :=
  ⟨_, exec_stationMessages hs he hp hu hm hn, upToReports_recAll _ _, recordedAll_recAll (stationRecords s) (stationMarked s)⟩

end Sys2Proof.Machine
end

section
/-!
SUPPORT. What a navigation unit's steps write (06_measurements R138, R143–R145): the results counted, the polarity, the time, the seed and the store, each by the
parts, the counters and the channel it moves.
-/

namespace Sys2Proof.Machine

variable {s t u : State} {c : Chan} {g : SearchTarget} {j k : Nat}

/-- The counters of a unit: neither a seed's nor one of those that records move. -/
abbrev unitFree (j : Nat) : Prop := reportFree j ∧ j ≠ cMsrRingOverrun ∧ j ≠ cSkySeeds

/-! ### Results of the check units -/

/-- One count more, then others, saturating. -/
theorem min_count_succ (a n m : Nat) : min (min (a + 1) m + n) m = min (a + (n + 1)) m := by omega

/-- A fold whose turn counts one value counts it as often as it occurs. -/
theorem raised_foldl {f : State → Nat → State} {i v : Nat}
    (hf : ∀ u r, ctrGet (f u r) i = if r = v then min (ctrGet u i + 1) (2 ^ 32 - 1) else ctrGet u i) (l : List Nat) (s : State)
    (hs : ctrGet s i ≤ 2 ^ 32 - 1) : raised i (l.count v) s (l.foldl f s) := by
  induction l generalizing s with
  | nil => exact (Nat.min_eq_left hs).symm
  | cons r l ih =>
    have hr := hf s r
    have hl := ih (f s r) (by rw [hr]; split <;> omega)
    unfold raised at hl ⊢
    rw [List.foldl_cons, hl, hr, List.count_cons]
    by_cases h : r = v
    · rw [if_pos h, if_pos (beq_iff_eq.2 h)]
      exact min_count_succ _ _ _
    · simp [h]

/-- The counter of a result (06_measurements R143). -/
def resultCounter (r : Nat) : Option Nat :=
  if r = 0 then some cMsrNavPass else if r = 1 then some cMsrNavCorrected else if r = 2 then some cMsrNavFail else none

/-- One result is counted. -/
def countResult (u : State) (r : Nat) : State := (resultCounter r).elim u fun i => bump i u

theorem countResults_eq (l : List Nat) (s : State) : countResults l s = l.foldl countResult s := by
  unfold countResults
  congr 1
  funext u r
  unfold countResult resultCounter
  (repeat' split) <;> rfl

theorem ctrGet_countResult (hj : reportFree j) (u : State) (r : Nat) :
    ctrGet (countResult u r) j = if resultCounter r = some j then min (ctrGet u j + 1) (2 ^ 32 - 1) else ctrGet u j := by
  unfold countResult
  cases h : resultCounter r with
  | none => rfl
  | some i =>
    by_cases e : i = j
    · rw [if_pos (congrArg some e), Option.elim_some, e]
      exact ctrGet_bump_self j u
    · rw [if_neg (fun q => e (Option.some.inj q))]
      exact ctrGet_bump_free hj (Ne.symm e) u

/-- The results of one kind raise their counter by as many as there are. -/
theorem raised_countResults {v : Nat} (hj : reportFree j) (hv : ∀ r, resultCounter r = some j ↔ r = v) (hs : ctrGet s j < 2 ^ 32) (l : List Nat) :
    raised j (l.count v) s (countResults l s) := by
  rw [countResults_eq]
  refine raised_foldl (fun u r => ?_) l s (Nat.le_sub_one_of_lt hs)
  rw [ctrGet_countResult hj]
  simp only [hv]

theorem ctrGet_countResults_of_other (hj : reportFree j) (hv : ∀ r, resultCounter r ≠ some j) (l : List Nat) (s : State) :
    ctrGet (countResults l s) j = ctrGet s j := by
  rw [countResults_eq]
  exact foldl_relates (R := fun s t : State => ctrGet t j = ctrGet s j) (fun _ => rfl) (fun h h' => h'.trans h)
    (fun u r => (ctrGet_countResult hj u r).trans (if_neg (hv r))) l s

/-! ### Polarity -/

/-- A channel after its data's polarity (06_measurements R138, R143). -/
def polarized (b : Bool) (c : Chan) : Chan :=
  if (chanInfo c).two then (if c.halfKnown ∧ b then { c with conflict := true } else c)
  else if c.half.isSome then c else { c with half := some b, halfAdj := b }

/-- Polarity moves the half cycle and its marks alone. -/
theorem polarized_eta (b : Bool) (c : Chan) : polarized b c =
    { c with half := (polarized b c).half, halfAdj := (polarized b c).halfAdj, conflict := (polarized b c).conflict } := by
  unfold polarized
  (repeat' split) <;> rfl

theorem polarized_resolves {b : Bool} (ht : (chanInfo c).two = false) (hh : c.half = none) : polarized b c = { c with half := some b, halfAdj := b } := by
  simp [polarized, ht, hh]

theorem polarized_conflicts (ht : (chanInfo c).two = true) (hk : c.halfKnown = true) : polarized true c = { c with conflict := true } := by
  simp [polarized, ht, hk]

theorem polarized_half_of_known {b : Bool} (h : c.half ≠ none) : (polarized b c).half = c.half := by
  unfold polarized
  rw [if_pos (Option.isSome_iff_ne_none.2 h)]
  (repeat' split) <;> rfl

/-- The conflict or the resolution counts, and an inverted resolution as an adjustment too (06_measurements R138, R143). -/
theorem polarityStep_eq (k : Nat) (b : Bool) (s : State) : polarityStep k b s =
    if (chanInfo (chanGet s k)).two then
      (if (chanGet s k).halfKnown ∧ b then bump cMsrPolarityConflict (chanSet k (polarized b (chanGet s k)) s) else s)
    else if (chanGet s k).half.isSome then s
    else bumpIf b cMsrHalfAdjust (bump cMsrHalfResolved (chanSet k (polarized b (chanGet s k)) s)) := by
  unfold polarityStep polarized
  dsimp only
  (repeat' split) <;> rfl

theorem becomes_refl (k : Nat) (s : State) : Becomes k (chanGet s k) s s := ⟨rfl, fun _ _ => rfl⟩

theorem polarityStep_becomes (hc : (chanGet s k).st ≠ .idle) (b : Bool) : Becomes k (polarized b (chanGet s k)) s (polarityStep k b s) := by
  have hst : (polarized b (chanGet s k)).st ≠ .idle := by
    rw [polarized_eta]
    exact hc
  have hset := becomes_chanSet (k := k) hst s
  have hkeep : polarized b (chanGet s k) = chanGet s k → Becomes k (polarized b (chanGet s k)) s s := fun e => by
    rw [e]
    exact becomes_refl k s
  rw [polarityStep_eq]
  split
  · split
    · exact hset.around rfl (bump_trk _ _)
    · exact hkeep (by simp [polarized, *])
  · split
    · exact hkeep (by simp [polarized, *])
    · exact hset.around rfl ((bumpIf_trk _ _ _).trans (bump_trk _ _))

theorem polarityStep_resolved {b : Bool} (ht : (chanInfo (chanGet s k)).two = false) (hh : (chanGet s k).half = none) :
    counted cMsrHalfResolved s (polarityStep k b s) := by
  rw [polarityStep_eq, if_neg (by simp [ht]), if_neg (by simp [hh])]
  exact counted_of_same (counted_bump_chanSet cMsrHalfResolved k _ s) rfl
    (ctrGet_bumpIf_free ⟨by decide, by decide, by decide⟩ (by decide) _ _)

theorem polarityStep_conflict (ht : (chanInfo (chanGet s k)).two = true) (hk : (chanGet s k).halfKnown = true) :
    counted cMsrPolarityConflict s (polarityStep k true s) := by
  rw [polarityStep_eq, if_pos ht, if_pos ⟨hk, rfl⟩]
  exact counted_bump_chanSet _ k _ s

theorem ctrGet_polarityStep (hj : reportFree j) (h1 : j ≠ cMsrPolarityConflict) (h2 : j ≠ cMsrHalfResolved) (h3 : j ≠ cMsrHalfAdjust) (k : Nat) (b : Bool)
    (s : State) : ctrGet (polarityStep k b s) j = ctrGet s j := by
  rw [polarityStep_eq]
  split
  · split
    · exact ctrGet_bump_free hj h1 _
    · rfl
  · split
    · rfl
    · exact (ctrGet_bumpIf_free hj h3 _ _).trans (ctrGet_bump_free hj h2 _)

/-! ### Time fields -/

/-- The transmit time nearest to a channel's that a decoded one leaves (06_measurements R144). -/
def decodedTx (c : Chan) (q : Rat) : Rat := c.tx + level2S c * (roundEven ((q - c.tx) / level2S c) : Int)

/-- Sky time gives a transmit time half a period or more away (06_measurements R144). -/
def towClash (s : State) (g : SearchTarget) (c : Chan) (q : Rat) : Bool :=
  match skyTx s (stOfTick s c.last) 0 c with
  | some y => decide (level2S c / 2 ≤ absQ (reduceHalf (decodedTx c q - y) (if g.sat.const = .glonass then 86400 else 604800)))
  | none => false

/-- A channel after time fields (06_measurements R144). -/
def timed (s : State) (g : SearchTarget) (q : Rat) (c : Chan) : Chan := if timeFieldsServe s g c then { c with tx := decodedTx c q, level := 3 } else c

theorem timed_eta (s : State) (g : SearchTarget) (q : Rat) (c : Chan) : timed s g q c = { c with tx := (timed s g q c).tx, level := (timed s g q c).level } := by
  unfold timed
  split <;> rfl

theorem timeStep_serves {q : Rat} (h : timeFieldsServe s g (chanGet s k) = true) : timeStep k g q s =
    bumpIf (towClash s g (chanGet s k) q) cMsrTowConflict (chanSet k { chanGet s k with tx := decodedTx (chanGet s k) q, level := 3 } s) :=
  if_neg (by simp [h])

theorem timeStep_idle {q : Rat} (h : timeFieldsServe s g (chanGet s k) = false) : timeStep k g q s = s := if_pos h

theorem timeStep_becomes (hc : (chanGet s k).st ≠ .idle) (q : Rat) : Becomes k (timed s g q (chanGet s k)) s (timeStep k g q s) := by
  unfold timed
  split
  · rename_i h
    rw [timeStep_serves h]
    exact (becomes_chanSet (k := k) (c := { chanGet s k with tx := _, level := 3 }) hc s).around rfl (bumpIf_trk _ _ _)
  · rename_i h
    rw [timeStep_idle (Bool.eq_false_iff.2 h)]
    exact becomes_refl k s

theorem timeStep_clash {q : Rat} (h : timeFieldsServe s g (chanGet s k) = true) (hclash : towClash s g (chanGet s k) q = true) :
    counted cMsrTowConflict s (timeStep k g q s) := by
  rw [timeStep_serves h, hclash]
  exact counted_bump_chanSet _ k _ s

theorem ctrGet_timeStep (hj : reportFree j) (h : j ≠ cMsrTowConflict) (k : Nat) (g : SearchTarget) (q : Rat) (s : State) :
    ctrGet (timeStep k g q s) j = ctrGet s j := by
  cases hf : timeFieldsServe s g (chanGet s k) with
  | true =>
    rw [timeStep_serves hf]
    exact ctrGet_bumpIf_free hj h _ _
  | false => rw [timeStep_idle hf]

/-- Time fields and sky time read neither the channels nor the counters, and of a channel neither its half cycle nor its marks. -/
theorem timeFieldsServe_congr (h : only [.trk, .obs, .ctr] s t) (g : SearchTarget) (c : Chan) : timeFieldsServe t g c = timeFieldsServe s g c := by
  rw [eq_of_only_channels h]
  rfl

theorem towClash_congr (h : only [.trk, .obs, .ctr] s t) (g : SearchTarget) (c : Chan) (q : Rat) : towClash t g c q = towClash s g c q := by
  rw [eq_of_only_channels h]
  rfl

/-! ### Seeds -/

/-- A seed of this uncertainty is taken (09_sky_time R221). -/
def seedServes (s : State) (unc : Rat) : Prop :=
  s.mode.aligned = false ∧ s.sky.run ∧ (match uncNs s with | none => true | some u => decide (unc < u)) = true

/-- The seed in hand is replaced. -/
def seeded (value unc : Rat) (s : State) : State := { s with sky := { s.sky with seed := some ⟨value, unc, s.sky.tick⟩ } }

theorem offerSeed_taken {value unc : Rat} (h : seedServes s unc) : offerSeed value unc s = publishSky (bump cSkySeeds (seeded value unc s)) := if_pos h

theorem offerSeed_refused {value unc : Rat} (h : ¬ seedServes s unc) : offerSeed value unc s = s := if_neg h

theorem offerSeed_sky (value unc : Rat) (s : State) [Decidable (seedServes s unc)] : (offerSeed value unc s).sky =
    if seedServes s unc then { s.sky with seed := some ⟨value, unc, s.sky.tick⟩ } else s.sky := by
  split
  · rw [offerSeed_taken ‹_›, publishSky, basinPut_sky, (only_bump _ _).kept .sky (by decide)]
    rfl
  · rw [offerSeed_refused ‹_›]

theorem ctrGet_offerSeed (hj : reportFree j) (h : j ≠ cSkySeeds) (value unc : Rat) (s : State) : ctrGet (offerSeed value unc s) j = ctrGet s j := by
  by_cases hs : seedServes s unc
  · rw [offerSeed_taken hs, publishSky, ctrGet_congr (basinPut_ctr _ _ _), ctrGet_bump_free hj h]
    rfl
  · rw [offerSeed_refused hs]

/-- A seed leaves ST as it was. -/
theorem stNow_offerSeed (value unc : Rat) (s : State) : stNow (offerSeed value unc s) = stNow s := by
  classical
  refine stNow_of_segment ?_ ?_ <;> rw [offerSeed_sky] <;> split <;> rfl

theorem offerSeed_sky_congr (h : only [.trk, .obs, .ctr] s t) (value unc : Rat) : (offerSeed value unc t).sky = (offerSeed value unc s).sky := by
  classical
  rw [offerSeed_sky, offerSeed_sky, eq_of_only_channels h]
  rfl

end Sys2Proof.Machine
end

section
/-!
SUPPORT. The ephemeris and almanac store after a unit (06_measurements R145, 07_solver R161, R162): a change of one satellite's entry keeps the others', and
the issue and the leap-second count of a unit are the newest.
-/

namespace Sys2Proof.Machine

variable {s t u : State} {f : EphEntry → EphEntry} {v w : SatId}

/-- The entry of a satellite of which the store holds nothing. -/
def blankEntry (v : SatId) : EphEntry := ⟨v, [], none, none, false, []⟩

/-- What the store holds before a change of a satellite's entry. -/
def ephListed (v : SatId) (s : State) : List EphEntry := if (ephOf s v).isSome then s.msr.eph else s.msr.eph ++ [blankEntry v]

theorem modEph_eph (v : SatId) (f : EphEntry → EphEntry) (s : State) :
    (modEph v f s).msr.eph = (ephListed v s).map fun e => if e.sat = v then f e else e := rfl

/-- A change that keeps satellites changes the entry that is found. -/
theorem ephOf_modEph (hf : ∀ e, (f e).sat = e.sat) (s : State) :
    ephOf (modEph v f s) w = ((ephListed v s).find? fun e => e.sat == w).map fun e => if e.sat = v then f e else e := by
  unfold ephOf
  rw [modEph_eph, List.find?_map]
  congr 2
  funext e
  show ((if e.sat = v then f e else e).sat == w) = (e.sat == w)
  split
  · rw [hf]
  · rfl

theorem find_ephListed {e : EphEntry} (h : ephOf s w = some e) (v : SatId) : ((ephListed v s).find? fun e => e.sat == w) = some e := by
  unfold ephOf at h
  unfold ephListed
  split
  · exact h
  · rw [List.find?_append, h]
    rfl

/-- The satellite's own entry is there to be changed. -/
theorem find_ephListed_self (v : SatId) (s : State) : ∃ e, ((ephListed v s).find? fun e => e.sat == v) = some e ∧ e.sat = v := by
  cases h : ephOf s v with
  | some e => exact ⟨e, find_ephListed h v, by simpa using List.find?_some h⟩
  | none =>
    refine ⟨blankEntry v, ?_, rfl⟩
    unfold ephOf at h
    rw [ephListed, ephOf, h, if_neg (by simp), List.find?_append, h]
    simp [blankEntry]

/-- The newest issue that the store holds of a satellite. -/
def headIssue (s : State) (v : SatId) : Option Nat := (ephOf s v).bind fun e => e.issues.head?.map (·.iod)

theorem exists_of_headIssue {i : Nat} (h : headIssue s v = some i) : ∃ e, ephOf s v = some e ∧ e.issues.head?.map (·.iod) = some i := by
  obtain ⟨e, he, hi⟩ := Option.bind_eq_some_iff.1 h
  exact ⟨e, he, hi⟩

theorem headIssue_addIssue (v : SatId) (i : Issue) (s : State) : headIssue (modEph v (addIssue i) s) v = some i.iod := by
  obtain ⟨e, he, hv⟩ := find_ephListed_self v s
  unfold headIssue
  rw [ephOf_modEph (f := addIssue i) (fun _ => rfl), he, Option.map_some, if_pos hv]
  show (addIssue i e).issues.head?.map (·.iod) = _
  unfold addIssue
  dsimp only
  split <;> rfl

/-- A change that keeps satellites and issues keeps the newest issue. -/
theorem headIssue_modEph {i : Nat} (hsat : ∀ e, (f e).sat = e.sat) (hiss : ∀ e, (f e).issues = e.issues) (h : headIssue s w = some i) (v : SatId) :
    headIssue (modEph v f s) w = some i := by
  obtain ⟨e, he, hi⟩ := exists_of_headIssue h
  unfold headIssue
  rw [ephOf_modEph hsat, find_ephListed he v, Option.map_some, Option.bind_some, ← hi]
  split
  · rw [hiss]
  · rfl

theorem setHealth_sat (h : Option Nat × Bool) (e : EphEntry) : (setHealth h e).sat = e.sat := by
  unfold setHealth
  split <;> rfl

theorem setHealth_issues (h : Option Nat × Bool) (e : EphEntry) : (setHealth h e).issues = e.issues := by
  unfold setHealth
  split <;> rfl

/-- An entry with this almanac. -/
def withAlmanac (b : List Bool) (e : EphEntry) : EphEntry := { e with almanac := some b }

/-- The newest issue of a unit that brings one is this. -/
theorem headIssue_storeUnit {g : SearchTarget} {c : NavContent} {i a b : Nat} {l : List Bool} (h : c.issue = some (i, a, b, l)) (s : State) :
    headIssue (storeUnit g c s) g.sat = some i := by
  unfold storeUnit
  rw [h]
  refine List.foldlRecOn c.almanac _ (motive := fun u => headIssue u g.sat = some i) ?_
    fun u hu x _ => headIssue_modEph (f := withAlmanac x.2) (fun _ => rfl) (fun _ => rfl) hu x.1
  refine List.foldlRecOn c.health _ (motive := fun u => headIssue u g.sat = some i) ?_
    fun u hu x _ => headIssue_modEph (setHealth_sat x) (setHealth_issues x) hu g.sat
  exact headIssue_addIssue g.sat ⟨i, a, b, l⟩ s

/-- The leap-second count of a unit of GPS, Galileo or BeiDou is held (06_measurements R134). -/
theorem storeUnit_leap {g : SearchTarget} {c : NavContent} {n : Nat} (hl : c.leap = some n)
    (hk : g.sat.const = .gps ∨ g.sat.const = .galileo ∨ g.sat.const = .beidou) (s : State) : (storeUnit g c s).msr.leap = some n := by
  unfold storeUnit
  rw [hl]
  exact if_pos hk

/-- The farm's bits are not of the store. -/
theorem keepBits_msr (g : SearchTarget) (u : NavUnit) (bits : List Bool) (s : State) :
    (keepBits g u bits s).msr = { s.msr with lnav := (keepBits g u bits s).msr.lnav } := by
  unfold keepBits
  split <;> rfl

end Sys2Proof.Machine
end

section
/-!
SUPPORT. A navigation unit from its results to its record (06_measurements R142–R147): the states that its steps go through, and what each passes on.
-/

namespace Sys2Proof.Machine

variable {s t u : State} {c : Chan} {g : SearchTarget} {j k : Nat} {x : NavUnit}

/-- The unit's results. -/
def unitResults (g : SearchTarget) (x : NavUnit) : List Nat := (checkUnit g.sig x).2

/-- Some result is good. -/
def unitSome (g : SearchTarget) (x : NavUnit) : Bool := (unitResults g x).any resultOk

/-- Every result is good. -/
def unitAll (g : SearchTarget) (x : NavUnit) : Bool := (unitResults g x).all resultOk

/-- The results of its time fields are good (06_measurements R144). -/
def unitTime (g : SearchTarget) (x : NavUnit) : Bool := (timeWords g.sig).all fun i => resultOk ((unitResults g x).getD i 2)

/-- The record of a unit (06_measurements R147). -/
def unitRecord (k : Nat) (g : SearchTarget) (x : NavUnit) : List Byte :=
  navHeader k g x.stFirst (unitKindOf g.sig) (x.inverted == some true) (unitResults g x) (checkUnit g.sig x).1.length ++ packBits (checkUnit g.sig x).1

/-- The results are counted. -/
def unitCounted (g : SearchTarget) (x : NavUnit) (s : State) : State := countResults (unitResults g x) s

/-- Then the polarity acts. -/
def unitPolarized (k : Nat) (g : SearchTarget) (x : NavUnit) (s : State) : State :=
  match x.inverted with | some b => if unitSome g x then polarityStep k b (unitCounted g x s) else unitCounted g x s | none => unitCounted g x s

/-- Then the time fields. -/
def unitTimed (k : Nat) (g : SearchTarget) (x : NavUnit) (s : State) : State :=
  match x.content.txTime with | some q => if unitTime g x then timeStep k g q (unitPolarized k g x s) else unitPolarized k g x s | none => unitPolarized k g x s

/-- Then the seed. -/
def unitSeeded (k : Nat) (g : SearchTarget) (x : NavUnit) (s : State) : State :=
  if unitTime g x then seedFromUnit k g x.content.gpsTime (unitTimed k g x s) else unitTimed k g x s

/-- Then the store. -/
def unitStored (k : Nat) (g : SearchTarget) (x : NavUnit) (s : State) : State :=
  if unitAll g x then keepBits g x (checkUnit g.sig x).1 (storeUnit g x.content (unitSeeded k g x s)) else unitSeeded k g x s

/-- And the record is written. -/
def unitWritten (k : Nat) (g : SearchTarget) (x : NavUnit) (s : State) : State :=
  writeNav (.nav (stNow s) (unitRecord k g x)) 0x0602 (unitRecord k g x) (unitStored k g x s)

theorem exec_navCheckUnit {ch : TrkChan} (hg : (chanGet s ch.val).target = some g) (hn : isNavChan s ch.val = true)
    (hf : followed (chanGet s ch.val) = true) (hd : domOn s .msr = true) (hs : symbolsOnly g.sig = false) :
    exec (.navCheckUnit ch x) s = .next (unitWritten ch.val g x s) := by
  show execNavCheckUnit ch x s = _
  unfold execNavCheckUnit
  dsimp only
  rw [hg]
  exact if_neg (by simp [hn, hf, hd, hs])

/-! ### The parts that they touch -/

theorem only_unitCounted (g : SearchTarget) (x : NavUnit) (s : State) : only [.obs, .ctr] s (unitCounted g x s) := Touches.only (touches_countResults _) s

theorem only_unitPolarized (k : Nat) (g : SearchTarget) (x : NavUnit) (s : State) : only [.trk, .obs, .ctr] s (unitPolarized k g x s) := by
  have hcounted := only_mono (m := [.trk, .obs, .ctr]) (only_unitCounted g x s) (by decide)
  unfold unitPolarized
  split
  · split
    · exact only_trans hcounted (Touches.only (touches_polarityStep k _) _)
    · exact hcounted
  · exact hcounted

theorem only_unitTimed (k : Nat) (g : SearchTarget) (x : NavUnit) (s : State) : only [.trk, .obs, .ctr] s (unitTimed k g x s) := by
  have hpolarized := only_unitPolarized k g x s
  unfold unitTimed
  split
  · split
    · exact only_trans hpolarized (Touches.only (touches_timeStep k g _) _)
    · exact hpolarized
  · exact hpolarized

theorem only_unitSeeded (k : Nat) (g : SearchTarget) (x : NavUnit) (s : State) : only [.sky, .obs, .basin, .ctr] (unitTimed k g x s) (unitSeeded k g x s) := by
  unfold unitSeeded
  split
  · exact Touches.only (touches_seedFromUnit k g _) _
  · exact only_refl _ _

theorem only_unitStored (k : Nat) (g : SearchTarget) (x : NavUnit) (s : State) : only [.msr] (unitSeeded k g x s) (unitStored k g x s) := by
  unfold unitStored
  split
  · exact only_trans (Touches.only (touches_storeUnit g _) _) (Touches.only (touches_keepBits g x _) _)
  · exact only_refl _ _

theorem only_unitStored_all (k : Nat) (g : SearchTarget) (x : NavUnit) (s : State) : only [.trk, .msr, .sky, .obs, .basin, .ctr] s (unitStored k g x s) :=
  only_trans (only_mono (only_unitTimed k g x s) (by decide))
    (only_trans (only_mono (only_unitSeeded k g x s) (by decide)) (only_mono (only_unitStored k g x s) (by decide)))

/-! ### Sky time -/

/-- The satellites whose time fields seed GPS time (09_sky_time R221). -/
abbrev seedsTime (g : SearchTarget) : Prop := g.sat.const = .gps ∨ g.sat.const = .galileo ∨ (g.sat.const = .beidou ∧ isGeo g.sat = false)

theorem stNow_unitStored (k : Nat) (g : SearchTarget) (x : NavUnit) (s : State) : stNow (unitStored k g x s) = stNow s := by
  rw [stNow_congr ((only_unitStored k g x s).kept .sky (by decide)), ← stNow_congr ((only_unitTimed k g x s).kept .sky (by decide))]
  unfold unitSeeded seedFromUnit
  (repeat' split)
  · exact stNow_offerSeed _ _ _
  · rfl
  · rfl
  · rfl

theorem unitWritten_sky (k : Nat) (g : SearchTarget) (x : NavUnit) (s : State) : (unitWritten k g x s).sky = (unitSeeded k g x s).sky :=
  (writeNav_sky _ _ _ _).trans ((only_unitStored k g x s).kept .sky (by decide))

theorem unitSeeded_sky_none (h : x.content.gpsTime = none ∨ unitTime g x = false) (k : Nat) (s : State) : (unitSeeded k g x s).sky = s.sky := by
  have hnone : unitSeeded k g x s = unitTimed k g x s := by
    unfold unitSeeded
    obtain h | h := h
    · rw [h]
      exact ite_self _
    · exact if_neg (by simp [h])
  rw [hnone]
  exact (only_unitTimed k g x s).kept .sky (by decide)

/-! ### Its channel -/

/-- The channel after the polarity. -/
def polarizedBy (g : SearchTarget) (x : NavUnit) (c : Chan) : Chan :=
  match x.inverted with | some b => if unitSome g x then polarized b c else c | none => c

/-- The channel after the time fields. -/
def timedBy (s : State) (g : SearchTarget) (x : NavUnit) (c : Chan) : Chan :=
  match x.content.txTime with | some q => if unitTime g x then timed s g q c else c | none => c

theorem polarizedBy_eta (g : SearchTarget) (x : NavUnit) (c : Chan) : polarizedBy g x c =
    { c with half := (polarizedBy g x c).half, halfAdj := (polarizedBy g x c).halfAdj, conflict := (polarizedBy g x c).conflict } := by
  unfold polarizedBy
  (repeat' split)
  · exact polarized_eta _ c
  · rfl
  · rfl

theorem timedBy_eta (s : State) (g : SearchTarget) (x : NavUnit) (c : Chan) :
    timedBy s g x c = { c with tx := (timedBy s g x c).tx, level := (timedBy s g x c).level } := by
  unfold timedBy
  (repeat' split)
  · exact timed_eta s g _ c
  · rfl
  · rfl

theorem Becomes.trans {c' : Chan} (h : Becomes k c s t) (h' : Becomes k c' t u) : Becomes k c' s u := ⟨h'.self, fun j hj => (h'.rest j hj).trans (h.rest j hj)⟩

theorem unitPolarized_becomes (hc : (chanGet s k).st ≠ .idle) : Becomes k (polarizedBy g x (chanGet s k)) s (unitPolarized k g x s) := by
  have htrk : (unitCounted g x s).trk = s.trk := (only_unitCounted g x s).kept .trk (by decide)
  have hcounted : Becomes k (chanGet s k) s (unitCounted g x s) := (becomes_refl k s).around rfl htrk
  unfold unitPolarized polarizedBy
  split
  · split
    · rw [← chanGet_congr htrk] at hc ⊢
      exact hcounted.trans (polarityStep_becomes hc _)
    · exact hcounted
  · exact hcounted

theorem timed_congr (h : only [.trk, .obs, .ctr] s t) (g : SearchTarget) (q : Rat) (c : Chan) : timed t g q c = timed s g q c := by
  unfold timed
  rw [timeFieldsServe_congr h]

theorem unitTimed_becomes (hc : (chanGet s k).st ≠ .idle) : Becomes k (timedBy s g x (polarizedBy g x (chanGet s k))) s (unitTimed k g x s) := by
  have hpol := unitPolarized_becomes (g := g) (x := x) hc
  have hst : (chanGet (unitPolarized k g x s) k).st ≠ .idle := by
    rw [hpol.self, polarizedBy_eta]
    exact hc
  unfold unitTimed timedBy
  split
  · split
    · rw [← hpol.self, ← timed_congr (only_unitPolarized k g x s)]
      exact hpol.trans (timeStep_becomes hst _)
    · exact hpol
  · exact hpol

theorem unitWritten_trk (k : Nat) (g : SearchTarget) (x : NavUnit) (s : State) : (unitWritten k g x s).trk = (unitTimed k g x s).trk :=
  (writeNav_trk _ _ _ _).trans (((only_unitStored k g x s).kept .trk (by decide)).trans ((only_unitSeeded k g x s).kept .trk (by decide)))

theorem unitWritten_becomes (hc : (chanGet s k).st ≠ .idle) : Becomes k (timedBy s g x (polarizedBy g x (chanGet s k))) s (unitWritten k g x s) :=
  (unitTimed_becomes hc).around rfl (unitWritten_trk k g x s)

/-- A unit's seed is that of the last dump's end of its channel (09_sky_time R221). -/
theorem unitSeeded_sky (hc : (chanGet s k).st ≠ .idle) {q : Rat} (hq : x.content.gpsTime = some q) (ht : unitTime g x = true) (hg : seedsTime g) :
    (unitSeeded k g x s).sky = (offerSeed (q + 75 / 1000 - stOfTick s (chanGet s k).last) 15000000 s).sky := by
  have honly := only_unitTimed k g x s
  have hlast : (chanGet (unitTimed k g x s) k).last = (chanGet s k).last := by
    rw [(unitTimed_becomes hc).self, timedBy_eta, polarizedBy_eta]
  have hst : stOfTick (unitTimed k g x s) = stOfTick s := by
    unfold stOfTick
    rw [honly.kept .sky (by decide)]
  unfold unitSeeded seedFromUnit
  rw [if_pos ht, hq]
  dsimp only
  rw [if_pos hg, hlast, hst, offerSeed_sky_congr honly]

end Sys2Proof.Machine
end

section
/-!
SUPPORT. What a navigation unit leaves (06_measurements R142–R147): its counts, the store, the ring and the copy for the host.
-/

namespace Sys2Proof.Machine

variable {s t u : State} {c : Chan} {g : SearchTarget} {j k : Nat} {x : NavUnit}

/-! ### Counts -/

theorem ctrGet_unitPolarized (hj : reportFree j) (h1 : j ≠ cMsrPolarityConflict) (h2 : j ≠ cMsrHalfResolved) (h3 : j ≠ cMsrHalfAdjust) (k : Nat)
    (g : SearchTarget) (x : NavUnit) (s : State) : ctrGet (unitPolarized k g x s) j = ctrGet (unitCounted g x s) j := by
  unfold unitPolarized
  split
  · split
    · exact ctrGet_polarityStep hj h1 h2 h3 k _ _
    · rfl
  · rfl

theorem ctrGet_unitTimed (hj : reportFree j) (h : j ≠ cMsrTowConflict) (k : Nat) (g : SearchTarget) (x : NavUnit) (s : State) :
    ctrGet (unitTimed k g x s) j = ctrGet (unitPolarized k g x s) j := by
  unfold unitTimed
  split
  · split
    · exact ctrGet_timeStep hj h k g _ _
    · rfl
  · rfl

/-- After the time fields a unit counts none of its own. -/
theorem ctrGet_unitWritten (hj : unitFree j) (k : Nat) (g : SearchTarget) (x : NavUnit) (s : State) :
    ctrGet (unitWritten k g x s) j = ctrGet (unitTimed k g x s) j := by
  obtain ⟨hfree, hring, hseed⟩ := hj
  have hstored : ctrGet (unitStored k g x s) j = ctrGet (unitSeeded k g x s) j := ctrGet_congr ((only_unitStored k g x s).kept .ctr (by decide)) j
  refine (ctrGet_writeNav hfree hring _ _ _ _).trans (hstored.trans ?_)
  unfold unitSeeded seedFromUnit
  (repeat' split)
  · exact ctrGet_offerSeed hfree hseed _ _ _
  · rfl
  · rfl
  · rfl

/-- Each result counts in the counter of its kind (06_measurements R143). -/
theorem unitWritten_raised {v : Nat} (hv : ∀ r, resultCounter r = some j ↔ r = v) (hlo : cMsrRingOverrun < j) (hj : j ≤ cMsrNavFail)
    (hs : ctrGet s j < 2 ^ 32) : raised j ((unitResults g x).count v) s (unitWritten k g x s) := by
  have hne : ∀ {i}, cMsrNavFail < i → j ≠ i := fun hi => (Nat.lt_of_le_of_lt hj hi).ne
  have hlt : j < 256 := Nat.lt_of_le_of_lt hj (by decide)
  have hrep : reportFree j := ⟨hne (by decide), hne (by decide), .inl hlt⟩
  have hcount := raised_countResults (s := s) hrep hv hs (unitResults g x)
  unfold raised at hcount ⊢
  rw [ctrGet_unitWritten ⟨hrep, hlo.ne', hne (by decide)⟩, ctrGet_unitTimed hrep (hne (by decide)),
    ctrGet_unitPolarized hrep (hne (by decide)) (hne (by decide)) (hne (by decide))]
  exact hcount

theorem resultCounter_pass (r : Nat) : resultCounter r = some cMsrNavPass ↔ r = 0 := by
  unfold resultCounter
  (repeat' split) <;> simp_all [cMsrNavPass, cMsrNavCorrected, cMsrNavFail]

theorem resultCounter_corrected (r : Nat) : resultCounter r = some cMsrNavCorrected ↔ r = 1 := by
  unfold resultCounter
  (repeat' split) <;> simp_all [cMsrNavPass, cMsrNavCorrected, cMsrNavFail]

theorem resultCounter_fail (r : Nat) : resultCounter r = some cMsrNavFail ↔ r = 2 := by
  unfold resultCounter
  (repeat' split) <;> simp_all [cMsrNavPass, cMsrNavCorrected, cMsrNavFail]

/-- What counts from the results to the polarity counts for the unit. -/
theorem unitWritten_counted (hv : ∀ r, resultCounter r ≠ some j) (hj : unitFree j) (h : j ≠ cMsrTowConflict)
    (hcount : counted j (unitCounted g x s) (unitPolarized k g x s)) : counted j s (unitWritten k g x s) := by
  have ⟨hfree, _⟩ := hj
  exact counted_of_same hcount (ctrGet_countResults_of_other hfree hv _ s) ((ctrGet_unitWritten hj k g x s).trans (ctrGet_unitTimed hfree h k g x s))

/-- The other counters of a unit are no result's. -/
theorem resultCounter_ne (h : cMsrNavFail < j) (r : Nat) : resultCounter r ≠ some j := by
  unfold resultCounter
  (repeat' split) <;> simp_all [cMsrNavPass, cMsrNavCorrected, cMsrNavFail] <;> omega

theorem unitPolarized_of_some {b : Bool} (hb : x.inverted = some b) (hs : unitSome g x = true) :
    unitPolarized k g x s = polarityStep k b (unitCounted g x s) := by
  unfold unitPolarized
  rw [hb]
  exact if_pos hs

theorem polarizedBy_of_some {b : Bool} (hb : x.inverted = some b) (hs : unitSome g x = true) : polarizedBy g x c = polarized b c := by
  unfold polarizedBy
  rw [hb]
  exact if_pos hs

theorem chanGet_unitCounted (g : SearchTarget) (x : NavUnit) (s : State) (k : Nat) : chanGet (unitCounted g x s) k = chanGet s k :=
  chanGet_congr ((only_unitCounted g x s).kept .trk (by decide)) k

theorem unitWritten_resolved {b : Bool} (hb : x.inverted = some b) (hs : unitSome g x = true) (ht : (chanInfo (chanGet s k)).two = false)
    (hh : (chanGet s k).half = none) : counted cMsrHalfResolved s (unitWritten k g x s) := by
  refine unitWritten_counted (resultCounter_ne (by decide)) ⟨⟨by decide, by decide, by decide⟩, by decide, by decide⟩ (by decide) ?_
  rw [unitPolarized_of_some hb hs]
  rw [← chanGet_unitCounted g x] at ht hh
  exact polarityStep_resolved ht hh

theorem unitWritten_conflict (hb : x.inverted = some true) (hs : unitSome g x = true) (ht : (chanInfo (chanGet s k)).two = true)
    (hk : (chanGet s k).halfKnown = true) : counted cMsrPolarityConflict s (unitWritten k g x s) := by
  refine unitWritten_counted (resultCounter_ne (by decide)) ⟨⟨by decide, by decide, by decide⟩, by decide, by decide⟩ (by decide) ?_
  rw [unitPolarized_of_some hb hs]
  rw [← chanGet_unitCounted g x] at ht hk
  exact polarityStep_conflict ht hk

/-! ### Time fields -/

theorem timeFieldsServe_polarizedBy (s : State) (g : SearchTarget) (x : NavUnit) (c : Chan) :
    timeFieldsServe s g (polarizedBy g x c) = timeFieldsServe s g c := by
  rw [polarizedBy_eta]
  rfl

theorem decodedTx_polarizedBy (g : SearchTarget) (x : NavUnit) (c : Chan) (q : Rat) : decodedTx (polarizedBy g x c) q = decodedTx c q := by
  rw [polarizedBy_eta]
  rfl

theorem towClash_polarizedBy (s : State) (g : SearchTarget) (x : NavUnit) (c : Chan) (q : Rat) :
    towClash s g (polarizedBy g x c) q = towClash s g c q := by
  rw [polarizedBy_eta]
  rfl

section
variable {q : Rat} (hq : x.content.txTime = some q) (ht : unitTime g x = true)
include hq ht

theorem timedBy_serves (hf : timeFieldsServe s g c = true) :
    timedBy s g x (polarizedBy g x c) = { polarizedBy g x c with tx := decodedTx c q, level := 3 } := by
  rw [← timeFieldsServe_polarizedBy s g x c] at hf
  rw [← decodedTx_polarizedBy g x c q]
  unfold timedBy timed
  rw [hq, ht]
  exact if_pos hf

theorem unitWritten_clash (hc : (chanGet s k).st ≠ .idle) (hf : timeFieldsServe s g (chanGet s k) = true) (hclash : towClash s g (chanGet s k) q = true) :
    counted cMsrTowConflict s (unitWritten k g x s) := by
  have honly := only_unitPolarized k g x s
  have hself := (unitPolarized_becomes (g := g) (x := x) hc).self
  have hfree : reportFree cMsrTowConflict := ⟨by decide, by decide, by decide⟩
  rw [← timeFieldsServe_polarizedBy s g x, ← timeFieldsServe_congr honly, ← hself] at hf
  rw [← towClash_polarizedBy s g x, ← towClash_congr honly, ← hself] at hclash
  have hcount := timeStep_clash hf hclash
  have htimed : unitTimed k g x s = timeStep k g q (unitPolarized k g x s) := by
    unfold unitTimed
    rw [hq]
    exact if_pos ht
  rw [← htimed] at hcount
  refine counted_of_same hcount ?_ (ctrGet_unitWritten ⟨hfree, by decide, by decide⟩ k g x s)
  rw [ctrGet_unitPolarized hfree (by decide) (by decide) (by decide)]
  exact ctrGet_countResults_of_other hfree (resultCounter_ne (by decide)) _ s

end

theorem timedBy_idle (h : x.content.txTime = none ∨ unitTime g x = false ∨ timeFieldsServe s g c = false) :
    timedBy s g x (polarizedBy g x c) = polarizedBy g x c := by
  unfold timedBy timed
  rw [timeFieldsServe_polarizedBy]
  obtain h | h | h := h
  · rw [h]
  · rw [h]
    split <;> rfl
  · rw [h]
    split
    · exact ite_self _
    · rfl

theorem polarizedBy_half (h : x.inverted = none ∨ unitSome g x = false ∨ c.half ≠ none) : (polarizedBy g x c).half = c.half := by
  unfold polarizedBy
  obtain h | h | h := h
  · rw [h]
  · rw [h]
    split <;> rfl
  · split
    · split
      · exact polarized_half_of_known h
      · rfl
    · rfl

/-! ### The store, the ring and the host -/

theorem unitSeeded_msr (k : Nat) (g : SearchTarget) (x : NavUnit) (s : State) : (unitSeeded k g x s).msr = s.msr :=
  ((only_unitSeeded k g x s).kept .msr (by decide)).trans ((only_unitTimed k g x s).kept .msr (by decide))

theorem unitWritten_msr (k : Nat) (g : SearchTarget) (x : NavUnit) (s : State) : (unitWritten k g x s).msr = { (unitStored k g x s).msr with
    ring := unconsumed (unitStored k g x s) (stNow s) ++ [.nav (stNow s) (unitRecord k g x)] } := writeNav_msr rfl _ _ _

theorem unitWritten_ring (k : Nat) (g : SearchTarget) (x : NavUnit) (s : State) :
    (unitWritten k g x s).msr.ring.getLast? = some (.nav (stNow s) (unitRecord k g x)) := by
  rw [unitWritten_msr]
  exact List.getLast?_concat

theorem unitStored_of_all (h : unitAll g x = true) :
    unitStored k g x s = keepBits g x (checkUnit g.sig x).1 (storeUnit g x.content (unitSeeded k g x s)) := if_pos h

/-- A unit with a bad result leaves the store as it was (06_measurements R145). -/
theorem unitWritten_store_kept (h : unitAll g x = false) : (unitWritten k g x s).msr = { s.msr with ring := (unitWritten k g x s).msr.ring } := by
  rw [unitWritten_msr, unitStored, if_neg (by simp [h]), unitSeeded_msr]

theorem unitWritten_issue {i a b : Nat} {l : List Bool} (h : unitAll g x = true) (hi : x.content.issue = some (i, a, b, l)) :
    ∃ e, ephOf (unitWritten k g x s) g.sat = some e ∧ e.issues.head?.map (·.iod) = some i := by
  have heph : (unitWritten k g x s).msr.eph = (storeUnit g x.content (unitSeeded k g x s)).msr.eph := by
    rw [unitWritten_msr, unitStored_of_all h, keepBits_msr]
  have hhead := exists_of_headIssue (headIssue_storeUnit (g := g) hi (unitSeeded k g x s))
  unfold ephOf at hhead ⊢
  rwa [heph]

theorem unitWritten_leap {n : Nat} (h : unitAll g x = true) (hn : x.content.leap = some n)
    (hk : g.sat.const = .gps ∨ g.sat.const = .galileo ∨ g.sat.const = .beidou) : (unitWritten k g x s).msr.leap = some n := by
  have hleap := storeUnit_leap hn hk (unitSeeded k g x s)
  rw [unitWritten_msr, unitStored_of_all h, keepBits_msr]
  exact hleap

theorem cfgB_unitStored (k : Nat) (g : SearchTarget) (x : NavUnit) (s : State) : cfgB (unitStored k g x s) = cfgB s :=
  cfgB_congr ((only_unitStored_all k g x s).kept .boot (by decide))

theorem unitWritten_hst (h : cfgB s msrExportNavExport = false) : (unitWritten k g x s).hst = s.hst :=
  (writeNav_hst (by rwa [cfgB_unitStored]) _ _ _).trans ((only_unitStored_all k g x s).kept .hst (by decide))

theorem unitWritten_recorded (h : cfgB s msrExportNavExport = true) : recorded 2 0x0602 (unitRecord k g x) s (unitWritten k g x s) :=
  have honly := only_unitStored_all k g x s
  writeNav_recorded (honly.kept .boot (by decide)) (stNow_unitStored k g x s) (honly.kept .hst (by decide)) (by rwa [cfgB_unitStored]) _ _ _

end Sys2Proof.Machine
end

section
/-!
SUPPORT. The entries of an epoch (06_measurements R132, R136–R141): which channels give one, and what it says of its channel.
-/

namespace Sys2Proof.Machine

variable {s t u : State} {c : Chan} {k : Nat} {te : Rat} {e : MeasEntry}

/-! ### Predictions -/

/-- Bringing the predictions up to date moves nothing else. -/
theorem refreshViews_eta (s : State) : ∃ v, refreshViews s = { s with sol := { s.sol with view := v } } := by
  unfold refreshViews
  split
  · exact ⟨s.sol.view, rfl⟩
  · exact ⟨_, rfl⟩

/-- What does not read the predictions is the same after they are brought up to date. -/
theorem refreshViews_keeps {α : Type} (f : State → α) (hf : ∀ s v, f { s with sol := { s.sol with view := v } } = f s) (s : State) :
    f (refreshViews s) = f s := by
  obtain ⟨v, hv⟩ := refreshViews_eta s
  rw [hv, hf]

/-! ### What an epoch settles -/

/-- An epoch settles a channel's transmit time, its level and N0. -/
theorem settleChan_eta (s : State) (k : Nat) (te : Rat) (c : Chan) :
    settleChan s k te c = { c with tx := (settleChan s k te c).tx, level := (settleChan s k te c).level, n0 := (settleChan s k te c).n0 } := by
  unfold settleChan
  dsimp only
  (repeat' split) <;> rfl

/-- A level rises from 2 to 3 or stays. -/
theorem level_le_settleChan (s : State) (k : Nat) (te : Rat) (c : Chan) : c.level ≤ (settleChan s k te c).level := by
  unfold settleChan
  dsimp only
  (repeat' split) <;> simp [*]

/-- What an entry says of the channel that gives it (06_measurements R136–R141). -/
structure Measures (s : State) (te : Rat) (k : Nat) (c : Chan) (e : MeasEntry) : Prop where
  chan : e.chan = k
  target : c.target = some e.target
  cn0 : e.cn0 = c.cn0.getD 0
  coasting : e.coasting = decide (0 < c.hollow)
  dopValid : e.dopValid = !e.coasting
  prValid : e.prValid = true → 1 ≤ e.level ∧ e.coasting = false
  phValid : e.phValid = true → c.st = .lock ∧ e.level = 3 ∧ e.coasting = false
  level : c.level ≤ e.level
  doppler : e.doppler = (chanCarrier c + c.fNco) * (nominalRate / s.sky.seg.rate) - chanCarrier c
  lockMs : ∀ q, c.lockTick = some q → e.lockMs = ((latchTick s te - q) / 491520).floor.toNat
  restart : e.restart = c.restarted
  wchg : e.wchg = c.wchg
  halfAdj : e.halfAdj = c.halfAdj
  mp : e.mp = c.mp

theorem entryOf_measures (h : entryOf s te k c = some e) : Measures s te k c e := by
  unfold entryOf at h
  split at h
  · exact absurd h (by simp)
  · rename_i g hg
    cases h
    exact {
      chan := rfl
      target := hg
      cn0 := rfl
      coasting := rfl
      dopValid := rfl
      prValid := by simp
      phValid := by
        simp only [Bool.and_eq_true, beq_iff_eq, decide_eq_true_eq, Bool.not_eq_true']
        rintro ⟨⟨⟨hst, hlevel⟩, -⟩, hcoast⟩
        exact ⟨hst, hlevel, hcoast⟩
      level := Nat.le_refl _
      doppler := rfl
      lockMs := fun q hq => by rw [hq]
      restart := rfl
      wchg := rfl
      halfAdj := rfl
      mp := rfl }

theorem entryOf_isSome (s : State) (te : Rat) (k : Nat) (h : c.target ≠ none) : ∃ e, entryOf s te k c = some e := by
  unfold entryOf
  split
  · exact absurd ‹_› h
  · exact ⟨_, rfl⟩

/-- An entry of the settled channel is one of the channel. -/
theorem Measures.of_settleChan (h : Measures s te k (settleChan s k te c) e) : Measures s te k c e := by
  have hlevel := (level_le_settleChan s k te c).trans h.level
  rw [settleChan_eta] at h
  exact { h with level := hlevel }

theorem followed_settleChan (s : State) (k : Nat) (te : Rat) (c : Chan) : followed (settleChan s k te c) = followed c := by
  rw [settleChan_eta]
  rfl

/-! ### The channels of an epoch -/

/-- The channels that latch, settled where they are followed (06_measurements R132). -/
def settledChans (s : State) (te : Rat) : List (Nat × Chan) :=
  ((busyChans s).filter fun x => bankOn s x.1).map fun x => (x.1, if followed x.2 then settleChan s x.1 te x.2 else x.2)

/-- The entries of an epoch. -/
def epochEntries (s : State) (te : Rat) : List MeasEntry := ((settledChans s te).filter fun x => followed x.2).filterMap fun x => entryOf s te x.1 x.2

theorem mem_settledChans {x : Nat × Chan} (s : State) (te : Rat) : x ∈ settledChans s te ↔
    ∃ c, (x.1, c) ∈ busyChans s ∧ bankOn s x.1 = true ∧ x.2 = if followed c then settleChan s x.1 te c else c := by
  unfold settledChans
  simp only [List.mem_map, List.mem_filter, Prod.exists]
  constructor
  · rintro ⟨k, c, ⟨hb, hon⟩, rfl⟩
    exact ⟨c, hb, hon, rfl⟩
  · rintro ⟨c, hb, hon, hx⟩
    exact ⟨x.1, c, ⟨hb, hon⟩, Prod.ext rfl hx.symm⟩

/-- An entry comes from a channel in TRACK, LOCK or FREQ on a bank with power, and each such channel that has a signal gives one. -/
theorem mem_epochEntries (s : State) (te : Rat) : e ∈ epochEntries s te ↔
    ∃ k c, (k, c) ∈ busyChans s ∧ bankOn s k = true ∧ followed c = true ∧ entryOf s te k (settleChan s k te c) = some e := by
  unfold epochEntries
  simp only [List.mem_filterMap, List.mem_filter, mem_settledChans]
  constructor
  · rintro ⟨x, ⟨⟨c, hb, hon, hx⟩, hf⟩, he⟩
    have hc : followed c = true := by
      by_contra hn
      rw [if_neg hn] at hx
      exact hn (hx ▸ hf)
    rw [hx, if_pos hc] at he
    exact ⟨x.1, c, hb, hon, hc, he⟩
  · rintro ⟨k, c, hb, hon, hc, he⟩
    exact ⟨(k, settleChan s k te c), ⟨⟨c, hb, hon, (if_pos hc).symm⟩, (followed_settleChan s k te c).trans hc⟩, he⟩

theorem epochEntries_measure (h : e ∈ epochEntries s te) :
    ∃ c, (e.chan, c) ∈ busyChans s ∧ followed c = true ∧ bankOn s e.chan = true ∧ Measures s te e.chan c e := by
  obtain ⟨k, c, hb, hon, hc, he⟩ := (mem_epochEntries s te).1 h
  have hm := (entryOf_measures he).of_settleChan
  obtain rfl := hm.chan
  exact ⟨c, hb, hc, hon, hm⟩

theorem exists_epochEntry {x : Nat × Chan} (hb : x ∈ busyChans s) (hf : followed x.2 = true) (hon : bankOn s x.1 = true) (ht : x.2.target ≠ none) (te : Rat) :
    ∃ e ∈ epochEntries s te, e.chan = x.1 := by
  have htarget : (settleChan s x.1 te x.2).target ≠ none := by
    rw [settleChan_eta]
    exact ht
  obtain ⟨e, he⟩ := entryOf_isSome s te x.1 htarget
  exact ⟨e, (mem_epochEntries s te).2 ⟨x.1, x.2, hb, hon, hf, he⟩, (entryOf_measures he).chan⟩

/-! ### The marks begin anew -/

/-- A channel whose marks were taken by an entry (05_tracking R109, 06_measurements R138, R140). -/
def unmarked (c : Chan) : Chan := { c with restarted := false, wchg := false, halfAdj := false }

/-- The channels are written with their marks taken. -/
def latchChans (l : List (Nat × Chan)) (s : State) : State := l.foldl (fun u x => chanSet x.1 (unmarked x.2) u) s

/-- Of channels that are not IDLE each has its marks taken. -/
theorem latchChans_unmarked {l : List (Nat × Chan)} (hl : ∀ x ∈ l, x.2.st ≠ .idle) (k : Nat) :
    ∀ s, (∃ x ∈ l, x.1 = k) ∨ unmarked (chanGet s k) = chanGet s k → unmarked (chanGet (latchChans l s) k) = chanGet (latchChans l s) k := by
  induction l with
  | nil =>
    rintro s (⟨x, hx, -⟩ | h)
    · exact absurd hx List.not_mem_nil
    · exact h
  | cons y l ih =>
    intro s h
    have hy := becomes_chanSet (k := y.1) (c := unmarked y.2) (hl y List.mem_cons_self) s
    refine ih (fun x hx => hl x (List.mem_cons_of_mem y hx)) (chanSet y.1 (unmarked y.2) s) ?_
    by_cases e : k = y.1
    · rw [e, hy.self]
      exact .inr rfl
    · rw [hy.rest k e]
      refine h.imp_left ?_
      rintro ⟨x, hx, hk⟩
      obtain rfl | hx := List.mem_cons.1 hx
      · exact absurd hk.symm e
      · exact ⟨x, hx, hk⟩

theorem settledChans_st {x : Nat × Chan} (h : x ∈ settledChans s te) : x.2.st ≠ .idle := by
  obtain ⟨c, hb, -, hx⟩ := (mem_settledChans s te).1 h
  have hc : c.st ≠ .idle := by simpa using (List.mem_filter.1 hb).2
  rw [hx]
  split
  · rw [settleChan_eta]
    exact hc
  · exact hc

/-- Every busy channel on a bank with power has its marks taken. -/
theorem latchChans_settled {x : Nat × Chan} (hb : x ∈ busyChans s) (hon : bankOn s x.1 = true) (te : Rat) (u : State) :
    unmarked (chanGet (latchChans (settledChans s te) u) x.1) = chanGet (latchChans (settledChans s te) u) x.1 :=
  latchChans_unmarked (fun _ => settledChans_st) x.1 u (.inl
    ⟨(x.1, if followed x.2 then settleChan s x.1 te x.2 else x.2), (mem_settledChans s te).2 ⟨x.2, hb, hon, rfl⟩, rfl⟩)

end Sys2Proof.Machine
end

section
/-!
SUPPORT. An epoch from its latches to its exports (06_measurements R132, R146, R148–R150): the record, the states that the epoch goes through and what each passes on.
-/

namespace Sys2Proof.Machine

variable {s t u : State} {j : Nat} {te : Rat} {r : EpochRec}

/-- The record of an epoch, in a state whose predictions are up to date (06_measurements R146). -/
def epochRecord (s : State) (te : Rat) : EpochRec := {
  t := te, int := intCode s, aligned := s.mode.aligned, clkStep := s.sky.clkStep, source := srcCode s.sky.source, usable := gnssUsable s, seq := s.msr.seq,
  unc := min 65535 (uncWord s),
  ants := ((List.finRange 4).filter fun a => (epochEntries s te).any fun e => e.role == .array && e.ant == a.val).map fun a => (a.val, antBlock s a),
  entries := epochEntries s te, rate := s.sky.seg.rate }

/-- The channels latch and the record is made. -/
def epochTaken (s : State) (te : Rat) : State :=
  let t := latchChans (settledChans s te) s
  { t with
    sky := { t.sky with clkStep := false },
    sol := { t.sol with
      resets := (resetsOf (epochEntries s te) ++ t.sol.resets).dedup, attResets := (resetsOf (epochEntries s te) ++ t.sol.attResets).dedup },
    msr := { t.msr with lastRec := some (epochRecord s te), lastEpoch := some te, seq := (s.msr.seq + 1) % 65536 } }

/-- It counts and enters the ring. -/
def epochPut (s : State) (te : Rat) : State := ringPut (.epoch (epochRecord s te)) (bump cMsrEpochs (epochTaken s te))

/-- The host gets its copies. -/
def epochExported (s : State) (te : Rat) : State := exportRtcm (epochRecord s te) (exportHrs (epochRecord s te) (epochPut s te))

/-- And MSR.STATUS shows it. -/
def epochShown (s : State) (te : Rat) : State := basinPut 0xE0B0 (leBytes 4 (msrStatus (epochExported s te))) (epochExported s te)

theorem exec_measurementEpoch (h : epochDue s = some te) : exec .measurementEpoch s = .next (epochShown (refreshViews s) te) := by
  show execMeasurementEpoch s = _
  unfold execMeasurementEpoch
  rw [h]
  rfl

/-! ### The exports -/

theorem ctrGet_exportHrs (hj : reportFree j) (r : EpochRec) (s : State) : ctrGet (exportHrs r s) j = ctrGet s j := by
  unfold exportHrs
  split
  · rfl
  · exact ctrGet_recB_free hj _ _ _ _

/-- RTCM_ACTIVE is set. -/
def rtcmSet (b : Bool) (s : State) : State := { s with msr := { s.msr with rtcmActive := b } }

/-- Splits of messages are counted. -/
def splitsCounted (n : Nat) (s : State) : State := (List.range n).foldl (fun u _ => bump cMsrRtcmSplit u) s

/-- A message's record, more to come after it or not (06_measurements R150). -/
def rtcmRecord (s : State) (r : EpochRec) (n : Nat) (m : (Nat × List MeasEntry) × Nat) : Nat × Nat × List Byte :=
  (2, 0x0604, msmBytes s r m.1.1 (decide (m.2 + 1 < n)) m.1.2)

/-- An epoch makes no RTCM messages, suppresses them, or counts their splits and sends them (06_measurements R150, R152). -/
theorem exportRtcm_cases (r : EpochRec) (s : State) : exportRtcm r s = s ∨ exportRtcm r s = bump cMsrRtcmSuppressed (rtcmSet false s) ∨
    ∃ b n l, exportRtcm r s = recAll l (splitsCounted n (rtcmSet b s)) := by
  unfold exportRtcm
  split
  · exact .inl rfl
  · split
    · exact .inr (.inl rfl)
    · exact .inr (.inr ⟨_, _, _, (List.foldl_map (f := rtcmRecord s r _) (g := recOne)).symm⟩)

theorem msr_of_upToReports (h : upToReports s t) : t.msr = s.msr := by
  rw [upToReports] at h
  rw [h]

/-- The RTCM messages move nothing of the unit but RTCM_ACTIVE. -/
theorem exportRtcm_msr (r : EpochRec) (s : State) : (exportRtcm r s).msr = { s.msr with rtcmActive := (exportRtcm r s).msr.rtcmActive } := by
  obtain h | h | ⟨b, n, l, h⟩ := exportRtcm_cases r s
  · rw [h]
  · rw [h, msr_of_upToReports (upToReports_bump _ _)]
    rfl
  · rw [h, msr_of_upToReports (upToReports_recAll _ _), splitsCounted, msr_of_upToReports (upToReports_bumps _ _ _)]
    rfl

theorem ctrGet_recAll (hj : reportFree j) (l : List (Nat × Nat × List Byte)) (s : State) : ctrGet (recAll l s) j = ctrGet s j :=
  List.foldlRecOn l recOne (motive := fun u => ctrGet u j = ctrGet s j) rfl fun _ hu _ _ => (ctrGet_recB_free hj _ _ _ _).trans hu

theorem ctrGet_splitsCounted (hj : reportFree j) (h : j ≠ cMsrRtcmSplit) (n : Nat) (s : State) : ctrGet (splitsCounted n s) j = ctrGet s j :=
  List.foldlRecOn (List.range n) _ (motive := fun u => ctrGet u j = ctrGet s j) rfl fun _ hu _ _ => (ctrGet_bump_free hj h _).trans hu

theorem ctrGet_exportRtcm (hj : reportFree j) (h1 : j ≠ cMsrRtcmSplit) (h2 : j ≠ cMsrRtcmSuppressed) (r : EpochRec) (s : State) :
    ctrGet (exportRtcm r s) j = ctrGet s j := by
  obtain h | h | ⟨b, n, l, h⟩ := exportRtcm_cases r s
  · rw [h]
  · rw [h, ctrGet_bump_free hj h2]
    rfl
  · rw [h, ctrGet_recAll hj, ctrGet_splitsCounted hj h1]
    rfl

/-! ### What an epoch leaves -/

theorem only_epochExported (s : State) (te : Rat) : only [.msr, .hst, .obs, .ctr] (epochTaken s te) (epochExported s te) := by
  refine only_trans (only_mono (only_bump cMsrEpochs _) (by decide)) (only_trans (only_mono (Touches.only (touches_ringPut _) _) (by decide))
    (only_trans (only_mono (Touches.only (touches_exportHrs (epochRecord s te)) _) (by decide)) (Touches.only (touches_exportRtcm (epochRecord s te)) _)))

theorem only_latchChans (l : List (Nat × Chan)) (s : State) : only [.trk] s (latchChans l s) :=
  foldl_relates (fun _ => only_refl _ _) only_trans (fun u x => Touches.only (touches_chanSet x.1 (unmarked x.2)) u) l s

/-- The epoch's own writes: channels, the resets of ambiguities, the unit and CLK_STEP. -/
theorem only_epochTaken (s : State) (te : Rat) : only [.trk, .msr, .sol, .sky] s (epochTaken s te) := by
  refine only_trans (t := latchChans (settledChans s te) s) (only_mono (only_latchChans _ s) (by decide)) fun x => ?_
  cases x <;> simp [Part.same, epochTaken]

theorem only_epochShown (s : State) (te : Rat) : only [.msr, .hst, .obs, .basin, .ctr] (epochTaken s te) (epochShown s te) :=
  only_trans (only_mono (only_epochExported s te) (by decide)) (only_mono (only_basinPut _ _ _) (by decide))

theorem epochShown_trk (s : State) (te : Rat) : (epochShown s te).trk = (latchChans (settledChans s te) s).trk :=
  (only_epochShown s te).kept .trk (by decide)

theorem epochShown_sky (s : State) (te : Rat) : (epochShown s te).sky = { s.sky with clkStep := false } := by
  rw [(only_epochShown s te).kept .sky (by decide), epochTaken, (only_latchChans _ s).kept .sky (by decide)]

theorem epochShown_sol (s : State) (te : Rat) : (epochShown s te).sol = { s.sol with
    resets := (resetsOf (epochEntries s te) ++ s.sol.resets).dedup, attResets := (resetsOf (epochEntries s te) ++ s.sol.attResets).dedup } := by
  rw [(only_epochShown s te).kept .sol (by decide), epochTaken, (only_latchChans _ s).kept .sol (by decide)]

theorem epochTaken_msr (s : State) (te : Rat) : (epochTaken s te).msr = { s.msr with
    lastRec := some (epochRecord s te), lastEpoch := some te, seq := (s.msr.seq + 1) % 65536 } := by
  rw [epochTaken, (only_latchChans _ s).kept .msr (by decide)]

/-! ### The ring -/

theorem unconsumed_congr (hp : t.pmu = s.pmu) (hr : t.msr.ring = s.msr.ring) (q : Rat) : unconsumed t q = unconsumed s q := by
  unfold unconsumed domOn domAt
  rw [hp, hr]

/-- Sixteen epochs are not consumed yet (06_measurements R148). -/
abbrev ringFull (s : State) (te : Rat) : Prop := 16 ≤ ((unconsumed s te).filter RingRec.isEpoch).length

theorem unconsumed_epochTaken (s : State) (te : Rat) : unconsumed (bump cMsrEpochs (epochTaken s te)) te = unconsumed s te := by
  have honly := only_trans (only_mono (m := [.trk, .msr, .sol, .sky, .obs, .ctr]) (only_epochTaken s te) (by decide))
    (only_mono (only_bump cMsrEpochs _) (by decide))
  refine unconsumed_congr (honly.kept .pmu (by decide)) ?_ te
  rw [(only_bump _ _).kept .msr (by decide), epochTaken_msr]

/-- The unit after an epoch: its record, the next number and the ring with the record as its newest. -/
theorem epochShown_msr (s : State) (te : Rat) : (epochShown s te).msr = { s.msr with
    lastRec := some (epochRecord s te), lastEpoch := some te, seq := (s.msr.seq + 1) % 65536,
    ring := (if ringFull s te then dropEpoch (unconsumed s te) else unconsumed s te) ++ [.epoch (epochRecord s te)],
    rtcmActive := (epochShown s te).msr.rtcmActive } := by
  rw [epochShown, basinPut_msr, epochExported, exportRtcm_msr, Touches.kept (touches_exportHrs _) .msr (by decide), epochPut, ringPut_msr,
    (only_bump _ _).kept .msr (by decide), epochTaken_msr]
  simp only [RingRec.isEpoch, RingRec.st, true_and, epochRecord, unconsumed_epochTaken]

theorem epochPut_ring_counted (h : ringFull s te) : counted cMsrRingOverrun (bump cMsrEpochs (epochTaken s te)) (epochPut s te) := by
  refine ringPut_counted rfl ?_
  rw [RingRec.st, epochRecord, unconsumed_epochTaken]
  exact h

/-! ### Counts and the basin view -/

theorem ctrGet_epochTaken (j : Nat) (s : State) (te : Rat) : ctrGet (epochTaken s te) j = ctrGet s j :=
  ctrGet_congr ((only_epochTaken s te).kept .ctr (by decide)) j

/-- After the ring, an epoch counts its messages alone. -/
theorem ctrGet_epochShown (hj : reportFree j) (h1 : j ≠ cMsrRtcmSplit) (h2 : j ≠ cMsrRtcmSuppressed) (s : State) (te : Rat) :
    ctrGet (epochShown s te) j = ctrGet (epochPut s te) j := by
  rw [epochShown, ctrGet_congr (basinPut_ctr _ _ _), epochExported, ctrGet_exportRtcm hj h1 h2, ctrGet_exportHrs hj]

theorem epochShown_ring_counted (h : ringFull s te) : counted cMsrRingOverrun s (epochShown s te) := by
  have hfree : reportFree cMsrRingOverrun := ⟨by decide, by decide, by decide⟩
  refine counted_of_same (epochPut_ring_counted h) ?_ (ctrGet_epochShown hfree (by decide) (by decide) s te)
  rw [ctrGet_bump_free hfree (by decide), ctrGet_epochTaken]

theorem epochShown_counted (s : State) (te : Rat) : counted cMsrEpochs s (epochShown s te) := by
  have hfree : reportFree cMsrEpochs := ⟨by decide, by decide, by decide⟩
  refine counted_of_same (counted_bump cMsrEpochs (epochTaken s te)) (ctrGet_epochTaken _ s te) ?_
  rw [ctrGet_epochShown hfree (by decide) (by decide), epochPut, ctrGet_ringPut hfree (by decide)]

theorem msrStatus_basinPut (a : Nat) (b : List Byte) (s : State) : msrStatus (basinPut a b s) = msrStatus s := rfl

theorem epochShown_status (h : Memory.wf basinDflt s.basin = true) (te : Rat) : shown 0xE0B0 (leBytes 4 (msrStatus (epochShown s te))) (epochShown s te) := by
  have honly := only_trans (only_mono (m := [.trk, .msr, .sol, .sky, .hst, .obs, .ctr]) (only_epochTaken s te) (by decide))
    (only_mono (only_epochExported s te) (by decide))
  rw [epochShown, msrStatus_basinPut]
  refine shown_basinPut _ ?_ (by decide)
  rw [honly.kept .basin (by decide)]
  exact h

end Sys2Proof.Machine
end

section
/-!
SUPPORT. An epoch from the state it is due in (06_measurements R132, R138, R140, R146, R148): its predictions brought up to date, it reads nothing else differently.
-/

namespace Sys2Proof.Machine

variable {s : State} {k : Nat} {c : Chan} {e : MeasEntry} {x : Nat × Chan} {te : Rat}

/-- The record of an epoch. -/
def epochRecordDue (s : State) (te : Rat) : EpochRec := epochRecord (refreshViews s) te

/-- What an epoch leaves. -/
def epochDone (s : State) (te : Rat) : State := epochShown (refreshViews s) te

@[simp] theorem refreshViews_sky (s : State) : (refreshViews s).sky = s.sky := Touches.kept touches_refreshViews .sky (by decide) s

@[simp] theorem refreshViews_msr (s : State) : (refreshViews s).msr = s.msr := Touches.kept touches_refreshViews .msr (by decide) s

@[simp] theorem refreshViews_mode (s : State) : (refreshViews s).mode = s.mode := Touches.kept touches_refreshViews .mode (by decide) s

@[simp] theorem refreshViews_basin (s : State) : (refreshViews s).basin = s.basin := Touches.kept touches_refreshViews .basin (by decide) s

@[simp] theorem ctrGet_refreshViews (j : Nat) (s : State) : ctrGet (refreshViews s) j = ctrGet s j :=
  ctrGet_congr (Touches.kept touches_refreshViews .ctr (by decide) s) j

@[simp] theorem busyChans_refreshViews (s : State) : busyChans (refreshViews s) = busyChans s := refreshViews_keeps busyChans (fun _ _ => rfl) s

@[simp] theorem bankOn_refreshViews (s : State) : bankOn (refreshViews s) = bankOn s := refreshViews_keeps bankOn (fun _ _ => rfl) s

@[simp] theorem unconsumed_refreshViews (s : State) : unconsumed (refreshViews s) = unconsumed s := refreshViews_keeps unconsumed (fun _ _ => rfl) s

theorem epochDone_msr (s : State) (te : Rat) : (epochDone s te).msr = { s.msr with
    lastRec := some (epochRecordDue s te), lastEpoch := some te, seq := (s.msr.seq + 1) % 65536,
    ring := (if ringFull s te then dropEpoch (unconsumed s te) else unconsumed s te) ++ [.epoch (epochRecordDue s te)],
    rtcmActive := (epochDone s te).msr.rtcmActive } := by
  have h := epochShown_msr (refreshViews s) te
  simp only [ringFull, refreshViews_msr, unconsumed_refreshViews] at h
  exact h

theorem epochDone_sky (s : State) (te : Rat) : (epochDone s te).sky = { s.sky with clkStep := false } := by
  rw [epochDone, epochShown_sky, refreshViews_sky]

theorem epochDone_sol (s : State) (te : Rat) : (epochDone s te).sol = { (refreshViews s).sol with
    resets := (resetsOf (epochRecordDue s te).entries ++ s.sol.resets).dedup,
    attResets := (resetsOf (epochRecordDue s te).entries ++ s.sol.attResets).dedup } := by
  rw [epochDone, epochShown_sol, refreshViews_keeps (fun u => u.sol.resets) (fun _ _ => rfl) s,
    refreshViews_keeps (fun u => u.sol.attResets) (fun _ _ => rfl) s]
  rfl

theorem epochDone_counted (s : State) (te : Rat) : counted cMsrEpochs s (epochDone s te) :=
  counted_of_same (epochShown_counted (refreshViews s) te) (ctrGet_refreshViews _ s) rfl

theorem epochDone_ring_counted (h : ringFull s te) : counted cMsrRingOverrun s (epochDone s te) := by
  rw [ringFull, ← unconsumed_refreshViews] at h
  exact counted_of_same (epochShown_ring_counted h) (ctrGet_refreshViews _ s) rfl

theorem epochDone_status (h : s.memWf) (te : Rat) : shown 0xE0B0 (leBytes 4 (msrStatus (epochDone s te))) (epochDone s te) := by
  obtain ⟨hbasin, -⟩ := h
  rw [← refreshViews_basin] at hbasin
  exact epochShown_status hbasin te

/-- The marks of every channel that latched begin anew. -/
theorem epochDone_unmarked (hx : x ∈ busyChans s) (hon : bankOn s x.1 = true) (te : Rat) :
    unmarked (chanGet (epochDone s te) x.1) = chanGet (epochDone s te) x.1 := by
  rw [← busyChans_refreshViews] at hx
  rw [← bankOn_refreshViews] at hon
  rw [epochDone, chanGet_congr (epochShown_trk _ te)]
  exact latchChans_settled hx hon te _

/-- An entry says the same of its channel, the predictions up to date or not. -/
theorem Measures.of_refreshViews (h : Measures (refreshViews s) te k c e) : Measures s te k c e := by
  have hdoppler := h.doppler
  have hlock := h.lockMs
  rw [refreshViews_sky] at hdoppler
  rw [refreshViews_keeps latchTick (fun _ _ => rfl) s] at hlock
  exact { h with doppler := hdoppler, lockMs := hlock }

theorem epochRecordDue_measures (h : e ∈ (epochRecordDue s te).entries) :
    ∃ c, (e.chan, c) ∈ busyChans s ∧ followed c = true ∧ bankOn s e.chan = true ∧ Measures s te e.chan c e := by
  obtain ⟨c, hb, hf, hon, hm⟩ := epochEntries_measure h
  rw [busyChans_refreshViews] at hb
  rw [bankOn_refreshViews] at hon
  exact ⟨c, hb, hf, hon, hm.of_refreshViews⟩

theorem exists_epochRecordDue (hx : x ∈ busyChans s) (hf : followed x.2 = true) (hon : bankOn s x.1 = true) (ht : x.2.target ≠ none) (te : Rat) :
    ∃ e ∈ (epochRecordDue s te).entries, e.chan = x.1 := by
  rw [← busyChans_refreshViews] at hx
  rw [← bankOn_refreshViews] at hon
  exact exists_epochEntry hx hf hon ht te

end Sys2Proof.Machine
end

section
/-!
SUPPORT. Symbol records (06_measurements R145, R147): a second of soft symbols leaves its channel for the ring and the host.
-/

namespace Sys2Proof.Machine

variable {s : State}

/-- The symbols of a second (06_measurements R147). -/
def symbolRecordOf (s : State) (k : Nat) (g : SearchTarget) (c : Chan) : List Byte :=
  navHeader k g (stWord (stOfTick s c.last - ((c.soft.length * (targetInfo g).symMs : Nat) : Rat) / 1000)) 4 false [3] c.soft.length ++
    c.soft.reverse.map fun v => BitVec.ofNat 8 (twos 8 v)

/-- A run of symbols leaves its channel and is written. -/
def symbolsWritten (s : State) (k : Nat) (g : SearchTarget) (c : Chan) : State :=
  writeNav (.symbols (stNow s) (symbolRecordOf s k g c)) 0x0603 (symbolRecordOf s k g c) (chanSet k { c with soft := [] } s)

theorem exec_symbolRecord {ch : TrkChan} {g : SearchTarget} (hg : (chanGet s ch.val).target = some g) (hn : isNavChan s ch.val = true)
    (hl : symbolsPerSecond g ≤ (chanGet s ch.val).soft.length) (hd : domOn s .msr = true)
    (hs : symbolsOnly g.sig = true ∨ (cfg s msrExportSymExport).testBit g.sig = true) :
    exec (.symbolRecord ch) s = .next (symbolsWritten s ch.val g (chanGet s ch.val)) := by
  show execSymbolRecord ch s = _
  unfold execSymbolRecord symbolsWritten symbolRecordOf
  dsimp only
  split
  · exact absurd (hg.symm.trans ‹_›) (Option.some_ne_none g)
  · obtain rfl := Option.some.inj (hg.symm.trans ‹_›)
    exact if_neg (by obtain hs | hs := hs <;> simp [hn, hl, hd, hs])

theorem symbolRecord_writes {ch : TrkChan} {g : SearchTarget} (hg : (chanGet s ch.val).target = some g) (hn : isNavChan s ch.val = true)
    (hl : symbolsPerSecond g ≤ (chanGet s ch.val).soft.length) (hd : domOn s .msr = true)
    (hs : symbolsOnly g.sig = true ∨ (cfg s msrExportSymExport).testBit g.sig = true) :
    completes (.symbolRecord ch) s fun t => Becomes ch.val { chanGet s ch.val with soft := [] } s t ∧
      t.msr = { s.msr with ring := unconsumed s (stNow s) ++ [.symbols (stNow s) (symbolRecordOf s ch.val g (chanGet s ch.val))] } ∧
      (cfgB s msrExportNavExport = false → t.hst = s.hst) ∧
      (cfgB s msrExportNavExport = true → recorded 2 0x0603 (symbolRecordOf s ch.val g (chanGet s ch.val)) s t) := by
  have hne : { chanGet s ch.val with soft := [] } ≠ ({} : Chan) := fun e => Option.some_ne_none g (hg.symm.trans (congrArg Chan.target e))
  have hset : Becomes ch.val { chanGet s ch.val with soft := [] } s (chanSet ch.val { chanGet s ch.val with soft := [] } s) :=
    ⟨chanGet_chanSet_self _ hne s, fun j hj => chanGet_chanSet_ne hj _ s⟩
  refine ⟨_, exec_symbolRecord hg hn hl hd hs, hset.around rfl ?_, ?_, fun h => ?_, fun h => ?_⟩
  · exact writeNav_trk _ _ _ _
  · rw [symbolsWritten, writeNav_msr rfl]
    rfl
  · rw [symbolsWritten, writeNav_hst (u := chanSet _ _ s) h]
    rfl
  · exact writeNav_recorded (u := chanSet _ _ s) rfl rfl rfl h _ _ _

end Sys2Proof.Machine
end

section
/-!
OBLIGATION O39 (06_measurements): an epoch, the station messages, a navigation unit and a run of symbols put together.
-/

namespace Sys2Proof.Machine

/-- Settles O39: an epoch by its record and what it passes on, the station messages by their list, a unit step by step, and symbols by their record. -/
theorem measurementsAndNavigation : Obligations.MeasurementsAndNavigation := by
  refine ⟨fun s te hte => ?_, fun s hs he hp hu hm hn => ?_, fun s ch u g hw hg hn hf hd hs => ?_, fun s ch g hg hn hl hd hs => ?_⟩
  · have hmsr := epochDone_msr s te
    refine ⟨epochDone s te, exec_measurementEpoch hte, by rw [hmsr], by rw [hmsr], epochDone_counted s te, epochDone_sky s te, by rw [hmsr],
      fun hwf => epochDone_status hwf te, fun x hx hon => ?_, epochRecordDue s te, by rw [hmsr], ?_⟩
    · rw [← epochDone_unmarked hx hon]
      exact ⟨rfl, rfl, rfl⟩
    · have hsky := refreshViews_sky s
      refine ⟨rfl, refreshViews_keeps intCode (fun _ _ => rfl) s, congrArg ModeState.aligned (refreshViews_mode s), congrArg SkyState.clkStep hsky,
        congrArg (fun u : SkyState => srcCode u.source) hsky, refreshViews_keeps gnssUsable (fun _ _ => rfl) s,
        congrArg MsrState.seq (refreshViews_msr s), congrArg (min 65535) (refreshViews_keeps uncWord (fun _ _ => rfl) s), epochDone_sol s te,
        ⟨by rw [hmsr], epochDone_ring_counted⟩, fun e he => ?_, fun x hx hf hon ht => exists_epochRecordDue hx hf hon ht te⟩
      obtain ⟨c, hb, hf, hon, hm⟩ := epochRecordDue_measures he
      exact ⟨c, hb, hf, hon, hm.target, hm.cn0, hm.coasting, hm.dopValid, hm.prValid, hm.phValid, hm.level, hm.doppler, hm.lockMs, hm.restart,
        hm.wchg, hm.halfAdj, hm.mp⟩
  · obtain ⟨t, hexec, hup, hrec⟩ := stationMessages_records hs he hp hu hm hn
    rw [stationRecords, pointRecords_eq] at hrec
    exact ⟨t, hexec, hup, hrec⟩
  · have hc : (chanGet s ch.val).st ≠ .idle := canLose_st hf
    obtain ⟨hself, hrest⟩ := unitWritten_becomes (g := g) (x := u) hc
    refine ⟨_, exec_navCheckUnit hg hn hf hd hs, ?_, ?_, ?_, hrest, unitWritten_ring ch.val g u s, fun b hb hsome ht hh => ?_, fun h => ?_,
      fun hb hsome ht hk => ⟨?_, unitWritten_conflict hb hsome ht hk⟩, fun q hq ht hserve => ⟨?_, ?_, fun y hy hclash => ?_⟩, fun h => ?_,
      fun q hq ht hseed => (unitWritten_sky ch.val g u s).trans (unitSeeded_sky hc hq ht hseed),
      fun h => (unitWritten_sky ch.val g u s).trans (unitSeeded_sky_none h ch.val s), unitWritten_store_kept, fun i a b l => unitWritten_issue,
      fun n => unitWritten_leap, unitWritten_recorded, unitWritten_hst⟩
    · exact unitWritten_raised resultCounter_pass (by decide) (by decide) (hw _)
    · exact unitWritten_raised resultCounter_corrected (by decide) (by decide) (hw _)
    · exact unitWritten_raised resultCounter_fail (by decide) (by decide) (hw _)
    · rw [hself, timedBy_eta, polarizedBy_of_some hb hsome, polarized_resolves ht hh]
      exact ⟨rfl, rfl, unitWritten_resolved hb hsome ht hh⟩
    · rw [hself, timedBy_eta]
      exact polarizedBy_half h
    · rw [hself, timedBy_eta, polarizedBy_of_some hb hsome, polarized_conflicts ht hk]
    · rw [hself, timedBy_serves hq ht hserve]
    · rw [hself, timedBy_serves hq ht hserve]
      rfl
    · refine unitWritten_clash hq ht hc hserve ?_
      unfold towClash
      rw [hy]
      exact decide_eq_true hclash
    · rw [hself, timedBy_idle h, polarizedBy_eta]
      exact ⟨rfl, rfl⟩
  · obtain ⟨t, hexec, ⟨hself, hrest⟩, hmsr, hhst, hrec⟩ := symbolRecord_writes hg hn hl hd hs
    exact ⟨t, hexec, hself, hrest, hmsr, hhst, hrec⟩

end Sys2Proof.Machine
end

section
/-!
SUPPORT. What the solver and the farm put out each second (07_solver R186, R188, R192, 08_snapshot_farm R197): the sentences, the satellite record, the status
structures and the history.
-/

namespace Sys2Proof.Machine

variable {s t : State}

/-! ### NMEA (07_solver R188) -/

/-- The constellations in the order of their sentences. -/
def nmeaTalkers : List Constellation := [.gps, .glonass, .galileo, .beidou, .qzss, .navic]

/-- Satellites of a constellation with entries. -/
def talkerSats (s : State) (k : Constellation) : List SatId := (solSats s).filter fun v => v.const == k

/-- Those of them that the published solution uses. -/
def talkerUsed (s : State) (k : Constellation) : List SatId := (talkerSats s k).filter fun v => reasonOf s (pubPrecise s) v == 0

/-- GSA, constellation by constellation. -/
def gsaRecords (s : State) : List (Nat × Nat × List Byte) := nmeaTalkers.flatMap fun k => (gsaLines s k (talkerUsed s k)).map fun l => (2, 0x0709, l)

/-- GSV, constellation by constellation. -/
def gsvRecords (s : State) : List (Nat × Nat × List Byte) := nmeaTalkers.flatMap fun k => (gsvLines s k (talkerSats s k)).map fun l => (2, 0x070A, l)

/-- ZDA, where there is UTC. -/
def zdaRecords (s : State) (q : Rat) : List (Nat × Nat × List Byte) := match zdaLine s q with | some l => [(2, 0x070B, l)] | none => []

/-- The sentences of a second in their order. -/
def nmeaRecords (s : State) (q : Rat) : List (Nat × Nat × List Byte) :=
  [(2, 0x0707, ggaLine s q), (2, 0x0708, rmcLine s q)] ++ gsaRecords s ++ gsvRecords s ++ zdaRecords s q ++ [(2, 0x070C, gstLine s q)]

/-- The second of the sentences is marked. -/
def nmeaMarked (s : State) : State := { s with sol := { s.sol with nmeaS := some (stSec s) } }

/-- Lines that go out one by one, gathered from several lists, are the records of these lists. -/
theorem foldl_recB_flatMap {α : Type} (f : α → List (List Byte)) (kind : Nat) (l : List α) (u : State) :
    (l.flatMap f).foldl (fun w x => recB 2 kind x w) u = recAll (l.flatMap fun k => (f k).map fun x => (2, kind, x)) u := by
  rw [recAll, ← List.map_flatMap, List.foldl_map]
  rfl

theorem recAll_zdaRecords (s : State) (q : Rat) (u : State) :
    recAll (zdaRecords s q) u = match zdaLine s q with | some l => recB 2 0x070B l u | none => u := by
  unfold zdaRecords
  cases zdaLine s q <;> rfl

/-! Nothing that the sentences show reads which second had the last ones. -/

theorem stSec_nmeaMarked (s : State) : stSec (nmeaMarked s) = stSec s := rfl

theorem solEntries_nmeaMarked (s : State) : solEntries (nmeaMarked s) = solEntries s := by
  have hsettle : settleChan (nmeaMarked s) = settleChan s := rfl
  have hentry : entryOf (nmeaMarked s) = entryOf s := rfl
  unfold solEntries
  rw [stSec_nmeaMarked, hsettle, hentry]
  rfl

theorem satEntries_nmeaMarked (s : State) : satEntries (nmeaMarked s) = satEntries s := by
  unfold satEntries
  rw [solEntries_nmeaMarked]
  rfl

theorem solSats_nmeaMarked (s : State) : solSats (nmeaMarked s) = solSats s := by
  unfold solSats
  rw [solEntries_nmeaMarked]

theorem baseReason_nmeaMarked (s : State) : baseReason (nmeaMarked s) = baseReason s := by
  have horbit : orbClk (nmeaMarked s) = orbClk s := rfl
  funext precise v
  unfold baseReason unhealthy
  rw [satEntries_nmeaMarked, horbit]
  rfl

theorem reasonOf_nmeaMarked (s : State) : reasonOf (nmeaMarked s) = reasonOf s := by
  have helev : byElev (nmeaMarked s) = byElev s := rfl
  unfold reasonOf capacity
  rw [solSats_nmeaMarked, baseReason_nmeaMarked, helev]

theorem gsaRecords_nmeaMarked (s : State) : gsaRecords (nmeaMarked s) = gsaRecords s := by
  have hlines : gsaLines (nmeaMarked s) = gsaLines s := rfl
  unfold gsaRecords talkerUsed talkerSats
  rw [solSats_nmeaMarked, reasonOf_nmeaMarked, hlines]
  rfl

theorem gsvRecords_nmeaMarked (s : State) : gsvRecords (nmeaMarked s) = gsvRecords s := by
  have hlines : gsvLines (nmeaMarked s) = gsvLines s := by
    funext k l
    unfold gsvLines
    rw [satEntries_nmeaMarked]
    rfl
  unfold gsvRecords talkerSats
  rw [solSats_nmeaMarked, hlines]

theorem nmeaRecords_nmeaMarked (s : State) (q : Rat) : nmeaRecords (nmeaMarked s) q = nmeaRecords s q := by
  have hgga : ggaLine (nmeaMarked s) q = ggaLine s q := rfl
  have hrmc : rmcLine (nmeaMarked s) q = rmcLine s q := rfl
  have hgst : gstLine (nmeaMarked s) q = gstLine s q := rfl
  have hzda : zdaRecords (nmeaMarked s) q = zdaRecords s q := rfl
  unfold nmeaRecords
  rw [gsaRecords_nmeaMarked, gsvRecords_nmeaMarked, hgga, hrmc, hgst, hzda]

/-- The sentences of a second go out in their order, in the state that has the second marked. -/
def nmeaSent (s : State) : State := recAll (nmeaRecords s (stSec s : Rat)) s

theorem nmeaSent_eq (s : State) : nmeaSent s =
    let u := recB 2 0x0708 (rmcLine s (stSec s : Rat)) (recB 2 0x0707 (ggaLine s (stSec s : Rat)) s)
    let u := (nmeaTalkers.flatMap fun k => gsaLines s k (talkerUsed s k)).foldl (fun w l => recB 2 0x0709 l w) u
    let u := (nmeaTalkers.flatMap fun k => gsvLines s k (talkerSats s k)).foldl (fun w l => recB 2 0x070A l w) u
    let u := match zdaLine s (stSec s : Rat) with | some l => recB 2 0x070B l u | none => u
    recB 2 0x070C (gstLine s (stSec s : Rat)) u := by
  rw [nmeaSent, nmeaRecords, recAll_append, recAll_append, recAll_append, recAll_append, recAll_zdaRecords, gsaRecords, gsvRecords,
    ← foldl_recB_flatMap, ← foldl_recB_flatMap]
  rfl

theorem exec_nmeaOutput (hs : inService s = true) (he : cfgB s solCfgNmeaEn = true) (hm : stSec s % cfg s solCfgNmeaDiv = 0)
    (hn : s.sol.nmeaS ≠ some (stSec s)) : exec .nmeaOutput s = .next (recAll (nmeaRecords s (stSec s : Rat)) (nmeaMarked s)) := by
  rw [← nmeaRecords_nmeaMarked, ← stSec_nmeaMarked]
  show execNmeaOutput s = .next (nmeaSent (nmeaMarked s))
  rw [nmeaSent_eq]
  unfold execNmeaOutput
  rw [if_neg (by simp [hs, he, hm, hn])]
  rfl

theorem zdaLine_eq_none (s : State) (q : Rat) : zdaLine s q = none ↔ s.msr.leap = none := by
  unfold zdaLine utcOf
  cases s.msr.leap <;> simp

/-! ### The satellite record (07_solver R186) -/

/-- The second of the record is marked. -/
def satMarked (s : State) : State := { s with sol := { s.sol with satS := some (stSec s) } }

theorem exec_solSatRecord (hs : inService s = true) (hl : solSats s ≠ []) (hn : s.sol.satS ≠ some (stSec s)) :
    exec .solSatRecord s = .next (recB 2 0x0706 ((solSats s).flatMap (solSat s)) (satMarked s)) := by
  show execSolSatRecord s = _
  unfold execSolSatRecord
  rw [if_neg (by simp [hs, hl, hn])]
  rfl

/-! ### The status structures (07_solver R192, 04_acquisition R96, 05_tracking R131, 10_tag_link R279) -/

/-- A structure reads on as it was where another one is written. -/
theorem shown_basinPut_apart {a c : Nat} {b x : List Byte} (h : Memory.wf basinDflt s.basin = true) (ha : 0xE008 ≤ a)
    (hac : a + b.length ≤ c ∨ c + x.length ≤ a) : shown a b (basinPut c x s) ↔ shown a b s := by
  unfold shown basinPut
  dsimp only
  rw [sread_swrite_apart _ _ _ _ _ _ (swf_swrite _ _ _ _ h) (.inr (by rw [length_leBytes]; omega)), sread_swrite_apart _ _ _ _ _ _ h hac]

/-- Acquisition, tracking and the solver have their status shown. -/
def statusShown (s : State) : State :=
  basinPut 0xE080 (leBytes 4 (solStatus s)) (basinPut 0xE0A8 (leBytes 8 (trkStatus s)) (basinPut 0xE0A4 (leBytes 4 (acqStatus s)) s))

theorem exec_statusPublish (hs : inService s = true) : exec .statusPublish s = .next (publishLink (statusShown s)) := by
  show execStatusPublish s = _
  unfold execStatusPublish
  rw [if_neg (by simp [hs])]
  rfl

/-- The channels of the link that listen, a bit for each (10_tag_link Table 10-17). -/
def listeningChans (s : State) : Nat := ((List.range 8).map fun n => if cfgBAt s lnkChanEn n && linkRx s (stSec s) && s.rfc.seq == .rx then 2 ^ n else 0).sum

/-- LNK.STATUS (10_tag_link Table 10-17). -/
def linkStatus (s : State) : Nat :=
  packFields [(0, 8, listeningChans s), (8, 1, b2n (setTransmits s)), (9, 1, b2n s.lnk.dpdTrained), (16, 16, s.lnk.pipe)]

theorem publishLink_eq (s : State) : publishLink s = basinPut 0xE0B4 (leBytes 4 (linkStatus s)) s := rfl

theorem linkStatus_basinPut (a : Nat) (b : List Byte) (s : State) : linkStatus (basinPut a b s) = linkStatus s := by
  rw [basinPut_eta]
  rfl

/-- The four structures are shown, and nothing but the basin view changes. -/
theorem publishLink_statusShown (s : State) :
    publishLink (statusShown s) = basinPut 0xE0B4 (leBytes 4 (linkStatus s)) (statusShown s) ∧
      publishLink (statusShown s) = { s with basin := (publishLink (statusShown s)).basin } := by
  have hlink : linkStatus (statusShown s) = linkStatus s := by rw [statusShown, linkStatus_basinPut, linkStatus_basinPut, linkStatus_basinPut]
  refine ⟨by rw [publishLink_eq, hlink], ?_⟩
  rw [publishLink_eq, hlink, statusShown, basinPut_eta 0xE0B4, basinPut_eta 0xE080, basinPut_eta 0xE0A8, basinPut_eta 0xE0A4]

theorem b2n_le_one (b : Bool) : b2n b ≤ 1 := by cases b <;> decide

theorem decide_b2n_eq_one (b : Bool) : decide (b2n b = 1) = b := by cases b <;> rfl

theorem linkStatus_eq (s : State) : linkStatus s =
    listeningChans s % 256 + b2n (setTransmits s) * 256 + b2n s.lnk.dpdTrained * 512 + s.lnk.pipe % 65536 * 65536 := by
  have ht := b2n_le_one (setTransmits s)
  have hd := b2n_le_one s.lnk.dpdTrained
  unfold linkStatus packFields packFields packFields packFields packFields putBits
  norm_num
  omega

/-- TX_PERMITTED, DPD_TRAINED and PIPE of LNK.STATUS (10_tag_link Table 10-17). -/
theorem linkStatus_fields (s : State) : (linkStatus s).testBit 8 = setTransmits s ∧ (linkStatus s).testBit 9 = s.lnk.dpdTrained ∧
    (s.lnk.pipe < 65536 → linkStatus s / 65536 = s.lnk.pipe) := by
  have ht := b2n_le_one (setTransmits s)
  have hd := b2n_le_one s.lnk.dpdTrained
  have htx : linkStatus s / 2 ^ 8 % 2 = b2n (setTransmits s) := by rw [linkStatus_eq]; omega
  have hdpd : linkStatus s / 2 ^ 9 % 2 = b2n s.lnk.dpdTrained := by rw [linkStatus_eq]; omega
  rw [Nat.testBit_eq_decide_div_mod_eq, Nat.testBit_eq_decide_div_mod_eq, htx, hdpd]
  exact ⟨decide_b2n_eq_one _, decide_b2n_eq_one _, fun h => by rw [linkStatus_eq]; omega⟩

theorem statusShown_shows (h : Memory.wf basinDflt s.basin = true) :
    shown 0xE0A4 (leBytes 4 (acqStatus s)) (publishLink (statusShown s)) ∧ shown 0xE0A8 (leBytes 8 (trkStatus s)) (publishLink (statusShown s)) ∧
      shown 0xE080 (leBytes 4 (solStatus s)) (publishLink (statusShown s)) ∧ shown 0xE0B4 (leBytes 4 (linkStatus s)) (publishLink (statusShown s)) := by
  have h1 := wf_basinPut 0xE0A4 (leBytes 4 (acqStatus s)) h
  have h2 := wf_basinPut 0xE0A8 (leBytes 8 (trkStatus s)) h1
  have h3 := wf_basinPut 0xE080 (leBytes 4 (solStatus s)) h2
  rw [(publishLink_statusShown s).1, statusShown]
  refine ⟨?_, ?_, ?_, shown_basinPut _ h3 (by decide)⟩
  · rw [shown_basinPut_apart h3 (by decide) (by simp), shown_basinPut_apart h2 (by decide) (by simp), shown_basinPut_apart h1 (by decide) (by simp)]
    exact shown_basinPut _ h (by decide)
  · rw [shown_basinPut_apart h3 (by decide) (by simp), shown_basinPut_apart h2 (by decide) (by simp)]
    exact shown_basinPut _ h1 (by decide)
  · rw [shown_basinPut_apart h3 (by decide) (by simp)]
    exact shown_basinPut _ h2 (by decide)

/-! ### The reference history (08_snapshot_farm R197) -/

/-- The entry of an epoch at a whole second. -/
def historyOf (s : State) (r : EpochRec) : HistEntry := {
  sec := r.t.floor.toNat, aligned := r.aligned, usable := r.usable, rate := r.rate,
  ref := if pvtValid s then (pubRec s).map fun x => x.sol.pos else none, sats := r.entries.filterMap (histSat s), tick := s.sky.tick }

theorem exec_historyEntry {r : EpochRec} (hr : s.msr.lastRec = some r) (hd : r.t.den = 1) (hn : histAt s r.t.floor.toNat = none)
    (ho : domOn s .snf = true) : exec .historyEntry s = .next { s with
      snf := { s.snf with history := historyOf s r :: s.snf.history.filter fun x => decide (r.t.floor.toNat < x.sec + 64) } } := by
  show execHistoryEntry s = _
  unfold execHistoryEntry
  rw [hr]
  exact if_neg (by simp [hd, hn, ho])

/-- A satellite of the history is that of an entry of the position filters with code and Doppler that serve. -/
theorem histSat_of_some {e : MeasEntry} {x : HistSat} (h : histSat s e = some x) :
    e.role ≠ .array ∧ (e.target.sig = 0 ∨ e.target.sig = 15 ∨ e.target.sig = 4) ∧ e.level = 3 ∧ e.prValid = true ∧ e.dopValid = true ∧
      x.sat = e.target.sat ∧ x.pr = e.pr ∧ x.doppler = e.doppler ∧ x.cn0 = e.cn0 ∧ x.reason = reasonOf s (pubPrecise s) e.target.sat := by
  unfold histSat at h
  split at h
  case isTrue hc =>
    simp only [Bool.and_eq_true, Bool.or_eq_true, bne_iff_ne, beq_iff_eq, decide_eq_true_eq, or_assoc] at hc
    obtain ⟨⟨⟨⟨hrole, hsig⟩, hlevel⟩, hpr⟩, hdop⟩ := hc
    cases h
    exact ⟨hrole, hsig, hlevel, hpr, hdop, rfl, rfl, rfl, rfl, rfl⟩
  case isFalse => cases h

end Sys2Proof.Machine
end

section
/-!
OBLIGATION O42 (07_solver, 04_acquisition, 05_tracking, 08_snapshot_farm): the outputs of a second.
-/

namespace Sys2Proof.Machine

/-- Settles O42: the sentences and the satellite record by their lists, the status structures as they are written in turn, and the history by its entry. -/
theorem outputsAreRecorded : Obligations.OutputsAreRecorded := by
  refine fun s => ⟨fun hs he hm hn => ?_, fun hs hl hn => ?_, fun hs => ?_, fun r hr hd hn ho => ?_⟩
  · exact ⟨_, exec_nmeaOutput hs he hm hn, upToReports_recAll _ _, recordedAll_recAll (nmeaRecords s (stSec s : Rat)) (nmeaMarked s), zdaLine_eq_none s _⟩
  · exact ⟨_, exec_solSatRecord hs hl hn, upToReports_recB _ _ _ _, recorded_recB rfl rfl rfl⟩
  · refine ⟨_, exec_statusPublish hs, (publishLink_statusShown s).2, fun hw => ?_⟩
    obtain ⟨hacq, htrk, hsol, hlnk⟩ := statusShown_shows hw.1
    exact ⟨hacq, htrk, hsol, linkStatus s, hlnk, linkStatus_fields s⟩
  · refine ⟨_, exec_historyEntry hr hd hn ho, rfl, historyOf s r, rfl, rfl, rfl, rfl, rfl, rfl, rfl, fun x hx => ?_⟩
    obtain ⟨e, he, hse⟩ := List.mem_filterMap.1 hx
    exact ⟨e, he, histSat_of_some hse⟩

end Sys2Proof.Machine
end

section
/-!
SUPPORT. The four structures of a solution (07_solver R184–R186): what writing them records and shows, and what it leaves as it was.
-/

namespace Sys2Proof.Machine

variable {s t u : State} {j : Nat}

/-- What the structures say of TYPE, PVT_VALID, VEL_VALID, ATT_VALID and INTEG_FAIL. -/
def solShown (s : State) : Nat × Bool × Bool × Bool × Bool := (pubType s, pvtValid s, velValid s, attValid s, s.sol.fail)

/-- The records of the changes against what was shown, as a state has the structures (07_solver R186). -/
def changeRecords (x : Nat × Bool × Bool × Bool × Bool) (s : State) : List (Nat × Nat × List Byte) :=
  (if x.1 = pubType s then [] else [(1, 0x0702, solPvt s)]) ++ (if x.2.1 = pvtValid s then [] else [(1, 0x0703, solPvt s)]) ++
    (if x.2.2.2.1 = attValid s then [] else [(1, 0x0704, solAtt s)]) ++ (if x.2.2.2.2 = s.sol.fail then [] else [(1, 0x0705, solInteg s)])

/-- The four structures in the basin. -/
def solPut (s : State) : State :=
  basinPut 0xE070 (solInteg s) (basinPut 0xE058 (solAtt s) (basinPut 0xE040 (solTime s) (basinPut 0xE018 (solPvt s) s)))

/-- What was shown is noted. -/
def solNoted (x : Nat × Bool × Bool × Bool × Bool) (s : State) : State := { s with sol := { s.sol with shown := x } }

theorem recAll_ite (c : Prop) [Decidable c] (x : Nat × Nat × List Byte) (u : State) : recAll (if c then [] else [x]) u = if c then u else recOne u x := by
  split <;> rfl

theorem writeSol_eq (s : State) : writeSol s = solNoted (solShown s) (recAll (changeRecords s.sol.shown s) (solPut s)) := by
  rw [changeRecords, recAll_append, recAll_append, recAll_append, recAll_ite, recAll_ite, recAll_ite, recAll_ite]
  rfl

theorem upToReports_solPut (s : State) : upToReports s (solPut s) :=
  upToReports_trans (upToReports_trans (upToReports_trans (upToReports_basinPut _ _ s) (upToReports_basinPut _ _ _)) (upToReports_basinPut _ _ _))
    (upToReports_basinPut _ _ _)

theorem upToReports_solNoted {x : Nat × Bool × Bool × Bool × Bool} (h : upToReports s t) : upToReports (solNoted x s) (solNoted x t) := by
  unfold upToReports at h ⊢
  rw [h]
  rfl

/-- Writing the structures moves what was shown, and otherwise only what reports touch. -/
theorem upToReports_writeSol (s : State) : upToReports (solNoted (solShown s) s) (writeSol s) := by
  rw [writeSol_eq]
  exact upToReports_solNoted (upToReports_trans (upToReports_solPut s) (upToReports_recAll _ _))

/-- What was shown and what reports touch, at other values. -/
def solReported (x : Nat × Bool × Bool × Bool × Bool) (q : OutQueue) (o : ObsState) (c : List (Nat × Nat)) (b : List Host.Cell) (s : State) : State :=
  { s with sol := { s.sol with shown := x }, hst := { s.hst with outB := q }, obs := o, ctr := c, basin := b }

theorem writeSol_eta (s : State) :
    writeSol s = solReported (solShown s) (writeSol s).hst.outB (writeSol s).obs (writeSol s).ctr (writeSol s).basin s := upToReports_writeSol s

/-- What reads neither what was shown nor what reports touch is the same once the structures are written. -/
theorem writeSol_keeps {α : Type} (f : State → α) (hf : ∀ x q o c b s, f (solReported x q o c b s) = f s) (s : State) : f (writeSol s) = f s := by
  rw [writeSol_eta, hf]

theorem writeSol_sol (s : State) : (writeSol s).sol = { s.sol with shown := solShown s } := by
  rw [writeSol_eta]
  rfl

theorem recordedAll_of_same {l : List (Nat × Nat × List Byte)} (hb : u.boot = s.boot) (hs : u.sky = s.sky) (hq : u.hst = s.hst)
    (h : recordedAll l u t) : recordedAll l s t := by
  unfold recordedAll at h ⊢
  rw [h, cfg_congr hb, stNow_congr hs, hq]

theorem only_solPut (s : State) : only [.basin] s (solPut s) :=
  only_trans (only_trans (only_trans (only_basinPut _ _ s) (only_basinPut _ _ _)) (only_basinPut _ _ _)) (only_basinPut _ _ _)

theorem recordedAll_writeSol (s : State) : recordedAll (changeRecords s.sol.shown s) s (writeSol s) := by
  have hput := only_solPut s
  have h := recordedAll_of_same (hput.kept .boot (by decide)) (hput.kept .sky (by decide)) (hput.kept .hst (by decide))
    (recordedAll_recAll (changeRecords s.sol.shown s) (solPut s))
  rw [writeSol_eq]
  exact h

theorem ctrGet_writeSol (hj : reportFree j) (s : State) : ctrGet (writeSol s) j = ctrGet s j := by
  have h := ctrGet_recAll hj (changeRecords s.sol.shown s) (solPut s)
  rw [ctrGet_congr ((only_solPut s).kept .ctr (by decide))] at h
  rw [writeSol_eq]
  exact h

theorem recAll_basin (l : List (Nat × Nat × List Byte)) (s : State) : (recAll l s).basin = s.basin :=
  List.foldlRecOn l recOne (motive := fun u => u.basin = s.basin) rfl fun u hu x _ => ((only_recB x.1 x.2.1 x.2.2 u).kept .basin (by decide)).trans hu

theorem writeSol_basin (s : State) : (writeSol s).basin = (solPut s).basin := by
  rw [writeSol_eq]
  exact recAll_basin (changeRecords s.sol.shown s) (solPut s)

theorem length_solPvt (s : State) : (solPvt s).length = 40 := by
  unfold solPvt
  split
  · simp [sread]
  · exact length_leBytes _ _

theorem length_solTime (s : State) : (solTime s).length = 24 := by
  unfold solTime
  split
  · simp [sread]
  · exact length_leBytes _ _

theorem length_solAtt (s : State) : (solAtt s).length = 24 := length_leBytes _ _

/-- The four structures stand side by side, each as it was written. -/
theorem writeSol_shows (h : Memory.wf basinDflt s.basin = true) : shown 0xE018 (solPvt s) (writeSol s) ∧ shown 0xE040 (solTime s) (writeSol s) ∧
    shown 0xE058 (solAtt s) (writeSol s) ∧ shown 0xE070 (solInteg s) (writeSol s) := by
  have h1 := wf_basinPut 0xE018 (solPvt s) h
  have h2 := wf_basinPut 0xE040 (solTime s) h1
  have h3 := wf_basinPut 0xE058 (solAtt s) h2
  have hpvt := length_solPvt s
  have htime := length_solTime s
  have hatt := length_solAtt s
  rw [shown_congr (writeSol_basin s), shown_congr (writeSol_basin s), shown_congr (writeSol_basin s), shown_congr (writeSol_basin s), solPut]
  refine ⟨?_, ?_, ?_, shown_basinPut _ h3 (by decide)⟩
  · rw [shown_basinPut_apart h3 (by decide) (.inl (by omega)), shown_basinPut_apart h2 (by decide) (.inl (by omega)),
      shown_basinPut_apart h1 (by decide) (.inl (by omega))]
    exact shown_basinPut _ h (by decide)
  · rw [shown_basinPut_apart h3 (by decide) (.inl (by omega)), shown_basinPut_apart h2 (by decide) (.inl (by omega))]
    exact shown_basinPut _ h1 (by decide)
  · rw [shown_basinPut_apart h3 (by decide) (.inl (by omega))]
    exact shown_basinPut _ h2 (by decide)

/-! What the structures are made of reads neither what was shown last nor what reports touch. -/

theorem pubType_writeSol (s : State) : pubType (writeSol s) = pubType s := writeSol_keeps pubType (fun _ _ _ _ _ _ => rfl) s

theorem pvtValid_writeSol (s : State) : pvtValid (writeSol s) = pvtValid s := writeSol_keeps pvtValid (fun _ _ _ _ _ _ => rfl) s

theorem attValid_writeSol (s : State) : attValid (writeSol s) = attValid s := writeSol_keeps attValid (fun _ _ _ _ _ _ => rfl) s

theorem fail_writeSol (s : State) : (writeSol s).sol.fail = s.sol.fail := writeSol_keeps (fun u => u.sol.fail) (fun _ _ _ _ _ _ => rfl) s

theorem solShown_writeSol (s : State) : solShown (writeSol s) = solShown s := writeSol_keeps solShown (fun _ _ _ _ _ _ => rfl) s

theorem solPvt_writeSol (s : State) : solPvt (writeSol s) = solPvt s := writeSol_keeps solPvt (fun _ _ _ _ _ _ => rfl) s

theorem solTime_writeSol (s : State) : solTime (writeSol s) = solTime s := writeSol_keeps solTime (fun _ _ _ _ _ _ => rfl) s

theorem solAtt_writeSol (s : State) : solAtt (writeSol s) = solAtt s := writeSol_keeps solAtt (fun _ _ _ _ _ _ => rfl) s

theorem solInteg_writeSol (s : State) : solInteg (writeSol s) = solInteg s := writeSol_keeps solInteg (fun _ _ _ _ _ _ => rfl) s

/-- What is noted as shown is what the structures say. -/
theorem writeSol_shown (s : State) : (writeSol s).sol.shown = solShown (writeSol s) := by rw [solShown_writeSol, writeSol_sol]

theorem changeRecords_writeSol (x : Nat × Bool × Bool × Bool × Bool) (s : State) : changeRecords x (writeSol s) = changeRecords x s := by
  unfold changeRecords
  rw [pubType_writeSol, pvtValid_writeSol, attValid_writeSol, fail_writeSol, solPvt_writeSol, solAtt_writeSol, solInteg_writeSol]

end Sys2Proof.Machine
end

section
/-!
SUPPORT. A solution at the guard (11_radio_control R287, R296–R299): radio control may enter quiet transit, which the precedence of the modes then sees; of the mode
state only the decision moves.
-/

namespace Sys2Proof.Machine

variable {s t u : State} {j : Nat}

/-- From `s` to `t` only radio control moves, and quiet transit stays as it was. -/
structure RfcSteps (s t : State) : Prop where
  eq : t = { s with rfc := t.rfc }
  quiet : t.rfc.quiet = s.rfc.quiet

namespace RfcSteps

theorem refl (s : State) : RfcSteps s s := ⟨rfl, rfl⟩

theorem trans (h : RfcSteps s t) (k : RfcSteps t u) : RfcSteps s u := ⟨by rw [k.eq, h.eq], k.quiet.trans h.quiet⟩

theorem of_groundStep (m : MotionSample) (s : State) : RfcSteps s (groundStep m s) := by
  unfold groundStep
  (repeat' split) <;> exact ⟨rfl, rfl⟩

theorem of_runStep (g : GuardSol) (m : MotionSample) (s : State) : RfcSteps s (runStep g m s) := by
  unfold runStep
  split <;> exact ⟨rfl, rfl⟩

theorem of_exitStep (m : MotionSample) (s : State) : RfcSteps s (exitStep m s) := ⟨rfl, rfl⟩

theorem of_selectStep (g : GuardSol) (st : Rat) (s : State) : RfcSteps s (selectStep g st s) := by
  unfold selectStep
  split <;> exact ⟨rfl, rfl⟩

end RfcSteps

/-- The sample that a solution is to the guard. -/
def motionOf (g : GuardSol) (st : Rat) : MotionSample := ⟨st, g.pvtValid && g.velValid, g.ve, g.vn, g.vu, g.pos.hgt⟩

/-- It joins those of the last 30 s. -/
def motionKept (g : GuardSol) (st : Rat) (s : State) : State :=
  { s with rfc := { s.rfc with motion := motionOf g st :: s.rfc.motion.filter fun x => decide (st - x.st < 30) } }

/-- The guard's runs and its selection with the solution in. -/
def guardMoved (g : GuardSol) (st : Rat) (s : State) : State :=
  selectStep g st (exitStep (motionOf g st) (runStep g (motionOf g st) (groundStep (motionOf g st) (motionKept g st s))))

theorem guardMoved_steps (g : GuardSol) (st : Rat) (s : State) : RfcSteps s (guardMoved g st s) :=
  have hkept : RfcSteps s (motionKept g st s) := ⟨rfl, rfl⟩
  hkept.trans (.trans (.of_groundStep _ _) (.trans (.of_runStep g _ _) (.trans (.of_exitStep _ _) (.of_selectStep g st _))))

/-- The solution moves radio control alone, or it enters quiet transit as well (11_radio_control R297). -/
theorem guardSolution_cases (g : GuardSol) (st : Rat) (s : State) : guardSolution g st s = publishRfc (guardMoved g st s) ∨
    s.rfc.quiet = false ∧ ∃ c, guardSolution g st s = publishRfc (quietEnter c (guardMoved g st s)) := by
  show publishRfc (if (guardMoved g st s).rfc.quiet then guardMoved g st s
    else match entryCause (guardMoved g st s) st with | some c => quietEnter c (guardMoved g st s) | none => guardMoved g st s) = _ ∨ _ ∧ ∃ c,
      publishRfc (if (guardMoved g st s).rfc.quiet then guardMoved g st s
        else match entryCause (guardMoved g st s) st with | some c => quietEnter c (guardMoved g st s) | none => guardMoved g st s) = _
  rw [(guardMoved_steps g st s).quiet]
  cases hq : s.rfc.quiet with
  | true => exact .inl rfl
  | false =>
    cases entryCause (guardMoved g st s) st with
    | none => exact .inl rfl
    | some c => exact .inr ⟨rfl, c, rfl⟩

/-- Quiet transit by a cause. -/
def quietFor (cause : Nat) (s : State) : State := { s with rfc := { s.rfc with quiet := true, qCause := cause } }

/-- Its entry, counted, the emission cut, published and recorded. -/
def quietEntered (cause : Nat) (s : State) : State :=
  let u := publishRfc (cutAir (bump cRfcQuietEntries (quietFor cause s)))
  recB 0 0x0B02 (leBytes 4 (rfcStatus u)) u

theorem quietEnter_eq (cause : Nat) (h : s.rfc.quiet = false) : quietEnter cause s = applyPrecedence (quietEntered cause s) := by
  unfold quietEnter
  rw [if_neg (by simp [h])]
  rfl

theorem only_quietEntered (cause : Nat) (s : State) : only [.lnk, .rfc, .clk, .hst, .obs, .pld, .basin, .ctr, .fresh] s (quietEntered cause s) :=
  Touches.only (Touches.of fun u => by unfold quietEntered quietFor; simp) s

theorem quietEntered_quiet (cause : Nat) (s : State) : (quietEntered cause s).rfc.quiet = true := by
  have hcut : (quietEntered cause s).rfc = (cutAir (bump cRfcQuietEntries (quietFor cause s))).rfc := (only_recB _ _ _ _).kept .rfc (by decide)
  rw [hcut, (cutAir_levels _).1, bump_rfc]
  rfl

theorem ctrGet_quietEntered (hj : reportFree j) (hlow : j < 256) (h : j ≠ cRfcQuietEntries) (cause : Nat) (s : State) :
    ctrGet (quietEntered cause s) j = ctrGet s j := by
  unfold quietEntered
  rw [ctrGet_recB_free hj]
  exact (ctrGet_cutAir _ j hlow).trans (ctrGet_bump_free hj h _)

/-- In quiet transit a mode in service that is neither QUIET nor LAYUP is to be left (01_architecture R18). -/
theorem wantedMode_of_quiet (hl : s.mode.life = .run) (hf : s.mode.fallback = false) (hm : s.mode.mode ≠ .layup) (hn : s.mode.mode ≠ .quiet)
    (hq : s.rfc.quiet = true) : wantedMode s ≠ none := by
  have h5 : rank5 s = true := by simp [rank5, hq]
  unfold wantedMode
  rw [if_neg (by simp [hl, hf]), if_neg hm, if_neg hm, if_pos h5, if_neg hn]
  split <;> exact Option.some_ne_none _

/-- From `s` to `t` a solution is at the guard: of the mode state the decision alone may move, and with quiet transit entered one stands. -/
structure GuardSide (s t : State) : Prop where
  frame : only [.lnk, .rfc, .clk, .mode, .hst, .obs, .pld, .basin, .ctr, .fresh] s t
  mode : t.mode = { s.mode with decided := t.mode.decided }
  common : ∀ j, reportFree j → j < 256 → j ≠ cRfcQuietEntries → ctrGet t j = ctrGet s j
  decided : t.rfc.quiet = false → s.rfc.quiet = false ∧ t.mode.decided = s.mode.decided
  stands : s.mode.life = .run → s.mode.fallback = false → s.mode.mode ≠ .layup → s.mode.mode ≠ .quiet → s.mode.decided ≠ none → t.mode.decided ≠ none

namespace GuardSide

theorem trans (h : GuardSide s t) (k : GuardSide t u) : GuardSide s u where
  frame := only_trans h.frame k.frame
  mode := by rw [k.mode, h.mode]
  common j hj hlow hne := (k.common j hj hlow hne).trans (h.common j hj hlow hne)
  decided hq := by
    obtain ⟨hqt, hdt⟩ := k.decided hq
    obtain ⟨hqs, hds⟩ := h.decided hqt
    exact ⟨hqs, hdt.trans hds⟩
  stands hl hf hm hn hd := by
    have hmode := h.mode
    exact k.stands (by rw [hmode]; exact hl) (by rw [hmode]; exact hf) (by rw [hmode]; exact hm) (by rw [hmode]; exact hn) (h.stands hl hf hm hn hd)

/-- Nothing of it moves but radio control and the basin view, and quiet transit stays. -/
theorem of_same (hframe : only [.rfc, .basin] s t) (hq : t.rfc.quiet = s.rfc.quiet) : GuardSide s t where
  frame := only_mono hframe (by decide)
  mode := by rw [hframe.kept .mode (by decide)]
  common j _ _ _ := ctrGet_congr (hframe.kept .ctr (by decide)) j
  decided h := ⟨hq.symm.trans h, congrArg ModeState.decided (hframe.kept .mode (by decide))⟩
  stands _ _ _ _ hd := by rwa [hframe.kept .mode (by decide)]

theorem of_steps (h : RfcSteps s t) : GuardSide s t := by
  refine of_same ?_ h.quiet
  rw [h.eq]
  intro x
  cases x <;> simp [Part.same]

theorem of_publishRfc (s : State) : GuardSide s (publishRfc s) := of_same (only_mono (only_publishRfc s) (by decide)) rfl

theorem of_quietEnter (h : s.rfc.quiet = false) (cause : Nat) : GuardSide s (quietEnter cause s) := by
  have hmode : (quietEntered cause s).mode = s.mode := (only_quietEntered cause s).kept .mode (by decide)
  have hdone : quietEnter cause s =
      { quietEntered cause s with mode := { s.mode with decided := decidedAs (wantedMode (quietEntered cause s)) (quietEntered cause s) } } := by
    rw [quietEnter_eq cause h, applyPrecedence_eq, hmode]
  have hquiet : (quietEnter cause s).rfc.quiet = true := by rw [hdone]; exact quietEntered_quiet cause s
  exact {
    frame := Touches.only (touches_quietEnter cause) s
    mode := by rw [hdone]
    common := fun j hj hlow hne => by rw [hdone]; exact ctrGet_quietEntered hj hlow hne cause s
    decided := fun hn => absurd (hquiet.symm.trans hn) (by decide)
    stands := fun hl hf hm hn _ => by
      obtain ⟨w, hw⟩ := Option.ne_none_iff_exists'.1 (wantedMode_of_quiet (s := quietEntered cause s) (by rw [hmode]; exact hl) (by rw [hmode]; exact hf)
        (by rw [hmode]; exact hm) (by rw [hmode]; exact hn) (quietEntered_quiet cause s))
      rw [hdone, hw]
      exact Option.some_ne_none _ }

end GuardSide

theorem guardSolution_side (g : GuardSol) (st : Rat) (s : State) : GuardSide s (guardSolution g st s) := by
  have hsteps := guardMoved_steps g st s
  obtain h | ⟨hq, c, h⟩ := guardSolution_cases g st s
  · rw [h]
    exact (GuardSide.of_steps hsteps).trans (.of_publishRfc _)
  · rw [h]
    exact (GuardSide.of_steps hsteps).trans ((GuardSide.of_quietEnter (hsteps.quiet.trans hq) c).trans (.of_publishRfc _))

end Sys2Proof.Machine
end

section
/-!
SUPPORT. A solution that is published (07_solver R186): what goes out, and what it leaves of the solver, the modes, the counters and the decision.
-/

namespace Sys2Proof.Machine

variable {s t u : State} {j : Nat} {r : SolRec}

/-- The published solutions counted, this one among them where it is shown. -/
def outCount (s : State) : Nat := (writeSol s).sol.count + (if (shownRec s).isSome then 1 else 0)

/-- The structures are written and the solution counts. -/
def outCounted (s : State) : State := { writeSol s with sol := { (writeSol s).sol with count := outCount s } }

/-- Every OUT_DIV-th goes to the host. -/
def outSent (s : State) : State :=
  if cfg s solCfgOutDiv ≠ 0 ∧ outCount s % cfg s solCfgOutDiv = 0 ∧ (shownRec s).isSome then
    recB 1 0x0701 (solPvt s ++ solTime s ++ solAtt s ++ solInteg s) (outCounted s)
  else outCounted s

/-- Since when the gateway has been slower than 0.5 m/s, with this solution. -/
def stillWith (s : State) (r : SolRec) : Option Rat :=
  if velValid s then (if decide (500 * 500 < speedSq r.sol) then some r.t else some (s.mode.stillSince.getD r.t)) else s.mode.stillSince

/-- The mode rules and the predictions have seen the solution. -/
def outSeen (s : State) (r : SolRec) : State := { outSent s with
  mode := { (outSent s).mode with stillSince := stillWith s r }
  sol := { (outSent s).sol with
    lastPos := if pvtValid s then some (r.sol.pos, r.t, r.sol.h95) else (outSent s).sol.lastPos
    attLast := if attValid s then some (stNow s, s.sol.att) else (outSent s).sol.attLast } }

/-- The solution as the guard takes it. -/
def guardSolOf (s : State) (r : SolRec) : GuardSol :=
  ⟨pvtValid s, velValid s, (pubLevels s r.t).2.2, s.sol.fail, (pubLevels s r.t).1, outputPos s r.sol.pos, r.sol.ve, r.sol.vn, r.sol.vu⟩

theorem publishSol_of_none (h : pubRec s = none) : publishSol s = writeSol s := by
  unfold publishSol
  rw [h]

theorem publishSol_of_some (h : pubRec s = some r) : publishSol s = guardSolution (guardSolOf s r) r.t (outSeen s r) := by
  unfold publishSol
  rw [h]
  rfl

/-- From `s` to `t` a solution is published. -/
structure Published (s t : State) : Prop where
  frame : only [.sol, .lnk, .rfc, .clk, .mode, .hst, .obs, .pld, .basin, .ctr, .fresh] s t
  sol : t.sol = { s.sol with shown := t.sol.shown, count := t.sol.count, lastPos := t.sol.lastPos, attLast := t.sol.attLast }
  mode : t.mode = { s.mode with stillSince := t.mode.stillSince, decided := t.mode.decided }
  common : ∀ j, reportFree j → j < 256 → j ≠ cRfcQuietEntries → ctrGet t j = ctrGet s j
  decided : t.rfc.quiet = false → t.mode.decided = s.mode.decided
  stands : s.mode.life = .run → s.mode.fallback = false → s.mode.mode ≠ .layup → s.mode.mode ≠ .quiet → s.mode.decided ≠ none → t.mode.decided ≠ none

theorem writeSol_mode (s : State) : (writeSol s).mode = s.mode := Touches.kept touches_writeSol .mode (by decide) s

theorem Published.of_writeSol (s : State) : Published s (writeSol s) where
  frame := only_mono (Touches.only touches_writeSol s) (by decide)
  sol := by rw [writeSol_sol]
  mode := by rw [writeSol_mode]
  common j hj _ _ := ctrGet_writeSol hj s
  decided _ := by rw [writeSol_mode]
  stands _ _ _ _ hd := by rwa [writeSol_mode]

theorem only_outSent (s : State) : only [.sol, .hst, .obs, .basin, .ctr] s (outSent s) :=
  Touches.only (Touches.of fun u => by unfold outSent outCounted; simp) s

theorem outSent_sol (s : State) : (outSent s).sol = { s.sol with shown := solShown s, count := outCount s } := by
  have hcounted : (outCounted s).sol = { s.sol with shown := solShown s, count := outCount s } := by
    unfold outCounted
    rw [writeSol_sol]
  unfold outSent
  split
  · exact ((only_recB _ _ _ _).kept .sol (by decide)).trans hcounted
  · exact hcounted

theorem ctrGet_outSent (hj : reportFree j) (s : State) : ctrGet (outSent s) j = ctrGet s j := by
  have hcounted : ctrGet (outCounted s) j = ctrGet s j := ctrGet_writeSol hj s
  unfold outSent
  split
  · exact (ctrGet_recB_free hj _ _ _ _).trans hcounted
  · exact hcounted

theorem Published.of_outSeen (s : State) (r : SolRec) : Published s (outSeen s r) := by
  have hmode : (outSent s).mode = s.mode := (only_outSent s).kept .mode (by decide)
  exact {
    frame := only_trans (only_mono (only_outSent s) (by decide)) (fun x => by cases x <;> simp [Part.same, outSeen])
    sol := by unfold outSeen; rw [outSent_sol]
    mode := by unfold outSeen; rw [hmode]
    common := fun j hj _ _ => ctrGet_outSent hj s
    decided := fun _ => by show (outSent s).mode.decided = _; rw [hmode]
    stands := fun _ _ _ _ hd => by show (outSent s).mode.decided ≠ none; rwa [hmode] }

theorem Published.guarded (h : Published s t) (k : GuardSide t u) : Published s u := by
  have hsol : u.sol = t.sol := k.frame.kept .sol (by decide)
  have hmode := h.mode
  exact {
    frame := only_trans h.frame (only_mono k.frame (by decide))
    sol := by rw [hsol, h.sol]
    mode := by rw [k.mode, h.mode]
    common := fun j hj hlow hne => (k.common j hj hlow hne).trans (h.common j hj hlow hne)
    decided := fun hq => by
      obtain ⟨hqt, hd⟩ := k.decided hq
      exact hd.trans (h.decided hqt)
    stands := fun hl hf hm hn hd => k.stands (by rw [hmode]; exact hl) (by rw [hmode]; exact hf) (by rw [hmode]; exact hm) (by rw [hmode]; exact hn)
      (h.stands hl hf hm hn hd) }

theorem Published.of_publishSol (s : State) : Published s (publishSol s) := by
  cases h : pubRec s with
  | none =>
    rw [publishSol_of_none h]
    exact .of_writeSol s
  | some r =>
    rw [publishSol_of_some h]
    exact (Published.of_outSeen s r).guarded (guardSolution_side _ _ _)

/-- From `s` to `t` the published solution and what makes it valid stay (07_solver R157, R184, R185). -/
structure SameFix (s t : State) : Prop where
  std : t.sol.std = s.sol.std
  prec : t.sol.prec = s.sol.prec
  precOn : t.sol.precOn = s.sol.precOn
  fail : t.sol.fail = s.sol.fail
  spoof : t.ary.spoof = s.ary.spoof
  life : t.mode.life = s.mode.life
  fallback : t.mode.fallback = s.mode.fallback
  mode : t.mode.mode = s.mode.mode

namespace SameFix

theorem trans (h : SameFix s t) (k : SameFix t u) : SameFix s u :=
  ⟨k.std.trans h.std, k.prec.trans h.prec, k.precOn.trans h.precOn, k.fail.trans h.fail, k.spoof.trans h.spoof, k.life.trans h.life,
    k.fallback.trans h.fallback, k.mode.trans h.mode⟩

theorem inService (h : SameFix s t) : inService t = inService s := by
  unfold Machine.inService
  rw [h.life, h.fallback]

theorem pubRec (h : SameFix s t) : pubRec t = pubRec s := by
  unfold Machine.pubRec pubPrecise preciseMode
  rw [h.std, h.prec, h.precOn, h.mode]

theorem pvtValid (h : SameFix s t) : pvtValid t = pvtValid s := by
  unfold Machine.pvtValid
  rw [h.inService, h.pubRec, h.mode, h.fail, h.spoof]

theorem pubType (h : SameFix s t) : pubType t = pubType s := by
  unfold Machine.pubType
  rw [h.inService, h.pubRec, h.mode]

end SameFix

theorem Published.sameFix (h : Published s t) : SameFix s t := by
  have hsol := h.sol
  have hmode := h.mode
  exact ⟨by rw [hsol], by rw [hsol], by rw [hsol], by rw [hsol], by rw [h.frame.kept .ary (by decide)], by rw [hmode], by rw [hmode], by rw [hmode]⟩

end Sys2Proof.Machine
end

section
/-!
SUPPORT. The attitude filter and a skipped epoch (07_solver R156, R181, R182): the attitude of an epoch, its fixed baselines, and the state it leaves.
-/

namespace Sys2Proof.Machine

variable {s t u : State} {te : Rat}

/-! ### Skips -/

theorem exec_solSkip {f : Filter} (h : filterDue s f = some te) : exec (.solSkip f) s = .next (bump cSolSolSkip (markDone f te s)) := by
  show execSolSkip f s = _
  unfold execSolSkip
  rw [h]

theorem markDone_sol (f : Filter) (te : Rat) (s : State) :
    (markDone f te s).sol = { s.sol with done := s.sol.done.set (filterIdx f) (some te) } := rfl

/-! ### The attitude of an epoch (07_solver R181, R182) -/

/-- A baseline whose integers are accepted has the length of its effective vector to 10 mm. -/
theorem baselineFix_close {f : Filt} {a : Port} {amb : List AttAmb} {l : List (AttAmb × Int)} (h : baselineFix s f a amb = some l) :
    absQ (vLen (fixedVector s l) - vLen (baseVec s a)) ≤ 10 / 1000 := by
  unfold baselineFix at h
  dsimp only at h
  split at h
  case isTrue hc =>
    cases h
    exact hc.2.2
  case isFalse => cases h

/-- The baselines of an attitude are those whose integers are accepted, on the epoch's float estimate. -/
theorem attEpoch_fixed {x : Port × List (AttAmb × Int)} (h : x ∈ (attEpoch s te).2.2) : x.1 ∈ baselines s ∧
    baselineFix s (attEpoch s te).1.filt x.1 (attEpoch s te).1.amb = some x.2 := by
  obtain ⟨a, ha, hx⟩ := List.mem_filterMap.1 h
  obtain ⟨l, hl, rfl⟩ := Option.map_eq_some_iff.1 hx
  exact ⟨ha, hl⟩

theorem heading_attOf (q : Rat × Rat × Rat) (r : AttRec) : (attOf q r).heading < 36000 := by
  have h0 := Int.emod_nonneg (roundEven (q.1 * 100)) (show (36000 : Int) ≠ 0 by decide)
  have h1 := Int.emod_lt_of_pos (roundEven (q.1 * 100)) (show (0 : Int) < 36000 by decide)
  show ((roundEven (q.1 * 100)) % 36000).toNat < 36000
  omega

/-- The attitude that an epoch yields, in a state whose predictions are up to date. -/
def attOfEpoch (s : State) (te : Rat) : AttRec := attRecOf s te (attEpoch s te).1.angles (attEpoch s te).2.1 (attEpoch s te).2.2

theorem attOfEpoch_t (s : State) (te : Rat) : (attOfEpoch s te).t = te := rfl

theorem attOfEpoch_axes (s : State) (te : Rat) : (attOfEpoch s te).axes = axesOf s ((attEpoch s te).2.2.map (·.1)) := rfl

theorem attOfEpoch_roll (h : (attOfEpoch s te).axes = 2) : (attOfEpoch s te).roll = 0 := by
  unfold attOfEpoch attRecOf at h ⊢
  exact if_pos h

theorem attOfEpoch_heading (s : State) (te : Rat) : (attOfEpoch s te).heading < 36000 := by
  unfold attOfEpoch attRecOf
  dsimp only
  exact heading_attOf _ _

theorem attOfEpoch_ok : (attOfEpoch s te).ok = true ↔ 2 ≤ (attOfEpoch s te).axes ∧ 5 ≤ (attOfEpoch s te).nsat ∧ (attOfEpoch s te).sigHdg ≤ 100 := by
  unfold attOfEpoch attRecOf
  dsimp only
  rw [Bool.and_eq_true, Bool.and_eq_true, decide_eq_true_eq, decide_eq_true_eq, decide_eq_true_eq, and_assoc]

/-- The attitude filter has taken an epoch. -/
def attTaken (te : Rat) (s : State) : State := markDone .attitude te { s with sol := { s.sol with
  att := attOfEpoch s te
  attF := some (turnIn (attEpoch s te).1)
  attResets := []
  attLast := if (attOfEpoch s te).ok ∧ s.ary.spoof = false then some (te, attOfEpoch s te) else s.sol.attLast } }

theorem exec_attitudeUpdate (h : filterDue s .attitude = some te) : exec (.attitudeUpdate ()) s = .next (writeSol (attTaken te (refreshViews s))) := by
  show execAttitudeUpdate () s = _
  unfold execAttitudeUpdate
  rw [h]
  rfl

theorem refreshViews_eq (s : State) : refreshViews s = { s with sol := (refreshViews s).sol } := by
  obtain ⟨v, hv⟩ := refreshViews_eta s
  rw [hv]

/-- The attitude goes out in the structures, and of the state only the solver moves and what reports touch. -/
theorem upToReports_writeSol_of (h : u = { s with sol := u.sol }) : upToReports { s with sol := (writeSol u).sol } (writeSol u) := by
  have hu := upToReports_writeSol u
  unfold upToReports at hu ⊢
  rw [writeSol_sol]
  rw [h] at hu ⊢
  exact hu

theorem attTaken_eq (te : Rat) (s : State) : attTaken te (refreshViews s) = { s with sol := (attTaken te (refreshViews s)).sol } := by
  show { refreshViews s with sol := (attTaken te (refreshViews s)).sol } = _
  rw [refreshViews_eq]

theorem attTaken_sol (te : Rat) (s : State) : (attTaken te s).sol = { s.sol with
    att := attOfEpoch s te
    attF := some (turnIn (attEpoch s te).1)
    attResets := []
    attLast := if (attOfEpoch s te).ok = true ∧ s.ary.spoof = false then some (te, attOfEpoch s te) else s.sol.attLast
    done := s.sol.done.set 2 (some te) } := by
  unfold attTaken
  rw [markDone_sol]
  rfl

/-- What the filter leaves of the solver, once its attitude is published. -/
theorem attPublished_sol (te : Rat) (s : State) : (writeSol (attTaken te (refreshViews s))).sol = { (refreshViews s).sol with
    att := attOfEpoch (refreshViews s) te
    attF := some (turnIn (attEpoch (refreshViews s) te).1)
    attResets := []
    attLast := if (attOfEpoch (refreshViews s) te).ok = true ∧ s.ary.spoof = false then some (te, attOfEpoch (refreshViews s) te) else s.sol.attLast
    done := s.sol.done.set 2 (some te)
    shown := solShown (attTaken te (refreshViews s)) } := by
  have hdone : (refreshViews s).sol.done = s.sol.done := refreshViews_keeps (fun u => u.sol.done) (fun _ _ => rfl) s
  have hlast : (refreshViews s).sol.attLast = s.sol.attLast := refreshViews_keeps (fun u => u.sol.attLast) (fun _ _ => rfl) s
  have hspoof : (refreshViews s).ary.spoof = s.ary.spoof := refreshViews_keeps (fun u => u.ary.spoof) (fun _ _ => rfl) s
  rw [writeSol_sol, attTaken_sol, hdone, hlast, hspoof]

theorem attPublished_records (te : Rat) (s : State) :
    recordedAll (changeRecords s.sol.shown (writeSol (attTaken te (refreshViews s)))) s (writeSol (attTaken te (refreshViews s))) := by
  have heq := attTaken_eq te s
  have hshown : (attTaken te (refreshViews s)).sol.shown = s.sol.shown := refreshViews_keeps (fun u => u.sol.shown) (fun _ _ => rfl) s
  rw [changeRecords_writeSol, ← hshown]
  exact recordedAll_of_same (by rw [heq]) (by rw [heq]) (by rw [heq]) (recordedAll_writeSol _)

theorem attPublished_shows (te : Rat) (h : s.memWf) : Memory.wf basinDflt (attTaken te (refreshViews s)).basin = true := by
  rw [attTaken_eq]
  exact h.1

end Sys2Proof.Machine
end

section
namespace Sys2Proof.Machine
variable {s t u : State} {te : Rat}

theorem attitudeUpdate_publishes (h : filterDue s .attitude = some te) : completes (.attitudeUpdate ()) s (fun t =>
    let v := refreshViews s
    let e := attEpoch v te
    let r := t.sol.att
    upToReports { s with sol := t.sol } t ∧
    t.sol = { v.sol with att := r, attF := some (turnIn e.1), attResets := [], attLast := t.sol.attLast, done := s.sol.done.set 2 (some te), shown := t.sol.shown } ∧
    r = attRecOf v te e.1.angles e.2.1 e.2.2 ∧ r.t = te ∧ r.axes = axesOf v (e.2.2.map (·.1)) ∧ (r.axes = 2 → r.roll = 0) ∧ r.heading < 36000 ∧
    (r.ok = true ↔ 2 ≤ r.axes ∧ 5 ≤ r.nsat ∧ r.sigHdg ≤ 100) ∧
    (∀ x ∈ e.2.2, x.1 ∈ baselines v ∧ baselineFix v e.1.filt x.1 e.1.amb = some x.2 ∧ absQ (vLen (fixedVector v x.2) - vLen (baseVec v x.1)) ≤ 10 / 1000) ∧
    t.sol.attLast = (if r.ok = true ∧ s.ary.spoof = false then some (te, r) else s.sol.attLast) ∧
    t.sol.shown = (pubType t, pvtValid t, velValid t, attValid t, t.sol.fail) ∧
    (s.memWf → shown 0xE018 (solPvt t) t ∧ shown 0xE040 (solTime t) t ∧ shown 0xE058 (solAtt t) t ∧ shown 0xE070 (solInteg t) t) ∧
    recordedAll
      ((if s.sol.shown.1 = pubType t then [] else [(1, 0x0702, solPvt t)]) ++ (if s.sol.shown.2.1 = pvtValid t then [] else [(1, 0x0703, solPvt t)]) ++
        (if s.sol.shown.2.2.2.1 = attValid t then [] else [(1, 0x0704, solAtt t)]) ++
        (if s.sol.shown.2.2.2.2 = t.sol.fail then [] else [(1, 0x0705, solInteg t)])) s t) := by
  have hsol := attPublished_sol te s
  have hatt : (writeSol (attTaken te (refreshViews s))).sol.att = attOfEpoch (refreshViews s) te := by rw [hsol]
  refine ⟨_, exec_attitudeUpdate h, upToReports_writeSol_of (attTaken_eq te s), ?_, hatt, ?_, ?_, fun hax => ?_, ?_, ?_, fun x hx => ?_, ?_, ?_, fun hw => ?_, ?_⟩
  · rw [hsol]
  · rw [hatt, attOfEpoch_t]
  · rw [hatt, attOfEpoch_axes]
  · rw [hatt] at hax ⊢
    exact attOfEpoch_roll hax
  · rw [hatt]
    exact attOfEpoch_heading _ _
  · rw [hatt]
    exact attOfEpoch_ok
  · obtain ⟨hbase, hfix⟩ := attEpoch_fixed hx
    exact ⟨hbase, hfix, baselineFix_close hfix⟩
  · rw [hsol]
  · exact writeSol_shown _
  · rw [solPvt_writeSol, solTime_writeSol, solAtt_writeSol, solInteg_writeSol]
    exact writeSol_shows (attPublished_shows te hw)
  · exact attPublished_records te s

end Sys2Proof.Machine
end

section
/-!
SUPPORT. The precise filter (07_solver R157, R165–R169, R178–R180): the TYPE of an epoch from its ambiguities, and the state that an epoch leaves.
-/

namespace Sys2Proof.Machine

variable {s t u : State} {te : Rat} {f : Filt} {fix : List (AmbState × Int)} {o : PreciseOut} {j : Nat}

/-! ### The ambiguities of an epoch (07_solver R178–R180) -/

/-- An ambiguity after the search: held ones stay, those fixed again count, the others are float. -/
def fixOne (s : State) (fix : List (AmbState × Int)) (x0 : AmbState) : AmbState :=
  let x := { x0 with fresh := false }
  if x.held then x else
  match fix.find? fun f => f.1.place == x.place with
  | none => { x with fixed := none, run := 0 }
  | some f =>
    let run := if x.fixed = some f.2 then x.run + 1 else 1
    { x with fixed := some f.2, run := run, held := decide (cfg s solArArHold ≤ run) }

theorem fixAmb_eq (s : State) (fix : List (AmbState × Int)) (l : List AmbState) : fixAmb s fix l = l.map (fixOne s fix) := rfl

/-- The search leaves an ambiguity its place and its signal. -/
theorem fixOne_signal (s : State) (fix : List (AmbState × Int)) (x : AmbState) :
    (fixOne s fix x).place = x.place ∧ (fixOne s fix x).sat = x.sat ∧ (fixOne s fix x).sig = x.sig := by
  unfold fixOne
  dsimp only
  split
  · exact ⟨rfl, rfl, rfl⟩
  · split <;> exact ⟨rfl, rfl, rfl⟩

theorem ambEligible_fixOne (s : State) (fix : List (AmbState × Int)) (x : AmbState) : ambEligible s (fixOne s fix x) = ambEligible s x := by
  obtain ⟨-, hsat, hsig⟩ := fixOne_signal s fix x
  unfold ambEligible
  rw [hsat, hsig]

theorem ambBand_fixOne (s : State) (fix : List (AmbState × Int)) (x : AmbState) : ambBand (fixOne s fix x) = ambBand x := by
  unfold ambBand
  rw [(fixOne_signal s fix x).2.2]

/-- The eligible ambiguities of B1, which a fix counts (07_solver R179). -/
def firstOf (s : State) (l : List AmbState) : List AmbState := (l.filter (ambEligible s)).filter fun a => ambBand a == 0

theorem filter_map_fixOne {p : AmbState → Bool} (hp : ∀ x, p (fixOne s fix x) = p x) (l : List AmbState) :
    (l.map (fixOne s fix)).filter p = (l.filter p).map (fixOne s fix) := by
  rw [List.filter_map]
  congr 2
  funext x
  exact hp x

theorem firstOf_fixAmb (s : State) (fix : List (AmbState × Int)) (l : List AmbState) : firstOf s (fixAmb s fix l) = (firstOf s l).map (fixOne s fix) := by
  unfold firstOf
  rw [fixAmb_eq, filter_map_fixOne (ambEligible_fixOne s fix), filter_map_fixOne fun x => congrArg (· == 0) (ambBand_fixOne s fix x)]

/-- An ambiguity stands in one of these states. -/
def placedIn (l : List AmbState) (x : AmbState) : Bool := l.any fun a => a.place == x.place

theorem placedIn_map_fixOne (l : List AmbState) : placedIn (l.map (fixOne s fix)) = placedIn l := by
  funext x
  unfold placedIn
  rw [List.any_map]
  congr 1
  funext a
  exact congrArg (· == x.place) (fixOne_signal s fix a).1

/-- How many ambiguities of B1 are fixed. -/
def fixedCount (s : State) (l : List AmbState) : Nat := (l.filter fun x => x.fixed.isSome && placedIn (firstOf s l) x).length

/-! ### An epoch (07_solver R166–R169) -/

/-- The search of an epoch: its integers, none where no search ran, and the state they leave. -/
theorem preciseEpoch_fix (s : State) (te : Rat) (f : Filt) : ∃ fix, (preciseEpoch s te f).amb = fixAmb s fix (grantAmb s (usedSats s true)) ∧
    (preciseEpoch s te f).fixed = !fix.isEmpty ∧ ((preciseEpoch s te f).tried = false → fix = []) := by
  refine ⟨_, rfl, rfl, fun h => ?_⟩
  have h : (decide (4 ≤ (usedSats s true).length) && _) = false := h
  simp only [h, Bool.false_eq_true, if_false, Option.getD_none, ite_self]

theorem preciseEpoch_first (s : State) (te : Rat) (f : Filt) : ∃ fix,
    firstOf s (preciseEpoch s te f).amb = (firstOf s (grantAmb s (usedSats s true))).map (fixOne s fix) := by
  obtain ⟨fix, hamb, -, -⟩ := preciseEpoch_fix s te f
  exact ⟨fix, by rw [hamb, firstOf_fixAmb]⟩

/-- Without an eligible ambiguity of B1 no search runs and none is fixed. -/
theorem preciseEpoch_untried (h : firstOf s (preciseEpoch s te f).amb = []) : (preciseEpoch s te f).tried = false ∧ (preciseEpoch s te f).fixed = false := by
  obtain ⟨fix, hfirst⟩ := preciseEpoch_first s te f
  have hnone : firstOf s (grantAmb s (usedSats s true)) = [] := List.map_eq_nil_iff.1 (hfirst.symm.trans h)
  have htried : (preciseEpoch s te f).tried = false := by
    show (decide (4 ≤ (usedSats s true).length) && !((firstOf s (grantAmb s (usedSats s true))).filter _).isEmpty) = false
    rw [hnone]
    exact Bool.and_false _
  obtain ⟨fix', -, hfixed, hempty⟩ := preciseEpoch_fix s te f
  rw [hfixed, hempty htried]
  exact ⟨htried, rfl⟩

/-- TYPE of an epoch by what its ambiguities are in the end (07_solver Table 07-4). -/
theorem preciseEpoch_type (s : State) (te : Rat) (f : Filt) : (preciseEpoch s te f).rec_.type =
    typeOf s (decide (4 ≤ (usedSats s true).length)) (fixedCount s (preciseEpoch s te f).amb) (firstOf s (preciseEpoch s te f).amb).length := by
  obtain ⟨fix, hfirst⟩ := preciseEpoch_first s te f
  rw [fixedCount, hfirst, placedIn_map_fixOne, List.length_map]
  rfl

theorem typeOf_few (n m : Nat) : typeOf s false n m = 0 := rfl

theorem typeOf_enough (n m : Nat) : typeOf s true n m = if cfg s solArArMin ≤ n then (if n = m then 4 else 3) else 2 := rfl

end Sys2Proof.Machine
end

section
/-!
SUPPORT. A precise epoch takes effect (07_solver R157, R165, R169, 01_architecture R18): the solver's state, the end of SURVEY, the counters and what is published.
-/

namespace Sys2Proof.Machine

variable {s t u : State} {te : Rat} {f : Filt} {o : PreciseOut} {j : Nat}

theorem filterDue_serves {x : Filter} (h : filterDue s x = some te) : s.mode.life = .run ∧ s.mode.fallback = false := by
  unfold filterDue at h
  split at h
  case isTrue => cases h
  case isFalse hs =>
    have hin : inService s = true := by simpa using mt Or.inl hs
    simpa [inService] using hin

/-- The solution holds TYPE 4 below 0.1 m/s (07_solver R165). -/
def steadyFix (r : SolRec) : Bool := decide (r.type = 4) && decide (speedSq r.sol < 100 * 100)

/-- The precise filter has taken an epoch. -/
def precTaken (te : Rat) (o : PreciseOut) (s : State) : State := markDone .precise te { s with sol := { s.sol with
  prec := some o.rec_
  precF := some o.mem
  iono := o.iono
  amb := o.amb
  wind := o.wind
  resets := []
  hold := holdNow s o.rec_
  holdSince := if steadyFix o.rec_ then some (s.sol.holdSince.getD te) else none } }

/-- Its search is counted. -/
def precCounted (te : Rat) (o : PreciseOut) (s : State) : State :=
  bumpIf o.partial_ cSolArPartial (bumpIf o.fixed cSolArFixes (bumpIf o.reject cSolArRejectVal (bumpIf o.tried cSolArAttempts (precTaken te o s))))

/-- The epoch is good enough to end SURVEY, with a horizontal figure of at most `limit` (01_architecture Table 01-6). -/
def surveyEnds (limit : Nat) (r : SolRec) (s : State) : Bool :=
  decide (2 ≤ r.type) && decide (s.mode.mode = .survey) && s.mode.decided.isNone && decide (r.sol.h95 ≤ limit)

/-- SURVEY is left for FULL. -/
def surveyLeft (s : State) : State := decideTo .full 8 { s with mode := { s.mode with exitWhy := 1 } }

/-- The epoch before it is published. -/
def precDone (te : Rat) (o : PreciseOut) (s : State) : State :=
  if surveyEnds (10 * cfg s bootModesSurveyHpl) o.rec_ (precCounted te o s) then surveyLeft (precCounted te o s) else precCounted te o s

theorem preciseStep_eq (te : Rat) (o : PreciseOut) (s : State) : preciseStep te o s = publishSol (precDone te o s) := by
  unfold precDone surveyLeft precCounted precTaken
  rfl

theorem exec_preciseUpdate_waits (h : filterDue s .precise = some te) (hw : s.ary.spoof = true ∨ filterDue s .integrity ≠ none ∨ precPredict (refreshViews s) te = none) :
    exec (.preciseUpdate () () ()) s = .next s := by
  show execPreciseUpdate () () () s = _
  unfold execPreciseUpdate
  rw [h]
  dsimp only
  split
  case isTrue => rfl
  case isFalse hn =>
    obtain ⟨hspoof, hinteg⟩ := not_or.1 hn
    obtain hs | hi | hp := hw
    · exact absurd hs hspoof
    · exact absurd (Option.isSome_iff_ne_none.2 hi) hinteg
    · rw [hp]

theorem exec_preciseUpdate (h : filterDue s .precise = some te) (hs : s.ary.spoof = false) (hi : filterDue s .integrity = none)
    (hp : precPredict (refreshViews s) te = some f) : exec (.preciseUpdate () () ()) s =
      .next (publishSol (precDone te (preciseEpoch (refreshViews s) te f) (refreshViews s))) := by
  show execPreciseUpdate () () () s = _
  unfold execPreciseUpdate
  rw [h]
  dsimp only
  rw [if_neg (by simp [hs, hi]), hp]
  dsimp only
  rw [preciseStep_eq]

theorem only_precCounted (te : Rat) (o : PreciseOut) (s : State) : only [.sol, .obs, .ctr] s (precCounted te o s) :=
  Touches.only (Touches.of fun u => by unfold precCounted precTaken; simp) s

theorem precCounted_sol (te : Rat) (o : PreciseOut) (s : State) : (precCounted te o s).sol = (precTaken te o s).sol := by
  have h : Touches [.obs, .ctr] fun u => bumpIf o.partial_ cSolArPartial (bumpIf o.fixed cSolArFixes (bumpIf o.reject cSolArRejectVal (bumpIf o.tried cSolArAttempts u))) :=
    Touches.of fun u => by simp
  exact Touches.kept h .sol (by decide) (precTaken te o s)

theorem precDone_sol (te : Rat) (o : PreciseOut) (s : State) : (precDone te o s).sol = (precTaken te o s).sol := by
  unfold precDone
  split <;> exact precCounted_sol te o s

theorem only_precDone (te : Rat) (o : PreciseOut) (s : State) : only [.sol, .mode, .obs, .ctr] s (precDone te o s) :=
  Touches.only (Touches.of fun u => by unfold precDone surveyLeft precCounted precTaken; simp) s

theorem surveyEnds_precCounted (te : Rat) (o : PreciseOut) (s : State) (limit : Nat) (r : SolRec) :
    surveyEnds limit r (precCounted te o s) = surveyEnds limit r s := by
  unfold surveyEnds
  rw [(only_precCounted te o s).kept .mode (by decide)]

/-- SURVEY ends with the epoch, or the mode state stays. -/
theorem precDone_mode (te : Rat) (o : PreciseOut) (s : State) : (precDone te o s).mode =
    if surveyEnds (10 * cfg s bootModesSurveyHpl) o.rec_ s then { s.mode with exitWhy := 1, decided := some (.full, 8, stNow s) } else s.mode := by
  have h := only_precCounted te o s
  have hmode : (precCounted te o s).mode = s.mode := h.kept .mode (by decide)
  have hnow : stNow (precCounted te o s) = stNow s := stNow_congr (h.kept .sky (by decide))
  unfold precDone
  rw [surveyEnds_precCounted]
  split
  · show { (precCounted te o s).mode with exitWhy := 1, decided := some (.full, 8, stNow (precCounted te o s)) } = _
    rw [hmode, hnow]
  · exact hmode

/-- Without a search the counts of searches and of fixes stay (07_solver R179). -/
theorem ctrGet_precDone (ht : o.tried = false) (hf : o.fixed = false) (hj : reportFree j) (hp : j ≠ cSolArPartial) (hr : j ≠ cSolArRejectVal) (te : Rat) (s : State) :
    ctrGet (precDone te o s) j = ctrGet s j := by
  have h : ctrGet (precCounted te o s) j = ctrGet s j := by
    unfold precCounted
    rw [ht, hf, ctrGet_bumpIf_free hj hp]
    exact ctrGet_bumpIf_free hj hr _ _
  unfold precDone
  split <;> exact h

/-- What a precise epoch leaves of the solver once it is published. -/
theorem precPublished_sol (te : Rat) (o : PreciseOut) (s : State) : (publishSol (precDone te o s)).sol = { (precTaken te o s).sol with
    shown := (publishSol (precDone te o s)).sol.shown
    count := (publishSol (precDone te o s)).sol.count
    lastPos := (publishSol (precDone te o s)).sol.lastPos
    attLast := (publishSol (precDone te o s)).sol.attLast } := by
  rw [← precDone_sol]
  exact (Published.of_publishSol _).sol

end Sys2Proof.Machine
end

section
/-!
SUPPORT. A precise epoch from its start to its publication (07_solver R157, R165, R169, R178, R179, R185).
-/

namespace Sys2Proof.Machine

variable {s t : State} {te : Rat} {o : PreciseOut} {j : Nat}

/-- The state after a precise epoch. -/
def precAfter (te : Rat) (o : PreciseOut) (s : State) : State := publishSol (precDone te o (refreshViews s))

theorem precTaken_sol (te : Rat) (o : PreciseOut) (s : State) : (precTaken te o s).sol = { s.sol with
    prec := some o.rec_
    precF := some o.mem
    iono := o.iono
    amb := o.amb
    wind := o.wind
    resets := []
    hold := holdNow s o.rec_
    holdSince := if steadyFix o.rec_ then some (s.sol.holdSince.getD te) else none
    done := s.sol.done.set 1 (some te) } := by
  unfold precTaken
  rw [markDone_sol]
  rfl

/-- What the epoch leaves of the solver. -/
theorem precAfter_sol (te : Rat) (o : PreciseOut) (s : State) : (precAfter te o s).sol = { (refreshViews s).sol with
    prec := some o.rec_
    precF := some o.mem
    iono := o.iono
    amb := o.amb
    wind := o.wind
    resets := []
    hold := holdNow s o.rec_
    holdSince := if steadyFix o.rec_ then some (s.sol.holdSince.getD te) else none
    done := s.sol.done.set 1 (some te)
    shown := (precAfter te o s).sol.shown
    count := (precAfter te o s).sol.count
    lastPos := (precAfter te o s).sol.lastPos
    attLast := (precAfter te o s).sol.attLast } := by
  have hdone : (refreshViews s).sol.done = s.sol.done := refreshViews_keeps (fun u => u.sol.done) (fun _ _ => rfl) s
  have hsince : (refreshViews s).sol.holdSince = s.sol.holdSince := refreshViews_keeps (fun u => u.sol.holdSince) (fun _ _ => rfl) s
  have hhold (r : SolRec) : holdNow (refreshViews s) r = holdNow s r := refreshViews_keeps (fun u => holdNow u r) (fun _ _ => rfl) s
  have h := precPublished_sol te o (refreshViews s)
  rw [precTaken_sol, hdone, hsince, hhold] at h
  exact h

theorem precAfter_sky (te : Rat) (o : PreciseOut) (s : State) : (precAfter te o s).sky = s.sky := by
  rw [precAfter, (Published.of_publishSol _).frame.kept .sky (by decide), (only_precDone te _ _).kept .sky (by decide), refreshViews_sky]

/-- Without a search no search and no fix is counted (07_solver R178, R179). -/
theorem ctrGet_precAfter (htried : o.tried = false) (hfixed : o.fixed = false) (hj : reportFree j) (hlow : j < 256)
    (hq : j ≠ cRfcQuietEntries) (hp : j ≠ cSolArPartial) (hr : j ≠ cSolArRejectVal) : ctrGet (precAfter te o s) j = ctrGet s j := by
  rw [precAfter, (Published.of_publishSol _).common j hj hlow hq, ctrGet_precDone htried hfixed hj hp hr, ctrGet_refreshViews]

/-- The mode state as the epoch leaves it before it is published. -/
theorem precDone_refreshed_mode (te : Rat) (o : PreciseOut) (s : State) : (precDone te o (refreshViews s)).mode =
    if surveyEnds (10 * cfg s bootModesSurveyHpl) o.rec_ s then { s.mode with exitWhy := 1, decided := some (.full, 8, stNow s) } else s.mode := by
  have hcfg : cfg (refreshViews s) bootModesSurveyHpl = cfg s bootModesSurveyHpl := refreshViews_keeps (fun u => cfg u bootModesSurveyHpl) (fun _ _ => rfl) s
  have hends (l : Nat) : surveyEnds l o.rec_ (refreshViews s) = surveyEnds l o.rec_ s := refreshViews_keeps (surveyEnds l o.rec_) (fun _ _ => rfl) s
  rw [precDone_mode, hcfg, hends, refreshViews_mode, stNow_congr (refreshViews_sky s)]

/-- A good enough epoch ends SURVEY (01_architecture Table 01-6). -/
theorem precAfter_ends (hlife : s.mode.life = .run) (hsafe : s.mode.fallback = false) (hmode : s.mode.mode = .survey)
    (h : surveyEnds (10 * cfg s bootModesSurveyHpl) o.rec_ s = true) :
    (precAfter te o s).mode.exitWhy = 1 ∧ (precAfter te o s).mode.decided ≠ none ∧
      ((precAfter te o s).rfc.quiet = false → (precAfter te o s).mode.decided = some (.full, 8, stNow s)) := by
  have hdone := precDone_refreshed_mode te o s
  rw [if_pos h] at hdone
  have hp := Published.of_publishSol (precDone te o (refreshViews s))
  refine ⟨?_, hp.stands (by rw [hdone]; exact hlife) (by rw [hdone]; exact hsafe) ?_ ?_ ?_, fun hq => ?_⟩
  · rw [precAfter, hp.mode, hdone]
  · rw [hdone, hmode]
    decide
  · rw [hdone, hmode]
    decide
  · rw [hdone]
    exact Option.some_ne_none _
  · rw [precAfter, hp.decided hq, hdone]

/-- Outside SURVEY, or below TYPE 2, the reason to leave it stays. -/
theorem precAfter_stays (h : s.mode.mode ≠ .survey ∨ o.rec_.type < 2) : (precAfter te o s).mode.exitWhy = s.mode.exitWhy := by
  have hends : surveyEnds (10 * cfg s bootModesSurveyHpl) o.rec_ s = false := by
    unfold surveyEnds
    obtain hm | ht := h
    · rw [decide_eq_false hm, Bool.and_false, Bool.false_and, Bool.false_and]
    · rw [decide_eq_false (Nat.not_le.2 ht), Bool.false_and, Bool.false_and, Bool.false_and]
  have hdone := precDone_refreshed_mode te o s
  rw [hends, if_neg Bool.false_ne_true] at hdone
  rw [precAfter, (Published.of_publishSol _).mode, hdone]

theorem holdNow_eq (s : State) (r : SolRec) : holdNow s r = if s.sol.hold ≠ none ∧ r.type = 4 then some r.sol.pos else s.sol.hold := by
  unfold holdNow
  exact if_congr (and_congr_left' Option.isSome_iff_ne_none) rfl rfl

theorem steadyFix_iff (r : SolRec) : steadyFix r = true ↔ r.type = 4 ∧ speedSq r.sol < 100 * 100 := by
  unfold steadyFix
  rw [Bool.and_eq_true, decide_eq_true_eq, decide_eq_true_eq]

end Sys2Proof.Machine
end

section
namespace Sys2Proof.Machine

variable {s : State} {te : Rat} {f : Filt}

theorem preciseUpdate_solves (h : filterDue s .precise = some te) (hspoof : s.ary.spoof = false) (hinteg : filterDue s .integrity = none)
    (hpred : precPredict (refreshViews s) te = some f) : completes (.preciseUpdate () () ()) s (fun t =>
      let v := refreshViews s
      let inDecided := fun (m : Mode) (s t : State) => t.mode.decided ≠ none ∧ (t.rfc.quiet = false → t.mode.decided = some (m, 8, stNow s))
      let o := preciseEpoch v te f
      let used := usedSats v true
      let first := (o.amb.filter (ambEligible v)).filter fun a => ambBand a == 0
      let fixed := (t.sol.amb.filter fun x => x.fixed.isSome && first.any fun a => a.place == x.place).length
      t.sol.done = s.sol.done.set 1 (some te) ∧ t.sol.std = s.sol.std ∧ t.sol.time = s.sol.time ∧ t.sky = s.sky ∧ t.sol.resets = [] ∧
      t.sol.precF = some o.mem ∧ o.mem.t = te ∧ t.sol.iono = grantIono v used ∧ t.sol.amb = o.amb ∧
      (first = [] → ctrGet t cSolArAttempts = ctrGet s cSolArAttempts ∧ ctrGet t cSolArFixes = ctrGet s cSolArFixes) ∧
      ∃ r, t.sol.prec = some r ∧ r.t = te ∧ r.used = used ∧ r.atm = decide (4 ≤ (used.filter (atmFor v)).length) ∧
        (used.length < 4 → r.type = 0) ∧
        (4 ≤ used.length → r.type = if cfg s solArArMin ≤ fixed then (if fixed = first.length then 4 else 3) else 2) ∧
        t.sol.hold = (if s.sol.hold ≠ none ∧ r.type = 4 then some r.sol.pos else s.sol.hold) ∧
        t.sol.holdSince = (if r.type = 4 ∧ speedSq r.sol < 100 * 100 then some (s.sol.holdSince.getD te) else none) ∧
        (s.mode.mode = .survey → s.mode.decided = none → 2 ≤ r.type → r.sol.h95 ≤ 10 * cfg s bootModesSurveyHpl → t.mode.exitWhy = 1 ∧ inDecided .full s t) ∧
        (s.mode.mode ≠ .survey ∨ r.type < 2 → t.mode.exitWhy = s.mode.exitWhy)) := by
  have hsol := precAfter_sol te (preciseEpoch (refreshViews s) te f) s
  have hstd : (refreshViews s).sol.std = s.sol.std := refreshViews_keeps (fun u => u.sol.std) (fun _ _ => rfl) s
  have htime : (refreshViews s).sol.time = s.sol.time := refreshViews_keeps (fun u => u.sol.time) (fun _ _ => rfl) s
  have hmin : cfg (refreshViews s) solArArMin = cfg s solArArMin := refreshViews_keeps (fun u => cfg u solArArMin) (fun _ _ => rfl) s
  have hamb : (precAfter te (preciseEpoch (refreshViews s) te f) s).sol.amb = (preciseEpoch (refreshViews s) te f).amb := by rw [hsol]
  have htype := preciseEpoch_type (refreshViews s) te f
  obtain ⟨hlife, hsafe⟩ := filterDue_serves h
  refine ⟨precAfter te (preciseEpoch (refreshViews s) te f) s, exec_preciseUpdate h hspoof hinteg hpred, ?_, ?_, ?_, precAfter_sky te _ s, ?_, ?_, rfl, ?_, hamb, fun hfirst => ?_,
    (preciseEpoch (refreshViews s) te f).rec_, ?_, rfl, rfl, rfl, fun hfew => ?_, fun hmany => ?_, ?_, ?_, fun hm hd ht hh => ?_, fun hno => precAfter_stays hno⟩
  · rw [hsol]
  · rw [hsol, hstd]
  · rw [hsol, htime]
  · rw [hsol]
  · rw [hsol]
  · rw [hsol]
    rfl
  · obtain ⟨htried, hfixed⟩ := preciseEpoch_untried hfirst
    exact ⟨ctrGet_precAfter htried hfixed (by unfold reportFree; decide) (by decide) (by decide) (by decide) (by decide),
      ctrGet_precAfter htried hfixed (by unfold reportFree; decide) (by decide) (by decide) (by decide) (by decide)⟩
  · rw [hsol]
  · rw [htype, decide_eq_false (Nat.not_le.2 hfew), typeOf_few]
  · rw [htype, decide_eq_true hmany, typeOf_enough, hmin, hamb]
    rfl
  · rw [hsol, ← holdNow_eq]
  · rw [hsol, ← if_congr (steadyFix_iff _) rfl rfl]
  · refine precAfter_ends hlife hsafe hm ?_
    unfold surveyEnds
    simp [hm, hd, ht, hh]

end Sys2Proof.Machine
end

section
/-!
SUPPORT. The time solution and the epochs in COLD (07_solver R164, R165, 01_architecture Table 01-6, 09_sky_time R222): what each moves of the state.
-/

namespace Sys2Proof.Machine

variable {s t u : State} {te : Rat} {m : FilterMem} {formed : Bool} {used : List SatId} {w : SatId} {off : Rat} {via : Bool} {c : ClockSolution} {b : Bool}

/-! ### GNSS usable and time trusted (01_architecture R18, 07_solver R164) -/

theorem timeTrusted_gnssTurned (b : Bool) (s : State) : timeTrusted (gnssTurned b s) = b := by
  cases b with
  | false => rfl
  | true =>
    unfold timeTrusted
    rw [gnssTurned_back_sky]
    rfl

theorem gnssUsable_gnssTurned (b : Bool) (s : State) : gnssUsable (gnssTurned b s) = b := by cases b <;> rfl

theorem gnssTurned_sky (b : Bool) (s : State) : (gnssTurned b s).sky = { s.sky with
    trustedSince := (gnssTurned b s).sky.trustedSince
    gnssReturned := (gnssTurned b s).sky.gnssReturned
    gnssFresh := (gnssTurned b s).sky.gnssFresh } := by
  cases b with
  | false => rfl
  | true => rw [gnssTurned_back_sky]

theorem gnssTurned_mode (b : Bool) (s : State) : (gnssTurned b s).mode =
    { s.mode with usableSince := (gnssTurned b s).mode.usableSince, unusableSince := (gnssTurned b s).mode.unusableSince } := by
  cases b <;> rfl

theorem gnssTurned_sol (b : Bool) (s : State) : (gnssTurned b s).sol = s.sol := (only_gnssTurned b s).kept .sol (by decide)

/-! ### The time solution (07_solver R164, R165) -/

/-- TIME_VALID of an epoch's time solution (07_solver R165). -/
def timeOk (formed : Bool) (used : List SatId) (c : ClockSolution) (s : State) : Bool :=
  (formed || s.sol.hold.isSome) && decide ((if s.sol.hold.isSome then 2 else cfg s solFdeTimeMinSv) ≤ used.length) &&
    decide (c.sigma ≤ 100 * cfg s solFdeTimeSigMax) && !s.sol.fail

theorem timeOk_iff : timeOk formed used c s = true ↔ (formed = true ∨ s.sol.hold ≠ none) ∧
    (if s.sol.hold = none then cfg s solFdeTimeMinSv else 2) ≤ used.length ∧ c.sigma ≤ 100 * cfg s solFdeTimeSigMax ∧ s.sol.fail = false := by
  unfold timeOk
  cases s.sol.hold <;> simp [and_assoc]

/-- The time solution as time keeping takes it. -/
def timeRefOf (te : Rat) (c : ClockSolution) (s : State) : TimeRef where
  st := te
  tick := (tickOf s te).toNat
  offset := (c.offset : Rat) / 4294967296
  drift := (c.drift : Rat) / 1000000000000
  sigma := (c.sigma : Rat) / 100
  rate := s.sky.seg.rate

/-- A time solution is held: for time keeping where it is valid, and as trusted without an alarm. -/
def timeSet (te : Rat) (c : ClockSolution) (via : Bool) (n : Nat) (valid : Bool) (s : State) : State := { s with
  sol := { s.sol with time := some (te, c, via, n), timeValid := valid }
  sky := { s.sky with
    sol := if valid then some (timeRefOf te c s) else s.sky.sol
    trustedSol := if valid && !s.ary.spoof then some (timeRefOf te c s) else s.sky.trustedSol } }

/-- No time solution. -/
def timeUnset (s : State) : State := { s with sol := { s.sol with timeValid := false } }

theorem timeStepSol_none (h : timeVia s used = none) : timeStepSol te m formed used s = gnssTurned false (timeUnset s) := by
  unfold timeStepSol
  rw [h]
  rfl

theorem timeStepSol_some (h : timeVia s used = some (w, off, via)) : timeStepSol te m formed used s =
    gnssTurned (timeOk formed used (clockOf s m w off via) s && !s.ary.spoof)
      (timeSet te (clockOf s m w off via) via used.length (timeOk formed used (clockOf s m w off via) s) s) := by
  unfold timeStepSol
  rw [h]
  rfl

/-- The time solution turns trust and usability as it is valid without an alarm; its own parts move before that (07_solver R164). -/
theorem timeStepSol_turned (te : Rat) (m : FilterMem) (formed : Bool) (used : List SatId) (s : State) : ∃ u,
    timeStepSol te m formed used s = gnssTurned (u.sol.timeValid && !s.ary.spoof) u ∧ only [.sol, .sky] s u ∧
    u.sol = { s.sol with time := u.sol.time, timeValid := u.sol.timeValid } ∧ u.sky = { s.sky with sol := u.sky.sol, trustedSol := u.sky.trustedSol } ∧
    (u.sol.timeValid = false → u.sky.sol = s.sky.sol) := by
  cases h : timeVia s used with
  | none =>
    refine ⟨timeUnset s, timeStepSol_none h, fun x => ?_, rfl, rfl, fun _ => rfl⟩
    cases x <;> simp [Part.same, timeUnset]
  | some q =>
    obtain ⟨w, off, via⟩ := q
    refine ⟨timeSet te (clockOf s m w off via) via used.length (timeOk formed used (clockOf s m w off via) s) s, timeStepSol_some h, fun x => ?_, rfl, rfl, fun hv => ?_⟩
    · cases x <;> simp [Part.same, timeSet]
    · show (if timeOk formed used (clockOf s m w off via) s then _ else s.sky.sol) = s.sky.sol
      have hv : timeOk formed used (clockOf s m w off via) s = false := hv
      rw [hv, if_neg Bool.false_ne_true]

/-- From `s` to `t` a time solution is formed, or none. -/
structure TimeFormed (s t : State) : Prop where
  frame : only [.sol, .sky, .mode] s t
  sol : t.sol = { s.sol with time := t.sol.time, timeValid := t.sol.timeValid }
  sky : t.sky = { s.sky with
    sol := t.sky.sol
    trustedSol := t.sky.trustedSol
    trustedSince := t.sky.trustedSince
    gnssReturned := t.sky.gnssReturned
    gnssFresh := t.sky.gnssFresh }
  mode : t.mode = { s.mode with usableSince := t.mode.usableSince, unusableSince := t.mode.unusableSince }
  trusted : timeTrusted t = (t.sol.timeValid && !s.ary.spoof)
  usable : gnssUsable t = (t.sol.timeValid && !s.ary.spoof)
  invalid : t.sol.timeValid = false → t.sky.sol = s.sky.sol

theorem TimeFormed.of_timeStepSol (te : Rat) (m : FilterMem) (formed : Bool) (used : List SatId) (s : State) :
    TimeFormed s (timeStepSol te m formed used s) := by
  obtain ⟨u, heq, hu, hsol, hsky, hinv⟩ := timeStepSol_turned te m formed used s
  rw [heq]
  generalize hb : (u.sol.timeValid && !s.ary.spoof) = b
  have hturned := gnssTurned_sol b u
  have hmode := gnssTurned_mode b u
  have hskyT := gnssTurned_sky b u
  exact {
    frame := only_trans (only_mono hu (by decide)) (only_mono (only_gnssTurned b u) (by decide))
    sol := by rw [hturned]; exact hsol
    sky := by
      rw [hskyT, hsky]
    mode := by
      rw [hmode, hu.kept .mode (by decide)]
    trusted := by rw [timeTrusted_gnssTurned, hturned, hb]
    usable := by rw [gnssUsable_gnssTurned, hturned, hb]
    invalid := fun h => by
      rw [hskyT]
      exact hinv (by rwa [hturned] at h) }

theorem TimeFormed.sameFix (h : TimeFormed s t) : SameFix s t := by
  have hsol := h.sol
  have hmode := h.mode
  exact ⟨by rw [hsol], by rw [hsol], by rw [hsol], by rw [hsol], by rw [h.frame.kept .ary (by decide)], by rw [hmode], by rw [hmode], by rw [hmode]⟩

/-! ### The fix of a layup period (01_architecture R488) -/

/-- The fix of LAYUP has a valid solution. -/
def fixSeen (s : State) : State :=
  if s.mode.mode = .layup ∧ pvtValid s then { s with mode := { s.mode with fixOk := some (s.mode.fixOk.getD (stNow s)) } } else s

theorem fixSeen_eq (s : State) : fixSeen s = { s with mode := { s.mode with fixOk := (fixSeen s).mode.fixOk } } := by
  unfold fixSeen
  split <;> rfl

theorem fixSeen_layup (h : s.mode.mode = .layup) : (fixSeen s).mode.fixOk.isSome = true ↔ s.mode.fixOk ≠ none ∨ pvtValid s = true := by
  unfold fixSeen
  split
  case isTrue hc => exact iff_of_true rfl (.inr hc.2)
  case isFalse hc =>
    rw [Option.isSome_iff_ne_none]
    exact ⟨.inl, Or.rec id fun hp => absurd ⟨h, hp⟩ hc⟩

theorem fixSeen_elsewhere (h : s.mode.mode ≠ .layup) : (fixSeen s).mode.fixOk = s.mode.fixOk := by
  unfold fixSeen
  rw [if_neg fun hc => h hc.1]

/-! ### The epochs in COLD (01_architecture Table 01-6, 09_sky_time R222) -/

/-- An epoch that counts: PVT and time valid, and no alarm. -/
def coldGood (s : State) : Bool := pvtValid s && s.sol.timeValid && !s.ary.spoof

/-- The run of such epochs, second after second, with that of a second. -/
def coldRunOf (sec : Nat) (good : Bool) (x : ModeState) : Nat :=
  if good then (if x.coldRun ≠ 0 ∧ x.coldLast + 1 = sec then x.coldRun + 1 else 1) else 0

/-- The epoch is counted. -/
def coldCounted (te : Rat) (s : State) : State :=
  { s with mode := { s.mode with coldRun := coldRunOf te.floor.toNat (coldGood s) s.mode, coldLast := te.floor.toNat } }

/-- OFFSET of the time solution in s. -/
def timeOffset (s : State) : Rat := match s.sol.time with | some (_, c, _, _) => (c.offset : Rat) / 4294967296 | none => 0

/-- SEED in s (09_sky_time R221). -/
def seedValue (s : State) : Rat := match s.sky.seed with | some d => d.value | none => 0

/-- First alignment is decided where it has not been made (09_sky_time R222). -/
def alignSet (s : State) : State :=
  if s.mode.aligned then s
  else { s with sky := { s.sky with alignDecided := some (seedValue s - timeOffset s), anchorAt := stepAnchor s } }

theorem coldEpoch_eq (te : Rat) (s : State) : coldEpoch te s =
    if s.mode.mode ≠ .cold ∨ s.mode.fallback ∨ te.den ≠ 1 then s
    else if (coldCounted te s).mode.coldRun < 5 ∨ s.mode.decided.isSome ∨ s.mode.target = .layup then coldCounted te s
    else decideTo (serviceMode s) 8 (alignSet (coldCounted te s)) := by
  have hserve : serviceMode (alignSet (coldCounted te s)) = serviceMode s := by
    unfold alignSet
    split <;> rfl
  rw [← hserve]
  unfold coldEpoch alignSet coldCounted
  rfl

theorem alignSet_mode (s : State) : (alignSet s).mode = s.mode := by
  unfold alignSet
  split <;> rfl

theorem stNow_alignSet (s : State) : stNow (alignSet s) = stNow s := by
  unfold alignSet
  split <;> rfl

theorem only_alignSet (s : State) : only [.sky] s (alignSet s) := Touches.only (Touches.of fun u => by unfold alignSet; split <;> simp) s

theorem coldEpoch_off (h : s.mode.mode ≠ .cold ∨ te.den ≠ 1) : coldEpoch te s = s := by
  rw [coldEpoch_eq, if_pos (h.imp_right .inr)]

/-- The fifth decides first alignment and the mode. -/
theorem coldEpoch_decides (hm : s.mode.mode = .cold) (hf : s.mode.fallback = false) (hd : te.den = 1)
    (h : 5 ≤ coldRunOf te.floor.toNat (coldGood s) s.mode) (hn : s.mode.decided = none) (ht : s.mode.target ≠ .layup) :
    coldEpoch te s = decideTo (serviceMode s) 8 (alignSet (coldCounted te s)) := by
  rw [coldEpoch_eq, if_neg (by simp [hm, hf, hd]), if_neg]
  rintro (hr | hs | hl)
  · exact absurd hr (Nat.not_lt.2 h)
  · rw [hn] at hs
    cases hs
  · exact ht hl

/-- From `s` to `t` an epoch in COLD is counted: the run and the decision move, and first alignment. -/
structure ColdSeen (s t : State) : Prop where
  frame : only [.mode, .sky] s t
  mode : t.mode = { s.mode with coldRun := t.mode.coldRun, coldLast := t.mode.coldLast, decided := t.mode.decided }
  sky : t.sky = { s.sky with alignDecided := t.sky.alignDecided, anchorAt := t.sky.anchorAt }

theorem ColdSeen.of_coldCounted (te : Rat) (s : State) : ColdSeen s (coldCounted te s) :=
  ⟨fun x => by cases x <;> simp [Part.same, coldCounted], rfl, rfl⟩

theorem ColdSeen.of_coldEpoch (te : Rat) (s : State) : ColdSeen s (coldEpoch te s) := by
  rw [coldEpoch_eq]
  split
  · exact ⟨fun x => .inr (by cases x <;> rfl), rfl, rfl⟩
  split
  · exact .of_coldCounted te s
  · have h := ColdSeen.of_coldCounted te s
    exact {
      frame := only_trans (only_trans h.frame (only_mono (only_alignSet _) (by decide)))
        (only_mono (Touches.only (touches_decideTo _ _) _) (by decide))
      mode := by
        unfold decideTo
        rw [alignSet_mode, h.mode]
      sky := by
        unfold decideTo alignSet
        split
        · exact h.sky
        · rfl }

theorem ColdSeen.sameFix (h : ColdSeen s t) : SameFix s t := by
  have hsol := h.frame.kept .sol (by decide)
  have hmode := h.mode
  exact ⟨by rw [hsol], by rw [hsol], by rw [hsol], by rw [hsol], by rw [h.frame.kept .ary (by decide)], by rw [hmode], by rw [hmode], by rw [hmode]⟩

/-- The run of a good epoch is what the fifth is counted by. -/
theorem coldEpoch_run (hm : s.mode.mode = .cold) (hf : s.mode.fallback = false) (hd : te.den = 1) :
    (coldEpoch te s).mode.coldRun = coldRunOf te.floor.toNat (coldGood s) s.mode ∧ (coldEpoch te s).mode.coldLast = te.floor.toNat := by
  rw [coldEpoch_eq, if_neg (by simp [hm, hf, hd])]
  split
  · exact ⟨rfl, rfl⟩
  · unfold decideTo
    rw [alignSet_mode]
    exact ⟨rfl, rfl⟩

/-- The fifth good epoch in a row decides the mode, and first alignment where it has not been made. -/
theorem coldEpoch_fifth (hm : s.mode.mode = .cold) (hf : s.mode.fallback = false) (hd : te.den = 1)
    (h : 5 ≤ coldRunOf te.floor.toNat (coldGood s) s.mode) (hn : s.mode.decided = none) (ht : s.mode.target ≠ .layup) :
    (coldEpoch te s).mode.decided = some (serviceMode s, 8, stNow s) ∧ (s.mode.aligned = false →
      (coldEpoch te s).sky.alignDecided = some (seedValue s - timeOffset s)) := by
  rw [coldEpoch_decides hm hf hd h hn ht]
  refine ⟨?_, fun ha => ?_⟩
  · unfold decideTo
    rw [stNow_alignSet]
    rfl
  · unfold decideTo alignSet
    rw [show (coldCounted te s).mode.aligned = false from ha, if_neg Bool.false_ne_true]
    rfl

end Sys2Proof.Machine
end

section
/-!
SUPPORT. A standalone epoch from its solution to its publication (07_solver R157, R163–R165).
-/

namespace Sys2Proof.Machine

variable {s t u : State} {te : Rat} {m : FilterMem} {formed : Bool} {used : List SatId} {w : SatId} {off : Rat} {via : Bool}

/-- A standalone solution goes out, unless the precise one is the published one. -/
def solGoes (s : State) : State := if pubPrecise s then writeSol s else publishSol s

/-- The epoch's end: the fix of LAYUP, the runs of COLD, and what is published. -/
def epochClosed (te : Rat) (s : State) : State := solGoes (coldEpoch te (fixSeen s))

/-- The standalone solution of an epoch is held, and the ring is consumed. -/
def stdTaken (te : Rat) (m : FilterMem) (used : List SatId) (s : State) : State :=
  let sol := solutionOf m.post (velFormed m.rows)
  consumeRing te (markDone .standalone te { s with sol := { s.sol with
    std := some ⟨te, sol, if formedBy m.rows then 1 else 0, false, used⟩
    stdF := if formedBy m.rows ∨ s.sol.stdF.isSome then some m else none
    hold := if tooFast sol then none else s.sol.hold } })

/-- The state after a standalone epoch, with the predictions brought up to date. -/
def stdAfter (te : Rat) (m : FilterMem) (used : List SatId) (s : State) : State :=
  epochClosed te (timeStepSol te m (formedBy m.rows) used (stdTaken te m used s))

theorem standaloneStep_eq (te : Rat) (s : State) : standaloneStep te s = stdAfter te (stdMem s te (usedSats s false)) (usedSats s false) s := by
  unfold stdAfter epochClosed solGoes stdTaken fixSeen standaloneStep
  rfl

theorem exec_standaloneUpdate (h : filterDue s .standalone = some te) : exec (.standaloneUpdate () ()) s =
    .next (stdAfter te (stdMem (refreshViews s) te (usedSats (refreshViews s) false)) (usedSats (refreshViews s) false) (refreshViews s)) := by
  show execStandaloneUpdate () () s = _
  unfold execStandaloneUpdate
  rw [h]
  dsimp only
  rw [standaloneStep_eq]

theorem Published.of_solGoes (s : State) : Published s (solGoes s) := by
  unfold solGoes
  split
  · exact .of_writeSol s
  · exact .of_publishSol s

theorem fixSeen_sameFix (s : State) : SameFix s (fixSeen s) := by
  rw [fixSeen_eq]
  exact ⟨rfl, rfl, rfl, rfl, rfl, rfl, rfl, rfl⟩

theorem epochClosed_sameFix (te : Rat) (s : State) : SameFix s (epochClosed te s) :=
  (fixSeen_sameFix s).trans ((ColdSeen.of_coldEpoch te _).sameFix.trans (Published.of_solGoes _).sameFix)

theorem epochClosed_sol (te : Rat) (s : State) : (epochClosed te s).sol = { s.sol with
    shown := (epochClosed te s).sol.shown
    count := (epochClosed te s).sol.count
    lastPos := (epochClosed te s).sol.lastPos
    attLast := (epochClosed te s).sol.attLast } := by
  have hfix : (fixSeen s).sol = s.sol := by rw [fixSeen_eq]
  have hcold := (ColdSeen.of_coldEpoch te (fixSeen s)).frame.kept .sol (by decide)
  have h := (Published.of_solGoes (coldEpoch te (fixSeen s))).sol
  rw [hcold, hfix] at h
  exact h

theorem epochClosed_sky_cold (te : Rat) (s : State) : (epochClosed te s).sky = (coldEpoch te (fixSeen s)).sky :=
  (Published.of_solGoes _).frame.kept .sky (by decide)

theorem epochClosed_sky (te : Rat) (s : State) : (epochClosed te s).sky =
    { s.sky with alignDecided := (epochClosed te s).sky.alignDecided, anchorAt := (epochClosed te s).sky.anchorAt } := by
  have hfix : (fixSeen s).sky = s.sky := by rw [fixSeen_eq]
  have h := (ColdSeen.of_coldEpoch te (fixSeen s)).sky
  rw [← epochClosed_sky_cold, hfix] at h
  exact h

theorem epochClosed_msr (te : Rat) (s : State) : (epochClosed te s).msr = s.msr := by
  rw [epochClosed, (Published.of_solGoes _).frame.kept .msr (by decide), (ColdSeen.of_coldEpoch te _).frame.kept .msr (by decide), fixSeen_eq]

theorem epochClosed_mode_cold (te : Rat) (s : State) : (epochClosed te s).mode =
    { (coldEpoch te (fixSeen s)).mode with stillSince := (epochClosed te s).mode.stillSince, decided := (epochClosed te s).mode.decided } :=
  (Published.of_solGoes _).mode

theorem epochClosed_mode (te : Rat) (s : State) : (epochClosed te s).mode = { s.mode with
    fixOk := (fixSeen s).mode.fixOk
    coldRun := (coldEpoch te (fixSeen s)).mode.coldRun
    coldLast := (coldEpoch te (fixSeen s)).mode.coldLast
    stillSince := (epochClosed te s).mode.stillSince
    decided := (epochClosed te s).mode.decided } := by
  have hfix : (fixSeen s).mode = { s.mode with fixOk := (fixSeen s).mode.fixOk } := by
    conv_lhs => rw [fixSeen_eq]
  have hcold := (ColdSeen.of_coldEpoch te (fixSeen s)).mode
  rw [epochClosed_mode_cold, hcold, hfix]

theorem timeTrusted_epochClosed (te : Rat) (s : State) : timeTrusted (epochClosed te s) = timeTrusted s := by
  unfold timeTrusted
  rw [epochClosed_sky]

theorem gnssUsable_epochClosed (te : Rat) (s : State) : gnssUsable (epochClosed te s) = gnssUsable s := by
  unfold gnssUsable
  rw [epochClosed_mode]

/-! ### What the epoch makes of COLD (01_architecture Table 01-6) -/

theorem fixSeen_cold (h : s.mode.mode ≠ .layup) : fixSeen s = s := by
  unfold fixSeen
  rw [if_neg fun hc => h hc.1]

theorem epochClosed_run (hm : s.mode.mode = .cold) (hf : s.mode.fallback = false) (hd : te.den = 1) :
    (epochClosed te s).mode.coldRun = coldRunOf te.floor.toNat (coldGood s) s.mode ∧ (epochClosed te s).mode.coldLast = te.floor.toNat := by
  have hcold : fixSeen s = s := fixSeen_cold (by rw [hm]; decide)
  rw [epochClosed_mode_cold, hcold]
  exact coldEpoch_run hm hf hd

theorem epochClosed_fifth (hl : s.mode.life = .run) (hm : s.mode.mode = .cold) (hf : s.mode.fallback = false) (hd : te.den = 1)
    (h : 5 ≤ coldRunOf te.floor.toNat (coldGood s) s.mode) (hn : s.mode.decided = none) (ht : s.mode.target ≠ .layup) :
    ((epochClosed te s).mode.decided ≠ none ∧ ((epochClosed te s).rfc.quiet = false → (epochClosed te s).mode.decided = some (serviceMode s, 8, stNow s))) ∧
      (s.mode.aligned = false →
        (epochClosed te s).sky.alignDecided = some ((match s.sky.seed with | some d => d.value | none => 0) - timeOffset s)) := by
  have hcold : fixSeen s = s := fixSeen_cold (by rw [hm]; decide)
  obtain ⟨hdec, halign⟩ := coldEpoch_fifth hm hf hd h hn ht
  have hp := Published.of_solGoes (coldEpoch te (fixSeen s))
  have hsame := (ColdSeen.of_coldEpoch te s).sameFix
  rw [epochClosed_sky_cold, hcold]
  rw [hcold] at hp
  refine ⟨⟨?_, fun hq => ?_⟩, halign⟩
  · rw [epochClosed, hcold]
    refine hp.stands (hsame.life.trans hl) (hsame.fallback.trans hf) ?_ ?_ ?_
    · rw [hsame.mode, hm]
      decide
    · rw [hsame.mode, hm]
      decide
    · rw [hdec]
      exact Option.some_ne_none _
  · rw [epochClosed, hcold] at hq ⊢
    rw [hp.decided hq, hdec]

theorem epochClosed_noAlign (h : s.mode.mode ≠ .cold ∨ te.den ≠ 1) : (epochClosed te s).sky.alignDecided = s.sky.alignDecided := by
  have hmode : (fixSeen s).mode.mode = s.mode.mode := (fixSeen_sameFix s).mode
  rw [epochClosed_sky_cold, coldEpoch_off (by rwa [hmode]), fixSeen_eq]

end Sys2Proof.Machine
end

section
/-!
SUPPORT. What a standalone epoch leaves (07_solver R157, R163–R165, 01_architecture R18, Table 01-6).
-/

namespace Sys2Proof.Machine

variable {s t u : State} {te : Rat} {m : FilterMem} {formed : Bool} {used : List SatId} {w : SatId} {off : Rat} {via : Bool}

/-! ### The solution is taken -/

theorem stdTaken_sol (te : Rat) (m : FilterMem) (used : List SatId) (s : State) : (stdTaken te m used s).sol = { s.sol with
    std := some ⟨te, solutionOf m.post (velFormed m.rows), if formedBy m.rows then 1 else 0, false, used⟩
    stdF := if formedBy m.rows ∨ s.sol.stdF.isSome then some m else none
    hold := if tooFast (solutionOf m.post (velFormed m.rows)) then none else s.sol.hold
    done := s.sol.done.set 0 (some te) } := by
  unfold stdTaken consumeRing
  dsimp only
  rw [markDone_sol]
  rfl

theorem stdTaken_msr (te : Rat) (m : FilterMem) (used : List SatId) (s : State) :
    (stdTaken te m used s).msr = { s.msr with ring := s.msr.ring.filter fun x => decide (te < x.st) } := rfl

theorem only_stdTaken (te : Rat) (m : FilterMem) (used : List SatId) (s : State) : only [.sol, .msr] s (stdTaken te m used s) :=
  Touches.only (Touches.of fun u => by unfold stdTaken; simp) s

/-! ### The time solution of the epoch -/

theorem timeVia_congr (h : t.msr.offsets = s.msr.offsets) (used : List SatId) : timeVia t used = timeVia s used := by
  unfold timeVia
  rw [h]

theorem clockOf_congr (h : t.sol.hold = s.sol.hold) (m : FilterMem) (w : SatId) (off : Rat) (via : Bool) : clockOf t m w off via = clockOf s m w off via := by
  unfold clockOf timeFilt
  rw [h]

/-- Without a way to GPS time the last time solution stays and is invalid (07_solver R164). -/
theorem timeStepSol_lapses (h : timeVia s used = none) :
    (timeStepSol te m formed used s).sol.timeValid = false ∧ (timeStepSol te m formed used s).sol.time = s.sol.time := by
  rw [timeStepSol_none h, gnssTurned_sol]
  exact ⟨rfl, rfl⟩

/-- The time solution that is formed, its validity, and what time keeping takes (07_solver R164, R165). -/
theorem timeStepSol_forms (h : timeVia s used = some (w, off, via)) :
    (timeStepSol te m formed used s).sol.time = some (te, clockOf s m w off via, via, used.length) ∧
      (timeStepSol te m formed used s).sol.timeValid = timeOk formed used (clockOf s m w off via) s ∧
      ((timeStepSol te m formed used s).sol.timeValid = true → (timeStepSol te m formed used s).sky.sol = some (timeRefOf te (clockOf s m w off via) s)) := by
  rw [timeStepSol_some h, gnssTurned_sol, gnssTurned_sky]
  exact ⟨rfl, rfl, fun hv => if_pos hv⟩

/-! ### The whole epoch -/

theorem stdAfter_formed (te : Rat) (m : FilterMem) (used : List SatId) (s : State) :
    TimeFormed (stdTaken te m used s) (timeStepSol te m (formedBy m.rows) used (stdTaken te m used s)) := .of_timeStepSol _ _ _ _ _

theorem stdAfter_sol (te : Rat) (m : FilterMem) (used : List SatId) (s : State) : (stdAfter te m used s).sol = { s.sol with
    std := some ⟨te, solutionOf m.post (velFormed m.rows), if formedBy m.rows then 1 else 0, false, used⟩
    stdF := if formedBy m.rows ∨ s.sol.stdF.isSome then some m else none
    hold := if tooFast (solutionOf m.post (velFormed m.rows)) then none else s.sol.hold
    done := s.sol.done.set 0 (some te)
    time := (timeStepSol te m (formedBy m.rows) used (stdTaken te m used s)).sol.time
    timeValid := (timeStepSol te m (formedBy m.rows) used (stdTaken te m used s)).sol.timeValid
    shown := (stdAfter te m used s).sol.shown
    count := (stdAfter te m used s).sol.count
    lastPos := (stdAfter te m used s).sol.lastPos
    attLast := (stdAfter te m used s).sol.attLast } := by
  have h := epochClosed_sol te (timeStepSol te m (formedBy m.rows) used (stdTaken te m used s))
  have hsol := (stdAfter_formed te m used s).sol
  rw [stdTaken_sol] at hsol
  rw [hsol] at h
  exact h

theorem stdAfter_msr (te : Rat) (m : FilterMem) (used : List SatId) (s : State) :
    (stdAfter te m used s).msr = { s.msr with ring := s.msr.ring.filter fun x => decide (te < x.st) } := by
  rw [stdAfter, epochClosed_msr, (stdAfter_formed te m used s).frame.kept .msr (by decide), stdTaken_msr]

theorem stdAfter_spoof (te : Rat) (m : FilterMem) (used : List SatId) (s : State) :
    (timeStepSol te m (formedBy m.rows) used (stdTaken te m used s)).ary.spoof = s.ary.spoof := by
  rw [(stdAfter_formed te m used s).sameFix.spoof, (only_stdTaken te m used s).kept .ary (by decide)]

theorem timeTrusted_stdAfter (te : Rat) (m : FilterMem) (used : List SatId) (s : State) :
    timeTrusted (stdAfter te m used s) = ((stdAfter te m used s).sol.timeValid && !s.ary.spoof) := by
  rw [stdAfter, timeTrusted_epochClosed, (stdAfter_formed te m used s).trusted, epochClosed_sol, (only_stdTaken te m used s).kept .ary (by decide)]

theorem gnssUsable_stdAfter (te : Rat) (m : FilterMem) (used : List SatId) (s : State) :
    gnssUsable (stdAfter te m used s) = timeTrusted (stdAfter te m used s) := by
  rw [stdAfter, timeTrusted_epochClosed, gnssUsable_epochClosed, (stdAfter_formed te m used s).trusted, (stdAfter_formed te m used s).usable]

theorem stdAfter_invalid (h : (stdAfter te m used s).sol.timeValid = false) : (stdAfter te m used s).sky.sol = s.sky.sol := by
  rw [stdAfter_sol] at h
  rw [stdAfter, epochClosed_sky]
  show (timeStepSol te m (formedBy m.rows) used (stdTaken te m used s)).sky.sol = s.sky.sol
  rw [(stdAfter_formed te m used s).invalid h, (only_stdTaken te m used s).kept .sky (by decide)]

theorem stdTaken_via (te : Rat) (m : FilterMem) (used l : List SatId) (s : State) : timeVia (stdTaken te m used s) l = timeVia s l :=
  timeVia_congr (by rw [stdTaken_msr]) l

theorem stdAfter_lapses (h : timeVia s used = none) :
    (stdAfter te m used s).sol.timeValid = false ∧ (stdAfter te m used s).sol.time = s.sol.time := by
  have hlapse := timeStepSol_lapses (te := te) (m := m) (formed := formedBy m.rows) ((stdTaken_via te m used used s).trans h)
  obtain ⟨hvalid, htime⟩ := hlapse
  rw [stdTaken_sol] at htime
  rw [stdAfter_sol]
  exact ⟨hvalid, htime⟩

theorem stdAfter_hold (te : Rat) (m : FilterMem) (used : List SatId) (s : State) : (stdAfter te m used s).sol.hold = (stdTaken te m used s).sol.hold := by
  rw [stdAfter_sol, stdTaken_sol]

theorem stdAfter_forms (h : timeVia s used = some (w, off, via)) :
    (stdAfter te m used s).sol.time = some (te, clockOf (stdAfter te m used s) m w off via, via, used.length) ∧
      ((stdAfter te m used s).sol.timeValid = true ↔ (formedBy m.rows = true ∨ (stdAfter te m used s).sol.hold ≠ none) ∧
        (if (stdAfter te m used s).sol.hold = none then cfg s solFdeTimeMinSv else 2) ≤ used.length ∧
        (clockOf (stdAfter te m used s) m w off via).sigma ≤ 100 * cfg s solFdeTimeSigMax ∧ s.sol.fail = false) ∧
      ((stdAfter te m used s).sol.timeValid = true → (stdAfter te m used s).sky.sol = some (timeRefOf te (clockOf (stdAfter te m used s) m w off via) s)) := by
  have hforms := timeStepSol_forms (te := te) (m := m) (formed := formedBy m.rows) ((stdTaken_via te m used used s).trans h)
  obtain ⟨htime, hvalid, hsky⟩ := hforms
  have hhold := stdAfter_hold te m used s
  have hclock := clockOf_congr hhold m w off via
  have hboot : (stdTaken te m used s).boot = s.boot := (only_stdTaken te m used s).kept .boot (by decide)
  have hseg : (stdTaken te m used s).sky = s.sky := (only_stdTaken te m used s).kept .sky (by decide)
  have hfail : (stdTaken te m used s).sol.fail = s.sol.fail := by rw [stdTaken_sol]
  have hvalidT : (stdAfter te m used s).sol.timeValid = (timeStepSol te m (formedBy m.rows) used (stdTaken te m used s)).sol.timeValid := by rw [stdAfter_sol]
  have htimeT : (stdAfter te m used s).sol.time = (timeStepSol te m (formedBy m.rows) used (stdTaken te m used s)).sol.time := by rw [stdAfter_sol]
  rw [htimeT, hvalidT, hclock, hhold, htime]
  refine ⟨rfl, ?_, fun hv => ?_⟩
  · rw [hvalid, timeOk_iff, hfail, cfg_congr hboot]
  · rw [stdAfter, epochClosed_sky]
    show (timeStepSol te m (formedBy m.rows) used (stdTaken te m used s)).sky.sol = _
    rw [hsky hv]
    unfold timeRefOf tickOf
    rw [hseg]

/-! ### The modes (01_architecture R18, R488, Table 01-6) -/

theorem stdAfter_formed_mode (te : Rat) (m : FilterMem) (used : List SatId) (s : State) :
    (timeStepSol te m (formedBy m.rows) used (stdTaken te m used s)).mode = { s.mode with
      usableSince := (timeStepSol te m (formedBy m.rows) used (stdTaken te m used s)).mode.usableSince
      unusableSince := (timeStepSol te m (formedBy m.rows) used (stdTaken te m used s)).mode.unusableSince } := by
  have h := (stdAfter_formed te m used s).mode
  rw [(only_stdTaken te m used s).kept .mode (by decide)] at h
  exact h

/-- What COLD counts of the epoch: what is published is as valid as before. -/
theorem stdAfter_good (te : Rat) (m : FilterMem) (used : List SatId) (s : State) :
    coldGood (timeStepSol te m (formedBy m.rows) used (stdTaken te m used s)) =
      (pvtValid (stdAfter te m used s) && (stdAfter te m used s).sol.timeValid && !s.ary.spoof) := by
  unfold coldGood
  rw [stdAfter_spoof, stdAfter, (epochClosed_sameFix te _).pvtValid, epochClosed_sol]

theorem stdAfter_layup (h : s.mode.mode = .layup) : (stdAfter te m used s).mode.fixOk.isSome = true ↔
    s.mode.fixOk ≠ none ∨ pvtValid (stdAfter te m used s) = true := by
  have hmode := stdAfter_formed_mode te m used s
  rw [stdAfter, (epochClosed_sameFix te _).pvtValid, epochClosed_mode]
  show (fixSeen _).mode.fixOk.isSome = true ↔ _
  rw [fixSeen_layup (by rw [hmode]; exact h), hmode]

theorem stdAfter_elsewhere (h : s.mode.mode ≠ .layup) : (stdAfter te m used s).mode.fixOk = s.mode.fixOk := by
  have hmode := stdAfter_formed_mode te m used s
  rw [stdAfter, epochClosed_mode]
  show (fixSeen _).mode.fixOk = _
  rw [fixSeen_elsewhere (by rw [hmode]; exact h), hmode]

/-- The run of good COLD epochs with this one. -/
def coldRunAfter (te : Rat) (s t : State) : Nat := coldRunOf te.floor.toNat (pvtValid t && t.sol.timeValid && !s.ary.spoof) s.mode

theorem stdAfter_coldRun (te : Rat) (m : FilterMem) (used : List SatId) (s : State) :
    coldRunOf te.floor.toNat (coldGood (timeStepSol te m (formedBy m.rows) used (stdTaken te m used s)))
      (timeStepSol te m (formedBy m.rows) used (stdTaken te m used s)).mode = coldRunAfter te s (stdAfter te m used s) := by
  rw [stdAfter_good, stdAfter_formed_mode]
  rfl

theorem stdAfter_counts (hm : s.mode.mode = .cold) (hf : s.mode.fallback = false) (hd : te.den = 1) :
    (stdAfter te m used s).mode.coldRun = coldRunAfter te s (stdAfter te m used s) ∧ (stdAfter te m used s).mode.coldLast = te.floor.toNat := by
  have hmode := stdAfter_formed_mode te m used s
  rw [← stdAfter_coldRun]
  exact epochClosed_run (by rw [hmode]; exact hm) (by rw [hmode]; exact hf) hd

theorem stdAfter_fifth (hl : s.mode.life = .run) (hm : s.mode.mode = .cold) (hf : s.mode.fallback = false) (hd : te.den = 1)
    (h : 5 ≤ coldRunAfter te s (stdAfter te m used s)) (hn : s.mode.decided = none) (ht : s.mode.target ≠ .layup) :
    ((stdAfter te m used s).mode.decided ≠ none ∧
        ((stdAfter te m used s).rfc.quiet = false → (stdAfter te m used s).mode.decided = some (serviceMode s, 8, stNow s))) ∧
      (s.mode.aligned = false → (stdAfter te m used s).sky.alignDecided =
        some (seedValue s - timeOffset (stdAfter te m used s))) := by
  have hmode := stdAfter_formed_mode te m used s
  have hformed := (stdAfter_formed te m used s).sky
  rw [(only_stdTaken te m used s).kept .sky (by decide)] at hformed
  have hserve : serviceMode (timeStepSol te m (formedBy m.rows) used (stdTaken te m used s)) = serviceMode s := by
    unfold serviceMode
    rw [hmode]
  have hnow : stNow (timeStepSol te m (formedBy m.rows) used (stdTaken te m used s)) = stNow s :=
    stNow_of_segment (by rw [hformed]) (by rw [hformed])
  have hoffset : timeOffset (stdAfter te m used s) = timeOffset (timeStepSol te m (formedBy m.rows) used (stdTaken te m used s)) := by
    unfold timeOffset
    rw [stdAfter, epochClosed_sol]
  rw [← stdAfter_coldRun] at h
  have hfifth := epochClosed_fifth (by rw [hmode]; exact hl) (by rw [hmode]; exact hm) (by rw [hmode]; exact hf) hd h (by rw [hmode]; exact hn)
    (by rw [hmode]; exact ht)
  rw [hserve, hnow, ← hoffset] at hfifth
  obtain ⟨hdec, halign⟩ := hfifth
  refine ⟨hdec, fun ha => ?_⟩
  rw [stdAfter, halign (by rw [hmode]; exact ha), hformed]
  rfl

theorem stdAfter_noAlign (h : s.mode.mode ≠ .cold ∨ te.den ≠ 1) : (stdAfter te m used s).sky.alignDecided = s.sky.alignDecided := by
  have hmode := stdAfter_formed_mode te m used s
  have hformed := (stdAfter_formed te m used s).sky
  rw [(only_stdTaken te m used s).kept .sky (by decide)] at hformed
  rw [stdAfter, epochClosed_noAlign (by rw [hmode]; exact h), hformed]

end Sys2Proof.Machine
end

section
/-!
OBLIGATION O40. The filters take their epochs (07_solver R156, R157, R160, R163, R164, R169, R179, R182, R186, 01_architecture R18).
-/

namespace Sys2Proof.Machine

variable {s t : State} {te : Rat} {m : FilterMem} {used : List SatId} {w : SatId} {off : Rat} {via : Bool}

theorem timeOffset_of {c : ClockSolution} {n : Nat} (h : s.sol.time = some (te, c, via, n)) : timeOffset s = (c.offset : Rat) / 4294967296 := by
  simp only [timeOffset, h]

/-- The state after a standalone epoch of these numbers and satellites. -/
def standaloneAfter (te : Rat) (m : FilterMem) (used : List SatId) (s : State) : State := stdAfter te m used (refreshViews s)

theorem standaloneAfter_sol (te : Rat) (m : FilterMem) (used : List SatId) (s : State) :
    let sol := solutionOf m.post (velFormed m.rows)
    (standaloneAfter te m used s).sol.std = some ⟨te, sol, if formedBy m.rows then 1 else 0, false, used⟩ ∧
      (standaloneAfter te m used s).sol.done = s.sol.done.set 0 (some te) ∧ (standaloneAfter te m used s).sol.prec = s.sol.prec ∧
      (standaloneAfter te m used s).sol.stdF = (if formedBy m.rows = true ∨ s.sol.stdF ≠ none then some m else none) ∧
      (standaloneAfter te m used s).sol.view = (refreshViews s).sol.view ∧ (standaloneAfter te m used s).sol.hold = (if tooFast sol = true then none else s.sol.hold) := by
  have hdone : (refreshViews s).sol.done = s.sol.done := refreshViews_keeps (fun u => u.sol.done) (fun _ _ => rfl) s
  have hprec : (refreshViews s).sol.prec = s.sol.prec := refreshViews_keeps (fun u => u.sol.prec) (fun _ _ => rfl) s
  have hstdF : (refreshViews s).sol.stdF = s.sol.stdF := refreshViews_keeps (fun u => u.sol.stdF) (fun _ _ => rfl) s
  have hhold : (refreshViews s).sol.hold = s.sol.hold := refreshViews_keeps (fun u => u.sol.hold) (fun _ _ => rfl) s
  dsimp only
  rw [standaloneAfter, stdAfter_sol, hdone, hprec, hstdF, hhold]
  exact ⟨rfl, rfl, rfl, if_congr (or_congr_right Option.isSome_iff_ne_none) rfl rfl, rfl, rfl⟩

theorem standaloneAfter_msr (te : Rat) (m : FilterMem) (used : List SatId) (s : State) :
    (standaloneAfter te m used s).msr = { s.msr with ring := s.msr.ring.filter fun x => decide (te < x.st) } := by
  rw [standaloneAfter, stdAfter_msr, refreshViews_msr]

theorem timeVia_refreshViews (s : State) (used : List SatId) : timeVia (refreshViews s) used = timeVia s used := by
  unfold timeVia
  rw [refreshViews_msr]

theorem standaloneAfter_lapses (h : timeVia s used = none) :
    (standaloneAfter te m used s).sol.timeValid = false ∧ (standaloneAfter te m used s).sol.time = s.sol.time := by
  have htime : (refreshViews s).sol.time = s.sol.time := refreshViews_keeps (fun u => u.sol.time) (fun _ _ => rfl) s
  rw [← timeVia_refreshViews] at h
  rw [← htime]
  exact stdAfter_lapses h

theorem standaloneAfter_forms (h : timeVia s used = some (w, off, via)) :
    let clk := clockOf (standaloneAfter te m used s) m w off via
    (standaloneAfter te m used s).sol.time = some (te, clk, via, used.length) ∧
      ((standaloneAfter te m used s).sol.timeValid = true ↔ (formedBy m.rows = true ∨ (standaloneAfter te m used s).sol.hold ≠ none) ∧
        (if (standaloneAfter te m used s).sol.hold = none then cfg s solFdeTimeMinSv else 2) ≤ used.length ∧
        clk.sigma ≤ 100 * cfg s solFdeTimeSigMax ∧ s.sol.fail = false) ∧
      ((standaloneAfter te m used s).sol.timeValid = true → (standaloneAfter te m used s).sky.sol = some (timeRefOf te clk s)) := by
  have hcfg : cfg (refreshViews s) = cfg s := cfg_congr (refreshViews_keeps (fun u => u.boot) (fun _ _ => rfl) s)
  have hfail : (refreshViews s).sol.fail = s.sol.fail := refreshViews_keeps (fun u => u.sol.fail) (fun _ _ => rfl) s
  have href (c : ClockSolution) : timeRefOf te c (refreshViews s) = timeRefOf te c s := refreshViews_keeps (timeRefOf te c) (fun _ _ => rfl) s
  rw [← timeVia_refreshViews] at h
  have hforms := stdAfter_forms (te := te) (m := m) h
  rw [hcfg, hfail, href] at hforms
  exact hforms

theorem standaloneAfter_trusted (te : Rat) (m : FilterMem) (used : List SatId) (s : State) :
    timeTrusted (standaloneAfter te m used s) = true ↔ (standaloneAfter te m used s).sol.timeValid = true ∧ s.ary.spoof = false := by
  have hspoof : (refreshViews s).ary.spoof = s.ary.spoof := refreshViews_keeps (fun u => u.ary.spoof) (fun _ _ => rfl) s
  rw [standaloneAfter, timeTrusted_stdAfter, hspoof, Bool.and_eq_true, Bool.not_eq_true']

/-- The run of good COLD epochs with this one is what the statement counts. -/
theorem coldRunAfter_refreshViews (te : Rat) (s t : State) : coldRunAfter te (refreshViews s) t =
    if (pvtValid t && t.sol.timeValid && !s.ary.spoof) = true then
      (if s.mode.coldRun ≠ 0 ∧ s.mode.coldLast + 1 = te.floor.toNat then s.mode.coldRun + 1 else 1) else 0 := by
  have hspoof : (refreshViews s).ary.spoof = s.ary.spoof := refreshViews_keeps (fun u => u.ary.spoof) (fun _ _ => rfl) s
  rw [coldRunAfter, coldRunOf, hspoof, refreshViews_mode]

theorem standaloneAfter_fifth (hl : s.mode.life = .run) (hm : s.mode.mode = .cold) (hf : s.mode.fallback = false) (hd : te.den = 1)
    (h : 5 ≤ coldRunAfter te (refreshViews s) (standaloneAfter te m used s)) (hn : s.mode.decided = none) (ht : s.mode.target ≠ .layup) :
    ((standaloneAfter te m used s).mode.decided ≠ none ∧
        ((standaloneAfter te m used s).rfc.quiet = false → (standaloneAfter te m used s).mode.decided = some (serviceMode s, 8, stNow s))) ∧
      (s.mode.aligned = false → (standaloneAfter te m used s).sky.alignDecided =
        some (seedValue s - timeOffset (standaloneAfter te m used s))) := by
  have hmode := refreshViews_mode s
  have hserve : serviceMode (refreshViews s) = serviceMode s := refreshViews_keeps serviceMode (fun _ _ => rfl) s
  have hnow : stNow (refreshViews s) = stNow s := stNow_congr (refreshViews_sky s)
  have hseed : seedValue (refreshViews s) = seedValue s := refreshViews_keeps seedValue (fun _ _ => rfl) s
  have hfifth := stdAfter_fifth (by rw [hmode]; exact hl) (by rw [hmode]; exact hm) (by rw [hmode]; exact hf) hd h (by rw [hmode]; exact hn)
    (by rw [hmode]; exact ht)
  rw [hserve, hnow, hseed, hmode] at hfifth
  exact hfifth

/-- Settles O40: each filter is taken apart into the solution it holds, what is published of it, and what the modes and time keeping make of it. -/
theorem filtersUpdate : Obligations.FiltersUpdate := by
  unfold Obligations.FiltersUpdate
  refine ⟨fun s te h => ⟨_, exec_standaloneUpdate h, ?_⟩,
    fun s te h => ⟨fun hw => ⟨s, exec_preciseUpdate_waits h hw, rfl⟩, fun f hspoof hinteg hpred => preciseUpdate_solves h hspoof hinteg hpred⟩,
    fun s te h => attitudeUpdate_publishes h, fun s f te h => ⟨_, exec_solSkip h, ?_, counted_bump _ _⟩⟩
  · dsimp only
    generalize stdMem (refreshViews s) te (usedSats (refreshViews s) false) = m
    generalize usedSats (refreshViews s) false = used
    obtain ⟨hlife, hsafe⟩ := filterDue_serves h
    obtain ⟨hstd, hdone, hprec, hstdF, hview, hhold⟩ := standaloneAfter_sol te m used s
    have hmode := refreshViews_mode s
    refine ⟨hstd, hdone, hprec, hstdF, hview, standaloneAfter_msr te m used s, hhold, standaloneAfter_lapses, fun w off via hvia => ?_,
      standaloneAfter_trusted te m used s, gnssUsable_stdAfter _ _ _ _, fun hinv => ?_, fun hm => ?_, fun hm => ?_, fun hm hd => ?_,
      fun hm hd hrun hn ht => ?_, fun hno => ?_⟩
    · obtain ⟨htime, hvalid, hsky⟩ := standaloneAfter_forms (te := te) (m := m) hvia
      exact ⟨htime, hvalid, fun hv => ⟨_, hsky hv, rfl, rfl, rfl, rfl⟩⟩
    · rw [← refreshViews_sky s]
      exact stdAfter_invalid hinv
    · rw [← hmode]
      exact stdAfter_layup (by rw [hmode]; exact hm)
    · rw [← hmode]
      exact stdAfter_elsewhere (by rw [hmode]; exact hm)
    · rw [← coldRunAfter_refreshViews]
      exact stdAfter_counts (by rw [hmode]; exact hm) (by rw [hmode]; exact hsafe) hd
    · rw [← coldRunAfter_refreshViews] at hrun
      obtain ⟨hdec, halign⟩ := standaloneAfter_fifth hlife hm hsafe hd hrun hn ht
      refine ⟨hdec, fun ha c via n htime => ?_⟩
      exact (halign ha).trans (congrArg (fun q => some (seedValue s - q)) (timeOffset_of htime))
    · rw [← refreshViews_sky s]
      exact stdAfter_noAlign (by rw [hmode]; exact hno)
  · rw [bump_eta]
    rfl

end Sys2Proof.Machine
end

section
/-!
SUPPORT. Solution separation (07_solver R183): the subsets of a pass, the one that fails worst, the levels of a pass, and the passes one after another.
-/

namespace Sys2Proof.Machine

variable {s : State} {m : FilterMem} {fuel n : Nat} {ex : List SatId} {x w : Subset} {l : List Subset} {v : SatId}

/-! ### A pass -/

/-- The solution of a pass: all in view, without what the passes before excluded. -/
def passAll (m : FilterMem) (ex : List SatId) : Filt := if ex = [] then m.post else Config.estimate m.pre (rowsWithout ex m.rows)

/-- Its local frame. -/
def passFrame (m : FilterMem) (ex : List SatId) : Vec3 × Vec3 × Vec3 := localFrame (positionOf (fvec (passAll m ex) 0))

/-- Its subsets. -/
def passSubs (s : State) (m : FilterMem) (ex : List SatId) : List Subset :=
  (subsetSats s (codeSats (rowsWithout ex m.rows))).map (subsetOf m (rowsWithout ex m.rows) (passAll m ex) (passFrame m ex))

/-- The pass leaves out each satellite alone. -/
theorem passSubs_single (hv : v ∈ codeSats (rowsWithout ex m.rows)) : ∃ x ∈ passSubs s m ex, x.without = [v] :=
  ⟨_, List.mem_map_of_mem (List.mem_append_left _ (List.mem_map_of_mem hv)), rfl⟩

/-- With SUBSET_CONST it leaves out each constellation. -/
theorem passSubs_const (hc : cfgB s solFdeSubsetConst = true) (hv : v ∈ codeSats (rowsWithout ex m.rows)) :
    ∃ x ∈ passSubs s m ex, x.without = (codeSats (rowsWithout ex m.rows)).filter fun y => y.const == v.const := by
  refine ⟨_, List.mem_map_of_mem (List.mem_append_right _ ?_), rfl⟩
  rw [if_pos hc]
  exact List.mem_map_of_mem (List.mem_dedup.2 (List.mem_map_of_mem hv))

/-! ### The subset that fails worst -/

theorem worstSubset_eq_argmax (s : State) (l : List Subset) : worstSubset s l = (l.filter (subsetFails s)).argmax subsetTest := by
  unfold worstSubset List.argmax
  congr 1
  funext b x
  cases b with
  | none => rfl
  | some y => exact if_congr Iff.rfl rfl rfl

theorem worstSubset_none (h : ∀ x ∈ l, subsetFails s x = false) : worstSubset s l = none := by
  rw [worstSubset_eq_argmax, List.argmax_eq_none, List.filter_eq_nil_iff]
  exact fun x hx => by rw [h x hx]; exact Bool.false_ne_true

/-- Where a subset fails, the worst is one that fails, and none that fails has a larger statistic. -/
theorem worstSubset_some (h : ∃ x ∈ l, subsetFails s x = true) : ∃ w, worstSubset s l = some w ∧ w ∈ l ∧ subsetFails s w = true ∧
    ∀ x ∈ l, subsetFails s x = true → subsetTest x ≤ subsetTest w := by
  obtain ⟨y, hy, hf⟩ := h
  have hne : worstSubset s l ≠ none := by
    rw [worstSubset_eq_argmax, Ne, List.argmax_eq_none]
    exact List.ne_nil_of_mem (List.mem_filter.2 ⟨hy, hf⟩)
  obtain ⟨w, hw⟩ := Option.ne_none_iff_exists'.1 hne
  have hmax := (worstSubset_eq_argmax s l).symm.trans hw
  obtain ⟨hmem, hfails⟩ := List.mem_filter.1 (List.argmax_mem hmax)
  exact ⟨w, hw, hmem, hfails, fun x hx hxf => List.le_of_mem_argmax (List.mem_filter.2 ⟨hx, hxf⟩) hmax⟩

/-! ### The levels of a pass -/

/-- The largest of a number and of a quantity over a list. -/
def largest {α : Type} (f : α → Rat) (a : Rat) (l : List α) : Rat := l.foldl (fun q x => max q (f x)) a

theorem le_largest {α : Type} (f : α → Rat) (a : Rat) (l : List α) : a ≤ largest f a l := by
  induction l generalizing a with
  | nil => exact le_refl a
  | cons x l ih => exact le_trans (le_max_left a (f x)) (ih _)

theorem mem_le_largest {α : Type} {f : α → Rat} {x : α} {l : List α} (hx : x ∈ l) (a : Rat) : f x ≤ largest f a l := by
  induction l generalizing a with
  | nil => cases hx
  | cons y l ih =>
    obtain rfl | hx := List.mem_cons.1 hx
    · exact le_trans (le_max_right a (f x)) (le_largest f _ l)
    · exact ih hx _

theorem largest_attained {α : Type} (f : α → Rat) (a : Rat) (l : List α) : largest f a l = a ∨ ∃ x ∈ l, largest f a l = f x := by
  induction l generalizing a with
  | nil => exact .inl rfl
  | cons y l ih =>
    obtain h | ⟨x, hx, h⟩ := ih (max a (f y))
    · obtain hm | hm := max_choice a (f y)
      · exact .inl (h.trans hm)
      · exact .inr ⟨y, List.mem_cons_self, h.trans hm⟩
    · exact .inr ⟨x, List.mem_cons_of_mem _ hx, h⟩

/-- The horizontal level that a subset asks for. -/
def levelH (s : State) (x : Subset) : Rat := tenth s solFdeKFa * x.sdH + tenth s solFdeKMd * x.skH

/-- The vertical one. -/
def levelV (s : State) (x : Subset) : Rat := tenth s solFdeKFa * x.sdV + tenth s solFdeKMd * x.skV

theorem passLevels_eq (s : State) (p : Rat × Rat) (l : List Subset) :
    passLevels s p l = (largest (levelH s) (tenth s solFdeKMd * p.1) l, largest (levelV s) (tenth s solFdeKMd * p.2) l) := by
  unfold passLevels
  dsimp only
  generalize tenth s solFdeKMd * p.1 = a
  generalize tenth s solFdeKMd * p.2 = b
  induction l generalizing a b with
  | nil => rfl
  | cons x l ih => exact ih _ _

/-! ### The passes -/

/-- What a pass yields where it is the last. -/
def passResult (s : State) (m : FilterMem) (n : Nat) (ex : List SatId) (fail : Bool) : Evaluation :=
  ⟨passLevels s (sigmasOf (passAll m ex) (passFrame m ex)) (passSubs s m ex), formedBy (rowsWithout ex m.rows) && (passSubs s m ex).all (·.formed), fail, ex, n⟩

theorem evaluate_pass (s : State) (m : FilterMem) (fuel n : Nat) (ex : List SatId) : evaluate s m (fuel + 1) n ex =
    match worstSubset s (passSubs s m ex) with
    | none => passResult s m n ex false
    | some w => if n = cfg s solFdeExclMax then passResult s m n ex true else evaluate s m fuel (n + 1) (ex ++ w.without) := rfl

theorem evaluate_clean (h : ∀ x ∈ passSubs s m ex, subsetFails s x = false) : evaluate s m (fuel + 1) n ex = passResult s m n ex false := by
  rw [evaluate_pass, worstSubset_none h]

theorem evaluate_failed (h : ∃ x ∈ passSubs s m ex, subsetFails s x = true) (hn : n = cfg s solFdeExclMax) :
    evaluate s m (fuel + 1) n ex = passResult s m n ex true := by
  obtain ⟨w, hw, -⟩ := worstSubset_some h
  rw [evaluate_pass, hw]
  exact if_pos hn

theorem evaluate_again (hw : worstSubset s (passSubs s m ex) = some w) (hn : n ≠ cfg s solFdeExclMax) :
    evaluate s m (fuel + 1) n ex = evaluate s m fuel (n + 1) (ex ++ w.without) := by
  rw [evaluate_pass, hw]
  exact if_neg hn

theorem passResult_valid (s : State) (m : FilterMem) (n : Nat) (ex : List SatId) (fail : Bool) :
    (passResult s m n ex fail).valid = true ↔ formedBy (rowsWithout ex m.rows) = true ∧ ∀ x ∈ passSubs s m ex, x.formed = true := by
  show (formedBy (rowsWithout ex m.rows) && (passSubs s m ex).all (·.formed)) = true ↔ _
  rw [Bool.and_eq_true, List.all_eq_true]

theorem passResult_levels (s : State) (m : FilterMem) (n : Nat) (ex : List SatId) (fail : Bool) : (passResult s m n ex fail).pl =
    (largest (levelH s) (tenth s solFdeKMd * (sigmasOf (passAll m ex) (passFrame m ex)).1) (passSubs s m ex),
      largest (levelV s) (tenth s solFdeKMd * (sigmasOf (passAll m ex) (passFrame m ex)).2) (passSubs s m ex)) := passLevels_eq _ _ _

end Sys2Proof.Machine
end

section
namespace Sys2Proof.Machine

/-- The passes of an evaluation, each subset by what it leaves out. -/
theorem evaluate_passes (s : State) (m : FilterMem) (fuel n : Nat) (ex : List SatId) :
    let rows := rowsWithout ex m.rows
    let all := if ex = [] then m.post else Config.estimate m.pre rows
    let fr := localFrame (positionOf (fvec all 0))
    let subs := (subsetSats s (codeSats rows)).map (subsetOf m rows all fr)
    let s0 := sigmasOf all fr
    let e := evaluate s m (fuel + 1) n ex
    let h := fun (x : Subset) => tenth s solFdeKFa * x.sdH + tenth s solFdeKMd * x.skH
    let v := fun (x : Subset) => tenth s solFdeKFa * x.sdV + tenth s solFdeKMd * x.skV
    (∀ w ∈ codeSats rows, (∃ x ∈ subs, x.without = [w]) ∧
      (cfgB s solFdeSubsetConst = true → ∃ x ∈ subs, x.without = (codeSats rows).filter fun y => y.const == w.const)) ∧
    ((∀ x ∈ subs, subsetFails s x = false) → e.fail = false ∧ e.excl = ex ∧ e.count = n ∧
      (e.valid = true ↔ formedBy rows = true ∧ ∀ x ∈ subs, x.formed = true) ∧
      tenth s solFdeKMd * s0.1 ≤ e.pl.1 ∧ (∀ x ∈ subs, h x ≤ e.pl.1) ∧ (e.pl.1 = tenth s solFdeKMd * s0.1 ∨ ∃ x ∈ subs, e.pl.1 = h x) ∧
      tenth s solFdeKMd * s0.2 ≤ e.pl.2 ∧ (∀ x ∈ subs, v x ≤ e.pl.2) ∧ (e.pl.2 = tenth s solFdeKMd * s0.2 ∨ ∃ x ∈ subs, e.pl.2 = v x)) ∧
    ((∃ x ∈ subs, subsetFails s x = true) → n = cfg s solFdeExclMax → e.fail = true ∧ e.excl = ex ∧ e.count = n) ∧
    ((∃ x ∈ subs, subsetFails s x = true) → n ≠ cfg s solFdeExclMax → ∃ w ∈ subs, subsetFails s w = true ∧
      (∀ x ∈ subs, subsetFails s x = true → subsetTest x ≤ subsetTest w) ∧ e = evaluate s m fuel (n + 1) (ex ++ w.without)) := by
  refine ⟨fun w hw => ⟨passSubs_single hw, fun hc => passSubs_const hc hw⟩, fun h => ?_, fun h hn => ?_, fun h hn => ?_⟩
  · have hclean := evaluate_clean (fuel := fuel) (n := n) h
    dsimp only
    rw [hclean, passResult_levels]
    exact ⟨rfl, rfl, rfl, passResult_valid _ _ _ _ _, le_largest _ _ _, fun x hx => mem_le_largest hx _, largest_attained _ _ _, le_largest _ _ _,
      fun x hx => mem_le_largest hx _, largest_attained _ _ _⟩
  · rw [evaluate_failed h hn]
    exact ⟨rfl, rfl, rfl⟩
  · obtain ⟨w, hw, hmem, hfails, hmax⟩ := worstSubset_some h
    exact ⟨w, hmem, hfails, hmax, evaluate_again hw hn⟩

end Sys2Proof.Machine
end

section
/-!
SUPPORT. An integrity evaluation (07_solver R183, R184): what it holds, counts, withdraws and records.
-/

namespace Sys2Proof.Machine

variable {s t u : State} {te : Rat} {a b : Evaluation} {fail c : Bool} {i j n k : Nat}

/-! ### Counts -/

theorem raised_trans (h : raised i n s t) (hk : raised i k t u) : raised i (n + k) s u := by
  unfold raised at *
  omega

theorem raised_bumpIf (h : ctrGet s i ≤ 2 ^ 32 - 1) : raised i (b2n c) s (bumpIf c i s) := by
  cases c with
  | false => exact (Nat.min_eq_left h).symm
  | true => exact ctrGet_bump_self i s

theorem raised_of_same (h : raised i n u t) (hu : ctrGet u i = ctrGet s i) : raised i n s t := by
  unfold raised at *
  rw [h, hu]

theorem ctrGet_bumps_free {α : Type} (hj : reportFree j) (hne : j ≠ i) (l : List α) (s : State) : ctrGet (l.foldl (fun u _ => bump i u) s) j = ctrGet s j :=
  foldl_relates (R := fun s t : State => ctrGet t j = ctrGet s j) (fun _ => rfl) (fun h k => k.trans h) (fun u _ => ctrGet_bump_free hj hne u) l s

/-! ### The evaluation takes effect -/

/-- The satellites that the evaluations of the two solutions exclude. -/
def exclOf (a b : Evaluation) : List SatId := (a.excl ++ b.excl).dedup

/-- The evaluations are held. -/
def integTaken (te : Rat) (a b : Evaluation) (pm : Option FilterMem) (s : State) : State := markDone .integrity te { s with sol := { s.sol with
  levels := #v[levelsOf s.sol.stdF a, levelsOf pm b]
  fail := a.fail || b.fail
  timeValid := s.sol.timeValid && !(a.fail || b.fail)
  excl := (s.sol.excl.filter fun x => !(exclOf a b).contains x.1) ++ (exclOf a b).map fun v => (v, stNow s)
  amb := s.sol.amb.map fun x => if (exclOf a b).contains x.sat then resetAmb x else x } }

/-- They are counted. -/
def integCounted (a b : Evaluation) (s : State) : State :=
  bumpIf b.fail cSolIntegFails (bumpIf a.fail cSolIntegFails ((List.range (a.count + b.count)).foldl (fun u _ => bump cSolFdeExclusions u) s))

/-- A failed test withdraws the time. -/
def integTurned (fail : Bool) (s : State) : State := if fail then gnssTurned false s else s

/-- The state before it is published. -/
def integDone (te : Rat) (a b : Evaluation) (pm : Option FilterMem) (s : State) : State :=
  integTurned (a.fail || b.fail) (integCounted a b (integTaken te a b pm s))

/-- The precise filter's numbers, where it runs. -/
def precMem (s : State) : Option FilterMem := if s.sol.precOn = true then s.sol.precF else none

theorem exec_integrityEval (h : filterDue s .integrity = some te) : exec (.integrityEval () ()) s =
    .next (writeSol (integDone te (evaluationOf s s.sol.stdF) (evaluationOf s (precMem s)) (precMem s) s)) := by
  show execIntegrityEval () () s = _
  unfold execIntegrityEval
  rw [h]
  rfl

theorem integTaken_sol (te : Rat) (a b : Evaluation) (pm : Option FilterMem) (s : State) : (integTaken te a b pm s).sol = { s.sol with
    levels := #v[levelsOf s.sol.stdF a, levelsOf pm b]
    fail := a.fail || b.fail
    timeValid := s.sol.timeValid && !(a.fail || b.fail)
    excl := (s.sol.excl.filter fun x => !(exclOf a b).contains x.1) ++ (exclOf a b).map fun v => (v, stNow s)
    amb := s.sol.amb.map fun x => if (exclOf a b).contains x.sat then resetAmb x else x
    done := s.sol.done.set 3 (some te) } := by
  unfold integTaken
  rw [markDone_sol]
  rfl

theorem upToReports_integCounted (a b : Evaluation) (s : State) : upToReports s (integCounted a b s) :=
  upToReports_trans (upToReports_trans (upToReports_bumps _ _ s) (upToReports_bumpIf _ _ _)) (upToReports_bumpIf _ _ _)

theorem integTurned_eq (fail : Bool) (s : State) :
    integTurned fail s = { s with sky := (integTurned fail s).sky, mode := (integTurned fail s).mode } := by cases fail <;> rfl

theorem only_integCounted (a b : Evaluation) (s : State) : only [.obs, .ctr] s (integCounted a b s) :=
  Touches.only (Touches.of fun u => by unfold integCounted; simp) s

theorem integDone_sol (te : Rat) (a b : Evaluation) (pm : Option FilterMem) (s : State) : (integDone te a b pm s).sol = (integTaken te a b pm s).sol := by
  rw [integDone, integTurned_eq]
  exact (only_integCounted a b _).kept .sol (by decide)

/-- Reports are made alike where the time and the modes have moved. -/
theorem upToReports_turned (k : SkyState) (m : ModeState) (h : upToReports s t) : upToReports { s with sky := k, mode := m } { t with sky := k, mode := m } := by
  unfold upToReports at h ⊢
  rw [h]

/-- The evaluation moves the solver, the time and the modes, and otherwise only what reports touch. -/
theorem upToReports_integDone (te : Rat) (a b : Evaluation) (pm : Option FilterMem) (s : State) :
    upToReports { s with sol := (integDone te a b pm s).sol, sky := (integDone te a b pm s).sky, mode := (integDone te a b pm s).mode }
      (integDone te a b pm s) := by
  have h := upToReports_turned (integDone te a b pm s).sky (integDone te a b pm s).mode (upToReports_integCounted a b (integTaken te a b pm s))
  have hturned : integDone te a b pm s = { integCounted a b (integTaken te a b pm s) with
    sky := (integDone te a b pm s).sky, mode := (integDone te a b pm s).mode } := integTurned_eq _ _
  rw [← hturned] at h
  rw [integDone_sol]
  exact h

theorem integTurned_stays (s : State) : integTurned false s = s := rfl

/-- A test that passes moves neither the time nor the modes. -/
theorem integDone_passes (h : (a.fail || b.fail) = false) (te : Rat) (pm : Option FilterMem) (s : State) :
    (integDone te a b pm s).sky = s.sky ∧ (integDone te a b pm s).mode = s.mode := by
  rw [integDone, h, integTurned_stays]
  exact ⟨(only_integCounted a b _).kept .sky (by decide), (only_integCounted a b _).kept .mode (by decide)⟩

/-- A failed test withdraws the time. -/
theorem integDone_withdraws (h : (a.fail || b.fail) = true) (te : Rat) (pm : Option FilterMem) (s : State) :
    timeTrusted (integDone te a b pm s) = false ∧ gnssUsable (integDone te a b pm s) = false ∧ pvtValid (integDone te a b pm s) = false := by
  have hfail : (integDone te a b pm s).sol.fail = true := by rw [integDone_sol, integTaken_sol, h]
  refine ⟨?_, ?_, ?_⟩
  · rw [integDone, h]
    exact timeTrusted_gnssTurned false _
  · rw [integDone, h]
    exact gnssUsable_gnssTurned false _
  · unfold pvtValid
    rw [hfail, Bool.not_true, Bool.and_false, Bool.false_and, Bool.false_and]

/-- Of the mode state and the time it moves only what says whether GNSS is usable and trusted. -/
theorem integTurned_mode (fail : Bool) (s : State) : (integTurned fail s).mode =
    { s.mode with usableSince := (integTurned fail s).mode.usableSince, unusableSince := (integTurned fail s).mode.unusableSince } := by
  cases fail <;> rfl

theorem stNow_integTurned (fail : Bool) (s : State) : stNow (integTurned fail s) = stNow s := by cases fail <;> rfl

theorem integDone_mode (te : Rat) (a b : Evaluation) (pm : Option FilterMem) (s : State) : (integDone te a b pm s).mode =
    { s.mode with usableSince := (integDone te a b pm s).mode.usableSince, unusableSince := (integDone te a b pm s).mode.unusableSince } := by
  have hmode : (integCounted a b (integTaken te a b pm s)).mode = s.mode := (only_integCounted a b _).kept .mode (by decide)
  have h := integTurned_mode (a.fail || b.fail) (integCounted a b (integTaken te a b pm s))
  rw [hmode] at h
  exact h

theorem stNow_integDone (te : Rat) (a b : Evaluation) (pm : Option FilterMem) (s : State) : stNow (integDone te a b pm s) = stNow s := by
  rw [integDone, stNow_integTurned]
  exact stNow_congr ((only_integCounted a b _).kept .sky (by decide))

theorem only_integDone (te : Rat) (a b : Evaluation) (pm : Option FilterMem) (s : State) :
    only [.sol, .sky, .mode, .obs, .ctr] s (integDone te a b pm s) :=
  Touches.only (Touches.of fun u => by unfold integDone integTurned gnssTurned integCounted integTaken; simp) s

/-! ### Its counters -/

theorem raised_exclusions (h : ctrGet s cSolFdeExclusions ≤ 2 ^ 32 - 1) (a b : Evaluation) :
    raised cSolFdeExclusions (a.count + b.count) s (integCounted a b s) := by
  have hcount := ctrGet_bumps cSolFdeExclusions (List.range (a.count + b.count)) s h
  rw [List.length_range] at hcount
  unfold raised at hcount ⊢
  have hfree : reportFree cSolFdeExclusions := by unfold reportFree; decide
  rw [integCounted, ctrGet_bumpIf_free hfree (by decide), ctrGet_bumpIf_free hfree (by decide), hcount]

theorem raised_integFails (h : ctrGet s cSolIntegFails ≤ 2 ^ 32 - 1) (a b : Evaluation) :
    raised cSolIntegFails (b2n a.fail + b2n b.fail) s (integCounted a b s) := by
  have hfree : reportFree cSolIntegFails := by unfold reportFree; decide
  have hsame := ctrGet_bumps_free hfree (show cSolIntegFails ≠ cSolFdeExclusions by decide) (List.range (a.count + b.count)) s
  have hfirst := raised_of_same (raised_bumpIf (c := a.fail) (by rw [hsame]; exact h)) hsame
  exact raised_trans hfirst (raised_bumpIf (by rw [hfirst]; exact Nat.min_le_right _ _))

theorem ctrGet_integDone (j : Nat) (te : Rat) (a b : Evaluation) (pm : Option FilterMem) (s : State) :
    ctrGet (integDone te a b pm s) j = ctrGet (integCounted a b (integTaken te a b pm s)) j := by
  rw [integDone, integTurned_eq]
  rfl

/-! ### Its record (07_solver R186) -/

theorem recordedAll_of_stNow {l : List (Nat × Nat × List Byte)} (hb : u.boot = s.boot) (hs : stNow u = stNow s) (hq : u.hst = s.hst)
    (h : recordedAll l u t) : recordedAll l s t := by
  unfold recordedAll at h ⊢
  rw [h, cfg_congr hb, hs, hq]

theorem recorded_of_recordedAll {cls kind : Nat} {content : List Byte} (h : recordedAll [(cls, kind, content)] s t) : recorded cls kind content s t := h

theorem pubType_integDone (te : Rat) (a b : Evaluation) (pm : Option FilterMem) (s : State) : pubType (integDone te a b pm s) = pubType s := by
  unfold pubType inService pubRec pubPrecise preciseMode
  rw [integDone_mode, integDone_sol, integTaken_sol]

theorem attValid_integDone (te : Rat) (a b : Evaluation) (pm : Option FilterMem) (s : State) : attValid (integDone te a b pm s) = attValid s := by
  unfold attValid
  rw [integDone_sol, integTaken_sol, (only_integDone te a b pm s).kept .ary (by decide)]

/-- INTEG_FAIL that changes alone is recorded alone. -/
theorem changeRecords_fail {x : Nat × Bool × Bool × Bool × Bool} (hf : x.2.2.2.2 ≠ s.sol.fail) (ht : pubType s = x.1) (hp : pvtValid s = x.2.1)
    (ha : attValid s = x.2.2.2.1) : changeRecords x s = [(1, 0x0705, solInteg s)] := by
  unfold changeRecords
  rw [if_pos ht.symm, if_pos hp.symm, if_pos ha.symm, if_neg hf]
  rfl

theorem integDone_records (hf : s.sol.shown.2.2.2.2 ≠ (a.fail || b.fail)) (ht : pubType s = s.sol.shown.1)
    (hp : pvtValid (integDone te a b pm s) = s.sol.shown.2.1) (ha : attValid s = s.sol.shown.2.2.2.1) :
    recorded 1 0x0705 (solInteg (integDone te a b pm s)) s (writeSol (integDone te a b pm s)) := by
  have hframe := only_integDone te a b pm s
  have hsol := (integDone_sol te a b pm s).trans (integTaken_sol te a b pm s)
  have hrec := recordedAll_of_stNow (hframe.kept .boot (by decide)) (stNow_integDone te a b pm s) (hframe.kept .hst (by decide))
    (recordedAll_writeSol (integDone te a b pm s))
  have hshown : (integDone te a b pm s).sol.shown = s.sol.shown := by rw [hsol]
  have hfail : (integDone te a b pm s).sol.fail = (a.fail || b.fail) := by rw [hsol]
  rw [hshown, changeRecords_fail (by rwa [hfail]) (by rwa [pubType_integDone]) hp (by rwa [attValid_integDone])] at hrec
  exact recorded_of_recordedAll hrec

end Sys2Proof.Machine
end

section
/-!
SUPPORT. What an integrity evaluation leaves (07_solver R183, R184), position hold (07_solver R165), and what expires (07_solver R177, R183).
-/

namespace Sys2Proof.Machine

variable {s t : State} {te : Rat} {a b : Evaluation}

/-- The evaluation, published. -/
theorem upToReports_integAfter (te : Rat) (a b : Evaluation) (pm : Option FilterMem) (s : State) :
    upToReports { s with
      sol := (writeSol (integDone te a b pm s)).sol
      sky := (writeSol (integDone te a b pm s)).sky
      mode := (writeSol (integDone te a b pm s)).mode } (writeSol (integDone te a b pm s)) := by
  have hdone := upToReports_solNoted (x := solShown (integDone te a b pm s)) (upToReports_integDone te a b pm s)
  have hsky : (writeSol (integDone te a b pm s)).sky = (integDone te a b pm s).sky := Touches.kept touches_writeSol .sky (by decide) _
  rw [writeSol_sol, writeSol_mode, hsky]
  exact upToReports_trans hdone (upToReports_writeSol _)

/-- What it leaves, for the evaluations of the two solutions. -/
theorem integAfter_settles (hw : s.ctrWf) (te : Rat) (a b : Evaluation) (pm : Option FilterMem) :
    let t := writeSol (integDone te a b pm s)
    let fail := a.fail || b.fail
    let out := (a.excl ++ b.excl).dedup
    upToReports { s with sol := t.sol, sky := t.sky, mode := t.mode } t ∧
    t.sol = { s.sol with
      levels := #v[levelsOf s.sol.stdF a, levelsOf pm b]
      fail := fail
      timeValid := s.sol.timeValid && !fail
      excl := (s.sol.excl.filter fun x => !out.contains x.1) ++ out.map fun v => (v, stNow s)
      amb := s.sol.amb.map fun x => if out.contains x.sat then { x with fresh := true, fixed := none, run := 0, held := false } else x
      done := s.sol.done.set 3 (some te)
      shown := t.sol.shown } ∧
    (fail = true → timeTrusted t = false ∧ gnssUsable t = false ∧ pvtValid t = false) ∧ (fail = false → t.sky = s.sky ∧ t.mode = s.mode) ∧
    raised cSolFdeExclusions (a.count + b.count) s t ∧ raised cSolIntegFails (b2n a.fail + b2n b.fail) s t ∧
    (s.sol.shown.2.2.2.2 ≠ fail → pubType s = s.sol.shown.1 → pvtValid t = s.sol.shown.2.1 → attValid s = s.sol.shown.2.2.2.1 →
      recorded 1 0x0705 (solInteg t) s t) := by
  have hcounts (j : Nat) (hj : reportFree j) : ctrGet (writeSol (integDone te a b pm s)) j = ctrGet (integCounted a b (integTaken te a b pm s)) j := by
    rw [ctrGet_writeSol hj, ctrGet_integDone]
  have htaken (j : Nat) : ctrGet (integTaken te a b pm s) j ≤ 2 ^ 32 - 1 := Nat.le_sub_one_of_lt (hw j)
  refine ⟨upToReports_integAfter te a b pm s, ?_, fun hf => ?_, fun hf => ?_, ?_, ?_, fun hf ht hp ha => ?_⟩
  · rw [writeSol_sol, integDone_sol, integTaken_sol]
    rfl
  · obtain ⟨htrusted, husable, hpvt⟩ := integDone_withdraws hf te pm s
    exact ⟨(writeSol_keeps timeTrusted (fun _ _ _ _ _ _ => rfl) _).trans htrusted, (writeSol_keeps gnssUsable (fun _ _ _ _ _ _ => rfl) _).trans husable,
      (pvtValid_writeSol _).trans hpvt⟩
  · obtain ⟨hsky, hmode⟩ := integDone_passes hf te pm s
    exact ⟨(Touches.kept touches_writeSol .sky (by decide) _).trans hsky, (writeSol_mode _).trans hmode⟩
  · have h := raised_exclusions (htaken cSolFdeExclusions) a b
    unfold raised at h ⊢
    rw [hcounts _ (by unfold reportFree; decide), h]
    rfl
  · have h := raised_integFails (htaken cSolIntegFails) a b
    unfold raised at h ⊢
    rw [hcounts _ (by unfold reportFree; decide), h]
    rfl
  · rw [solInteg_writeSol]
    exact integDone_records hf ht (by rwa [pvtValid_writeSol] at hp) ha

/-! ### Hold and expiries -/

theorem exec_positionHold {q : Rat} {r : SolRec} (hs : s.sol.holdSince = some q) (hp : s.sol.prec = some r)
    (h : cfgB s solCfgTimeHold = true ∧ s.sol.hold = none ∧ s.sol.precOn = true ∧ r.type = 4 ∧ 60 ≤ stNow s - q) :
    exec .positionHold s = .next { s with sol := { s.sol with hold := some r.sol.pos } } := by
  show execPositionHold s = _
  unfold execPositionHold
  rw [hs, hp]
  dsimp only
  rw [if_pos h]

theorem exec_correctionExpiry {i n : Nat} {c : CorrItem} (hc : s.sol.corr[i]? = some c) (hl : corrLimit s c.kind = some n) (ha : (n : Rat) < stNow s - c.ref) :
    exec (.correctionExpiry i) s = .next { s with sol := { s.sol with corr := s.sol.corr.eraseIdx i } } := by
  have hold : corrFresh s c = false := by
    unfold corrFresh
    rw [hl]
    exact decide_eq_false (not_le.2 ha)
  show execCorrectionExpiry i s = _
  unfold execCorrectionExpiry
  rw [hc]
  dsimp only
  rw [hold, if_neg Bool.false_ne_true]

theorem exec_exclHoldExpiry (v : SatId) (s : State) : exec (.exclHoldExpiry v) s =
    .next { s with sol := { s.sol with excl := s.sol.excl.filter fun x => !(x.1 == v && decide ((cfg s solFdeExclHold : Rat) ≤ stNow s - x.2)) } } := rfl

theorem mem_exclHoldExpiry {v : SatId} {x : SatId × Rat} {q p : Rat} {l : List (SatId × Rat)} :
    x ∈ l.filter (fun x => !(x.1 == v && decide (q ≤ p - x.2))) ↔ x ∈ l ∧ ¬ (x.1 = v ∧ q ≤ p - x.2) := by
  rw [List.mem_filter, Bool.not_eq_true', Bool.eq_false_iff, Ne, Bool.and_eq_true, beq_iff_eq, decide_eq_true_eq]

end Sys2Proof.Machine
end

section
/-!
SUPPORT. The start of an envelope's verification (07_solver R172, R173), and the items of an accepted one (07_solver R174, R177).
-/

namespace Sys2Proof.Machine

variable {s t u : State} {e : Envelope} {rest : List Envelope} {i j k : Nat} {c : CorrItem} {l m : List CorrItem}

/-! ### The checks before the signature (07_solver R172) -/

/-- The envelope leaves the input partition. -/
def envTaken (rest : List Envelope) (s : State) : State := { s with sol := { s.sol with env := rest } }

/-- Its issue is too old, ahead of the present, or not newer than the last of its key. -/
def envStale (e : Envelope) (s : State) : Bool :=
  decide (stOfWord e.issue < stNow s - cfg s solCfgAgeClk) || decide (stNow s + 5 < stOfWord e.issue) ||
    (match s.sol.issues.find? fun x => x.1 == e.key with | some x => decide (e.issue ≤ x.2) | none => false)

theorem envStale_iff : envStale e s = true ↔ stOfWord e.issue < stNow s - cfg s solCfgAgeClk ∨ stNow s + 5 < stOfWord e.issue ∨
    ∃ x, s.sol.issues.find? (fun y => y.1 == e.key) = some x ∧ e.issue ≤ x.2 := by
  unfold envStale
  rw [Bool.or_eq_true, Bool.or_eq_true, decide_eq_true_eq, decide_eq_true_eq, or_assoc]
  refine or_congr_right (or_congr_right ?_)
  cases s.sol.issues.find? fun x => x.1 == e.key <;> simp

/-- What checks 4 to 6 make of the envelope. -/
def envChecked (e : Envelope) (rest : List Envelope) (s : State) : State :=
  match keyEntry s e.key e.format with
  | none => bump cSolEnvUnknownKey (envTaken rest s)
  | some k =>
    if gpsWeek s < cfgAt s solKeyFromWeek k ∨ cfgAt s solKeyUntilWeek k < gpsWeek s then bump cSolEnvKeyExpired (envTaken rest s)
    else if envStale e s then bump cSolEnvStale (envTaken rest s)
    else { s with sol := { s.sol with env := rest, verify := some (e, cryptoEnd (commonSlots s) (nextCryptoSlot s) (envSlots e)) } }

theorem exec_envelopeVerifyStart (henv : s.sol.env = e :: rest) (hfree : s.sol.verify = none) (hcry : domOn s .cry = true) (hsol : domOn s .sol = true) :
    exec .envelopeVerifyStart s = .next (envChecked e rest s) := by
  show execEnvelopeVerifyStart s = _
  unfold execEnvelopeVerifyStart
  rw [if_neg (by simp [hfree, hcry, hsol]), henv]
  unfold envChecked
  dsimp only
  cases keyEntry s e.key e.format with
  | none => rfl
  | some k =>
    dsimp only
    rw [apply_ite Host.Outcome.next, apply_ite Host.Outcome.next]
    rfl

/-- A refused envelope is counted and gone. -/
theorem envRefused (h : exec .envelopeVerifyStart s = .next (bump i (envTaken rest s))) : completes .envelopeVerifyStart s (fun t =>
    counted i s t ∧ t = { s with sol := { s.sol with env := rest }, obs := t.obs, ctr := t.ctr }) :=
  ⟨_, h, counted_bump i (envTaken rest s), by rw [bump_eta]; rfl⟩

theorem envChecked_unknown (h : keyEntry s e.key e.format = none) : envChecked e rest s = bump cSolEnvUnknownKey (envTaken rest s) := by
  unfold envChecked
  rw [h]

theorem envChecked_expired (h : keyEntry s e.key e.format = some k) (hw : gpsWeek s < cfgAt s solKeyFromWeek k ∨ cfgAt s solKeyUntilWeek k < gpsWeek s) :
    envChecked e rest s = bump cSolEnvKeyExpired (envTaken rest s) := by
  unfold envChecked
  rw [h]
  exact if_pos hw

theorem envChecked_inWeeks (h : keyEntry s e.key e.format = some k) (hf : cfgAt s solKeyFromWeek k ≤ gpsWeek s) (hu : gpsWeek s ≤ cfgAt s solKeyUntilWeek k) :
    envChecked e rest s = if envStale e s then bump cSolEnvStale (envTaken rest s)
      else { s with sol := { s.sol with env := rest, verify := some (e, cryptoEnd (commonSlots s) (nextCryptoSlot s) (envSlots e)) } } := by
  unfold envChecked
  rw [h]
  exact if_neg (not_or.2 ⟨Nat.not_lt.2 hf, Nat.not_lt.2 hu⟩)

/-! ### Items held (07_solver R177) -/

/-- Every ambiguity starts anew. -/
def allFresh (l : List AmbState) : Prop := ∀ x ∈ l, x.fresh = true ∧ x.fixed = none ∧ x.held = false

theorem resetAmb_fresh (x : AmbState) : (resetAmb x).fresh = true ∧ (resetAmb x).fixed = none ∧ (resetAmb x).held = false := ⟨rfl, rfl, rfl⟩

/-- The item that an item replaces. -/
def itemBefore (s : State) (c : CorrItem) : Option CorrItem := s.sol.corr.find? (sameItem c)

/-- The item is older than the one held. -/
def itemLate (s : State) (c : CorrItem) : Bool := match itemBefore s c with | some o => decide (c.ref < o.ref) | none => false

/-- The item waits for its orbit's issue. -/
def itemWaits (s : State) (c : CorrItem) : Bool := match c.sat with | some v => c.kind == 7 && !issueHeld s v c.iod | none => false

/-- A phase bias breaks with the one before. -/
def itemBreaks (s : State) (c : CorrItem) : Bool :=
  match itemBefore s c with | some o => c.kind == 3 && o.vals.getD 1 0 != c.vals.getD 1 0 | none => false

/-- The ambiguities with the item: those of a bias that breaks start anew. -/
def itemAmb (s : State) (c : CorrItem) : List AmbState :=
  if itemBreaks s c then s.sol.amb.map fun x => if x.sig = c.sig ∧ c.sat = some x.sat then resetAmb x else x else s.sol.amb

/-- The item is held in place of the one before. -/
def itemPut (c : CorrItem) (s : State) : State :=
  { s with sol := { s.sol with corr := (s.sol.corr.filter fun x => !sameItem c x) ++ [{ c with waits := itemWaits s c }], amb := itemAmb s c } }

theorem holdItem_eq (s : State) (c : CorrItem) : holdItem s c = if itemLate s c then s else bumpIf (itemWaits s c) cSolIodWait (itemPut c s) := rfl

theorem allFresh_itemAmb (h : allFresh s.sol.amb) : allFresh (itemAmb s c) := by
  unfold itemAmb
  split
  · intro x hx
    obtain ⟨y, hy, rfl⟩ := List.mem_map.1 hx
    split
    · exact resetAmb_fresh y
    · exact h y hy
  · exact h

/-- From `s` to `t` these items are held: the corrections are those of before and these, and ambiguities may start anew. -/
structure ItemsHeld (l : List CorrItem) (s t : State) : Prop where
  sol : t.sol = { s.sol with corr := t.sol.corr, amb := t.sol.amb }
  corr : ∀ c ∈ t.sol.corr, c ∈ s.sol.corr ∨ ∃ x ∈ l, ∃ w, c = { x with waits := w }
  amb : allFresh s.sol.amb → allFresh t.sol.amb
  count : ∀ j, reportFree j → j ≠ cSolIodWait → j ≠ cSolAtmOutOfArea → ctrGet t j = ctrGet s j

namespace ItemsHeld

theorem refl (s : State) : ItemsHeld [] s s := ⟨rfl, fun _ hc => .inl hc, id, fun _ _ _ _ => rfl⟩

theorem trans (h : ItemsHeld l s t) (k : ItemsHeld m t u) : ItemsHeld (l ++ m) s u where
  sol := by
    have hk := k.sol
    rw [h.sol] at hk
    exact hk
  corr c hc := by
    obtain hc | ⟨x, hx, w, rfl⟩ := k.corr c hc
    · obtain hc | ⟨x, hx, w, rfl⟩ := h.corr c hc
      · exact .inl hc
      · exact .inr ⟨x, List.mem_append_left _ hx, w, rfl⟩
    · exact .inr ⟨x, List.mem_append_right _ hx, w, rfl⟩
  amb := k.amb ∘ h.amb
  count j hj hi ha := (k.count j hj hi ha).trans (h.count j hj hi ha)

theorem bumped (h : ItemsHeld l s t) (b : Bool) (hi : i = cSolIodWait ∨ i = cSolAtmOutOfArea) : ItemsHeld l s (bumpIf b i t) := by
  have hsol : (bumpIf b i t).sol = t.sol := Touches.kept (touches_bumpIf b i) .sol (by decide) t
  refine ⟨by rw [hsol]; exact h.sol, fun c hc => h.corr c (hsol ▸ hc), fun ha => hsol ▸ h.amb ha, fun j hj hj1 hj2 => ?_⟩
  have hne : j ≠ i := by obtain rfl | rfl := hi <;> assumption
  exact (ctrGet_bumpIf_free hj hne b t).trans (h.count j hj hj1 hj2)

theorem of_itemPut (c : CorrItem) (s : State) : ItemsHeld [c] s (itemPut c s) where
  sol := rfl
  corr x hx := by
    obtain hx | hx := List.mem_append.1 hx
    · exact .inl (List.mem_filter.1 hx).1
    · exact .inr ⟨c, List.mem_singleton_self c, _, List.mem_singleton.1 hx⟩
  amb ha := allFresh_itemAmb ha
  count _ _ _ _ := rfl

theorem of_holdItem (s : State) (c : CorrItem) : ItemsHeld [c] s (holdItem s c) := by
  rw [holdItem_eq]
  split
  · exact ⟨rfl, fun _ hc => .inl hc, id, fun _ _ _ _ => rfl⟩
  · exact (of_itemPut c s).bumped _ (.inl rfl)

theorem of_items (l : List CorrItem) (s : State) : ItemsHeld l s (l.foldl holdItem s) := by
  induction l generalizing s with
  | nil => exact refl s
  | cons c l ih => exact (of_holdItem s c).trans (ih _)

theorem of_message (s : State) (l : List CorrItem) : ItemsHeld l s (holdMessage s l) := (of_items l s).bumped _ (.inr rfl)

theorem of_messages (ls : List (List CorrItem)) (s : State) : ItemsHeld ls.flatten s (ls.foldl holdMessage s) := by
  induction ls generalizing s with
  | nil => exact refl s
  | cons l ls ih => exact (of_message s l).trans (ih _)

end ItemsHeld

end Sys2Proof.Machine
end

section
/-!
SUPPORT. The verdict on an envelope (07_solver R171, R172, R174): what a passed signature makes of the keys and the items.
-/

namespace Sys2Proof.Machine

variable {s t u : State} {e : Envelope} {end_ : Rat} {key k i j n : Nat} {items : List (List CorrItem)}

/-! ### The key that is followed (07_solver R174) -/

/-- The first key is followed. -/
def keyTaken (key : Nat) (s : State) : State := { s with sol := { s.sol with key := some key } }

/-- Another key is followed: what was held under the one before goes. -/
def keySwitched (key : Nat) (s : State) : State :=
  bump cSolKeySwitch { s with sol := { s.sol with key := some key, corr := [], amb := s.sol.amb.map resetAmb } }

/-- The key followed from an envelope on, which serves enough satellites or does not. -/
def keyChosen (key : Nat) (carries : Bool) (s : State) : State :=
  if carries ∧ s.sol.key ≠ some key then (match s.sol.key with | none => keyTaken key s | some _ => keySwitched key s) else s

theorem applyItems_eq (key : Nat) (items : List (List CorrItem)) (s : State) : applyItems key items s =
    if (keyChosen key (decide (4 ≤ orbClkCount s items.flatten)) s).sol.key = some key then
      items.foldl holdMessage (keyChosen key (decide (4 ≤ orbClkCount s items.flatten)) s)
    else keyChosen key (decide (4 ≤ orbClkCount s items.flatten)) s := rfl

theorem keySwitched_sol (key : Nat) (s : State) :
    (keySwitched key s).sol = { s.sol with key := some key, corr := [], amb := s.sol.amb.map resetAmb } := (only_bump _ _).kept .sol (by decide)

theorem keyChosen_same (h : s.sol.key = some key) (b : Bool) : keyChosen key b s = s := if_neg fun hc => hc.2 h

theorem keyChosen_none (key : Nat) (s : State) : keyChosen key false s = s := if_neg fun hc => Bool.false_ne_true hc.1

theorem keyChosen_first (h : s.sol.key = none) : keyChosen key true s = keyTaken key s := by
  unfold keyChosen
  rw [if_pos ⟨rfl, by rw [h]; exact (Option.some_ne_none key).symm⟩, h]

theorem keyChosen_next (h : s.sol.key = some k) (hne : s.sol.key ≠ some key) : keyChosen key true s = keySwitched key s := by
  unfold keyChosen
  rw [if_pos ⟨rfl, hne⟩, h]

theorem applyItems_follows (h : s.sol.key = some key) : applyItems key items s = items.foldl holdMessage s := by
  rw [applyItems_eq, keyChosen_same h, if_pos h]

theorem applyItems_ignores (h : s.sol.key ≠ some key) (hc : orbClkCount s items.flatten < 4) : applyItems key items s = s := by
  rw [applyItems_eq, decide_eq_false (Nat.not_le.2 hc), keyChosen_none, if_neg h]

theorem applyItems_takes (h : s.sol.key = none) (hc : 4 ≤ orbClkCount s items.flatten) :
    applyItems key items s = items.foldl holdMessage (keyTaken key s) := by
  rw [applyItems_eq, decide_eq_true hc, keyChosen_first h]
  exact if_pos rfl

theorem applyItems_switches (h : s.sol.key = some k) (hne : s.sol.key ≠ some key) (hc : 4 ≤ orbClkCount s items.flatten) :
    applyItems key items s = items.foldl holdMessage (keySwitched key s) := by
  rw [applyItems_eq, decide_eq_true hc, keyChosen_next h hne, if_pos (by rw [keySwitched_sol])]

/-- From `s` to `t` an envelope's items take effect: of the solver the key, the corrections and the ambiguities move. -/
structure ItemsApplied (s t : State) : Prop where
  sol : t.sol = { s.sol with key := t.sol.key, corr := t.sol.corr, amb := t.sol.amb }
  count : ∀ j, reportFree j → j ≠ cSolIodWait → j ≠ cSolAtmOutOfArea → j ≠ cSolKeySwitch → ctrGet t j = ctrGet s j

theorem ItemsApplied.of_held {l : List CorrItem} (h : ItemsApplied s t) (k : ItemsHeld l t u) : ItemsApplied s u where
  sol := by
    have hk := k.sol
    rw [h.sol] at hk
    rw [hk]
  count j hj hi ha hs := (k.count j hj hi ha).trans (h.count j hj hi ha hs)

theorem ItemsApplied.of_keyTaken (key : Nat) (s : State) : ItemsApplied s (keyTaken key s) := ⟨rfl, fun _ _ _ _ _ => rfl⟩

theorem ItemsApplied.of_keySwitched (key : Nat) (s : State) : ItemsApplied s (keySwitched key s) where
  sol := by rw [keySwitched_sol]
  count j hj _ _ hs := ctrGet_bump_free hj hs _

theorem ItemsApplied.of_applyItems (key : Nat) (items : List (List CorrItem)) (s : State) : ItemsApplied s (applyItems key items s) := by
  have hrefl : ItemsApplied s s := ⟨rfl, fun _ _ _ _ _ => rfl⟩
  by_cases hkey : s.sol.key = some key
  · rw [applyItems_follows hkey]
    exact hrefl.of_held (.of_messages items s)
  by_cases hc : 4 ≤ orbClkCount s items.flatten
  · cases h : s.sol.key with
    | none =>
      rw [applyItems_takes h hc]
      exact (ItemsApplied.of_keyTaken key s).of_held (.of_messages items _)
    | some k =>
      rw [applyItems_switches h hkey hc]
      exact (ItemsApplied.of_keySwitched key s).of_held (.of_messages items _)
  · rw [applyItems_ignores hkey (Nat.not_le.1 hc)]
    exact hrefl

/-! ### The verdict (07_solver R172 check 7) -/

/-- The signature of the envelope passes, under the key that its entry names. -/
def envSigned (e : Envelope) (s : State) : Bool :=
  ecdsaVerify (sha256 e.signed)
    (leBytes 32 (cfgAt s solKeyKeyX ((keyEntry s e.key e.format).getD 0)) ++ leBytes 32 (cfgAt s solKeyKeyY ((keyEntry s e.key e.format).getD 0))) e.sig

/-- What its content says. -/
def envParsed (e : Envelope) (s : State) : Parsed :=
  if e.format = 0 then parseRtcm (cfgB s solCfgDatumReg) (e.signed.drop 12).length (e.signed.drop 12) else parseCompact (e.signed.drop 12).length (e.signed.drop 12)

/-- The envelope is accepted, and its issue is the last of its key. -/
def envAccepted (e : Envelope) (s : State) : State :=
  bump cSolEnvAccept { s with sol := { s.sol with verify := none, issues := (e.key, e.issue) :: s.sol.issues.filter fun x => x.1 != e.key } }

/-- A counter counts `n` times. -/
def bumpTimes (i n : Nat) (s : State) : State := (List.range n).foldl (fun u _ => bump i u) s

/-- What its content says wrong is counted. -/
def envRead (e : Envelope) (s : State) : State :=
  bumpTimes cSolHccFormat (envParsed e s).hcc (bumpTimes cSolRtcmCrc (envParsed e s).crc (bumpTimes cSolMsgUnsupported (envParsed e s).unsup (envAccepted e s)))

theorem exec_envelopeVerdict_early (h : s.sol.verify = some (e, end_)) (ht : stNow s < end_) : exec .envelopeVerdict s = .next s := by
  show execEnvelopeVerdict s = _
  unfold execEnvelopeVerdict
  rw [h]
  exact if_pos ht

/-- The verdict, once the last common slot has ended. -/
theorem exec_envelopeVerdict (h : s.sol.verify = some (e, end_)) (ht : end_ ≤ stNow s) : exec .envelopeVerdict s =
    if envSigned e s then .next (applyItems e.key (envParsed e s).items (envRead e s))
    else .next (bump cSolEnvSigFail { s with sol := { s.sol with verify := none } }) := by
  show execEnvelopeVerdict s = _
  unfold execEnvelopeVerdict
  rw [h]
  dsimp only
  rw [if_neg (not_lt.2 ht)]
  unfold envSigned envRead bumpTimes envAccepted envParsed
  rfl

theorem only_envRead (e : Envelope) (s : State) : only [.sol, .obs, .ctr] s (envRead e s) :=
  Touches.only (Touches.of fun u => by unfold envRead bumpTimes envAccepted; simp) s

theorem bumpTimes_sol (i n : Nat) (s : State) : (bumpTimes i n s).sol = s.sol :=
  foldl_relates (R := fun s t : State => t.sol = s.sol) (fun _ => rfl) (fun h k => k.trans h) (fun u _ => (only_bump i u).kept .sol (by decide)) _ s

theorem envRead_sol (e : Envelope) (s : State) : (envRead e s).sol =
    { s.sol with verify := none, issues := (e.key, e.issue) :: s.sol.issues.filter fun x => x.1 != e.key } := by
  rw [envRead, bumpTimes_sol, bumpTimes_sol, bumpTimes_sol]
  exact (only_bump _ _).kept .sol (by decide)

theorem ctrGet_envRead_accepted (hj : reportFree j) (hh : j ≠ cSolHccFormat) (hr : j ≠ cSolRtcmCrc) (hm : j ≠ cSolMsgUnsupported) (e : Envelope) (s : State) :
    ctrGet (envRead e s) j = ctrGet (envAccepted e s) j :=
  (ctrGet_bumps_free hj hh _ _).trans ((ctrGet_bumps_free hj hr _ _).trans (ctrGet_bumps_free hj hm _ _))

theorem ctrGet_envRead (hj : reportFree j) (hh : j ≠ cSolHccFormat) (hr : j ≠ cSolRtcmCrc) (hm : j ≠ cSolMsgUnsupported) (ha : j ≠ cSolEnvAccept)
    (e : Envelope) (s : State) : ctrGet (envRead e s) j = ctrGet s j :=
  (ctrGet_envRead_accepted hj hh hr hm e s).trans (ctrGet_bump_free hj ha _)

/-- Which satellites an envelope serves is the image's, the time's and the ephemerides' matter (07_solver R177). -/
theorem orbClkCount_congr (hb : t.boot = s.boot) (hs : t.sky = s.sky) (hm : t.mode = s.mode) (hr : t.msr = s.msr) (l : List CorrItem) :
    orbClkCount t l = orbClkCount s l := by
  have hfresh : corrFresh t = corrFresh s := by
    funext c
    unfold corrFresh corrLimit corrAge
    rw [cfg_congr hb, stNow_congr hs]
  have hissue : issueOf t = issueOf s := by
    funext v iod
    unfold issueOf ephOf issueUsable seedNow
    rw [stNow_congr hs, hs, hm, hr]
  unfold orbClkCount orbClk orbClkOf
  rw [hfresh, hissue]

theorem orbClkCount_envRead (e : Envelope) (s : State) (l : List CorrItem) : orbClkCount (envRead e s) l = orbClkCount s l := by
  have h := only_envRead e s
  exact orbClkCount_congr (h.kept .boot (by decide)) (h.kept .sky (by decide)) (h.kept .mode (by decide)) (h.kept .msr (by decide)) l

end Sys2Proof.Machine
end

section
/-!
OBLIGATION O41. Integrity, expiries and signed envelopes (07_solver R165, R171–R174, R177, R183, R184).
-/

namespace Sys2Proof.Machine

variable {s t : State} {e : Envelope} {rest : List Envelope} {end_ : Rat}

/-! ### An accepted envelope -/

/-- The state after an accepted envelope. -/
def envAfter (e : Envelope) (items : List (List CorrItem)) (s : State) : State := applyItems e.key items (envRead e s)

variable {items : List (List CorrItem)}

/-- The issue accepted is the last of its key. -/
theorem envRead_issues (e : Envelope) (s : State) : (e.key, e.issue) ∈ (envRead e s).sol.issues ∧
    ∀ x ∈ (envRead e s).sol.issues, x.1 = e.key → x.2 = e.issue := by
  rw [envRead_sol]
  refine ⟨List.mem_cons_self, fun x hx hk => ?_⟩
  obtain rfl | hx := List.mem_cons.1 hx
  · rfl
  · have hne := (List.mem_filter.1 hx).2
    rw [hk, bne_self_eq_false] at hne
    cases hne

theorem envAfter_sol (e : Envelope) (items : List (List CorrItem)) (s : State) :
    (envAfter e items s).sol.verify = none ∧ (envAfter e items s).sol.issues = (envRead e s).sol.issues := by
  rw [envAfter, (ItemsApplied.of_applyItems e.key items (envRead e s)).sol]
  exact ⟨by rw [envRead_sol], rfl⟩

theorem counted_envAccepted (e : Envelope) (s : State) : counted cSolEnvAccept s (envAccepted e s) := counted_bump _ _

theorem counted_keySwitched (key : Nat) (s : State) : counted cSolKeySwitch s (keySwitched key s) := counted_bump _ _

theorem counted_envAfter (e : Envelope) (items : List (List CorrItem)) (s : State) : counted cSolEnvAccept s (envAfter e items s) := by
  have hfree : reportFree cSolEnvAccept := by unfold reportFree; decide
  have happlied := (ItemsApplied.of_applyItems e.key items (envRead e s)).count cSolEnvAccept hfree (by decide) (by decide) (by decide)
  have hread := ctrGet_envRead_accepted hfree (by decide) (by decide) (by decide) e s
  exact counted_of_same (counted_envAccepted e s) rfl (happlied.trans hread)

theorem ctrGet_keySwitch_envRead (e : Envelope) (s : State) : ctrGet (envRead e s) cSolKeySwitch = ctrGet s cSolKeySwitch :=
  ctrGet_envRead (by unfold reportFree; decide) (by decide) (by decide) (by decide) (by decide) e s

theorem ctrGet_keySwitch_messages (items : List (List CorrItem)) (s : State) : ctrGet (items.foldl holdMessage s) cSolKeySwitch = ctrGet s cSolKeySwitch :=
  (ItemsHeld.of_messages items s).count _ (by unfold reportFree; decide) (by decide) (by decide)

theorem key_messages (items : List (List CorrItem)) (s : State) : (items.foldl holdMessage s).sol.key = s.sol.key := by
  rw [(ItemsHeld.of_messages items s).sol]

theorem envRead_key (e : Envelope) (s : State) : (envRead e s).sol.key = s.sol.key := by rw [envRead_sol]

/-- Under the key that is followed the items take effect. -/
theorem envAfter_follows (h : s.sol.key = some e.key) :
    (envAfter e items s).sol.key = some e.key ∧ ctrGet (envAfter e items s) cSolKeySwitch = ctrGet s cSolKeySwitch := by
  rw [envAfter, applyItems_follows (by rwa [envRead_key]), key_messages, envRead_key, ctrGet_keySwitch_messages]
  exact ⟨h, ctrGet_keySwitch_envRead e s⟩

/-- An envelope of another key that serves too few satellites changes nothing. -/
theorem envAfter_ignores (h : s.sol.key ≠ some e.key) (hc : orbClkCount s items.flatten < 4) :
    (envAfter e items s).sol.key = s.sol.key ∧ (envAfter e items s).sol.corr = s.sol.corr ∧ (envAfter e items s).sol.amb = s.sol.amb := by
  rw [envAfter, applyItems_ignores (by rwa [envRead_key]) (by rwa [orbClkCount_envRead]), envRead_sol]
  exact ⟨rfl, rfl, rfl⟩

/-- One that serves enough is followed from then on. -/
theorem envAfter_chosen (h : s.sol.key ≠ some e.key) (hc : 4 ≤ orbClkCount s items.flatten) : (envAfter e items s).sol.key = some e.key := by
  have hcount : 4 ≤ orbClkCount (envRead e s) items.flatten := by rwa [orbClkCount_envRead]
  have hne : (envRead e s).sol.key ≠ some e.key := by rwa [envRead_key]
  cases hk : (envRead e s).sol.key with
  | none =>
    rw [envAfter, applyItems_takes hk hcount, key_messages]
    rfl
  | some k => rw [envAfter, applyItems_switches hk hne hcount, key_messages, keySwitched_sol]

/-- A switch of keys is counted; ambiguities start anew, and only the envelope's corrections are held. -/
theorem envAfter_switches {k : Nat} (hk : s.sol.key = some k) (h : s.sol.key ≠ some e.key) (hc : 4 ≤ orbClkCount s items.flatten) :
    counted cSolKeySwitch s (envAfter e items s) ∧ allFresh (envAfter e items s).sol.amb ∧
      ∀ c ∈ (envAfter e items s).sol.corr, ∃ x ∈ items.flatten, ∃ w, c = { x with waits := w } := by
  have hheld := ItemsHeld.of_messages items (keySwitched e.key (envRead e s))
  rw [envAfter, applyItems_switches (by rwa [envRead_key]) (by rwa [envRead_key]) (by rwa [orbClkCount_envRead])]
  refine ⟨?_, hheld.amb ?_, fun c hcorr => ?_⟩
  · exact counted_of_same (counted_keySwitched e.key (envRead e s)) (ctrGet_keySwitch_envRead e s) (ctrGet_keySwitch_messages items _)
  · rw [keySwitched_sol]
    intro x hx
    obtain ⟨y, -, rfl⟩ := List.mem_map.1 hx
    exact resetAmb_fresh y
  · obtain hbefore | hitem := hheld.corr c hcorr
    · rw [keySwitched_sol] at hbefore
      cases hbefore
    · exact hitem

/-- Settles O41: passes by the subset that fails worst, the evaluation published, the expiries, and the envelope by its checks and its signature. -/
theorem integrityAndEnvelopes : Obligations.IntegrityAndEnvelopes := by
  unfold Obligations.IntegrityAndEnvelopes
  refine ⟨evaluate_passes, fun s te hw h => ⟨_, exec_integrityEval h, integAfter_settles hw te _ _ _⟩, fun s q r hs hp hen hno hon hty hq =>
    ⟨_, exec_positionHold hs hp ⟨hen, hno, hon, hty, hq⟩, rfl⟩, fun s v => ⟨_, exec_exclHoldExpiry v s, rfl, fun x => mem_exclHoldExpiry⟩,
    fun s i c n hc hl ha => ⟨_, exec_correctionExpiry hc hl ha, rfl⟩, fun s e rest henv hfree hcry hsol => ?_, fun s e end_ h => ?_⟩
  · have hexec := exec_envelopeVerifyStart henv hfree hcry hsol
    refine ⟨fun hu => envRefused (hexec.trans (by rw [envChecked_unknown hu])), fun k hk => ⟨fun hw => envRefused (hexec.trans (by rw [envChecked_expired hk hw])),
      fun hf hu => ⟨fun hst => ?_, fun hst => ?_⟩⟩⟩
    · rw [envChecked_inWeeks hk hf hu, if_pos (envStale_iff.2 hst)] at hexec
      exact envRefused hexec
    · rw [envChecked_inWeeks hk hf hu, if_neg (mt envStale_iff.1 hst)] at hexec
      exact ⟨_, hexec, rfl⟩
  · refine ⟨fun ht => ⟨s, exec_envelopeVerdict_early h ht, rfl⟩, fun ht hok => ?_, fun ht hok => ?_⟩
    · have hexec := (exec_envelopeVerdict h ht).trans (if_neg (by rw [show envSigned e s = false from hok]; exact Bool.false_ne_true))
      exact ⟨_, hexec, counted_bump _ _, by rw [bump_eta]⟩
    · have hexec := (exec_envelopeVerdict h ht).trans (if_pos hok)
      obtain ⟨hverify, hissues⟩ := envAfter_sol e (envParsed e s).items s
      obtain ⟨hmem, hlast⟩ := envRead_issues e s
      refine ⟨envAfter e (envParsed e s).items s, hexec, counted_envAfter _ _ _, hverify, hissues ▸ hmem, hissues ▸ hlast, envAfter_follows, envAfter_ignores,
        fun hne hc => ⟨envAfter_chosen hne hc, fun hsome => ?_⟩⟩
      obtain ⟨k, hk⟩ := Option.ne_none_iff_exists'.1 hsome
      exact envAfter_switches hk hne hc

end Sys2Proof.Machine
end

section
/-!
SUPPORT. The shares of the snapshot farm (08_snapshot_farm R211, R212): which element leaves a full list through the spillway, and what a delivery makes of the store.
-/

namespace Sys2Proof.Machine

variable {s t u : State} {p : Polder} {q : Snapshot}

/-! ### Counts -/

theorem counted_ctrAdd (i : Nat) (s : State) : counted i s (ctrAdd i 1 s) := ctrGet_ctrAdd_self i 1 (by decide) s

theorem polCounter_ne {j k : Nat} (h : j ≠ k) (p : Polder) : polCounter p j ≠ polCounter p k := by
  unfold polCounter
  omega

/-- A count stays one when another counter of the polder is raised after it. -/
theorem counted_before {j k : Nat} (h : j ≠ k) (hc : counted (polCounter p j) s t) (n : Nat) : counted (polCounter p j) s (ctrAdd (polCounter p k) n t) :=
  counted_of_same hc rfl (ctrGet_ctrAdd_ne _ _ _ (polCounter_ne h p) t)

/-! ### The spillway -/

section
variable {α : Type} {cls : α → Nat} {l : List α} {n : Nat}

theorem spillCandidate_append (cls : α → Nat) (l : List α) (x : α) : spillCandidate cls (l ++ [x]) =
    match spillCandidate cls l with | none => some x | some y => if cls y < cls x then some x else some y := by
  unfold spillCandidate
  rw [List.foldl_append]
  rfl

/-- The candidate is an element of the highest class; only an empty list has none. -/
theorem spillCandidate_highest (cls : α → Nat) (l : List α) :
    l = [] ∧ spillCandidate cls l = none ∨ ∃ c ∈ l, spillCandidate cls l = some c ∧ ∀ x ∈ l, cls x ≤ cls c := by
  induction l using List.reverseRecOn with
  | nil => exact .inl ⟨rfl, rfl⟩
  | append_singleton l x ih =>
    refine .inr ?_
    rw [spillCandidate_append]
    obtain ⟨rfl, hnone⟩ | ⟨c, hc, hsome, hmax⟩ := ih
    · rw [hnone]
      exact ⟨x, by simp, rfl, by simp⟩
    · rw [hsome]
      simp only [List.mem_append, List.mem_singleton]
      by_cases hlt : cls c < cls x
      · refine ⟨x, .inr rfl, if_pos hlt, ?_⟩
        rintro y (hy | rfl)
        · exact (hmax y hy).trans hlt.le
        · exact le_refl _
      · refine ⟨c, .inl hc, if_neg hlt, ?_⟩
        rintro y (hy | rfl)
        · exact hmax y hy
        · exact not_lt.1 hlt

/-- What a newcomer of class `n` at a full list comes to: `lost` where it is the one to leave, `left c` where the candidate `c` leaves for it (08_snapshot_farm R211). -/
def spillTo {β : Type} (cls : α → Nat) (n : Nat) (l : List α) (lost : β) (left : α → β) : β :=
  match spillCandidate cls l with
  | none => lost
  | some c => if cls c < n then lost else left c

/-- It is lost where every class is lower than its own; else an element of the highest class leaves. -/
theorem spillTo_cases {β : Type} (cls : α → Nat) (n : Nat) (l : List α) (lost : β) (left : α → β) :
    (∀ x ∈ l, cls x < n) ∧ spillTo cls n l lost left = lost ∨
      ∃ c ∈ l, n ≤ cls c ∧ (∀ x ∈ l, cls x ≤ cls c) ∧ spillTo cls n l lost left = left c := by
  unfold spillTo
  obtain ⟨rfl, hnone⟩ | ⟨c, hc, hsome, hmax⟩ := spillCandidate_highest cls l
  · rw [hnone]
    exact .inl ⟨by simp, rfl⟩
  · rw [hsome]
    obtain hlt | hn := lt_or_ge (cls c) n
    · exact .inl ⟨fun x hx => (hmax x hx).trans_lt hlt, if_pos hlt⟩
    · exact .inr ⟨c, hc, hn, hmax, if_neg (not_lt.2 hn)⟩

/-- What either case comes to, as one implication for each. -/
theorem spill_settles {A : Prop} {B : Nat → Prop}
    (h : (∀ x ∈ l, cls x < n) ∧ A ∨ ∃ c ∈ l, n ≤ cls c ∧ (∀ x ∈ l, cls x ≤ cls c) ∧ B (cls c)) :
    ((∀ x ∈ l, cls x < n) → A) ∧ ∀ c ∈ l, n ≤ cls c → (∀ x ∈ l, cls x ≤ cls c) → B (cls c) := by
  obtain ⟨hlow, ha⟩ | ⟨d, hd, hn, hmax, hb⟩ := h
  · exact ⟨fun _ => ha, fun c hc hle _ => absurd (hlow c hc) (not_lt.2 hle)⟩
  · refine ⟨fun hlow => absurd (hlow d hd) (not_lt.2 hn), fun c hc _ hcmax => ?_⟩
    rw [Nat.le_antisymm (hmax c hc) (hcmax d hd)]
    exact hb

end

/-! ### Shares -/

theorem modShare_other {o : Polder} (h : o ≠ p) (f : FarmShare → FarmShare) (s : State) : (modShare p f s).snf.share[o] = s.snf.share[o] :=
  Vector.getElem_set_ne p.isLt o.isLt fun e => h (Fin.ext e.symm)

theorem modShare_modShare (p : Polder) (f g : FarmShare → FarmShare) (s : State) : modShare p f (modShare p g s) = modShare p (fun x => f (g x)) s := by
  show modShare p (fun _ => f (modShare p g s).snf.share[p]) (modShare p g s) = _
  rw [modShare_same]
  unfold modShare
  simp

/-- A farm where at most the share of one polder has changed, and the counters. -/
structure OneShare (p : Polder) (s t : State) : Prop where
  lnk : t.lnk = s.lnk
  job : t.snf.job = s.snf.job
  share : ∀ o, o ≠ p → t.snf.share[o] = s.snf.share[o]

namespace OneShare

theorem of_modShare (f : FarmShare → FarmShare) (h : OneShare p s t) : OneShare p s (modShare p f t) :=
  ⟨h.lnk, h.job, fun o ho => (modShare_other ho f t).trans (h.share o ho)⟩

theorem of_ctrAdd (i n : Nat) (h : OneShare p s t) : OneShare p s (ctrAdd i n t) := ⟨h.lnk, h.job, h.share⟩

end OneShare

/-! ### Delivery -/

/-- A job of the polder occupies its place in the share (log entry 85). -/
def jobRuns (p : Polder) (s : State) : Bool := match s.snf.job with | some x => decide (x.1 = p) | none => false

/-- Places of a share that are taken. -/
def placesTaken (p : Polder) (s : State) : Nat := s.snf.share[p].store.length + if jobRuns p s then 1 else 0

/-- A snapshot has left the share of a polder through the spillway, or found no place in it. -/
def snapSpilled (p : Polder) (s : State) : State := ctrAdd (pSnfSnapSpill p) 1 (modShare p (fun x => { x with lostNext := true }) s)

/-- A snapshot has entered a share. -/
def snapEntered (p : Polder) (q : Snapshot) (s : State) : State := ctrAdd (pSnfSnapsIn p) 1 (modShare p (fun x => { x with store := x.store ++ [q] }) s)

/-- A snapshot has taken the place of the oldest of a class. -/
def snapReplaced (p : Polder) (q : Snapshot) (c : Nat) (s : State) : State :=
  ctrAdd (pSnfSnapsIn p) 1 (modShare p (fun x => { x with store := dropClass (·.cls) c x.store ++ [q] }) (snapSpilled p s))

theorem storeSnapshot_eq (p : Polder) (q : Snapshot) (s : State) : storeSnapshot p q s =
    if placesTaken p s < cfgAt s snfShareStore p.val then snapEntered p q s
    else spillTo (·.cls) q.cls s.snf.share[p].store (snapSpilled p s) fun c => snapReplaced p q c.cls s := by
  have hplaces : placesTaken p s = s.snf.share[p].store.length + match s.snf.job with | some (o, _, _) => if o = p then 1 else 0 | none => 0 := by
    unfold placesTaken jobRuns
    cases s.snf.job <;> simp
  rw [hplaces]
  unfold storeSnapshot spillTo
  dsimp only
  cases spillCandidate (·.cls) s.snf.share[p].store <;> rfl

theorem storeSnapshot_enters (h : placesTaken p s < cfgAt s snfShareStore p.val) : storeSnapshot p q s = snapEntered p q s := by
  rw [storeSnapshot_eq, if_pos h]

/-- At a full share the snapshot of a CLASS above all of its own is lost, and any other replaces one of the highest CLASS (08_snapshot_farm R211). -/
theorem storeSnapshot_full (h : cfgAt s snfShareStore p.val ≤ placesTaken p s) :
    (∀ x ∈ s.snf.share[p].store, x.cls < q.cls) ∧ storeSnapshot p q s = snapSpilled p s ∨
      ∃ c ∈ s.snf.share[p].store, q.cls ≤ c.cls ∧ (∀ x ∈ s.snf.share[p].store, x.cls ≤ c.cls) ∧ storeSnapshot p q s = snapReplaced p q c.cls s := by
  rw [storeSnapshot_eq, if_neg (not_lt.2 h)]
  exact spillTo_cases _ _ _ _ _

theorem oneShare_snapSpilled (h : OneShare p s t) : OneShare p s (snapSpilled p t) := (h.of_modShare _).of_ctrAdd _ _

theorem oneShare_storeSnapshot (q : Snapshot) (h : OneShare p s t) : OneShare p s (storeSnapshot p q t) := by
  obtain hroom | hfull := lt_or_ge (placesTaken p t) (cfgAt t snfShareStore p.val)
  · rw [storeSnapshot_enters hroom]
    exact (h.of_modShare _).of_ctrAdd _ _
  · obtain ⟨-, heq⟩ | ⟨c, -, -, -, heq⟩ := storeSnapshot_full (q := q) hfull
    · rw [heq]
      exact oneShare_snapSpilled h
    · rw [heq]
      exact ((oneShare_snapSpilled h).of_modShare _).of_ctrAdd _ _

theorem snapEntered_share (p : Polder) (q : Snapshot) (s : State) :
    (snapEntered p q s).snf.share[p] = { s.snf.share[p] with store := s.snf.share[p].store ++ [q] } := by
  rw [snapEntered, ctrAdd_snf, modShare_same]

theorem snapSpilled_share (p : Polder) (s : State) : (snapSpilled p s).snf.share[p] = { s.snf.share[p] with lostNext := true } := by
  rw [snapSpilled, ctrAdd_snf, modShare_same]

theorem snapReplaced_share (p : Polder) (q : Snapshot) (c : Nat) (s : State) : (snapReplaced p q c s).snf.share[p] =
    { s.snf.share[p] with lostNext := true, store := dropClass (·.cls) c s.snf.share[p].store ++ [q] } := by
  rw [snapReplaced, ctrAdd_snf, modShare_same, snapSpilled_share]

theorem counted_snapEntered (p : Polder) (q : Snapshot) (s : State) : counted (pSnfSnapsIn p) s (snapEntered p q s) := counted_ctrAdd _ _

theorem counted_snapSpilled (p : Polder) (s : State) : counted (pSnfSnapSpill p) s (snapSpilled p s) := counted_ctrAdd _ _

/-- A replacement counts the snapshot that left and the one that entered. -/
theorem counted_snapReplaced (p : Polder) (q : Snapshot) (c : Nat) (s : State) :
    counted (pSnfSnapSpill p) s (snapReplaced p q c s) ∧ counted (pSnfSnapsIn p) s (snapReplaced p q c s) :=
  ⟨counted_before (by decide) (counted_snapSpilled p s) 1,
    counted_of_same (counted_ctrAdd _ _) (ctrGet_ctrAdd_ne _ _ _ (polCounter_ne (by decide) p) _) rfl⟩

/-- From `s` to `t` a snapshot was counted in and took the place of the oldest of a class in its polder's full share. -/
def replacedIn (p : Polder) (q : Snapshot) (s t : State) (c : Nat) : Prop := counted (pSnfSnapsIn p) s t ∧
  t.snf.share[p] = { s.snf.share[p] with lostNext := true, store := dropClass (·.cls) c s.snf.share[p].store ++ [q] }

/-- What a full share makes of a snapshot, by CLASS (08_snapshot_farm R211). -/
theorem storeSnapshot_spills (q : Snapshot) (h : cfgAt s snfShareStore p.val ≤ placesTaken p s) :
    counted (pSnfSnapSpill p) s (storeSnapshot p q s) ∧
      ((∀ x ∈ s.snf.share[p].store, x.cls < q.cls) → (storeSnapshot p q s).snf.share[p] = { s.snf.share[p] with lostNext := true }) ∧
      ∀ c ∈ s.snf.share[p].store, q.cls ≤ c.cls → (∀ x ∈ s.snf.share[p].store, x.cls ≤ c.cls) → replacedIn p q s (storeSnapshot p q s) c.cls := by
  refine ⟨?_, spill_settles (B := replacedIn p q s (storeSnapshot p q s)) ?_⟩
  · obtain ⟨-, heq⟩ | ⟨c, -, -, -, heq⟩ := storeSnapshot_full (q := q) h
    · exact heq ▸ counted_snapSpilled p s
    · exact heq ▸ (counted_snapReplaced p q c.cls s).1
  · refine (storeSnapshot_full (q := q) h).imp (fun ⟨hlow, heq⟩ => ⟨hlow, heq ▸ snapSpilled_share p s⟩) fun ⟨c, hc, hn, hmax, heq⟩ => ⟨c, hc, hn, hmax, ?_⟩
    exact heq ▸ ⟨(counted_snapReplaced p q c.cls s).2, snapReplaced_share p q c.cls s⟩

/-- The delivery of a channel is taken. -/
def snapTaken (ch : LinkChan) (s : State) : State := { s with lnk := { s.lnk with snapDue := s.lnk.snapDue.set ch none } }

section
variable {ch : LinkChan} {a : PendingAck} {payload : List Byte}

/-- The snapshot of a dry polder or of a context without a tag is orphaned (08_snapshot_farm Table 08-8). -/
theorem exec_snapshotDelivery_orphan (hdue : s.lnk.snapDue[ch] = some a) (hsnap : a.snap = some payload)
    (h : isDry s a.polder = true ∨ (ctxGet s a.ctx).state = .empty ∨ (ctxGet s a.ctx).state = .retired) :
    exec (.snapshotDelivery ch) s = .next (ctrAdd (pSnfSnapOrphan a.polder) 1 (snapTaken ch s)) := by
  show execSnapshotDelivery ch s = _
  unfold execSnapshotDelivery
  rw [hdue]
  dsimp only
  rw [hsnap]
  exact if_pos h

theorem exec_snapshotDelivery (hdue : s.lnk.snapDue[ch] = some a) (hsnap : a.snap = some payload)
    (h : ¬ (isDry s a.polder = true ∨ (ctxGet s a.ctx).state = .empty ∨ (ctxGet s a.ctx).state = .retired)) :
    exec (.snapshotDelivery ch) s = .next (storeSnapshot a.polder (snapshotOf s ch a payload) (snapTaken ch s)) := by
  show execSnapshotDelivery ch s = _
  unfold execSnapshotDelivery
  rw [hdue]
  dsimp only
  rw [hsnap]
  exact if_neg h

end

end Sys2Proof.Machine
end

section
/-!
SUPPORT. The slots of the snapshot farm (08_snapshot_farm R207–R209): what a slot start makes of an owned slot, and what a slot's end makes of the result.
-/

namespace Sys2Proof.Machine

variable {s t u : State} {p : Polder} {q : Snapshot} {r : FarmResult} {n : Nat}

/-! ### The result of a job -/

/-- Before its search a job is rejected with one of three statuses (08_snapshot_farm Table 08-2). -/
theorem farmReject_cases (h : farmReject s q = some n) : n = 6 ∨ n = 5 ∨ n = 7 := by
  unfold farmReject at h
  split at h
  · exact .inl (Option.some.inj h).symm
  · split at h
    · exact .inr (.inl (Option.some.inj h).symm)
    · split at h
      · exact .inr (.inr (Option.some.inj h).symm)
      · cases h

theorem farmResultOf_rejected (h : farmReject s q = some n) : farmResultOf s p q = ⟨q.cls, q.ctx, packFields (farmHead q n), false, []⟩ := by
  unfold farmResultOf
  rw [h]

/-- A result carries the context and the CLASS of its snapshot, and no LOST before it enters the queue. -/
theorem farmResultOf_source (s : State) (p : Polder) (q : Snapshot) :
    (farmResultOf s p q).ctx = q.ctx ∧ (farmResultOf s p q).cls = q.cls ∧ (farmResultOf s p q).lost = false := by
  unfold farmResultOf
  split <;> exact ⟨rfl, rfl, rfl⟩

theorem farmHead_status (q : Snapshot) (n : Nat) : getBits (packFields (farmHead q n)) 10 3 = n % 8 := by
  unfold farmHead
  simp only [packFields, putBits, getBits]
  omega

theorem farmResultOf_status (h : farmReject s q = some n) : getBits (farmResultOf s p q).header 10 3 = n ∧ (farmResultOf s p q).entries = [] := by
  rw [farmResultOf_rejected h]
  refine ⟨(farmHead_status q n).trans (Nat.mod_eq_of_lt ?_), rfl⟩
  obtain rfl | rfl | rfl := farmReject_cases h <;> decide

/-! ### A slot begins -/

/-- The slot now has begun. -/
def slotBegun (s : State) : State := { s with snf := { s.snf with slot := some (farmSlotNow s) } }

/-- The slot of a polder idles, for credit or for another cause, which a counter counts. -/
def slotIdled (p : Polder) (low : Bool) (i : Nat) (s : State) : State := ctrAdd i 1 (modShare p (fun x => { x with creditLow := low }) s)

/-- The polder pays for a job that searches. -/
def jobCharged (p : Polder) (q : Snapshot) (s : State) : State := if (farmReject s q).isSome then s else charge p 4300 s

/-- A snapshot has left the store for its job. -/
def jobTaken (p : Polder) (q : Snapshot) (s : State) : State :=
  modShare p (fun x => { x with store := x.store.erase q }) (modShare p (fun x => { x with creditLow := false }) (jobCharged p q s))

/-- Its job runs. -/
def jobRun (p : Polder) (q : Snapshot) (r : FarmResult) (s : State) : State :=
  { jobTaken p q s with snf := { (jobTaken p q s).snf with job := some (p, r, false) } }

/-- The job is counted, and its result by its status. -/
def jobCounted (p : Polder) (r : FarmResult) (s : State) : State := ctrAdd (farmCounter p r.header) 1 (ctrAdd (pSnfJobs p) 1 s)

/-- A slot starts once, while no job runs and sky time does (08_snapshot_farm R207). -/
theorem exec_farmSlotStart_eq (s : State) : exec (.farmSlotStart () ()) s =
    if s.snf.job.isSome ∨ s.snf.slot = some (farmSlotNow s) ∨ s.sky.run = false ∨ s.mode.life ≠ .run then .next s else
      if h : cfgAt s snfShareOwner (farmSlotNow s).2 < 8 then .next (farmSlot ⟨_, h⟩ (farmSlotNow s).1 (slotBegun s)) else .next (slotBegun s) := rfl

theorem exec_farmSlotStart (hjob : s.snf.job = none) (hslot : s.snf.slot ≠ some (farmSlotNow s)) (hrun : s.sky.run = true) (hlife : s.mode.life = .run)
    (howner : cfgAt s snfShareOwner (farmSlotNow s).2 = p.val) :
    exec (.farmSlotStart () ()) s = .next (farmSlot p (farmSlotNow s).1 (slotBegun s)) := by
  have hlt : cfgAt s snfShareOwner (farmSlotNow s).2 < 8 := howner ▸ p.isLt
  have hp : (⟨_, hlt⟩ : Polder) = p := Fin.ext howner
  rw [exec_farmSlotStart_eq, if_neg (by simp [hjob, hslot, hrun, hlife]), dif_pos hlt, hp]

/-- The slots of a polder that is dry, stopped, on hold, or without a slot map in the second (08_snapshot_farm R207, R210). -/
def slotHeld (s : State) (p : Polder) (sec : Nat) : Prop := isDry s p = true ∨ coreRuns s p = false ∨ winBit s p 0xC604 1 = true ∨ farmMode s sec = false

theorem not_slotHeld {sec : Nat} (hdry : isDry s p = false) (hcore : coreRuns s p = true) (hhold : winBit s p 0xC604 1 = false)
    (hmode : farmMode s sec = true) : ¬ slotHeld s p sec := by
  unfold slotHeld
  rw [hdry, hcore, hhold, hmode]
  decide

/-- The snapshots of a share that are eligible, in the order of R207. -/
def farmQueue (s : State) (p : Polder) : List Snapshot := sortBy snapBefore (s.snf.share[p].store.filter (farmEligible s))

section
variable {sec : Nat} {rest : List Snapshot}

theorem farmSlot_held (h : slotHeld s p sec) : farmSlot p sec s = slotIdled p false (pSnfSlotIdleHold p) s := by
  unfold farmSlot
  exact if_pos h

theorem farmSlot_empty (h : ¬ slotHeld s p sec) (hq : farmQueue s p = []) : farmSlot p sec s = slotIdled p false (pSnfSlotIdleEmpty p) s := by
  unfold farmSlot
  refine (if_neg h).trans ?_
  unfold farmQueue at hq
  rw [hq]
  rfl

theorem farmSlot_first (h : ¬ slotHeld s p sec) (hq : farmQueue s p = q :: rest) : farmSlot p sec s =
    if (farmReject s q).isSome = false ∧ creditOk s p 4300 = false then slotIdled p true (pSnfSlotIdleCredit p) s
    else jobCounted p (farmResultOf s p q) (jobRun p q (farmResultOf s p q) s) := by
  unfold farmSlot
  refine (if_neg h).trans ?_
  unfold farmQueue at hq
  rw [hq]
  rfl

/-- A job that searches waits for credit (08_snapshot_farm R208). -/
theorem farmSlot_short (h : ¬ slotHeld s p sec) (hq : farmQueue s p = q :: rest) (hrej : farmReject s q = none) (hcred : creditOk s p 4300 = false) :
    farmSlot p sec s = slotIdled p true (pSnfSlotIdleCredit p) s :=
  (farmSlot_first h hq).trans (if_pos ⟨congrArg Option.isSome hrej, hcred⟩)

theorem farmSlot_runs (h : ¬ slotHeld s p sec) (hq : farmQueue s p = q :: rest) (hruns : farmReject s q ≠ none ∨ creditOk s p 4300 = true) :
    farmSlot p sec s = jobCounted p (farmResultOf s p q) (jobRun p q (farmResultOf s p q) s) := by
  refine (farmSlot_first h hq).trans (if_neg ?_)
  rw [Option.isSome_eq_false_iff, Option.isNone_iff_eq_none, not_and_or, Bool.not_eq_false]
  exact hruns

end

theorem farmJob_slotBegun (s : State) : farmJob (slotBegun s) = farmJob s := rfl

/-- A job comes to the same in the slot as before it. -/
theorem farmResultOf_slotBegun (s : State) (p : Polder) (q : Snapshot) : farmResultOf (slotBegun s) p q = farmResultOf s p q := by
  unfold farmResultOf
  rw [farmJob_slotBegun]
  rfl

theorem counted_slotIdled (p : Polder) (low : Bool) (i : Nat) (s : State) : counted i s (slotIdled p low i s) := counted_ctrAdd _ _

theorem farmCounter_ne (p : Polder) (header : Nat) : farmCounter p header ≠ pSnfJobs p := by
  unfold farmCounter
  dsimp only
  repeat' split
  all_goals exact polCounter_ne (by decide) p

/-- Where the counters are as they were, the job and its status are counted. -/
theorem counted_jobCounted (r : FarmResult) (h : t.ctr = s.ctr) :
    counted (pSnfJobs p) s (jobCounted p r t) ∧ counted (farmCounter p r.header) s (jobCounted p r t) :=
  ⟨counted_of_same (counted_ctrAdd _ _) (ctrGet_congr h _) (ctrGet_ctrAdd_ne _ _ _ (farmCounter_ne p r.header).symm _),
    counted_of_same (counted_ctrAdd _ _) ((ctrGet_ctrAdd_ne _ _ _ (farmCounter_ne p r.header) t).trans (ctrGet_congr h _)) rfl⟩

theorem jobCharged_eq (p : Polder) (q : Snapshot) (s : State) :
    jobCharged p q s = { s with pmu := if farmReject s q = none then (charge p 4300 s).pmu else s.pmu } := by
  unfold jobCharged
  cases farmReject s q <;> rfl

/-- A slot that runs a job: the job in the farm, its snapshot out of the store, and its charge. -/
theorem jobRun_slotBegun (p : Polder) (q : Snapshot) (r : FarmResult) (s : State) : jobRun p q r (slotBegun s) = { s with
    snf := { s.snf with
      slot := some (farmSlotNow s), job := some (p, r, false)
      share := s.snf.share.set p { s.snf.share[p] with creditLow := false, store := s.snf.share[p].store.erase q } }
    pmu := if farmReject s q = none then (charge p 4300 s).pmu else s.pmu } := by
  unfold jobRun jobTaken
  rw [modShare_modShare, jobCharged_eq]
  rfl

/-- A slot that idles moves the slot, CREDIT_LOW and its counter. -/
theorem slotIdled_settles (p : Polder) (low : Bool) (i : Nat) (s : State) : counted i s (slotIdled p low i (slotBegun s)) ∧
    slotIdled p low i (slotBegun s) = { s with
      snf := { s.snf with slot := some (farmSlotNow s), share := s.snf.share.set p { s.snf.share[p] with creditLow := low } }
      ctr := (slotIdled p low i (slotBegun s)).ctr } := ⟨counted_slotIdled p low i (slotBegun s), rfl⟩

/-! ### A slot ends -/

/-- The farm is free for the next job. -/
def jobEnded (s : State) : State := { s with snf := { s.snf with job := none } }

theorem exec_farmResult_early {d : Bool} (hjob : s.snf.job = some (p, r, d)) (h : farmSlotOver s = false) : exec .farmResult s = .next s := by
  show execFarmResult s = _
  unfold execFarmResult
  rw [hjob]
  exact if_pos h

theorem exec_farmResult {d : Bool} (hjob : s.snf.job = some (p, r, d)) (h : farmSlotOver s = true) :
    exec .farmResult s = .next (if d then jobEnded s else queueResult p r (jobEnded s)) := by
  show execFarmResult s = _
  unfold execFarmResult
  rw [hjob]
  exact if_neg (by simp [h])

/-- A result as it enters the queue. -/
def resultMarked (r : FarmResult) (lost : Bool) : FarmResult := { r with lost := lost, header := r.header + putBits 18 1 (b2n lost) }

/-- A result has entered behind a list of others. -/
def resultEntered (p : Polder) (r : FarmResult) (l : List FarmResult) (lost : Bool) (s : State) : State :=
  modShare p (fun x => { x with results := l ++ [resultMarked r lost], lostNext := false }) s

/-- The interrupt of a result that entered (08_snapshot_farm R213). -/
def resultRaised (p : Polder) (s : State) : State := if winBit s p 0xC604 2 then raisePend p 10 s else s

/-- A result is lost, or one that it replaces. -/
def resultSpilled (p : Polder) (s : State) : State := ctrAdd (pSnfResultSpill p) 1 s

/-- The next result to enter tells of a loss. -/
def lossNoted (p : Polder) (s : State) : State := modShare p (fun x => { x with lostNext := true }) s

theorem queueResult_enters (h : s.snf.share[p].results.length < cfgAt s snfShareResDepth p.val) :
    queueResult p r s = resultRaised p (resultEntered p r s.snf.share[p].results s.snf.share[p].lostNext s) := by
  unfold queueResult
  exact if_pos h

/-- At a full queue the rule of R211 applies (08_snapshot_farm R212). -/
theorem queueResult_full (h : cfgAt s snfShareResDepth p.val ≤ s.snf.share[p].results.length) :
    (∀ x ∈ s.snf.share[p].results, x.cls < r.cls) ∧ queueResult p r s = lossNoted p (resultSpilled p s) ∨
      ∃ c ∈ s.snf.share[p].results, r.cls ≤ c.cls ∧ (∀ x ∈ s.snf.share[p].results, x.cls ≤ c.cls) ∧
        queueResult p r s = resultRaised p (resultEntered p r (dropClass (·.cls) c.cls s.snf.share[p].results) true (resultSpilled p s)) := by
  have hspill : queueResult p r s = spillTo (·.cls) r.cls s.snf.share[p].results (lossNoted p (resultSpilled p s)) fun c =>
      resultRaised p (resultEntered p r (dropClass (·.cls) c.cls s.snf.share[p].results) true (resultSpilled p s)) := by
    refine (if_neg (not_lt.2 h)).trans ?_
    unfold spillTo
    dsimp only
    cases spillCandidate (·.cls) s.snf.share[p].results <;> rfl
  rw [hspill]
  exact spillTo_cases _ _ _ _ _

/-- The interrupt touches the polder's own state alone, as it stands before the result enters. -/
theorem resultRaised_eq (p : Polder) (s : State) : resultRaised p s = { s with pld := if winBit s p 0xC604 2 then (raisePend p 10 s).pld else s.pld } := by
  unfold resultRaised
  split <;> rfl

/-- From `s` to `t` the job ended and its result entered behind a list of others, and raised its interrupt where WAKE_EN stands. -/
def enteredQueue (p : Polder) (r : FarmResult) (s : State) (l : List FarmResult) (lost : Bool) (t : State) : Prop :=
  t.snf = { s.snf with job := none, share := s.snf.share.set p { s.snf.share[p] with results := l ++ [resultMarked r lost], lostNext := false } } ∧
    t.pld = if winBit s p 0xC604 2 then (raisePend p 10 s).pld else s.pld

theorem enteredQueue_resultRaised (p : Polder) (r : FarmResult) (l : List FarmResult) (lost : Bool) (h : t.snf = (jobEnded s).snf) (hp : t.pld = s.pld) :
    enteredQueue p r s l lost (resultRaised p (resultEntered p r l lost t)) := by
  rw [resultRaised_eq]
  unfold enteredQueue resultEntered modShare winBit winByte raisePend modCore modP
  rw [h, hp]
  exact ⟨rfl, rfl⟩

/-- With room in the queue the result enters it, and nothing is counted (08_snapshot_farm R209). -/
theorem queueResult_room (r : FarmResult) (h : s.snf.share[p].results.length < cfgAt s snfShareResDepth p.val) :
    enteredQueue p r s s.snf.share[p].results s.snf.share[p].lostNext (queueResult p r (jobEnded s)) ∧ (queueResult p r (jobEnded s)).ctr = s.ctr := by
  rw [queueResult_enters (s := jobEnded s) h]
  exact ⟨enteredQueue_resultRaised p r _ _ rfl rfl, by rw [resultRaised_eq]; rfl⟩

/-- What a full queue makes of a result, by CLASS (08_snapshot_farm R212). -/
theorem queueResult_spills (r : FarmResult) (h : cfgAt s snfShareResDepth p.val ≤ s.snf.share[p].results.length) :
    counted (pSnfResultSpill p) s (queueResult p r (jobEnded s)) ∧
      ((∀ x ∈ s.snf.share[p].results, x.cls < r.cls) → (queueResult p r (jobEnded s)).snf =
        { s.snf with job := none, share := s.snf.share.set p { s.snf.share[p] with lostNext := true } } ∧ (queueResult p r (jobEnded s)).pld = s.pld) ∧
      ∀ c ∈ s.snf.share[p].results, r.cls ≤ c.cls → (∀ x ∈ s.snf.share[p].results, x.cls ≤ c.cls) →
        enteredQueue p r s (dropClass (·.cls) c.cls s.snf.share[p].results) true (queueResult p r (jobEnded s)) := by
  have hfull := queueResult_full (s := jobEnded s) (r := r) h
  refine ⟨?_, spill_settles (B := fun n => enteredQueue p r s (dropClass (·.cls) n s.snf.share[p].results) true (queueResult p r (jobEnded s))) ?_⟩
  · have hcount : counted (pSnfResultSpill p) s (resultSpilled p (jobEnded s)) := counted_ctrAdd _ (jobEnded s)
    obtain ⟨-, heq⟩ | ⟨c, -, -, -, heq⟩ := hfull
    · rw [heq]
      exact hcount
    · rw [heq, resultRaised_eq]
      exact hcount
  · refine hfull.imp (fun ⟨hlow, heq⟩ => ⟨hlow, heq ▸ ⟨rfl, rfl⟩⟩) fun ⟨c, hc, hn, hmax, heq⟩ => ⟨c, hc, hn, hmax, ?_⟩
    exact heq ▸ enteredQueue_resultRaised p r _ true rfl rfl

end Sys2Proof.Machine
end

section
/-!
SUPPORT. SNF.MB_CTRL of the farm mailbox (08_snapshot_farm R213, Table 08-7): what a polder's write to it does.
-/

namespace Sys2Proof.Machine

variable {s : State} {p : Polder}

/-- A bit of a stored byte with one bit set to a value. -/
theorem withBit_getLsbD (s : State) (p : Polder) (a : Nat) {b k : Nat} (hk : k < 8) (v : Bool) :
    (withBit s p a b v).getLsbD k = if k = b then v else winBit s p a k := by
  have hm : (BitVec.ofNat 8 (2 ^ b)).getLsbD k = decide (b = k) := by
    rw [BitVec.getLsbD_ofNat, Nat.testBit_two_pow, decide_eq_true hk, Bool.true_and]
  have hset : (if v then BitVec.ofNat 8 (2 ^ b) else 0).getLsbD k = (v && decide (b = k)) := by
    cases v with
    | false => simp
    | true => exact hm
  unfold withBit winBit
  rw [BitVec.getLsbD_or, BitVec.getLsbD_and, BitVec.getLsbD_not, hm, hset]
  by_cases h : k = b
  · simp [h]
  · simp [h, Ne.symm h, hk]

/-- A byte of a window after a write to it (13_ohmore_model R336). -/
theorem winByte_winStore (hw : s.pld[p].memWf = true) (a : Nat) (v : Byte) : winByte (winStore p a v s) p a = v &&& winStored a := by
  unfold winStore winPut winByte
  rw [modP_same, sget_swrite _ _ _ _ _ (polder_memWf.1 hw).2, if_pos (by simp)]
  simp

/-- SNF.MB_CTRL is live while SNF is on. -/
theorem byteFate_mbCtrl (h : domOn s .snf = true) (p : Polder) (v : Byte) : byteFate s p 0xC604 (some v) = .live := by
  have hcovered : winCovered 0xC604 = true := by decide
  simp [byteFate, windowFate, hcovered, foreignCommand, windowDomain, h]

/-- A write to SNF.MB_CTRL: the store, and POP where its bit is written. -/
def mbCtrlWritten (p : Polder) (v : Byte) (s : State) : State := if v.getLsbD 0 then snfPop p (winStore p 0xC604 v s) else winStore p 0xC604 v s

theorem mbCtrlWritten_pops {v : Byte} (h : v.getLsbD 0 = true) (s : State) : mbCtrlWritten p v s = snfPop p (winStore p 0xC604 v s) := if_pos h

theorem mbCtrlWritten_keeps {v : Byte} (h : v.getLsbD 0 = false) (s : State) : mbCtrlWritten p v s = winStore p 0xC604 v s :=
  if_neg (by rw [h]; exact Bool.false_ne_true)

theorem mbCtrlWritten_pld (p : Polder) (v : Byte) (s : State) : (mbCtrlWritten p v s).pld = (winStore p 0xC604 v s).pld := by
  unfold mbCtrlWritten
  split <;> rfl

theorem programWrite_mbCtrl (ha : mayAccess s p) (h : domOn s .snf = true) (v : Byte) : programWrite p 0xC604 v s = mbCtrlWritten p v s := by
  obtain ⟨hlive, hdue⟩ := ha
  have hwrite : writeOne p 0xC604 v s = mbCtrlWritten p v s := by
    unfold writeOne
    rw [byteFate_mbCtrl h]
    rfl
  have hkept : (mbCtrlWritten p v s).pld[p].restartDue = false := by
    rw [mbCtrlWritten_pld, winStore, winPut, modP_same]
    exact hdue
  unfold programWrite endAccess
  rw [hlive, byteFate_mbCtrl h, hwrite, if_neg (show ¬ true = false by decide), if_neg (show ¬ ByteFate.live = .dry by decide)]
  exact if_neg (by rw [hkept]; exact Bool.false_ne_true)

/-- Of HOLD and WAKE_EN the one that is written reads back as written, the other as it was. -/
theorem winBit_mbCtrlWritten (hw : s.pld[p].memWf = true) {k : Nat} (hk : k = 1 ∨ k = 2) (b : Nat) (v : Bool) :
    winBit (mbCtrlWritten p (withBit s p 0xC604 b v) s) p 0xC604 k = if k = b then v else winBit s p 0xC604 k := by
  have hlt : k < 8 := by omega
  have hbyte : winByte (mbCtrlWritten p (withBit s p 0xC604 b v) s) p 0xC604 = withBit s p 0xC604 b v &&& winStored 0xC604 := by
    unfold winByte
    rw [mbCtrlWritten_pld]
    exact winByte_winStore hw 0xC604 _
  have hstored : (winStored 0xC604).getLsbD k = true := by obtain rfl | rfl := hk <;> decide
  rw [winBit, hbyte, BitVec.getLsbD_and, hstored, Bool.and_true]
  exact withBit_getLsbD s p 0xC604 hlt v

theorem exec_snfPop (ha : mayAccess s p) (h : domOn s .snf = true) :
    exec (.snfPop p) s = .next (snfPop p (winStore p 0xC604 (withBit s p 0xC604 0 true) s)) := by
  show Host.Outcome.next (programWrite p 0xC604 (withBit s p 0xC604 0 true) s) = _
  rw [programWrite_mbCtrl ha h, mbCtrlWritten_pops (withBit_getLsbD s p _ (by decide) true)]

theorem exec_snfHold (ha : mayAccess s p) (h : domOn s .snf = true) (v : Bool) :
    exec (.snfHold p v) s = .next (mbCtrlWritten p (withBit s p 0xC604 1 v) s) := congrArg _ (programWrite_mbCtrl ha h _)

theorem exec_snfWakeEn (ha : mayAccess s p) (h : domOn s .snf = true) (v : Bool) :
    exec (.snfWakeEn p v) s = .next (mbCtrlWritten p (withBit s p 0xC604 2 v) s) := congrArg _ (programWrite_mbCtrl ha h _)

/-- A write of HOLD or WAKE_EN moves nothing else. -/
theorem mbCtrlWritten_withBit {b : Nat} (hne : 0 ≠ b) (v : Bool) (h : winBit s p 0xC604 0 = false) :
    mbCtrlWritten p (withBit s p 0xC604 b v) s = { s with pld := (mbCtrlWritten p (withBit s p 0xC604 b v) s).pld } := by
  rw [mbCtrlWritten_keeps (by rw [withBit_getLsbD s p _ (by decide), if_neg hne, h])]
  rfl

end Sys2Proof.Machine
end

section
/-!
OBLIGATION O43 (08_snapshot_farm R207–R209, R211–R213): the delivery, the slot, the result and the mailbox put together.
-/

namespace Sys2Proof.Machine

/-- Settles O43: a delivery by what its share does, a slot by whether it is held, empty, short of credit or runs a job, a result by its queue, and the mailbox
by what is written to SNF.MB_CTRL. -/
theorem farmServesItsShares : Obligations.FarmServesItsShares := by
  unfold Obligations.FarmServesItsShares
  refine ⟨fun s ch a payload hdue hsnap => ?_, fun s p => ?_, fun s p r d hjob hover => ?_, fun s p r hjob hover => ?_, fun s p r hjob hover => ?_,
    fun s p ha hon => ?_⟩
  · intro p q sh st job
    by_cases horphan : isDry s p = true ∨ st = .empty ∨ st = .retired
    · refine ⟨_, exec_snapshotDelivery_orphan hdue hsnap horphan, rfl, fun _ _ => rfl, rfl, fun _ => ⟨rfl, counted_ctrAdd _ _⟩, fun hdry he hr => ?_⟩
      simp [hdry, he, hr] at horphan
    · have hone : OneShare p (snapTaken ch s) (storeSnapshot p q (snapTaken ch s)) := oneShare_storeSnapshot q ⟨rfl, rfl, fun _ _ => rfl⟩
      refine ⟨_, exec_snapshotDelivery hdue hsnap horphan, hone.lnk, hone.share, hone.job, fun h => absurd h horphan, fun _ _ _ =>
        ⟨fun hroom => ?_, storeSnapshot_spills (s := snapTaken ch s) q⟩⟩
      rw [storeSnapshot_enters (s := snapTaken ch s) hroom]
      exact ⟨snapEntered_share p q _, counted_snapEntered p q _⟩
  · intro now sh next idle hjob hslot hrun hlife howner
    have hexec := exec_farmSlotStart hjob hslot hrun hlife howner
    have hidle : ∀ {low : Bool} {i : Nat}, farmSlot p now.1 (slotBegun s) = slotIdled p low i (slotBegun s) → idle low i := fun h =>
      ⟨_, hexec.trans (congrArg _ h), slotIdled_settles p _ _ s⟩
    refine ⟨fun hheld => hidle (farmSlot_held hheld), fun hdry hcore hhold hmode => ?_⟩
    have hfree : ¬ slotHeld (slotBegun s) p now.1 := not_slotHeld hdry hcore hhold hmode
    refine ⟨fun hnone => hidle (farmSlot_empty hfree (List.head?_eq_none_iff.1 hnone)), fun q hq => ?_⟩
    obtain ⟨rest, hrest⟩ := List.head?_eq_some_iff.1 hq
    refine ⟨fun hrej hcred => hidle (farmSlot_short hfree hrest hrej hcred), fun hruns => ?_⟩
    have hslotRuns := farmSlot_runs (s := slotBegun s) hfree hrest hruns
    rw [farmResultOf_slotBegun] at hslotRuns
    have hjobRun := jobRun_slotBegun p q (farmResultOf s p q) s
    have hctr : (jobRun p q (farmResultOf s p q) (slotBegun s)).ctr = s.ctr := by rw [hjobRun]
    obtain ⟨hctx, hcls, hlost⟩ := farmResultOf_source s p q
    exact ⟨_, hexec.trans (congrArg _ hslotRuns), farmResultOf s p q, congrArg State.snf hjobRun, congrArg State.pmu hjobRun,
      hctx, hcls, hlost, rfl, fun n hn _ => farmResultOf_status hn, counted_jobCounted _ hctr⟩
  · exact ⟨s, exec_farmResult_early hjob hover, rfl⟩
  · exact ⟨_, exec_farmResult hjob hover, rfl⟩
  · exact ⟨_, exec_farmResult hjob hover, queueResult_room r, queueResult_spills r⟩
  · exact ⟨⟨_, exec_snfPop ha hon, rfl, rfl⟩, fun hw v =>
      ⟨⟨_, exec_snfHold ha hon v, winBit_mbCtrlWritten hw (.inl rfl) 1 v, winBit_mbCtrlWritten hw (.inr rfl) 1 v, mbCtrlWritten_withBit (by decide) v⟩,
        ⟨_, exec_snfWakeEn ha hon v, winBit_mbCtrlWritten hw (.inr rfl) 2 v, winBit_mbCtrlWritten hw (.inl rfl) 2 v, mbCtrlWritten_withBit (by decide) v⟩⟩⟩

end Sys2Proof.Machine
end

section
/-!
SUPPORT. What reports of the time and of the clocks leave as it was (09_sky_time R234, R248, 16_clocks R404–R406, R413), and where ST stands at an anchor
(09_sky_time R219).
-/

namespace Sys2Proof.Machine

variable {s t u : State}

/-! ### The time under reports -/

@[simp] theorem bump_sky (i : Nat) (s : State) : (bump i s).sky = s.sky := (only_bump i s).kept .sky (by decide)

@[simp] theorem recB_sky (cls kind : Nat) (content : List Byte) (s : State) : (recB cls kind content s).sky = s.sky :=
  (only_recB cls kind content s).kept .sky (by decide)

@[simp] theorem publishSky_sky (s : State) : (publishSky s).sky = s.sky := rfl

@[simp] theorem recSky_sky (kind : Nat) (s : State) : (recSky kind s).sky = s.sky := recB_sky _ _ _ _

@[simp] theorem clkRefresh_sky (s : State) : (clkRefresh s).sky = s.sky := (only_clkRefresh s).kept .sky (by decide)

@[simp] theorem ckdCheck_sky (s : State) : (ckdCheck s).sky = s.sky := (Touches.only touches_ckdCheck s).kept .sky (by decide)

@[simp] theorem ckdStepStop_sky (s : State) : (ckdStepStop s).sky = s.sky := rfl

@[simp] theorem ckdAnchor_sky (factor : Rat) (s : State) : (ckdAnchor factor s).sky = s.sky :=
  (Touches.only (touches_ckdAnchor factor) s).kept .sky (by decide)

theorem ctrGet_recSky {j : Nat} (h : reportFree j) (kind : Nat) (s : State) : ctrGet (recSky kind s) j = ctrGet s j := ctrGet_recB_free h _ _ _ _

/-! ### The record of R234 -/

theorem recSky_eq (kind : Nat) (s : State) : recSky kind s = recB 1 kind (skyStatus (publishSky s)) (publishSky s) := rfl

theorem upToReports_publishSky (s : State) : upToReports s (publishSky s) := upToReports_basinPut _ _ s

theorem upToReports_recSky (kind : Nat) (s : State) : upToReports s (recSky kind s) :=
  upToReports_trans (upToReports_publishSky s) (upToReports_recB _ _ _ _)

theorem skyStatus_congr (h : upToReports s t) : skyStatus t = skyStatus s := by
  rw [h]
  rfl

/-- The record tells SKY.STATUS as it stands after it (09_sky_time R234). -/
theorem recorded_recSky (kind : Nat) (hb : u.boot = s.boot) (ht : stNow u = stNow s) (hq : u.hst = s.hst) :
    recorded 1 kind (skyStatus (recSky kind u)) s (recSky kind u) := by
  have hstatus : skyStatus (recSky kind u) = skyStatus (publishSky u) := skyStatus_congr (upToReports_recB _ _ _ _)
  rw [hstatus, recSky_eq]
  exact recorded_recB_of_stNow hb ((stNow_congr (publishSky_sky u)).trans ht) ((basinPut_hst _ _ u).trans hq)

/-! ### Anchors -/

/-- On its own anchor a segment gives the ST that it begins with (09_sky_time R219). -/
theorem stNow_at_anchor (h : s.sky.seg.tick = s.sky.tick) : stNow s = s.sky.seg.st := by
  unfold stNow stAt
  rw [h, sub_self, zero_mul, add_zero]

end Sys2Proof.Machine
end

section
/-!
OBLIGATION O5 (09_sky_time R218, R219): the tick counter and the segment that falls due.
-/

namespace Sys2Proof.Machine

variable {s : State}

/-! ### The counter -/

theorem tickOnce_kclk (h : kclkRuns s = true) : tickOnce s = { s with sky := { s.sky with tick := s.sky.tick + 1 } } := if_pos h

/-- Counter and fraction together rise by what a reference cycle is worth: the fraction keeps what is no whole tick (09_sky_time R218). -/
theorem tickOnce_reference (h : kclkRuns s = false) :
    (tickOnce s).sky.tick * 2 ^ 32 + (tickOnce s).sky.frac.toNat = s.sky.tick * 2 ^ 32 + s.sky.frac.toNat + refStep s := by
  have hsum : tickOnce s = { s with sky := { s.sky with
      tick := s.sky.tick + (s.sky.frac.toNat + refStep s) / 4294967296, frac := BitVec.ofNat 32 (s.sky.frac.toNat + refStep s) } } :=
    if_neg (by simp [h])
  rw [hsum, BitVec.toNat_ofNat]
  dsimp only
  omega

theorem tickOnce_sky (s : State) : (tickOnce s).sky = { s.sky with tick := (tickOnce s).sky.tick, frac := (tickOnce s).sky.frac } := by
  unfold tickOnce
  split <;> rfl

theorem touches_tickOnce : Touches [.sky] tickOnce := Touches.of fun u => by unfold tickOnce; simp

/-! ### The segment that falls due -/

theorem commitSegment_none (h : s.sky.next = none) : commitSegment s = s := by
  unfold commitSegment
  rw [h]

theorem commitSegment_waits {g : MapSeg} (h : s.sky.next = some g) (ht : s.sky.tick < g.tick) : commitSegment s = s := by
  unfold commitSegment
  rw [h]
  exact if_pos ht

theorem commitSegment_due_sky {g : MapSeg} (h : s.sky.next = some g) (ht : g.tick ≤ s.sky.tick) :
    (commitSegment s).sky = { s.sky with seg := g, past := pastSegs s, next := none } := by
  unfold commitSegment
  rw [h]
  dsimp only
  rw [if_neg (not_lt.2 ht)]
  simp

/-- A segment that falls due moves nothing of the counter. -/
theorem commitSegment_counter (s : State) : (commitSegment s).sky.tick = s.sky.tick ∧ (commitSegment s).sky.frac = s.sky.frac := by
  cases h : s.sky.next with
  | none => rw [commitSegment_none h]; exact ⟨rfl, rfl⟩
  | some g =>
    obtain ht | ht := lt_or_ge s.sky.tick g.tick
    · rw [commitSegment_waits h ht]; exact ⟨rfl, rfl⟩
    · rw [commitSegment_due_sky h ht]; exact ⟨rfl, rfl⟩

theorem touches_commitSegment : Touches [.sky, .clk, .hst, .obs, .basin, .ctr] commitSegment :=
  Touches.of fun u => by unfold commitSegment; split <;> simp

/-! ### One idle step -/

theorem idle_stopped (h : s.sky.run = false) : idle s = s := if_neg (by simp [h])

theorem idle_running (h : s.sky.run = true) : idle s = fillDue 9 (commitSegment (tickOnce s)) := if_pos h

theorem idle_sky (h : s.sky.run = true) : (idle s).sky = (commitSegment (tickOnce s)).sky := by
  rw [idle_running h]
  exact (Touches.only (touches_fillDue 9) _).kept .sky (by decide)

theorem only_idle (h : s.sky.run = true) : only [.sky, .clk, .hst, .obs, .basin, .ctr] s (idle s) := by
  rw [idle_running h]
  exact (touches_fillDue 9 (by decide)).2 ((touches_commitSegment (by decide)).2 ((touches_tickOnce (by decide)).2 within_refl))

/-- Settles O5: an idle step counts, then takes over the segment that falls due. -/
theorem idleStepCounts : Obligations.IdleStepCounts := by
  intro s hq
  have hstep : step s = .next (idle s) := by
    unfold step
    rw [hq]
  refine ⟨idle s, hstep, idle_stopped, fun hrun => ⟨only_idle hrun, fun hk => ?_, fun hk => ?_, fun g hg => ?_, fun hn => ?_⟩⟩
  all_goals rw [idle_sky hrun]
  · rw [(commitSegment_counter _).1, (commitSegment_counter _).2, tickOnce_kclk hk]
    exact ⟨rfl, rfl⟩
  · rw [(commitSegment_counter _).1, (commitSegment_counter _).2]
    exact tickOnce_reference hk
  · have hnext : (tickOnce s).sky.next = some g := by rw [tickOnce_sky]; exact hg
    rw [(commitSegment_counter _).1]
    refine ⟨fun hdue => ?_, fun hwait => ?_⟩
    · rw [commitSegment_due_sky hnext hdue]
      exact ⟨rfl, rfl⟩
    · rw [commitSegment_waits hnext hwait, tickOnce_sky]
      exact ⟨rfl, hg⟩
  · have hnext : (tickOnce s).sky.next = none := by rw [tickOnce_sky]; exact hn
    rw [commitSegment_none hnext, tickOnce_sky]
    exact ⟨rfl, hn⟩

end Sys2Proof.Machine
end

section
/-!
OBLIGATION O54 (09_sky_time R227, R231–R234): the edges of EXT, the drift vote and what its counts decide.
-/

namespace Sys2Proof.Machine

variable {s : State}

/-! ### EXT edges (09_sky_time R227) -/

/-- The phase of an EXT_PPS edge against the nearest second, and the ST of the edge. -/
def extEdge (bin : Nat) (s : State) : Rat × Rat :=
  let q := stNow s + ((bin % 8 : Nat) : Rat) / 8 * s.sky.seg.rate - (cfgI s skyCfgExtDly : Rat) / 10000000000
  (q - roundAway q, q)

/-- An edge within 1.0001 s of the last one goes on with the run. -/
theorem exec_extPpsEdge_continues {n : Nat} (hrun : s.sky.run = true) (hd : domOn s .time = true) (h : s.sky.extLast = some n)
    (ht : s.sky.tick ≤ n + 491569152) (bin : Nat) : exec (.extPpsEdge bin) s = .next { s with sky := { s.sky with
      extLast := some s.sky.tick, extPhase := (extEdge bin s :: s.sky.extPhase).take 11 } } := by
  show execExtPpsEdge bin s = _
  unfold execExtPpsEdge
  rw [if_neg (by simp [hrun, hd]), h]
  simp [ppsMissTicks, not_lt.2 ht, extEdge]

/-- Any other edge begins a run. -/
theorem exec_extPpsEdge_begins (hrun : s.sky.run = true) (hd : domOn s .time = true) (h : ∀ n, s.sky.extLast = some n → n + 491569152 < s.sky.tick)
    (bin : Nat) : exec (.extPpsEdge bin) s = .next { s with sky := { s.sky with
      extLast := some s.sky.tick, extSince := some s.sky.tick, extPhase := [extEdge bin s] } } := by
  show execExtPpsEdge bin s = _
  unfold execExtPpsEdge
  rw [if_neg (by simp [hrun, hd])]
  cases hl : s.sky.extLast with
  | none => simp [extEdge]
  | some n => simp [ppsMissTicks, h n hl, extEdge]

theorem exec_extPpsMissing_ends {n : Nat} (h : s.sky.extLast = some n) (ht : n + 491569152 < s.sky.tick) :
    exec .extPpsMissing s = .next (publishSky { s with sky := { s.sky with extLast := none, extSince := none, extPhase := [] } }) := by
  show execExtPpsMissing s = _
  unfold execExtPpsMissing
  rw [h]
  exact congrArg _ (if_pos ht)

theorem extPpsEdge_timed (hrun : s.sky.run = true) (hd : domOn s .time = true) (bin : Nat) : completes (.extPpsEdge bin) s (fun t =>
    t.sky.extLast = some s.sky.tick ∧
    t = { s with sky := { s.sky with extLast := t.sky.extLast, extSince := t.sky.extSince, extPhase := t.sky.extPhase } } ∧
    t.sky.extPhase.head? = some (extEdge bin s) ∧ t.sky.extPhase.length ≤ 11 ∧
    (∀ n, s.sky.extLast = some n → s.sky.tick ≤ n + 491569152 → t.sky.extSince = s.sky.extSince) ∧
    (∀ n, s.sky.extLast = some n → n + 491569152 < s.sky.tick → t.sky.extSince = some s.sky.tick ∧ t.sky.extPhase.length = 1) ∧
    (s.sky.extLast = none → t.sky.extSince = some s.sky.tick ∧ t.sky.extPhase.length = 1)) := by
  by_cases hb : ∀ n, s.sky.extLast = some n → n + 491569152 < s.sky.tick
  · exact ⟨_, exec_extPpsEdge_begins hrun hd hb bin, rfl, rfl, rfl, by simp, fun n hn ht => absurd (hb n hn) (not_lt.2 ht), fun _ _ _ => ⟨rfl, rfl⟩,
      fun _ => ⟨rfl, rfl⟩⟩
  · obtain ⟨n, hn, ht⟩ : ∃ n, s.sky.extLast = some n ∧ s.sky.tick ≤ n + 491569152 := by simpa using hb
    refine ⟨_, exec_extPpsEdge_continues hrun hd hn ht bin, rfl, rfl, rfl, List.length_take_le .., fun _ _ _ => rfl, fun m hm hlt => ?_, fun h => ?_⟩
    · obtain rfl : n = m := Option.some.inj (hn.symm.trans hm)
      exact absurd hlt (not_lt.2 ht)
    · exact absurd (hn.symm.trans h) (by simp)

/-! ### The vote (09_sky_time R231–R233) -/

@[simp] theorem getElem_perCmp {α : Type} (f : Comparator → α) (c : Comparator) : (perCmp f)[cmpIdx c] = f c := by
  cases c <;> rfl

/-- Whether the only two available comparators disagree; none where there are not two. -/
def pairVerdict (s : State) : Option Bool :=
  match comparators.filter (cmpAvail s) with
  | [a, b] => some (disagree s a b)
  | _ => none

theorem pairVerdict_gnss_ext (hg : cmpAvail s .gnss = true) (hx : cmpAvail s .ext = true) (hm : cmpAvail s .model = false) :
    pairVerdict s = some (disagree s .gnss .ext) := by
  have havail : comparators.filter (cmpAvail s) = [.gnss, .ext] := by simp [comparators, hg, hx, hm]
  unfold pairVerdict
  rw [havail]

theorem pairVerdict_all (h : ∀ c, cmpAvail s c = true) : pairVerdict s = none := by
  have havail : comparators.filter (cmpAvail s) = comparators := List.filter_eq_self.2 fun c _ => h c
  unfold pairVerdict
  rw [havail]
  rfl

/-- The frequency record with this window, where GNSS is available. -/
def windowsRecorded (s : State) : List (Nat × Rat) :=
  if cmpAvail s .gnss then (s.sky.tick, ySource s .gnss) :: s.sky.model else s.sky.model

/-- The time's state after a vote. -/
def voted (s : State) : SkyState := { s.sky with
  outlier := perCmp fun c => if isOutlier s c then s.sky.outlier[cmpIdx c] + 1 else 0
  agree := perCmp fun c => if s.sky.disq[cmpIdx c] && agreesAll s c then s.sky.agree[cmpIdx c] + 1 else 0
  pairBad := if pairVerdict s = some true then s.sky.pairBad + 1 else 0
  pairGood := if pairVerdict s = some false then s.sky.pairGood + 1 else 0
  model := (windowsRecorded s).filter fun w => !since s w.1 (secTicks 86400) }

theorem exec_driftVoteWindow (h : s.sky.run = true) : exec .driftVoteWindow s = .next { s with sky := voted s } := by
  show execDriftVoteWindow s = _
  unfold execDriftVoteWindow
  exact if_neg (by simp [h])

theorem mem_voted_model {w : Nat × Rat} : w ∈ (voted s).model ↔ w ∈ windowsRecorded s ∧ s.sky.tick < w.1 + 491520000 * 86400 := by
  have hyoung : since s w.1 (secTicks 86400) = false ↔ s.sky.tick < w.1 + 491520000 * 86400 := by
    unfold since secTicks
    rw [decide_eq_false_iff_not]
    omega
  rw [← hyoung, voted, List.mem_filter, Bool.not_eq_true']

theorem driftVoteWindow_counts (h : s.sky.run = true) : completes .driftVoteWindow s (fun t =>
    t = { s with sky := { s.sky with outlier := t.sky.outlier, agree := t.sky.agree, pairBad := t.sky.pairBad, pairGood := t.sky.pairGood, model := t.sky.model } } ∧
    (∀ c, t.sky.outlier[cmpIdx c] = if isOutlier s c then s.sky.outlier[cmpIdx c] + 1 else 0) ∧
    (∀ c, t.sky.agree[cmpIdx c] = if s.sky.disq[cmpIdx c] = true ∧ agreesAll s c = true then s.sky.agree[cmpIdx c] + 1 else 0) ∧
    (cmpAvail s .gnss = true → cmpAvail s .ext = true → cmpAvail s .model = false →
      (disagree s .gnss .ext = true → t.sky.pairBad = s.sky.pairBad + 1 ∧ t.sky.pairGood = 0) ∧
      (disagree s .gnss .ext = false → t.sky.pairBad = 0 ∧ t.sky.pairGood = s.sky.pairGood + 1)) ∧
    (cmpAvail s .gnss = true → cmpAvail s .ext = true → cmpAvail s .model = true → t.sky.pairBad = 0 ∧ t.sky.pairGood = 0) ∧
    (∀ w ∈ t.sky.model, s.sky.tick < w.1 + 491520000 * 86400) ∧ (cmpAvail s .gnss = true → (s.sky.tick, ySource s .gnss) ∈ t.sky.model)) := by
  refine ⟨_, exec_driftVoteWindow h, rfl, fun c => getElem_perCmp _ c, fun c => ?_, fun hg hx hm => ?_, fun hg hx hm => ?_, fun w hw => (mem_voted_model.1 hw).2,
    fun hg => mem_voted_model.2 ⟨?_, by simp⟩⟩
  · exact (getElem_perCmp _ c).trans (by simp)
  · have hpair := pairVerdict_gnss_ext hg hx hm
    exact ⟨fun hd => by simp [voted, hpair, hd], fun hd => by simp [voted, hpair, hd]⟩
  · have hpair : pairVerdict s = none := pairVerdict_all fun c => by cases c <;> assumption
    simp [voted, hpair]
  · simp [windowsRecorded, hg]

/-! ### What the counts decide -/

section
variable {k : SkyState}

/-- A decision of the vote is published and recorded (09_sky_time R234). -/
theorem decision_told (hseg : k.seg = s.sky.seg) (htick : k.tick = s.sky.tick) (kind : Nat) :
    upToReports { s with sky := k } (recSky kind { s with sky := k }) ∧
      recorded 1 kind (skyStatus (recSky kind { s with sky := k })) s (recSky kind { s with sky := k }) :=
  ⟨upToReports_recSky kind _, recorded_recSky kind rfl (stNow_of_segment hseg htick) rfl⟩

/-- A decision that is counted too. -/
theorem decision_counted (hseg : k.seg = s.sky.seg) (htick : k.tick = s.sky.tick) (kind : Nat) {i : Nat} (hi : reportFree i) :
    upToReports { s with sky := k } (recSky kind (bump i { s with sky := k })) ∧
      recorded 1 kind (skyStatus (recSky kind (bump i { s with sky := k }))) s (recSky kind (bump i { s with sky := k })) ∧
      counted i s (recSky kind (bump i { s with sky := k })) :=
  ⟨upToReports_trans (upToReports_bump i _) (upToReports_recSky kind _),
    recorded_recSky kind ((only_bump i _).kept .boot (by decide)) ((stNow_congr (bump_sky i _)).trans (stNow_of_segment hseg htick)) (bump_hst i _),
    counted_of_same (counted_bump i { s with sky := k }) rfl (ctrGet_recSky hi kind _)⟩

end

/-- The time's state with a comparator disqualified, and with one requalified. -/
def disqualified (c : Comparator) (s : State) : SkyState :=
  { s.sky with disq := s.sky.disq.set (cmpIdx c) true, agree := s.sky.agree.set (cmpIdx c) 0 }
@[inherit_doc disqualified] def requalified (c : Comparator) (s : State) : SkyState :=
  { s.sky with disq := s.sky.disq.set (cmpIdx c) false, outlier := s.sky.outlier.set (cmpIdx c) 0 }

theorem exec_disqualification {c : Comparator} (hd : s.sky.disq[cmpIdx c] = false) (h : 3 ≤ s.sky.outlier[cmpIdx c]) :
    exec (.disqualification c) s = .next (recSky 0x0906 (if c = .model then { s with sky := disqualified c s }
      else bump cSkyDisqualifications { s with sky := disqualified c s })) := congrArg _ (if_pos ⟨h, hd⟩)

theorem exec_requalification {c : Comparator} (hd : s.sky.disq[cmpIdx c] = true) (h : 6 ≤ s.sky.agree[cmpIdx c]) :
    exec (.requalification c) s = .next (recSky 0x0907 { s with sky := requalified c s }) := congrArg _ (if_pos ⟨h, hd⟩)

theorem exec_undecided_set (hu : s.sky.undecided = false) (h : 3 ≤ s.sky.pairBad) :
    exec .undecided s = .next (recSky 0x0908 (bump cSkyUndecidedEpisodes { s with sky := { s.sky with undecided := true } })) :=
  congrArg _ ((if_neg (by simp [hu])).trans (if_pos h))

theorem exec_undecided_cleared (hu : s.sky.undecided = true) (h : 6 ≤ s.sky.pairGood ∨ ∀ c, cmpAvail s c = true) :
    exec .undecided s = .next (recSky 0x0909 { s with sky := { s.sky with undecided := false } }) := by
  have hthird : (∀ c, cmpAvail s c = true) → (comparators.filter (cmpAvail s)).length = 3 := fun ha => by
    rw [List.filter_eq_self.2 fun c _ => ha c]
    rfl
  exact congrArg _ ((if_pos hu).trans (if_pos (h.imp_right hthird)))

theorem disqualification_decides {c : Comparator} (hd : s.sky.disq[cmpIdx c] = false) (h : 3 ≤ s.sky.outlier[cmpIdx c]) :
    completes (.disqualification c) s (fun t => upToReports { s with sky := disqualified c s } t ∧ recorded 1 0x0906 (skyStatus t) s t ∧
      (c ≠ .model → counted cSkyDisqualifications s t)) := by
  refine ⟨_, exec_disqualification hd h, ?_⟩
  split
  · obtain ⟨hrep, hrec⟩ := decision_told (s := s) (k := disqualified c s) rfl rfl 0x0906
    exact ⟨hrep, hrec, fun hne => absurd ‹c = .model› hne⟩
  · obtain ⟨hrep, hrec, hcount⟩ := decision_counted (s := s) (k := disqualified c s) rfl rfl 0x0906 (i := cSkyDisqualifications) (by unfold reportFree; decide)
    exact ⟨hrep, hrec, fun _ => hcount⟩

/-- Settles O54: the edges of EXT, the counts of a window, and the four decisions of the vote. -/
theorem comparatorsVoteOnDrift : Obligations.ComparatorsVoteOnDrift := by
  intro s
  refine ⟨fun bin hrun hd => extPpsEdge_timed hrun hd bin, fun n hn ht => ⟨_, exec_extPpsMissing_ends hn ht, upToReports_publishSky _⟩,
    driftVoteWindow_counts, fun c => disqualification_decides, fun c hd h => ⟨_, exec_requalification hd h, ?_⟩,
    fun hu h => ⟨_, exec_undecided_set hu h, ?_⟩, fun hu h => ⟨_, exec_undecided_cleared hu h, ?_⟩⟩
  · exact decision_told (k := requalified c s) rfl rfl 0x0907
  · exact decision_counted (k := { s.sky with undecided := true }) rfl rfl 0x0908 (by unfold reportFree; decide)
  · exact decision_told (k := { s.sky with undecided := false }) rfl rfl 0x0909

end Sys2Proof.Machine
end

section
/-!
SUPPORT. Handles of the scheduler (09_sky_time R243; log entry 14): the lowest free one is free, and within the quota while there is room.
-/

namespace Sys2Proof.Machine

variable {s : State} {p : Polder} {l : List SchedEntry}

theorem freeHandleFrom_le (l : List SchedEntry) (n k : Nat) : freeHandleFrom l n k ≤ k + n := by
  induction n generalizing k with
  | zero => exact le_rfl
  | succ n ih =>
    rw [freeHandleFrom]
    split
    · have := ih (k + 1)
      omega
    · omega

/-- Every handle below the one found is in use. -/
theorem freeHandleFrom_used {n k i : Nat} (hk : k ≤ i) (hi : i < freeHandleFrom l n k) : ∃ e ∈ l, e.handle = i := by
  induction n generalizing k with
  | zero => exact absurd hi (not_lt.2 hk)
  | succ n ih =>
    rw [freeHandleFrom] at hi
    split at hi
    · obtain rfl | hlt := eq_or_lt_of_le hk
      · simpa using ‹(l.any fun e => e.handle == k) = true›
      · exact ih hlt hi
    · omega

/-- A search that ends before its fuel does has found a free handle. -/
theorem freeHandleFrom_free {n k : Nat} (h : freeHandleFrom l n k < k + n) : ∀ e ∈ l, e.handle ≠ freeHandleFrom l n k := by
  induction n generalizing k with
  | zero => exact absurd h (lt_irrefl _)
  | succ n ih =>
    rw [freeHandleFrom] at h ⊢
    split at h
    · rw [if_pos ‹_›]
      exact ih (by omega)
    · rw [if_neg ‹_›]
      simpa using ‹¬(l.any fun e => e.handle == k) = true›

theorem freeHandle_le (s : State) (p : Polder) : freeHandle s p ≤ (ownEntries s p).length := by
  have hle := freeHandleFrom_le (ownEntries s p) (ownEntries s p).length 0
  rwa [Nat.zero_add] at hle

/-- As many entries as there are handles below the last cannot use that one too. -/
theorem freeHandle_free (s : State) (p : Polder) : ∀ e ∈ ownEntries s p, e.handle ≠ freeHandle s p := by
  intro e he heq
  obtain hlt | hge := lt_or_ge (freeHandle s p) (ownEntries s p).length
  · exact freeHandleFrom_free (by rw [Nat.zero_add]; exact hlt) e he heq
  · have hused : List.range ((ownEntries s p).length + 1) ⊆ (ownEntries s p).map (·.handle) := by
      intro i hi
      refine List.mem_map.2 ?_
      obtain hi | rfl := Nat.lt_succ_iff_lt_or_eq.1 (List.mem_range.1 hi)
      · exact freeHandleFrom_used (Nat.zero_le i) (lt_of_lt_of_le hi hge)
      · exact ⟨e, he, heq.trans (le_antisymm (freeHandle_le s p) hge)⟩
    have hlength := (List.nodup_range.subperm hused).length_le
    simp at hlength

end Sys2Proof.Machine
end

section
/-!
SUPPORT. The scheduler window (09_sky_time R243, Table 09-6): what a program's writes to CMD and WAKE_EN and its read of NOW do.
-/

namespace Sys2Proof.Machine

variable {s t : State} {p : Polder}

/-! ### The store of the window -/

theorem leNat_leBytes (n v : Nat) : leNat (leBytes n v) = v % 256 ^ n := by
  induction n generalizing v with
  | zero => rw [leBytes, leNat, pow_zero, Nat.mod_one]
  | succ n ih =>
    have hbyte : (BitVec.ofNat 8 v).toNat = v % 256 := BitVec.toNat_ofNat v 8
    rw [leBytes, leNat, ih, hbyte, pow_succ', Nat.mod_mul]

theorem memWf_polder_winPut (hw : s.pld[p].memWf = true) (a : Nat) (b : List Byte) : (winPut p a b s).pld[p].memWf = true := by
  rw [winPut, modP_same]
  exact polder_memWf.2 ⟨(polder_memWf.1 hw).1, swf_swrite _ _ _ _ (polder_memWf.1 hw).2⟩

theorem winNat_winPut_apart (hw : s.pld[p].memWf = true) {c a n : Nat} (b : List Byte) (h : a + n ≤ c ∨ c + b.length ≤ a) :
    winNat (winPut p c b s) p a n = winNat s p a n := by
  unfold winNat winPut
  rw [modP_same, sread_swrite_apart _ _ _ _ _ _ (polder_memWf.1 hw).2 h]

theorem winNat_winPut_same (hw : s.pld[p].memWf = true) (a : Nat) (b : List Byte) : winNat (winPut p a b s) p a b.length = leNat b := by
  unfold winNat winPut
  rw [modP_same, sread_swrite_same _ _ _ _ (polder_memWf.1 hw).2]

/-! ### Accesses -/

/-- The bytes of the scheduler window are live while TIME is on (13_ohmore_model R345). -/
theorem byteFate_sched (h : domOn s .time = true) (p : Polder) {a : Nat} (hlo : 0xC700 ≤ a) (hhi : a < 0xC800) (hc : winCovered a = true)
    (w : Option Byte) : byteFate s p a w = .live := by
  have hforeign : ∀ v, foreignCommand s p a v = false := fun v => by simp [foreignCommand, show a ≠ 0xC00C by omega, show a ≠ 0xC203 by omega]
  have hdomain : windowDomain p a = some .time := by
    unfold windowDomain
    rw [if_neg (by omega), if_neg (by omega), if_neg (by omega), if_pos hhi]
  unfold byteFate
  rw [if_neg (by omega), if_neg (by omega)]
  unfold windowFate
  cases w <;> simp [show ¬ 0xD000 ≤ a by omega, hc, hdomain, h, hforeign]

/-- A live write by a program that may access its windows is what the byte commands. -/
theorem programWrite_live (ha : mayAccess s p) {a : Nat} {v : Byte} (hf : byteFate s p a (some v) = .live)
    (hk : (windowWrite p a v s).pld[p].restartDue = s.pld[p].restartDue) : programWrite p a v s = windowWrite p a v s := by
  obtain ⟨hlive, hdue⟩ := ha
  have hwrite : writeOne p a v s = windowWrite p a v s := by
    unfold writeOne
    rw [hf]
  unfold programWrite endAccess
  rw [hlive, hf, hwrite, if_neg (show ¬ true = false by decide), if_neg (show ¬ ByteFate.live = .dry by decide)]
  exact if_neg (by rw [hk, hdue]; exact Bool.false_ne_true)

theorem restartDue_winPut (p : Polder) (a : Nat) (b : List Byte) (s : State) : (winPut p a b s).pld[p].restartDue = s.pld[p].restartDue := by
  rw [winPut, modP_same]

/-! ### CMD 1 (09_sky_time R238, R243) -/

/-- The wake entry that the window arms: class 2, under the lowest free handle. -/
def wakeArmed (p : Polder) (s : State) : SchedEntry :=
  ⟨winNat s p 0xC708 8, p.val, 3, 2, p.val, 0, winNat s p 0xC710 4, freeHandle s p, s.sky.order, 0, false⟩

/-- The entry is in the list. -/
def armed (p : Polder) (s : State) : State :=
  { s with sky := { s.sky with entries := s.sky.entries ++ [wakeArmed p s], order := s.sky.order + 1 } }

theorem schedArm_past (h : stOfWord (winNat s p 0xC708 8) < stNow s + 1 / 100000) :
    schedArm p s = setSchedResult p 2 (bump cSkyArmPast s) := if_pos h

theorem schedArm_full (h : stNow s + 1 / 100000 ≤ stOfWord (winNat s p 0xC708 8)) (hq : schedQuota s p ≤ (ownEntries s p).length) :
    schedArm p s = setSchedResult p 1 (bump cSkyArmFull s) := by
  have hnone : armEntry p 3 p.val 2 0 (winNat s p 0xC710 4) (winNat s p 0xC708 8) s = none := if_pos hq
  unfold schedArm
  dsimp only
  rw [if_neg (not_lt.2 h), hnone]

theorem schedArm_arms (h : stNow s + 1 / 100000 ≤ stOfWord (winNat s p 0xC708 8)) (hq : (ownEntries s p).length < schedQuota s p) :
    schedArm p s = setSchedResult p 0 (winPut p 0xC718 (leBytes 3 (freeHandle s p)) (armed p s)) := by
  have hsome : armEntry p 3 p.val 2 0 (winNat s p 0xC710 4) (winNat s p 0xC708 8) s = some (freeHandle s p, armed p s) := if_neg (not_le.2 hq)
  unfold schedArm
  dsimp only
  rw [if_neg (not_lt.2 h), hsome]

theorem restartDue_schedArm (p : Polder) (s : State) : (schedArm p s).pld[p].restartDue = s.pld[p].restartDue := by
  have hbump : ∀ i, (bump i s).pld = s.pld := fun i => (only_bump i s).kept .pld (by decide)
  obtain hpast | hfuture := lt_or_ge (stOfWord (winNat s p 0xC708 8)) (stNow s + 1 / 100000)
  · rw [schedArm_past hpast]
    exact congrArg (fun v : Vector PolderState 8 => v[p].restartDue) (hbump _)
  · obtain hroom | hfull := lt_or_ge (ownEntries s p).length (schedQuota s p)
    · rw [schedArm_arms hfuture hroom]
      exact restartDue_winPut p _ _ (armed p s)
    · rw [schedArm_full hfuture hfull]
      exact congrArg (fun v : Vector PolderState 8 => v[p].restartDue) (hbump _)

/-- The window after a program has written CMD. -/
def cmdStored (p : Polder) (v : Byte) (s : State) : State := winStore p 0xC714 v s

@[simp] theorem cmdStored_sky (p : Polder) (v : Byte) (s : State) : (cmdStored p v s).sky = s.sky := rfl

@[simp] theorem cmdStored_boot (p : Polder) (v : Byte) (s : State) : (cmdStored p v s).boot = s.boot := rfl

/-- What CMD and its handle name reads the same after CMD is stored. -/
theorem winNat_cmdStored (hw : s.pld[p].memWf = true) (v : Byte) {a n : Nat} (h : a + n ≤ 0xC714 ∨ 0xC715 ≤ a) :
    winNat (cmdStored p v s) p a n = winNat s p a n := winNat_winPut_apart hw _ h

theorem restartDue_cmdStored (p : Polder) (v : Byte) (s : State) : (cmdStored p v s).pld[p].restartDue = s.pld[p].restartDue := restartDue_winPut p _ _ s

theorem stNow_cmdStored (p : Polder) (v : Byte) (s : State) : stNow (cmdStored p v s) = stNow s := stNow_congr (cmdStored_sky p v s)

theorem ownEntries_congr (h : t.sky = s.sky) (p : Polder) : ownEntries t p = ownEntries s p := by
  unfold ownEntries
  rw [h]

theorem freeHandle_congr (h : t.sky = s.sky) (p : Polder) : freeHandle t p = freeHandle s p := by
  unfold freeHandle
  rw [ownEntries_congr h]

theorem schedQuota_congr (h : t.boot = s.boot) (p : Polder) : schedQuota t p = schedQuota s p := by
  unfold schedQuota
  rw [cfgAt_congr h]

theorem exec_schedArm (ha : mayAccess s p) (h : domOn s .time = true) : exec (.schedArm p) s = .next (schedArm p (cmdStored p 1 s)) := by
  have hlive : byteFate s p 0xC714 (some 1) = .live := byteFate_sched h p (by decide) (by decide) (by decide) _
  have hdue : (windowWrite p 0xC714 1 s).pld[p].restartDue = s.pld[p].restartDue := (restartDue_schedArm p _).trans (restartDue_cmdStored p 1 s)
  exact congrArg Host.Outcome.next (programWrite_live ha hlive hdue)

/-- RESULT of a polder's window, set in the time's state. -/
def answered (p : Polder) (n : Nat) (k : SkyState) : SkyState := { k with win := k.win.set p { k.win[p] with result := n } }

theorem setSchedResult_sky (p : Polder) (n : Nat) (s : State) : (setSchedResult p n s).sky = answered p n s.sky := rfl

/-- A refusal sets RESULT and counts. -/
theorem refusal_told (p : Polder) (n i : Nat) (v : Byte) (s : State) :
    (setSchedResult p n (bump i (cmdStored p v s))).sky = answered p n s.sky ∧ counted i s (setSchedResult p n (bump i (cmdStored p v s))) := by
  rw [setSchedResult_sky, bump_sky, cmdStored_sky]
  exact ⟨rfl, counted_bump i (cmdStored p v s)⟩

theorem schedArm_refuses_past (ha : mayAccess s p) (hon : domOn s .time = true) (hw : s.pld[p].memWf = true)
    (h : stOfWord (winNat s p 0xC708 8) < stNow s + 1 / 100000) :
    completes (.schedArm p) s (fun t => t.sky = answered p 2 s.sky ∧ counted cSkyArmPast s t) := by
  rw [← winNat_cmdStored hw 1 (.inl (by decide)), ← stNow_cmdStored p 1] at h
  exact ⟨_, (exec_schedArm ha hon).trans (congrArg _ (schedArm_past h)), refusal_told p 2 cSkyArmPast 1 s⟩

theorem schedArm_refuses_full (ha : mayAccess s p) (hon : domOn s .time = true) (hw : s.pld[p].memWf = true)
    (h : stNow s + 1 / 100000 ≤ stOfWord (winNat s p 0xC708 8)) (hq : schedQuota s p ≤ (ownEntries s p).length) :
    completes (.schedArm p) s (fun t => t.sky = answered p 1 s.sky ∧ counted cSkyArmFull s t) := by
  rw [← winNat_cmdStored hw 1 (.inl (by decide)), ← stNow_cmdStored p 1] at h
  rw [← schedQuota_congr (cmdStored_boot p 1 s), ← ownEntries_congr (cmdStored_sky p 1 s)] at hq
  exact ⟨_, (exec_schedArm ha hon).trans (congrArg _ (schedArm_full h hq)), refusal_told p 1 cSkyArmFull 1 s⟩

/-- The window after an entry is armed. -/
def armDone (p : Polder) (s : State) : State := setSchedResult p 0 (winPut p 0xC718 (leBytes 3 (freeHandle s p)) (armed p (cmdStored p 1 s)))

theorem exec_schedArm_arms (ha : mayAccess s p) (hon : domOn s .time = true) (hw : s.pld[p].memWf = true)
    (h : stNow s + 1 / 100000 ≤ stOfWord (winNat s p 0xC708 8)) (hq : (ownEntries s p).length < schedQuota s p) :
    exec (.schedArm p) s = .next (armDone p s) := by
  rw [← winNat_cmdStored hw 1 (.inl (by decide)), ← stNow_cmdStored p 1] at h
  rw [← schedQuota_congr (cmdStored_boot p 1 s), ← ownEntries_congr (cmdStored_sky p 1 s)] at hq
  rw [exec_schedArm ha hon, schedArm_arms h hq, freeHandle_congr (cmdStored_sky p 1 s)]
  rfl

theorem armDone_sky (hw : s.pld[p].memWf = true) : (armDone p s).sky = answered p 0 { s.sky with
    order := s.sky.order + 1
    entries := s.sky.entries ++ [⟨winNat s p 0xC708 8, p.val, 3, 2, p.val, 0, winNat s p 0xC710 4, freeHandle s p, s.sky.order, 0, false⟩] } := by
  rw [armDone, setSchedResult_sky, winPut_sky, armed, wakeArmed, winNat_cmdStored hw 1 (.inl (by decide)), winNat_cmdStored hw 1 (.inl (by decide)),
    freeHandle_congr (cmdStored_sky p 1 s)]
  rfl

/-- The handle that the window shows is the entry's. -/
theorem armDone_handle (hw : s.pld[p].memWf = true) (h : freeHandle s p < 2 ^ 24) : winNat (armDone p s) p 0xC718 3 = freeHandle s p := by
  have hread := winNat_winPut_same (s := armed p (cmdStored p 1 s)) (memWf_polder_winPut hw _ _) 0xC718 (leBytes 3 (freeHandle s p))
  rw [leNat_leBytes, Nat.mod_eq_of_lt (by omega)] at hread
  exact hread

theorem schedArm_takes (ha : mayAccess s p) (hon : domOn s .time = true) (hw : s.pld[p].memWf = true)
    (h : stNow s + 1 / 100000 ≤ stOfWord (winNat s p 0xC708 8)) (hq : (ownEntries s p).length < schedQuota s p) (hmax : schedQuota s p ≤ 2 ^ 24) :
    completes (.schedArm p) s (fun t => t.sky = answered p 0 { s.sky with
        order := s.sky.order + 1
        entries := s.sky.entries ++ [⟨winNat s p 0xC708 8, p.val, 3, 2, p.val, 0, winNat s p 0xC710 4, winNat t p 0xC718 3, s.sky.order, 0, false⟩] } ∧
      winNat t p 0xC718 3 < schedQuota s p ∧ ∀ e ∈ ownEntries s p, e.handle ≠ winNat t p 0xC718 3) := by
  have hlt : freeHandle s p < schedQuota s p := lt_of_le_of_lt (freeHandle_le s p) hq
  refine ⟨_, exec_schedArm_arms ha hon hw h hq, ?_⟩
  beta_reduce
  rw [armDone_handle hw (lt_of_lt_of_le hlt hmax)]
  exact ⟨armDone_sky hw, hlt, freeHandle_free s p⟩

/-! ### CMD 2, POP, WAKE_EN and NOW (09_sky_time R243, Tables 09-6, 09-8) -/

/-- A wake entry of the polder that is pending under this handle. -/
def cancellable (s : State) (p : Polder) (h : Nat) (e : SchedEntry) : Bool := e.owner == p.val && e.kind == 3 && e.handle == h && !entryDue s e

theorem schedCancel_sky (p : Polder) (s : State) :
    (schedCancel p s).sky = answered p (if s.sky.entries.any (cancellable s p (winNat s p 0xC718 3)) then 0 else 3)
      { s.sky with entries := s.sky.entries.filter fun e => !cancellable s p (winNat s p 0xC718 3) e } := by
  have hpend : ∀ e : SchedEntry, (e.owner == p.val && e.kind == 3 && e.handle == winNat s p 0xC718 3 &&
      !(e.late || decide (tickOf s (stOfWord e.st) + e.delay ≤ s.sky.tick))) = cancellable s p (winNat s p 0xC718 3) e := fun e => by
    cases hk : e.kind == 3 <;> simp [cancellable, entryDue, hk]
  unfold schedCancel
  simp only [hpend]
  split
  · rfl
  · have hnone : (s.sky.entries.filter fun e => !cancellable s p (winNat s p 0xC718 3) e) = s.sky.entries := by
      simpa using ‹¬ (s.sky.entries.any (cancellable s p (winNat s p 0xC718 3))) = true›
    rw [hnone]
    rfl

/-- A pending entry is cancelled, any other handle is unknown. -/
theorem schedCancel_answers (ha : mayAccess s p) (hon : domOn s .time = true) (hw : s.pld[p].memWf = true) : completes (.schedCancel p) s (fun t =>
    t.sky = answered p (if s.sky.entries.any (cancellable s p (winNat s p 0xC718 3)) then 0 else 3)
      { s.sky with entries := s.sky.entries.filter fun e => !cancellable s p (winNat s p 0xC718 3) e }) := by
  have hlive : byteFate s p 0xC714 (some 2) = .live := byteFate_sched hon p (by decide) (by decide) (by decide) _
  have hpld : (schedCancel p (cmdStored p 2 s)).pld = (cmdStored p 2 s).pld := (Touches.only (touches_schedCancel p) _).kept .pld (by decide)
  have hdue : (windowWrite p 0xC714 2 s).pld[p].restartDue = s.pld[p].restartDue :=
    (congrArg (fun v : Vector PolderState 8 => v[p].restartDue) hpld).trans (restartDue_cmdStored p 2 s)
  have hsame : cancellable (cmdStored p 2 s) p = cancellable s p := rfl
  refine ⟨schedCancel p (cmdStored p 2 s), congrArg Host.Outcome.next (programWrite_live ha hlive hdue), ?_⟩
  beta_reduce
  rw [schedCancel_sky, winNat_cmdStored hw 2 (.inr (by decide)), hsame, cmdStored_sky]

/-- A write to the byte of WAKE_EN and POP. -/
def doneWritten (p : Polder) (v : Byte) (s : State) : State := if v.getLsbD 7 then schedPop p (winStore p 0xC71E v s) else winStore p 0xC71E v s

theorem doneWritten_pld (p : Polder) (v : Byte) (s : State) : (doneWritten p v s).pld = (winStore p 0xC71E v s).pld := by
  unfold doneWritten
  split <;> rfl

theorem doneWritten_entries (p : Polder) (v : Byte) (s : State) : (doneWritten p v s).sky.entries = s.sky.entries := by
  unfold doneWritten
  split <;> rfl

theorem programWrite_done (ha : mayAccess s p) (h : domOn s .time = true) (v : Byte) : programWrite p 0xC71E v s = doneWritten p v s := by
  have hlive : byteFate s p 0xC71E (some v) = .live := byteFate_sched h p (by decide) (by decide) (by decide) _
  have hdue : (windowWrite p 0xC71E v s).pld[p].restartDue = s.pld[p].restartDue :=
    (congrArg (fun v : Vector PolderState 8 => v[p].restartDue) (doneWritten_pld p v s)).trans (restartDue_winPut p _ _ s)
  exact programWrite_live ha hlive hdue

/-- WAKE_EN reads back as the write has it. -/
theorem winBit_doneWritten (hw : s.pld[p].memWf = true) (v : Byte) : winBit (doneWritten p v s) p 0xC71E 6 = v.getLsbD 6 := by
  have hstored : (winStored 0xC71E).getLsbD 6 = true := by decide
  have hbyte : winByte (doneWritten p v s) p 0xC71E = v &&& winStored 0xC71E := by
    unfold winByte
    rw [doneWritten_pld]
    exact winByte_winStore hw 0xC71E v
  rw [winBit, hbyte, BitVec.getLsbD_and, hstored, Bool.and_true]

theorem schedPop_pops (ha : mayAccess s p) (hon : domOn s .time = true) (hw : s.pld[p].memWf = true) : completes (.schedPop p) s (fun t =>
    t.sky = { s.sky with win := s.sky.win.set p { s.sky.win[p] with done := s.sky.win[p].done.drop 1 } } ∧ winBit t p 0xC71E 6 = winBit s p 0xC71E 6) := by
  have hpop : (withBit s p 0xC71E 7 true).getLsbD 7 = true := withBit_getLsbD s p _ (by decide) true
  have hdone : doneWritten p (withBit s p 0xC71E 7 true) s = schedPop p (winStore p 0xC71E (withBit s p 0xC71E 7 true) s) := if_pos hpop
  have hsky : (doneWritten p (withBit s p 0xC71E 7 true) s).sky = { s.sky with win := s.sky.win.set p { s.sky.win[p] with done := s.sky.win[p].done.drop 1 } } := by
    rw [hdone]
    rfl
  refine ⟨_, congrArg Host.Outcome.next (programWrite_done ha hon _), hsky, ?_⟩
  rw [winBit_doneWritten hw, withBit_getLsbD s p _ (by decide), if_neg (by decide)]

theorem schedWakeEn_sets (ha : mayAccess s p) (hon : domOn s .time = true) (hw : s.pld[p].memWf = true) (v : Bool) :
    completes (.schedWakeEn p v) s (fun t => winBit t p 0xC71E 6 = v ∧ t.sky.entries = s.sky.entries) := by
  refine ⟨_, congrArg Host.Outcome.next (programWrite_done ha hon _), ?_, doneWritten_entries p _ s⟩
  rw [winBit_doneWritten hw, withBit_getLsbD s p _ (by decide), if_pos rfl]

theorem exec_nowLatch (ha : mayAccess s p) (h : domOn s .time = true) : exec (.nowLatch p) s = .next (nowLatch p s) := by
  obtain ⟨hlive, hdue⟩ := ha
  have hfate : byteFate s p 0xC700 none = .live := byteFate_sched h p (by decide) (by decide) (by decide) _
  have hread : (readOne p 0xC700 s).2 = nowLatch p s := by
    unfold readOne
    rw [hfate]
    rfl
  show Host.Outcome.next (programRead p 0xC700 s) = _
  unfold programRead endAccess
  rw [hlive, hfate, hread, if_neg (show ¬ true = false by decide), if_neg (show ¬ ByteFate.live = .dry by decide)]
  exact congrArg _ (if_neg (by rw [show (nowLatch p s).pld = s.pld from rfl, hdue]; exact Bool.false_ne_true))

end Sys2Proof.Machine
end

section
/-!
SUPPORT. What fires on a tick (09_sky_time R241, R242): the first due entry of a polder, and what firing it leaves of the others.
-/

namespace Sys2Proof.Machine

variable {s t u : State} {p q : Polder} {e : SchedEntry} {l : List SchedEntry}

/-! ### The order of R242 -/

theorem goesBefore_iff {a b : SchedEntry} : goesBefore a b = true ↔
    b.delay < a.delay ∨ a.delay = b.delay ∧ (a.cls < b.cls ∨ a.cls = b.cls ∧ a.order < b.order) := by simp [goesBefore]

theorem goesBefore_irrefl (a : SchedEntry) : goesBefore a a = false := by simp [goesBefore]

theorem goesBefore_asymm {a b : SchedEntry} (h : goesBefore a b = true) : goesBefore b a = false := by
  rw [← Bool.not_eq_true, goesBefore_iff]
  rw [goesBefore_iff] at h
  omega

/-- What does not go before one that does not go before a third does not go before the third. -/
theorem goesBefore_not_trans {a b c : SchedEntry} (hab : goesBefore a b = false) (hbc : goesBefore b c = false) : goesBefore a c = false := by
  rw [← Bool.not_eq_true, goesBefore_iff] at hab hbc ⊢
  omega

theorem firstEntry_eq_none : firstEntry l = none ↔ l = [] := by
  cases l with
  | nil => exact ⟨fun _ => rfl, fun _ => rfl⟩
  | cons a r =>
    refine ⟨fun h => absurd h ?_, fun h => by cases h⟩
    unfold firstEntry
    cases firstEntry r with
    | none => simp
    | some f => dsimp only; split <;> simp

/-- The first entry is one of the list, and no entry of the list goes before it. -/
theorem firstEntry_first (h : firstEntry l = some e) : e ∈ l ∧ ∀ x ∈ l, goesBefore x e = false := by
  induction l generalizing e with
  | nil => cases h
  | cons a r ih =>
    unfold firstEntry at h
    cases hr : firstEntry r with
    | none =>
      rw [hr] at h
      cases h
      rw [firstEntry_eq_none.1 hr]
      exact ⟨List.mem_singleton_self a, fun x hx => by rw [List.mem_singleton.1 hx]; exact goesBefore_irrefl a⟩
    | some f =>
      obtain ⟨hmem, hfirst⟩ := ih hr
      rw [hr] at h
      dsimp only at h
      split at h
      · cases h
        exact ⟨List.mem_cons_of_mem a hmem, List.forall_mem_cons.2 ⟨goesBefore_asymm ‹_›, hfirst⟩⟩
      · cases h
        have hlast : goesBefore f a = false := eq_false_of_ne_true ‹_›
        exact ⟨List.mem_cons_self, List.forall_mem_cons.2 ⟨goesBefore_irrefl a, fun x hx => goesBefore_not_trans (hfirst x hx) hlast⟩⟩

/-! ### One polder's firing -/

/-- The wake entry of a polder that fires on this tick. -/
def firing (s : State) (p : Polder) : Option SchedEntry := firstEntry ((ownEntries s p).filter (entryDue s))

/-- The entries after polder `p`'s entry `e` has fired. -/
def entriesFired (s : State) (p : Polder) (e : SchedEntry) : List SchedEntry :=
  (s.sky.entries.filter fun x => !(x.owner == p.val && x.handle == e.handle)).map
    fun x => if x.owner == p.val && entryDue s x then { x with delay := x.delay + 1 } else x

/-- A polder's window with a completion record: of 16 the oldest is displaced. -/
def completionLeft (c : Completion) (w : SchedWindow) : SchedWindow := { w with done := (if 16 ≤ w.done.length then w.done.drop 1 else w.done) ++ [c] }

theorem pushCompletion_sky (p : Polder) (c : Completion) (s : State) :
    (pushCompletion p c s).sky = { s.sky with win := s.sky.win.set p (completionLeft c s.sky.win[p]) } := by
  have hraised : ∀ u : State, (if schedWake s p then raisePend p 12 u else u).sky = u.sky := fun u => by split <;> rfl
  have hspilt : ∀ u : State, (if 16 ≤ s.sky.win[p].done.length then bump cSkyComplSpill u else u).sky = u.sky := fun u => by
    split
    · exact bump_sky _ u
    · rfl
  exact (hraised _).trans (hspilt _)

theorem fireWake_idle (h : firing s p = none) : fireWake s p = s := by
  unfold fireWake
  rw [show firstEntry ((ownEntries s p).filter (entryDue s)) = none from h]

theorem fireWake_sky (h : firing s p = some e) : (fireWake s p).sky = { s.sky with
    entries := entriesFired s p e
    win := s.sky.win.set p (completionLeft (completionOf s e (s.mode.mode == .layup)) s.sky.win[p]) } := by
  unfold fireWake
  rw [show firstEntry ((ownEntries s p).filter (entryDue s)) = some e from h]
  dsimp only
  rw [(only_bumpIf _ _ _).kept .sky (by decide), pushCompletion_sky]
  rfl

/-! ### What it leaves -/

/-- Entries that owners other than `p` pick out stay. -/
theorem filter_entriesFired {f : Nat → Bool} (hf : f p.val = false) (e : SchedEntry) (s : State) :
    ((entriesFired s p e).filter fun x => f x.owner) = s.sky.entries.filter fun x => f x.owner := by
  have hother : ∀ {x : SchedEntry}, f x.owner = true → (x.owner == p.val) = false := fun {x} hx => by
    rw [beq_eq_false_iff_ne]
    rintro hp
    rw [hp, hf] at hx
    cases hx
  have howner : ((fun x : SchedEntry => f x.owner) ∘ fun x => if x.owner == p.val && entryDue s x then { x with delay := x.delay + 1 } else x) =
      fun x => f x.owner := by
    funext x
    simp only [Function.comp_apply]
    split <;> rfl
  have hkept : ∀ x : SchedEntry, (f x.owner && !(x.owner == p.val && x.handle == e.handle)) = f x.owner := fun x => by
    cases hx : f x.owner
    · rfl
    · simp [hother hx]
  rw [entriesFired, List.filter_map, howner, List.filter_filter]
  simp only [hkept]
  refine (List.map_congr_left fun x hx => ?_).trans (List.map_id _)
  simp [hother (List.mem_filter.1 hx).2]

/-- The polder's own entries: the fired handle is gone, the due ones wait a tick. -/
theorem filter_own_entriesFired (s : State) (p : Polder) (e : SchedEntry) : ((entriesFired s p e).filter fun x => x.owner == p.val) =
    ((ownEntries s p).filter fun x => x.handle != e.handle).map fun x => if entryDue s x then { x with delay := x.delay + 1 } else x := by
  have howner : ((fun x : SchedEntry => x.owner == p.val) ∘ fun x => if x.owner == p.val && entryDue s x then { x with delay := x.delay + 1 } else x) =
      fun x => x.owner == p.val := by
    funext x
    simp only [Function.comp_apply]
    split <;> rfl
  have hkept : ∀ x : SchedEntry, (x.owner == p.val && !(x.owner == p.val && x.handle == e.handle)) = (x.handle != e.handle && x.owner == p.val) := fun x => by
    cases x.owner == p.val <;> cases hx : x.handle == e.handle <;> simp [bne, hx]
  rw [entriesFired, List.filter_map, howner, List.filter_filter, ownEntries, List.filter_filter]
  simp only [hkept]
  refine List.map_congr_left fun x hx => ?_
  have hown : (x.owner == p.val) = true := (Bool.and_eq_true_iff.1 (List.mem_filter.1 hx).2).2
  rw [hown, Bool.true_and]

/-- What decides on polder `p`'s firing and what it changes of the polder. -/
def firingView (p : Polder) (s : State) : List SchedEntry × SchedWindow × Nat × MapSeg × ModeState :=
  (ownEntries s p, s.sky.win[p], s.sky.tick, s.sky.seg, s.mode)

theorem fireWake_mode (s : State) (p : Polder) : (fireWake s p).mode = s.mode := (Touches.only (touches_fireWake p) s).kept .mode (by decide)

/-- A polder's firing concerns no other polder (09_sky_time R241: one entry on each input). -/
theorem firingView_fireWake (s : State) (h : q ≠ p) : firingView p (fireWake s q) = firingView p s := by
  cases hf : firing s q with
  | none => rw [fireWake_idle hf]
  | some e =>
    have hne : q.val ≠ p.val := fun hv => h (Fin.ext hv)
    have hown : ownEntries (fireWake s q) p = ownEntries s p := by
      unfold ownEntries
      rw [fireWake_sky hf]
      exact filter_entriesFired (f := fun n => n == p.val) (by simpa using hne) e s
    have hwin : (fireWake s q).sky.win[p] = s.sky.win[p] := by
      rw [fireWake_sky hf]
      exact Vector.getElem_set_ne q.isLt p.isLt hne
    unfold firingView
    rw [hown, hwin, fireWake_mode, fireWake_sky hf]

theorem filter_common_fireWake (s : State) (p : Polder) :
    ((fireWake s p).sky.entries.filter fun e => decide (8 ≤ e.owner)) = s.sky.entries.filter fun e => decide (8 ≤ e.owner) := by
  cases hf : firing s p with
  | none => rw [fireWake_idle hf]
  | some e =>
    rw [fireWake_sky hf]
    exact filter_entriesFired (f := fun n => decide (8 ≤ n)) (by simp) e s

theorem fireWake_tick (s : State) (p : Polder) : (fireWake s p).sky.tick = s.sky.tick := by
  cases hf : firing s p with
  | none => rw [fireWake_idle hf]
  | some e => rw [fireWake_sky hf]

theorem tickOf_congr (hseg : u.sky.seg = s.sky.seg) : tickOf u = tickOf s := by
  funext x
  unfold tickOf
  rw [hseg]

theorem entryDue_congr (hseg : u.sky.seg = s.sky.seg) (htick : u.sky.tick = s.sky.tick) : entryDue u = entryDue s := by
  funext e
  unfold entryDue
  rw [tickOf_congr hseg, htick]

theorem completionOf_congr (hseg : u.sky.seg = s.sky.seg) (htick : u.sky.tick = s.sky.tick) : completionOf u = completionOf s := by
  funext e b
  unfold completionOf
  rw [stNow_of_segment hseg htick]

/-! ### All of them -/

/-- The state after every polder's firing. -/
def allFired (s : State) : State := (List.finRange 8).foldl fireWake s

theorem exec_schedulerFire (hlife : s.mode.life = .run) (hrun : s.sky.run = true) : exec .schedulerFire s = .next (allFired s) := by
  show execSchedulerFire s = _
  unfold execSchedulerFire allFired
  rw [if_pos ⟨hlife, hrun⟩]

/-- Of all firings, what concerns a polder is its own alone. -/
theorem allFired_view (s : State) (p : Polder) : ∃ u, firingView p u = firingView p s ∧ firingView p (allFired s) = firingView p (fireWake u p) :=
  foldl_keeps_around (firingView p) (fun _ _ h => firingView_fireWake _ h) (List.mem_finRange p) (List.nodup_finRange 8) s

theorem allFired_tick (s : State) : (allFired s).sky.tick = s.sky.tick := by
  unfold allFired
  exact foldl_relates (R := fun s t : State => t.sky.tick = s.sky.tick) (f := fireWake) (fun _ => rfl) (fun h k => k.trans h) fireWake_tick (List.finRange 8) s

theorem allFired_common (s : State) :
    ((allFired s).sky.entries.filter fun e => decide (8 ≤ e.owner)) = s.sky.entries.filter fun e => decide (8 ≤ e.owner) := by
  unfold allFired
  exact foldl_relates (R := fun s t : State => (t.sky.entries.filter fun e => decide (8 ≤ e.owner)) = s.sky.entries.filter fun e => decide (8 ≤ e.owner))
    (f := fireWake) (fun _ => rfl) (fun h k => k.trans h) filter_common_fireWake (List.finRange 8) s

theorem firing_eq_none (h : (ownEntries s p).any (entryDue s) = false) : firing s p = none := by
  refine firstEntry_eq_none.2 (List.filter_eq_nil_iff.2 fun x hx => ?_)
  rw [List.any_eq_false] at h
  exact h x hx

theorem firing_eq_some (h : (ownEntries s p).any (entryDue s) = true) : ∃ e, firing s p = some e ∧ e ∈ ownEntries s p ∧ entryDue s e = true ∧
    ∀ x ∈ ownEntries s p, entryDue s x = true → goesBefore x e = false := by
  obtain ⟨x, hx, hd⟩ := List.any_eq_true.1 h
  cases hf : firing s p with
  | none => exact absurd (firstEntry_eq_none.1 hf) (List.ne_nil_of_mem (List.mem_filter.2 ⟨hx, hd⟩))
  | some e =>
    obtain ⟨hmem, hfirst⟩ := firstEntry_first hf
    obtain ⟨hown, hdue⟩ := List.mem_filter.1 hmem
    exact ⟨e, rfl, hown, hdue, fun y hy hyd => hfirst y (List.mem_filter.2 ⟨hy, hyd⟩)⟩

/-- A polder with nothing due keeps its entries and its completions. -/
theorem allFired_idle (h : (ownEntries s p).any (entryDue s) = false) :
    ownEntries (allFired s) p = ownEntries s p ∧ (allFired s).sky.win[p] = s.sky.win[p] := by
  obtain ⟨u, hu, ht⟩ := allFired_view s p
  simp only [firingView, Prod.mk.injEq] at hu ht
  obtain ⟨huo, huw, hut, hus, -⟩ := hu
  obtain ⟨hto, htw, -⟩ := ht
  have hidle : fireWake u p = u := fireWake_idle (firing_eq_none (by rw [huo, entryDue_congr hus hut]; exact h))
  rw [hidle] at hto htw
  exact ⟨hto.trans huo, htw.trans huw⟩

/-- Of a polder's due entries the first fires, the others wait a tick. -/
theorem allFired_fires (h : (ownEntries s p).any (entryDue s) = true) : ∃ e ∈ ownEntries s p, entryDue s e = true ∧
    (∀ x ∈ ownEntries s p, entryDue s x = true → goesBefore x e = false) ∧
    ownEntries (allFired s) p = ((ownEntries s p).filter fun x => x.handle != e.handle).map (fun x => if entryDue s x then { x with delay := x.delay + 1 } else x) ∧
    (allFired s).sky.win[p] = completionLeft (completionOf s e (s.mode.mode == .layup)) s.sky.win[p] := by
  obtain ⟨u, hu, ht⟩ := allFired_view s p
  simp only [firingView, Prod.mk.injEq] at hu ht
  obtain ⟨huo, huw, hut, hus, hum⟩ := hu
  obtain ⟨hto, htw, -⟩ := ht
  have hdue : entryDue u = entryDue s := entryDue_congr hus hut
  obtain ⟨e, hf, hown, hd, hfirst⟩ := firing_eq_some h
  have hfu : firing u p = some e := by
    unfold firing
    rw [huo, hdue]
    exact hf
  refine ⟨e, hown, hd, hfirst, ?_, ?_⟩
  · rw [hto, ownEntries, fireWake_sky hfu]
    dsimp only
    rw [filter_own_entriesFired, huo, hdue]
  · rw [htw, fireWake_sky hfu, ← completionOf_congr hus hut, ← hum, ← huw]
    exact Vector.getElem_set_self p.isLt

end Sys2Proof.Machine
end

section
/-!
OBLIGATION O56 (09_sky_time R238, R241–R244): the scheduler window and the firing put together.
-/

namespace Sys2Proof.Machine

/-- Settles O56: the accesses to the window one by one, and the tick by each polder's share of it. -/
theorem schedulerArmsAndFires : Obligations.SchedulerArmsAndFires := by
  refine ⟨fun s p ha hon hw => ⟨schedArm_refuses_past ha hon hw, schedArm_refuses_full ha hon hw, schedArm_takes ha hon hw, schedCancel_answers ha hon hw,
    schedPop_pops ha hon hw, schedWakeEn_sets ha hon hw, ⟨_, exec_nowLatch ha hon, rfl⟩⟩, fun s hlife hrun => ?_⟩
  exact ⟨_, exec_schedulerFire hlife hrun, allFired_tick s, allFired_common s, fun p => ⟨allFired_idle, allFired_fires⟩⟩

end Sys2Proof.Machine
end

section
/-!
SUPPORT. Steps of the mapping (09_sky_time R219, R222–R224): what the anchor of a step leaves of the segment, the entries, the clocks and the counters.
-/

namespace Sys2Proof.Machine

variable {s t v : State} {d : Rat} {x : Source}

/-- From `s` to `v` the mapping has stepped by `d` at the present tick and steers by `x`: a segment begins here, nothing waits, no switch is under way. -/
structure SteppedTo (d : Rat) (x : Source) (s v : State) : Prop where
  tick : v.sky.tick = s.sky.tick
  anchor : v.sky.seg.tick = s.sky.tick
  st : v.sky.seg.st = stNow s + d
  next : v.sky.next = none
  source : v.sky.source = x
  target : v.sky.target = x
  switching : v.sky.switching = false

/-- ST steps by just that. -/
theorem SteppedTo.stNow_eq (h : SteppedTo d x s v) : stNow v = stNow s + d := (stNow_at_anchor (h.anchor.trans h.tick.symm)).trans h.st

/-! ### The entries at the anchor (09_sky_time R223) -/

/-- No launch entry is left at or before the anchor. -/
theorem stepEntries_launches (s : State) : ∀ e ∈ (stepEntries s).sky.entries, e.kind = 0 → stNow s < stOfWord e.st := by
  intro e he hk
  obtain ⟨y, hy, rfl⟩ := List.mem_map.1 he
  obtain ⟨-, hleft⟩ := List.mem_filter.1 hy
  split at hk
  · rw [if_pos ‹_›]
    simpa [show y.kind = 0 from hk] using hleft
  · rw [if_neg ‹_›]
    simpa [hk] using hleft

/-- Of the time a step's entries move only the entries and the pulses. -/
theorem stepEntries_sky (s : State) : (stepEntries s).sky = { s.sky with entries := (stepEntries s).sky.entries, tp := (stepEntries s).sky.tp } := rfl

theorem SteppedTo.entries (h : SteppedTo d x s v) : SteppedTo d x s (stepEntries v) := ⟨h.tick, h.anchor, h.st, h.next, h.source, h.target, h.switching⟩

/-- The launches withdrawn are counted for the polders alone. -/
theorem ctrGet_stepEntries {j : Nat} (h : j < 256) (s : State) : ctrGet (stepEntries s) j = ctrGet s j := by
  refine foldl_relates (R := fun s t : State => ctrGet t j = ctrGet s j) (fun _ => rfl) (fun h k => k.trans h) (fun u p => ?_) (List.finRange 8) s
  dsimp only
  split
  · rfl
  · exact ctrGet_ctrAdd_ne _ _ _ (by unfold pLnkTxHeld polCounter; omega) u

/-! ### The clocks at the anchor (16_clocks R404–R406) -/

theorem ckdAnchor_ckdFrom (factor : Rat) (s : State) : (ckdAnchor factor s).clk.ckdFrom = s.clk.ckdFrom := by
  unfold ckdAnchor
  dsimp only
  split
  · rfl
  · split
    · rfl
    · rw [bump_clk]
      rfl

theorem ctrGet_ckdAnchor {j : Nat} (h : reportFree j) (hj : j ≠ cClkPlldRelocks) (factor : Rat) (s : State) :
    ctrGet (ckdAnchor factor s) j = ctrGet s j := by
  unfold ckdAnchor
  dsimp only
  split
  · rfl
  · split
    · rfl
    · exact (ctrGet_bump_free h hj _).trans rfl

/-- What both steps do at their anchor once the mapping has stepped: entries, outputs and the clocks' status. -/
def anchorTaken (factor : Rat) (v : State) : State := clkRefresh (ckdAnchor factor (ckdStepStop (stepEntries v)))

theorem anchorTaken_sky (factor : Rat) (v : State) : (anchorTaken factor v).sky = (stepEntries v).sky := by
  rw [anchorTaken, clkRefresh_sky, ckdAnchor_sky, ckdStepStop_sky]

theorem anchorTaken_mode (factor : Rat) (v : State) : (anchorTaken factor v).mode = v.mode :=
  ((Touches.only touches_clkRefresh _).kept .mode (by decide)).trans
    (((Touches.only (touches_ckdAnchor factor) _).kept .mode (by decide)).trans ((Touches.only touches_stepEntries v).kept .mode (by decide)))

/-- The outputs may restart from the tick after the anchor. -/
theorem anchorTaken_ckdFrom (factor : Rat) (v : State) : (anchorTaken factor v).clk.ckdFrom = v.sky.tick + 1 := by
  rw [anchorTaken, clkRefresh_clk]
  exact ckdAnchor_ckdFrom factor _

theorem ctrGet_anchorTaken {j : Nat} (h : reportFree j) (hj : j < 226) (factor : Rat) (v : State) : ctrGet (anchorTaken factor v) j = ctrGet v j := by
  have hstop : ∀ u : State, ctrGet (ckdStepStop u) j = ctrGet u j := fun _ => rfl
  rw [anchorTaken, ctrGet_clkRefresh h, ctrGet_ckdAnchor h (by unfold cClkPlldRelocks; omega), hstop, ctrGet_stepEntries (by omega)]

/-! ### First alignment (09_sky_time R222) -/

theorem exec_firstAlignment_early {step : Rat} (hd : s.sky.alignDecided = some step) (ht : s.sky.tick < s.sky.anchorAt) :
    exec .firstAlignment s = .next s := by
  show Host.Outcome.next (firstAlignment s) = _
  unfold firstAlignment
  rw [hd]
  exact congrArg _ (if_pos ht)

/-- First alignment is reported: SKY.STATUS, its record, BASIN.MODE. -/
def alignmentTold (content : List Byte) (v : State) : State := publishMode (recB 1 0x0901 content (publishSky v))

theorem only_alignmentTold (content : List Byte) (v : State) : only [.hst, .obs, .basin, .ctr] v (alignmentTold content v) :=
  Touches.only (Touches.of fun u => by unfold alignmentTold; simp) v

/-- At its anchor the mapping has stepped and is aligned; then the anchor is taken, and the rest is report. -/
theorem exec_firstAlignment {step : Rat} (hd : s.sky.alignDecided = some step) (ht : s.sky.anchorAt ≤ s.sky.tick) :
    ∃ v factor content, exec .firstAlignment s = .next (alignmentTold content (anchorTaken factor v)) ∧
      SteppedTo step .gnss s v ∧ v.mode.aligned = true ∧ v.sky.seed = none ∧ v.sky.alignDecided = none ∧ v.sky.gnssFresh = true ∧
      v.sky.alignedAt = some (stNow s + step) := by
  show ∃ v factor content, Host.Outcome.next (firstAlignment s) = _ ∧ _
  unfold firstAlignment
  rw [hd]
  dsimp only
  rw [if_neg (not_lt.2 ht)]
  exact ⟨_, _, _, rfl, ⟨rfl, rfl, rfl, rfl, rfl, rfl, rfl⟩, rfl, rfl, rfl, rfl, rfl⟩

theorem firstAlignment_aligns {step : Rat} (hd : s.sky.alignDecided = some step) (ht : s.sky.anchorAt ≤ s.sky.tick) : completes .firstAlignment s (fun t =>
    t.mode.aligned = true ∧ t.sky.source = .gnss ∧ t.sky.target = .gnss ∧ t.sky.switching = false ∧ t.sky.seed = none ∧ t.sky.alignDecided = none ∧
      t.sky.gnssFresh = true ∧ t.sky.tick = s.sky.tick ∧ stNow t = stNow s + step ∧ t.sky.alignedAt = some (stNow s + step) ∧ t.sky.next = none ∧
      (∀ e ∈ t.sky.entries, e.kind = 0 → stNow t < stOfWord e.st) ∧ t.clk.ckdFrom = s.sky.tick + 1) := by
  obtain ⟨v, factor, content, hexec, hstep, haligned, hseed, hdecided, hfresh, hat⟩ := exec_firstAlignment hd ht
  have htold := only_alignmentTold content (anchorTaken factor v)
  have hsky := (htold.kept .sky (by decide)).trans (anchorTaken_sky factor v)
  have hmode := (htold.kept .mode (by decide)).trans (anchorTaken_mode factor v)
  have hclk : (alignmentTold content (anchorTaken factor v)).clk = (anchorTaken factor v).clk := htold.kept .clk (by decide)
  refine ⟨_, hexec, ?_⟩
  beta_reduce
  rw [stNow_congr hsky, hsky, hmode, hclk, anchorTaken_ckdFrom, hstep.tick]
  exact ⟨haligned, hstep.source, hstep.target, hstep.switching, hseed, hdecided, hfresh, hstep.tick, hstep.entries.stNow_eq, hat, hstep.next,
    stepEntries_launches v, rfl⟩

/-! ### The permitted step (09_sky_time R224) -/

/-- At its anchor the mapping has stepped by minus the phase; then the step is counted, the anchor taken, and the rest is report. -/
theorem exec_permittedStep (hx : s.sky.stepTo = some x) (ht : s.sky.anchorAt ≤ s.sky.tick) :
    ∃ v factor, exec .permittedStep s = .next (recSky 0x0903 (anchorTaken factor (bump cSkySteps v))) ∧ SteppedTo (-phaseAgainst s x) x s v ∧
      v.sky.stepTo = none ∧ v.sky.r = 0 ∧ v.sky.clkStep = true ∧ v.ctr = s.ctr := by
  show ∃ v factor, Host.Outcome.next (permittedStep s) = _ ∧ _
  unfold permittedStep
  rw [hx]
  dsimp only
  rw [if_neg (not_lt.2 ht)]
  exact ⟨_, _, rfl, ⟨rfl, rfl, rfl, rfl, rfl, rfl, rfl⟩, rfl, rfl, rfl, rfl⟩

theorem SteppedTo.congr (h : SteppedTo d x s v) (hs : t.sky = v.sky) : SteppedTo d x s t := by
  constructor <;> rw [hs]
  exacts [h.tick, h.anchor, h.st, h.next, h.source, h.target, h.switching]

theorem permittedStep_steps (hx : s.sky.stepTo = some x) (ht : s.sky.anchorAt ≤ s.sky.tick) : completes .permittedStep s (fun t =>
    t.sky.source = x ∧ t.sky.target = x ∧ t.sky.switching = false ∧ t.sky.stepTo = none ∧ t.sky.r = 0 ∧ t.sky.clkStep = true ∧
      stNow t = stNow s - phaseAgainst s x ∧ t.sky.tick = s.sky.tick ∧ counted cSkySteps s t) := by
  obtain ⟨v, factor, hexec, hstep, hto, hr, hclk, hctr⟩ := exec_permittedStep hx ht
  have hsky : (recSky 0x0903 (anchorTaken factor (bump cSkySteps v))).sky = (stepEntries (bump cSkySteps v)).sky := by rw [recSky_sky, anchorTaken_sky]
  have hfree : reportFree cSkySteps := by unfold reportFree; decide
  have hdone : SteppedTo (-phaseAgainst s x) x s (bump cSkySteps v) := hstep.congr (bump_sky _ v)
  have hcount : counted cSkySteps s (recSky 0x0903 (anchorTaken factor (bump cSkySteps v))) :=
    counted_of_same (counted_bump cSkySteps v) (ctrGet_congr hctr _) ((ctrGet_recSky hfree _ _).trans (ctrGet_anchorTaken hfree (by decide) _ _))
  refine ⟨_, hexec, ?_⟩
  beta_reduce
  rw [stNow_congr hsky, hsky, stepEntries_sky, bump_sky]
  exact ⟨hstep.source, hstep.target, hstep.switching, hto, hr, hclk, hdone.entries.stNow_eq.trans (sub_eq_add_neg _ _).symm, hstep.tick, hcount⟩

end Sys2Proof.Machine
end

section
/-!
SUPPORT. Steering (09_sky_time R226, R228–R230): what the ordinary update and the 10 ms boundary make of the mapping.
-/

namespace Sys2Proof.Machine

variable {s : State}

theorem exec_gnssReturn_returns {n : Nat} (h : s.sky.trustedSince = some n) (ht : n + 491520000 * cfg s skyCfgGnssReturn ≤ s.sky.tick) :
    exec .gnssReturn s = .next (publishSky { s with sky := { s.sky with gnssReturned := true } }) := by
  have hdue : since s n (secTicks (cfg s skyCfgGnssReturn)) = true := by
    unfold since secTicks
    rw [Nat.mul_comm]
    exact decide_eq_true ht
  show execGnssReturn s = _
  unfold execGnssReturn
  rw [h]
  exact congrArg _ (if_pos hdue)

/-! ### The ordinary update (09_sky_time R219, R228) -/

theorem exec_ordinaryUpdate_lapses (h : s.sky.seg.tick = s.sky.tick) : exec .ordinaryUpdate s = .next s :=
  congrArg Host.Outcome.next (if_neg fun hd => hd.2.2.2.2 h)

/-- The slew that an update decides: the error over TAU, within SLEW_MAX. -/
def slewNow (s : State) : Rat := clampQ (-slewMax s) (slewMax s) (-errorNow s s.sky.source / cfg s skyCfgTau)

/-- The time's state after an update: a segment begins here. -/
def updated (s : State) : SkyState := { s.sky with
  seg := ⟨s.sky.tick, stNow s, tickSource s s.sky.source * (1 + slewNow s)⟩
  past := pastSegs s
  next := none
  e := errorNow s s.sky.source
  tickS := tickSource s s.sky.source }

theorem exec_ordinaryUpdate (hrun : s.sky.run = true) (ha : s.mode.aligned = true) (hw : s.sky.switching = false) (hf : s.sky.source ≠ .free)
    (h : s.sky.seg.tick ≠ s.sky.tick) : exec .ordinaryUpdate s =
    .next (publishSky (clkRefresh (ckdAnchor (tickSource s s.sky.source * 491520000 * (1 + slewNow s)) { s with sky := updated s }))) :=
  congrArg Host.Outcome.next (if_pos ⟨hrun, ha, hw, hf, h⟩)

theorem ordinaryUpdate_steers (hrun : s.sky.run = true) (ha : s.mode.aligned = true) (hw : s.sky.switching = false) (hf : s.sky.source ≠ .free)
    (h : s.sky.seg.tick ≠ s.sky.tick) : completes .ordinaryUpdate s (fun t =>
      t.sky.seg.tick = s.sky.tick ∧ stNow t = stNow s ∧ t.sky.next = none ∧ t.sky.e = errorNow s s.sky.source ∧ t.sky.tickS = tickSource s s.sky.source ∧
        t.sky.seg.rate = t.sky.tickS * (1 + clampQ (-slewMax s) (slewMax s) (-t.sky.e / cfg s skyCfgTau)) ∧
        t.sky.source = s.sky.source ∧ t.sky.entries = s.sky.entries) := by
  refine ⟨_, exec_ordinaryUpdate hrun ha hw hf h, ?_⟩
  beta_reduce
  have hsky : ∀ factor, (publishSky (clkRefresh (ckdAnchor factor { s with sky := updated s }))).sky = updated s := fun factor => by
    rw [publishSky_sky, clkRefresh_sky, ckdAnchor_sky]
  have hnow : stNow { s with sky := updated s } = stNow s := stNow_at_anchor (s := { s with sky := updated s }) rfl
  rw [stNow_congr (s := { s with sky := updated s }) (hsky _), hsky, hnow]
  exact ⟨rfl, rfl, rfl, rfl, rfl, rfl, rfl, rfl⟩

/-! ### The 10 ms boundary (09_sky_time R224, R229, R230) -/

theorem exec_switchBoundary (s : State) : exec .switchBoundary s = .next (switchBoundary s) := rfl

section
variable (hrun : s.sky.run = true) (ha : s.mode.aligned = true)
include hrun ha

/-- Nothing happens while the wanted source is the target and no switch goes on. -/
theorem switchBoundary_stays (hw : wantedSource s = s.sky.target) (h : ¬ (s.sky.switching = true ∧ s.sky.stepTo = none)) : switchBoundary s = s :=
  (if_pos ⟨hrun, ha⟩).trans ((if_pos hw).trans (if_neg h))

/-- The residual of a switch that goes on, measured at the boundary. -/
theorem switchBoundary_continues (hw : wantedSource s = s.sky.target) (hs : s.sky.switching = true) (hn : s.sky.stepTo = none) :
    switchBoundary s = let s1 := { s with sky := { s.sky with r := phaseAgainst s s.sky.target } }
      if absQ (phaseAgainst s s.sky.target) ≤ (cfg s skyCfgSwDone : Rat) / 1000000000 then
        recSky 0x0903 (ckdCheck { s1 with sky := { s1.sky with source := s.sky.target, switching := false, e := phaseAgainst s s.sky.target } })
      else slewToward s1 := by
  rw [← hw]
  exact (if_pos ⟨hrun, ha⟩).trans ((if_pos hw).trans (if_pos ⟨hs, hn⟩))

theorem switchBoundary_free (hw : wantedSource s = .free) (ht : s.sky.target ≠ .free) : switchBoundary s = takeFreeRun (abandonSwitch s) :=
  (if_pos ⟨hrun, ha⟩).trans ((if_neg (hw ▸ ht.symm)).trans (if_pos hw))

theorem switchBoundary_takesUp (hw : wantedSource s ≠ .free) (ht : wantedSource s ≠ s.sky.target) :
    switchBoundary s = ckdCheck (takeUp (wantedSource s) (abandonSwitch s)) := (if_pos ⟨hrun, ha⟩).trans ((if_neg ht).trans (if_neg hw))

end

end Sys2Proof.Machine
end

section
/-!
OBLIGATION O53 (09_sky_time R219, R222, R224, R226, R228–R230): the boundary's outcomes, and the mapping's commands put together.
-/

namespace Sys2Proof.Machine

variable {s t : State} {x : Source}

theorem phaseAgainst_congr (h : t.sky = s.sky) : phaseAgainst t = phaseAgainst s := by
  funext x
  cases x <;> simp only [phaseAgainst, gnssRef, extDrift, stNow_congr h, h]

@[simp] theorem abandonSwitch_sky (s : State) : (abandonSwitch s).sky = s.sky := (Touches.only touches_abandonSwitch s).kept .sky (by decide)

@[simp] theorem abandonSwitch_boot (s : State) : (abandonSwitch s).boot = s.boot := (Touches.only touches_abandonSwitch s).kept .boot (by decide)

/-! ### A new target (09_sky_time R224, R229, R230) -/

/-- A permitted step is decided for a source taken up: STEP_EN is set and the phase is beyond STEP_THR. -/
def stepPermitted (x : Source) (s : State) : Prop :=
  cfgB s skyCfgStepEn = true ∧ (cfg s skyCfgStepThr : Rat) / 1000000 < absQ (phaseAgainst s x)

theorem stepPermitted_abandonSwitch (x : Source) (s : State) : stepPermitted x (abandonSwitch s) ↔ stepPermitted x s := by
  unfold stepPermitted cfgB
  rw [phaseAgainst_congr (abandonSwitch_sky s), cfg_congr (abandonSwitch_boot s)]

/-- The time's state with a target taken up. -/
def targetTaken (x : Source) (s : State) : SkyState :=
  { s.sky with target := x, switching := true, stepTo := none, r := phaseAgainst s x }

/-- A switch has begun toward a source, and a step for it is decided where one is permitted. -/
def SwitchBegun (x : Source) (s t : State) : Prop :=
  t.sky.tick = s.sky.tick ∧ t.sky.seg = s.sky.seg ∧ t.sky.target = x ∧ t.sky.switching = true ∧ t.sky.source = s.sky.source ∧
    t.sky.r = phaseAgainst s x ∧ (t.sky.stepTo = some x ↔ stepPermitted x s)

theorem switchBegun_takeUp (x : Source) (s : State) : SwitchBegun x s (takeUp x s) := by
  have hsky : (recSky 0x0902 (bump cSkySwitches { s with sky := targetTaken x s })).sky = targetTaken x s := by rw [recSky_sky, bump_sky]
  unfold SwitchBegun
  by_cases hc : stepPermitted x s
  · have hstep : takeUp x s = let u := recSky 0x0902 (bump cSkySwitches { s with sky := targetTaken x s })
        { u with sky := { u.sky with stepTo := some x, anchorAt := stepAnchor u, tickS := tickSource u x } } := if_pos hc
    rw [hstep]
    dsimp only
    rw [hsky]
    exact ⟨rfl, rfl, rfl, rfl, rfl, rfl, iff_of_true rfl hc⟩
  · have hslew : takeUp x s = slewToward (recSky 0x0902 (bump cSkySwitches { s with sky := targetTaken x s })) := if_neg hc
    rw [hslew, slewToward]
    dsimp only
    rw [hsky]
    exact ⟨rfl, rfl, rfl, rfl, rfl, rfl, iff_of_false (by simp [targetTaken]) hc⟩

theorem takeFreeRun_sky (s : State) : (takeFreeRun s).sky.tick = s.sky.tick ∧ (takeFreeRun s).sky.seg = ⟨s.sky.tick, stNow s, s.sky.tickS⟩ ∧
    (takeFreeRun s).sky.source = .free ∧ (takeFreeRun s).sky.target = .free ∧ (takeFreeRun s).sky.switching = false := by
  unfold takeFreeRun
  dsimp only
  rw [recSky_sky, ckdCheck_sky]
  exact ⟨rfl, rfl, rfl, rfl, rfl⟩

/-! ### The outcomes of a boundary -/

section
variable (hrun : s.sky.run = true) (ha : s.mode.aligned = true)
include hrun ha

/-- A residual within SW_DONE ends the switch. -/
theorem switchBoundary_ends (hw : wantedSource s = s.sky.target) (hs : s.sky.switching = true) (hn : s.sky.stepTo = none)
    (hr : absQ (phaseAgainst s s.sky.target) ≤ (cfg s skyCfgSwDone : Rat) / 1000000000) : (switchBoundary s).sky =
    { s.sky with r := phaseAgainst s s.sky.target, source := s.sky.target, switching := false, e := phaseAgainst s s.sky.target } := by
  rw [switchBoundary_continues hrun ha hw hs hn]
  dsimp only
  rw [if_pos hr, recSky_sky, ckdCheck_sky]

/-- A larger one has the switch go on. -/
theorem switchBoundary_slews (hw : wantedSource s = s.sky.target) (hs : s.sky.switching = true) (hn : s.sky.stepTo = none)
    (hr : (cfg s skyCfgSwDone : Rat) / 1000000000 < absQ (phaseAgainst s s.sky.target)) :
    ∃ n ts, (switchBoundary s).sky = { s.sky with r := phaseAgainst s s.sky.target, next := n, tickS := ts } := by
  rw [switchBoundary_continues hrun ha hw hs hn]
  dsimp only
  rw [if_neg (not_le.2 hr)]
  exact ⟨_, _, rfl⟩

/-- The mapping goes free at the last rate. -/
theorem switchBoundary_frees (hw : wantedSource s = .free) (ht : s.sky.target ≠ .free) :
    (switchBoundary s).sky.tick = s.sky.tick ∧ (switchBoundary s).sky.seg = ⟨s.sky.tick, stNow s, s.sky.tickS⟩ ∧
      (switchBoundary s).sky.source = .free ∧ (switchBoundary s).sky.target = .free ∧ (switchBoundary s).sky.switching = false := by
  rw [switchBoundary_free hrun ha hw ht]
  have hfree := takeFreeRun_sky (abandonSwitch s)
  rwa [abandonSwitch_sky, stNow_congr (abandonSwitch_sky s)] at hfree

theorem switchBoundary_begins (hw : wantedSource s ≠ .free) (ht : wantedSource s ≠ s.sky.target) : SwitchBegun (wantedSource s) s (switchBoundary s) := by
  rw [switchBoundary_takesUp hrun ha hw ht]
  have hbegun := switchBegun_takeUp (wantedSource s) (abandonSwitch s)
  unfold SwitchBegun at hbegun ⊢
  rwa [stepPermitted_abandonSwitch, phaseAgainst_congr (abandonSwitch_sky s), abandonSwitch_sky, ← ckdCheck_sky] at hbegun

/-- No boundary moves the tick or ST: the mapping stays continuous (09_sky_time R229). -/
theorem switchBoundary_continuous : (switchBoundary s).sky.tick = s.sky.tick ∧ stNow (switchBoundary s) = stNow s := by
  by_cases hw : wantedSource s = s.sky.target
  · by_cases hs : s.sky.switching = true ∧ s.sky.stepTo = none
    · obtain ⟨hs, hn⟩ := hs
      have hkept : (switchBoundary s).sky.tick = s.sky.tick ∧ (switchBoundary s).sky.seg = s.sky.seg := by
        obtain hr | hr := le_or_gt (absQ (phaseAgainst s s.sky.target)) ((cfg s skyCfgSwDone : Rat) / 1000000000)
        · rw [switchBoundary_ends hrun ha hw hs hn hr]
          exact ⟨rfl, rfl⟩
        · obtain ⟨n, ts, hsky⟩ := switchBoundary_slews hrun ha hw hs hn hr
          rw [hsky]
          exact ⟨rfl, rfl⟩
      exact ⟨hkept.1, stNow_of_segment hkept.2 hkept.1⟩
    · rw [switchBoundary_stays hrun ha hw hs]
      exact ⟨rfl, rfl⟩
  · by_cases hf : wantedSource s = .free
    · obtain ⟨htick, hseg, -⟩ := switchBoundary_frees hrun ha hf fun ht => hw (hf.trans ht.symm)
      refine ⟨htick, (stNow_at_anchor ?_).trans ?_⟩
      · rw [hseg, htick]
      · rw [hseg]
    · obtain ⟨htick, hseg, -⟩ := switchBoundary_begins hrun ha hf hw
      exact ⟨htick, stNow_of_segment hseg htick⟩

theorem switchBoundary_decides : completes .switchBoundary s (fun t =>
    t.sky.tick = s.sky.tick ∧ stNow t = stNow s ∧
    (wantedSource s = s.sky.target → s.sky.switching = false → t = s) ∧
    (wantedSource s = .free → s.sky.target ≠ .free → t.sky.source = .free ∧ t.sky.target = .free ∧ t.sky.switching = false ∧ t.sky.seg.rate = s.sky.tickS) ∧
    (wantedSource s ≠ .free → wantedSource s ≠ s.sky.target → t.sky.target = wantedSource s ∧ t.sky.switching = true ∧ t.sky.source = s.sky.source ∧
      t.sky.r = phaseAgainst s (wantedSource s) ∧
      (t.sky.stepTo = some (wantedSource s) ↔ cfgB s skyCfgStepEn = true ∧ (cfg s skyCfgStepThr : Rat) / 1000000 < absQ t.sky.r)) ∧
    (wantedSource s = s.sky.target → s.sky.switching = true → s.sky.stepTo = none → t.sky.r = phaseAgainst s s.sky.target ∧
      (absQ t.sky.r ≤ (cfg s skyCfgSwDone : Rat) / 1000000000 → t.sky.source = s.sky.target ∧ t.sky.switching = false ∧ t.sky.e = t.sky.r) ∧
      ((cfg s skyCfgSwDone : Rat) / 1000000000 < absQ t.sky.r → t.sky.source = s.sky.source ∧ t.sky.switching = true))) := by
  obtain ⟨htick, hnow⟩ := switchBoundary_continuous hrun ha
  refine ⟨_, exec_switchBoundary s, htick, hnow, fun hw hs => ?_, fun hw ht => ?_, fun hw ht => ?_, fun hw hs hn => ?_⟩
  · exact switchBoundary_stays hrun ha hw fun h => by rw [hs] at h; exact Bool.false_ne_true h.1
  · obtain ⟨-, hseg, hsource, htarget, hswitching⟩ := switchBoundary_frees hrun ha hw ht
    exact ⟨hsource, htarget, hswitching, congrArg MapSeg.rate hseg⟩
  · obtain ⟨-, -, htarget, hswitching, hsource, hr, hstep⟩ := switchBoundary_begins hrun ha hw ht
    exact ⟨htarget, hswitching, hsource, hr, by rw [hr]; exact hstep⟩
  · obtain hr | hr := le_or_gt (absQ (phaseAgainst s s.sky.target)) ((cfg s skyCfgSwDone : Rat) / 1000000000)
    · rw [switchBoundary_ends hrun ha hw hs hn hr]
      exact ⟨rfl, fun _ => ⟨rfl, rfl, rfl⟩, fun h => absurd hr (not_le.2 h)⟩
    · obtain ⟨n, ts, hsky⟩ := switchBoundary_slews hrun ha hw hs hn hr
      rw [hsky]
      exact ⟨rfl, fun h => absurd h (not_le.2 hr), fun _ => ⟨rfl, hs⟩⟩

end

/-- Settles O53: first alignment, the permitted step, GNSS's return, the ordinary update and the boundary, each by its own lemma. -/
theorem skyTimeSteersAndSteps : Obligations.SkyTimeSteersAndSteps := by
  intro s
  refine ⟨fun step hd ht => ⟨_, exec_firstAlignment_early hd ht, rfl⟩, fun step hd ht => firstAlignment_aligns hd ht, fun x hx ht => permittedStep_steps hx ht,
    fun n h ht => ⟨_, exec_gnssReturn_returns h ht, upToReports_publishSky _⟩, fun hrun ha => ⟨fun _ _ h => ⟨_, exec_ordinaryUpdate_lapses h, rfl⟩, fun hw hf h => ?_, ?_⟩⟩
  · exact ordinaryUpdate_steers hrun ha hw hf h
  · exact switchBoundary_decides hrun ha

end Sys2Proof.Machine
end

section
/-!
SUPPORT. The regulatory guard and the synthesizer (10_tag_link R258, R274, R275, 11_radio_control R290, R292, R294, R300, 16_clocks R409): when an emission is
admitted and at what power, what an answer counts, which emission comes next, and the commands beside the decision.
-/

namespace Sys2Proof.Machine

variable {s : State}

/-! ### The tests (11_radio_control R290, R294) -/

/-- A test that fails answers; one that passes leaves the answer to the next. -/
theorem ite_some_eq_none {α : Type} {c : Prop} [Decidable c] {a : α} {x : Option α} : (if c then some a else x) = none ↔ ¬ c ∧ x = none := by
  split <;> simp [*]

/-- The listening test of the guard, profile by profile (11_radio_control R294). -/
theorem lbtOk_iff {isAck : Bool} {ch : Nat} {lbt : Int} : lbtOk s isAck ch lbt = true ↔
    ∀ n ∈ setProfiles s, (isAck && ackExempt s n) = false → ∀ th, lbtThreshold s n ch = some th → lbt ≤ th := by
  unfold lbtOk
  rw [List.all_eq_true]
  refine forall_congr' fun n => ?_
  rw [List.mem_filter, Bool.not_eq_true', and_imp]
  cases lbtThreshold s n ch <;> simp

/-- The first test of R290 that fails decides; none fails when all pass. -/
theorem guardTest_eq_none {e : Emission} {lbt : Int} : guardTest s e lbt = none ↔
    s.clk.lsynTx = true ∧ setTransmits s = true ∧ (∀ n ∈ setProfiles s, profileOk s n (emissionOwner e.kind) e.chan.val e.t0 e.dur = true) ∧
      (∀ n ∈ setProfiles s, dutyOk s n (emissionOwner e.kind) e.chan.val e.dur = true) ∧ lbtOk s e.kind.isAck e.chan.val lbt = true ∧
      inhibited s = false ∧ (∀ k : LinkChan, s.rfc.alarmRx[k] = false) ∧ (cfgB s rfcCfgGntEn = true → s.rfc.gnt = true) ∧
      (cfgB s rfcCfgPriEn = true → s.rfc.pri = false) := by
  have halarm : s.rfc.alarmRx.toList.any id = false ↔ ∀ k : LinkChan, s.rfc.alarmRx[k] = false := by
    rw [List.any_eq_false]
    constructor
    · intro h k
      simpa using h _ (Vector.mem_toList_iff.2 (Vector.getElem_mem k.isLt))
    · intro h x hx
      obtain ⟨i, hi, rfl⟩ := Vector.mem_iff_getElem.1 (Vector.mem_toList_iff.1 hx)
      simpa using h ⟨i, hi⟩
  rw [← halarm, ← List.all_eq_true, ← List.all_eq_true]
  unfold guardTest
  dsimp only
  simp only [ite_some_eq_none, not_or, and_assoc, Bool.not_eq_false, Bool.not_eq_true, not_and, and_true]

/-! ### The clamp (11_radio_control R292) -/

/-- One profile's turn in the clamp. -/
def clampTurn (s : State) (ch : Nat) (q : Int) (n : Nat) : Int :=
  match subOf s n ch with
  | none => q
  | some k =>
    let cut : Int := (cfgAt s rfcTightenPCut (n - 1) : Nat)
    min q (min (sext 8 (subFld s n k 84 8) - cut) (sext 8 (subFld s n k 92 8) - cut - antGain s))

theorem clampPower_eq (s : State) (ch : Nat) (req : Int) : clampPower s ch req = (setProfiles s).foldl (clampTurn s ch) req := rfl

theorem clampTurn_of_sub {n k ch : Nat} (h : subOf s n ch = some k) (q : Int) : clampTurn s ch q n =
    min q (min (sext 8 (subFld s n k 84 8) - (cfgAt s rfcTightenPCut (n - 1) : Nat))
      (sext 8 (subFld s n k 92 8) - (cfgAt s rfcTightenPCut (n - 1) : Nat) - antGain s)) := by
  unfold clampTurn
  rw [h]

theorem clampTurn_le (s : State) (ch : Nat) (q : Int) (n : Nat) : clampTurn s ch q n ≤ q := by
  cases h : subOf s n ch with
  | none => unfold clampTurn; rw [h]
  | some k => rw [clampTurn_of_sub h]; exact min_le_left _ _

theorem foldl_clampTurn_le (s : State) (ch : Nat) (l : List Nat) (q : Int) : l.foldl (clampTurn s ch) q ≤ q :=
  foldl_relates (R := fun a b => b ≤ a) le_refl (fun h k => le_trans k h) (clampTurn_le s ch) l q

/-- The clamp stays within the request, and within each profile's conducted and radiated limit. -/
theorem clampPower_le (s : State) (ch : Nat) (req : Int) : clampPower s ch req ≤ req := foldl_clampTurn_le s ch _ req

theorem clampPower_le_limits {n k ch : Nat} (hn : n ∈ setProfiles s) (hk : subOf s n ch = some k) (req : Int) :
    clampPower s ch req ≤ sext 8 (subFld s n k 84 8) - (cfgAt s rfcTightenPCut (n - 1) : Nat) ∧
      clampPower s ch req ≤ sext 8 (subFld s n k 92 8) - (cfgAt s rfcTightenPCut (n - 1) : Nat) - antGain s := by
  obtain ⟨before, after, hsplit⟩ := List.append_of_mem hn
  have hturn : clampPower s ch req ≤ clampTurn s ch (before.foldl (clampTurn s ch) req) n := by
    rw [clampPower_eq, hsplit, List.foldl_append, List.foldl_cons]
    exact foldl_clampTurn_le s ch after _
  rw [clampTurn_of_sub hk, le_min_iff, le_min_iff] at hturn
  exact hturn.2

/-! ### The decision -/

/-- The level of COEX_GNT is taken at the decision. -/
def gntLevel (v : Bool) (s : State) : State := { s with rfc := { s.rfc with gnt := v } }

/-- The emission in preparation is decided: admitted at a power, or refused. -/
def decidedEmission (e : Emission) (q : Option Int) (s : State) : State :=
  { s with lnk := { s.lnk with prep := some { e with decided := true, admitted := q } } }

/-- COEX_REQ is low. -/
def reqLow (s : State) : State := { s with rfc := { s.rfc with req := false } }

/-- The power of an admitted downlink is its channel's last; a clamp that lowers a polder's emission counts. -/
def powerNoted (k : EmissionKind) (ch : LinkChan) (req q : Int) (s : State) : State :=
  match k with
  | .launch p _ _ => bumpIf (decide (q < req)) (pRfcPowerClamps p) { s with rfc := { s.rfc with lastPwr := s.rfc.lastPwr.set ch (some q) } }
  | .ack p _ => bumpIf (decide (q < req)) (pRfcPowerClamps p) s
  | .beacon => s

/-- What the guard's answer makes of the emission in preparation. -/
def guardAnswered (e : Emission) (r : Option Refused) (s : State) : State :=
  match r with
  | some r => countRefusal e.kind r (reqLow (decidedEmission e none s))
  | none => powerNoted e.kind e.chan e.req (clampPower s e.chan.val e.req) (decidedEmission e (some (clampPower s e.chan.val e.req)) s)

theorem exec_emissionDecision {lbt : Int} {gnt : Bool} {e : Emission} (hp : s.lnk.prep = some e) (hd : e.decided = false)
    (hdue : decisionDue s e = true) : exec (.emissionDecision lbt gnt) s =
      .next (guardAnswered e (guardTest (gntLevel gnt s) e lbt) (gntLevel gnt s)) := by
  show execEmissionDecision lbt gnt s = _
  have hopen : ¬ (e.decided = true ∨ decisionDue (gntLevel gnt s) e = false) := by
    rw [show decisionDue (gntLevel gnt s) e = decisionDue s e from rfl, hd, hdue]; decide
  unfold execEmissionDecision
  dsimp only
  rw [hp]
  dsimp only
  refine (if_neg hopen).trans ?_
  unfold gntLevel
  generalize guardTest _ e lbt = answer
  cases answer with
  | none => rfl
  | some r => rfl

/-! ### What an answer leaves -/

theorem counted_from {i : Nat} {s u t : State} (hctr : u.ctr = s.ctr) (h : counted i u t) : counted i s t :=
  counted_of_same h (ctrGet_congr hctr i) rfl

theorem countRefusal_lnk (k : EmissionKind) (r : Refused) (s : State) : (countRefusal k r s).lnk = s.lnk :=
  (Touches.only (touches_countRefusal k r) s).kept .lnk (by decide)

theorem countRefusal_rfc (k : EmissionKind) (r : Refused) (s : State) : (countRefusal k r s).rfc = s.rfc :=
  (Touches.only (touches_countRefusal k r) s).kept .rfc (by decide)

theorem counted_countRefusal_beacon (r : Refused) (s : State) : counted cRfcCommonDefer s (countRefusal .beacon r s) := by
  unfold countRefusal
  dsimp only
  split
  · exact counted_of_same (counted_bump _ (bump cClkLsynUnlocked s)) (ctrGet_bump_free (by unfold reportFree; decide) (by decide) s) rfl
  · exact counted_bump _ s

/-- A beacon's refusal counts after the missed lock, which stays counted. -/
theorem counted_countRefusal_unlocked (k : EmissionKind) (s : State) : counted cClkLsynUnlocked s (countRefusal k .unlocked s) := by
  cases k with
  | launch p c h => exact counted_bump _ s
  | ack p ch => exact counted_bump _ s
  | beacon => exact counted_of_same (counted_bump _ s) rfl (ctrGet_bump_free (by unfold reportFree; decide) (by decide) _)

/-- The counter of a cause for a polder (11_radio_control Table 11-13); a missed lock has none of the polder's. -/
def refusalCounter (p : Polder) : Refused → Option Nat
  | .unlocked => none
  | .profile => some (pRfcDeferProfile p)
  | .duty => some (pRfcDeferDuty p)
  | .lbt => some (pRfcDeferLbt p)
  | .quiet => some (pRfcDeferQuiet p)
  | .alarm => some (pRfcDeferAlarm p)
  | .gnt => some (pRfcDeferGnt p)
  | .pri => some (pRfcDeferPri p)

theorem owned_of_emissionOwner {k : EmissionKind} {p : Polder} (h : emissionOwner k = p.val) (hb : k ≠ .beacon) :
    (∃ c n, k = .launch p c n) ∨ ∃ ch, k = .ack p ch := by
  cases k with
  | launch q c n => exact .inl ⟨c, n, by rw [Fin.ext (show q.val = p.val from h)]⟩
  | ack q ch => exact .inr ⟨ch, by rw [Fin.ext (show q.val = p.val from h)]⟩
  | beacon => exact absurd rfl hb

theorem counted_countRefusal {k : EmissionKind} {p : Polder} {r : Refused} {i : Nat} (h : emissionOwner k = p.val) (hb : k ≠ .beacon)
    (hi : refusalCounter p r = some i) (s : State) : counted i s (countRefusal k r s) := by
  have hcount : countRefusal k r s = bump i s := by
    obtain ⟨c, n, rfl⟩ | ⟨ch, rfl⟩ := owned_of_emissionOwner h hb <;> cases r <;> cases hi <;> rfl
  rw [hcount]
  exact counted_bump i s

theorem powerNoted_lnk (k : EmissionKind) (ch : LinkChan) (req q : Int) (s : State) : (powerNoted k ch req q s).lnk = s.lnk := by
  unfold powerNoted
  split
  · exact (only_bumpIf _ _ _).kept .lnk (by decide)
  · exact (only_bumpIf _ _ _).kept .lnk (by decide)
  · rfl

theorem counted_bumpIf {c : Bool} (h : c = true) (i : Nat) (s : State) : counted i s (bumpIf c i s) := by
  rw [bumpIf, if_pos h]
  exact counted_bump i s

theorem powerNoted_launch (p : Polder) (c n : Nat) (ch : LinkChan) (req q : Int) (s : State) :
    (powerNoted (.launch p c n) ch req q s).rfc = { s.rfc with lastPwr := s.rfc.lastPwr.set ch (some q) } ∧
      (q < req → counted (pRfcPowerClamps p) s (powerNoted (.launch p c n) ch req q s)) :=
  ⟨(only_bumpIf _ _ _).kept .rfc (by decide), fun h =>
    counted_from rfl (counted_bumpIf (decide_eq_true h) _ { s with rfc := { s.rfc with lastPwr := s.rfc.lastPwr.set ch (some q) } })⟩

theorem powerNoted_ack (p : Polder) (c ch : LinkChan) (req q : Int) (s : State) :
    (powerNoted (.ack p c) ch req q s).rfc = s.rfc ∧ (q < req → counted (pRfcPowerClamps p) s (powerNoted (.ack p c) ch req q s)) :=
  ⟨(only_bumpIf _ _ _).kept .rfc (by decide), fun h => counted_bumpIf (decide_eq_true h) _ _⟩

section
variable {lbt : Int} {gnt : Bool} {e : Emission} (hp : s.lnk.prep = some e) (hd : e.decided = false) (hdue : decisionDue s e = true)
include hp hd hdue

theorem emissionDecision_admits (h : guardTest (gntLevel gnt s) e lbt = none) : completes (.emissionDecision lbt gnt) s (fun t =>
    t.lnk = { s.lnk with prep := some { e with decided := true, admitted := some (clampPower (gntLevel gnt s) e.chan.val e.req) } } ∧
      (∀ p c n, e.kind = .launch p c n →
        t.rfc = { (gntLevel gnt s).rfc with lastPwr := s.rfc.lastPwr.set e.chan (some (clampPower (gntLevel gnt s) e.chan.val e.req)) } ∧
        (clampPower (gntLevel gnt s) e.chan.val e.req < e.req → counted (pRfcPowerClamps p) s t)) ∧
      (∀ p c, e.kind = .ack p c → t.rfc = (gntLevel gnt s).rfc ∧
        (clampPower (gntLevel gnt s) e.chan.val e.req < e.req → counted (pRfcPowerClamps p) s t)) ∧
      (e.kind = .beacon → t.rfc = (gntLevel gnt s).rfc)) := by
  rw [completes, exec_emissionDecision hp hd hdue, h, guardAnswered]
  refine ⟨_, rfl, powerNoted_lnk _ _ _ _ _, fun p c n hk => ?_, fun p c hk => ?_, fun hk => ?_⟩
  · rw [hk]
    obtain ⟨hrfc, hcount⟩ := powerNoted_launch p c n e.chan e.req (clampPower (gntLevel gnt s) e.chan.val e.req)
      (decidedEmission e (some (clampPower (gntLevel gnt s) e.chan.val e.req)) (gntLevel gnt s))
    exact ⟨hrfc, fun hq => counted_from rfl (hcount hq)⟩
  · rw [hk]
    obtain ⟨hrfc, hcount⟩ := powerNoted_ack p c e.chan e.req (clampPower (gntLevel gnt s) e.chan.val e.req)
      (decidedEmission e (some (clampPower (gntLevel gnt s) e.chan.val e.req)) (gntLevel gnt s))
    exact ⟨hrfc, fun hq => counted_from rfl (hcount hq)⟩
  · rw [hk]
    rfl

theorem emissionDecision_refuses {r : Refused} (h : guardTest (gntLevel gnt s) e lbt = some r) : completes (.emissionDecision lbt gnt) s (fun t =>
    t.lnk = { s.lnk with prep := some { e with decided := true, admitted := none } } ∧ t.rfc = { (gntLevel gnt s).rfc with req := false } ∧
      (r = .unlocked → counted cClkLsynUnlocked s t) ∧ (e.kind = .beacon → counted cRfcCommonDefer s t) ∧
      ∀ p : Polder, emissionOwner e.kind = p.val → e.kind ≠ .beacon → ∀ i, refusalCounter p r = some i → counted i s t) := by
  rw [completes, exec_emissionDecision hp hd hdue, h, guardAnswered]
  have hctr : (reqLow (decidedEmission e none (gntLevel gnt s))).ctr = s.ctr := rfl
  refine ⟨_, rfl, countRefusal_lnk _ _ _, countRefusal_rfc _ _ _, fun hr => ?_, fun hk => ?_, fun p ho hb i hi => ?_⟩
  · subst hr
    exact counted_from hctr (counted_countRefusal_unlocked _ _)
  · rw [hk]
    exact counted_from hctr (counted_countRefusal_beacon _ _)
  · exact counted_from hctr (counted_countRefusal ho hb hi _)

end

/-! ### The next emission (10_tag_link R258, 16_clocks R409) -/

/-- What the search for the acknowledgement due first has found among the channels it has seen. -/
def FirstAmong (s : State) (seen : List LinkChan) : Option (LinkChan × PendingAck) → Prop
  | none => ∀ c ∈ seen, s.lnk.ackDue[c] = none
  | some (ch, a) => s.lnk.ackDue[ch] = some a ∧ ∀ c ∈ seen, ∀ b, s.lnk.ackDue[c] = some b → a.last ≤ b.last

/-- One channel's turn in the search. -/
def ackTurn (s : State) (b : Option (LinkChan × PendingAck)) (ch : LinkChan) : Option (LinkChan × PendingAck) :=
  match s.lnk.ackDue[ch], b with
  | none, b => b
  | some a, none => some (ch, a)
  | some a, some (c, x) => if a.last < x.last then some (ch, a) else some (c, x)

theorem firstAmong_ackTurn {seen : List LinkChan} {b : Option (LinkChan × PendingAck)} (h : FirstAmong s seen b) (ch : LinkChan) :
    FirstAmong s (seen ++ [ch]) (ackTurn s b ch) := by
  unfold ackTurn
  cases hdue : s.lnk.ackDue[ch] with
  | none =>
    have hlast : ∀ {P : LinkChan → Prop}, (∀ c ∈ seen, P c) → P ch → ∀ c ∈ seen ++ [ch], P c := fun hs hc c h =>
      (List.mem_append.1 h).elim (hs c) fun h => List.mem_singleton.1 h ▸ hc
    cases b with
    | none => exact hlast h hdue
    | some x => exact ⟨h.1, hlast h.2 fun b hb => by rw [hdue] at hb; cases hb⟩
  | some a =>
    cases b with
    | none =>
      refine ⟨hdue, fun c hc d hd => ?_⟩
      obtain hc | hc := List.mem_append.1 hc
      · rw [h c hc] at hd; cases hd
      · rw [List.mem_singleton.1 hc, hdue] at hd; cases hd; exact le_rfl
    | some x =>
      obtain ⟨c0, y⟩ := x
      obtain ⟨hy, hmin⟩ := h
      dsimp only
      split
      · refine ⟨hdue, fun c hc d hd => ?_⟩
        obtain hc | hc := List.mem_append.1 hc
        · exact (le_of_lt ‹_›).trans (hmin c hc d hd)
        · rw [List.mem_singleton.1 hc, hdue] at hd; cases hd; exact le_rfl
      · refine ⟨hy, fun c hc d hd => ?_⟩
        obtain hc | hc := List.mem_append.1 hc
        · exact hmin c hc d hd
        · rw [List.mem_singleton.1 hc, hdue] at hd; cases hd; exact not_lt.1 ‹_›

theorem firstAmong_foldl (l : List LinkChan) {seen : List LinkChan} {b : Option (LinkChan × PendingAck)} (h : FirstAmong s seen b) :
    FirstAmong s (seen ++ l) (l.foldl (ackTurn s) b) := by
  induction l generalizing seen b with
  | nil => rwa [List.append_nil]
  | cons ch l ih =>
    have := ih (firstAmong_ackTurn h ch)
    rwa [List.append_assoc] at this

/-- The acknowledgement due first has the earliest last chip of all that are due. -/
theorem firstAck_first {ch : LinkChan} {a : PendingAck} (h : firstAck s = some (ch, a)) :
    s.lnk.ackDue[ch] = some a ∧ ∀ (c : LinkChan) b, s.lnk.ackDue[c] = some b → a.last ≤ b.last := by
  have hall : FirstAmong s ([] ++ List.finRange 8) (firstAck s) := firstAmong_foldl _ (by simp [FirstAmong])
  rw [h] at hall
  obtain ⟨hdue, hmin⟩ := hall
  exact ⟨hdue, fun c b hb => hmin c (List.mem_finRange c) b hb⟩

theorem nextEmission_ack {ch : LinkChan} {a : PendingAck} (h : firstAck s = some (ch, a)) : ∃ e, nextEmission s = some e ∧
    e.kind = .ack a.polder ch ∧ e.chan = ch ∧ e.t0 = a.last + 150 / 1000000 ∧ e.dur = ackTime s ch.val := by
  unfold nextEmission
  rw [h]
  exact ⟨_, rfl, rfl, rfl, rfl, rfl⟩

/-- Without an acknowledgement due, a launch or the beacon comes next. -/
theorem nextEmission_other (h : firstAck s = none) {e : Emission} (he : nextEmission s = some e) : e.kind = .beacon ∨ ∃ p c n, e.kind = .launch p c n := by
  unfold nextEmission at he
  rw [h] at he
  cases hc : firstCandidate (launchCandidates s) with
  | none =>
    cases hb : nextBeacon s with
    | none => rw [hc, hb] at he; cases he
    | some st => rw [hc, hb] at he; cases he; exact .inl rfl
  | some x =>
    obtain ⟨p, k, d, a⟩ := x
    cases hb : nextBeacon s with
    | none => rw [hc, hb] at he; cases he; exact .inr ⟨p, k, d.handle, rfl⟩
    | some b =>
      rw [hc, hb] at he
      simp only [Option.map_some, Option.some.injEq] at he
      split at he
      · subst he; exact .inl rfl
      · subst he; exact .inr ⟨p, k, d.handle, rfl⟩

/-! ### The other commands of the synthesizer and the guard -/

theorem exec_lsynRetune {locked : Bool} {e : Emission} (hrx : linkRx s (stSec s) = true) (hair : s.lnk.air = none) (he : nextEmission s = some e) :
    exec (.lsynRetune locked) s = .next { s with lnk := { s.lnk with prep := some e }, clk := { s.clk with lsynTx := locked } } := by
  show execLsynRetune locked s = _
  unfold execLsynRetune
  rw [if_neg (by simp [hrx, hair]), he]

theorem notRefusedYet_iff {e : Emission} : notRefusedYet s e = true ↔ setTransmits s = true ∧ (e.decided = false ∨ e.admitted ≠ none) ∧
    ∀ n ∈ setProfiles s, profileOk s n (emissionOwner e.kind) e.chan.val e.t0 e.dur = true ∧ dutyOk s n (emissionOwner e.kind) e.chan.val e.dur = true := by
  unfold notRefusedYet
  rw [Bool.and_eq_true, Bool.and_eq_true, List.all_eq_true, and_assoc]
  have hopen : (!(e.decided && e.admitted.isNone)) = true ↔ e.decided = false ∨ e.admitted ≠ none := by
    cases e.decided <;> cases e.admitted <;> simp
  simp only [hopen, Bool.and_eq_true]

/-- COEX_REQ may rise for an emission (11_radio_control R300). -/
def reqMay (s : State) (e : Emission) : Prop :=
  cfgB s rfcCfgReqEn = true ∧ inhibited s = false ∧ notRefusedYet s e = true ∧ reached s (e.t0 - (cfg s rfcCfgReqLead : Rat) / 1000000) = true

theorem exec_coexReq_rises {e : Emission} (he : s.lnk.prep.or (nextEmission s) = some e) (h : reqMay s e) :
    exec .coexReq s = .next { s with rfc := { s.rfc with req := true } } := by
  show execCoexReq s = _
  unfold execCoexReq
  rw [he]
  exact congrArg _ (if_pos h)

theorem exec_coexReq_stays (h : ∀ e, s.lnk.prep.or (nextEmission s) = some e → ¬ reqMay s e) : exec .coexReq s = .next s := by
  show execCoexReq s = _
  unfold execCoexReq
  split
  · exact congrArg _ (if_neg (h _ ‹_›))
  · rfl

theorem exec_dpdUpdate (h : s.lnk.dpdPending = true) :
    exec .dpdUpdate s = .next { s with lnk := { s.lnk with dpdTrained := true, dpdPending := false } } := congrArg _ (if_pos h)

/-- The floor that a channel reports (10_tag_link R275). -/
def floorOf (s : State) (levels : List Int) (n : Nat) : Int :=
  if cfgBAt s lnkChanEn n && noiseSlots s then clampI (-512) 511 (levels.getD n (-512)) else -512

/-- The floors of a second in the link's state and in the basin view. -/
def floorsShown (v : Vector Int 8) (s : State) : State :=
  basinPut 0xE0B8 (v.toList.flatMap fun x => leBytes 2 (twos 10 x)) { s with lnk := { s.lnk with noise := v } }

theorem exec_noiseFloor (h : linkRx s (stSec s) = true) (levels : List Int) :
    exec (.noiseFloor levels) s = .next (floorsShown (Vector.ofFn fun i : LinkChan => floorOf s levels i.val) s) := by
  show execNoiseFloor levels s = _
  exact if_neg (by rw [h]; decide)

theorem floorsShown_lnk (v : Vector Int 8) (s : State) : (floorsShown v s).lnk = { s.lnk with noise := v } := basinPut_lnk _ _ _

theorem floorsShown_eta (v : Vector Int 8) (s : State) :
    floorsShown v s = { s with lnk := { s.lnk with noise := v }, basin := (floorsShown v s).basin } := basinPut_eta _ _ _

theorem shown_floorsShown {v : Vector Int 8} (hw : s.memWf) : shown 0xE0B8 (v.toList.flatMap fun x => leBytes 2 (twos 10 x)) (floorsShown v s) :=
  shown_basinPut (s := { s with lnk := { s.lnk with noise := v } }) _ hw.1 (by decide)

theorem noiseFloor_shows (h : linkRx s (stSec s) = true) (levels : List Int) : completes (.noiseFloor levels) s (fun t =>
    t = { s with lnk := { s.lnk with noise := t.lnk.noise }, basin := t.basin } ∧ (∀ n : LinkChan, t.lnk.noise[n] = floorOf s levels n.val) ∧
    (s.memWf → shown 0xE0B8 (t.lnk.noise.toList.flatMap fun x => leBytes 2 (twos 10 x)) t)) := by
  refine ⟨_, exec_noiseFloor h levels, ?_⟩
  generalize hv : (Vector.ofFn fun i : LinkChan => floorOf s levels i.val) = v
  rw [floorsShown_lnk]
  refine ⟨floorsShown_eta v s, fun n => ?_, shown_floorsShown⟩
  rw [← hv]
  exact Vector.getElem_ofFn _

end Sys2Proof.Machine
end

section
/-!
OBLIGATION O47 (10_tag_link R258, R274, R275, 11_radio_control R290, R292, R300, 16_clocks R409): the guard's tests, the clamp, the decision and the commands of
the synthesizer put together.
-/

namespace Sys2Proof.Machine

/-- Settles O47: the tests one by one, the clamp by each profile's turn, the decision by the guard's answer, and each other command by its equation. -/
theorem guardAdmitsEmissions : Obligations.GuardAdmitsEmissions := by
  unfold Obligations.GuardAdmitsEmissions
  refine ⟨fun s e lbt => ?_, fun s ch req => ⟨clampPower_le s ch req, fun n hn k hk => clampPower_le_limits hn hk req⟩, fun s lbt gnt e hp hd hdue => ⟨?_, fun r h => ?_⟩,
    fun s => ⟨fun ch a h => ?_, fun h e he => nextEmission_other h he⟩, fun s locked e hrx hair he => ⟨_, exec_lsynRetune hrx hair he, rfl⟩, fun s => ?_,
    fun s h => ⟨_, exec_dpdUpdate h, rfl⟩, fun s levels h => ?_⟩
  · intro o
    rw [guardTest_eq_none, lbtOk_iff]
  · exact emissionDecision_admits hp hd hdue
  · obtain ⟨t, hexec, hlnk, hrfc, hlock, hbeacon, hcause⟩ := emissionDecision_refuses hp hd hdue h
    refine ⟨t, hexec, hlnk, hrfc, hlock, hbeacon, fun p ho hb => ?_⟩
    have hcount := hcause p ho hb
    refine ⟨?_, ?_, ?_, ?_, ?_, ?_, ?_⟩ <;> exact fun hr => hcount _ (by rw [hr]; rfl)
  · obtain ⟨hdue, hmin⟩ := firstAck_first h
    exact ⟨hdue, hmin, nextEmission_ack h⟩
  · intro may
    have hmay : may ↔ ∃ e, s.lnk.prep.or (nextEmission s) = some e ∧ reqMay s e := by
      refine exists_congr fun e => ?_
      unfold reqMay
      rw [notRefusedYet_iff]
      tauto
    refine ⟨fun h => ?_, fun h => ?_⟩
    · obtain ⟨e, he, h⟩ := hmay.1 h
      exact ⟨_, exec_coexReq_rises he h, rfl⟩
    · exact ⟨_, exec_coexReq_stays fun e he hr => h (hmay.2 ⟨e, he, hr⟩), rfl⟩
  · obtain ⟨t, hexec, hkept, hnoise, hshown⟩ := noiseFloor_shows h levels
    refine ⟨t, hexec, hkept, fun n => (hnoise n).trans ?_, hshown⟩
    unfold floorOf
    simp only [Bool.and_eq_true]

end Sys2Proof.Machine
end

section
/-!
OBLIGATION O46 (10_tag_link R268, Table 10-16): the roster commands take the context from both bytes of ROS.CTX, the statement from its ten bits alone.
-/

namespace Sys2Proof.Machine

variable {s : State} {p : Polder}

/-- A write to the link window is live while LNK is on, if it names no context outside the polder's range (13_ohmore_model R345, 12_polders Table 12-5). -/
theorem byteFate_link (h : domOn s .lnk = true) {a : Nat} {v : Byte} (hlo : 0xC000 ≤ a) (hhi : a < 0xC400) (hc : winCovered a = true)
    (hf : foreignCommand s p a v = false) : byteFate s p a (some v) = .live := by
  have hdomain : windowDomain p a = some .lnk := if_pos hhi
  unfold byteFate
  rw [if_neg (by omega), if_neg (by omega)]
  unfold windowFate
  simp [show ¬ 0xD000 ≤ a by omega, hc, hf, hdomain, h]

/-- ROS_CMD is live for a context of the polder's own, as the ten bits of ROS.CTX name it. -/
theorem byteFate_rosCmd (h : domOn s .lnk = true) (hown : ctxOf s p (getBits (winNat s p 0xC200 2) 0 10) = true) (v : Byte) :
    byteFate s p 0xC203 (some v) = .live :=
  byteFate_link h (by decide) (by decide) (by decide) (by simp [foreignCommand, hown])

theorem rosterLoad_unranged (withKey : Bool) (h : ctxOf s p (winNat s p 0xC200 2) = false) : rosterLoad p withKey s = setRosResult p 1 s := if_pos h

/-- What ROS_CMD 1 answers when the two bytes of ROS.CTX, with a reserved bit, name a context outside the range. -/
theorem exec_rosterLoadState_unranged (ha : mayAccess s p) (hon : domOn s .lnk = true) (hw : s.pld[p].memWf = true)
    (hown : ctxOf s p (getBits (winNat s p 0xC200 2) 0 10) = true) (hout : ctxOf s p (winNat s p 0xC200 2) = false) :
    exec (.rosterLoadState p) s = .next (setRosResult p 1 (winStore p 0xC203 1 s)) := by
  have hload : windowWrite p 0xC203 1 s = setRosResult p 1 (winStore p 0xC203 1 s) := by
    refine rosterLoad_unranged false ?_
    rw [winStore, winNat_winPut_apart hw _ (.inl (by decide))]
    exact hout
  have hdue : (windowWrite p 0xC203 1 s).pld[p].restartDue = s.pld[p].restartDue := by
    rw [hload]
    exact restartDue_winPut p _ _ s
  show Host.Outcome.next (programWrite p 0xC203 1 s) = _
  rw [programWrite_live ha (byteFate_rosCmd hon hown 1) hdue, hload]

/-- Polder 0 runs with LNK on and context 0 for its own; its window holds STATE 2, and in ROS.CTX's upper byte the reserved bit 2 over CTX 0. No write of a program
stores that bit, but a state may hold it. -/
def reservedCtxBit : State :=
  winPut 0 0xC200 [0x00, 0x04, 0x02] (modCore 0 (fun c => { c with phase := .running }) (setDom .lnk .on { State.reset with
    boot := { State.reset.boot with blocks := [⟨8, 0x1012, 58, 2 ^ 1610⟩] } }))

theorem reservedCtxBit_accesses : mayAccess reservedCtxBit 0 ∧ domOn reservedCtxBit .lnk = true ∧ reservedCtxBit.pld[(0 : Polder)].memWf = true := by
  unfold mayAccess
  decide +kernel

/-- By its ten bits ROS.CTX names context 0, the polder's own; by its two bytes it names 1,024. -/
theorem reservedCtxBit_names : ctxOf reservedCtxBit 0 (getBits (winNat reservedCtxBit 0 0xC200 2) 0 10) = true ∧
    ctxOf reservedCtxBit 0 (winNat reservedCtxBit 0 0xC200 2) = false ∧ getBits (winNat reservedCtxBit 0 0xC202 1) 0 2 = 2 := by decide +kernel

/-- Refutes O46: where a reserved bit of ROS.CTX is set, ROS_CMD with STATE 2 answers ROS_RESULT 1 (context outside the range), not 2. -/
theorem not_linkWindowCommands : ¬ Obligations.LinkWindowCommands := by
  unfold Obligations.LinkWindowCommands
  intro h
  obtain ⟨ha, hon, hw⟩ := reservedCtxBit_accesses
  obtain ⟨hown, hout, hcode⟩ := reservedCtxBit_names
  obtain ⟨-, -, -, -, -, hroster, -⟩ := h reservedCtxBit 0 ha hon
  obtain ⟨⟨t, hexec, hlnk⟩, -⟩ := (hroster hown).1 hcode
  rw [exec_rosterLoadState_unranged ha hon hw hown hout] at hexec
  cases hexec
  have hone : (setRosResult 0 1 (winStore 0 0xC203 1 reservedCtxBit)).lnk.rosResult[(0 : Polder)] = 1 := Vector.getElem_set_self _
  have htwo : (setRosResult 0 1 (winStore 0 0xC203 1 reservedCtxBit)).lnk.rosResult[(0 : Polder)] = 2 := by
    rw [hlnk]
    exact Vector.getElem_set_self _
  exact absurd (hone.symm.trans htwo) (by decide)

end Sys2Proof.Machine
end

section
/-!
SUPPORT. The link's contexts and receive queues (10_tag_link R258, R268, R273, R279): what a change of a context and a record that arrives write, and what they
leave of the link, the contexts and the counters.
-/

namespace Sys2Proof.Machine

variable {s t u : State} {p : Polder}

/-! ### Counters -/

/-- Counters of polders at two places of their pages differ. -/
theorem polCounter_apart {j k : Nat} (p q : Polder) (h : j ≠ k) (hj : j < 192) (hk : k < 192) : polCounter p j ≠ polCounter q k := by
  unfold polCounter
  omega

/-! ### Contexts (10_tag_link R268) -/

/-- The link contexts are in canonical form. -/
def ctxWf (s : State) : Prop := swf (fun _ => ({} : Ctx)) s.lnk.ctx = true

/-- A value written to a context is read back: the contexts are canonical, or it is no empty context. -/
def lands (s : State) (c : Ctx) : Prop := ctxWf s ∨ c ≠ {}

theorem lands_of_key {c : Ctx} (s : State) (h : c.key ≠ []) : lands s c := .inr fun e => h (by rw [e])

theorem lands_of_queue {c : Ctx} (s : State) (h : c.queue ≠ []) : lands s c := .inr fun e => h (by rw [e])

theorem ctxGet_congr (h : t.lnk.ctx = s.lnk.ctx) (k : Nat) : ctxGet t k = ctxGet s k := by
  unfold ctxGet
  rw [h]

theorem ctxGet_ctxMod_other {j k : Nat} (h : j ≠ k) (f : Ctx → Ctx) (s : State) : ctxGet (ctxMod k f s) j = ctxGet s j := sget_sset_ne _ _ _ _ h _

theorem ctxGet_ctxMod {k : Nat} {f : Ctx → Ctx} (h : lands s (f (ctxGet s k))) : ctxGet (ctxMod k f s) k = f (ctxGet s k) :=
  h.elim (fun hw => (sget_sset _ _ _ _ _ hw).trans (if_pos rfl)) fun hne => sget_sset_self _ _ _ hne _

theorem ctxWf_ctxMod (k : Nat) (f : Ctx → Ctx) (h : ctxWf s) : ctxWf (ctxMod k f s) := swf_sset _ _ _ _ h

theorem ctxWf_congr (h : t.lnk.ctx = s.lnk.ctx) (hw : ctxWf s) : ctxWf t := by
  unfold ctxWf
  rw [h]
  exact hw

theorem ctxWf_of_memWf (h : s.memWf) : ctxWf s := h.2.2.2.1

theorem ctxMod_lnk (k : Nat) (f : Ctx → Ctx) (s : State) : (ctxMod k f s).lnk = { s.lnk with ctx := (ctxMod k f s).lnk.ctx } := rfl

/-! ### A record arrives (10_tag_link R273, R279) -/

/-- A record enters its queue, with LOST as it then is: what stands before the count of the spilled records and the wake. -/
def rxEntered (p : Polder) (r : RxRecord) (s : State) : State :=
  let room := rxRoom r.ctx (rxSize r) s.lnk.rxq[p].length s.lnk.rxq[p]
  let u := ctxMod r.ctx (fun c => { c with lost := false }) s
  { u with lnk := { u.lnk with rxq := u.lnk.rxq.set p (room.1 ++ [{ r with lost := (ctxGet s r.ctx).lost || decide (0 < room.2) }]) } }

/-- Records that a new one displaces count one by one. -/
def spillsCounted (p : Polder) (n : Nat) (s : State) : State := (List.range n).foldl (fun t _ => bump (pLnkRxSpill p) t) s

theorem pushRx_dry (h : isDry s p = true) (r : RxRecord) : pushRx p r s = s := if_pos h

theorem pushRx_enters (h : isDry s p = false) (r : RxRecord) : ∃ n, pushRx p r s = (if rxWakeEn s p then
    raisePend p 11 (spillsCounted p n (rxEntered p r s)) else spillsCounted p n (rxEntered p r s)) := by
  refine ⟨(rxRoom r.ctx (rxSize r) s.lnk.rxq[p].length s.lnk.rxq[p]).2, ?_⟩
  unfold pushRx
  exact if_neg (by rw [h]; exact Bool.false_ne_true)

theorem spillsCounted_lnk (p : Polder) (n : Nat) (s : State) : (spillsCounted p n s).lnk = s.lnk :=
  foldl_relates (R := fun s t : State => t.lnk = s.lnk) (fun _ => rfl) (fun h k => k.trans h) (fun _ _ => bump_lnk _ _) _ s

theorem ctrGet_spillsCounted {j : Nat} (hj : reportFree j) (hne : j ≠ pLnkRxSpill p) (n : Nat) (s : State) :
    ctrGet (spillsCounted p n s) j = ctrGet s j :=
  foldl_relates (R := fun s t : State => ctrGet t j = ctrGet s j) (fun _ => rfl) (fun h k => k.trans h) (fun t _ => ctrGet_bump_free hj hne t) _ s

theorem pushRx_lnk_wet (h : isDry s p = false) (r : RxRecord) : (pushRx p r s).lnk = (rxEntered p r s).lnk := by
  obtain ⟨n, hn⟩ := pushRx_enters h r
  rw [hn]
  split
  · exact spillsCounted_lnk p n _
  · exact spillsCounted_lnk p n _

/-- Of the link a record moves its queue and its context only. -/
theorem pushRx_lnk (p : Polder) (r : RxRecord) (s : State) :
    (pushRx p r s).lnk = { s.lnk with ctx := (pushRx p r s).lnk.ctx, rxq := (pushRx p r s).lnk.rxq } := by
  cases h : isDry s p with
  | true => rw [pushRx_dry h]
  | false => rw [pushRx_lnk_wet h]; rfl

theorem arrived_pushRx (p : Polder) (r : RxRecord) (s : State) : arrived p r s (pushRx p r s) := by
  cases h : isDry s p with
  | true => exact .inl h
  | false =>
    refine .inr ⟨(ctxGet s r.ctx).lost || decide (0 < (rxRoom r.ctx (rxSize r) s.lnk.rxq[p].length s.lnk.rxq[p]).2), ?_⟩
    rw [pushRx_lnk_wet h]
    exact (congrArg List.getLast? (Vector.getElem_set_self p.isLt)).trans List.getLast?_concat

theorem ctxGet_rxEntered (p : Polder) (r : RxRecord) (k : Nat) (s : State) :
    ctxGet (rxEntered p r s) k = ctxGet (ctxMod r.ctx (fun c => { c with lost := false }) s) k := rfl

/-- Of its context a record touches LOST only. -/
theorem ctxGet_pushRx {r : RxRecord} (h : lands s { ctxGet s r.ctx with lost := false }) :
    ∃ l, ctxGet (pushRx p r s) r.ctx = { ctxGet s r.ctx with lost := l } := by
  cases hd : isDry s p with
  | true => exact ⟨_, by rw [pushRx_dry hd]⟩
  | false =>
    refine ⟨false, (ctxGet_congr (congrArg LnkState.ctx (pushRx_lnk_wet hd r)) _).trans ?_⟩
    rw [ctxGet_rxEntered, ctxGet_ctxMod h]

theorem ctxGet_pushRx_other {r : RxRecord} {j : Nat} (h : j ≠ r.ctx) : ctxGet (pushRx p r s) j = ctxGet s j := by
  cases hd : isDry s p with
  | true => rw [pushRx_dry hd]
  | false =>
    refine (ctxGet_congr (congrArg LnkState.ctx (pushRx_lnk_wet hd r)) _).trans ?_
    rw [ctxGet_rxEntered, ctxGet_ctxMod_other h]

theorem ctxWf_pushRx (r : RxRecord) (h : ctxWf s) : ctxWf (pushRx p r s) := by
  cases hd : isDry s p with
  | true => rw [pushRx_dry hd]; exact h
  | false => exact ctxWf_congr (congrArg LnkState.ctx (pushRx_lnk_wet hd r)) (ctxWf_ctxMod r.ctx (fun c => { c with lost := false }) h)

theorem ctrGet_pushRx {j : Nat} (hj : reportFree j) (hne : j ≠ pLnkRxSpill p) (r : RxRecord) (s : State) : ctrGet (pushRx p r s) j = ctrGet s j := by
  cases h : isDry s p with
  | true => rw [pushRx_dry h]
  | false =>
    obtain ⟨n, hn⟩ := pushRx_enters h r
    rw [hn]
    split
    · exact ctrGet_spillsCounted hj hne n _
    · exact ctrGet_spillsCounted hj hne n _

theorem isDry_congr (h : t.pld = s.pld) (p : Polder) : isDry t p = isDry s p := by
  unfold isDry
  rw [h]

/-- A record that has arrived from a state with the same polders stays the newest while its queue does. -/
theorem arrived_of_same {r : RxRecord} {v : State} (h : arrived p r u v) (hu : u.pld = s.pld) (ht : t.lnk.rxq = v.lnk.rxq) : arrived p r s t := by
  unfold arrived at *
  rw [← isDry_congr hu, ht]
  exact h

/-! ### The record of an authenticated frame (10_tag_link R258, R265, R273) -/

theorem deliver_none {a : PendingAck} (h : a.record = none) (sent : Bool) (s : State) : deliver a sent s = s := by
  unfold deliver
  rw [h]

/-- The polder's queue takes the record; a copy of a CLASS 0 frame goes to its host queue. -/
theorem deliver_eq {a : PendingAck} {r : RxRecord} (h : a.record = some r) (sent : Bool) (s : State) : deliver a sent s =
    if r.cls = 0 ∧ r.kind = 0 then (recP a.polder 0 1 (rxBytes { r with ack := sent }) (pushRx a.polder { r with ack := sent } s)).2
    else pushRx a.polder { r with ack := sent } s := by
  unfold deliver
  rw [h]

theorem only_recP (p : Polder) (cls src : Nat) (content : List Byte) (s : State) : only [.hst, .ctr] s (recP p cls src content s).2 :=
  Touches.only (touches_recP p cls src content) s

theorem ctrGet_recP {j : Nat} (h96 : j ≠ pHstOutSpill p) (h97 : j ≠ pHstC0Folds p) (cls src : Nat) (content : List Byte) (s : State) :
    ctrGet (recP p cls src content s).2 j = ctrGet s j := by
  have hadd : ∀ (n i : Nat) (t : State), j ≠ i → ctrGet (if n = 0 then t else ctrAdd i n t) j = ctrGet t j := fun n i t hi => by
    split
    · rfl
    · exact ctrGet_ctrAdd_ne _ _ _ hi t
  unfold recP
  split
  · rfl
  · exact (hadd _ _ _ h97).trans (hadd _ _ _ h96)

theorem deliver_lnk_some {a : PendingAck} {r : RxRecord} (h : a.record = some r) (sent : Bool) (s : State) :
    (deliver a sent s).lnk = (pushRx a.polder { r with ack := sent } s).lnk := by
  rw [deliver_eq h]
  split
  · exact (only_recP _ _ _ _ _).kept .lnk (by decide)
  · rfl

theorem deliver_lnk (a : PendingAck) (sent : Bool) (s : State) :
    (deliver a sent s).lnk = { s.lnk with ctx := (deliver a sent s).lnk.ctx, rxq := (deliver a sent s).lnk.rxq } := by
  cases h : a.record with
  | none => rw [deliver_none h]
  | some r => rw [deliver_lnk_some h]; exact pushRx_lnk _ _ _

theorem arrived_deliver {a : PendingAck} {r : RxRecord} (h : a.record = some r) (sent : Bool) (s : State) :
    arrived a.polder { r with ack := sent } s (deliver a sent s) :=
  arrived_of_same (arrived_pushRx _ _ s) rfl (by rw [deliver_lnk_some h])

/-- A delivery counts in RX_SPILL and in the two counts of the polder's host queue, in no other of the reports' counters. -/
theorem ctrGet_deliver {a : PendingAck} {j : Nat} (hj : reportFree j) (h22 : j ≠ pLnkRxSpill a.polder) (h96 : j ≠ pHstOutSpill a.polder)
    (h97 : j ≠ pHstC0Folds a.polder) (sent : Bool) (s : State) : ctrGet (deliver a sent s) j = ctrGet s j := by
  cases h : a.record with
  | none => rw [deliver_none h]
  | some r =>
    rw [deliver_eq h]
    split
    · exact (ctrGet_recP h96 h97 _ _ _ _).trans (ctrGet_pushRx hj h22 _ s)
    · exact ctrGet_pushRx hj h22 _ s

end Sys2Proof.Machine
end

section
/-!
SUPPORT. The start of a reception (10_tag_link R253–R255, R261, 11_radio_control R290): what a detected sync word leaves, by the first check that ends its frame.
-/

namespace Sys2Proof.Machine

variable {s : State} {ch : LinkChan} {f : SyncFrame}

/-- A channel detects this sync word: the receiver listens on it, and the word lies within its error and carrier limits (10_tag_link R253). -/
structure Detects (s : State) (ch : LinkChan) (f : SyncFrame) : Prop where
  receives : linkRx s (stSec s) = true
  enabled : cfgBAt s lnkChanEn ch.val = true
  silent : s.lnk.air = none
  free : s.lnk.rx[ch] = none
  path : s.rfc.seq = .rx
  errors : f.syncErrs ≤ cfgAt s lnkChanSyncErr ch.val
  carrier : 20 * f.afc.natAbs * 1000000 ≤ 60 * cfgAt s lnkChanFreq ch.val

/-- The channel's frame has ended for the alarm test. -/
def alarmQuiet (ch : LinkChan) (s : State) : State := { s with rfc := { s.rfc with alarmRx := s.rfc.alarmRx.set ch false } }

/-- Header bits 63:0 of a detected frame. -/
def headOf (f : SyncFrame) : Nat := f.header.toNat % 2 ^ 64

/-- ST of the frame's first chip. -/
def firstChip (s : State) (ch : LinkChan) : Rat := stNow s - preTime s ch.val

/-- The reception has begun for a polder. -/
def receiving (ch : LinkChan) (f : SyncFrame) (p : Polder) (s : State) : State := { s with lnk := { s.lnk with
  rx := s.lnk.rx.set ch (some ⟨headOf f, p, firstChip s ch, firstChip s ch + frameTime s ch.val (getBits (headOf f) 18 13), f.afc, f.rssi, f.syncErrs⟩) } }

/-- The header as R253 and R255 check it after its CRC: the polder's own slot, or the alarm that an alarm channel takes. -/
def headerChecked (ch : LinkChan) (f : SyncFrame) (s : State) : State :=
  match ctxOwner s (getBits (headOf f) 8 10) with
  | none => bump cLnkForeign (alarmQuiet ch s)
  | some p =>
    if (cfg s lnkCfgAlarmCh).testBit ch.val then
      (if getBits (headOf f) 0 4 = 3 ∧ getBits (headOf f) 4 2 = 0 ∧ alarmSlot (slotAt (firstChip s ch)).2 then receiving ch f p s else alarmQuiet ch s)
    else if slotOwner s (slotAt (firstChip s ch)).2 ≠ p.val then bump cLnkForeign (alarmQuiet ch s) else receiving ch f p s

/-- What a detected sync word leaves. -/
def detected (ch : LinkChan) (f : SyncFrame) (s : State) : State :=
  if metTransmission s (firstChip s ch) then blankFor (slotAt (firstChip s ch)).2 (alarmQuiet ch s)
  else if crc16 (leBytes 8 (headOf f)) ≠ getBits f.header.toNat 64 16 then bump cLnkHdrFail (alarmQuiet ch s)
  else if badHeader s ch.val (headOf f) then bump cLnkBadType (alarmQuiet ch s)
  else headerChecked ch f s

theorem exec_frameSyncDetect (h : Detects s ch f) : exec (.frameSyncDetect ch f) s = .next (detected ch f s) := by
  obtain ⟨hrx, hen, hair, hfree, hpath, herr, hafc⟩ := h
  show execFrameSyncDetect ch f s = _
  unfold execFrameSyncDetect
  rw [if_neg (by simp [hrx, hen, hair, hfree, hpath, not_lt.2 herr, not_lt.2 hafc])]
  unfold detected headerChecked receiving alarmQuiet firstChip headOf
  dsimp only
  cases ctxOwner s (getBits (f.header.toNat % 2 ^ 64) 8 10) <;> (dsimp only; (repeat' split) <;> rfl)

/-- A reception lost to a transmission counts for the slot's owner, if it has one. -/
theorem blankFor_eta (slot : Nat) (s : State) : blankFor slot s = { s with obs := (blankFor slot s).obs, ctr := (blankFor slot s).ctr } := by
  unfold blankFor
  split
  · exact bump_eta _ s
  · rfl

theorem counted_blankFor {slot : Nat} {p : Polder} (h : slotOwner s slot = p.val) : counted (pLnkRxBlanked p) s (blankFor slot s) := by
  have hlt : slotOwner s slot < 8 := by omega
  have hp : (⟨slotOwner s slot, hlt⟩ : Polder) = p := Fin.ext h
  unfold blankFor
  rw [dif_pos hlt, hp]
  exact counted_bump _ s

theorem detected_lost (h : metTransmission s (firstChip s ch) = true) : detected ch f s = blankFor (slotAt (firstChip s ch)).2 (alarmQuiet ch s) := if_pos h

theorem detected_badCrc (h : metTransmission s (firstChip s ch) = false) (hc : crc16 (leBytes 8 (headOf f)) ≠ getBits f.header.toNat 64 16) :
    detected ch f s = bump cLnkHdrFail (alarmQuiet ch s) := by
  unfold detected
  rw [h, if_neg (by decide), if_pos hc]

section
variable (h : metTransmission s (firstChip s ch) = false) (hc : crc16 (leBytes 8 (headOf f)) = getBits f.header.toNat 64 16)
include h hc

theorem detected_badHeader (hb : badHeader s ch.val (headOf f) = true) : detected ch f s = bump cLnkBadType (alarmQuiet ch s) := by
  unfold detected
  rw [h, if_neg (by decide), if_neg (not_not.2 hc), if_pos hb]

theorem detected_checked (hb : badHeader s ch.val (headOf f) = false) : detected ch f s = headerChecked ch f s := by
  unfold detected
  rw [h, if_neg (by decide), if_neg (not_not.2 hc), hb, if_neg (by decide)]

end

/-- An alarm that an alarm channel takes: ALARM of CLASS 0 in an alarm slot (10_tag_link R255). -/
def takesAlarm (s : State) (ch : LinkChan) (f : SyncFrame) : Prop :=
  getBits (headOf f) 0 4 = 3 ∧ getBits (headOf f) 4 2 = 0 ∧ alarmSlot (slotAt (firstChip s ch)).2 = true

section
variable {p : Polder}

theorem headerChecked_foreign (h : ctxOwner s (getBits (headOf f) 8 10) = none) : headerChecked ch f s = bump cLnkForeign (alarmQuiet ch s) := by
  unfold headerChecked
  rw [h]

variable (h : ctxOwner s (getBits (headOf f) 8 10) = some p)
include h

theorem headerChecked_alarm (ha : (cfg s lnkCfgAlarmCh).testBit ch.val = true) (ht : takesAlarm s ch f) : headerChecked ch f s = receiving ch f p s := by
  unfold headerChecked
  rw [h]
  exact (if_pos ha).trans (if_pos ht)

theorem headerChecked_noAlarm (ha : (cfg s lnkCfgAlarmCh).testBit ch.val = true) (ht : ¬ takesAlarm s ch f) : headerChecked ch f s = alarmQuiet ch s := by
  unfold headerChecked
  rw [h]
  exact (if_pos ha).trans (if_neg ht)

theorem headerChecked_slot (ha : (cfg s lnkCfgAlarmCh).testBit ch.val = false) : headerChecked ch f s =
    if slotOwner s (slotAt (firstChip s ch)).2 ≠ p.val then bump cLnkForeign (alarmQuiet ch s) else receiving ch f p s := by
  unfold headerChecked
  rw [h]
  exact if_neg (by rw [ha]; decide)

end

end Sys2Proof.Machine
end

section
/-!
SUPPORT. The end of a reception (10_tag_link R256–R258, R265, R269): the frame's checks, what an authenticated frame shows of its context and of the gateway, and
where its record goes.
-/

namespace Sys2Proof.Machine

variable {s : State} {ch : LinkChan} {r : Reception}

/-- Context, FC and TYPE of a reception's header (10_tag_link Table 10-2). -/
def Reception.ctx (r : Reception) : Nat := getBits r.header 8 10
@[inherit_doc Reception.ctx] def Reception.fc (r : Reception) : Nat := getBits r.header 32 32
@[inherit_doc Reception.ctx] def Reception.type (r : Reception) : Nat := getBits r.header 0 4

/-- The frame asks for an acknowledgement, as a DATA or a SNAP frame may. -/
def Reception.asks (r : Reception) : Bool := getBits r.header 6 1 == 1 && (r.type == 1 || r.type == 2)

/-- The channel is free again. -/
def rxEnded (ch : LinkChan) (s : State) : State :=
  { s with lnk := { s.lnk with rx := s.lnk.rx.set ch none }, rfc := { s.rfc with alarmRx := s.rfc.alarmRx.set ch false } }

/-- What a body says under the key of its context (10_tag_link R256). -/
def uplinkText (s : State) (r : Reception) (body : List Byte) : List Byte := ccmText (ctxGet s r.ctx).key (linkNonce s 0 r.ctx r.fc) body

/-- A frame's MIC is that of its context, which has a key (10_tag_link R256). -/
def authentic (s : State) (r : Reception) (body : List Byte) (mic : BitVec 64) : Prop :=
  (ctxGet s r.ctx).state ≠ .empty ∧ (ctxGet s r.ctx).key ≠ [] ∧ body.length = getBits r.header 18 13 ∧
    linkMic s 8 0 r.ctx r.fc (ctxGet s r.ctx).key (leBytes 8 r.header) (uplinkText s r body) = leBytes 8 mic.toNat

/-- A context has seen a later FC. -/
def replays (c : Ctx) (fc : Nat) : Bool := match c.lastFc with | some l => decide (fc < l) | none => false

/-- What every authenticated frame shows: its context alive, and the gateway not alone; a RETIRED context reports, a SILENT one is ACTIVE again. -/
def uplinkSeen (ch : LinkChan) (r : Reception) (s : State) : State :=
  if (ctxGet s r.ctx).state = .retired then noteRetired r.polder r.ctx r ch.val r.fc (bump (pLnkRetiredRx r.polder) (noteUplink r.ctx r s))
  else reactivate r.ctx r.last (noteUplink r.ctx r s)

/-- The frame's FC is its context's last. -/
def fcTaken (r : Reception) (s : State) : State := ctxMod r.ctx (fun c => { c with lastFc := some r.fc }) s

/-- The record of a frame (10_tag_link R273, Table 10-8). -/
def uplinkRecord (ch : LinkChan) (r : Reception) (text : List Byte) : RxRecord :=
  ⟨if r.type = 2 then 1 else 0, r.ctx, ch.val, r.type, getBits r.header 4 2, false, false, r.fc, stWord r.first, r.afc, r.rssi, r.syncErrs, 0, 0, 0,
    if r.type = 2 then text.take 20 else text⟩

/-- What the acknowledgement of a duplicate carries: nothing but itself. -/
def dupAck (r : Reception) : PendingAck := ⟨r.polder, r.ctx, r.fc, r.last, none, none, r⟩

/-- What the acknowledgement of a new frame carries: its record, and the snapshot of a SNAP frame. -/
def newAck (ch : LinkChan) (r : Reception) (text : List Byte) : PendingAck :=
  ⟨r.polder, r.ctx, r.fc, r.last, some (uplinkRecord ch r text), if r.type = 2 then some text else none, r⟩

/-- A new frame goes on, an alarm with its acknowledgement queued for the beacon. -/
def newTaken (ch : LinkChan) (r : Reception) (text : List Byte) (s : State) : State :=
  acceptFrame ch (newAck ch r text) r.asks (if r.type = 3 then pushAlarmAck r.ctx r.fc s else s)

/-- An authenticated frame's way after it has been seen, by what its context `c` was before. -/
def uplinkTaken (ch : LinkChan) (r : Reception) (text : List Byte) (c : Ctx) (s : State) : State :=
  if replays c r.fc then bump (pLnkReplay r.polder) s
  else if c.state = .retired then bumpIf (c.lastFc == some r.fc) (pLnkDupRx r.polder) (fcTaken r s)
  else if c.lastFc == some r.fc then acceptFrame ch (dupAck r) r.asks (bumpIf (c.lastFc == some r.fc) (pLnkDupRx r.polder) (fcTaken r s))
  else newTaken ch r text (bumpIf (c.lastFc == some r.fc) (pLnkDupRx r.polder) (fcTaken r s))

theorem exec_frameReceive_fails {body : List Byte} {mic : BitVec 64} (hr : s.lnk.rx[ch] = some r) (hlast : reached s r.last = true)
    (h : ¬ authentic s r body mic) : exec (.frameReceive ch body mic) s = .next (bump (pLnkAuthFail r.polder) (rxEnded ch s)) := by
  show execFrameReceive ch body mic s = _
  unfold execFrameReceive
  rw [hr]
  dsimp only
  rw [if_neg (by rw [hlast]; decide)]
  refine if_pos ?_
  contrapose! h
  exact h

theorem exec_frameReceive_takes {body : List Byte} {mic : BitVec 64} (hr : s.lnk.rx[ch] = some r) (hlast : reached s r.last = true)
    (h : authentic s r body mic) : exec (.frameReceive ch body mic) s =
      .next (uplinkTaken ch r (uplinkText s r body) (ctxGet s r.ctx) (uplinkSeen ch r (rxEnded ch s))) := by
  have hgood : ¬ ((ctxGet s r.ctx).state = .empty ∨ (ctxGet s r.ctx).key = [] ∨ body.length ≠ getBits r.header 18 13 ∨
      linkMic s 8 0 r.ctx r.fc (ctxGet s r.ctx).key (leBytes 8 r.header) (uplinkText s r body) ≠ leBytes 8 mic.toNat) := by
    simp only [not_or, ne_eq, not_not]
    exact h
  show execFrameReceive ch body mic s = _
  unfold execFrameReceive
  rw [hr]
  dsimp only
  rw [if_neg (by rw [hlast]; decide)]
  refine (if_neg hgood).trans ?_
  rw [← apply_ite Host.Outcome.next, ← apply_ite Host.Outcome.next, ← apply_ite Host.Outcome.next]
  rfl

/-! ### What comes after a frame is noted keeps what the note wrote -/

/-- Of a context what only the note of a frame, a key load and a launch write. -/
def lasting (c : Ctx) : Ctx := { c with state := .empty, lastFc := none, lost := false, liveAt := none, queue := [] }

/-- From `t` to `u` a context keeps what lasts, every other context all it has, and the link all but its queues. -/
structure Onward (k : Nat) (t u : State) : Prop where
  own : lasting (ctxGet u k) = lasting (ctxGet t k)
  others : ∀ j, j ≠ k → ctxGet u j = ctxGet t j
  link : u.lnk = { t.lnk with
    ctx := u.lnk.ctx, rxq := u.lnk.rxq, ackDue := u.lnk.ackDue, snapDue := u.lnk.snapDue, alarmAcks := u.lnk.alarmAcks }

namespace Onward

variable {k : Nat} {t u v : State}

theorem refl (k : Nat) (t : State) : Onward k t t := ⟨rfl, fun _ _ => rfl, rfl⟩

theorem trans (h : Onward k t u) (g : Onward k u v) : Onward k t v :=
  ⟨g.own.trans h.own, fun j hj => (g.others j hj).trans (h.others j hj), by rw [g.link, h.link]⟩

theorem key (h : Onward k t u) : (ctxGet u k).key = (ctxGet t k).key := by simpa only [lasting] using congrArg Ctx.key h.own

/-- A change of the queues. -/
theorem of_queues (hctx : u.lnk.ctx = t.lnk.ctx) (hlink : u.lnk = { t.lnk with
    ctx := u.lnk.ctx, rxq := u.lnk.rxq, ackDue := u.lnk.ackDue, snapDue := u.lnk.snapDue, alarmAcks := u.lnk.alarmAcks }) : Onward k t u :=
  ⟨congrArg lasting (ctxGet_congr hctx k), fun j _ => ctxGet_congr hctx j, hlink⟩

theorem of_same (h : u.lnk = t.lnk) : Onward k t u := of_queues (by rw [h]) (by rw [h])

theorem of_ctxMod {f : Ctx → Ctx} (hf : lasting (f (ctxGet t k)) = lasting (ctxGet t k)) (hkey : (ctxGet t k).key ≠ []) : Onward k t (ctxMod k f t) := by
  have hk : (f (ctxGet t k)).key = (ctxGet t k).key := by simpa only [lasting] using congrArg Ctx.key hf
  exact ⟨by rw [ctxGet_ctxMod (lands_of_key t (by rw [hk]; exact hkey)), hf], fun j hj => ctxGet_ctxMod_other hj f t, rfl⟩

theorem of_pushRx (p : Polder) {x : RxRecord} (hx : x.ctx = k) (hkey : (ctxGet t k).key ≠ []) : Onward k t (pushRx p x t) := by
  subst hx
  obtain ⟨l, hl⟩ := ctxGet_pushRx (p := p) (r := x) (lands_of_key t (c := { ctxGet t x.ctx with lost := false }) hkey)
  exact ⟨by rw [hl]; rfl, fun j hj => ctxGet_pushRx_other hj, (pushRx_lnk p x t).trans (by rw [pushRx_lnk])⟩

theorem of_deliver {a : PendingAck} (ha : ∀ x, a.record = some x → x.ctx = k) (sent : Bool) (hkey : (ctxGet t k).key ≠ []) :
    Onward k t (deliver a sent t) := by
  cases h : a.record with
  | none => rw [deliver_none h]; exact refl k t
  | some x =>
    exact (of_pushRx a.polder (x := { x with ack := sent }) (ha x h) hkey).trans (of_same (deliver_lnk_some h sent t))

end Onward

end Sys2Proof.Machine
end

section
/-!
SUPPORT. What an authenticated frame writes (10_tag_link R256–R258, R264, R265, R269, R270): its context, the queues it moves, and its counts.
-/

namespace Sys2Proof.Machine

variable {s t u : State} {ch : LinkChan} {r : Reception} {k : Nat}

/-! ### A frame goes on: acknowledged where it asks, else delivered (10_tag_link R257, R258) -/

/-- A pending acknowledgement names context `k` in its record, if it has one. -/
def PendingAck.names (a : PendingAck) (k : Nat) : Prop := ∀ x, a.record = some x → x.ctx = k

/-- A SNAP frame's answer is noted. -/
def snapQueued (ch : LinkChan) (a : PendingAck) (s : State) : State :=
  if a.snap.isSome then { s with lnk := { s.lnk with snapDue := s.lnk.snapDue.set ch (some a) } } else s

theorem snapQueued_lnk (ch : LinkChan) (a : PendingAck) (s : State) : (snapQueued ch a s).lnk = { s.lnk with
    snapDue := if a.snap.isSome then s.lnk.snapDue.set ch (some a) else s.lnk.snapDue } := by
  unfold snapQueued
  split <;> rfl

theorem only_snapQueued (ch : LinkChan) (a : PendingAck) (s : State) : only [.lnk] s (snapQueued ch a s) := by
  unfold snapQueued
  split
  · exact fun x => by cases x <;> simp [Part.same]
  · exact only_refl _ s

theorem acceptFrame_asks (ch : LinkChan) (a : PendingAck) (s : State) : acceptFrame ch a true s =
    { snapQueued ch a s with lnk := { (snapQueued ch a s).lnk with ackDue := (snapQueued ch a s).lnk.ackDue.set ch (some a) } } := rfl

theorem acceptFrame_silent (ch : LinkChan) (a : PendingAck) (s : State) : acceptFrame ch a false s = deliver a false (snapQueued ch a s) := rfl

/-- Of its context a delivery touches LOST only. -/
theorem ctxGet_deliver {a : PendingAck} (ha : a.names k) (sent : Bool) (hkey : (ctxGet t k).key ≠ []) :
    ∃ l, ctxGet (deliver a sent t) k = { ctxGet t k with lost := l } := by
  cases h : a.record with
  | none => exact ⟨_, by rw [deliver_none h]⟩
  | some x =>
    have hx := ha x h
    subst hx
    obtain ⟨l, hl⟩ := ctxGet_pushRx (p := a.polder) (r := { x with ack := sent }) (lands_of_key t (c := { ctxGet t x.ctx with lost := false }) hkey)
    exact ⟨l, (ctxGet_congr (congrArg LnkState.ctx (deliver_lnk_some h sent t)) x.ctx).trans hl⟩

theorem ctxGet_acceptFrame {a : PendingAck} (ha : a.names k) (asks : Bool) (hkey : (ctxGet t k).key ≠ []) :
    ∃ l, ctxGet (acceptFrame ch a asks t) k = { ctxGet t k with lost := l } := by
  have hsnap : ctxGet (snapQueued ch a t) k = ctxGet t k := ctxGet_congr (by rw [snapQueued_lnk]) k
  cases asks with
  | true => exact ⟨_, hsnap⟩
  | false =>
    obtain ⟨l, hl⟩ := ctxGet_deliver (t := snapQueued ch a t) ha false (by rw [hsnap]; exact hkey)
    exact ⟨l, by rw [acceptFrame_silent, hl, hsnap]⟩

theorem Onward.of_acceptFrame (c : LinkChan) {a : PendingAck} (ha : a.names k) (asks : Bool) (hkey : (ctxGet t k).key ≠ []) :
    Onward k t (acceptFrame c a asks t) := by
  have hsnap : Onward k t (snapQueued c a t) := .of_queues (by rw [snapQueued_lnk]) (by rw [snapQueued_lnk])
  cases asks with
  | true => exact hsnap.trans (.of_queues rfl rfl)
  | false => exact hsnap.trans (.of_deliver ha false (by rw [hsnap.key]; exact hkey))

/-- Of the link's queues a delivery moves the receive queues only. -/
theorem deliver_queues (a : PendingAck) (sent : Bool) (s : State) : (deliver a sent s).lnk.ackDue = s.lnk.ackDue ∧
    (deliver a sent s).lnk.snapDue = s.lnk.snapDue ∧ (deliver a sent s).lnk.alarmAcks = s.lnk.alarmAcks := by
  rw [deliver_lnk]
  exact ⟨rfl, rfl, rfl⟩

/-! ### An alarm's acknowledgement is queued for the beacon (10_tag_link R265) -/

theorem pushAlarmAck_lnk (c fc : Nat) (s : State) : (pushAlarmAck c fc s).lnk = { s.lnk with
    alarmAcks := (if 32 ≤ s.lnk.alarmAcks.length then s.lnk.alarmAcks.drop 1 else s.lnk.alarmAcks) ++ [(c, fc)] } :=
  ((only_bumpIf _ _ _).kept .lnk (by decide)).trans (by simp)

theorem only_pushAlarmAck (c fc : Nat) (s : State) : only [.lnk, .obs, .ctr] s (pushAlarmAck c fc s) :=
  Touches.only (touches_pushAlarmAck c fc) s

theorem counted_pushAlarmAck {c fc : Nat} (h : 32 ≤ s.lnk.alarmAcks.length) : counted cLnkAlarmAckSpill s (pushAlarmAck c fc s) :=
  counted_from rfl (counted_bumpIf (decide_eq_true h) cLnkAlarmAckSpill { s with lnk := { s.lnk with
    alarmAcks := (if 32 ≤ s.lnk.alarmAcks.length then s.lnk.alarmAcks.drop 1 else s.lnk.alarmAcks) ++ [(c, fc)] } })

/-! ### The frame is seen (10_tag_link R264, R269, R270) -/

theorem ctxGet_noteUplink (hkey : (ctxGet s r.ctx).key ≠ []) : ctxGet (noteUplink r.ctx r s) r.ctx =
    { ctxGet s r.ctx with lastRxSt := stWord r.first, rssi := r.rssi, rxCount := satInc (ctxGet s r.ctx).rxCount 1 } :=
  ctxGet_ctxMod (s := s) (f := fun c => { c with lastRxSt := stWord r.first, rssi := r.rssi, rxCount := satInc c.rxCount 1 }) (lands_of_key s hkey)

theorem ctxGet_noteUplink_other {j : Nat} (h : j ≠ r.ctx) : ctxGet (noteUplink r.ctx r s) j = ctxGet s j :=
  ctxGet_ctxMod_other h (fun c => { c with lastRxSt := stWord r.first, rssi := r.rssi, rxCount := satInc c.rxCount 1 }) s

/-- The record of a RETIRED context's liveness (10_tag_link R269). -/
def liveRecord (ch : LinkChan) (r : Reception) : RxRecord := { uplinkRecord ch r [] with kind := 3, payload := [] }

/-- The report of a RETIRED context is due. -/
def liveDue (s : State) (k : Nat) : Bool :=
  match (ctxGet s k).liveAt with | some t => decide (t + cfg s lnkCfgLiveS ≤ stNow s) | none => true

theorem noteRetired_eq (ch : LinkChan) (r : Reception) (s : State) : noteRetired r.polder r.ctx r ch.val r.fc s =
    if liveDue s r.ctx then pushRx r.polder (liveRecord ch r) (ctxMod r.ctx (fun c => { c with liveAt := some (stNow s) }) s) else s := rfl

theorem noteRetired_notDue (h : liveDue s r.ctx = false) : noteRetired r.polder r.ctx r ch.val r.fc s = s := by
  rw [noteRetired_eq, h]
  rfl

theorem noteRetired_due (h : liveDue s r.ctx = true) : noteRetired r.polder r.ctx r ch.val r.fc s =
    pushRx r.polder (liveRecord ch r) (ctxMod r.ctx (fun c => { c with liveAt := some (stNow s) }) s) := by
  rw [noteRetired_eq, if_pos h]

theorem Onward.of_noteRetired (hkey : (ctxGet s r.ctx).key ≠ []) : Onward r.ctx s (noteRetired r.polder r.ctx r ch.val r.fc s) := by
  cases h : liveDue s r.ctx with
  | false => rw [noteRetired_notDue h]; exact .refl _ s
  | true =>
    rw [noteRetired_due h]
    have hlive : Onward r.ctx s (ctxMod r.ctx (fun c => { c with liveAt := some (stNow s) }) s) := .of_ctxMod rfl hkey
    exact hlive.trans (.of_pushRx r.polder rfl (by rw [hlive.key]; exact hkey))

/-- A report of liveness leaves the context's state, FC and queue. -/
theorem ctxGet_noteRetired (hkey : (ctxGet s r.ctx).key ≠ []) :
    ∃ a l, ctxGet (noteRetired r.polder r.ctx r ch.val r.fc s) r.ctx = { ctxGet s r.ctx with liveAt := a, lost := l } := by
  cases h : liveDue s r.ctx with
  | false => exact ⟨_, _, by rw [noteRetired_notDue h]⟩
  | true =>
    rw [noteRetired_due h]
    have hlive : ctxGet (ctxMod r.ctx (fun c => { c with liveAt := some (stNow s) }) s) r.ctx = { ctxGet s r.ctx with liveAt := some (stNow s) } :=
      ctxGet_ctxMod (s := s) (f := fun c => { c with liveAt := some (stNow s) }) (lands_of_key s hkey)
    obtain ⟨l, hl⟩ := ctxGet_pushRx (p := r.polder) (r := liveRecord ch r) (s := ctxMod r.ctx (fun c => { c with liveAt := some (stNow s) }) s)
      (lands_of_key _ (c := { ctxGet (ctxMod r.ctx (fun c => { c with liveAt := some (stNow s) }) s) r.ctx with lost := false }) (by rw [hlive]; exact hkey))
    exact ⟨_, l, hl.trans (by rw [show (liveRecord ch r).ctx = r.ctx from rfl, hlive])⟩

/-- Of the link's queues a report of liveness moves the receive queues only. -/
theorem noteRetired_queues (ch : LinkChan) (r : Reception) (s : State) :
    (noteRetired r.polder r.ctx r ch.val r.fc s).lnk.ackDue = s.lnk.ackDue ∧ (noteRetired r.polder r.ctx r ch.val r.fc s).lnk.snapDue = s.lnk.snapDue ∧
      (noteRetired r.polder r.ctx r ch.val r.fc s).lnk.alarmAcks = s.lnk.alarmAcks := by
  cases h : liveDue s r.ctx with
  | false => rw [noteRetired_notDue h]; exact ⟨rfl, rfl, rfl⟩
  | true => rw [noteRetired_due h, pushRx_lnk]; exact ⟨rfl, rfl, rfl⟩

theorem ctrGet_noteRetired {j : Nat} (hj : reportFree j) (h22 : j ≠ pLnkRxSpill r.polder) :
    ctrGet (noteRetired r.polder r.ctx r ch.val r.fc s) j = ctrGet s j := by
  cases h : liveDue s r.ctx with
  | false => rw [noteRetired_notDue h]
  | true => rw [noteRetired_due h]; exact ctrGet_pushRx hj h22 _ _

/-- A context that is not RETIRED after a frame: ACTIVE if it was SILENT, and its held frames due again. -/
def reactivated (last : Rat) (c : Ctx) : Ctx :=
  if c.state = .silent then { c with state := .active, queue := c.queue.map fun d => { d with wait := .retry, retries := 0, lastChip := last } } else c

theorem reactivated_key (last : Rat) (c : Ctx) : (reactivated last c).key = c.key := by unfold reactivated; split <;> rfl

theorem reactivated_lastFc (last : Rat) (c : Ctx) : (reactivated last c).lastFc = c.lastFc := by unfold reactivated; split <;> rfl

theorem reactivated_lasting (last : Rat) (c : Ctx) : lasting (reactivated last c) = lasting c := by unfold reactivated; split <;> rfl

theorem reactivated_state {c : Ctx} (last : Rat) (he : c.state ≠ .empty) (hr : c.state ≠ .retired) : (reactivated last c).state = .active := by
  unfold reactivated
  cases hs : c.state with
  | empty => exact absurd hs he
  | retired => exact absurd hs hr
  | active => rw [if_neg (by decide)]; exact hs
  | silent => rfl

theorem ctxGet_reactivate (last : Rat) (hkey : (ctxGet s k).key ≠ []) : ctxGet (reactivate k last s) k = reactivated last (ctxGet s k) :=
  ctxGet_ctxMod (s := s) (f := reactivated last) (lands_of_key s (by rw [reactivated_key]; exact hkey))

theorem Onward.of_reactivate (last : Rat) (hkey : (ctxGet s k).key ≠ []) : Onward k s (reactivate k last s) :=
  .of_ctxMod (reactivated_lasting last _) hkey

theorem ctxGet_fcTaken (hkey : (ctxGet s r.ctx).key ≠ []) : ctxGet (fcTaken r s) r.ctx = { ctxGet s r.ctx with lastFc := some r.fc } :=
  ctxGet_ctxMod (s := s) (f := fun c => { c with lastFc := some r.fc }) (lands_of_key s hkey)

theorem Onward.of_fcTaken (hkey : (ctxGet s r.ctx).key ≠ []) : Onward r.ctx s (fcTaken r s) := .of_ctxMod rfl hkey

end Sys2Proof.Machine
end

section
/-!
SUPPORT. An authenticated frame is seen, and then taken by what its context was before (10_tag_link R257, R258, R265, R269).
-/

namespace Sys2Proof.Machine

variable {s t u : State} {ch : LinkChan} {r : Reception} {c : Ctx} {text : List Byte}

/-! ### The frame is seen -/

theorem uplinkSeen_of_retired (h : (ctxGet s r.ctx).state = .retired) :
    uplinkSeen ch r s = noteRetired r.polder r.ctx r ch.val r.fc (bump (pLnkRetiredRx r.polder) (noteUplink r.ctx r s)) := if_pos h

theorem uplinkSeen_of_awake (h : (ctxGet s r.ctx).state ≠ .retired) : uplinkSeen ch r s = reactivate r.ctx r.last (noteUplink r.ctx r s) := if_neg h

/-- The count of a RETIRED context's frame leaves its context. -/
theorem ctxGet_retiredCounted (s : State) (k : Nat) : ctxGet (bump (pLnkRetiredRx r.polder) s) k = ctxGet s k :=
  ctxGet_congr (congrArg LnkState.ctx (bump_lnk _ s)) k

theorem uplinkSeen_queues (ch : LinkChan) (r : Reception) (s : State) : (uplinkSeen ch r s).lnk.ackDue = s.lnk.ackDue ∧
    (uplinkSeen ch r s).lnk.snapDue = s.lnk.snapDue ∧ (uplinkSeen ch r s).lnk.alarmAcks = s.lnk.alarmAcks := by
  by_cases h : (ctxGet s r.ctx).state = .retired
  · rw [uplinkSeen_of_retired h]
    obtain ⟨hack, hsnap, halarm⟩ := noteRetired_queues ch r (bump (pLnkRetiredRx r.polder) (noteUplink r.ctx r s))
    rw [hack, hsnap, halarm, bump_lnk]
    exact ⟨rfl, rfl, rfl⟩
  · rw [uplinkSeen_of_awake h]
    exact ⟨rfl, rfl, rfl⟩

/-- What is seen of a frame counts in RETIRED_RX and RX_SPILL only. -/
theorem ctrGet_uplinkSeen {j : Nat} (hj : reportFree j) (h19 : j ≠ pLnkRetiredRx r.polder) (h22 : j ≠ pLnkRxSpill r.polder) :
    ctrGet (uplinkSeen ch r s) j = ctrGet s j := by
  by_cases h : (ctxGet s r.ctx).state = .retired
  · rw [uplinkSeen_of_retired h, ctrGet_noteRetired hj h22, ctrGet_bump_free hj h19]
    rfl
  · rw [uplinkSeen_of_awake h]
    rfl

theorem counted_uplinkSeen (h : (ctxGet s r.ctx).state = .retired) : counted (pLnkRetiredRx r.polder) s (uplinkSeen ch r s) := by
  rw [uplinkSeen_of_retired h]
  exact counted_of_same (counted_bump _ (noteUplink r.ctx r s)) rfl (ctrGet_noteRetired (reportFree_pol _ _) (polCounter_ne (by decide) _))

/-- A frame of a context that is not RETIRED moves nothing but the link, and no queue of it. -/
theorem uplinkSeen_awake (h : (ctxGet s r.ctx).state ≠ .retired) :
    uplinkSeen ch r s = { s with lnk := { s.lnk with ctx := (uplinkSeen ch r s).lnk.ctx, lone := false, quietBeacons := 0 } } := by
  rw [uplinkSeen_of_awake h]
  rfl

section
variable (hkey : (ctxGet s r.ctx).key ≠ [])
include hkey

theorem noteUplink_key : (ctxGet (noteUplink r.ctx r s) r.ctx).key ≠ [] := by
  rw [ctxGet_noteUplink hkey]
  exact hkey

theorem retiredCounted_key : (ctxGet (bump (pLnkRetiredRx r.polder) (noteUplink r.ctx r s)) r.ctx).key ≠ [] := by
  rw [ctxGet_retiredCounted]
  exact noteUplink_key hkey

theorem onward_uplinkSeen : Onward r.ctx (noteUplink r.ctx r s) (uplinkSeen ch r s) := by
  by_cases h : (ctxGet s r.ctx).state = .retired
  · rw [uplinkSeen_of_retired h]
    exact (Onward.of_same (bump_lnk _ _)).trans (.of_noteRetired (retiredCounted_key hkey))
  · rw [uplinkSeen_of_awake h]
    exact .of_reactivate r.last (noteUplink_key hkey)

theorem uplinkSeen_lastFc : (ctxGet (uplinkSeen ch r s) r.ctx).lastFc = (ctxGet s r.ctx).lastFc := by
  by_cases h : (ctxGet s r.ctx).state = .retired
  · obtain ⟨a, l, hal⟩ := ctxGet_noteRetired (ch := ch) (retiredCounted_key hkey)
    rw [uplinkSeen_of_retired h, hal, ctxGet_retiredCounted, ctxGet_noteUplink hkey]
  · rw [uplinkSeen_of_awake h, ctxGet_reactivate _ (noteUplink_key hkey), reactivated_lastFc, ctxGet_noteUplink hkey]

theorem uplinkSeen_retired_state (h : (ctxGet s r.ctx).state = .retired) : (ctxGet (uplinkSeen ch r s) r.ctx).state = .retired := by
  obtain ⟨a, l, hal⟩ := ctxGet_noteRetired (ch := ch) (retiredCounted_key hkey)
  rw [uplinkSeen_of_retired h, hal, ctxGet_retiredCounted, ctxGet_noteUplink hkey]
  exact h

theorem uplinkSeen_awake_state (he : (ctxGet s r.ctx).state ≠ .empty) (h : (ctxGet s r.ctx).state ≠ .retired) :
    (ctxGet (uplinkSeen ch r s) r.ctx).state = .active := by
  rw [uplinkSeen_of_awake h, ctxGet_reactivate _ (noteUplink_key hkey), ctxGet_noteUplink hkey]
  exact reactivated_state _ he h

/-- The report of liveness is due as the context before the frame says. -/
theorem liveDue_retiredCounted : liveDue (bump (pLnkRetiredRx r.polder) (noteUplink r.ctx r s)) r.ctx = liveDue s r.ctx := by
  have hcfg : cfg (bump (pLnkRetiredRx r.polder) (noteUplink r.ctx r s)) = cfg s := cfg_congr ((only_bump _ _).kept .boot (by decide))
  have hst : stNow (bump (pLnkRetiredRx r.polder) (noteUplink r.ctx r s)) = stNow s := stNow_congr (bump_sky _ _)
  unfold liveDue
  rw [ctxGet_retiredCounted, ctxGet_noteUplink hkey, hcfg, hst]

theorem uplinkSeen_reported (h : (ctxGet s r.ctx).state = .retired) {l : Rat} (hl : (ctxGet s r.ctx).liveAt = some l)
    (hwait : stNow s < l + cfg s lnkCfgLiveS) : (uplinkSeen ch r s).lnk.rxq = s.lnk.rxq := by
  have hdue : liveDue (bump (pLnkRetiredRx r.polder) (noteUplink r.ctx r s)) r.ctx = false := by
    rw [liveDue_retiredCounted hkey, liveDue, hl]
    exact decide_eq_false (not_le.2 hwait)
  rw [uplinkSeen_of_retired h, noteRetired_notDue hdue, bump_lnk]
  rfl

theorem uplinkSeen_reports (h : (ctxGet s r.ctx).state = .retired) (hl : (ctxGet s r.ctx).liveAt = none) :
    arrived r.polder (liveRecord ch r) s (uplinkSeen ch r s) := by
  have hdue : liveDue (bump (pLnkRetiredRx r.polder) (noteUplink r.ctx r s)) r.ctx = true := by
    rw [liveDue_retiredCounted hkey, liveDue, hl]
  have hpld : (bump (pLnkRetiredRx r.polder) (noteUplink r.ctx r s)).pld = s.pld := (only_bump _ (noteUplink r.ctx r s)).kept .pld (by decide)
  rw [uplinkSeen_of_retired h, noteRetired_due hdue]
  exact arrived_of_same (arrived_pushRx _ _ _) ((ctxMod_pld _ _ _).trans hpld) rfl

end

/-! ### The frame is taken -/

/-- The frame's FC is taken, and a duplicate counts. -/
def fcNoted (r : Reception) (c : Ctx) (s : State) : State := bumpIf (c.lastFc == some r.fc) (pLnkDupRx r.polder) (fcTaken r s)

theorem fcNoted_lnk (r : Reception) (c : Ctx) (s : State) : (fcNoted r c s).lnk = (fcTaken r s).lnk := (only_bumpIf _ _ _).kept .lnk (by decide)

theorem fcNoted_ctx (hkey : (ctxGet u r.ctx).key ≠ []) : ctxGet (fcNoted r c u) r.ctx = { ctxGet u r.ctx with lastFc := some r.fc } :=
  (ctxGet_congr (congrArg LnkState.ctx (fcNoted_lnk r c u)) _).trans (ctxGet_fcTaken hkey)

theorem onward_fcNoted (hkey : (ctxGet u r.ctx).key ≠ []) : Onward r.ctx u (fcNoted r c u) := (Onward.of_fcTaken hkey).trans (.of_same (fcNoted_lnk r c u))

theorem fcNoted_new (h : c.lastFc ≠ some r.fc) (u : State) : fcNoted r c u = fcTaken r u := by
  unfold fcNoted bumpIf
  rw [if_neg (by simpa using h)]

theorem counted_fcNoted (h : c.lastFc = some r.fc) (u : State) : counted (pLnkDupRx r.polder) u (fcNoted r c u) :=
  counted_from rfl (counted_bumpIf (beq_iff_eq.2 h) _ (fcTaken r u))

theorem not_replays_of_dup (h : c.lastFc = some r.fc) : replays c r.fc = false := by
  unfold replays
  rw [h]
  exact decide_eq_false (lt_irrefl _)

theorem replays_iff (c : Ctx) (fc : Nat) : replays c fc = true ↔ ∃ l, c.lastFc = some l ∧ fc < l := by
  unfold replays
  cases c.lastFc with
  | none => simp
  | some l => exact decide_eq_true_iff.trans ⟨fun h => ⟨l, rfl, h⟩, fun ⟨_, h, hl⟩ => Option.some.inj h ▸ hl⟩

theorem uplinkTaken_replay (h : replays c r.fc = true) : uplinkTaken ch r text c u = bump (pLnkReplay r.polder) u := if_pos h

section
variable (h : replays c r.fc = false)
include h

theorem uplinkTaken_retired (hr : c.state = .retired) : uplinkTaken ch r text c u = fcNoted r c u :=
  (if_neg (by rw [h]; decide)).trans (if_pos hr)

theorem uplinkTaken_new (hr : c.state ≠ .retired) (hd : c.lastFc ≠ some r.fc) : uplinkTaken ch r text c u = newTaken ch r text (fcTaken r u) := by
  rw [← fcNoted_new hd]
  exact (if_neg (by rw [h]; decide)).trans ((if_neg hr).trans (if_neg (by simpa using hd)))

end

theorem uplinkTaken_dup (hr : c.state ≠ .retired) (hd : c.lastFc = some r.fc) :
    uplinkTaken ch r text c u = acceptFrame ch (dupAck r) r.asks (fcNoted r c u) :=
  (if_neg (by rw [not_replays_of_dup hd]; decide)).trans ((if_neg hr).trans (if_pos (beq_iff_eq.2 hd)))

/-- A duplicate is acknowledged where it asks and brings nothing else. -/
theorem acceptFrame_dup (ch : LinkChan) (r : Reception) (asks : Bool) (s : State) : acceptFrame ch (dupAck r) asks s =
    { s with lnk := { s.lnk with ackDue := if asks then s.lnk.ackDue.set ch (some (dupAck r)) else s.lnk.ackDue } } := by
  cases asks with
  | true => rfl
  | false => exact deliver_none (a := dupAck r) rfl false s

theorem dupAck_names (r : Reception) : (dupAck r).names r.ctx := fun _ h => nomatch h

theorem newAck_names (ch : LinkChan) (r : Reception) (text : List Byte) : (newAck ch r text).names r.ctx := fun _ h => Option.some.inj h ▸ rfl

/-- An alarm's acknowledgement is queued before the frame goes on. -/
def alarmNoted (r : Reception) (s : State) : State := if r.type = 3 then pushAlarmAck r.ctx r.fc s else s

theorem newTaken_eq (ch : LinkChan) (r : Reception) (text : List Byte) (s : State) :
    newTaken ch r text s = acceptFrame ch (newAck ch r text) r.asks (alarmNoted r s) := rfl

theorem alarmNoted_lnk (r : Reception) (s : State) : (alarmNoted r s).lnk = { s.lnk with alarmAcks := if r.type = 3 then
    (if 32 ≤ s.lnk.alarmAcks.length then s.lnk.alarmAcks.drop 1 else s.lnk.alarmAcks) ++ [(r.ctx, r.fc)] else s.lnk.alarmAcks } := by
  unfold alarmNoted
  by_cases h : r.type = 3
  · rw [if_pos h, if_pos h]; exact pushAlarmAck_lnk _ _ _
  · rw [if_neg h, if_neg h]

theorem only_alarmNoted (r : Reception) (s : State) : only [.lnk, .obs, .ctr] s (alarmNoted r s) := by
  unfold alarmNoted
  split
  · exact only_pushAlarmAck _ _ s
  · exact only_refl _ s

theorem onward_alarmNoted (r : Reception) (s : State) : Onward r.ctx s (alarmNoted r s) := .of_queues (by rw [alarmNoted_lnk]) (by rw [alarmNoted_lnk])

section
variable (hkey : (ctxGet u r.ctx).key ≠ [])
include hkey

theorem onward_uplinkTaken : Onward r.ctx u (uplinkTaken ch r text c u) := by
  have hfc : Onward r.ctx u (fcNoted r c u) := onward_fcNoted hkey
  cases h : replays c r.fc with
  | true => rw [uplinkTaken_replay h]; exact .of_same (bump_lnk _ u)
  | false =>
    by_cases hr : c.state = .retired
    · rw [uplinkTaken_retired h hr]; exact hfc
    · by_cases hd : c.lastFc = some r.fc
      · rw [uplinkTaken_dup hr hd]
        exact hfc.trans (.of_acceptFrame ch (dupAck_names r) r.asks (by rw [hfc.key]; exact hkey))
      · rw [uplinkTaken_new h hr hd, newTaken_eq, ← fcNoted_new hd]
        have halarm := hfc.trans (onward_alarmNoted r (fcNoted r c u))
        exact halarm.trans (.of_acceptFrame ch (newAck_names ch r text) r.asks (by rw [halarm.key]; exact hkey))

/-- Of its context a frame that is no replay takes the FC, and LOST may go. -/
theorem ctxGet_uplinkTaken (h : replays c r.fc = false) :
    ∃ l, ctxGet (uplinkTaken ch r text c u) r.ctx = { ctxGet u r.ctx with lastFc := some r.fc, lost := l } := by
  have hfc := fcNoted_ctx (c := c) hkey
  by_cases hr : c.state = .retired
  · exact ⟨_, by rw [uplinkTaken_retired h hr, hfc]⟩
  · by_cases hd : c.lastFc = some r.fc
    · refine ⟨(ctxGet u r.ctx).lost, ?_⟩
      rw [uplinkTaken_dup hr hd, acceptFrame_dup]
      exact hfc
    · rw [uplinkTaken_new h hr hd, newTaken_eq, ← fcNoted_new hd]
      have halarm : ctxGet (alarmNoted r (fcNoted r c u)) r.ctx = { ctxGet u r.ctx with lastFc := some r.fc } :=
        (ctxGet_congr (by rw [alarmNoted_lnk]) _).trans hfc
      obtain ⟨l, hl⟩ := ctxGet_acceptFrame (ch := ch) (newAck_names ch r text) r.asks (t := alarmNoted r (fcNoted r c u)) (by rw [halarm]; exact hkey)
      exact ⟨l, by rw [hl, halarm]⟩

theorem uplinkTaken_state : (ctxGet (uplinkTaken ch r text c u) r.ctx).state = (ctxGet u r.ctx).state := by
  cases h : replays c r.fc with
  | true => rw [uplinkTaken_replay h, ctxGet_congr (congrArg LnkState.ctx (bump_lnk _ u))]
  | false =>
    obtain ⟨l, hl⟩ := ctxGet_uplinkTaken (ch := ch) (text := text) hkey h
    rw [hl]

end

theorem uplinkTaken_replay_lnk (h : replays c r.fc = true) : (uplinkTaken ch r text c u).lnk = u.lnk := by
  rw [uplinkTaken_replay h, bump_lnk]

/-- A RETIRED context's frame moves no queue once it is seen. -/
theorem uplinkTaken_retired_lnk (hr : c.state = .retired) :
    (uplinkTaken ch r text c u).lnk = { u.lnk with ctx := (uplinkTaken ch r text c u).lnk.ctx } := by
  cases h : replays c r.fc with
  | true => rw [uplinkTaken_replay_lnk h]
  | false => rw [uplinkTaken_retired h hr, fcNoted_lnk]; rfl

theorem uplinkTaken_dup_lnk (hr : c.state ≠ .retired) (hd : c.lastFc = some r.fc) : (uplinkTaken ch r text c u).lnk = { u.lnk with
    ctx := (uplinkTaken ch r text c u).lnk.ctx, ackDue := if r.asks then u.lnk.ackDue.set ch (some (dupAck r)) else u.lnk.ackDue } := by
  rw [uplinkTaken_dup hr hd, acceptFrame_dup, fcNoted_lnk]
  rfl

/-- The retired count is settled when the frame is taken. -/
theorem ctrGet_uplinkTaken_retired (hr : c.state = .retired) :
    ctrGet (uplinkTaken ch r text c u) (pLnkRetiredRx r.polder) = ctrGet u (pLnkRetiredRx r.polder) := by
  cases h : replays c r.fc with
  | true => rw [uplinkTaken_replay h]; exact ctrGet_bump_free (reportFree_pol _ _) (polCounter_ne (by decide) _) u
  | false => rw [uplinkTaken_retired h hr]; exact ctrGet_bumpIf_free (reportFree_pol _ _) (polCounter_ne (by decide) _) _ (fcTaken r u)

theorem counted_uplinkTaken_dup (hd : c.lastFc = some r.fc) : counted (pLnkDupRx r.polder) u (uplinkTaken ch r text c u) := by
  by_cases hr : c.state = .retired
  · rw [uplinkTaken_retired (not_replays_of_dup hd) hr]
    exact counted_fcNoted hd u
  · rw [uplinkTaken_dup hr hd, acceptFrame_dup]
    exact counted_fcNoted hd u

/-! ### A new frame of a context that is not RETIRED -/

/-- A frame whose acknowledgement is due stands with it, its record undelivered. -/
theorem newTaken_lnk_asks (h : r.asks = true) (u : State) : (newTaken ch r text u).lnk = { u.lnk with
    ackDue := u.lnk.ackDue.set ch (some (newAck ch r text))
    snapDue := if (newAck ch r text).snap.isSome then u.lnk.snapDue.set ch (some (newAck ch r text)) else u.lnk.snapDue
    alarmAcks := (alarmNoted r u).lnk.alarmAcks } := by
  rw [newTaken_eq, h, acceptFrame_asks, snapQueued_lnk, alarmNoted_lnk]

/-- A frame that asks for none is delivered at once. -/
theorem newTaken_silent (h : r.asks = false) (u : State) :
    newTaken ch r text u = deliver (newAck ch r text) false (snapQueued ch (newAck ch r text) (alarmNoted r u)) := by
  rw [newTaken_eq, h, acceptFrame_silent]

theorem newTaken_queues (ch : LinkChan) (r : Reception) (text : List Byte) (u : State) :
    (newTaken ch r text u).lnk.ackDue = (if r.asks then u.lnk.ackDue.set ch (some (newAck ch r text)) else u.lnk.ackDue) ∧
    (newTaken ch r text u).lnk.snapDue = (if r.type = 2 then u.lnk.snapDue.set ch (some (newAck ch r text)) else u.lnk.snapDue) ∧
    (newTaken ch r text u).lnk.alarmAcks = (alarmNoted r u).lnk.alarmAcks := by
  have hsnap : ∀ v : Vector (Option PendingAck) 8,
      (if (newAck ch r text).snap.isSome then v.set ch (some (newAck ch r text)) else v) = if r.type = 2 then v.set ch (some (newAck ch r text)) else v := by
    intro v
    by_cases h : r.type = 2 <;> simp [newAck, h]
  cases h : r.asks with
  | true =>
    rw [newTaken_lnk_asks h]
    exact ⟨rfl, hsnap _, rfl⟩
  | false =>
    obtain ⟨hack, hdue, halarm⟩ := deliver_queues (newAck ch r text) false (snapQueued ch (newAck ch r text) (alarmNoted r u))
    rw [newTaken_silent h, hack, hdue, halarm, snapQueued_lnk, alarmNoted_lnk]
    exact ⟨rfl, hsnap _, rfl⟩

theorem arrived_newTaken (h : r.asks = false) (u : State) : arrived r.polder (uplinkRecord ch r text) u (newTaken ch r text u) := by
  rw [newTaken_silent h]
  refine arrived_of_same (arrived_deliver (a := newAck ch r text) rfl false _) ?_ rfl
  exact ((only_snapQueued ch _ _).kept .pld (by decide)).trans ((only_alarmNoted r u).kept .pld (by decide))

/-- Nothing after the queueing of an alarm's acknowledgement counts in ALARM_ACK_SPILL. -/
theorem counted_newTaken_spill (h3 : r.type = 3) (hfull : 32 ≤ u.lnk.alarmAcks.length) : counted cLnkAlarmAckSpill u (newTaken ch r text u) := by
  have halarm : counted cLnkAlarmAckSpill u (alarmNoted r u) := by
    unfold alarmNoted
    rw [if_pos h3]
    exact counted_pushAlarmAck hfull
  refine counted_of_same halarm rfl ?_
  have hsnap : ctrGet (snapQueued ch (newAck ch r text) (alarmNoted r u)) cLnkAlarmAckSpill = ctrGet (alarmNoted r u) cLnkAlarmAckSpill :=
    ctrGet_congr ((only_snapQueued ch _ _).kept .ctr (by decide)) _
  cases h : r.asks with
  | true => rw [newTaken_eq, h, acceptFrame_asks]; exact hsnap
  | false => rw [newTaken_silent h]; exact ((PolderSide.of_deliver _ _ _).common _ (by decide)).trans hsnap

end Sys2Proof.Machine
end

section
/-!
SUPPORT. The gateway's acknowledgement (10_tag_link R257, R258) and what goes on air with it.
-/

namespace Sys2Proof.Machine

variable {s : State} {ch : LinkChan} {a : PendingAck}

/-! ### Going on air (10_tag_link R251, 11_radio_control R299) -/

theorem blankReceptions_lnk (s : State) : (blankReceptions s).lnk = { s.lnk with rx := Vector.replicate 8 none } := by
  rw [blankReceptions_eq]
  exact foldl_relates (R := fun s t : State => t.lnk = s.lnk) (fun _ => rfl) (fun h k => k.trans h) countBlanked_lnk _ (dropReceptions s)

theorem goOnAir_lnk (e : Emission) (s : State) : (goOnAir e s).lnk = { s.lnk with rx := Vector.replicate 8 none, prep := none, air := some e } := by
  show { (blankReceptions s).lnk with prep := none, air := some e } = _
  rw [blankReceptions_lnk]

theorem goOnAir_seq (e : Emission) (s : State) : (goOnAir e s).rfc.seq = if cfgB s lnkCfgExtPa then .txe else .txi := rfl

/-! ### An acknowledgement closes (10_tag_link R257, R258) -/

/-- The acknowledgement of a channel is due no more. -/
def ackTaken (ch : LinkChan) (s : State) : State := { s with lnk := { s.lnk with ackDue := s.lnk.ackDue.set ch none } }

theorem closeAck_sent (h : s.lnk.ackDue[ch] = some a) : closeAck ch true s = deliver a true (ackTaken ch s) := by
  unfold closeAck
  rw [h]
  rfl

theorem closeAck_skipped (h : s.lnk.ackDue[ch] = some a) : closeAck ch false s = bump (pLnkAckSkip a.polder) (deliver a false (ackTaken ch s)) := by
  unfold closeAck
  rw [h]
  rfl

theorem closeAck_skipped_lnk (h : s.lnk.ackDue[ch] = some a) : (closeAck ch false s).lnk = (deliver a false (ackTaken ch s)).lnk := by
  rw [closeAck_skipped h, bump_lnk]

/-- A skipped acknowledgement: none is due, and what it acknowledged is delivered as not acknowledged and counted. -/
structure AckSkipped (ch : LinkChan) (a : PendingAck) (s t : State) : Prop where
  due : t.lnk.ackDue = s.lnk.ackDue.set ch none
  air : t.lnk.air = s.lnk.air
  counts : counted (pLnkAckSkip a.polder) s t
  delivered : ∀ r, a.record = some r → arrived a.polder { r with ack := false } s t

theorem ackSkipped_closeAck (h : s.lnk.ackDue[ch] = some a) : AckSkipped ch a s (closeAck ch false s) where
  due := by rw [closeAck_skipped_lnk h, deliver_lnk]; rfl
  air := by rw [closeAck_skipped_lnk h, deliver_lnk]; rfl
  counts := by
    rw [closeAck_skipped h]
    exact counted_of_same (counted_bump _ _)
      (ctrGet_deliver (reportFree_pol _ _) (polCounter_ne (by decide) _) (polCounter_ne (by decide) _) (polCounter_ne (by decide) _) false (ackTaken ch s)) rfl
  delivered r hr := arrived_of_same (arrived_deliver hr false (ackTaken ch s)) rfl (by rw [closeAck_skipped_lnk h])

/-- An emission in preparation that does not go is dropped with its request. -/
def prepDropped (s : State) : State := { s with lnk := { s.lnk with prep := none }, rfc := { s.rfc with req := false } }

theorem ackSkipped_prepDropped (h : s.lnk.ackDue[ch] = some a) : AckSkipped ch a s (closeAck ch false (prepDropped s)) :=
  have hdropped : AckSkipped ch a (prepDropped s) (closeAck ch false (prepDropped s)) := ackSkipped_closeAck h
  ⟨hdropped.due, hdropped.air, hdropped.counts, hdropped.delivered⟩

/-! ### Whether it goes on air -/

/-- When an acknowledgement has left the air. -/
def ackSpanEnd (s : State) (ch : LinkChan) (a : PendingAck) : Rat := a.last + 150 / 1000000 + ackTime s ch.val + tTail

/-- Nothing forbids the acknowledgement: no other reception, no launch and no awaited acknowledgement of the polder in its span, its slots the polder's, the
transmitter free (10_tag_link R258). -/
structure AckMay (s : State) (ch : LinkChan) (a : PendingAck) : Prop where
  alone : ∀ c : LinkChan, c ≠ ch → s.lnk.rx[c] = none
  launches : ∀ y ∈ launchCandidates s, y.1 = a.polder → ackSpanEnd s ch a ≤ (launchSpan s y.2.2.1.chan y.2.2.1.payload.length y.2.2.1.ackReq y.2.2.2).1 ∨
    (launchSpan s y.2.2.1.chan y.2.2.1.payload.length y.2.2.1.ackReq y.2.2.2).2 ≤ a.last
  awaited : ∀ x ∈ s.lnk.ctx, ctxOf s a.polder x.1 = true → ∀ d ∈ x.2.queue, d.wait = .ack → ackEnd s d ≤ a.last
  run : inRun s a.polder a.last (ackSpanEnd s ch a) = true
  transmits : linkTx s (stSec s) = true
  free : inhibited s = false
  air : s.lnk.air = none

/-- The model's test of the same. -/
def ackAllowed (s : State) (ch : LinkChan) (a : PendingAck) : Bool :=
  !((List.finRange 8).any fun c => c != ch && s.lnk.rx[c].isSome) &&
    !(((launchCandidates s).any fun y => y.1 == a.polder &&
        (decide ((launchSpan s y.2.2.1.chan y.2.2.1.payload.length y.2.2.1.ackReq y.2.2.2).1 < ackSpanEnd s ch a) &&
          decide (a.last < (launchSpan s y.2.2.1.chan y.2.2.1.payload.length y.2.2.1.ackReq y.2.2.2).2))) ||
      s.lnk.ctx.any fun x => ctxOf s a.polder x.1 && x.2.queue.any fun d => d.wait == .ack && decide (a.last < ackEnd s d)) &&
    inRun s a.polder a.last (ackSpanEnd s ch a) && linkTx s (stSec s) && !inhibited s && s.lnk.air.isNone

theorem ackAllowed_iff (s : State) (ch : LinkChan) (a : PendingAck) : ackAllowed s ch a = true ↔ AckMay s ch a := by
  have halone : ((List.finRange 8).any fun c => c != ch && s.lnk.rx[c].isSome) = false ↔ ∀ c : LinkChan, c ≠ ch → s.lnk.rx[c] = none := by
    simp [List.any_eq_false]
  have hlaunches : ((launchCandidates s).any fun y => y.1 == a.polder &&
      (decide ((launchSpan s y.2.2.1.chan y.2.2.1.payload.length y.2.2.1.ackReq y.2.2.2).1 < ackSpanEnd s ch a) &&
        decide (a.last < (launchSpan s y.2.2.1.chan y.2.2.1.payload.length y.2.2.1.ackReq y.2.2.2).2))) = false ↔
      ∀ y ∈ launchCandidates s, y.1 = a.polder → ackSpanEnd s ch a ≤ (launchSpan s y.2.2.1.chan y.2.2.1.payload.length y.2.2.1.ackReq y.2.2.2).1 ∨
        (launchSpan s y.2.2.1.chan y.2.2.1.payload.length y.2.2.1.ackReq y.2.2.2).2 ≤ a.last := by
    rw [List.any_eq_false]
    refine forall₂_congr fun y _ => ?_
    rw [Bool.and_eq_true, beq_iff_eq, Bool.and_eq_true, decide_eq_true_iff, decide_eq_true_iff, not_and, not_and_or, not_lt, not_lt]
  have hawaited : (s.lnk.ctx.any fun x => ctxOf s a.polder x.1 && x.2.queue.any fun d => d.wait == .ack && decide (a.last < ackEnd s d)) = false ↔
      ∀ x ∈ s.lnk.ctx, ctxOf s a.polder x.1 = true → ∀ d ∈ x.2.queue, d.wait = .ack → ackEnd s d ≤ a.last := by
    rw [List.any_eq_false]
    refine forall₂_congr fun x _ => ?_
    rw [Bool.and_eq_true, not_and, Bool.not_eq_true, List.any_eq_false]
    refine imp_congr_right fun _ => forall₂_congr fun d _ => ?_
    rw [Bool.and_eq_true, beq_iff_eq, decide_eq_true_iff, not_and, not_lt]
  unfold ackAllowed
  simp only [Bool.and_eq_true, Bool.not_eq_true', Bool.or_eq_false_iff, halone, hlaunches, hawaited, Option.isNone_iff_eq_none]
  exact ⟨fun ⟨⟨⟨⟨⟨h1, h2, h3⟩, h4⟩, h5⟩, h6⟩, h7⟩ => ⟨h1, h2, h3, h4, h5, h6, h7⟩, fun ⟨h1, h2, h3, h4, h5, h6, h7⟩ => ⟨⟨⟨⟨⟨h1, h2, h3⟩, h4⟩, h5⟩, h6⟩, h7⟩⟩

section
variable (hdue : s.lnk.ackDue[ch] = some a) (hlast : reached s (a.last + 150 / 1000000) = true)
include hdue hlast

theorem exec_gatewayAck : exec (.gatewayAck ch) s = .next (match s.lnk.prep with
    | some e =>
      if e.kind = .ack a.polder ch then
        (if ackAllowed s ch a && e.admitted.isSome then goOnAir e s else closeAck ch false (prepDropped s))
      else closeAck ch false s
    | none => closeAck ch false s) := by
  show execGatewayAck ch s = _
  unfold execGatewayAck
  rw [hdue]
  dsimp only
  rw [if_neg (by rw [hlast]; decide)]
  rfl

theorem exec_gatewayAck_goes {e : Emission} (hp : s.lnk.prep = some e) (hk : e.kind = .ack a.polder ch) (hadm : e.admitted ≠ none) (hmay : AckMay s ch a) :
    exec (.gatewayAck ch) s = .next (goOnAir e s) := by
  have hok : (ackAllowed s ch a && e.admitted.isSome) = true := by
    rw [(ackAllowed_iff s ch a).2 hmay, Bool.true_and, Option.isSome_iff_ne_none]
    exact hadm
  rw [exec_gatewayAck hdue hlast, hp]
  dsimp only
  rw [if_pos hk, if_pos hok]

theorem exec_gatewayAck_skips (h : s.lnk.prep = none ∨ (∃ e, s.lnk.prep = some e ∧ (e.kind ≠ .ack a.polder ch ∨ e.admitted = none)) ∨ ¬ AckMay s ch a) :
    completes (.gatewayAck ch) s (AckSkipped ch a s) := by
  have hskip : ∀ t, exec (.gatewayAck ch) s = .next t → t = closeAck ch false s ∨ t = closeAck ch false (prepDropped s) →
      completes (.gatewayAck ch) s (AckSkipped ch a s) := by
    rintro t ht (rfl | rfl)
    · exact ⟨_, ht, ackSkipped_closeAck hdue⟩
    · exact ⟨_, ht, ackSkipped_prepDropped hdue⟩
  refine hskip _ (exec_gatewayAck hdue hlast) ?_
  cases hp : s.lnk.prep with
  | none => exact .inl rfl
  | some e =>
    dsimp only
    by_cases hk : e.kind = .ack a.polder ch
    · have hno : ¬ (ackAllowed s ch a && e.admitted.isSome) = true := by
        rw [Bool.and_eq_true, ackAllowed_iff, Option.isSome_iff_ne_none]
        rintro ⟨hmay, hadm⟩
        rcases h with hnone | ⟨e', he', hne | hnone⟩ | hnot
        · rw [hp] at hnone; cases hnone
        · rw [hp] at he'; cases he'; exact hne hk
        · rw [hp] at he'; cases he'; exact hadm hnone
        · exact hnot hmay
      rw [if_pos hk, if_neg hno]
      exact .inr rfl
    · rw [if_neg hk]
      exact .inl rfl

end

end Sys2Proof.Machine
end

section
/-!
OBLIGATION. O44: an uplink is checked at its header and at its MIC, delivered or awaits its acknowledgement, and a reception in another polder's slot is cut.
-/

namespace Sys2Proof.Machine

variable {s t : State} {ch : LinkChan} {r : Reception}

theorem asks_iff (r : Reception) : r.asks = true ↔ getBits r.header 6 1 = 1 ∧ (getBits r.header 0 4 = 1 ∨ getBits r.header 0 4 = 2) := by
  simp [Reception.asks, Reception.type]

/-- What every authenticated frame shows of its context and of the gateway, whatever comes after it. -/
structure UplinkShown (r : Reception) (s t : State) : Prop where
  lastRx : (ctxGet t r.ctx).lastRxSt = stWord r.first
  rssi : (ctxGet t r.ctx).rssi = r.rssi
  rxCount : (ctxGet t r.ctx).rxCount = satInc (ctxGet s r.ctx).rxCount 1
  key : (ctxGet t r.ctx).key = (ctxGet s r.ctx).key
  downFc : (ctxGet t r.ctx).downFc = (ctxGet s r.ctx).downFc
  lone : t.lnk.lone = false
  beacons : t.lnk.quietBeacons = 0
  rx : t.lnk.rx = s.lnk.rx
  air : t.lnk.air = s.lnk.air
  others : ∀ j, j ≠ r.ctx → ctxGet t j = ctxGet s j

theorem uplinkShown_of_onward (hkey : (ctxGet s r.ctx).key ≠ []) (h : Onward r.ctx (noteUplink r.ctx r s) t) : UplinkShown r s t := by
  obtain ⟨hown, hothers, hlink⟩ := h
  rw [ctxGet_noteUplink hkey] at hown
  exact {
    lastRx := by simpa only [lasting] using congrArg Ctx.lastRxSt hown
    rssi := by simpa only [lasting] using congrArg Ctx.rssi hown
    rxCount := by simpa only [lasting] using congrArg Ctx.rxCount hown
    key := by simpa only [lasting] using congrArg Ctx.key hown
    downFc := by simpa only [lasting] using congrArg Ctx.downFc hown
    lone := by rw [hlink]; rfl
    beacons := by rw [hlink]; rfl
    rx := by rw [hlink]; rfl
    air := by rw [hlink]; rfl
    others := fun j hj => (hothers j hj).trans (ctxGet_noteUplink_other hj) }

variable {text : List Byte}

/-- What an authenticated frame leaves. -/
def uplinkDone (ch : LinkChan) (r : Reception) (text : List Byte) (s : State) : State := uplinkTaken ch r text (ctxGet s r.ctx) (uplinkSeen ch r s)

section
variable (hkey : (ctxGet s r.ctx).key ≠ [])
include hkey

theorem uplinkSeen_key : (ctxGet (uplinkSeen ch r s) r.ctx).key ≠ [] := by
  rw [(onward_uplinkSeen hkey).key]
  exact noteUplink_key hkey

theorem uplinkShown_uplinkDone : UplinkShown r s (uplinkDone ch r text s) :=
  uplinkShown_of_onward hkey ((onward_uplinkSeen hkey).trans (onward_uplinkTaken (uplinkSeen_key hkey)))

theorem uplinkDone_replay (h : replays (ctxGet s r.ctx) r.fc = true) :
    counted (pLnkReplay r.polder) s (uplinkDone ch r text s) ∧ (ctxGet (uplinkDone ch r text s) r.ctx).lastFc = (ctxGet s r.ctx).lastFc := by
  unfold uplinkDone
  rw [ctxGet_congr (congrArg LnkState.ctx (uplinkTaken_replay_lnk h)), uplinkTaken_replay h, uplinkSeen_lastFc hkey]
  exact ⟨counted_of_same (counted_bump _ _) (ctrGet_uplinkSeen (reportFree_pol _ _) (polCounter_ne (by decide) _) (polCounter_ne (by decide) _)) rfl, rfl⟩

theorem uplinkDone_lastFc (h : replays (ctxGet s r.ctx) r.fc = false) : (ctxGet (uplinkDone ch r text s) r.ctx).lastFc = some r.fc := by
  obtain ⟨l, hl⟩ := ctxGet_uplinkTaken (ch := ch) (text := text) (uplinkSeen_key (ch := ch) hkey) h
  rw [uplinkDone, hl]

theorem uplinkDone_state : (ctxGet (uplinkDone ch r text s) r.ctx).state = (ctxGet (uplinkSeen ch r s) r.ctx).state :=
  uplinkTaken_state (uplinkSeen_key hkey)

/-- A RETIRED context's frame counts, moves no queue but the receive queue, and that only where its report of liveness is due (10_tag_link R269). -/
theorem uplinkDone_retired (h : (ctxGet s r.ctx).state = .retired) :
    counted (pLnkRetiredRx r.polder) s (uplinkDone ch r text s) ∧ (ctxGet (uplinkDone ch r text s) r.ctx).state = .retired ∧
    (uplinkDone ch r text s).lnk.ackDue = s.lnk.ackDue ∧ (uplinkDone ch r text s).lnk.snapDue = s.lnk.snapDue ∧
    (uplinkDone ch r text s).lnk.alarmAcks = s.lnk.alarmAcks ∧
    ((∃ l, (ctxGet s r.ctx).liveAt = some l ∧ stNow s < l + cfg s lnkCfgLiveS) → (uplinkDone ch r text s).lnk.rxq = s.lnk.rxq) ∧
    ((ctxGet s r.ctx).liveAt = none → arrived r.polder (liveRecord ch r) s (uplinkDone ch r text s)) := by
  have hlnk : (uplinkDone ch r text s).lnk = { (uplinkSeen ch r s).lnk with ctx := (uplinkDone ch r text s).lnk.ctx } := uplinkTaken_retired_lnk h
  have hrxq : (uplinkDone ch r text s).lnk.rxq = (uplinkSeen ch r s).lnk.rxq := by rw [hlnk]
  obtain ⟨hack, hsnap, halarm⟩ := uplinkSeen_queues ch r s
  refine ⟨?_, ?_, ?_, ?_, ?_, ?_, ?_⟩
  · exact counted_of_same (counted_uplinkSeen h) rfl (ctrGet_uplinkTaken_retired h)
  · rw [uplinkDone_state hkey, uplinkSeen_retired_state hkey h]
  · rw [hlnk, ← hack]
  · rw [hlnk, ← hsnap]
  · rw [hlnk, ← halarm]
  · rintro ⟨l, hl, hwait⟩
    rw [hrxq, uplinkSeen_reported hkey h hl hwait]
  · exact fun hl => arrived_of_same (uplinkSeen_reports hkey h hl) rfl hrxq

theorem uplinkDone_active (he : (ctxGet s r.ctx).state ≠ .empty) (h : (ctxGet s r.ctx).state ≠ .retired) :
    (ctxGet (uplinkDone ch r text s) r.ctx).state = .active := by
  rw [uplinkDone_state hkey, uplinkSeen_awake_state hkey he h]

end

theorem uplinkDone_dup_counted (h : (ctxGet s r.ctx).lastFc = some r.fc) : counted (pLnkDupRx r.polder) s (uplinkDone ch r text s) :=
  counted_of_same (counted_uplinkTaken_dup h) (ctrGet_uplinkSeen (reportFree_pol _ _) (polCounter_ne (by decide) _) (polCounter_ne (by decide) _)) rfl

section
variable (h : (ctxGet s r.ctx).state ≠ .retired)
include h

theorem uplinkSeen_awake_queues : (uplinkSeen ch r s).lnk.rxq = s.lnk.rxq ∧ (uplinkSeen ch r s).lnk.ackDue = s.lnk.ackDue ∧
    (uplinkSeen ch r s).lnk.snapDue = s.lnk.snapDue ∧ (uplinkSeen ch r s).lnk.alarmAcks = s.lnk.alarmAcks := by
  rw [uplinkSeen_awake h]
  exact ⟨rfl, rfl, rfl, rfl⟩

theorem uplinkDone_replay_queues (hre : replays (ctxGet s r.ctx) r.fc = true) : (uplinkDone ch r text s).lnk.rxq = s.lnk.rxq ∧
    (uplinkDone ch r text s).lnk.ackDue = s.lnk.ackDue ∧ (uplinkDone ch r text s).lnk.snapDue = s.lnk.snapDue ∧
    (uplinkDone ch r text s).lnk.alarmAcks = s.lnk.alarmAcks := by
  unfold uplinkDone
  rw [uplinkTaken_replay_lnk hre]
  exact uplinkSeen_awake_queues h

theorem uplinkDone_dup_queues (hd : (ctxGet s r.ctx).lastFc = some r.fc) : (uplinkDone ch r text s).lnk.rxq = s.lnk.rxq ∧
    (uplinkDone ch r text s).lnk.snapDue = s.lnk.snapDue ∧ (uplinkDone ch r text s).lnk.alarmAcks = s.lnk.alarmAcks ∧
    (uplinkDone ch r text s).lnk.ackDue = if r.asks then s.lnk.ackDue.set ch (some (dupAck r)) else s.lnk.ackDue := by
  obtain ⟨hrxq, hack, hsnap, halarm⟩ := uplinkSeen_awake_queues (ch := ch) h
  unfold uplinkDone
  rw [uplinkTaken_dup_lnk h hd, ← hrxq, ← hack, ← hsnap, ← halarm]
  exact ⟨rfl, rfl, rfl, rfl⟩

section
variable (hre : replays (ctxGet s r.ctx) r.fc = false) (hd : (ctxGet s r.ctx).lastFc ≠ some r.fc)
include hre hd

theorem uplinkDone_new : uplinkDone ch r text s = newTaken ch r text (fcTaken r (uplinkSeen ch r s)) := uplinkTaken_new hre h hd

theorem uplinkDone_new_queues :
    (uplinkDone ch r text s).lnk.ackDue = (if r.asks then s.lnk.ackDue.set ch (some (newAck ch r text)) else s.lnk.ackDue) ∧
    (uplinkDone ch r text s).lnk.snapDue = (if r.type = 2 then s.lnk.snapDue.set ch (some (newAck ch r text)) else s.lnk.snapDue) ∧
    (uplinkDone ch r text s).lnk.alarmAcks = (if r.type = 3 then
      (if 32 ≤ s.lnk.alarmAcks.length then s.lnk.alarmAcks.drop 1 else s.lnk.alarmAcks) ++ [(r.ctx, r.fc)] else s.lnk.alarmAcks) := by
  obtain ⟨hack, hsnap, halarm⟩ := newTaken_queues ch r text (fcTaken r (uplinkSeen ch r s))
  rw [uplinkDone_new h hre hd, hack, hsnap, halarm, alarmNoted_lnk, uplinkSeen_awake h]
  exact ⟨rfl, rfl, rfl⟩

theorem uplinkDone_new_waits (hasks : r.asks = true) : (uplinkDone ch r text s).lnk.rxq = s.lnk.rxq := by
  rw [uplinkDone_new h hre hd, newTaken_lnk_asks hasks]
  exact (uplinkSeen_awake_queues h).1

theorem uplinkDone_new_arrived (hasks : r.asks = false) : arrived r.polder (uplinkRecord ch r text) s (uplinkDone ch r text s) := by
  rw [uplinkDone_new h hre hd]
  refine arrived_of_same (arrived_newTaken hasks _) ?_ rfl
  rw [uplinkSeen_awake h]
  rfl

theorem uplinkDone_new_spills (h3 : r.type = 3) (hfull : 32 ≤ s.lnk.alarmAcks.length) : counted cLnkAlarmAckSpill s (uplinkDone ch r text s) := by
  have hlen : 32 ≤ (fcTaken r (uplinkSeen ch r s)).lnk.alarmAcks.length := by
    obtain ⟨-, -, -, halarm⟩ := uplinkSeen_awake_queues (ch := ch) h
    show 32 ≤ (uplinkSeen ch r s).lnk.alarmAcks.length
    rw [halarm]
    exact hfull
  rw [uplinkDone_new h hre hd]
  refine counted_from ?_ (counted_newTaken_spill h3 hlen)
  rw [uplinkSeen_awake h]
  rfl

end

end

/-- Settles O44: the detection by the first check that ends the frame, the authenticated frame by what its context was before (`uplinkDone`), the
acknowledgement by the tests of its span (`AckMay`). -/
theorem uplinksReceivedAndAcknowledged : Obligations.UplinksReceivedAndAcknowledged := by
  unfold Obligations.UplinksReceivedAndAcknowledged
  refine ⟨?_, ?_, ?_, ?_, ?_⟩
  · intro s ch f w ctx first slot alarm quiet ended lost taken hrx hen hair hfree hpath herr hafc
    have hexec := exec_frameSyncDetect ⟨hrx, hen, hair, hfree, hpath, herr, hafc⟩
    have hended : ∀ i, detected ch f s = bump i (alarmQuiet ch s) → ended i := fun i h =>
      ⟨_, hexec, by rw [h]; exact counted_from rfl (counted_bump i (alarmQuiet ch s)), by rw [h]; exact bump_eta i (alarmQuiet ch s)⟩
    have htaken : ∀ p, detected ch f s = receiving ch f p s → taken p := fun p h => ⟨_, hexec, h⟩
    refine ⟨fun h => ⟨_, hexec, ?_⟩, fun h hc => hended _ (detected_badCrc h hc), fun h hc =>
      ⟨fun hb => hended _ (detected_badHeader h hc hb), fun hb => ⟨fun ho => ?_, fun p ho => ⟨fun ha ht => ?_, fun ha ht => ⟨_, hexec, ?_⟩, fun ha hs => ?_, fun ha hs => ?_⟩⟩⟩⟩
    · rw [detected_lost h]
      exact ⟨blankFor_eta _ _, fun p hp => counted_from rfl (counted_blankFor (s := alarmQuiet ch s) hp)⟩
    · exact hended _ ((detected_checked h hc hb).trans (headerChecked_foreign ho))
    · exact htaken p ((detected_checked h hc hb).trans (headerChecked_alarm ho ha ht))
    · exact (detected_checked h hc hb).trans (headerChecked_noAlarm ho ha ht)
    · exact hended _ ((detected_checked h hc hb).trans ((headerChecked_slot ho ha).trans (if_pos hs)))
    · exact htaken p ((detected_checked h hc hb).trans ((headerChecked_slot ho ha).trans (if_neg (not_not.2 hs))))
  · intro s ch body mic r hr hlast p type ctx fc c text good done asks replay record
    refine ⟨fun hbad => ⟨_, exec_frameReceive_fails hr hlast hbad, counted_from rfl (counted_bump _ (rxEnded ch s)), bump_eta _ _⟩, fun hgood => ?_⟩
    refine ⟨uplinkDone ch r text (rxEnded ch s), exec_frameReceive_takes hr hlast hgood, ?_⟩
    obtain ⟨hempty, hkey, -, -⟩ := hgood
    have hshown : UplinkShown r (rxEnded ch s) (uplinkDone ch r text (rxEnded ch s)) := uplinkShown_uplinkDone hkey
    have hreplay : replays c fc = true ↔ replay := replays_iff c fc
    have hfresh : ¬ replay → replays c fc = false := fun h => Bool.eq_false_iff.2 fun hre => h (hreplay.1 hre)
    have hasks : r.asks = true ↔ asks := asks_iff r
    refine ⟨hshown.lastRx, hshown.rssi, hshown.rxCount, hshown.key, hshown.downFc, hshown.lone, hshown.beacons, hshown.rx, hshown.air, hshown.others,
      fun hret => uplinkDone_retired (s := rxEnded ch s) hkey hret, fun hre => uplinkDone_replay (s := rxEnded ch s) hkey (hreplay.2 hre), fun hre =>
      uplinkDone_lastFc (s := rxEnded ch s) hkey (hfresh hre), fun hdup => uplinkDone_dup_counted (s := rxEnded ch s) hdup, fun hret =>
      ⟨uplinkDone_active (s := rxEnded ch s) hkey hempty hret, fun hre => uplinkDone_replay_queues (s := rxEnded ch s) hret (hreplay.2 hre), fun hdup => ?_,
        fun hre hnew => ?_⟩⟩
    · obtain ⟨hrxq, hsnap, halarm, hack⟩ := uplinkDone_dup_queues (s := rxEnded ch s) (ch := ch) (text := text) hret hdup
      exact ⟨hrxq, hsnap, halarm, hack.trans (if_congr hasks rfl rfl)⟩
    · have hno : replays c fc = false := hfresh hre
      obtain ⟨hack, hsnap, halarm⟩ := uplinkDone_new_queues (s := rxEnded ch s) (ch := ch) (text := text) hret hno hnew
      refine ⟨fun h => ⟨hack.trans (if_pos (hasks.2 h)), uplinkDone_new_waits (s := rxEnded ch s) hret hno hnew (hasks.2 h)⟩, fun h => ?_, hsnap, fun h3 => ?_, fun h3 =>
        halarm.trans (if_neg h3)⟩
      · have hsilent : r.asks = false := Bool.eq_false_iff.2 fun ha => h (hasks.1 ha)
        exact ⟨hack.trans (if_neg (by rw [hsilent]; decide)), uplinkDone_new_arrived (s := rxEnded ch s) hret hno hnew hsilent⟩
      · exact ⟨halarm.trans (if_pos h3), uplinkDone_new_spills (s := rxEnded ch s) hret hno hnew h3⟩
  · intro s ch r hr ha ho hp
    refine ⟨bump cLnkRxCut { s with lnk := { s.lnk with rx := s.lnk.rx.set ch none } }, ?_, ?_, ?_⟩
    · show execRxCut ch s = _
      unfold execRxCut
      rw [hr]
      exact if_pos ⟨ha, ho, hp⟩
    · exact counted_from rfl (counted_bump cLnkRxCut { s with lnk := { s.lnk with rx := s.lnk.rx.set ch none } })
    · exact bump_eta _ _
  · intro s ch a hdue hlast endT may
    have hmay : AckMay s ch a ↔ may :=
      ⟨fun ⟨h1, h2, h3, h4, h5, h6, h7⟩ => ⟨h1, h2, h3, h4, h5, h6, h7⟩, fun ⟨h1, h2, h3, h4, h5, h6, h7⟩ => ⟨h1, h2, h3, h4, h5, h6, h7⟩⟩
    refine ⟨fun e hp hk hadm hm => ⟨goOnAir e s, exec_gatewayAck_goes hdue hlast hp hk hadm (hmay.2 hm), ?_⟩, fun h => ?_⟩
    · dsimp only
      rw [goOnAir_lnk]
      exact ⟨rfl, rfl, rfl, rfl, goOnAir_seq e s⟩
    · obtain ⟨t, ht, hskip⟩ := exec_gatewayAck_skips hdue hlast (h.imp_right (Or.imp_right (mt hmay.1)))
      exact ⟨t, ht, hskip.due, hskip.air, hskip.counts, hskip.delivered⟩
  · intro s ch ha hen hslot hrx hair
    exact ⟨_, congrArg Host.Outcome.next (if_pos ⟨ha, hen, hslot, hrx, Option.isNone_iff_eq_none.2 hair⟩), rfl⟩

end Sys2Proof.Machine
end

section
/-!
SUPPORT. Downlinks (10_tag_link R266–R273, R279): what a change, a hold and the end of a frame leave of its context's queue, and what going on air leaves.
-/

namespace Sys2Proof.Machine

variable {s t u : State} {p : Polder} {k h : Nat} {d : Downlink}

/-! ### The queue of a context -/

/-- A queue with the frames of one handle changed. -/
def queueChanged (h : Nat) (f : Downlink → Downlink) (q : List Downlink) : List Downlink := q.map fun x => if x.handle = h then f x else x

theorem queue_ne_nil_of_find {f : Downlink → Bool} {q : List Downlink} (hd : q.find? f = some d) : q ≠ [] :=
  List.ne_nil_of_mem (List.mem_of_find?_eq_some hd)

theorem handle_of_find {q : List Downlink} (hd : (q.find? fun x => x.handle == h) = some d) : d.handle = h := by
  simpa using List.find?_some hd

theorem queueChanged_ne_nil {q : List Downlink} (hq : q ≠ []) (h : Nat) (f : Downlink → Downlink) : queueChanged h f q ≠ [] :=
  fun e => hq (List.map_eq_nil_iff.1 e)

theorem modDown_eq (k h : Nat) (f : Downlink → Downlink) (s : State) :
    modDown k h f s = ctxMod k (fun c => { c with queue := queueChanged h f c.queue }) s := by
  unfold modDown queueChanged
  simp only [beq_iff_eq]

theorem ctxGet_modDown {f : Downlink → Downlink} (hq : (ctxGet s k).queue ≠ []) :
    ctxGet (modDown k h f s) k = { ctxGet s k with queue := queueChanged h f (ctxGet s k).queue } := by
  rw [modDown_eq]
  exact ctxGet_ctxMod (s := s) (f := fun c => { c with queue := queueChanged h f c.queue }) (lands_of_queue s (queueChanged_ne_nil hq h f))

theorem ctxGet_modDown_other {j : Nat} (hj : j ≠ k) (f : Downlink → Downlink) : ctxGet (modDown k h f s) j = ctxGet s j :=
  ctxGet_ctxMod_other hj (fun c => { c with queue := c.queue.map fun d => if d.handle == h then f d else d }) s

theorem modDown_lnk (k h : Nat) (f : Downlink → Downlink) (s : State) : (modDown k h f s).lnk = { s.lnk with ctx := (modDown k h f s).lnk.ctx } := rfl

/-! ### A launch is held (10_tag_link R271) -/

/-- The state in which a held frame waits: a retry stays one. -/
def heldWait (d : Downlink) : Downlink := { d with wait := if d.wait = .retry then .retry else .held }

/-- A frame of a context is held, nothing on air or paid, and counted. -/
def Held (p : Polder) (k : Nat) (d : Downlink) (s t : State) : Prop :=
  t.lnk.air = s.lnk.air ∧ (ctxGet t k).downFc = (ctxGet s k).downFc ∧ t.pmu = s.pmu ∧ counted (pLnkTxHeld p) s t ∧
    (ctxGet t k).queue = queueChanged d.handle heldWait (ctxGet s k).queue

theorem holdDown_eq (p : Polder) (k h : Nat) (s : State) : holdDown p k h s = bump (pLnkTxHeld p) (modDown k h heldWait s) := rfl

theorem held_holdDown (hq : (ctxGet s k).queue ≠ []) : Held p k d s (holdDown p k d.handle s) := by
  have hctx : ctxGet (holdDown p k d.handle s) k = { ctxGet s k with queue := queueChanged d.handle heldWait (ctxGet s k).queue } := by
    rw [← ctxGet_modDown hq, holdDown_eq]
    exact ctxGet_congr (congrArg LnkState.ctx (bump_lnk _ _)) k
  refine ⟨?_, by rw [hctx], ?_, counted_bump _ (modDown k d.handle heldWait s), by rw [hctx]⟩
  · rw [holdDown_eq, bump_lnk]
    rfl
  · rw [holdDown_eq, bump_pmu]
    rfl

/-- A further count leaves a held frame held. -/
theorem Held.bumped {i : Nat} (h : Held p k d s t) (hi : pLnkTxHeld p ≠ i) : Held p k d s (bump i t) := by
  obtain ⟨hair, hfc, hpmu, hcount, hqueue⟩ := h
  have hctx : ctxGet (bump i t) k = ctxGet t k := ctxGet_congr (congrArg LnkState.ctx (bump_lnk i t)) k
  exact ⟨(congrArg LnkState.air (bump_lnk i t)).trans hair, by rw [hctx, hfc], (bump_pmu i t).trans hpmu,
    counted_of_same hcount rfl (ctrGet_bump_free (reportFree_pol _ _) hi t), by rw [hctx, hqueue]⟩

/-! ### A frame ends with an outcome (10_tag_link R273) -/

/-- A frame has left its context and its launch entry the scheduler, and its outcome is the newest record. -/
def Outcome (p : Polder) (k : Nat) (d : Downlink) (n : Nat) (s t : State) : Prop :=
  (ctxGet t k).queue = ((ctxGet s k).queue.filter fun x => x.handle != d.handle) ∧
    (∀ e ∈ t.sky.entries, ¬ (e.owner = p.val ∧ e.kind = 0 ∧ e.arg = d.handle)) ∧ arrived p (outcomeRecord k d n) s t

theorem not_mem_dropEntry (p : Polder) (h : Nat) (s : State) : ∀ e ∈ (dropEntry p h s).sky.entries, ¬ (e.owner = p.val ∧ e.kind = 0 ∧ e.arg = h) := by
  intro e he
  simpa [or_assoc, imp_iff_not_or] using (List.mem_filter.1 he).2

/-- The context without the frame. -/
theorem ctxGet_dropped (hw : ctxWf s) : ctxGet (dropEntry p d.handle (dropDown k d.handle s)) k =
    { ctxGet s k with queue := (ctxGet s k).queue.filter fun x => x.handle != d.handle } :=
  ctxGet_ctxMod (f := fun c => { c with queue := c.queue.filter fun x => x.handle != d.handle }) (.inl hw)

theorem ctxWf_dropped (hw : ctxWf s) : ctxWf (dropEntry p h (dropDown k h s)) :=
  ctxWf_ctxMod k (fun c => { c with queue := c.queue.filter fun x => x.handle != h }) hw

theorem finishDown_eq (p : Polder) (k : Nat) (d : Downlink) (n : Nat) (s : State) :
    finishDown p k d n s = pushRx p (outcomeRecord k d n) (dropEntry p d.handle (dropDown k d.handle s)) := rfl

/-- Of the finished frame's context the queue and LOST move only. -/
theorem ctxGet_finishDown (hw : ctxWf s) (n : Nat) : ∃ l, ctxGet (finishDown p k d n s) k =
    { ctxGet s k with queue := (ctxGet s k).queue.filter (fun x => x.handle != d.handle), lost := l } := by
  obtain ⟨l, hl⟩ := ctxGet_pushRx (p := p) (r := outcomeRecord k d n) (s := dropEntry p d.handle (dropDown k d.handle s)) (.inl (ctxWf_dropped hw))
  have hctx : ctxGet (dropEntry p d.handle (dropDown k d.handle s)) (outcomeRecord k d n).ctx = _ := ctxGet_dropped hw
  exact ⟨l, hl.trans (by rw [hctx])⟩

theorem ctxWf_finishDown (hw : ctxWf s) (n : Nat) : ctxWf (finishDown p k d n s) := ctxWf_pushRx _ (ctxWf_dropped hw)

theorem finishDown_lnk (p : Polder) (k : Nat) (d : Downlink) (n : Nat) (s : State) : (finishDown p k d n s).lnk =
    { s.lnk with ctx := (finishDown p k d n s).lnk.ctx, rxq := (finishDown p k d n s).lnk.rxq } := by
  rw [finishDown_eq, pushRx_lnk]
  rfl

theorem ctrGet_finishDown {j : Nat} (hj : reportFree j) (hne : j ≠ pLnkRxSpill p) (n : Nat) : ctrGet (finishDown p k d n s) j = ctrGet s j :=
  ctrGet_pushRx hj hne _ (dropEntry p d.handle (dropDown k d.handle s))

theorem pushRx_sky (r : RxRecord) (s : State) : (pushRx p r s).sky = s.sky := (PolderSide.of_pushRx p r s).frame.kept .sky (by decide)

theorem outcome_finishDown (hw : ctxWf s) (n : Nat) : Outcome p k d n s (finishDown p k d n s) := by
  obtain ⟨l, hl⟩ := ctxGet_finishDown (p := p) (k := k) (d := d) hw n
  refine ⟨by rw [hl], ?_, arrived_of_same (arrived_pushRx p (outcomeRecord k d n) (dropEntry p d.handle (dropDown k d.handle s))) rfl rfl⟩
  rw [finishDown_eq, pushRx_sky]
  exact not_mem_dropEntry p d.handle (dropDown k d.handle s)

/-- An outcome is one of every state with the same contexts and polders before it. -/
theorem Outcome.from {n : Nat} (h : Outcome p k d n u t) (hctx : u.lnk.ctx = s.lnk.ctx) (hpld : u.pld = s.pld) : Outcome p k d n s t := by
  obtain ⟨hqueue, hentries, harrived⟩ := h
  exact ⟨by rw [hqueue, ctxGet_congr hctx], hentries, arrived_of_same harrived hpld rfl⟩

/-! ### Going on air (10_tag_link R251) -/

theorem ctrGet_countBlanked {j : Nat} (hj : reportFree j) (hne : ∀ q : Polder, j ≠ pLnkRxBlanked q) (s : State) (r : Option Reception) :
    ctrGet (countBlanked s r) j = ctrGet s j := by
  cases r with
  | none => rfl
  | some r =>
    unfold countBlanked blankFor
    dsimp only
    split
    · exact ctrGet_bump_free hj (hne _) s
    · rfl

/-- Going on air counts in RX_BLANKED only. -/
theorem ctrGet_goOnAir {j : Nat} (hj : reportFree j) (hne : ∀ q : Polder, j ≠ pLnkRxBlanked q) (e : Emission) (s : State) :
    ctrGet (goOnAir e s) j = ctrGet s j := by
  show ctrGet (blankReceptions s) j = _
  rw [blankReceptions_eq]
  exact foldl_relates (R := fun s t : State => ctrGet t j = ctrGet s j) (fun _ => rfl) (fun h k => k.trans h) (fun s r => ctrGet_countBlanked hj hne s r) _
    (dropReceptions s)

theorem ctxGet_goOnAir (e : Emission) (s : State) (j : Nat) : ctxGet (goOnAir e s) j = ctxGet s j := ctxGet_congr (by rw [goOnAir_lnk]) j

end Sys2Proof.Machine
end

section
/-!
SUPPORT. The launch of a downlink (10_tag_link R266–R271, 15_power R390, R391): on air and paid for, or held, and the completion record of its entry.
-/

namespace Sys2Proof.Machine

variable {s t u : State} {p : Polder} {k h : Nat} {d : Downlink} {e : Emission} {q : Int}

/-- The emission in preparation is this launch, admitted, and nothing keeps it from the air. -/
def LaunchMay (s : State) (p : Polder) (k h : Nat) (e : Emission) (q : Int) : Prop :=
  s.lnk.prep = some e ∧ e.kind = .launch p k h ∧ e.admitted = some q ∧ linkTx s (stSec s) = true ∧ inhibited s = false ∧ s.lnk.air = none

/-- The frame as its queue holds it on air, with its FC and one attempt more. -/
def onAirDown (fc st : Nat) (d : Downlink) : Downlink :=
  { d with wait := .onAir, fc := fc, attempts := d.attempts + 1, retries := d.retries + 1, lastSt := st }

/-- A frame is on air: charged, with its context's next FC, and an attempt counted. -/
def Launched (p : Polder) (k : Nat) (d : Downlink) (e : Emission) (q : Int) (s t : State) : Prop :=
  t.lnk.air = some { e with frame := downFrame s k (ctxGet s k) d } ∧ t.lnk.prep = none ∧ t.pmu = (charge p (txCharge s q e.dur) s).pmu ∧
    t.rfc.seq = (if cfgB s lnkCfgExtPa then .txe else .txi) ∧ t.lnk.rx = Vector.replicate 8 none ∧
    (∀ j, j ≠ k → ctxGet t j = ctxGet s j) ∧ (ctxGet t k).downFc = ((ctxGet s k).downFc + 1) % 2 ^ 32 ∧ (ctxGet t k).state = (ctxGet s k).state ∧
    (ctxGet t k).queue = queueChanged d.handle (onAirDown (ctxGet s k).downFc (stWord (stNow s))) (ctxGet s k).queue ∧
    (0 < d.retries → counted (pLnkTxRetries p) s t)

/-- The preparation is over. -/
def prepTaken (s : State) : State := { s with lnk := { s.lnk with prep := none } }

/-- The frame goes on air, paid for. -/
def airedDown (p : Polder) (k : Nat) (d : Downlink) (e : Emission) (q : Int) (s : State) : State :=
  goOnAir { e with frame := downFrame s k (ctxGet s k) d } (charge p (txCharge s q e.dur) (prepTaken s))

/-- The context's next FC is taken. -/
def fcSpent (k : Nat) (s : State) : State := ctxMod k (fun c => { c with downFc := (c.downFc + 1) % 2 ^ 32 }) s

/-- What a launch leaves. -/
def launchedDown (p : Polder) (k : Nat) (d : Downlink) (e : Emission) (q : Int) (s : State) : State :=
  bumpIf (decide (0 < d.retries)) (pLnkTxRetries p)
    (modDown k d.handle (onAirDown (ctxGet s k).downFc (stWord (stNow s))) (fcSpent k (airedDown p k d e q s)))

/-! ### The cases of a launch -/

section
variable (hd : ((ctxGet s k).queue.find? fun x => x.handle == h) = some d)
include hd

section
variable (hmay : LaunchMay s p k h e q)
include hmay

/-- An admitted launch is paid for, or held. -/
theorem launchDown_admitted : launchDown p k h s =
    if creditOk s p (txCharge s q e.dur) = false then bump (pLnkCreditHeld p) (holdDown p k h (prepTaken s)) else launchedDown p k d e q s := by
  obtain ⟨hprep, hkind, hadm, htx, hinh, hair⟩ := hmay
  have hmine : (e.kind == .launch p k h) = true := beq_iff_eq.2 hkind
  have hgate : (if (e.kind == .launch p k h && linkTx s (stSec s) && !inhibited s && s.lnk.air.isNone) = true then e.admitted else none) = some q := by
    rw [if_pos (by simp [hmine, htx, hinh, hair]), hadm]
  have hh := handle_of_find hd
  subst hh
  unfold launchDown
  rw [hd]
  dsimp only
  rw [hprep]
  dsimp only
  rw [hgate, if_pos hmine]
  rfl

theorem launchDown_goes (hpay : creditOk s p (txCharge s q e.dur) = true) : launchDown p k h s = launchedDown p k d e q s :=
  (launchDown_admitted hd hmay).trans (if_neg (by rw [hpay]; decide))

theorem launchDown_short (hpay : creditOk s p (txCharge s q e.dur) = false) :
    launchDown p k h s = bump (pLnkCreditHeld p) (holdDown p k h (prepTaken s)) :=
  (launchDown_admitted hd hmay).trans (if_pos hpay)

end

theorem launchDown_holds (hno : ¬ ∃ e q, LaunchMay s p k h e q) : launchDown p k h s = holdDown p k h s ∨ launchDown p k h s = holdDown p k h (prepTaken s) := by
  unfold launchDown
  rw [hd]
  dsimp only
  cases hprep : s.lnk.prep with
  | none => exact .inl rfl
  | some e =>
    have hadm : (if (e.kind == .launch p k h && linkTx s (stSec s) && !inhibited s && s.lnk.air.isNone) = true then e.admitted else none) = none := by
      split
      · next hgo =>
        simp only [Bool.and_eq_true, beq_iff_eq, Bool.not_eq_true', Option.isNone_iff_eq_none] at hgo
        obtain ⟨⟨⟨hkind, htx⟩, hinh⟩, hair⟩ := hgo
        cases hq : e.admitted with
        | none => rfl
        | some q => exact absurd ⟨e, q, hprep, hkind, hq, htx, hinh, hair⟩ hno
      · rfl
    dsimp only
    rw [hadm]
    dsimp only
    split
    · exact .inr rfl
    · exact .inl rfl

end

/-! ### What they leave -/

theorem ctxGet_airedDown (p : Polder) (k : Nat) (d : Downlink) (e : Emission) (q : Int) (s : State) (j : Nat) :
    ctxGet (airedDown p k d e q s) j = ctxGet s j := ctxGet_goOnAir _ _ j

section
variable (hq : (ctxGet s k).queue ≠ [])
include hq

theorem ctxGet_fcSpent : ctxGet (fcSpent k s) k = { ctxGet s k with downFc := ((ctxGet s k).downFc + 1) % 2 ^ 32 } :=
  ctxGet_ctxMod (f := fun c => { c with downFc := (c.downFc + 1) % 2 ^ 32 }) (lands_of_queue s hq)

theorem ctxGet_launchedDown : ctxGet (launchedDown p k d e q s) k = { ctxGet s k with
    downFc := ((ctxGet s k).downFc + 1) % 2 ^ 32
    queue := queueChanged d.handle (onAirDown (ctxGet s k).downFc (stWord (stNow s))) (ctxGet s k).queue } := by
  have haired : ctxGet (airedDown p k d e q s) k = ctxGet s k := ctxGet_airedDown p k d e q s k
  have hspent := ctxGet_fcSpent (s := airedDown p k d e q s) (by rw [haired]; exact hq)
  rw [haired] at hspent
  have hlnk : (launchedDown p k d e q s).lnk = _ := (only_bumpIf _ _ _).kept .lnk (by decide)
  rw [ctxGet_congr (congrArg LnkState.ctx hlnk), ctxGet_modDown (by rw [hspent]; exact hq), hspent]

theorem launched_launchedDown : Launched p k d e q s (launchedDown p k d e q s) := by
  have hlnk : (launchedDown p k d e q s).lnk = _ := (only_bumpIf _ _ _).kept .lnk (by decide)
  have haired : (airedDown p k d e q s).lnk = _ := goOnAir_lnk _ _
  have hrfc : (launchedDown p k d e q s).rfc = (airedDown p k d e q s).rfc := (only_bumpIf _ _ _).kept .rfc (by decide)
  have hpmu : (launchedDown p k d e q s).pmu = (airedDown p k d e q s).pmu := (only_bumpIf _ _ _).kept .pmu (by decide)
  have hcharged : (airedDown p k d e q s).pmu = (charge p (txCharge s q e.dur) (prepTaken s)).pmu := (Touches.only (touches_goOnAir _) _).kept .pmu (by decide)
  have hspent : (fcSpent k (airedDown p k d e q s)).lnk = { (airedDown p k d e q s).lnk with ctx := (fcSpent k (airedDown p k d e q s)).lnk.ctx } := rfl
  refine ⟨?_, ?_, hpmu.trans hcharged, by rw [hrfc]; exact goOnAir_seq _ _, ?_, fun j hj => ?_, ?_, ?_, ?_, fun hretry => ?_⟩
  · rw [hlnk, modDown_lnk, hspent, haired]
  · rw [hlnk, modDown_lnk, hspent, haired]
  · rw [hlnk, modDown_lnk, hspent, haired]
  · rw [ctxGet_congr (congrArg LnkState.ctx hlnk), ctxGet_modDown_other hj, fcSpent, ctxGet_ctxMod_other hj, ctxGet_airedDown]
  · rw [ctxGet_launchedDown hq]
  · rw [ctxGet_launchedDown hq]
  · rw [ctxGet_launchedDown hq]
  · have hretries : counted (pLnkTxRetries p) (modDown k d.handle (onAirDown (ctxGet s k).downFc (stWord (stNow s))) (fcSpent k (airedDown p k d e q s)))
        (launchedDown p k d e q s) := counted_bumpIf (decide_eq_true hretry) _ _
    have hblanked : ctrGet (airedDown p k d e q s) (pLnkTxRetries p) = ctrGet s (pLnkTxRetries p) :=
      ctrGet_goOnAir (reportFree_pol _ _) (fun g => polCounter_apart p g (by decide) (by decide) (by decide)) _ _
    exact counted_of_same hretries hblanked rfl

/-- A frame short of credit is held and counted as such, its preparation over. -/
theorem held_short : Held p k d s (bump (pLnkCreditHeld p) (holdDown p k d.handle (prepTaken s))) ∧
    counted (pLnkCreditHeld p) s (bump (pLnkCreditHeld p) (holdDown p k d.handle (prepTaken s))) ∧
    (bump (pLnkCreditHeld p) (holdDown p k d.handle (prepTaken s))).lnk.prep = none := by
  have hheld : Held p k d s (holdDown p k d.handle (prepTaken s)) := held_holdDown (s := prepTaken s) hq
  refine ⟨hheld.bumped (polCounter_ne (by decide) p), counted_of_same (counted_bump _ _) ?_ rfl, ?_⟩
  · exact ctrGet_bump_free (reportFree_pol _ _) (polCounter_ne (by decide) p) _
  · rw [bump_lnk, holdDown_eq, bump_lnk]
    rfl

end

/-- What becomes of a frame whose launch is due. -/
theorem launchDown_cases (hd : ((ctxGet s k).queue.find? fun x => x.handle == h) = some d) :
    (∀ e q, LaunchMay s p k h e q → creditOk s p (txCharge s q e.dur) = true → Launched p k d e q s (launchDown p k h s)) ∧
    (∀ e q, LaunchMay s p k h e q → creditOk s p (txCharge s q e.dur) = false →
      Held p k d s (launchDown p k h s) ∧ counted (pLnkCreditHeld p) s (launchDown p k h s) ∧ (launchDown p k h s).lnk.prep = none) ∧
    ((¬ ∃ e q, LaunchMay s p k h e q) → Held p k d s (launchDown p k h s)) := by
  have hq := queue_ne_nil_of_find hd
  have hh := handle_of_find hd
  refine ⟨fun e q hmay hpay => ?_, fun e q hmay hpay => ?_, fun hno => ?_⟩
  · rw [launchDown_goes hd hmay hpay]
    exact launched_launchedDown hq
  · rw [launchDown_short hd hmay hpay, ← hh]
    exact held_short hq
  · rcases launchDown_holds hd hno with hheld | hheld
    · rw [hheld, ← hh]
      exact held_holdDown hq
    · rw [hheld, ← hh]
      exact held_holdDown (s := prepTaken s) hq

/-! ### The launch entry fires (09_sky_time R241) -/

/-- The entry has fired: it is gone, and its completion is the newest of the polder's window. -/
def entryFired (p : Polder) (h : Nat) (x : SchedEntry) (s : State) : State := pushCompletion p (completionOf s x false) (dropEntry p h s)

theorem completionLeft_last (c : Completion) (w : SchedWindow) : (completionLeft c w).done.getLast? = some c := List.getLast?_concat

theorem entryFired_sky (p : Polder) (h : Nat) (x : SchedEntry) (s : State) : (entryFired p h x s).sky = { s.sky with
    entries := (dropEntry p h s).sky.entries, win := s.sky.win.set p (completionLeft (completionOf s x false) s.sky.win[p]) } :=
  pushCompletion_sky p (completionOf s x false) (dropEntry p h s)

theorem only_entryFired (p : Polder) (h : Nat) (x : SchedEntry) (s : State) : only [.sky, .obs, .pld, .ctr] s (entryFired p h x s) :=
  only_trans (only_mono (Touches.only (touches_dropEntry p h) s) (by decide)) (Touches.only (touches_pushCompletion p _) _)

/-- The completion counts in no counter of a polder. -/
theorem ctrGet_entryFired (g : Polder) (n : Nat) (x : SchedEntry) : ctrGet (entryFired p h x s) (polCounter g n) = ctrGet s (polCounter g n) := by
  have hne : polCounter g n ≠ cSkyComplSpill := by
    unfold polCounter cSkyComplSpill
    omega
  unfold entryFired pushCompletion
  dsimp only
  have hspill : ∀ (b : Prop) [Decidable b] (t : State), ctrGet (if b then bump cSkyComplSpill t else t) (polCounter g n) = ctrGet t (polCounter g n) := fun b _ t => by
    split
    · exact ctrGet_bump_free (reportFree_pol g n) hne t
    · rfl
  split
  · exact hspill _ _
  · exact hspill _ _

/-- A state after operations on four parts is the one before with these parts replaced. -/
theorem eq_of_only_sky {s t : State} (h : only [.sky, .obs, .pld, .ctr] s t) : t = { s with sky := t.sky, obs := t.obs, pld := t.pld, ctr := t.ctr } := by
  have hkept : ∀ x : Part, x ∉ [Part.sky, .obs, .pld, .ctr] → x.same s t := h.kept
  rw [State.mk.injEq]
  exact ⟨hkept .spt (by decide), hkept .ary (by decide), hkept .acq (by decide), hkept .trk (by decide), hkept .msr (by decide), hkept .sol (by decide),
    hkept .snf (by decide), rfl, hkept .lnk (by decide), hkept .rfc (by decide), hkept .aon (by decide), hkept .pmu (by decide), hkept .clk (by decide),
    hkept .boot (by decide), hkept .mode (by decide), hkept .hst (by decide), rfl, rfl, hkept .basin (by decide), rfl, hkept .fresh (by decide),
    hkept .pending (by decide)⟩

theorem entryFired_eta (p : Polder) (h : Nat) (x : SchedEntry) (s : State) : entryFired p h x s = { s with
    sky := { s.sky with entries := (dropEntry p h s).sky.entries, win := s.sky.win.set p (completionLeft (completionOf s x false) s.sky.win[p]) }
    obs := (entryFired p h x s).obs, pld := (entryFired p h x s).pld, ctr := (entryFired p h x s).ctr } := by
  rw [← entryFired_sky p h x s]
  exact eq_of_only_sky (only_entryFired p h x s)

/-- A launch asks and says nothing of the scheduler's entries and windows, of the polders and of the traces. -/
theorem launchMay_entryFired (x : SchedEntry) : LaunchMay (entryFired p h x s) p k h e q ↔ LaunchMay s p k h e q := by
  rw [entryFired_eta]
  exact Iff.rfl

theorem Launched.of_entryFired {x : SchedEntry} (hl : Launched p k d e q (entryFired p h x s) t) : Launched p k d e q s t := by
  have hctr : ctrGet (entryFired p h x s) (pLnkTxRetries p) = ctrGet s (pLnkTxRetries p) := ctrGet_entryFired p _ x
  obtain ⟨hair, hprep, hpmu, hseq, hrx, hothers, hfc, hstate, hqueue, hretries⟩ := hl
  have hcount : 0 < d.retries → counted (pLnkTxRetries p) s t := fun hr => counted_of_same (hretries hr) hctr rfl
  rw [entryFired_eta] at hair hpmu hseq hothers hfc hstate hqueue
  exact ⟨hair, hprep, hpmu, hseq, hrx, hothers, hfc, hstate, hqueue, hcount⟩

theorem Held.of_entryFired {x : SchedEntry} (hl : Held p k d (entryFired p h x s) t) : Held p k d s t := by
  have hctr : ctrGet (entryFired p h x s) (pLnkTxHeld p) = ctrGet s (pLnkTxHeld p) := ctrGet_entryFired p _ x
  obtain ⟨hair, hfc, hpmu, hcount, hqueue⟩ := hl
  have hheld : counted (pLnkTxHeld p) s t := counted_of_same hcount hctr rfl
  rw [entryFired_eta] at hair hfc hpmu hqueue
  exact ⟨hair, hfc, hpmu, hheld, hqueue⟩

section
variable {x : SchedEntry} (hx : (s.sky.entries.find? fun e => e.owner == p.val && e.kind == 0 && e.arg == h) = some x)
  (hdue : reached s (stOfWord x.st) = true)
include hx hdue

theorem exec_launch : exec (.launch p h) s = .next (launchDown p x.op h (entryFired p h x s)) := by
  show execLaunch p h s = _
  unfold execLaunch
  rw [hx]
  exact congrArg Host.Outcome.next (if_neg (not_lt.2 (of_decide_eq_true hdue)))

theorem completes_launch (hd : ((ctxGet s x.op).queue.find? fun d => d.handle == h) = some d) :
    (∀ e q, LaunchMay s p x.op h e q → creditOk s p (txCharge s q e.dur) = true → completes (.launch p h) s (Launched p x.op d e q s)) ∧
    (∀ e q, LaunchMay s p x.op h e q → creditOk s p (txCharge s q e.dur) = false →
      completes (.launch p h) s (fun t => Held p x.op d s t ∧ counted (pLnkCreditHeld p) s t ∧ t.lnk.prep = none)) ∧
    ((¬ ∃ e q, LaunchMay s p x.op h e q) → completes (.launch p h) s (Held p x.op d s)) ∧
    completes (.launch p h) s (fun t => (∀ e ∈ t.sky.entries, ¬ (e.owner = p.val ∧ e.kind = 0 ∧ e.arg = h)) ∧
      t.sky.win[p].done.getLast? = some (completionOf s x false)) := by
  have hexec := exec_launch hx hdue
  have hctr : ctrGet (entryFired p h x s) (pLnkCreditHeld p) = ctrGet s (pLnkCreditHeld p) := ctrGet_entryFired p _ x
  have hcredit : ∀ e : Emission, ∀ q, creditOk (entryFired p h x s) p (txCharge (entryFired p h x s) q e.dur) = creditOk s p (txCharge s q e.dur) := by
    intro e q
    rw [entryFired_eta]
    rfl
  have hfired : ((ctxGet (entryFired p h x s) x.op).queue.find? fun d => d.handle == h) = some d := by
    rw [entryFired_eta]
    exact hd
  obtain ⟨hgoes, hshort, hholds⟩ := launchDown_cases (p := p) hfired
  refine ⟨fun e q hmay hpay => ⟨_, hexec, ?_⟩, fun e q hmay hpay => ⟨_, hexec, ?_⟩, fun hno => ⟨_, hexec, ?_⟩, _, hexec, ?_⟩
  · exact (hgoes e q ((launchMay_entryFired x).2 hmay) ((hcredit e q).trans hpay)).of_entryFired
  · obtain ⟨hheld, hcount, hprep⟩ := hshort e q ((launchMay_entryFired x).2 hmay) ((hcredit e q).trans hpay)
    exact ⟨hheld.of_entryFired, counted_of_same hcount hctr rfl, hprep⟩
  · exact (hholds fun ⟨e, q, hmay⟩ => hno ⟨e, q, (launchMay_entryFired x).1 hmay⟩).of_entryFired
  · have hsky : (launchDown p x.op h (entryFired p h x s)).sky = (entryFired p h x s).sky := (Touches.only (touches_launchDown p x.op h) _).kept .sky (by decide)
    dsimp only
    rw [hsky, entryFired_sky]
    exact ⟨not_mem_dropEntry p h s, (congrArg (fun w : SchedWindow => w.done.getLast?) (Vector.getElem_set_self p.isLt)).trans (completionLeft_last _ _)⟩

end

/-! ### A waiting frame launches (10_tag_link R270, R271) -/

section
variable (ho : ctxOwner s k = some p) (hwait : waitingDown s k = some d) (hmay : LaunchMay s p k d.handle e q) (hdec : e.decided = true)
  (hdue : prepDue s e = true)
include ho hwait hmay hdec hdue

theorem launchWaiting_goes {w : FrameWait} (hw : d.wait = w) : launchWaiting k w s = launchDown p k d.handle s := by
  obtain ⟨hprep, hkind, -⟩ := hmay
  unfold launchWaiting
  rw [ho, hwait, hprep]
  exact if_pos ⟨hw, hkind, hdec, hdue⟩

theorem exec_retry (hw : d.wait = .retry) : exec (.retry k) s = .next (launchDown p k d.handle s) :=
  congrArg Host.Outcome.next (launchWaiting_goes ho hwait hmay hdec hdue hw)

theorem exec_relaunch (hw : d.wait = .held) : exec (.relaunch p k) s = .next (launchDown p k d.handle s) :=
  congrArg Host.Outcome.next ((if_pos ho).trans (launchWaiting_goes ho hwait hmay hdec hdue hw))

end

end Sys2Proof.Machine
end

section
/-!
SUPPORT. The end of an emission, the tag's acknowledgement and the beacon (10_tag_link R259, R263, R270, 11_radio_control R282, R293, 15_power R390).
-/

namespace Sys2Proof.Machine

variable {s t u : State} {p : Polder} {k h : Nat} {d : Downlink} {e : Emission}

/-! ### The end of an emission (11_radio_control R282, R293) -/

/-- The emission has left the air: its duty is charged, and the path returns to RX. -/
def airEnded (e : Emission) (s : State) : State := pathToRx (chargeDuty e e.dur { s with lnk := { s.lnk with air := none } })

/-- What every end of an emission leaves of the air, the duty account and the path. -/
def PathEnded (e : Emission) (s t : State) : Prop :=
  t.lnk.air = none ∧ t.rfc = { (chargeDuty e e.dur s).rfc with seq := .rx, req := false } ∧
    t.clk = { s.clk with lsynTx := false, lsynRxAt := t.clk.lsynRxAt } ∧ stNow s + 8 / 1000000 ≤ t.clk.lsynRxAt ∧ t.clk.lsynRxAt ≤ stNow s + 30 / 1000000

/-- The synthesizer locks again 8 to 30 µs after the path has returned (11_radio_control R293). -/
theorem relock_bounds (n : Nat) : (8 / 1000000 : Rat) ≤ ((8000 + n % 22001 : Nat) : Rat) / 1000000000 ∧
    ((8000 + n % 22001 : Nat) : Rat) / 1000000000 ≤ 30 / 1000000 := by
  have hlow : (8000 : Rat) ≤ ((8000 + n % 22001 : Nat) : Rat) := by exact_mod_cast Nat.le_add_right 8000 (n % 22001)
  have hhigh : ((8000 + n % 22001 : Nat) : Rat) ≤ 30000 := by exact_mod_cast (by omega : 8000 + n % 22001 ≤ 30000)
  constructor <;> linarith

theorem pathEnded_airEnded (e : Emission) (s : State) : PathEnded e s (airEnded e s) := by
  obtain ⟨hlow, hhigh⟩ := relock_bounds (Config.freeNat s.fresh)
  have hrelock : (airEnded e s).clk.lsynRxAt = stNow s + ((8000 + Config.freeNat s.fresh % 22001 : Nat) : Rat) / 1000000000 := rfl
  refine ⟨rfl, rfl, rfl, ?_, ?_⟩
  · rw [hrelock]; linarith
  · rw [hrelock]; linarith

/-- What moves neither the air nor the path keeps the end of the emission. -/
theorem PathEnded.kept (h : PathEnded e s u) (hair : t.lnk.air = u.lnk.air) (hrfc : t.rfc = u.rfc) (hclk : t.clk = u.clk) : PathEnded e s t := by
  unfold PathEnded
  rw [hair, hrfc, hclk]
  exact h

theorem ctxGet_airEnded (e : Emission) (s : State) (k : Nat) : ctxGet (airEnded e s) k = ctxGet s k := rfl

section
variable (hair : s.lnk.air = some e) (hend : reached s (e.t0 + e.dur) = true)
include hair hend

theorem exec_emissionEnd : exec .emissionEnd s = .next (match e.kind with
    | .launch p k h =>
      (match (ctxGet (airEnded e s) k).queue.find? fun d => d.handle == h with
      | none => airEnded e s
      | some d =>
        if d.ackReq then modDown k h (fun d => { d with wait := .ack, lastChip := e.t0 + e.dur }) (airEnded e s)
        else finishDown p k d 1 (airEnded e s))
    | .ack p ch => closeAck ch true (charge p (txCharge s (e.admitted.getD 0) e.dur) (airEnded e s))
    | .beacon => airEnded e s) := by
  show execEmissionEnd s = _
  unfold execEmissionEnd
  rw [hair]
  dsimp only
  rw [if_neg (by rw [hend]; decide)]
  rfl

section
variable (hk : e.kind = .launch p k h) (hd : ((ctxGet s k).queue.find? fun x => x.handle == h) = some d)
include hk hd

/-- A frame whose acknowledgement is asked awaits it. -/
theorem emissionEnd_awaits (hack : d.ackReq = true) : completes .emissionEnd s (fun t => PathEnded e s t ∧
    (ctxGet t k).queue = queueChanged h (fun x => { x with wait := .ack, lastChip := e.t0 + e.dur }) (ctxGet s k).queue) := by
  refine ⟨modDown k h (fun d => { d with wait := .ack, lastChip := e.t0 + e.dur }) (airEnded e s), ?_, ?_, ?_⟩
  · rw [exec_emissionEnd hair hend, hk]
    dsimp only
    rw [ctxGet_airEnded, hd]
    exact congrArg Host.Outcome.next (if_pos hack)
  · exact (pathEnded_airEnded e s).kept rfl rfl rfl
  · rw [ctxGet_modDown (by rw [ctxGet_airEnded]; exact queue_ne_nil_of_find hd)]
    rfl

/-- A frame that asks for none is finished as sent. -/
theorem emissionEnd_finishes (hw : ctxWf s) (hack : d.ackReq = false) : completes .emissionEnd s (fun t => PathEnded e s t ∧ Outcome p k d 1 s t) := by
  refine ⟨finishDown p k d 1 (airEnded e s), ?_, ?_, ?_⟩
  · rw [exec_emissionEnd hair hend, hk]
    dsimp only
    rw [ctxGet_airEnded, hd]
    exact congrArg Host.Outcome.next (if_neg (by rw [hack]; decide))
  · have honly := Touches.only (touches_finishDown p k d 1) (airEnded e s)
    exact (pathEnded_airEnded e s).kept (by rw [finishDown_lnk]) (honly.kept .rfc (by decide)) (honly.kept .clk (by decide))
  · exact (outcome_finishDown (s := airEnded e s) hw 1).from rfl rfl

end

/-- An acknowledgement that was sent is charged, and what it acknowledged is delivered. -/
theorem emissionEnd_delivers {ch : LinkChan} {a : PendingAck} (hk : e.kind = .ack p ch) (hdue : s.lnk.ackDue[ch] = some a) :
    completes .emissionEnd s (fun t => PathEnded e s t ∧ t.lnk.ackDue = s.lnk.ackDue.set ch none ∧
      t.pmu = (charge p (txCharge s (e.admitted.getD 0) e.dur) s).pmu ∧ ∀ r, a.record = some r → arrived a.polder { r with ack := true } s t) := by
  let u := ackTaken ch (charge p (txCharge s (e.admitted.getD 0) e.dur) (airEnded e s))
  have hside : PolderSide u (deliver a true u) := .of_deliver a true u
  refine ⟨deliver a true u, ?_, ?_, ?_, ?_, fun r hr => ?_⟩
  · rw [exec_emissionEnd hair hend, hk]
    exact congrArg Host.Outcome.next (closeAck_sent (s := charge p (txCharge s (e.admitted.getD 0) e.dur) (airEnded e s)) hdue)
  · exact (pathEnded_airEnded e s).kept hside.air (hside.frame.kept .rfc (by decide)) (hside.frame.kept .clk (by decide))
  · exact (deliver_queues a true u).1
  · exact hside.frame.kept .pmu (by decide)
  · exact arrived_of_same (arrived_deliver hr true u) rfl rfl

theorem emissionEnd_beacon (hk : e.kind = .beacon) : completes .emissionEnd s (PathEnded e s) :=
  ⟨airEnded e s, by rw [exec_emissionEnd hair hend, hk], pathEnded_airEnded e s⟩

end

/-! ### The tag's acknowledgement (10_tag_link R259, R270) -/

/-- Removing launch entries moves the scheduler only. -/
theorem only_dropEntries (p : Polder) (q : List Downlink) (s : State) : only [.sky] s (q.foldl (fun t d => dropEntry p d.handle t) s) :=
  foldl_relates (only_refl _) only_trans (fun t d => Touches.only (touches_dropEntry p d.handle) t) q s

/-- A context falls SILENT, its frames held. -/
def silenced (c : Ctx) : Ctx := { c with state := .silent, queue := c.queue.map fun d => { d with wait := .held } }

/-- The launch entries of a context's frames leave the scheduler. -/
def entriesDropped (p : Polder) (k : Nat) (s : State) : State := (ctxGet s k).queue.foldl (fun t d => dropEntry p d.handle t) s

/-- What the last time-out leaves: the frame finished without acknowledgement, the context SILENT. -/
def fallenSilent (p : Polder) (k : Nat) (d : Downlink) (s : State) : State :=
  bump (pLnkSilentEntries p) (ctxMod k silenced (entriesDropped p k (finishDown p k d 2 s)))

theorem only_entriesDropped (p : Polder) (k : Nat) (s : State) : only [.sky] s (entriesDropped p k s) := only_dropEntries p _ s

theorem ctxGet_fallenSilent (hw : ctxWf s) : ∃ l, ctxGet (fallenSilent p k d s) k =
    silenced { ctxGet s k with queue := (ctxGet s k).queue.filter (fun x => x.handle != d.handle), lost := l } := by
  obtain ⟨l, hl⟩ := ctxGet_finishDown (p := p) (k := k) (d := d) hw 2
  have hlnk : (entriesDropped p k (finishDown p k d 2 s)).lnk = (finishDown p k d 2 s).lnk := (only_entriesDropped p k _).kept .lnk (by decide)
  refine ⟨l, ?_⟩
  rw [fallenSilent, ctxGet_congr (congrArg LnkState.ctx (bump_lnk _ _)),
    ctxGet_ctxMod (.inl (ctxWf_congr (congrArg LnkState.ctx hlnk) (ctxWf_finishDown hw 2))), ctxGet_congr (congrArg LnkState.ctx hlnk), hl]

theorem counted_fallenSilent : counted (pLnkSilentEntries p) s (fallenSilent p k d s) := by
  refine counted_of_same (counted_bump _ (ctxMod k silenced (entriesDropped p k (finishDown p k d 2 s)))) ?_ rfl
  have hctr : (ctxMod k silenced (entriesDropped p k (finishDown p k d 2 s))).ctr = (finishDown p k d 2 s).ctr := (only_entriesDropped p k _).kept .ctr (by decide)
  exact (ctrGet_congr hctr _).trans (ctrGet_finishDown (reportFree_pol _ _) (polCounter_ne (by decide) p) 2)

theorem arrived_fallenSilent (p : Polder) (k : Nat) (d : Downlink) (s : State) : arrived p (outcomeRecord k d 2) s (fallenSilent p k d s) := by
  have harrived : arrived p (outcomeRecord k d 2) s (finishDown p k d 2 s) :=
    arrived_of_same (arrived_pushRx p (outcomeRecord k d 2) (dropEntry p d.handle (dropDown k d.handle s))) rfl rfl
  have hlnk : (entriesDropped p k (finishDown p k d 2 s)).lnk = (finishDown p k d 2 s).lnk := (only_entriesDropped p k _).kept .lnk (by decide)
  refine arrived_of_same harrived rfl ?_
  rw [fallenSilent, bump_lnk, ctxMod_lnk, hlnk]

section
variable (ho : ctxOwner s k = some p) (hd : ((ctxGet s k).queue.find? fun d => d.wait == .ack) = some d)
include ho hd

theorem exec_tagAck (body mic : BitVec 32) (us : Nat) : exec (.tagAck k body mic us) s =
    if 146 ≤ us ∧ us ≤ 154 ∧ getBits body.toNat 0 10 = k ∧ getBits body.toNat 10 16 = d.fc % 65536 ∧
      linkMic s 4 4 k d.fc (ctxGet s k).key [] (leBytes 4 body.toNat) = leBytes 4 mic.toNat then .next (finishDown p k d 0 s) else .next s := by
  show execTagAck k body mic us s = _
  unfold execTagAck
  rw [ho, hd]

section
variable (hlate : ackUntil s d ≤ stNow s)
include hlate

theorem exec_tagAckTimeout : exec (.tagAckTimeout k) s =
    if d.retries ≤ (ctxGet s k).retryMax then .next (modDown k d.handle (fun d => { d with wait := .retry }) s) else .next (fallenSilent p k d s) := by
  show execTagAckTimeout k s = _
  unfold execTagAckTimeout
  rw [ho, hd]
  exact if_neg (not_lt.2 hlate)

theorem tagAckTimeout_retries (hr : d.retries ≤ (ctxGet s k).retryMax) : completes (.tagAckTimeout k) s (fun t =>
    (ctxGet t k).state = (ctxGet s k).state ∧ (ctxGet t k).queue = queueChanged d.handle (fun x => { x with wait := .retry }) (ctxGet s k).queue) := by
  refine ⟨_, (exec_tagAckTimeout ho hd hlate).trans (if_pos hr), ?_⟩
  dsimp only
  rw [ctxGet_modDown (queue_ne_nil_of_find hd)]
  exact ⟨rfl, rfl⟩

theorem tagAckTimeout_silences (hw : ctxWf s) (hr : (ctxGet s k).retryMax < d.retries) : completes (.tagAckTimeout k) s (fun t =>
    counted (pLnkSilentEntries p) s t ∧ (ctxGet t k).state = .silent ∧
      (ctxGet t k).queue = (((ctxGet s k).queue.filter fun x => x.handle != d.handle).map fun x => { x with wait := .held }) ∧
      arrived p (outcomeRecord k d 2) s t) := by
  obtain ⟨l, hl⟩ := ctxGet_fallenSilent (p := p) (k := k) (d := d) hw
  exact ⟨_, (exec_tagAckTimeout ho hd hlate).trans (if_neg (not_le.2 hr)), counted_fallenSilent, by rw [hl]; rfl, by rw [hl]; rfl, arrived_fallenSilent p k d s⟩

end

end

/-! ### The beacon (10_tag_link R263, R264) -/

/-- 60 silent beacons make the gateway lone. -/
def loneNow (s : State) : Bool := s.lnk.lone || decide (60 ≤ s.lnk.quietBeacons)

/-- The gateway is lone where it has become so, and the entry is counted. -/
def loneNoted (s : State) : State := if 60 ≤ s.lnk.quietBeacons ∧ s.lnk.lone = false then bump cLnkLoneEntries { s with lnk := { s.lnk with lone := true } } else s

theorem loneNoted_eta (s : State) : loneNoted s = { s with lnk := { s.lnk with lone := loneNow s }, obs := (loneNoted s).obs, ctr := (loneNoted s).ctr } := by
  unfold loneNoted loneNow
  split
  · next h =>
    rw [bump_eta, h.2, decide_eq_true h.1]
    rfl
  · next h =>
    have hlone : (s.lnk.lone || decide (60 ≤ s.lnk.quietBeacons)) = s.lnk.lone := by
      cases hl : s.lnk.lone with
      | true => rfl
      | false => exact decide_eq_false fun hq => h ⟨hq, hl⟩
    rw [hlone]

theorem counted_loneNoted (h : loneNow s = true) (hl : s.lnk.lone = false) : counted cLnkLoneEntries s (loneNoted s) := by
  have hq : 60 ≤ s.lnk.quietBeacons := by
    rw [loneNow, hl, Bool.false_or] at h
    exact of_decide_eq_true h
  unfold loneNoted
  rw [if_pos ⟨hq, hl⟩]
  exact counted_from rfl (counted_bump cLnkLoneEntries { s with lnk := { s.lnk with lone := true } })

/-- Becoming lone counts in LONE_ENTRIES only. -/
theorem ctrGet_loneNoted_beacons (s : State) : ctrGet (loneNoted s) cLnkBeacons = ctrGet s cLnkBeacons := by
  unfold loneNoted
  split
  · exact ctrGet_bump_free (by unfold reportFree cLnkBeacons cHstOutSpillB cHstC0FoldsB; omega) (by decide) { s with lnk := { s.lnk with lone := true } }
  · rfl

/-- The period counts a gateway that is about to be lone as lone. -/
theorem beaconPeriod_loneNoted (s : State) : beaconPeriod (loneNoted s) = beaconPeriod s := by
  have hlone : (loneNow s = true ∨ 60 ≤ s.lnk.quietBeacons) ↔ (s.lnk.lone = true ∨ 60 ≤ s.lnk.quietBeacons) := by
    simp [loneNow]
  rw [loneNoted_eta]
  unfold beaconPeriod
  exact congrArg _ (if_congr hlone rfl rfl)

theorem beaconBody_loneNoted (s : State) (sec : Nat) : beaconBody (loneNoted s) sec = beaconBody s sec := by
  unfold beaconBody
  rw [beaconPeriod_loneNoted, loneNoted_eta]
  rfl

/-- The admitted beacon goes: at a whole second of its period, in a mode that sends it, with the transmitter free. -/
def BeaconGoes (s : State) (e : Emission) : Prop :=
  e.admitted ≠ none ∧ beaconMode s = true ∧ inhibited s = false ∧ linkTx s (stSec s) = true ∧ stSec s % beaconPeriod s = 0 ∧ s.lnk.air = none

theorem beaconGoes_loneNoted (s : State) (e : Emission) : BeaconGoes (loneNoted s) e ↔ BeaconGoes s e := by
  have hrest : beaconMode (loneNoted s) = beaconMode s ∧ inhibited (loneNoted s) = inhibited s ∧ linkTx (loneNoted s) (stSec (loneNoted s)) = linkTx s (stSec s) ∧
      stSec (loneNoted s) = stSec s ∧ (loneNoted s).lnk.air = s.lnk.air := by
    rw [loneNoted_eta]
    exact ⟨rfl, rfl, rfl, rfl, rfl⟩
  obtain ⟨hmode, hinh, htx, hsec, hair⟩ := hrest
  unfold BeaconGoes
  rw [hmode, hinh, htx, hsec, hair, beaconPeriod_loneNoted]

/-- What a beacon on air leaves. -/
def beaconAired (e : Emission) (s : State) : State :=
  let t := goOnAir { e with frame := beaconBody s (stSec s) } (bump cLnkBeacons s)
  { t with lnk := { t.lnk with alarmAcks := t.lnk.alarmAcks.drop 4, quietBeacons := t.lnk.quietBeacons + 1, dpdPending := cfgB s lnkCfgExtPa && cfgB s lnkCfgDpdEn } }

theorem beaconAired_lnk (e : Emission) (s : State) : (beaconAired e s).lnk = { s.lnk with
    rx := Vector.replicate 8 none, prep := none, air := some { e with frame := beaconBody s (stSec s) }, alarmAcks := s.lnk.alarmAcks.drop 4,
    quietBeacons := s.lnk.quietBeacons + 1, dpdPending := cfgB s lnkCfgExtPa && cfgB s lnkCfgDpdEn } := by
  unfold beaconAired
  dsimp only
  rw [goOnAir_lnk, bump_lnk]

theorem counted_beaconAired (e : Emission) (s : State) : counted cLnkBeacons s (beaconAired e s) := by
  refine counted_of_same (counted_bump cLnkBeacons s) rfl ?_
  exact ctrGet_goOnAir (by unfold reportFree cLnkBeacons cHstOutSpillB cHstC0FoldsB; omega) (fun q => by unfold pLnkRxBlanked polCounter cLnkBeacons; omega)
    { e with frame := beaconBody s (stSec s) } (bump cLnkBeacons s)

section
variable (hp : s.lnk.prep = some e) (hk : e.kind = .beacon) (hdue : prepDue s e = true)
include hp hk hdue

theorem exec_beaconLaunch : (BeaconGoes s e → exec .beaconLaunch s = .next (beaconAired e (loneNoted s))) ∧
    (¬ BeaconGoes s e → exec .beaconLaunch s = .next (prepDropped (loneNoted s))) := by
  have hprep : (loneNoted s).lnk.prep = some e := by rw [loneNoted_eta]; exact hp
  have hdue' : prepDue (loneNoted s) e = true := by rw [loneNoted_eta]; exact hdue
  have hgoes : (e.admitted.isNone ∨ beaconMode (loneNoted s) = false ∨ inhibited (loneNoted s) ∨ linkTx (loneNoted s) (stSec (loneNoted s)) = false ∨
      stSec (loneNoted s) % beaconPeriod (loneNoted s) ≠ 0 ∨ (loneNoted s).lnk.air.isSome) ↔ ¬ BeaconGoes s e := by
    rw [← beaconGoes_loneNoted]
    unfold BeaconGoes
    simp only [not_and_or, ne_eq, not_not, Bool.not_eq_true, Bool.not_eq_false, Option.isNone_iff_eq_none, Option.isSome_iff_ne_none]
  have hexec : exec .beaconLaunch s = if e.admitted.isNone ∨ beaconMode (loneNoted s) = false ∨ inhibited (loneNoted s) ∨
      linkTx (loneNoted s) (stSec (loneNoted s)) = false ∨ stSec (loneNoted s) % beaconPeriod (loneNoted s) ≠ 0 ∨ (loneNoted s).lnk.air.isSome
      then .next (prepDropped (loneNoted s)) else .next (beaconAired e (loneNoted s)) := by
    show execBeaconLaunch s = _
    unfold execBeaconLaunch
    dsimp only
    rw [show (if 60 ≤ s.lnk.quietBeacons ∧ s.lnk.lone = false then bump cLnkLoneEntries { s with lnk := { s.lnk with lone := true } } else s) = loneNoted s from rfl,
      hprep]
    dsimp only
    rw [if_neg (by simp [hk, hdue'])]
    rfl
  exact ⟨fun h => hexec.trans (if_neg fun hn => hgoes.1 hn h), fun h => hexec.trans (if_pos (hgoes.2 h))⟩

theorem beaconLaunch_goes (h : BeaconGoes s e) : completes .beaconLaunch s (fun t => t.lnk.air = some { e with frame := beaconBody s (stSec s) } ∧
    t.lnk.prep = none ∧ counted cLnkBeacons s t ∧ t.lnk.alarmAcks = s.lnk.alarmAcks.drop 4 ∧ t.lnk.quietBeacons = s.lnk.quietBeacons + 1 ∧
    t.lnk.lone = loneNow s ∧ t.lnk.dpdPending = (cfgB s lnkCfgExtPa && cfgB s lnkCfgDpdEn)) := by
  have hcount : counted cLnkBeacons s (beaconAired e (loneNoted s)) := counted_of_same (counted_beaconAired e (loneNoted s)) (ctrGet_loneNoted_beacons s) rfl
  have hbody : beaconBody (loneNoted s) (stSec (loneNoted s)) = beaconBody s (stSec s) := by
    rw [beaconBody_loneNoted, loneNoted_eta]
    rfl
  refine ⟨_, (exec_beaconLaunch hp hk hdue).1 h, ?_⟩
  dsimp only
  rw [beaconAired_lnk, hbody, loneNoted_eta]
  rw [loneNoted_eta] at hcount
  exact ⟨rfl, rfl, hcount, rfl, rfl, rfl, rfl⟩

theorem beaconLaunch_skips (h : ¬ BeaconGoes s e) : completes .beaconLaunch s (fun t => t.lnk = { s.lnk with prep := none, lone := loneNow s } ∧
    t.rfc = { s.rfc with req := false } ∧ (loneNow s = true → s.lnk.lone = false → counted cLnkLoneEntries s t)) := by
  have hcount : loneNow s = true → s.lnk.lone = false → counted cLnkLoneEntries s (prepDropped (loneNoted s)) := counted_loneNoted
  refine ⟨_, (exec_beaconLaunch hp hk hdue).2 h, ?_, ?_, hcount⟩
  · show { (loneNoted s).lnk with prep := none } = _
    rw [loneNoted_eta]
  · show { (loneNoted s).rfc with req := false } = _
    rw [loneNoted_eta]

end

end Sys2Proof.Machine
end

section
/-!
OBLIGATION. O45: a downlink launches when admitted and paid for, else it is held; its end, acknowledgement, retries and the beacon follow.
-/

namespace Sys2Proof.Machine

/-- Settles O45: a launch by its three cases (`launchDown_cases`), from the entry, a retry or a slot; the end of an emission by its kind; the tag's
acknowledgement and its time-out; the beacon. -/
theorem downlinksLaunchAndClose : Obligations.DownlinksLaunchAndClose := by
  unfold Obligations.DownlinksLaunchAndClose
  intro may held launched outcome
  refine ⟨?_, ?_, ?_, ?_, ?_⟩
  · intro s p h x d hx hdue hd
    exact completes_launch hx hdue hd
  · intro s p ctx d e q ho hwait hmay hdec hdue hd hpay
    have hgoes : Launched p ctx d e q s (launchDown p ctx d.handle s) := (launchDown_cases hd).1 e q hmay hpay
    exact ⟨fun hw => ⟨_, exec_retry ho hwait hmay hdec hdue hw, hgoes⟩, fun hw => ⟨_, exec_relaunch ho hwait hmay hdec hdue hw, hgoes⟩⟩
  · intro s e hair hend path
    refine ⟨fun p ctx h d hk hd => ⟨fun hack => emissionEnd_awaits hair hend hk hd hack, fun hw hack =>
      emissionEnd_finishes hair hend hk hd (ctxWf_of_memWf hw) hack⟩, fun p ch a hk hdue => emissionEnd_delivers hair hend hk hdue, fun hk =>
      emissionEnd_beacon hair hend hk⟩
  · intro s p ctx d hw ho hd
    have hwf : ctxWf s := ctxWf_of_memWf hw
    refine ⟨fun body mic us => ?_, fun hlate hr => tagAckTimeout_retries ho hd hlate hr, fun hlate hr => tagAckTimeout_silences ho hd hlate hwf hr⟩
    exact ⟨fun hgood => ⟨_, (exec_tagAck ho hd body mic us).trans (if_pos hgood), outcome_finishDown hwf 0⟩, fun hbad =>
      ⟨_, (exec_tagAck ho hd body mic us).trans (if_neg hbad), rfl⟩⟩
  · intro s e hp hk hdue
    exact ⟨beaconLaunch_goes hp hk hdue, beaconLaunch_skips hp hk hdue⟩

end Sys2Proof.Machine
end
